-- ==== Sys2Proof/Word.lean ====
section
/-! DEFINITION. The word types of the OZ8 manual (R5, R6, R7, R9, R123, R251, R253) and the sparse table that
holds every indexed piece of state. -/
namespace Sys2Proof

/-- A register, a Stand Address, a status word: 64 bits (R9, R16, R34). -/
abbrev Word := BitVec 64
abbrev Byte := BitVec 8
/-- A line: 64 bytes, byte i in bits 8i+7:8i (R6, R7). -/
abbrev Line := BitVec 512
/-- One write-enable bit per byte of a line. -/
abbrev Mask := BitVec 64
/-- A tenant ID (8 bits; 0 is management). -/
abbrev Tenant := BitVec 8
/-- A device number: z in 8:6, y in 5:3, x in 2:0 (R29). -/
abbrev DevNo := BitVec 9
/-- A wale number (R251). -/
abbrev Wale := BitVec 48
/-- An offset of the 16 MiB register space (R9). -/
abbrev RegOff := BitVec 24
/-- A RISC-V integer register number. -/
abbrev XReg := BitVec 5

/-- A sparse table: keys strictly rising; a key that is absent reads as the table's default. -/
abbrev Table (α : Type) := List (Nat × α)

namespace Table
variable {α : Type}

/-- The entry at key `k`, or `d`. -/
def get : Table α → Nat → α → α
  | [], _, d => d
  | (k', v) :: r, k, d => if k' = k then v else get r k d

/-- Put `v` at key `k`, keeping the keys rising. -/
def put : Table α → Nat → α → Table α
  | [], k, v => [(k, v)]
  | (k', v') :: r, k, v =>
    if k < k' then (k, v) :: (k', v') :: r
    else if k = k' then (k, v) :: r
    else (k', v') :: put r k v

/-- Drop key `k`. -/
def del : Table α → Nat → Table α
  | [], _ => []
  | (k', v) :: r, k => if k' = k then del r k else (k', v) :: del r k

/-- Write `v` at `k` in a table whose unlisted keys read as `d`; the canonical form lists no default. -/
def set [DecidableEq α] (t : Table α) (k : Nat) (v d : α) : Table α :=
  if v = d then del t k else put t k v

/-- The keys rise strictly from `lo` on, and no entry equals the default. -/
def wfFrom [DecidableEq α] (d : α) : Nat → Table α → Bool
  | _, [] => true
  | lo, (k, v) :: r => decide (lo ≤ k) && decide (v ≠ d) && wfFrom d (k + 1) r

/-- The canonical form. -/
def wf [DecidableEq α] (t : Table α) (d : α) : Bool := wfFrom d 0 t

end Table

/-- Bytes by address, in Host.Cell's form; an unlisted address reads as zero. -/
abbrev Mem := List (Nat × Byte)

namespace Mem

/-- The byte at `a`. -/
def byte (m : Mem) (a : Nat) : Byte := Table.get m a 0

/-- Write one byte, keeping the canonical form. -/
def setByte (m : Mem) (a : Nat) (v : Byte) : Mem := Table.set m a v 0

/-- The canonical form: addresses strictly rising, no entry equal to zero. -/
def wf (m : Mem) : Bool := Table.wf m (0 : Byte)

/-- `n` bytes from `a`. -/
def bytes (m : Mem) (a : Nat) : Nat → List Byte
  | 0 => []
  | n + 1 => m.byte a :: bytes m (a + 1) n

/-- Write consecutive bytes from `a`. -/
def setBytes (m : Mem) (a : Nat) : List Byte → Mem
  | [] => m
  | b :: bs => setBytes (m.setByte a b) (a + 1) bs

/-- The entries of [lo, hi), shifted down to 0. -/
def slice (m : Mem) (lo hi : Nat) : Mem :=
  (m.filter fun e => decide (lo ≤ e.1) && decide (e.1 < hi)).map fun e => (e.1 - lo, e.2)

/-- The memory without the entries of [lo, hi): it reads as zero there. -/
def clear (m : Mem) (lo hi : Nat) : Mem :=
  m.filter fun e => !(decide (lo ≤ e.1) && decide (e.1 < hi))

/-- Copy every entry of `p` to `lo` upward. -/
def paste (m : Mem) (lo : Nat) (p : Mem) : Mem :=
  p.foldl (fun acc e => acc.setByte (lo + e.1) e.2) m

end Mem

/-- Little-endian value of a byte list (R6). -/
def leNat : List Byte → Nat
  | [] => 0
  | b :: bs => b.toNat + 256 * leNat bs

/-- The low `n` bytes of a number, little-endian (R6). -/
def leBytes : Nat → Nat → List Byte
  | 0, _ => []
  | n + 1, v => BitVec.ofNat 8 v :: leBytes n (v / 256)

/-- The line at byte address `a` (R7). -/
def Mem.line (m : Mem) (a : Nat) : Line := BitVec.ofNat 512 (leNat (m.bytes a 64))

/-- Write the bytes of a line that the mask enables. -/
def Mem.setLine (m : Mem) (a : Nat) (d : Line) (mask : Mask) : Mem :=
  (List.range 64).foldl
    (fun acc i => if mask.getLsbD i then acc.setByte (a + i) (d.extractLsb' (8 * i) 8) else acc) m

/-- The 8-byte word at byte address `a`. -/
def Mem.word (m : Mem) (a : Nat) : Word := BitVec.ofNat 64 (leNat (m.bytes a 8))

/-- Write the 8-byte word at `a`. -/
def Mem.setWord (m : Mem) (a : Nat) (v : Word) : Mem := m.setBytes a (leBytes 8 v.toNat)

/-- Bits `lo` to `lo + n - 1` of a word, as a number. -/
def fieldOf (w : Word) (lo n : Nat) : Nat := (w.toNat >>> lo) % 2 ^ n

/-- Bits `lo` to `lo + n - 1` of a line, as a number. -/
def lineField (l : Line) (lo n : Nat) : Nat := (l.toNat >>> lo) % 2 ^ n

/-- The low `n` entries of a bit mask, as a list of the positions set. -/
def bitsSet (n m : Nat) : List Nat := (List.range n).filter fun i => m.testBit i

/-- A number from pieces `(low bit, value)`. -/
def pack : List (Nat × Nat) → Nat
  | [] => 0
  | (lo, v) :: r => v * 2 ^ lo + pack r

end Sys2Proof
end

