-- ==== Sys2Proof/Machine/Records.lean ====
section
/-! DEFINITION. The records the manual lays out and the commands carry: status codes, packets and messages, map
records, the records of a Weave image, and the facts an event brings from outside the block (what a check of bytes,
a signature, a sensor or a partner found). -/
namespace Sys2Proof.Machine

/-- Status codes (R19). -/
inductive Code where
  | done | short | retry | revoked | stale | poison | dead | denied | quota | crust | absent | malformed | late | aborted
  deriving DecidableEq, Repr, Inhabited

/-- The code's number (R19). -/
def Code.num : Code → Nat
  | .done => 0 | .short => 1 | .retry => 2 | .revoked => 3 | .stale => 4 | .poison => 5 | .dead => 6 | .denied => 7
  | .quota => 8 | .crust => 9 | .absent => 10 | .malformed => 11 | .late => 12 | .aborted => 13

/-- The code a number names; a number that is not recognised is treated as ABORTED (R20). -/
def Code.ofNum : Nat → Code
  | 0 => .done | 1 => .short | 2 => .retry | 3 => .revoked | 4 => .stale | 5 => .poison | 6 => .dead | 7 => .denied
  | 8 => .quota | 9 => .crust | 10 => .absent | 11 => .malformed | 12 => .late | _ => .aborted

/-- The live tiers (R49); T2 is named where it is meant. -/
inductive Tier where
  | t0 | t1
  deriving DecidableEq, Repr, Inhabited

/-- Why a copy's fill or a refetch source fails (R67, R105, R621): an uncorrectable error, a PAYLOAD_CRC mismatch, an
inline check, or a source that answers DEAD or is lost. -/
inductive FillFail where
  | ue | crcMismatch | inline | gone
  deriving DecidableEq, Repr

/-- The receiver's verdict on a flit or its group (R423): in order (with the number of codewords corrected on the way),
CRC failure, uncorrectable codeword, tag failure. -/
inductive FlitCheck where
  | ok (corrected : Nat) | crc | codeword | tag
  deriving DecidableEq, Repr

/-- What the verification of a partner's certificate chain finds (R430, R637). -/
structure CertFacts where
  chainOk : Bool
  revoked : Bool
  device : DevNo
  accelerator : Bool
  /-- certificates in the chain -/
  certs : Nat
  deriving DecidableEq, Repr

/-- A flow (R452): its source, class, and destination device or multicast group. -/
structure FlowId where
  src : DevNo
  cls : Nat
  dst : Nat
  mcast : Bool
  deriving DecidableEq, Repr

/-- Packet kinds (R437). -/
inductive PacketKind where
  | load | store | atomic | cellPut | fence | msg | reply | fenceDone | delivered | probe | probeReply | waking
  | reserved (n : Nat)
  deriving DecidableEq, Repr

/-- WALE_LO, CELL, CHANNEL and TICKET of a packet with SCHED set (R436). -/
structure WorkId where
  waleLo : BitVec 32
  cell : Nat
  channel : BitVec 3
  ticket : BitVec 16
  deriving DecidableEq, Repr

/-- The parts of one round of a query, as a home sends them (R391): home device and context, tenant, the query line's
fields, the round, the home's progress period, the query block's lines, the shards asked. -/
structure QueryParts where
  home : DevNo
  q : Nat
  tenant : Tenant
  corpus : Nat
  k : Nat
  nprobe : Nat
  rerank : Nat
  ef : Nat
  round : Nat
  periodUs : Nat
  block : List Line
  shards : List Nat
  deriving DecidableEq, Repr

/-- A part's answer (R378): the shard's device, code, results as (vector ID, distance), rows tested, eligible rows,
exhausted. -/
structure PartAnswer where
  src : DevNo
  code : Code
  results : List (Word × Int)
  scanned : Nat
  matched : Nat
  exhausted : Bool
  deriving DecidableEq, Repr

/-- A schedule message (R256). -/
structure SchedMsg where
  kind : Nat
  epoch : BitVec 8
  cause : Nat
  device : DevNo
  count : Nat
  wale : Wale
  time : Word
  lenUs : Nat
  deriving DecidableEq, Repr

/-- The copy a host read asks for (R500). -/
inductive CopyAsk where
  | none | shared | exclusive
  deriving DecidableEq, Repr

/-- A holder of host copies: a device and a binding (R499). -/
structure Holder where
  dev : DevNo
  binding : Nat
  deriving DecidableEq, Repr

/-- The two IDE streams of the host port (R521). -/
inductive IdeStream where
  | io | mem
  deriving DecidableEq, Repr

/-- The three ordering codes (R1). -/
inductive OrderCode where
  | oz880 | oz440 | oz220
  deriving DecidableEq, Repr

/-- Entry states (R126). -/
inductive EState where
  | valid | revoking
  deriving DecidableEq, Repr

/-- An extent entry (R126); INVALID entries are not listed. `tgran` is TGRAN (the tenant address over 2^25). -/
structure Extent where
  state : EState
  size1G : Bool
  rd : Bool
  wr : Bool
  at_ : Bool
  mover : Bool
  host : Bool
  tenant : Tenant
  tgran : Nat
  stand : Word
  deriving DecidableEq, Repr

/-- MODE of a home record (R130). -/
inductive HomeMode where
  | none | priv | commons
  deriving DecidableEq, Repr

/-- A home record (R130). -/
structure HomeRec where
  owner : Tenant
  mode : HomeMode
  deriving DecidableEq, Repr

/-- One layer entry of a die's layer table (R87). -/
structure LayerEntry where
  src : Nat
  blocks : Nat
  packed : Bool
  mcast : Bool
  moe : Bool
  mcastGroup : Nat
  cellMask : Nat
  sramOffset : Nat
  sramBytes : Nat
  flagIndex : Nat
  deriving DecidableEq, Repr

/-- A kernel table entry (R209). -/
structure Kernel where
  id : Nat
  priv : Bool
  anyTenant : Bool
  tenant : Tenant
  codeOffset : Nat
  codeBytes : Nat
  entry : Nat
  stackBytes : Nat
  dataBytes : Nat
  deriving DecidableEq, Repr

/-- A logged atomic of scheduled work (R242). -/
structure AtomLog where
  src : DevNo
  waleLo : BitVec 32
  cell : Nat
  channel : BitVec 3
  ticket : BitVec 16
  old : Word
  deriving DecidableEq, Repr

/-- Step kinds (R267). -/
inductive StepKind where
  | done | kernel | stream | service | search
  deriving DecidableEq, Repr

/-- A step descriptor (R267). -/
structure Step where
  kind : StepKind
  die : Nat
  kernel : Nat
  cellMask : Nat
  startNs : Nat
  argIndex : Nat
  argSram : Nat
  group : Nat
  rank : Nat
  size : Nat
  len : Nat
  deriving DecidableEq, Repr

/-- A template (R265) with its argument blocks. -/
structure Template where
  id : Nat
  track : Nat
  steps : List Step
  args : List Line
  minWaleUs : Nat
  shareT0 : Nat
  shareT1 : Nat
  shareT2 : Nat
  shareLink : List Nat
  deriving DecidableEq, Repr

/-- A track record (R264). -/
structure TrackRec where
  track : Nat
  tenant : Tenant
  origin : Wale
  cycle : List Nat
  deriving DecidableEq, Repr

/-- Request context states (R319). -/
inductive CtxState where
  | free | prefill | decode | stalled | ending | resuming
  deriving DecidableEq, Repr

/-- A request context (R319, R320); the ring devices that are not the owner hold one too, as the peer's share. -/
structure Ctx where
  state : CtxState
  tenant : Tenant
  model : Nat
  cls : Nat
  ringSlot : Nat
  /-- this device acts for it as the adopter of its owner (R553) -/
  resumed : Bool
  /-- an adopter acted for it, and its owner has it back (R562): its records go on to carry RESUMED 1 -/
  wasResumed : Bool := false
  index : Nat
  owner : DevNo
  requestId : Word
  seed : Word
  prompt : List (BitVec 32)
  /-- tenant address of the prompt; 0 in a peer's share -/
  promptAddr : Nat
  /-- prompt tokens processed so far -/
  promptDone : Nat
  maxNew : Nat
  kvAddr : Nat
  /-- tokens in the KV region -/
  pos : Nat
  bound : Nat
  last : BitVec 32
  emit : Nat
  topK : Nat
  topP : Nat
  temp : Nat
  greedy : Bool
  stop : BitVec 32
  keep : Bool
  stamp : Word
  deadlineUs : Nat
  admitWale : Wale
  order : Nat
  /-- sampled tokens no record holds yet, oldest first (R341) -/
  pendingTok : List (BitVec 32)
  /-- every token sampled, oldest first, and the free value its logits hang on (R334) -/
  sampled : List (BitVec 32)
  salt : Nat
  /-- the state a STALLED context returns to -/
  stalledFrom : CtxState
  /-- the decided end: code and DETAIL (R320) -/
  ending : Option (Code × Nat)
  ended : Bool
  /-- tokens below this index were delivered before a failover and are not delivered again (R342, R553) -/
  suppress : Nat
  resv : Option Nat
  /-- segments of the KV region sealed so far (R330) -/
  sealedSegs : Nat
  deriving DecidableEq, Repr

/-- A corpus record (R357): group, dimension and shard list beyond SRCH_CORPUS. -/
structure Corpus where
  tenant : Tenant
  shared : Bool
  group : Nat
  dim : Nat
  shards : List (DevNo × Nat)
  deriving DecidableEq, Repr

/-- A reservation message of the service (R315): RESERVE, from the owner of a ring candidate. -/
structure ReserveMsg where
  owner : DevNo
  tenant : Tenant
  request : Word
  model : Nat
  cls : Nat
  resumed : Bool
  index : Nat
  bound : Nat
  kvAddr : Nat
  promptTokens : Nat
  ringSlot : Nat
  keep : Bool
  /-- tokens already in the KV region (ATTACH) -/
  kvTokens : Nat
  /-- what every device's slot table shows of the sampling (R323, R327) -/
  greedy : Bool
  temp : Nat
  topK : Nat
  topP : Nat
  deriving DecidableEq, Repr

/-- A map record (R535). -/
structure MapRec where
  kind : Nat
  state : Nat
  rehearsal : Bool
  holder : DevNo
  taker : DevNo
  tenant : Tenant
  key : Word
  epoch : BitVec 32
  origin : DevNo
  count : Nat
  commitWale : Wale
  deriving DecidableEq, Repr

/-- One item of a mirror transfer (R545). -/
inductive MirrorItem where
  /-- KV appends, and stores to mirrored granules: the lines from a STORE offset -/
  | lines (off : Nat) (data : List Line) (mask : Mask)
  /-- a completion record before it is written: tenant, SEQ, tenant address of its slot, its lines -/
  | record (tenant : Tenant) (seq : Nat) (addr : Nat) (data : List Line)
  /-- a tenant's completion ring: base, entries, SEQ produced so far -/
  | ring (tenant : Tenant) (base entries produced : Nat)
  /-- a request context -/
  | ctx (n : Nat) (c : Ctx)
  | extents (es : List Extent)
  | homes (hs : List (Nat × HomeRec))
  | atoms (l : List AtomLog)
  /-- the transfers of the wale are complete (step 8 of R271) -/
  | boundary (wale : Wale)
  deriving DecidableEq, Repr

/-- What a MSG packet carries (R437), by the chapter that lays it out. -/
inductive Msg where
  | sched (m : SchedMsg)
  | reserve (m : ReserveMsg)
  | grant (tenant : Tenant) (request : Word) (code : Code)
  | commit (tenant : Tenant) (request : Word) (tokens : List (BitVec 32))
  | reserveCancel (tenant : Tenant) (request : Word)
  | relay (m : QueryParts)
  | part (m : QueryParts)
  | partAck (q shard : Nat)
  | partProgress (q shard : Nat)
  | partCancel (q shard : Nat)
  | partAnswer (q shard : Nat) (a : PartAnswer)
  | answerAck (q shard : Nat)
  | recall (binding : Nat) (sa : Word) (range : Option Nat)
  | recallAck (holder : Holder) (sa : Word) (dirty : Option Line)
  | fenced (holder : Holder)
  | homeop (tenant : Tenant) (binding line : Nat) (sa staging : Word) (req : Line)
  | homeopReply (binding line : Nat) (code : Code) (detail : Nat) (result : Option Word)
  | beat (dev : DevNo)
  | beatAck
  | propose (op : Nat) (r : MapRec)
  | vote (r : MapRec)
  | stored (r : MapRec)
  | notice (r : MapRec)
  | mapQuery (kind : Nat) (key : Word)
  | mapAnswer (r : Option MapRec)
  | mirror (epoch : BitVec 32) (item : MirrorItem)
  | mirrorAck
  | join (digest : Word) (crust : Bool)
  | joinAck (wale : Wale) (time : Word)
  | refuse
  | reloadReady (id : Word)
  | reloadGo (id : Word) (wale : Wale)
  | reloadAbandon (id : Word)
  | asleep (dev : DevNo) (wale : Wale)
  | awake (dev : DevNo) (wale : Wale)
  | wake (dev : DevNo)
  /-- class 3 transfers between devices: a lease's state (R541), a repair's tables (R562), a keeper copy (R538) -/
  | state (what : Nat) (key : Word)
  deriving DecidableEq, Repr

/-- A packet (R436, R437) with its payload: lines under a byte mask, the atomic's operation and operands, a REPLY's
code, a FENCE's number, the entries of a DELIVERED, or a message. `copy` names the host binding and the copy that a
coherent request asks for (R499, R500). -/
structure Packet where
  kind : PacketKind
  cls : Nat
  vl : Bool
  mcast : Bool
  posted : Bool
  resent : Bool
  stomp : Bool
  src : DevNo
  hops : Nat
  dst : Nat
  tenant : Tenant
  lines : Nat
  addr : Word
  flowSeq : BitVec 16
  tag : BitVec 16
  mlen : Nat
  uni : Option DevNo
  work : Option WorkId
  data : List Line
  mask : Mask
  atop : Nat
  operand : Word
  compare : Word
  code : Code
  fenced : BitVec 16
  entries : List (FlowId × BitVec 16)
  copy : Option (Nat × CopyAsk)
  msg : Option Msg
  deriving DecidableEq, Repr

/-- Who issued an access to a line of this home and is answered when it takes effect. -/
inductive Who where
  /-- an engine of this device acting for a tenant (rows STORE_READ and STORE_WRITE) -/
  | engine
  /-- a request packet, answered with a REPLY (R458) -/
  | fabric (p : Packet)
  /-- a host access through a binding at a DPA (R492), asking for a copy -/
  | host (binding : Nat) (dpa : Nat) (ask : CopyAsk)
  /-- a mover descriptor of a cell, by channel (R206) -/
  | mover (cell channel : Nat)
  /-- a home query that writes its result buffer (R396) -/
  | query (q : Nat)
  /-- an ATOM of a home-operation line (R497) -/
  | homeop (binding line : Nat)
  /-- the device's own service blocks: no answer is sent -/
  | device
  deriving DecidableEq, Repr

/-- What an access does at the home of its lines. -/
inductive AccKind where
  | load (lines : Nat)
  | store (data : List Line) (mask : Mask)
  | atom (op : Nat) (operand compare : Word)
  deriving DecidableEq, Repr

/-- An access: issuer, tenant (R37), STORE offset of its first line (of the 8 bytes, for an atomic), what it does, and
the reservation its allocations draw on (R99). -/
structure Access where
  who : Who
  tenant : Tenant
  off : Nat
  kind : AccKind
  resv : Option Nat
  /-- it runs on one of its requester's reserved tracker entries (R506) -/
  reserved : Bool := false
  /-- it runs again after a wait, in its place in the order of arrival -/
  rerun : Bool := false
  deriving DecidableEq, Repr

/-- A coherent request that was answered RETRY and comes again on a reserved tracker entry (R506). -/
abbrev CohReq := Access

/-- How a fill record ends (R142, R143): every block held, or the failure of one of them. -/
inductive FillOutcome where
  | held | poison | dead | quota
  deriving DecidableEq, Repr

/-- What the silicon's own timing settles at a wale boundary: the stand time at which the device's boundary sequence has ended
(R273). -/
structure BoundaryFacts where
  ended : Word
  deriving DecidableEq, Repr

/-! ### The records of a Weave image (R592 to R600) -/

/-- A STAND record. -/
structure StandRec where
  waleUs : Nat
  timeSource : DevNo
  backups : List DevNo
  timeGroup : Nat
  rings : Nat
  deriving DecidableEq, Repr

/-- A RING record: ring 8z + y and its keepers' x. -/
structure RingRec where
  ring : Nat
  keepers : List Nat
  deriving DecidableEq, Repr

/-- A DEVICE record. -/
structure DeviceRec where
  device : DevNo
  code : Nat
  pool : Bool
  ctxLimit : Nat
  storeSize : Nat
  mirrorFrames : Nat
  deriving DecidableEq, Repr

/-- A DRIVE record. -/
structure DriveRec where
  port : Nat
  slot : Nat
  serial : Nat
  deriving DecidableEq, Repr

/-- A PORT record. -/
structure PortRec where
  port : Nat
  enable : Bool
  keepaliveOk : Bool
  minWidth : Bool
  client : Bool
  partner : DevNo
  partnerPort : Nat
  clientTenant : Tenant
  cut : Nat
  deriving DecidableEq, Repr

/-- A ROUTE record: its VALID candidates as (port, rank). -/
structure RouteRec where
  dest : DevNo
  cands : List (Nat × Nat)
  deriving DecidableEq, Repr

/-- A GROUP record, with the members the group has over the whole stand. -/
structure GroupRec where
  group : Nat
  source : DevNo
  outPorts : Nat
  member : Bool
  members : List DevNo
  deriving DecidableEq, Repr

/-- A TENANT record. -/
structure TenantRec where
  tenant : Tenant
  weight : Nat
  apertureLines : Nat
  resvLimit : Word
  cells : Nat
  layout : Nat
  deriving DecidableEq, Repr

/-- A KERNEL record: its entry and its code. -/
structure KernelRec where
  entry : Kernel
  code : List Byte
  deriving DecidableEq, Repr

/-- A MODEL record with the LAYER records that follow it, by Frond die. -/
structure ModelRec where
  model : Nat
  tenant : Tenant
  window : Nat
  lead : Nat
  word : Word
  kv : Word
  tok : Word
  replica : Word
  layers : List (Nat × LayerEntry)
  deriving DecidableEq, Repr

/-- A rehearsal policy (R558) of a ring. -/
structure Policy where
  ring : Nat
  kinds : Nat
  period : Nat
  origin : Wale
  dayStart : Nat
  dayEnd : Nat
  deriving DecidableEq, Repr

/-- A Weave image as this device takes it (R592 to R598): header, and the records of every section it takes, its
predecessor's TRACKS, KERNELS and MODELS apart (R595). -/
structure WeaveImage where
  partialKind : Bool
  rollback : Nat
  standId : Word
  imageId : Word
  baseId : Word
  effective : Wale
  tenant : Tenant
  standDigest : Word
  stand : StandRec
  keepers : List RingRec
  device : DeviceRec
  drives : List DriveRec
  mirrors : List (Nat × Nat)
  classes : List (Nat × Word)
  cals : List (Nat × Word)
  ports : List PortRec
  routes : List RouteRec
  groups : List GroupRec
  tenants : List TenantRec
  bindings : List (Nat × Word)
  ideRequired : Bool
  extents : List Extent
  homes : List (Nat × HomeRec)
  tracks : List TrackRec
  templates : List Template
  kernels : List KernelRec
  models : List ModelRec
  corpora : List (Nat × Corpus)
  policies : List Policy
  revoked : List Nat
  /-- the devices that take a section of a tenant, by the directory (R595, R607) -/
  takers : List (Tenant × DevNo)
  predTracks : List TrackRec
  predTemplates : List Template
  predKernels : List KernelRec
  predModels : List ModelRec
  deriving DecidableEq, Repr

/-- An image in a slot or at WEAVE_ARG: what it holds, and the first failing check of those that need its bytes (check
number of R601, directory index, byte offset). -/
structure ImageFacts where
  img : WeaveImage
  bad : Option (Nat × Nat × Nat)
  deriving DecidableEq, Repr

/-! ### Facts of a start, of power, of management -/

/-- A firmware slot as Slath finds it (R634). -/
structure FwFacts where
  sigOk : Bool
  rollback : Nat
  version : Nat
  deriving DecidableEq, Repr

/-- What a start finds (R578 to R582): the identity unwraps, the firmware slots, the two Weave slots' byte checks,
whether each T0 stack and T1 channel trained, the temperatures. -/
structure StartFacts where
  identityOk : Bool
  fw0 : FwFacts
  fw1 : FwFacts
  slotA : Option ImageFacts
  slotB : Option ImageFacts
  t0Ok : Bool
  t1Ok : Bool
  deriving DecidableEq, Repr

/-- A drive that reports ready (R82, R585): where it sits, its serial, mapped sectors, and the catalogue entries (by
SEQ) whose ENTRY_CRC fails. -/
structure DriveFacts where
  port : Nat
  slot : Nat
  serial : Nat
  sectors : Nat
  badEntries : List Nat
  deriving DecidableEq, Repr

/-- Management transports (R687). -/
inductive Transport where
  | i3c | cxl
  deriving DecidableEq, Repr

/-- A certificate chain as SET_CERTIFICATE checks it (R628, R630): whether it verifies, its root, its leaf's STAND_ID
and device number, the root key's ID for SEC_OWNER_ID. -/
structure ChainFacts where
  ok : Bool
  certs : Nat
  root : Nat
  standId : Word
  device : DevNo
  rootId : Word
  deriving DecidableEq, Repr

/-- Wake causes (R666). -/
inductive WakeCause where
  | lane | hostLink | wakeN | command | plannedStep | register
  deriving DecidableEq, Repr

/-- Die kinds (R23). -/
inductive DieKind where
  | frond | rand | sorus
  deriving DecidableEq, Repr

/-- Filtered input pins (R674). -/
inductive Pin where
  | wake | perst | therm
  deriving DecidableEq, Repr

end Sys2Proof.Machine
end

