-- ==== Sys2Proof/Syntax.lean ====
section
/-! DEFINITION. The commands of the block: one constructor per row of the manual's opcode table, in the table's order.
A command is a register write, an access, a message or packet that arrives, a step of one of the device's own engines,
or the end of a bound. -/
namespace Sys2Proof
open Machine

/-- The commands. -/
inductive Instr where
  /-- REGISTER_WRITE (R10) -/
  | registerWrite (off : RegOff) (v : Word)
  /-- REGISTER_READ_CLEAR (R10) -/
  | registerReadClear (off : RegOff)
  /-- REGISTER_PARTIAL_WRITE (R698) -/
  | registerPartialWrite (off : RegOff) (bytes : Nat)
  /-- STORE_READ (R233) -/
  | storeRead (tenant : Tenant) (sa : Word) (ue : Bool)
  /-- STORE_WRITE (R64) -/
  | storeWrite (tenant : Tenant) (sa : Word) (data : Line) (mask : Mask) (ue : Bool)
  /-- COPY_ON_WRITE_COMPLETE (R58) -/
  | copyOnWriteComplete (block : Nat)
  /-- MIGRATION_COMPLETE (R65) -/
  | migrationComplete (block : Nat)
  /-- SEAL_IMAGE_CHECKED (R62) -/
  | sealImageChecked (block : Nat)
  /-- SEAL_T2_FAIL (R65) -/
  | sealT2Fail (block : Nat)
  /-- SEAL_PAYLOAD_POISON (R62) -/
  | sealPayloadPoison (block line : Nat)
  /-- PROMOTION_FILL_COMPLETE (R67) -/
  | promotionFillComplete (block : Nat) (tier : Tier) (inlineOk : Bool)
  /-- PROMOTION_FILL_FAIL (R67) -/
  | promotionFillFail (block : Nat) (tier : Tier) (why : FillFail)
  /-- SINK_READERS_DONE (R67) -/
  | sinkReadersDone (block : Nat) (tier : Tier)
  /-- REFETCH_COMPLETE (R105) -/
  | refetchComplete (block : Nat)
  /-- REFETCH_SOURCE_FAIL (R105) -/
  | refetchSourceFail (block : Nat) (why : FillFail)
  /-- REFETCH_TIMEOUT (R107) -/
  | refetchTimeout (block : Nat)
  /-- DRIVE_LOST (R84) -/
  | driveLost (drive : Nat)
  /-- STREAM_HALF_FILLED (R88) -/
  | streamHalfFilled (die cell half : Nat)
  /-- STREAM_HALF_CONSUMED (R88) -/
  | streamHalfConsumed (die cell half : Nat)
  /-- MCAST_CHUNK_ARRIVED (R91) -/
  | mcastChunkArrived (die cell half : Nat) (chunk : List Line)
  /-- ROUTER_PREFETCH (R94) -/
  | routerPrefetch (die layer : Nat) (experts : List (Nat × List Nat))
  /-- TIER_SEAL (R62) -/
  | tierSeal (w : Word)
  /-- TIER_IMPORT (R63) -/
  | tierImport (w : Word)
  /-- TIER_PROMOTE (R122) -/
  | tierPromote (w : Word)
  /-- TIER_SINK (R122) -/
  | tierSink (w : Word)
  /-- TIER_FREE (R65) -/
  | tierFree (w : Word)
  /-- TIER_QUERY (R118) -/
  | tierQuery (w : Word)
  /-- TIER_MODE_WRITE (R113) -/
  | tierModeWrite (v : Word)
  /-- TIER_RESV_LIMIT_WRITE (R121) -/
  | tierResvLimitWrite (n : Nat) (v : Word)
  /-- TRANSLATION_WALK_END (R135) -/
  | translationWalkEnd (die : Nat) (tenant : Tenant) (granule : Nat) (ue : Bool)
  /-- FILL_RECORD_END (R143) -/
  | fillRecordEnd (die record : Nat) (outcome : FillOutcome)
  /-- XLT_INSERT (R149) -/
  | xltInsert (w : Word)
  /-- XLT_REVOKE (R150) -/
  | xltRevoke (w : Word)
  /-- REVOKE_DRAIN_END (R150) -/
  | revokeDrainEnd
  /-- REVOKE_DRAIN_TIMEOUT (R150) -/
  | revokeDrainTimeout
  /-- XLT_LOOKUP (R159) -/
  | xltLookup (w : Word)
  /-- XLT_SET_HOME (R159) -/
  | xltSetHome (w : Word)
  /-- SCALAR_INSTRUCTION (R199) -/
  | scalarInstruction (cell : Nat) (ue : Bool)
  /-- MX_ISSUE (R202) -/
  | mxIssue (cell : Nat) (rd rs1 : XReg)
  /-- VX_ISSUE (R202) -/
  | vxIssue (cell : Nat) (rd rs1 : XReg)
  /-- MV_ISSUE (R202) -/
  | mvIssue (cell : Nat) (channel : BitVec 3) (rd rs1 : XReg)
  /-- ISSUE_SLOT_FREE (R202) -/
  | issueSlotFree (cell : Nat)
  /-- ENG_WAIT (R205) -/
  | engWait (cell : Nat) (queue : BitVec 4) (rd rs1 : XReg)
  /-- ENG_WAIT_RESUME (R205) -/
  | engWaitResume (cell : Nat)
  /-- ENG_POLL (R205) -/
  | engPoll (cell : Nat) (queue : BitVec 4) (rd rs1 : XReg)
  /-- FLAG_LD (R207) -/
  | flagLd (cell : Nat) (aq : Bool) (rd rs1 : XReg)
  /-- FLAG_ST (R207) -/
  | flagSt (cell : Nat) (rl : Bool) (rs2 rs1 : XReg)
  /-- FLAG_ADD (R207) -/
  | flagAdd (cell : Nat) (aq rl : Bool) (rd rs2 rs1 : XReg)
  /-- FLAG_MAX (R207) -/
  | flagMax (cell : Nat) (aq rl : Bool) (rd rs2 rs1 : XReg)
  /-- FLAG_CAS (R200) -/
  | flagCas (cell : Nat) (aq rl : Bool) (rd rs2 rs1 : XReg)
  /-- FLAG_WAITGE (R207) -/
  | flagWaitge (cell : Nat) (aq : Bool) (rd rs2 rs1 : XReg)
  /-- FLAG_WAITGE_RESUME (R232) -/
  | flagWaitgeResume (cell : Nat)
  /-- WAIT_TIMEOUT (R206) -/
  | waitTimeout (cell : Nat)
  /-- ENG_REL (R230) -/
  | engRel (cell : Nat)
  /-- ENG_REL_RETIRE (R230) -/
  | engRelRetire (cell : Nat)
  /-- ENG_REL_TIMEOUT (R230) -/
  | engRelTimeout (cell : Nat)
  /-- ENG_ACQ (R228) -/
  | engAcq (cell : Nat)
  /-- WALE_RD (R208) -/
  | waleRd (cell : Nat) (rd : XReg)
  /-- WALE_WAIT (R208) -/
  | waleWait (cell : Nat) (rd rs1 : XReg)
  /-- WALE_WAIT_RESUME (R208) -/
  | waleWaitResume (cell : Nat)
  /-- STIME_RD (R208) -/
  | stimeRd (cell : Nat) (rd : XReg)
  /-- ECALL (R211) -/
  | ecall (cell : Nat)
  /-- KERNEL_TRAP (R211) -/
  | kernelTrap (cell : Nat) (cause : BitVec 8)
  /-- MMA (R180) -/
  | mma (cell : Nat) (ue : Bool)
  /-- ADD (R186) -/
  | vAdd (cell : Nat) (ue : Bool)
  /-- SUB (R186) -/
  | vSub (cell : Nat) (ue : Bool)
  /-- MUL (R186) -/
  | vMul (cell : Nat) (ue : Bool)
  /-- FMA (R186) -/
  | vFma (cell : Nat) (ue : Bool)
  /-- MAX (R186) -/
  | vMax (cell : Nat) (ue : Bool)
  /-- MIN (R186) -/
  | vMin (cell : Nat) (ue : Bool)
  /-- EXP (R186) -/
  | vExp (cell : Nat) (ue : Bool)
  /-- LOG (R186) -/
  | vLog (cell : Nat) (ue : Bool)
  /-- RSQRT (R186) -/
  | vRsqrt (cell : Nat) (ue : Bool)
  /-- RCP (R186) -/
  | vRcp (cell : Nat) (ue : Bool)
  /-- CVT (R187) -/
  | vCvt (cell : Nat) (ue : Bool)
  /-- QMX (R189) -/
  | vQmx (cell : Nat) (ue : Bool)
  /-- DQMX (R186) -/
  | vDqmx (cell : Nat) (ue : Bool)
  /-- RSUM (R188) -/
  | vRsum (cell : Nat) (ue : Bool)
  /-- RMAX (R188) -/
  | vRmax (cell : Nat) (ue : Bool)
  /-- WADD (R186) -/
  | vWadd (cell : Nat) (ue : Bool)
  /-- ARGMAX (R186) -/
  | vArgmax (cell : Nat) (ue : Bool)
  /-- GET (R193) -/
  | mvGet (cell : Nat) (channel : BitVec 3) (ue : Bool)
  /-- PUT (R193) -/
  | mvPut (cell : Nat) (channel : BitVec 3) (ue : Bool)
  /-- COPY (R193) -/
  | mvCopy (cell : Nat) (channel : BitVec 3) (ue : Bool)
  /-- CELL_PUT (R198) -/
  | mvCellPut (cell : Nat) (channel : BitVec 3) (ue : Bool)
  /-- ATOM (R194) -/
  | mvAtom (cell : Nat) (channel : BitVec 3) (ue : Bool)
  /-- MOVER_DESC_END (R196) -/
  | moverDescEnd (cell : Nat) (channel : BitVec 3)
  /-- CELL_PUT_RECEIVE (R438) -/
  | cellPutReceive (p : Packet)
  /-- SYNC_TIMER (R253) -/
  | syncTimer
  /-- SYNC (R253) -/
  | sync (m : SchedMsg) (offset : BitVec 16) (errorNs : Nat) (locked : Bool)
  /-- DEVICE_READY (R257) -/
  | deviceReady
  /-- READY (R257) -/
  | ready (m : SchedMsg)
  /-- HOLD (R258) -/
  | hold (m : SchedMsg)
  /-- HOLD_REPEAT_TIMER (R258) -/
  | holdRepeatTimer
  /-- BOUNDARY_ANNOUNCE (R259) -/
  | boundaryAnnounce
  /-- BOUNDARY (R261) -/
  | boundary (m : SchedMsg)
  /-- WALE_BOUNDARY (R271) -/
  | waleBoundary (fact : BoundaryFacts)
  /-- CHILD_SILENCE_TIMEOUT (R263) -/
  | childSilenceTimeout (child : DevNo)
  /-- FAIL (R550) -/
  | schedFail (m : SchedMsg)
  /-- STEP_KERNEL (R269) -/
  | stepKernel (track : Nat)
  /-- STEP_STREAM (R269) -/
  | stepStream (track : Nat)
  /-- STEP_SERVICE (R269) -/
  | stepService (track : Nat)
  /-- STEP_SEARCH (R269) -/
  | stepSearch (track : Nat)
  /-- STEP_END (R269) -/
  | stepEnd (track : Nat)
  /-- SEARCH_SLOT_END (R389) -/
  | searchSlotEnd (track : Nat)
  /-- OVERRUN_HOLD (R277) -/
  | overrunHold
  /-- OVERRUN_GRACE_EXPIRY (R277) -/
  | overrunGraceExpiry
  /-- STRETCH_WARN_TIMER (R280) -/
  | stretchWarnTimer
  /-- SCHED_WALE_LEN_WRITE (R293) -/
  | schedWaleLenWrite (v : Word)
  /-- SCHED_ADMIT_MAX_WRITE (R296) -/
  | schedAdmitMaxWrite (v : Word)
  /-- START (R312) -/
  | startTurn (tenant : Tenant) (slot : Nat) (line : Line)
  /-- CANCEL (R313) -/
  | cancel (tenant : Tenant) (slot : Nat) (line : Line)
  /-- DROP (R333) -/
  | drop (tenant : Tenant) (slot : Nat) (line : Line)
  /-- RING (R338) -/
  | ring (tenant : Tenant) (slot : Nat) (line : Line)
  /-- APERTURE_PARTIAL_WRITE (R302) -/
  | aperturePartialWrite (tenant : Tenant) (slot : Nat)
  /-- APERTURE_READ (R304) -/
  | apertureRead (tenant : Tenant) (slot : Nat)
  /-- CONTROL_LINE_WRITE (R306) -/
  | controlLineWrite (tenant : Tenant) (line : Line)
  /-- ATTENTION_LAPSE (R308) -/
  | attentionLapse (tenant : Tenant)
  /-- RESERVE (R315) -/
  | reserve (m : ReserveMsg)
  /-- GRANT (R315) -/
  | grant (peer : DevNo) (tenant : Tenant) (request : Word) (code : Code)
  /-- COMMIT (R315) -/
  | commit (owner : DevNo) (tenant : Tenant) (request : Word) (tokens : List (BitVec 32))
  /-- RESERVE_CANCEL (R315) -/
  | reserveCancel (owner : DevNo) (tenant : Tenant) (request : Word)
  /-- TURN_DEADLINE (R345) -/
  | turnDeadline (tenant : Tenant) (request : Word)
  /-- COMPLETION_RECORD_WRITE (R342) -/
  | completionRecordWrite (ctx : Nat) (ringDead : Bool)
  /-- CLEAR_DEGRADED (R356) -/
  | clearDegraded (w : Word)
  /-- QUERY (R383) -/
  | query (tenant : Tenant) (slot : Nat) (line : Line) (readDead : Bool)
  /-- QCANCEL (R384) -/
  | qcancel (tenant : Tenant) (slot : Nat) (line : Line)
  /-- QUERY_RELAY (R391) -/
  | queryRelay (m : QueryParts)
  /-- QUERY_PART (R387) -/
  | queryPart (m : QueryParts) (shardSlot : Nat)
  /-- PART_ACK (R391) -/
  | partAck (q shard : Nat)
  /-- PART_PROGRESS_TIMER (R391) -/
  | partProgressTimer (part : Nat)
  /-- PART_PROGRESS (R391) -/
  | partProgress (q shard : Nat)
  /-- PART_SILENCE_TIMEOUT (R391) -/
  | partSilenceTimeout (q shard : Nat)
  /-- PART_RESEND_TIMER (R390) -/
  | partResendTimer (q shard : Nat)
  /-- PART_CANCEL (R387) -/
  | partCancel (part : Nat)
  /-- PART_ANSWER (R387) -/
  | partAnswer (q shard : Nat) (a : PartAnswer)
  /-- ANSWER_ACK (R387) -/
  | answerAck (part : Nat) (dead : Bool)
  /-- QUERY_RECORD_WRITE (R396) -/
  | queryRecordWrite (q : Nat)
  /-- QUERY_DEADLINE (R397) -/
  | queryDeadline (q : Nat)
  /-- SWEEP_BLOCK_LOAD (R368) -/
  | sweepBlockLoad (array shardSlot partition firstRow rows : Nat) (dev : List Int) (refBad : Bool)
  /-- RERANK_COMPLETE (R378) -/
  | rerankComplete (part : Nat)
  /-- PART_MEMWAIT_END (R388) -/
  | partMemwaitEnd (part : Nat) (poison : Bool)
  /-- ARRAY_CALIBRATE (R373) -/
  | arrayCalibrate (array : Nat)
  /-- ARRAY_TEMP_STEP (R373) -/
  | arrayTempStep (array temp : Nat)
  /-- ARRAY_CALIBRATION_END (R374) -/
  | arrayCalibrationEnd (array e : Nat)
  /-- SHARD_LOAD (R362) -/
  | shardLoad (w : Word)
  /-- SHARD_UNLOAD (R410) -/
  | shardUnload (w : Word)
  /-- SHARD_REPLACE (R410) -/
  | shardReplace (w : Word)
  /-- LINK_SIGNAL_DETECT (R416) -/
  | linkSignalDetect (port lanes : Nat)
  /-- LINK_TRAIN_STEP_DONE (R416) -/
  | linkTrainStepDone (port : Nat) (lanes : BitVec 8) (sameSession : Bool)
  /-- LINK_TRAIN_TIMEOUT (R416) -/
  | linkTrainTimeout (port : Nat)
  /-- LINK_RETRAIN (R471) -/
  | linkRetrain (port : Nat)
  /-- LINK_REAUTH (R641) -/
  | linkReauth (port : Nat)
  /-- LNK_ENABLE_WRITE (R471) -/
  | lnkEnableWrite (port : Nat) (v : Word)
  /-- KEEPALIVE_ENTRY (R658) -/
  | keepaliveEntry (port : Nat)
  /-- KEEPALIVE_BURST_TIMER (R417) -/
  | keepaliveBurstTimer (port : Nat)
  /-- KEEPALIVE_EXIT (R417) -/
  | keepaliveExit (port : Nat)
  /-- DATA (R423) -/
  | flitData (port : Nat) (check : FlitCheck) (ps : List Packet)
  /-- CTRL (R425) -/
  | flitCtrl (port : Nat) (check : FlitCheck) (ackSeq : BitVec 16) (nak : Bool) (credits : List Nat)
  /-- CTRL_FILL_TIMER (R422) -/
  | ctrlFillTimer (port : Nat)
  /-- HELLO (R430) -/
  | hello (port : Nat) (nonce : BitVec 256)
  /-- CERT (R430) -/
  | cert (port : Nat) (c : CertFacts)
  /-- PROOF (R638) -/
  | proof (port : Nat) (sigOk : Bool) (share : BitVec 256)
  /-- DONE (R638) -/
  | authDone (port : Nat) (hmacOk : Bool)
  /-- AUTH_FAIL (R431) -/
  | authFail (port : Nat)
  /-- REKEY (R641) -/
  | rekey (port : Nat) (epoch : BitVec 15)
  /-- AUTH_TIMEOUT (R431) -/
  | authTimeout (port : Nat)
  /-- QUARANTINE_HOLDOFF_EXPIRY (R432) -/
  | quarantineHoldoffExpiry (port : Nat)
  /-- REKEY_THRESHOLD (R641) -/
  | rekeyThreshold (port : Nat)
  /-- PACKET_FORWARD (R443) -/
  | packetForward (inPort : Nat) (p : Packet)
  /-- LOAD (R458) -/
  | load (p : Packet)
  /-- STORE (R458) -/
  | store (p : Packet)
  /-- ATOMIC (R458) -/
  | atomic (p : Packet)
  /-- FENCE (R465) -/
  | fence (p : Packet)
  /-- REPLY (R461) -/
  | reply (p : Packet)
  /-- FENCE_DONE (R466) -/
  | fenceDone (p : Packet)
  /-- DELIVERED (R455) -/
  | delivered (src : DevNo) (entries : List (FlowId × BitVec 16))
  /-- PROBE (R463) -/
  | probe (p : Packet)
  /-- PROBE_REPLY (R463) -/
  | probeReply (src : DevNo)
  /-- WAKING (R450) -/
  | waking (src : DevNo) (tag : BitVec 16)
  /-- PORT_DOWN (R449) -/
  | portDown (port : Nat) (cut : List Packet)
  /-- DELIVERED_TIMER (R454) -/
  | deliveredTimer (src : DevNo)
  /-- RESEND_TIMER (R456) -/
  | resendTimer (flow : FlowId) (seq : BitVec 16)
  /-- DEAD_TIMEOUT (R461) -/
  | deadTimeout (tag : BitVec 16)
  /-- POSTED_LOST_TIMEOUT (R462) -/
  | postedLostTimeout (flow : FlowId) (seq : BitVec 16)
  /-- PROBE_TIMER (R463) -/
  | probeTimer (dst : DevNo)
  /-- HOST_READ (R492) -/
  | hostRead (binding : Nat) (dpa : BitVec 57) (ask : CopyAsk) (ue : Bool)
  /-- HOST_WRITE (R492) -/
  | hostWrite (binding : Nat) (dpa : BitVec 57) (data : Line) (mask : Mask)
  /-- HOST_WRITEBACK (R494) -/
  | hostWriteback (binding : Nat) (sa : Word) (data : Line)
  /-- RECALL_START (R502) -/
  | recallStart (line : Nat) (holder : Holder)
  /-- RECALL (R502) -/
  | recall (home : DevNo) (binding : Nat) (sa : Word) (range : Option Nat)
  /-- BIRSPI (R502) -/
  | birspi (binding : Nat) (sa : Word) (dirty : Option Line)
  /-- RECALL_ACK (R502) -/
  | recallAck (holder : Holder) (sa : Word) (dirty : Option Line)
  /-- RECALL_TIMEOUT (R503) -/
  | recallTimeout (line : Nat) (holder : Holder)
  /-- FENCED (R503) -/
  | fenced (holder : Holder)
  /-- COHERENT_RESEND (R506) -/
  | coherentResend (requester : DevNo) (mover : Bool) (request : CohReq)
  /-- HOMEOP_ATOM (R497) -/
  | homeopAtom (binding line : Nat) (data : Line)
  /-- OPEN (R516) -/
  | openView (binding line : Nat) (data : Line)
  /-- CLOSE (R516) -/
  | closeView (binding line : Nat) (data : Line)
  /-- PUBLISH (R517) -/
  | publish (binding line : Nat) (data : Line)
  /-- HOMEOP (R507) -/
  | homeop (src : DevNo) (tenant : Tenant) (binding line : Nat) (sa staging : Word) (req : Line) (stagingCode : Code)
  /-- HOMEOP_REPLY (R507) -/
  | homeopReply (binding line : Nat) (code : Code) (detail : BitVec 8) (result : Option Word)
  /-- BIND (R487) -/
  | bind (w : Word)
  /-- UNBIND (R487) -/
  | unbind (w : Word)
  /-- UNFENCE (R503) -/
  | unfence (w : Word)
  /-- DC_ADD (R508) -/
  | dcAdd (w : Word)
  /-- DC_WITHDRAW (R509) -/
  | dcWithdraw (w : Word)
  /-- DC_HOST_RESPONSE (R508) -/
  | dcHostResponse (accept : Bool)
  /-- DC_HOST_RELEASE (R509) -/
  | dcHostRelease (binding : Nat) (dpa : BitVec 57)
  /-- DC_GRACE_EXPIRY (R509) -/
  | dcGraceExpiry
  /-- COM_CREATE (R511) -/
  | comCreate (w : Word)
  /-- COM_GRANT (R512) -/
  | comGrant (w : Word)
  /-- COM_DESTROY (R520) -/
  | comDestroy (w : Word)
  /-- DECODER_COMMIT (R491) -/
  | decoderCommit (binding decoder region : Nat) (backInvalidate : Bool)
  /-- IDE_KM (R637) -/
  | ideKm (session : Nat) (stream : IdeStream) (key : BitVec 256)
  /-- IDE_FAIL (R522) -/
  | ideFail (stream : IdeStream)
  /-- BEAT_TIMER (R549) -/
  | beatTimer
  /-- BEAT (R549) -/
  | beat (src : DevNo) (forDev : DevNo)
  /-- BEAT_ACK (R549) -/
  | beatAck (keeper : DevNo)
  /-- ISOLATE_TIMEOUT (R549) -/
  | isolateTimeout
  /-- VOTE_TIMER (R550) -/
  | voteTimer (dev : DevNo)
  /-- PROPOSE_CREATE (R539) -/
  | proposeCreate (src : DevNo) (r : MapRec)
  /-- PROPOSE_OFFER (R541) -/
  | proposeOffer (src : DevNo) (r : MapRec)
  /-- PROPOSE_ACCEPT (R541) -/
  | proposeAccept (src : DevNo) (r : MapRec)
  /-- PROPOSE_WITHDRAW (R542) -/
  | proposeWithdraw (src : DevNo) (r : MapRec)
  /-- PROPOSE_SEIZE (R552) -/
  | proposeSeize (src : DevNo) (r : MapRec)
  /-- PROPOSE_RETURN (R543) -/
  | proposeReturn (src : DevNo) (r : MapRec)
  /-- PROPOSE_FATE (R551) -/
  | proposeFate (src : DevNo) (r : MapRec)
  /-- VOTE (R550) -/
  | vote (keeper : DevNo) (r : MapRec)
  /-- STORED (R534) -/
  | stored (keeper : DevNo) (r : MapRec)
  /-- KEEPER_COPY_COMPLETE (R538) -/
  | keeperCopyComplete
  /-- FAILOVER_REPLAY_START (R552) -/
  | failoverReplayStart
  /-- NOTICE (R537) -/
  | notice (r : MapRec)
  /-- MAP_QUERY (R537) -/
  | mapQuery (src : DevNo) (kind : BitVec 8) (key : Word)
  /-- ANSWER (R537) -/
  | answer (r : Option MapRec)
  /-- OFFER_EXPIRY (R542) -/
  | offerExpiry (kind : BitVec 8) (key : Word)
  /-- HANDOVER_STATE_COMPLETE (R541) -/
  | handoverStateComplete (kind : BitVec 8) (key : Word)
  /-- HANDOVER_RELEASE (R541) -/
  | handoverRelease (kind : BitVec 8) (key : Word)
  /-- MIRROR_TRANSFER (R545) -/
  | mirrorTransfer (src : DevNo) (epoch : BitVec 32) (item : MirrorItem)
  /-- REHEARSAL (R559) -/
  | rehearsal
  /-- REHEARSAL_DEVICE_STOP (R561) -/
  | rehearsalDeviceStop
  /-- MAP_LOOKUP (R571) -/
  | mapLookup (w : Word)
  /-- MAP_OFFER (R541) -/
  | mapOffer (w : Word)
  /-- MAP_WITHDRAW (R542) -/
  | mapWithdraw (w : Word)
  /-- DECLARE (R551) -/
  | declare (w : Word)
  /-- REPAIR (R562) -/
  | repair (w : Word)
  /-- INJECT (R572) -/
  | inject (w : Word)
  /-- REPAIR_SELF_TEST_END (R562) -/
  | repairSelfTestEnd (pass : Bool)
  /-- REPAIR_STATE_CURRENT (R562) -/
  | repairStateCurrent (lost : List Nat)
  /-- REPAIR_TIMEOUT (R564) -/
  | repairTimeout
  /-- COLD_START (R579) -/
  | coldStart (f : StartFacts)
  /-- DRIVES_READY (R579) -/
  | drivesReady (ds : List DriveFacts)
  /-- DRIVE_READY_TIMEOUT (R579) -/
  | driveReadyTimeout (drive : Nat)
  /-- STAND_LOCK_TIMEOUT (R582) -/
  | standLockTimeout
  /-- JOIN_SEND (R579) -/
  | joinSend
  /-- JOIN (R588) -/
  | join (dev : DevNo) (digest : Word) (crust : Bool)
  /-- JOIN_ACK (R588) -/
  | joinAck (wale : Wale) (time : Word)
  /-- REFUSE (R590) -/
  | refuse
  /-- FORM_BOUND_EXPIRY (R588) -/
  | formBoundExpiry
  /-- WARM_START (R580) -/
  | warmStart (f : StartFacts)
  /-- CATALOGUE_COMPACT (R586) -/
  | catalogueCompact (drive : Nat)
  /-- RELOAD_READY (R607) -/
  | reloadReady (dev : DevNo) (partialId : Word)
  /-- RELOAD_GO (R608) -/
  | reloadGo (partialId : Word) (wale : Wale)
  /-- RELOAD_ABANDON (R607) -/
  | reloadAbandon (partialId : Word)
  /-- WRITE_SLOT (R615) -/
  | writeSlot (w : Word) (img : ImageFacts)
  /-- ACTIVATE (R577) -/
  | activate (w : Word)
  /-- RESTART (R580) -/
  | restart (w : Word)
  /-- STAGE (R606) -/
  | stage (w : Word) (img : ImageFacts)
  /-- ABANDON (R615) -/
  | abandon (w : Word)
  /-- SCAN_CRC64 (R622) -/
  | scanCrc64 (u : Nat) (w : Word)
  /-- SCAN_CRC32C (R622) -/
  | scanCrc32c (u : Nat) (w : Word)
  /-- SCAN_JOB_END (R623) -/
  | scanJobEnd (u : Nat)
  /-- GET_VERSION (R635) -/
  | getVersion (t : Transport)
  /-- GET_CAPABILITIES (R635) -/
  | getCapabilities (t : Transport)
  /-- NEGOTIATE_ALGORITHMS (R635) -/
  | negotiateAlgorithms (t : Transport)
  /-- GET_DIGESTS (R635) -/
  | getDigests (t : Transport)
  /-- GET_CERTIFICATE (R627) -/
  | getCertificate (t : Transport) (slot offset length : Nat)
  /-- CHALLENGE (R635) -/
  | challenge (t : Transport) (slot : Nat) (nonce : BitVec 256)
  /-- GET_MEASUREMENTS (R636) -/
  | getMeasurements (t : Transport) (index : Nat) (nonce : BitVec 256)
  /-- KEY_EXCHANGE (R635) -/
  | keyExchange (t : Transport) (share : Nat)
  /-- FINISH (R635) -/
  | finish (t : Transport) (session : Nat) (ok : Bool)
  /-- KEY_UPDATE (R635) -/
  | keyUpdate (t : Transport) (session : Nat)
  /-- HEARTBEAT (R635) -/
  | heartbeat (t : Transport) (session : Nat)
  /-- END_SESSION (R637) -/
  | endSession (t : Transport) (session : Nat)
  /-- GET_CSR (R630) -/
  | getCsr (t : Transport) (session : Nat)
  /-- SET_CERTIFICATE (R630) -/
  | setCertificate (t : Transport) (session slot : Nat) (c : ChainFacts) (rpOk : Bool)
  /-- RELEASE (R631) -/
  | release (t : Transport) (session : Nat) (sigOk : Bool) (nonce : BitVec 256) (rpOk : Bool)
  /-- INPUT_UNDERVOLT (R653) -/
  | inputUndervolt (mv : Nat)
  /-- INPUT_COLLAPSE (R653) -/
  | inputCollapse (mv : Nat)
  /-- INPUT_OVERVOLT (R653) -/
  | inputOvervolt (mv : Nat)
  /-- OVERVOLT_RECOVERY (R653) -/
  | overvoltRecovery (mv : Nat)
  /-- CLUSTER_CLOCK_STOP (R657) -/
  | clusterClockStop (cluster : Nat)
  /-- CLUSTER_PLL_STOP (R657) -/
  | clusterPllStop (cluster : Nat)
  /-- CLUSTER_CLOCK_START (R657) -/
  | clusterClockStart (cluster : Nat)
  /-- CLUSTER_CLOCK_RUNNING (R656) -/
  | clusterClockRunning (cluster : Nat)
  /-- PWR_SLEEP (R662) -/
  | pwrSleep (w : Word)
  /-- PWR_WAKE (R666) -/
  | pwrWake (w : Word)
  /-- ASLEEP (R665) -/
  | asleep (dev : DevNo) (wale : Wale)
  /-- AWAKE (R665) -/
  | awake (dev : DevNo) (wale : Wale)
  /-- WAKE (R666) -/
  | wake (dev : DevNo)
  /-- SLEEP_QUIET (R664) -/
  | sleepQuiet
  /-- SLEEP_QUIET_TIMEOUT (R664) -/
  | sleepQuietTimeout
  /-- SLEEP_WAKE (R666) -/
  | sleepWake (cause : WakeCause)
  /-- WAKE_SEQUENCE_END (R666) -/
  | wakeSequenceEnd
  /-- WAKE_TIMEOUT (R666) -/
  | wakeTimeout
  /-- WAKE_BOUND_EXPIRY (R665) -/
  | wakeBoundExpiry (dst : DevNo) (tag : BitVec 16)
  /-- SLEEP_WALE_TICK (R667) -/
  | sleepWaleTick
  /-- DIE_FAULT (R668) -/
  | dieFault (kind : DieKind) (die : Nat)
  /-- THERMAL_STAGE (R672) -/
  | thermalStage (sensor level temp : Nat)
  /-- THERMAL_STAGE_CLEAR (R672) -/
  | thermalStageClear (temps : List Nat)
  /-- THERMAL_COOLDOWN_RESTART (R672) -/
  | thermalCooldownRestart
  /-- THERM_N_ASSERT (R673) -/
  | thermNAssert
  /-- WAKE_N_ASSERT (R673) -/
  | wakeNAssert
  /-- PIN_CHATTER_QUIET (R674) -/
  | pinChatterQuiet (pin : Pin) (level : Bool)
  /-- PIN_HELD (R674) -/
  | pinHeld (pin : Pin)
  /-- PERST_N_ASSERT (R673) -/
  | perstNAssert
  /-- PERST_N_RELEASE (R580) -/
  | perstNRelease
  /-- PWR_POLICY_WRITE (R680) -/
  | pwrPolicyWrite (v : Word)
  /-- PWR_WAKE_BOUND_WRITE (R680) -/
  | pwrWakeBoundWrite (v : Word)
  /-- PLDM_BASE (R687) -/
  | pldmBase (t : Transport) (command : BitVec 8)
  /-- PLDM_SENSOR_READ (R687) -/
  | pldmSensorRead (t : Transport) (sensor : Nat)
  /-- PLDM_FW_TRANSFER (R689) -/
  | pldmFwTransfer (t : Transport) (offset : Nat) (bytes : Nat) (last : Option FwFacts)
  /-- ACTIVATE_FIRMWARE (R689) -/
  | activateFirmware (t : Transport)
  /-- PLDM_FILE_READ (R687) -/
  | pldmFileRead (t : Transport) (offset length : Nat)
  /-- REG_READ (R687) -/
  | regRead (t : Transport) (off : RegOff)
  /-- REG_WRITE (R687) -/
  | regWrite (t : Transport) (off : RegOff) (v : Word)
  /-- MGT_WINDOW (R692) -/
  | mgtWindow (demandPercent : Nat)
  /-- MGT_HEARTBEAT_TICK (R693) -/
  | mgtHeartbeatTick
  /-- MP_STALL_WATCHDOG (R693) -/
  | mpStallWatchdog
  /-- MP_RESTART (R694) -/
  | mpRestart
  /-- MGT_FAULT_ACK_WRITE (R710) -/
  | mgtFaultAckWrite (v : Word)
  /-- TEL_SNAPSHOT (R707) -/
  | telSnapshot
  /-- TEL_CTL_WRITE (R709) -/
  | telCtlWrite (v : Word)
  /-- WAKE_N_RELEASE (R673) -/
  | wakeNRelease
  /-- THERM_N_RELEASE (R675) -/
  | thermNRelease
  /-- HOST_LINK_DOWN (R483) -/
  | hostLinkDown
  /-- HOST_LINK_TRAINED (R483) -/
  | hostLinkTrained (width : Nat) (pbr : Bool)
  /-- ENDPOINT_ID_ASSIGNMENT (R687) -/
  | endpointIdAssignment (eid : BitVec 8)
  deriving DecidableEq, Repr

end Sys2Proof
end

