-- ==== Sys2Proof/Config.lean ====
section
/-! DEFINITION. The values the manual leaves open: constants with no body, so that nothing can be proved of their
value (assumptions 3 and 4). -/
namespace Sys2Proof

/-- The n-th free value of a run: what the manual calls undefined or leaves to the device. -/
opaque Config.freeWord : Nat → Word
/-- The last place of EXP, LOG and RSQRT within 1 ulp (R187): 0, 1 or 2 picks below, nearest, above. -/
opaque Config.approxPick : Nat → Word → Nat
/-- The result that a vector operation (by OPC) gives an FP32 operand for which no number is its exact result: LOG and
RSQRT of zero and of negative values, RCP of zero; and the E2M1 code that CVT (256 × STYPE + OPC) gives a NaN (R186,
R187). -/
opaque Config.openNumber : Nat → Nat → Nat
/-- Logit `i` (an FP32 code) of the next token of a request: model, the request's own free value, its tokens so far. The
projection's arithmetic lies in the kernels of the Weave image (R212, R334). -/
opaque Config.logit : Nat → Nat → List (BitVec 32) → Nat → BitVec 32
/-- BODY_LEN of the BPR body that the Rand-die sealing encoder makes of a payload's bytes (R62, R79). -/
opaque Config.bprBodyLen : List (Nat × BitVec 8) → Nat → Nat
/-- The digests and certificates a device gives over SPDM (R627, R636), as numbers. -/
opaque Config.spdmValue : Nat → Nat → Nat
/-- The per-device secret share and nonce of a Withy handshake (R430, R638). -/
opaque Config.nonce : Nat → BitVec 256

end Sys2Proof
end

