-- ==== Sys2Proof/Machine/Regs.lean ====
section
/-! DEFINITION. The register space as data: one constant per field of every register of the manual (its place, its
access type under R10, its reset value, and the range of the registers whose out-of-range values act as the nearer
end), and the list of registers by block under R696. Written from the manual's register tables. -/
namespace Sys2Proof.Machine

/-- Access types (R10). -/
inductive Acc where
  | ro | rw | w1c | w1s | rc
  deriving DecidableEq, Repr

/-- A field's reset column: a number, one number per ordering code (OZ8-880, -440, -220), or set by the Weave image
(read as 0 until an image is accepted, assumption 5). -/
inductive ResetVal where
  | const (n : Nat)
  | perCode (a b c : Nat)
  | weave
  deriving DecidableEq, Repr

/-- One field of a register: the register's offset in register space, its stride and count, the field's low bit and
width, access, reset; `range`: values outside act as the nearer end; `held`: in force from the next boundary (R738);
`silent`: setting it raises no fault record. -/
structure Fld where
  base : Nat
  stride : Nat
  count : Nat
  lo : Nat
  width : Nat
  acc : Acc
  reset : ResetVal
  range : Option (Nat × Nat) := none
  held : Bool := false
  silent : Bool := false
  deriving DecidableEq, Repr

/-- A register: first offset, stride, number of instances, fields. -/
structure RegDesc where
  base : Nat
  stride : Nat
  count : Nat
  fields : List Fld
  deriving DecidableEq, Repr

/-! ### MGT (offset 0x0, R696) -/

/-- MGT_ID.DEVICE 8:0 (R705). -/
def F.mgtId_device : Fld := { base := 0x0, stride := 8, count := 1, lo := 0, width := 9, acc := .ro, reset := .const 0 }
/-- MGT_ID.CODE 11:9 (R705). -/
def F.mgtId_code : Fld := { base := 0x0, stride := 8, count := 1, lo := 9, width := 3, acc := .ro, reset := .perCode 0 1 2 }
/-- MGT_ID.REVISION 15:12 (R705). -/
def F.mgtId_revision : Fld := { base := 0x0, stride := 8, count := 1, lo := 12, width := 4, acc := .ro, reset := .const 1 }
/-- MGT_ID.FROND 19:16 (R705). -/
def F.mgtId_frond : Fld := { base := 0x0, stride := 8, count := 1, lo := 16, width := 4, acc := .ro, reset := .perCode 15 3 1 }
/-- MGT_ID.RAND 21:20 (R705). -/
def F.mgtId_rand : Fld := { base := 0x0, stride := 8, count := 1, lo := 20, width := 2, acc := .ro, reset := .perCode 3 1 1 }
/-- MGT_ID.SORUS 23:22 (R705). -/
def F.mgtId_sorus : Fld := { base := 0x0, stride := 8, count := 1, lo := 22, width := 2, acc := .ro, reset := .perCode 3 1 0 }
/-- MGT_ID.MCTP_EID 31:24 (R705). -/
def F.mgtId_mctpEid : Fld := { base := 0x0, stride := 8, count := 1, lo := 24, width := 8, acc := .ro, reset := .const 0 }
/-- MGT_STATUS.MP_STALL 0 (R705). -/
def F.mgtStatus_mpStall : Fld := { base := 0x8, stride := 8, count := 1, lo := 0, width := 1, acc := .w1c, reset := .const 0 }
/-- MGT_STATUS.MP_RESTART 1 (R705). -/
def F.mgtStatus_mpRestart : Fld := { base := 0x8, stride := 8, count := 1, lo := 1, width := 1, acc := .w1c, reset := .const 0 }
/-- MGT_STATUS.SHED_TELEMETRY 2 (R705). -/
def F.mgtStatus_shedTelemetry : Fld := { base := 0x8, stride := 8, count := 1, lo := 2, width := 1, acc := .w1c, reset := .const 0, silent := true }
/-- MGT_STATUS.SHED_LOG 3 (R705). -/
def F.mgtStatus_shedLog : Fld := { base := 0x8, stride := 8, count := 1, lo := 3, width := 1, acc := .w1c, reset := .const 0, silent := true }
/-- MGT_STATUS.EXC_OVERFLOW 4 (R705). -/
def F.mgtStatus_excOverflow : Fld := { base := 0x8, stride := 8, count := 1, lo := 4, width := 1, acc := .w1c, reset := .const 0 }
/-- MGT_STATUS.LOG_LOST 5 (R705). -/
def F.mgtStatus_logLost : Fld := { base := 0x8, stride := 8, count := 1, lo := 5, width := 1, acc := .w1c, reset := .const 0 }
/-- MGT_STATUS.REG_WIDTH 6 (R705). -/
def F.mgtStatus_regWidth : Fld := { base := 0x8, stride := 8, count := 1, lo := 6, width := 1, acc := .w1c, reset := .const 0, silent := true }
/-- MGT_STATUS.FW_STAGED 7 (R705). -/
def F.mgtStatus_fwStaged : Fld := { base := 0x8, stride := 8, count := 1, lo := 7, width := 1, acc := .w1c, reset := .const 0, silent := true }
/-- MGT_HEARTBEAT.COUNT 31:0 (R706). -/
def F.mgtHeartbeat_count : Fld := { base := 0x10, stride := 8, count := 1, lo := 0, width := 32, acc := .ro, reset := .const 0 }
/-- MGT_WATCHDOG.RESTART_MS 13:0 (R706). -/
def F.mgtWatchdog_restartMs : Fld := { base := 0x18, stride := 8, count := 1, lo := 0, width := 14, acc := .rw, reset := .const 1000, range := some (200, 10000) }
/-- MGT_FW.RUNNING 0 (R706). -/
def F.mgtFw_running : Fld := { base := 0x20, stride := 8, count := 1, lo := 0, width := 1, acc := .ro, reset := .const 0 }
/-- MGT_FW.ACTIVE 1 (R706). -/
def F.mgtFw_active : Fld := { base := 0x20, stride := 8, count := 1, lo := 1, width := 1, acc := .ro, reset := .const 0 }
/-- MGT_FW.VALID 3:2 (R706). -/
def F.mgtFw_valid : Fld := { base := 0x20, stride := 8, count := 1, lo := 2, width := 2, acc := .ro, reset := .const 0 }
/-- MGT_FW.UPDATE 6:4 (R706). -/
def F.mgtFw_update : Fld := { base := 0x20, stride := 8, count := 1, lo := 4, width := 3, acc := .ro, reset := .const 0 }
/-- MGT_FW.VERSION 63:32 (R706). -/
def F.mgtFw_version : Fld := { base := 0x20, stride := 8, count := 1, lo := 32, width := 32, acc := .ro, reset := .const 0 }
/-- MGT_SHED.TELEMETRY 31:0 (R706). -/
def F.mgtShed_telemetry : Fld := { base := 0x28, stride := 8, count := 1, lo := 0, width := 32, acc := .rc, reset := .const 0 }
/-- MGT_SHED.LOG 63:32 (R706). -/
def F.mgtShed_log : Fld := { base := 0x28, stride := 8, count := 1, lo := 32, width := 32, acc := .rc, reset := .const 0 }
/-- MGT_FAULT_SEQ.SEQ 31:0 (R706). -/
def F.mgtFaultSeq_seq : Fld := { base := 0x30, stride := 8, count := 1, lo := 0, width := 32, acc := .ro, reset := .const 0 }
/-- MGT_FAULT_ACK.ACK 31:0 (R706). -/
def F.mgtFaultAck_ack : Fld := { base := 0x38, stride := 8, count := 1, lo := 0, width := 32, acc := .rw, reset := .const 0 }
/-- MGT_LOG_LOST.COUNT 63:0 (R706). -/
def F.mgtLogLost_count : Fld := { base := 0x40, stride := 8, count := 1, lo := 0, width := 64, acc := .rc, reset := .const 0 }
/-- MGT_REG_DISCARD.COUNT 63:0 (R706). -/
def F.mgtRegDiscard_count : Fld := { base := 0x48, stride := 8, count := 1, lo := 0, width := 64, acc := .rc, reset := .const 0 }
/-- MGT_FAULT.WORD 63:0 (R699). -/
def F.mgtFault_word : Fld := { base := 0x8000, stride := 8, count := 4096, lo := 0, width := 64, acc := .ro, reset := .const 0 }

/-- The registers of MGT. -/
def mgtRegs : List RegDesc := [
  ⟨0x0, 8, 1, [F.mgtId_device, F.mgtId_code, F.mgtId_revision, F.mgtId_frond, F.mgtId_rand, F.mgtId_sorus, F.mgtId_mctpEid]⟩,
  ⟨0x8, 8, 1, [F.mgtStatus_mpStall, F.mgtStatus_mpRestart, F.mgtStatus_shedTelemetry, F.mgtStatus_shedLog, F.mgtStatus_excOverflow, F.mgtStatus_logLost, F.mgtStatus_regWidth, F.mgtStatus_fwStaged]⟩,
  ⟨0x10, 8, 1, [F.mgtHeartbeat_count]⟩,
  ⟨0x18, 8, 1, [F.mgtWatchdog_restartMs]⟩,
  ⟨0x20, 8, 1, [F.mgtFw_running, F.mgtFw_active, F.mgtFw_valid, F.mgtFw_update, F.mgtFw_version]⟩,
  ⟨0x28, 8, 1, [F.mgtShed_telemetry, F.mgtShed_log]⟩,
  ⟨0x30, 8, 1, [F.mgtFaultSeq_seq]⟩,
  ⟨0x38, 8, 1, [F.mgtFaultAck_ack]⟩,
  ⟨0x40, 8, 1, [F.mgtLogLost_count]⟩,
  ⟨0x48, 8, 1, [F.mgtRegDiscard_count]⟩,
  ⟨0x8000, 8, 4096, [F.mgtFault_word]⟩]

/-! ### PWR (offset 0x10000, R696) -/

/-- PWR_CAP.RAILS 3:0 (R678). -/
def F.pwrCap_rails : Fld := { base := 0x10000, stride := 8, count := 1, lo := 0, width := 4, acc := .ro, reset := .const 8 }
/-- PWR_CAP.SENSORS 8:4 (R678). -/
def F.pwrCap_sensors : Fld := { base := 0x10000, stride := 8, count := 1, lo := 4, width := 5, acc := .ro, reset := .const 16 }
/-- PWR_CAP.MAX_W 19:9 (R678). -/
def F.pwrCap_maxW : Fld := { base := 0x10000, stride := 8, count := 1, lo := 9, width := 11, acc := .ro, reset := .const 1500 }
/-- PWR_STATE.MODE 3:0 (R678). -/
def F.pwrState_mode : Fld := { base := 0x10008, stride := 8, count := 1, lo := 0, width := 4, acc := .ro, reset := .const 0 }
/-- PWR_STATE.CRUST_CAUSE 6:4 (R678). -/
def F.pwrState_crustCause : Fld := { base := 0x10008, stride := 8, count := 1, lo := 4, width := 3, acc := .ro, reset := .const 0 }
/-- PWR_STATE.STAGE 8:7 (R678). -/
def F.pwrState_stage : Fld := { base := 0x10008, stride := 8, count := 1, lo := 7, width := 2, acc := .ro, reset := .const 0 }
/-- PWR_STATE.SHADOW 9 (R678). -/
def F.pwrState_shadow : Fld := { base := 0x10008, stride := 8, count := 1, lo := 9, width := 1, acc := .ro, reset := .const 0 }
/-- PWR_STATE.SLEEPING_PARTNER 10 (R678). -/
def F.pwrState_sleepingPartner : Fld := { base := 0x10008, stride := 8, count := 1, lo := 10, width := 1, acc := .ro, reset := .const 0 }
/-- PWR_STATUS.UNDERVOLT 0 (R679). -/
def F.pwrStatus_undervolt : Fld := { base := 0x10010, stride := 8, count := 1, lo := 0, width := 1, acc := .w1c, reset := .const 0 }
/-- PWR_STATUS.OVERVOLT 1 (R679). -/
def F.pwrStatus_overvolt : Fld := { base := 0x10010, stride := 8, count := 1, lo := 1, width := 1, acc := .w1c, reset := .const 0 }
/-- PWR_STATUS.THERM_STAGE1 2 (R679). -/
def F.pwrStatus_thermStage1 : Fld := { base := 0x10010, stride := 8, count := 1, lo := 2, width := 1, acc := .w1c, reset := .const 0 }
/-- PWR_STATUS.THERM_STAGE2 3 (R679). -/
def F.pwrStatus_thermStage2 : Fld := { base := 0x10010, stride := 8, count := 1, lo := 3, width := 1, acc := .w1c, reset := .const 0 }
/-- PWR_STATUS.THERM_STAGE3 4 (R679). -/
def F.pwrStatus_thermStage3 : Fld := { base := 0x10010, stride := 8, count := 1, lo := 4, width := 1, acc := .w1c, reset := .const 0 }
/-- PWR_STATUS.PIN_CHATTER 5 (R679). -/
def F.pwrStatus_pinChatter : Fld := { base := 0x10010, stride := 8, count := 1, lo := 5, width := 1, acc := .w1c, reset := .const 0 }
/-- PWR_STATUS.PIN_HELD 6 (R679). -/
def F.pwrStatus_pinHeld : Fld := { base := 0x10010, stride := 8, count := 1, lo := 6, width := 1, acc := .w1c, reset := .const 0 }
/-- PWR_STATUS.WAKE_TIMEOUT 7 (R679). -/
def F.pwrStatus_wakeTimeout : Fld := { base := 0x10010, stride := 8, count := 1, lo := 7, width := 1, acc := .w1c, reset := .const 0 }
/-- PWR_STATUS.SHADOW_TAKEOVER 8 (R679). -/
def F.pwrStatus_shadowTakeover : Fld := { base := 0x10010, stride := 8, count := 1, lo := 8, width := 1, acc := .w1c, reset := .const 0 }
/-- PWR_STATUS.SLEEP_ABANDONED 9 (R679). -/
def F.pwrStatus_sleepAbandoned : Fld := { base := 0x10010, stride := 8, count := 1, lo := 9, width := 1, acc := .w1c, reset := .const 0, silent := true }
/-- PWR_STATUS.DIE_FAULT 10 (R679). -/
def F.pwrStatus_dieFault : Fld := { base := 0x10010, stride := 8, count := 1, lo := 10, width := 1, acc := .w1c, reset := .const 0 }
/-- PWR_INPUT.MV 15:0 (R678). -/
def F.pwrInput_mv : Fld := { base := 0x10018, stride := 8, count := 1, lo := 0, width := 16, acc := .ro, reset := .const 0 }
/-- PWR_INPUT.CA 28:16 (R678). -/
def F.pwrInput_ca : Fld := { base := 0x10018, stride := 8, count := 1, lo := 16, width := 13, acc := .ro, reset := .const 0 }
/-- PWR_INPUT.WATTS 40:29 (R678). -/
def F.pwrInput_watts : Fld := { base := 0x10018, stride := 8, count := 1, lo := 29, width := 12, acc := .ro, reset := .const 0 }
/-- PWR_POLICY.REST_WALES 15:0 (R680). -/
def F.pwrPolicy_restWales : Fld := { base := 0x10020, stride := 8, count := 1, lo := 0, width := 16, acc := .rw, reset := .const 64, held := true }
/-- PWR_POLICY.SLEEP_WALES 31:16 (R680). -/
def F.pwrPolicy_sleepWales : Fld := { base := 0x10020, stride := 8, count := 1, lo := 16, width := 16, acc := .rw, reset := .const 0, held := true }
/-- PWR_POLICY.SLEEP_OK 32 (R680). -/
def F.pwrPolicy_sleepOk : Fld := { base := 0x10020, stride := 8, count := 1, lo := 32, width := 1, acc := .rw, reset := .const 0, held := true }
/-- PWR_POLICY.CLUSTER_IDLE_US 43:33 (R680). -/
def F.pwrPolicy_clusterIdleUs : Fld := { base := 0x10020, stride := 8, count := 1, lo := 33, width := 11, acc := .rw, reset := .const 200, range := some (20, 2000), held := true }
/-- PWR_POLICY.LINK_IDLE_US 57:44 (R680). -/
def F.pwrPolicy_linkIdleUs : Fld := { base := 0x10020, stride := 8, count := 1, lo := 44, width := 14, acc := .rw, reset := .const 2000, range := some (100, 16000), held := true }
/-- PWR_WAKE_BOUND.BOUND_MS 6:0 (R680). -/
def F.pwrWakeBound_boundMs : Fld := { base := 0x10028, stride := 8, count := 1, lo := 0, width := 7, acc := .rw, reset := .const 10, range := some (5, 100), held := true }
/-- PWR_CMD.OP 1:0 (R681). -/
def F.pwrCmd_op : Fld := { base := 0x10030, stride := 8, count := 1, lo := 0, width := 2, acc := .rw, reset := .const 0 }
/-- PWR_CMD.BUSY 2 (R681). -/
def F.pwrCmd_busy : Fld := { base := 0x10030, stride := 8, count := 1, lo := 2, width := 1, acc := .ro, reset := .const 0 }
/-- PWR_CMD.CODE 10:3 (R681). -/
def F.pwrCmd_code : Fld := { base := 0x10030, stride := 8, count := 1, lo := 3, width := 8, acc := .ro, reset := .const 0 }
/-- PWR_PIN.WAKE_LEVEL 0 (R682). -/
def F.pwrPin_wakeLevel : Fld := { base := 0x10038, stride := 8, count := 1, lo := 0, width := 1, acc := .ro, reset := .const 0 }
/-- PWR_PIN.WAKE_STATE 2:1 (R682). -/
def F.pwrPin_wakeState : Fld := { base := 0x10038, stride := 8, count := 1, lo := 1, width := 2, acc := .ro, reset := .const 0 }
/-- PWR_PIN.PERST_LEVEL 3 (R682). -/
def F.pwrPin_perstLevel : Fld := { base := 0x10038, stride := 8, count := 1, lo := 3, width := 1, acc := .ro, reset := .const 0 }
/-- PWR_PIN.PERST_STATE 5:4 (R682). -/
def F.pwrPin_perstState : Fld := { base := 0x10038, stride := 8, count := 1, lo := 4, width := 2, acc := .ro, reset := .const 0 }
/-- PWR_PIN.THERM_LEVEL 6 (R682). -/
def F.pwrPin_thermLevel : Fld := { base := 0x10038, stride := 8, count := 1, lo := 6, width := 1, acc := .ro, reset := .const 0 }
/-- PWR_PIN.THERM_STATE 8:7 (R682). -/
def F.pwrPin_thermState : Fld := { base := 0x10038, stride := 8, count := 1, lo := 7, width := 2, acc := .ro, reset := .const 0 }
/-- PWR_PIN.ALERT_DRIVEN 9 (R682). -/
def F.pwrPin_alertDriven : Fld := { base := 0x10038, stride := 8, count := 1, lo := 9, width := 1, acc := .ro, reset := .const 0 }
/-- PWR_ENERGY.JOULES 63:0 (R682). -/
def F.pwrEnergy_joules : Fld := { base := 0x10040, stride := 8, count := 1, lo := 0, width := 64, acc := .ro, reset := .const 0 }
/-- PWR_SLEEP_COUNT.SLEEPS 31:0 (R682). -/
def F.pwrSleepCount_sleeps : Fld := { base := 0x10048, stride := 8, count := 1, lo := 0, width := 32, acc := .rc, reset := .const 0 }
/-- PWR_SLEEP_COUNT.WAKES 63:32 (R682). -/
def F.pwrSleepCount_wakes : Fld := { base := 0x10048, stride := 8, count := 1, lo := 32, width := 32, acc := .rc, reset := .const 0 }
/-- PWR_TEMP.TEMP 9:0 (R683). -/
def F.pwrTemp_temp : Fld := { base := 0x10100, stride := 8, count := 16, lo := 0, width := 10, acc := .ro, reset := .const 0 }
/-- PWR_TEMP.STAGE 11:10 (R683). -/
def F.pwrTemp_stage : Fld := { base := 0x10100, stride := 8, count := 16, lo := 10, width := 2, acc := .ro, reset := .const 0 }
/-- PWR_TEMP.VALID 12 (R683). -/
def F.pwrTemp_valid : Fld := { base := 0x10100, stride := 8, count := 16, lo := 12, width := 1, acc := .ro, reset := .const 0 }
/-- PWR_RAIL.MV 15:0 (R683). -/
def F.pwrRail_mv : Fld := { base := 0x10200, stride := 8, count := 8, lo := 0, width := 16, acc := .ro, reset := .const 0 }
/-- PWR_RAIL.AMPS 27:16 (R683). -/
def F.pwrRail_amps : Fld := { base := 0x10200, stride := 8, count := 8, lo := 16, width := 12, acc := .ro, reset := .const 0 }
/-- PWR_RAIL.ON 28 (R683). -/
def F.pwrRail_on : Fld := { base := 0x10200, stride := 8, count := 8, lo := 28, width := 1, acc := .ro, reset := .const 0 }

/-- The registers of PWR. -/
def pwrRegs : List RegDesc := [
  ⟨0x10000, 8, 1, [F.pwrCap_rails, F.pwrCap_sensors, F.pwrCap_maxW]⟩,
  ⟨0x10008, 8, 1, [F.pwrState_mode, F.pwrState_crustCause, F.pwrState_stage, F.pwrState_shadow, F.pwrState_sleepingPartner]⟩,
  ⟨0x10010, 8, 1, [F.pwrStatus_undervolt, F.pwrStatus_overvolt, F.pwrStatus_thermStage1, F.pwrStatus_thermStage2, F.pwrStatus_thermStage3, F.pwrStatus_pinChatter, F.pwrStatus_pinHeld, F.pwrStatus_wakeTimeout, F.pwrStatus_shadowTakeover, F.pwrStatus_sleepAbandoned, F.pwrStatus_dieFault]⟩,
  ⟨0x10018, 8, 1, [F.pwrInput_mv, F.pwrInput_ca, F.pwrInput_watts]⟩,
  ⟨0x10020, 8, 1, [F.pwrPolicy_restWales, F.pwrPolicy_sleepWales, F.pwrPolicy_sleepOk, F.pwrPolicy_clusterIdleUs, F.pwrPolicy_linkIdleUs]⟩,
  ⟨0x10028, 8, 1, [F.pwrWakeBound_boundMs]⟩,
  ⟨0x10030, 8, 1, [F.pwrCmd_op, F.pwrCmd_busy, F.pwrCmd_code]⟩,
  ⟨0x10038, 8, 1, [F.pwrPin_wakeLevel, F.pwrPin_wakeState, F.pwrPin_perstLevel, F.pwrPin_perstState, F.pwrPin_thermLevel, F.pwrPin_thermState, F.pwrPin_alertDriven]⟩,
  ⟨0x10040, 8, 1, [F.pwrEnergy_joules]⟩,
  ⟨0x10048, 8, 1, [F.pwrSleepCount_sleeps, F.pwrSleepCount_wakes]⟩,
  ⟨0x10100, 8, 16, [F.pwrTemp_temp, F.pwrTemp_stage, F.pwrTemp_valid]⟩,
  ⟨0x10200, 8, 8, [F.pwrRail_mv, F.pwrRail_amps, F.pwrRail_on]⟩]

/-! ### WEAVE (offset 0x20000, R696) -/

/-- WEAVE_CAP.SLOT_MIB 7:0 (R612). -/
def F.weaveCap_slotMib : Fld := { base := 0x20000, stride := 8, count := 1, lo := 0, width := 8, acc := .ro, reset := .const 128 }
/-- WEAVE_CAP.SECTIONS 20:8 (R612). -/
def F.weaveCap_sections : Fld := { base := 0x20000, stride := 8, count := 1, lo := 8, width := 13, acc := .ro, reset := .const 4096 }
/-- WEAVE_CAP.FORMAT 24:21 (R612). -/
def F.weaveCap_format : Fld := { base := 0x20000, stride := 8, count := 1, lo := 21, width := 4, acc := .ro, reset := .const 1 }
/-- WEAVE_STATE.RUNNING 0 (R612). -/
def F.weaveState_running : Fld := { base := 0x20008, stride := 8, count := 1, lo := 0, width := 1, acc := .ro, reset := .const 0 }
/-- WEAVE_STATE.ACTIVE 1 (R612). -/
def F.weaveState_active : Fld := { base := 0x20008, stride := 8, count := 1, lo := 1, width := 1, acc := .ro, reset := .const 0 }
/-- WEAVE_STATE.STANDING 2 (R612). -/
def F.weaveState_standing : Fld := { base := 0x20008, stride := 8, count := 1, lo := 2, width := 1, acc := .ro, reset := .const 0 }
/-- WEAVE_STATE.WARM 3 (R612). -/
def F.weaveState_warm : Fld := { base := 0x20008, stride := 8, count := 1, lo := 3, width := 1, acc := .ro, reset := .const 0 }
/-- WEAVE_STATE.CRUST_IMAGE 4 (R612). -/
def F.weaveState_crustImage : Fld := { base := 0x20008, stride := 8, count := 1, lo := 4, width := 1, acc := .ro, reset := .const 0 }
/-- WEAVE_STATE.STAGED 5 (R612). -/
def F.weaveState_staged : Fld := { base := 0x20008, stride := 8, count := 1, lo := 5, width := 1, acc := .ro, reset := .const 0 }
/-- WEAVE_STATE.PARTIALS 21:6 (R612). -/
def F.weaveState_partials : Fld := { base := 0x20008, stride := 8, count := 1, lo := 6, width := 16, acc := .ro, reset := .const 0 }
/-- WEAVE_STATUS.REJECTED 0 (R613). -/
def F.weaveStatus_rejected : Fld := { base := 0x20010, stride := 8, count := 1, lo := 0, width := 1, acc := .w1c, reset := .const 0 }
/-- WEAVE_STATUS.CRUST_FALLBACK 1 (R613). -/
def F.weaveStatus_crustFallback : Fld := { base := 0x20010, stride := 8, count := 1, lo := 1, width := 1, acc := .w1c, reset := .const 0 }
/-- WEAVE_STATUS.NO_IMAGE 2 (R613). -/
def F.weaveStatus_noImage : Fld := { base := 0x20010, stride := 8, count := 1, lo := 2, width := 1, acc := .w1c, reset := .const 0 }
/-- WEAVE_STATUS.STAND_MISMATCH 3 (R613). -/
def F.weaveStatus_standMismatch : Fld := { base := 0x20010, stride := 8, count := 1, lo := 3, width := 1, acc := .w1c, reset := .const 0 }
/-- WEAVE_STATUS.TRAIN_T0 4 (R613). -/
def F.weaveStatus_trainT0 : Fld := { base := 0x20010, stride := 8, count := 1, lo := 4, width := 1, acc := .w1c, reset := .const 0 }
/-- WEAVE_STATUS.TRAIN_T1 5 (R613). -/
def F.weaveStatus_trainT1 : Fld := { base := 0x20010, stride := 8, count := 1, lo := 5, width := 1, acc := .w1c, reset := .const 0 }
/-- WEAVE_STATUS.STAGE_REFUSED 6 (R613). -/
def F.weaveStatus_stageRefused : Fld := { base := 0x20010, stride := 8, count := 1, lo := 6, width := 1, acc := .w1c, reset := .const 0 }
/-- WEAVE_STATUS.RELOAD_ABANDONED 7 (R613). -/
def F.weaveStatus_reloadAbandoned : Fld := { base := 0x20010, stride := 8, count := 1, lo := 7, width := 1, acc := .w1c, reset := .const 0 }
/-- WEAVE_STATUS.RELOAD_APPLIED 8 (R613). -/
def F.weaveStatus_reloadApplied : Fld := { base := 0x20010, stride := 8, count := 1, lo := 8, width := 1, acc := .w1c, reset := .const 0, silent := true }
/-- WEAVE_STATUS.SLOT_WRITE_FAIL 9 (R613). -/
def F.weaveStatus_slotWriteFail : Fld := { base := 0x20010, stride := 8, count := 1, lo := 9, width := 1, acc := .w1c, reset := .const 0 }
/-- WEAVE_IMAGE_ID.ALL 63:0 (R614). -/
def F.weaveImageId_all : Fld := { base := 0x20018, stride := 8, count := 1, lo := 0, width := 64, acc := .ro, reset := .const 0 }
/-- WEAVE_STAND_DIGEST.ALL 63:0 (R614). -/
def F.weaveStandDigest_all : Fld := { base := 0x20020, stride := 8, count := 1, lo := 0, width := 64, acc := .ro, reset := .const 0 }
/-- WEAVE_ROLLBACK.COUNTER 31:0 (R614). -/
def F.weaveRollback_counter : Fld := { base := 0x20028, stride := 8, count := 1, lo := 0, width := 32, acc := .ro, reset := .const 0 }
/-- WEAVE_ROLLBACK.IMAGE 63:32 (R614). -/
def F.weaveRollback_image : Fld := { base := 0x20028, stride := 8, count := 1, lo := 32, width := 32, acc := .ro, reset := .const 0 }
/-- WEAVE_ARG.ALL 63:0 (R614). -/
def F.weaveArg_all : Fld := { base := 0x20030, stride := 8, count := 1, lo := 0, width := 64, acc := .rw, reset := .const 0 }
/-- WEAVE_CMD.OP 2:0 (R615). -/
def F.weaveCmd_op : Fld := { base := 0x20038, stride := 8, count := 1, lo := 0, width := 3, acc := .rw, reset := .const 0 }
/-- WEAVE_CMD.SLOT 3 (R615). -/
def F.weaveCmd_slot : Fld := { base := 0x20038, stride := 8, count := 1, lo := 3, width := 1, acc := .rw, reset := .const 0 }
/-- WEAVE_CMD.BUSY 4 (R615). -/
def F.weaveCmd_busy : Fld := { base := 0x20038, stride := 8, count := 1, lo := 4, width := 1, acc := .ro, reset := .const 0 }
/-- WEAVE_RESULT.CODE 7:0 (R616). -/
def F.weaveResult_code : Fld := { base := 0x20040, stride := 8, count := 1, lo := 0, width := 8, acc := .ro, reset := .const 0 }
/-- WEAVE_RESULT.CHECK 11:8 (R616). -/
def F.weaveResult_check : Fld := { base := 0x20040, stride := 8, count := 1, lo := 8, width := 4, acc := .ro, reset := .const 0 }
/-- WEAVE_RESULT.SECTION 23:12 (R616). -/
def F.weaveResult_section : Fld := { base := 0x20040, stride := 8, count := 1, lo := 12, width := 12, acc := .ro, reset := .const 0 }
/-- WEAVE_RESULT.OFFSET 50:24 (R616). -/
def F.weaveResult_offset : Fld := { base := 0x20040, stride := 8, count := 1, lo := 24, width := 27, acc := .ro, reset := .const 0 }
/-- WEAVE_FORM_BOUND.BOUND_S 9:0 (R616). -/
def F.weaveFormBound_boundS : Fld := { base := 0x20048, stride := 8, count := 1, lo := 0, width := 10, acc := .rw, reset := .const 120, range := some (10, 600) }
/-- WEAVE_START_TIME.MS 31:0 (R616). -/
def F.weaveStartTime_ms : Fld := { base := 0x20050, stride := 8, count := 1, lo := 0, width := 32, acc := .ro, reset := .const 0 }

/-- The registers of WEAVE. -/
def weaveRegs : List RegDesc := [
  ⟨0x20000, 8, 1, [F.weaveCap_slotMib, F.weaveCap_sections, F.weaveCap_format]⟩,
  ⟨0x20008, 8, 1, [F.weaveState_running, F.weaveState_active, F.weaveState_standing, F.weaveState_warm, F.weaveState_crustImage, F.weaveState_staged, F.weaveState_partials]⟩,
  ⟨0x20010, 8, 1, [F.weaveStatus_rejected, F.weaveStatus_crustFallback, F.weaveStatus_noImage, F.weaveStatus_standMismatch, F.weaveStatus_trainT0, F.weaveStatus_trainT1, F.weaveStatus_stageRefused, F.weaveStatus_reloadAbandoned, F.weaveStatus_reloadApplied, F.weaveStatus_slotWriteFail]⟩,
  ⟨0x20018, 8, 1, [F.weaveImageId_all]⟩,
  ⟨0x20020, 8, 1, [F.weaveStandDigest_all]⟩,
  ⟨0x20028, 8, 1, [F.weaveRollback_counter, F.weaveRollback_image]⟩,
  ⟨0x20030, 8, 1, [F.weaveArg_all]⟩,
  ⟨0x20038, 8, 1, [F.weaveCmd_op, F.weaveCmd_slot, F.weaveCmd_busy]⟩,
  ⟨0x20040, 8, 1, [F.weaveResult_code, F.weaveResult_check, F.weaveResult_section, F.weaveResult_offset]⟩,
  ⟨0x20048, 8, 1, [F.weaveFormBound_boundS]⟩,
  ⟨0x20050, 8, 1, [F.weaveStartTime_ms]⟩]

/-! ### TIER (offset 0x40000, R696) -/

/-- TIER_CAP.T0_FRAMES 23:0 (R111). -/
def F.tierCap_t0Frames : Fld := { base := 0x40000, stride := 8, count := 1, lo := 0, width := 24, acc := .ro, reset := .perCode 1953125 976562 488281 }
/-- TIER_CAP.T1_FRAMES 47:24 (R111). -/
def F.tierCap_t1Frames : Fld := { base := 0x40000, stride := 8, count := 1, lo := 24, width := 24, acc := .ro, reset := .perCode 7596626 3798313 3798313 }
/-- TIER_STORE_SIZE.SIZE 47:0 (R112). -/
def F.tierStoreSize_size : Fld := { base := 0x40008, stride := 8, count := 1, lo := 0, width := 48, acc := .ro, reset := .weave }
/-- TIER_T2_CAP.T2_SECTORS 35:0 (R112). -/
def F.tierT2Cap_t2Sectors : Fld := { base := 0x40010, stride := 8, count := 1, lo := 0, width := 36, acc := .ro, reset := .const 0 }
/-- TIER_T2_CAP.DRIVES 40:36 (R112). -/
def F.tierT2Cap_drives : Fld := { base := 0x40010, stride := 8, count := 1, lo := 36, width := 5, acc := .ro, reset := .const 0 }
/-- TIER_FREE.T0_FREE 23:0 (R112). -/
def F.tierFree_t0Free : Fld := { base := 0x40018, stride := 8, count := 1, lo := 0, width := 24, acc := .ro, reset := .perCode 1953125 976562 488281 }
/-- TIER_FREE.T1_FREE 47:24 (R112). -/
def F.tierFree_t1Free : Fld := { base := 0x40018, stride := 8, count := 1, lo := 24, width := 24, acc := .ro, reset := .perCode 7596626 3798313 3798313 }
/-- TIER_T2_FREE.T2_FREE 35:0 (R112). -/
def F.tierT2Free_t2Free : Fld := { base := 0x40020, stride := 8, count := 1, lo := 0, width := 36, acc := .ro, reset := .const 0 }
/-- TIER_MODE.POOL 0 (R113). -/
def F.tierMode_pool : Fld := { base := 0x40028, stride := 8, count := 1, lo := 0, width := 1, acc := .ro, reset := .weave }
/-- TIER_MODE.SEAL_T1_COPY 1 (R113). -/
def F.tierMode_sealT1Copy : Fld := { base := 0x40028, stride := 8, count := 1, lo := 1, width := 1, acc := .rw, reset := .const 1, held := true }
/-- TIER_MODE.AGE_SHIFT 11:8 (R113). -/
def F.tierMode_ageShift : Fld := { base := 0x40028, stride := 8, count := 1, lo := 8, width := 4, acc := .rw, reset := .const 4, held := true }
/-- TIER_STATUS.UE_T0 0 (R114). -/
def F.tierStatus_ueT0 : Fld := { base := 0x40030, stride := 8, count := 1, lo := 0, width := 1, acc := .w1c, reset := .const 0 }
/-- TIER_STATUS.UE_T1 1 (R114). -/
def F.tierStatus_ueT1 : Fld := { base := 0x40030, stride := 8, count := 1, lo := 1, width := 1, acc := .w1c, reset := .const 0 }
/-- TIER_STATUS.UE_T2 2 (R114). -/
def F.tierStatus_ueT2 : Fld := { base := 0x40030, stride := 8, count := 1, lo := 2, width := 1, acc := .w1c, reset := .const 0 }
/-- TIER_STATUS.CRC_MISMATCH 3 (R114). -/
def F.tierStatus_crcMismatch : Fld := { base := 0x40030, stride := 8, count := 1, lo := 3, width := 1, acc := .w1c, reset := .const 0 }
/-- TIER_STATUS.REFETCH_LOCAL 4 (R114). -/
def F.tierStatus_refetchLocal : Fld := { base := 0x40030, stride := 8, count := 1, lo := 4, width := 1, acc := .w1c, reset := .const 0 }
/-- TIER_STATUS.REFETCH_PARTNER 5 (R114). -/
def F.tierStatus_refetchPartner : Fld := { base := 0x40030, stride := 8, count := 1, lo := 5, width := 1, acc := .w1c, reset := .const 0 }
/-- TIER_STATUS.QUARANTINED 6 (R114). -/
def F.tierStatus_quarantined : Fld := { base := 0x40030, stride := 8, count := 1, lo := 6, width := 1, acc := .w1c, reset := .const 0 }
/-- TIER_STATUS.DRIVE_LOST 7 (R114). -/
def F.tierStatus_driveLost : Fld := { base := 0x40030, stride := 8, count := 1, lo := 7, width := 1, acc := .w1c, reset := .const 0 }
/-- TIER_STATUS.OP_OVERRUN 8 (R114). -/
def F.tierStatus_opOverrun : Fld := { base := 0x40030, stride := 8, count := 1, lo := 8, width := 1, acc := .w1c, reset := .const 0, silent := true }
/-- TIER_STATUS.STREAM_STALL 9 (R114). -/
def F.tierStatus_streamStall : Fld := { base := 0x40030, stride := 8, count := 1, lo := 9, width := 1, acc := .w1c, reset := .const 0 }
/-- TIER_STATUS.PREFETCH_LATE 10 (R114). -/
def F.tierStatus_prefetchLate : Fld := { base := 0x40030, stride := 8, count := 1, lo := 10, width := 1, acc := .w1c, reset := .const 0 }
/-- TIER_REFETCH_BOUND.BOUND_US 17:0 (R115). -/
def F.tierRefetchBound_boundUs : Fld := { base := 0x40038, stride := 8, count := 1, lo := 0, width := 18, acc := .rw, reset := .const 20000, range := some (1000, 200000) }
/-- TIER_OP_ADDR.ALL 63:0 (R116). -/
def F.tierOpAddr_all : Fld := { base := 0x40040, stride := 8, count := 1, lo := 0, width := 64, acc := .rw, reset := .const 0 }
/-- TIER_OP_SRC.ALL 63:0 (R116). -/
def F.tierOpSrc_all : Fld := { base := 0x40048, stride := 8, count := 1, lo := 0, width := 64, acc := .rw, reset := .const 0 }
/-- TIER_OP_CMD.OP 3:0 (R117). -/
def F.tierOpCmd_op : Fld := { base := 0x40050, stride := 8, count := 1, lo := 0, width := 4, acc := .rw, reset := .const 0 }
/-- TIER_OP_CMD.TIER 4 (R117). -/
def F.tierOpCmd_tier : Fld := { base := 0x40050, stride := 8, count := 1, lo := 4, width := 1, acc := .rw, reset := .const 0 }
/-- TIER_OP_CMD.PACKED 5 (R117). -/
def F.tierOpCmd_packed : Fld := { base := 0x40050, stride := 8, count := 1, lo := 5, width := 1, acc := .rw, reset := .const 0 }
/-- TIER_OP_CMD.T1_COPY 6 (R117). -/
def F.tierOpCmd_t1Copy : Fld := { base := 0x40050, stride := 8, count := 1, lo := 6, width := 1, acc := .rw, reset := .const 0 }
/-- TIER_OP_CMD.ELEM 8:7 (R117). -/
def F.tierOpCmd_elem : Fld := { base := 0x40050, stride := 8, count := 1, lo := 7, width := 2, acc := .rw, reset := .const 1 }
/-- TIER_OP_CMD.BUSY 9 (R117). -/
def F.tierOpCmd_busy : Fld := { base := 0x40050, stride := 8, count := 1, lo := 9, width := 1, acc := .ro, reset := .const 0 }
/-- TIER_OP_RESULT.CODE 7:0 (R118). -/
def F.tierOpResult_code : Fld := { base := 0x40058, stride := 8, count := 1, lo := 0, width := 8, acc := .ro, reset := .const 0 }
/-- TIER_OP_RESULT.BSTATE 10:8 (R118). -/
def F.tierOpResult_bstate : Fld := { base := 0x40058, stride := 8, count := 1, lo := 8, width := 3, acc := .ro, reset := .const 0 }
/-- TIER_OP_RESULT.LIVE_TIER 11 (R118). -/
def F.tierOpResult_liveTier : Fld := { base := 0x40058, stride := 8, count := 1, lo := 11, width := 1, acc := .ro, reset := .const 0 }
/-- TIER_OP_RESULT.T0_COPY 13:12 (R118). -/
def F.tierOpResult_t0Copy : Fld := { base := 0x40058, stride := 8, count := 1, lo := 12, width := 2, acc := .ro, reset := .const 0 }
/-- TIER_OP_RESULT.T1_COPY 15:14 (R118). -/
def F.tierOpResult_t1Copy : Fld := { base := 0x40058, stride := 8, count := 1, lo := 14, width := 2, acc := .ro, reset := .const 0 }
/-- TIER_OP_RESULT.T0_PACKED 16 (R118). -/
def F.tierOpResult_t0Packed : Fld := { base := 0x40058, stride := 8, count := 1, lo := 16, width := 1, acc := .ro, reset := .const 0 }
/-- TIER_OP_RESULT.CODEC 31:24 (R118). -/
def F.tierOpResult_codec : Fld := { base := 0x40058, stride := 8, count := 1, lo := 24, width := 8, acc := .ro, reset := .const 0 }
/-- TIER_OP_RESULT.REFCOUNT 47:32 (R118). -/
def F.tierOpResult_refcount : Fld := { base := 0x40058, stride := 8, count := 1, lo := 32, width := 16, acc := .ro, reset := .const 0 }
/-- TIER_EVICT_COUNT.COUNT 63:0 (R119). -/
def F.tierEvictCount_count : Fld := { base := 0x40060, stride := 8, count := 1, lo := 0, width := 64, acc := .rc, reset := .const 0 }
/-- TIER_SINK_CANCEL_COUNT.COUNT 63:0 (R119). -/
def F.tierSinkCancelCount_count : Fld := { base := 0x40068, stride := 8, count := 1, lo := 0, width := 64, acc := .rc, reset := .const 0 }
/-- TIER_STREAM.LAYER 9:0 (R120). -/
def F.tierStream_layer : Fld := { base := 0x40100, stride := 8, count := 4, lo := 0, width := 10, acc := .ro, reset := .const 0 }
/-- TIER_STREAM.WINDOW 20:10 (R120). -/
def F.tierStream_window : Fld := { base := 0x40100, stride := 8, count := 4, lo := 10, width := 11, acc := .ro, reset := .const 0 }
/-- TIER_STREAM.READY_AHEAD 31:21 (R120). -/
def F.tierStream_readyAhead : Fld := { base := 0x40100, stride := 8, count := 4, lo := 21, width := 11, acc := .ro, reset := .const 0 }
/-- TIER_STREAM.STATE 34:32 (R120). -/
def F.tierStream_state : Fld := { base := 0x40100, stride := 8, count := 4, lo := 32, width := 3, acc := .ro, reset := .const 0 }
/-- TIER_STREAM.PACKED 35 (R120). -/
def F.tierStream_packed : Fld := { base := 0x40100, stride := 8, count := 4, lo := 35, width := 1, acc := .ro, reset := .const 0 }
/-- TIER_RESV_LIMIT.T0_LIMIT 23:0 (R121). -/
def F.tierResvLimit_t0Limit : Fld := { base := 0x41000, stride := 8, count := 256, lo := 0, width := 24, acc := .rw, reset := .weave, held := true }
/-- TIER_RESV_LIMIT.T1_LIMIT 47:24 (R121). -/
def F.tierResvLimit_t1Limit : Fld := { base := 0x41000, stride := 8, count := 256, lo := 24, width := 24, acc := .rw, reset := .weave, held := true }
/-- TIER_RESV_USED.T0_USED 23:0 (R121). -/
def F.tierResvUsed_t0Used : Fld := { base := 0x41800, stride := 8, count := 256, lo := 0, width := 24, acc := .ro, reset := .const 0 }
/-- TIER_RESV_USED.T1_USED 47:24 (R121). -/
def F.tierResvUsed_t1Used : Fld := { base := 0x41800, stride := 8, count := 256, lo := 24, width := 24, acc := .ro, reset := .const 0 }

/-- The registers of TIER, part 1. -/
def tierRegs0 : List RegDesc := [
  ⟨0x40000, 8, 1, [F.tierCap_t0Frames, F.tierCap_t1Frames]⟩,
  ⟨0x40008, 8, 1, [F.tierStoreSize_size]⟩,
  ⟨0x40010, 8, 1, [F.tierT2Cap_t2Sectors, F.tierT2Cap_drives]⟩,
  ⟨0x40018, 8, 1, [F.tierFree_t0Free, F.tierFree_t1Free]⟩,
  ⟨0x40020, 8, 1, [F.tierT2Free_t2Free]⟩,
  ⟨0x40028, 8, 1, [F.tierMode_pool, F.tierMode_sealT1Copy, F.tierMode_ageShift]⟩,
  ⟨0x40030, 8, 1, [F.tierStatus_ueT0, F.tierStatus_ueT1, F.tierStatus_ueT2, F.tierStatus_crcMismatch, F.tierStatus_refetchLocal, F.tierStatus_refetchPartner, F.tierStatus_quarantined, F.tierStatus_driveLost, F.tierStatus_opOverrun, F.tierStatus_streamStall, F.tierStatus_prefetchLate]⟩,
  ⟨0x40038, 8, 1, [F.tierRefetchBound_boundUs]⟩,
  ⟨0x40040, 8, 1, [F.tierOpAddr_all]⟩,
  ⟨0x40048, 8, 1, [F.tierOpSrc_all]⟩,
  ⟨0x40050, 8, 1, [F.tierOpCmd_op, F.tierOpCmd_tier, F.tierOpCmd_packed, F.tierOpCmd_t1Copy, F.tierOpCmd_elem, F.tierOpCmd_busy]⟩,
  ⟨0x40058, 8, 1, [F.tierOpResult_code, F.tierOpResult_bstate, F.tierOpResult_liveTier, F.tierOpResult_t0Copy, F.tierOpResult_t1Copy, F.tierOpResult_t0Packed, F.tierOpResult_codec, F.tierOpResult_refcount]⟩,
  ⟨0x40060, 8, 1, [F.tierEvictCount_count]⟩,
  ⟨0x40068, 8, 1, [F.tierSinkCancelCount_count]⟩,
  ⟨0x40100, 8, 4, [F.tierStream_layer, F.tierStream_window, F.tierStream_readyAhead, F.tierStream_state, F.tierStream_packed]⟩,
  ⟨0x41000, 8, 256, [F.tierResvLimit_t0Limit, F.tierResvLimit_t1Limit]⟩]

/-- The registers of TIER, part 2. -/
def tierRegs1 : List RegDesc := [
  ⟨0x41800, 8, 256, [F.tierResvUsed_t0Used, F.tierResvUsed_t1Used]⟩]

/-- The registers of TIER. -/
def tierRegs : List RegDesc := tierRegs0 ++ tierRegs1

/-! ### XLT (offset 0x60000, R696) -/

/-- XLT_CAP.ENTRIES 22:0 (R156). -/
def F.xltCap_entries : Fld := { base := 0x60000, stride := 8, count := 1, lo := 0, width := 23, acc := .ro, reset := .const 4194304 }
/-- XLT_CAP.L2_ENTRIES 36:23 (R156). -/
def F.xltCap_l2Entries : Fld := { base := 0x60000, stride := 8, count := 1, lo := 23, width := 14, acc := .ro, reset := .const 8192 }
/-- XLT_CAP.BUF_ENTRIES 44:37 (R156). -/
def F.xltCap_bufEntries : Fld := { base := 0x60000, stride := 8, count := 1, lo := 37, width := 8, acc := .ro, reset := .const 32 }
/-- XLT_USED.USED 22:0 (R156). -/
def F.xltUsed_used : Fld := { base := 0x60008, stride := 8, count := 1, lo := 0, width := 23, acc := .ro, reset := .weave }
/-- XLT_STATUS.REVOKE_ABORT 0 (R157). -/
def F.xltStatus_revokeAbort : Fld := { base := 0x60010, stride := 8, count := 1, lo := 0, width := 1, acc := .w1c, reset := .const 0 }
/-- XLT_STATUS.FILL_FAILED 1 (R157). -/
def F.xltStatus_fillFailed : Fld := { base := 0x60010, stride := 8, count := 1, lo := 1, width := 1, acc := .w1c, reset := .const 0 }
/-- XLT_STATUS.WALK_UE 2 (R157). -/
def F.xltStatus_walkUe : Fld := { base := 0x60010, stride := 8, count := 1, lo := 2, width := 1, acc := .w1c, reset := .const 0 }
/-- XLT_STATUS.EDIT_OVERRUN 3 (R157). -/
def F.xltStatus_editOverrun : Fld := { base := 0x60010, stride := 8, count := 1, lo := 3, width := 1, acc := .w1c, reset := .const 0, silent := true }
/-- XLT_REVOKE_BOUND.BOUND_US 13:0 (R158). -/
def F.xltRevokeBound_boundUs : Fld := { base := 0x60018, stride := 8, count := 1, lo := 0, width := 14, acc := .rw, reset := .const 100, range := some (5, 10000) }
/-- XLT_EDIT_W0.ALL 63:0 (R159). -/
def F.xltEditW0_all : Fld := { base := 0x60020, stride := 8, count := 1, lo := 0, width := 64, acc := .rw, reset := .const 0 }
/-- XLT_EDIT_W1.ALL 63:0 (R159). -/
def F.xltEditW1_all : Fld := { base := 0x60028, stride := 8, count := 1, lo := 0, width := 64, acc := .rw, reset := .const 0 }
/-- XLT_EDIT_CMD.OP 2:0 (R160). -/
def F.xltEditCmd_op : Fld := { base := 0x60030, stride := 8, count := 1, lo := 0, width := 3, acc := .rw, reset := .const 0 }
/-- XLT_EDIT_CMD.BUSY 3 (R160). -/
def F.xltEditCmd_busy : Fld := { base := 0x60030, stride := 8, count := 1, lo := 3, width := 1, acc := .ro, reset := .const 0 }
/-- XLT_EDIT_RESULT.CODE 7:0 (R160). -/
def F.xltEditResult_code : Fld := { base := 0x60038, stride := 8, count := 1, lo := 0, width := 8, acc := .ro, reset := .const 0 }
/-- XLT_EDIT_RESULT.STATE 9:8 (R160). -/
def F.xltEditResult_state : Fld := { base := 0x60038, stride := 8, count := 1, lo := 8, width := 2, acc := .ro, reset := .const 0 }
/-- XLT_EDIT_RESULT.ABORTED 41:10 (R160). -/
def F.xltEditResult_aborted : Fld := { base := 0x60038, stride := 8, count := 1, lo := 10, width := 32, acc := .ro, reset := .const 0 }
/-- XLT_SHOOTDOWN_COUNT.COUNT 63:0 (R161). -/
def F.xltShootdownCount_count : Fld := { base := 0x60040, stride := 8, count := 1, lo := 0, width := 64, acc := .rc, reset := .const 0 }
/-- XLT_FILL_COUNT.COUNT 63:0 (R161). -/
def F.xltFillCount_count : Fld := { base := 0x60048, stride := 8, count := 1, lo := 0, width := 64, acc := .rc, reset := .const 0 }
/-- XLT_L2_MISS.COUNT 63:0 (R161). -/
def F.xltL2Miss_count : Fld := { base := 0x60100, stride := 8, count := 4, lo := 0, width := 64, acc := .rc, reset := .const 0 }
/-- XLT_FILL_OPEN.OPEN 8:0 (R162). -/
def F.xltFillOpen_open : Fld := { base := 0x60200, stride := 8, count := 4, lo := 0, width := 9, acc := .ro, reset := .const 0 }
/-- XLT_FILL_OPEN.WAITING 21:9 (R162). -/
def F.xltFillOpen_waiting : Fld := { base := 0x60200, stride := 8, count := 4, lo := 9, width := 13, acc := .ro, reset := .const 0 }

/-- The registers of XLT. -/
def xltRegs : List RegDesc := [
  ⟨0x60000, 8, 1, [F.xltCap_entries, F.xltCap_l2Entries, F.xltCap_bufEntries]⟩,
  ⟨0x60008, 8, 1, [F.xltUsed_used]⟩,
  ⟨0x60010, 8, 1, [F.xltStatus_revokeAbort, F.xltStatus_fillFailed, F.xltStatus_walkUe, F.xltStatus_editOverrun]⟩,
  ⟨0x60018, 8, 1, [F.xltRevokeBound_boundUs]⟩,
  ⟨0x60020, 8, 1, [F.xltEditW0_all]⟩,
  ⟨0x60028, 8, 1, [F.xltEditW1_all]⟩,
  ⟨0x60030, 8, 1, [F.xltEditCmd_op, F.xltEditCmd_busy]⟩,
  ⟨0x60038, 8, 1, [F.xltEditResult_code, F.xltEditResult_state, F.xltEditResult_aborted]⟩,
  ⟨0x60040, 8, 1, [F.xltShootdownCount_count]⟩,
  ⟨0x60048, 8, 1, [F.xltFillCount_count]⟩,
  ⟨0x60100, 8, 4, [F.xltL2Miss_count]⟩,
  ⟨0x60200, 8, 4, [F.xltFillOpen_open, F.xltFillOpen_waiting]⟩]

/-! ### CELL (offset 0x80000, R696) -/

/-- CELL_CAP.CELLS 7:0 (R215). -/
def F.cellCap_cells : Fld := { base := 0x80000, stride := 8, count := 1, lo := 0, width := 8, acc := .ro, reset := .perCode 128 64 32 }
/-- CELL_CAP.SRAM_KIB 21:8 (R215). -/
def F.cellCap_sramKib : Fld := { base := 0x80000, stride := 8, count := 1, lo := 8, width := 14, acc := .ro, reset := .const 8192 }
/-- CELL_CAP.MOVER_CHANNELS 25:22 (R215). -/
def F.cellCap_moverChannels : Fld := { base := 0x80000, stride := 8, count := 1, lo := 22, width := 4, acc := .ro, reset := .const 8 }
/-- CELL_CAP.EXT_VERSION 29:26 (R215). -/
def F.cellCap_extVersion : Fld := { base := 0x80000, stride := 8, count := 1, lo := 26, width := 4, acc := .ro, reset := .const 1 }
/-- CELL_STATUS.OVF 0 (R216). -/
def F.cellStatus_ovf : Fld := { base := 0x80008, stride := 8, count := 1, lo := 0, width := 1, acc := .w1c, reset := .const 0, silent := true }
/-- CELL_STATUS.TRAP 1 (R216). -/
def F.cellStatus_trap : Fld := { base := 0x80008, stride := 8, count := 1, lo := 1, width := 1, acc := .w1c, reset := .const 0 }
/-- CELL_STATUS.WAIT_TIMEOUT 2 (R216). -/
def F.cellStatus_waitTimeout : Fld := { base := 0x80008, stride := 8, count := 1, lo := 2, width := 1, acc := .w1c, reset := .const 0 }
/-- CELL_STATUS.DESC_MALFORMED 3 (R216). -/
def F.cellStatus_descMalformed : Fld := { base := 0x80008, stride := 8, count := 1, lo := 3, width := 1, acc := .w1c, reset := .const 0 }
/-- CELL_STATUS.SRAM_UE 4 (R216). -/
def F.cellStatus_sramUe : Fld := { base := 0x80008, stride := 8, count := 1, lo := 4, width := 1, acc := .w1c, reset := .const 0 }
/-- CELL_WAIT_BOUND.BOUND_US 17:0 (R217). -/
def F.cellWaitBound_boundUs : Fld := { base := 0x80010, stride := 8, count := 1, lo := 0, width := 18, acc := .rw, reset := .const 100000, range := some (100, 200000) }
/-- CELL_OVF_COUNT.COUNT 63:0 (R218). -/
def F.cellOvfCount_count : Fld := { base := 0x80018, stride := 8, count := 1, lo := 0, width := 64, acc := .rc, reset := .const 0 }
/-- CELL_TRAP_COUNT.COUNT 63:0 (R218). -/
def F.cellTrapCount_count : Fld := { base := 0x80020, stride := 8, count := 1, lo := 0, width := 64, acc := .rc, reset := .const 0 }
/-- CELL_CLUSTER.CLK 1:0 (R219). -/
def F.cellCluster_clk : Fld := { base := 0x80100, stride := 8, count := 16, lo := 0, width := 2, acc := .ro, reset := .const 0 }
/-- CELL_CLUSTER.PLL_LOCKED 2 (R219). -/
def F.cellCluster_pllLocked : Fld := { base := 0x80100, stride := 8, count := 16, lo := 2, width := 1, acc := .ro, reset := .const 0 }
/-- CELL_STATE.TENANT 7:0 (R219). -/
def F.cellState_tenant : Fld := { base := 0x80400, stride := 8, count := 128, lo := 0, width := 8, acc := .ro, reset := .const 0 }
/-- CELL_STATE.KERNEL 23:8 (R219). -/
def F.cellState_kernel : Fld := { base := 0x80400, stride := 8, count := 128, lo := 8, width := 16, acc := .ro, reset := .const 0 }
/-- CELL_STATE.RUN 26:24 (R219). -/
def F.cellState_run : Fld := { base := 0x80400, stride := 8, count := 128, lo := 24, width := 3, acc := .ro, reset := .const 0 }
/-- CELL_STATE.PRIV 27 (R219). -/
def F.cellState_priv : Fld := { base := 0x80400, stride := 8, count := 128, lo := 27, width := 1, acc := .ro, reset := .const 0 }
/-- CELL_LAYOUT.CODE_KIB 10:0 (R219). -/
def F.cellLayout_codeKib : Fld := { base := 0x80800, stride := 8, count := 128, lo := 0, width := 11, acc := .ro, reset := .weave }
/-- CELL_LAYOUT.FLAG_BASE_64K 17:11 (R219). -/
def F.cellLayout_flagBase64k : Fld := { base := 0x80800, stride := 8, count := 128, lo := 11, width := 7, acc := .ro, reset := .weave }
/-- CELL_LAST_TRAP.CAUSE 7:0 (R219). -/
def F.cellLastTrap_cause : Fld := { base := 0x80C00, stride := 8, count := 128, lo := 0, width := 8, acc := .ro, reset := .const 0 }
/-- CELL_LAST_TRAP.PC 30:8 (R219). -/
def F.cellLastTrap_pc : Fld := { base := 0x80C00, stride := 8, count := 128, lo := 8, width := 23, acc := .ro, reset := .const 0 }
/-- CELL_LAST_TRAP.KERNEL 46:31 (R219). -/
def F.cellLastTrap_kernel : Fld := { base := 0x80C00, stride := 8, count := 128, lo := 31, width := 16, acc := .ro, reset := .const 0 }

/-- The registers of CELL. -/
def cellRegs : List RegDesc := [
  ⟨0x80000, 8, 1, [F.cellCap_cells, F.cellCap_sramKib, F.cellCap_moverChannels, F.cellCap_extVersion]⟩,
  ⟨0x80008, 8, 1, [F.cellStatus_ovf, F.cellStatus_trap, F.cellStatus_waitTimeout, F.cellStatus_descMalformed, F.cellStatus_sramUe]⟩,
  ⟨0x80010, 8, 1, [F.cellWaitBound_boundUs]⟩,
  ⟨0x80018, 8, 1, [F.cellOvfCount_count]⟩,
  ⟨0x80020, 8, 1, [F.cellTrapCount_count]⟩,
  ⟨0x80100, 8, 16, [F.cellCluster_clk, F.cellCluster_pllLocked]⟩,
  ⟨0x80400, 8, 128, [F.cellState_tenant, F.cellState_kernel, F.cellState_run, F.cellState_priv]⟩,
  ⟨0x80800, 8, 128, [F.cellLayout_codeKib, F.cellLayout_flagBase64k]⟩,
  ⟨0x80C00, 8, 128, [F.cellLastTrap_cause, F.cellLastTrap_pc, F.cellLastTrap_kernel]⟩]

/-! ### SCHED (offset 0xA0000, R696) -/

/-- SCHED_CAP.TRACKS 4:0 (R292). -/
def F.schedCap_tracks : Fld := { base := 0xA0000, stride := 8, count := 1, lo := 0, width := 5, acc := .ro, reset := .const 16 }
/-- SCHED_CAP.TEMPLATES 15:5 (R292). -/
def F.schedCap_templates : Fld := { base := 0xA0000, stride := 8, count := 1, lo := 5, width := 11, acc := .ro, reset := .const 1024 }
/-- SCHED_CAP.STEPS 24:16 (R292). -/
def F.schedCap_steps : Fld := { base := 0xA0000, stride := 8, count := 1, lo := 16, width := 9, acc := .ro, reset := .const 256 }
/-- SCHED_CAP.CYCLE 31:25 (R292). -/
def F.schedCap_cycle : Fld := { base := 0xA0000, stride := 8, count := 1, lo := 25, width := 7, acc := .ro, reset := .const 64 }
/-- SCHED_WALE.WALE 47:0 (R292). -/
def F.schedWale_wale : Fld := { base := 0xA0008, stride := 8, count := 1, lo := 0, width := 48, acc := .ro, reset := .const 0 }
/-- SCHED_STIME.STIME 63:0 (R292). -/
def F.schedStime_stime : Fld := { base := 0xA0010, stride := 8, count := 1, lo := 0, width := 64, acc := .ro, reset := .const 0 }
/-- SCHED_WALE_LEN.LEN_US 16:0 (R293). -/
def F.schedWaleLen_lenUs : Fld := { base := 0xA0018, stride := 8, count := 1, lo := 0, width := 17, acc := .ro, reset := .weave }
/-- SCHED_WALE_LEN.NEXT_US 33:17 (R293). -/
def F.schedWaleLen_nextUs : Fld := { base := 0xA0018, stride := 8, count := 1, lo := 17, width := 17, acc := .rw, reset := .const 0 }
/-- SCHED_WALE_LEN.REFUSED 34 (R293). -/
def F.schedWaleLen_refused : Fld := { base := 0xA0018, stride := 8, count := 1, lo := 34, width := 1, acc := .ro, reset := .const 0 }
/-- SCHED_SYNC.ROLE 1:0 (R294). -/
def F.schedSync_role : Fld := { base := 0xA0020, stride := 8, count := 1, lo := 0, width := 2, acc := .ro, reset := .const 0 }
/-- SCHED_SYNC.PARENT_PORT 4:2 (R294). -/
def F.schedSync_parentPort : Fld := { base := 0xA0020, stride := 8, count := 1, lo := 2, width := 3, acc := .ro, reset := .const 0 }
/-- SCHED_SYNC.LOCKED 5 (R294). -/
def F.schedSync_locked : Fld := { base := 0xA0020, stride := 8, count := 1, lo := 5, width := 1, acc := .ro, reset := .const 0 }
/-- SCHED_SYNC.OFFSET_NS 21:6 (R294). -/
def F.schedSync_offsetNs : Fld := { base := 0xA0020, stride := 8, count := 1, lo := 6, width := 16, acc := .ro, reset := .const 0 }
/-- SCHED_SYNC.ERROR_NS 31:22 (R294). -/
def F.schedSync_errorNs : Fld := { base := 0xA0020, stride := 8, count := 1, lo := 22, width := 10, acc := .ro, reset := .const 1023 }
/-- SCHED_SYNC.EPOCH 39:32 (R294). -/
def F.schedSync_epoch : Fld := { base := 0xA0020, stride := 8, count := 1, lo := 32, width := 8, acc := .ro, reset := .const 0 }
/-- SCHED_SYNC.SOURCE 48:40 (R294). -/
def F.schedSync_source : Fld := { base := 0xA0020, stride := 8, count := 1, lo := 40, width := 9, acc := .ro, reset := .const 0 }
/-- SCHED_STATUS.STRETCHED 0 (R295). -/
def F.schedStatus_stretched : Fld := { base := 0xA0028, stride := 8, count := 1, lo := 0, width := 1, acc := .w1c, reset := .const 0, silent := true }
/-- SCHED_STATUS.STRETCH_WARN 1 (R295). -/
def F.schedStatus_stretchWarn : Fld := { base := 0xA0028, stride := 8, count := 1, lo := 1, width := 1, acc := .w1c, reset := .const 0 }
/-- SCHED_STATUS.SKEW 2 (R295). -/
def F.schedStatus_skew : Fld := { base := 0xA0028, stride := 8, count := 1, lo := 2, width := 1, acc := .w1c, reset := .const 0 }
/-- SCHED_STATUS.BOUNDARY_LATE 3 (R295). -/
def F.schedStatus_boundaryLate : Fld := { base := 0xA0028, stride := 8, count := 1, lo := 3, width := 1, acc := .w1c, reset := .const 0 }
/-- SCHED_STATUS.BOUNDARY_OVERRUN 4 (R295). -/
def F.schedStatus_boundaryOverrun : Fld := { base := 0xA0028, stride := 8, count := 1, lo := 4, width := 1, acc := .w1c, reset := .const 0 }
/-- SCHED_STATUS.PEER_FAILED 5 (R295). -/
def F.schedStatus_peerFailed : Fld := { base := 0xA0028, stride := 8, count := 1, lo := 5, width := 1, acc := .w1c, reset := .const 0 }
/-- SCHED_STATUS.SOURCE_CHANGE 6 (R295). -/
def F.schedStatus_sourceChange : Fld := { base := 0xA0028, stride := 8, count := 1, lo := 6, width := 1, acc := .w1c, reset := .const 0 }
/-- SCHED_STATUS.STEP_ABORTED 7 (R295). -/
def F.schedStatus_stepAborted : Fld := { base := 0xA0028, stride := 8, count := 1, lo := 7, width := 1, acc := .w1c, reset := .const 0 }
/-- SCHED_STATUS.ADMIT_DEFERRED 8 (R295). -/
def F.schedStatus_admitDeferred : Fld := { base := 0xA0028, stride := 8, count := 1, lo := 8, width := 1, acc := .w1c, reset := .const 0, silent := true }
/-- SCHED_READY_BOUND.BOUND_US 13:0 (R296). -/
def F.schedReadyBound_boundUs : Fld := { base := 0xA0030, stride := 8, count := 1, lo := 0, width := 14, acc := .rw, reset := .const 200, range := some (20, 10000) }
/-- SCHED_OVERRUN_GRACE.GRACE_US 13:0 (R296). -/
def F.schedOverrunGrace_graceUs : Fld := { base := 0xA0038, stride := 8, count := 1, lo := 0, width := 14, acc := .rw, reset := .const 100, range := some (10, 10000) }
/-- SCHED_STRETCH_WARN.WARN_US 17:0 (R296). -/
def F.schedStretchWarn_warnUs : Fld := { base := 0xA0040, stride := 8, count := 1, lo := 0, width := 18, acc := .rw, reset := .const 100000, range := some (1000, 200000) }
/-- SCHED_ADMIT_MAX.MAX 13:0 (R296). -/
def F.schedAdmitMax_max : Fld := { base := 0xA0048, stride := 8, count := 1, lo := 0, width := 14, acc := .rw, reset := .const 512, range := some (1, 8192), held := true }
/-- SCHED_LAST_STRETCH.STRETCH_NS 39:0 (R297). -/
def F.schedLastStretch_stretchNs : Fld := { base := 0xA0050, stride := 8, count := 1, lo := 0, width := 40, acc := .ro, reset := .const 0 }
/-- SCHED_HOLD.LOCAL_CAUSE 2:0 (R297). -/
def F.schedHold_localCause : Fld := { base := 0xA0058, stride := 8, count := 1, lo := 0, width := 3, acc := .ro, reset := .const 0 }
/-- SCHED_HOLD.STAND_CAUSE 5:3 (R297). -/
def F.schedHold_standCause : Fld := { base := 0xA0058, stride := 8, count := 1, lo := 3, width := 3, acc := .ro, reset := .const 0 }
/-- SCHED_HOLD.HOLDER 14:6 (R297). -/
def F.schedHold_holder : Fld := { base := 0xA0058, stride := 8, count := 1, lo := 6, width := 9, acc := .ro, reset := .const 0 }
/-- SCHED_STRETCH_COUNT.COUNT 63:0 (R298). -/
def F.schedStretchCount_count : Fld := { base := 0xA0060, stride := 8, count := 1, lo := 0, width := 64, acc := .rc, reset := .const 0 }
/-- SCHED_STRETCH_TOTAL.COUNT 63:0 (R298). -/
def F.schedStretchTotal_count : Fld := { base := 0xA0068, stride := 8, count := 1, lo := 0, width := 64, acc := .rc, reset := .const 0 }
/-- SCHED_TRACK.TENANT 7:0 (R299). -/
def F.schedTrack_tenant : Fld := { base := 0xA0100, stride := 8, count := 16, lo := 0, width := 8, acc := .ro, reset := .const 0 }
/-- SCHED_TRACK.ACTIVE 8 (R299). -/
def F.schedTrack_active : Fld := { base := 0xA0100, stride := 8, count := 16, lo := 8, width := 1, acc := .ro, reset := .const 0 }
/-- SCHED_TRACK.TEMPLATE 24:9 (R299). -/
def F.schedTrack_template : Fld := { base := 0xA0100, stride := 8, count := 16, lo := 9, width := 16, acc := .ro, reset := .const 0 }
/-- SCHED_TRACK.CYCLE_POS 30:25 (R299). -/
def F.schedTrack_cyclePos : Fld := { base := 0xA0100, stride := 8, count := 16, lo := 25, width := 6, acc := .ro, reset := .const 0 }
/-- SCHED_TRACK.STEP 39:31 (R299). -/
def F.schedTrack_step : Fld := { base := 0xA0100, stride := 8, count := 16, lo := 31, width := 9, acc := .ro, reset := .const 0 }
/-- SCHED_TRACK.STATE 42:40 (R299). -/
def F.schedTrack_state : Fld := { base := 0xA0100, stride := 8, count := 16, lo := 40, width := 3, acc := .ro, reset := .const 0 }

/-- The registers of SCHED. -/
def schedRegs : List RegDesc := [
  ⟨0xA0000, 8, 1, [F.schedCap_tracks, F.schedCap_templates, F.schedCap_steps, F.schedCap_cycle]⟩,
  ⟨0xA0008, 8, 1, [F.schedWale_wale]⟩,
  ⟨0xA0010, 8, 1, [F.schedStime_stime]⟩,
  ⟨0xA0018, 8, 1, [F.schedWaleLen_lenUs, F.schedWaleLen_nextUs, F.schedWaleLen_refused]⟩,
  ⟨0xA0020, 8, 1, [F.schedSync_role, F.schedSync_parentPort, F.schedSync_locked, F.schedSync_offsetNs, F.schedSync_errorNs, F.schedSync_epoch, F.schedSync_source]⟩,
  ⟨0xA0028, 8, 1, [F.schedStatus_stretched, F.schedStatus_stretchWarn, F.schedStatus_skew, F.schedStatus_boundaryLate, F.schedStatus_boundaryOverrun, F.schedStatus_peerFailed, F.schedStatus_sourceChange, F.schedStatus_stepAborted, F.schedStatus_admitDeferred]⟩,
  ⟨0xA0030, 8, 1, [F.schedReadyBound_boundUs]⟩,
  ⟨0xA0038, 8, 1, [F.schedOverrunGrace_graceUs]⟩,
  ⟨0xA0040, 8, 1, [F.schedStretchWarn_warnUs]⟩,
  ⟨0xA0048, 8, 1, [F.schedAdmitMax_max]⟩,
  ⟨0xA0050, 8, 1, [F.schedLastStretch_stretchNs]⟩,
  ⟨0xA0058, 8, 1, [F.schedHold_localCause, F.schedHold_standCause, F.schedHold_holder]⟩,
  ⟨0xA0060, 8, 1, [F.schedStretchCount_count]⟩,
  ⟨0xA0068, 8, 1, [F.schedStretchTotal_count]⟩,
  ⟨0xA0100, 8, 16, [F.schedTrack_tenant, F.schedTrack_active, F.schedTrack_template, F.schedTrack_cyclePos, F.schedTrack_step, F.schedTrack_state]⟩]

/-! ### SVC (offset 0xC0000, R696) -/

/-- SVC_CAP.CONTEXTS 13:0 (R350). -/
def F.svcCap_contexts : Fld := { base := 0xC0000, stride := 8, count := 1, lo := 0, width := 14, acc := .ro, reset := .const 8192 }
/-- SVC_CAP.LINES 26:14 (R350). -/
def F.svcCap_lines : Fld := { base := 0xC0000, stride := 8, count := 1, lo := 14, width := 13, acc := .ro, reset := .const 4096 }
/-- SVC_CAP.MODELS 33:27 (R350). -/
def F.svcCap_models : Fld := { base := 0xC0000, stride := 8, count := 1, lo := 27, width := 7, acc := .ro, reset := .const 64 }
/-- SVC_CAP.CLASSES 39:34 (R350). -/
def F.svcCap_classes : Fld := { base := 0xC0000, stride := 8, count := 1, lo := 34, width := 6, acc := .ro, reset := .const 32 }
/-- SVC_STATUS.RING_DEAD 0 (R351). -/
def F.svcStatus_ringDead : Fld := { base := 0xC0008, stride := 8, count := 1, lo := 0, width := 1, acc := .w1c, reset := .const 0 }
/-- SVC_STATUS.POISONED 1 (R351). -/
def F.svcStatus_poisoned : Fld := { base := 0xC0008, stride := 8, count := 1, lo := 1, width := 1, acc := .w1c, reset := .const 0 }
/-- SVC_STATUS.DEGRADED 2 (R351). -/
def F.svcStatus_degraded : Fld := { base := 0xC0008, stride := 8, count := 1, lo := 2, width := 1, acc := .w1c, reset := .const 0 }
/-- SVC_STATUS.LATE_END 3 (R351). -/
def F.svcStatus_lateEnd : Fld := { base := 0xC0008, stride := 8, count := 1, lo := 3, width := 1, acc := .w1c, reset := .const 0, silent := true }
/-- SVC_STATUS.DISCARD 4 (R351). -/
def F.svcStatus_discard : Fld := { base := 0xC0008, stride := 8, count := 1, lo := 4, width := 1, acc := .w1c, reset := .const 0, silent := true }
/-- SVC_STATUS.ABORT_END 5 (R351). -/
def F.svcStatus_abortEnd : Fld := { base := 0xC0008, stride := 8, count := 1, lo := 5, width := 1, acc := .w1c, reset := .const 0, silent := true }
/-- SVC_CTX_LIMIT.LIMIT 13:0 (R350). -/
def F.svcCtxLimit_limit : Fld := { base := 0xC0010, stride := 8, count := 1, lo := 0, width := 14, acc := .ro, reset := .weave }
/-- SVC_CTX_USED.LIVE 13:0 (R350). -/
def F.svcCtxUsed_live : Fld := { base := 0xC0018, stride := 8, count := 1, lo := 0, width := 14, acc := .ro, reset := .const 0 }
/-- SVC_CTX_USED.HELD 33:14 (R350). -/
def F.svcCtxUsed_held : Fld := { base := 0xC0018, stride := 8, count := 1, lo := 14, width := 20, acc := .ro, reset := .const 0 }
/-- SVC_MODEL_CMD.MODEL 5:0 (R355). -/
def F.svcModelCmd_model : Fld := { base := 0xC0020, stride := 8, count := 1, lo := 0, width := 6, acc := .rw, reset := .const 0 }
/-- SVC_MODEL_CMD.OP 7:6 (R355). -/
def F.svcModelCmd_op : Fld := { base := 0xC0020, stride := 8, count := 1, lo := 6, width := 2, acc := .rw, reset := .const 0 }
/-- SVC_MODEL_CMD.BUSY 8 (R355). -/
def F.svcModelCmd_busy : Fld := { base := 0xC0020, stride := 8, count := 1, lo := 8, width := 1, acc := .ro, reset := .const 0 }
/-- SVC_MODEL_CMD.CODE 16:9 (R355). -/
def F.svcModelCmd_code : Fld := { base := 0xC0020, stride := 8, count := 1, lo := 9, width := 8, acc := .ro, reset := .const 0 }
/-- SVC_ADMIT_COUNT.COUNT 63:0 (R352). -/
def F.svcAdmitCount_count : Fld := { base := 0xC0028, stride := 8, count := 1, lo := 0, width := 64, acc := .rc, reset := .const 0 }
/-- SVC_TOKEN_COUNT.COUNT 63:0 (R352). -/
def F.svcTokenCount_count : Fld := { base := 0xC0030, stride := 8, count := 1, lo := 0, width := 64, acc := .rc, reset := .const 0 }
/-- SVC_REJECT_COUNT.COUNT 63:0 (R352). -/
def F.svcRejectCount_count : Fld := { base := 0xC0038, stride := 8, count := 1, lo := 0, width := 64, acc := .rc, reset := .const 0 }
/-- SVC_APERTURE.LINES 12:0 (R353). -/
def F.svcAperture_lines : Fld := { base := 0xC0800, stride := 8, count := 256, lo := 0, width := 13, acc := .ro, reset := .weave }
/-- SVC_APERTURE.HELD 24:13 (R353). -/
def F.svcAperture_held : Fld := { base := 0xC0800, stride := 8, count := 256, lo := 13, width := 12, acc := .ro, reset := .const 0 }
/-- SVC_APERTURE.LIVE 37:25 (R353). -/
def F.svcAperture_live : Fld := { base := 0xC0800, stride := 8, count := 256, lo := 25, width := 13, acc := .ro, reset := .const 0 }
/-- SVC_MODEL.LOADED 0 (R353). -/
def F.svcModel_loaded : Fld := { base := 0xC1000, stride := 8, count := 64, lo := 0, width := 1, acc := .ro, reset := .weave }
/-- SVC_MODEL.DEGRADED 1 (R353). -/
def F.svcModel_degraded : Fld := { base := 0xC1000, stride := 8, count := 64, lo := 1, width := 1, acc := .ro, reset := .const 0 }
/-- SVC_MODEL.RING 2 (R353). -/
def F.svcModel_ring : Fld := { base := 0xC1000, stride := 8, count := 64, lo := 2, width := 1, acc := .ro, reset := .weave }
/-- SVC_MODEL.SHARED 3 (R353). -/
def F.svcModel_shared : Fld := { base := 0xC1000, stride := 8, count := 64, lo := 3, width := 1, acc := .ro, reset := .weave }
/-- SVC_MODEL.TENANT 15:8 (R353). -/
def F.svcModel_tenant : Fld := { base := 0xC1000, stride := 8, count := 64, lo := 8, width := 8, acc := .ro, reset := .weave }
/-- SVC_MODEL.DECODE_SLOTS 22:16 (R353). -/
def F.svcModel_decodeSlots : Fld := { base := 0xC1000, stride := 8, count := 64, lo := 16, width := 7, acc := .ro, reset := .weave }
/-- SVC_MODEL.PREFILL_COLS 29:23 (R353). -/
def F.svcModel_prefillCols : Fld := { base := 0xC1000, stride := 8, count := 64, lo := 23, width := 7, acc := .ro, reset := .weave }
/-- SVC_MODEL.TOKEN_SHARE 47:30 (R353). -/
def F.svcModel_tokenShare : Fld := { base := 0xC1000, stride := 8, count := 64, lo := 30, width := 18, acc := .ro, reset := .weave }
/-- SVC_MODEL_KV.LAYERS 9:0 (R353). -/
def F.svcModelKv_layers : Fld := { base := 0xC1200, stride := 8, count := 64, lo := 0, width := 10, acc := .ro, reset := .weave }
/-- SVC_MODEL_KV.KV_HEADS 17:10 (R353). -/
def F.svcModelKv_kvHeads : Fld := { base := 0xC1200, stride := 8, count := 64, lo := 10, width := 8, acc := .ro, reset := .weave }
/-- SVC_MODEL_KV.HEAD_DIM 27:18 (R353). -/
def F.svcModelKv_headDim : Fld := { base := 0xC1200, stride := 8, count := 64, lo := 18, width := 10, acc := .ro, reset := .weave }
/-- SVC_MODEL_KV.SEG_FRAMES 43:28 (R353). -/
def F.svcModelKv_segFrames : Fld := { base := 0xC1200, stride := 8, count := 64, lo := 28, width := 16, acc := .ro, reset := .weave }
/-- SVC_MODEL_TOK.VOCAB 23:0 (R353). -/
def F.svcModelTok_vocab : Fld := { base := 0xC1400, stride := 8, count := 64, lo := 0, width := 24, acc := .ro, reset := .weave }
/-- SVC_MODEL_TOK.EOS 55:24 (R353). -/
def F.svcModelTok_eos : Fld := { base := 0xC1400, stride := 8, count := 64, lo := 24, width := 32, acc := .ro, reset := .weave }
/-- SVC_CLASS.VALID 0 (R354). -/
def F.svcClass_valid : Fld := { base := 0xC1600, stride := 8, count := 32, lo := 0, width := 1, acc := .ro, reset := .weave }
/-- SVC_CLASS.KV_TIER 1 (R354). -/
def F.svcClass_kvTier : Fld := { base := 0xC1600, stride := 8, count := 32, lo := 1, width := 1, acc := .ro, reset := .weave }
/-- SVC_CLASS.SEAL_T1 2 (R354). -/
def F.svcClass_sealT1 : Fld := { base := 0xC1600, stride := 8, count := 32, lo := 2, width := 1, acc := .ro, reset := .weave }
/-- SVC_CLASS.CELL_PREFILL 3 (R354). -/
def F.svcClass_cellPrefill : Fld := { base := 0xC1600, stride := 8, count := 32, lo := 3, width := 1, acc := .ro, reset := .weave }
/-- SVC_CLASS.SCRATCH 23:8 (R354). -/
def F.svcClass_scratch : Fld := { base := 0xC1600, stride := 8, count := 32, lo := 8, width := 16, acc := .ro, reset := .weave }
/-- SVC_CLASS.MAX_TOKENS 41:24 (R354). -/
def F.svcClass_maxTokens : Fld := { base := 0xC1600, stride := 8, count := 32, lo := 24, width := 18, acc := .ro, reset := .weave }
/-- SVC_CTX.STATE 2:0 (R354). -/
def F.svcCtx_state : Fld := { base := 0xD0000, stride := 8, count := 8192, lo := 0, width := 3, acc := .ro, reset := .const 0 }
/-- SVC_CTX.TENANT 10:3 (R354). -/
def F.svcCtx_tenant : Fld := { base := 0xD0000, stride := 8, count := 8192, lo := 3, width := 8, acc := .ro, reset := .const 0 }
/-- SVC_CTX.MODEL 16:11 (R354). -/
def F.svcCtx_model : Fld := { base := 0xD0000, stride := 8, count := 8192, lo := 11, width := 6, acc := .ro, reset := .const 0 }
/-- SVC_CTX.RING_SLOT 25:17 (R354). -/
def F.svcCtx_ringSlot : Fld := { base := 0xD0000, stride := 8, count := 8192, lo := 17, width := 9, acc := .ro, reset := .const 0 }
/-- SVC_CTX.RESUMED 26 (R354). -/
def F.svcCtx_resumed : Fld := { base := 0xD0000, stride := 8, count := 8192, lo := 26, width := 1, acc := .ro, reset := .const 0 }
/-- SVC_CTX.INDEX 63:32 (R354). -/
def F.svcCtx_index : Fld := { base := 0xD0000, stride := 8, count := 8192, lo := 32, width := 32, acc := .ro, reset := .const 0 }

/-- The registers of SVC. -/
def svcRegs : List RegDesc := [
  ⟨0xC0000, 8, 1, [F.svcCap_contexts, F.svcCap_lines, F.svcCap_models, F.svcCap_classes]⟩,
  ⟨0xC0008, 8, 1, [F.svcStatus_ringDead, F.svcStatus_poisoned, F.svcStatus_degraded, F.svcStatus_lateEnd, F.svcStatus_discard, F.svcStatus_abortEnd]⟩,
  ⟨0xC0010, 8, 1, [F.svcCtxLimit_limit]⟩,
  ⟨0xC0018, 8, 1, [F.svcCtxUsed_live, F.svcCtxUsed_held]⟩,
  ⟨0xC0020, 8, 1, [F.svcModelCmd_model, F.svcModelCmd_op, F.svcModelCmd_busy, F.svcModelCmd_code]⟩,
  ⟨0xC0028, 8, 1, [F.svcAdmitCount_count]⟩,
  ⟨0xC0030, 8, 1, [F.svcTokenCount_count]⟩,
  ⟨0xC0038, 8, 1, [F.svcRejectCount_count]⟩,
  ⟨0xC0800, 8, 256, [F.svcAperture_lines, F.svcAperture_held, F.svcAperture_live]⟩,
  ⟨0xC1000, 8, 64, [F.svcModel_loaded, F.svcModel_degraded, F.svcModel_ring, F.svcModel_shared, F.svcModel_tenant, F.svcModel_decodeSlots, F.svcModel_prefillCols, F.svcModel_tokenShare]⟩,
  ⟨0xC1200, 8, 64, [F.svcModelKv_layers, F.svcModelKv_kvHeads, F.svcModelKv_headDim, F.svcModelKv_segFrames]⟩,
  ⟨0xC1400, 8, 64, [F.svcModelTok_vocab, F.svcModelTok_eos]⟩,
  ⟨0xC1600, 8, 32, [F.svcClass_valid, F.svcClass_kvTier, F.svcClass_sealT1, F.svcClass_cellPrefill, F.svcClass_scratch, F.svcClass_maxTokens]⟩,
  ⟨0xD0000, 8, 8192, [F.svcCtx_state, F.svcCtx_tenant, F.svcCtx_model, F.svcCtx_ringSlot, F.svcCtx_resumed, F.svcCtx_index]⟩]

/-! ### SRCH (offset 0xE0000, R696) -/

/-- SRCH_CAP.CONTEXTS 14:0 (R405). -/
def F.srchCap_contexts : Fld := { base := 0xE0000, stride := 8, count := 1, lo := 0, width := 15, acc := .ro, reset := .perCode 16384 8192 4096 }
/-- SRCH_CAP.ARRAYS 22:15 (R405). -/
def F.srchCap_arrays : Fld := { base := 0xE0000, stride := 8, count := 1, lo := 15, width := 8, acc := .ro, reset := .perCode 128 64 0 }
/-- SRCH_CAP.SORUS 24:23 (R405). -/
def F.srchCap_sorus : Fld := { base := 0xE0000, stride := 8, count := 1, lo := 23, width := 2, acc := .ro, reset := .perCode 2 1 0 }
/-- SRCH_CAP.SLOTS 33:25 (R405). -/
def F.srchCap_slots : Fld := { base := 0xE0000, stride := 8, count := 1, lo := 25, width := 9, acc := .ro, reset := .const 256 }
/-- SRCH_CAP.CORPORA 40:34 (R405). -/
def F.srchCap_corpora : Fld := { base := 0xE0000, stride := 8, count := 1, lo := 34, width := 7, acc := .ro, reset := .const 64 }
/-- SRCH_STATUS.ARRAY_RETIRED 0 (R406). -/
def F.srchStatus_arrayRetired : Fld := { base := 0xE0008, stride := 8, count := 1, lo := 0, width := 1, acc := .w1c, reset := .const 0 }
/-- SRCH_STATUS.REF_MISMATCH 1 (R406). -/
def F.srchStatus_refMismatch : Fld := { base := 0xE0008, stride := 8, count := 1, lo := 1, width := 1, acc := .w1c, reset := .const 0, silent := true }
/-- SRCH_STATUS.SHARD_POISON 2 (R406). -/
def F.srchStatus_shardPoison : Fld := { base := 0xE0008, stride := 8, count := 1, lo := 2, width := 1, acc := .w1c, reset := .const 0 }
/-- SRCH_STATUS.SHARD_DEGRADED 3 (R406). -/
def F.srchStatus_shardDegraded : Fld := { base := 0xE0008, stride := 8, count := 1, lo := 3, width := 1, acc := .w1c, reset := .const 0 }
/-- SRCH_STATUS.PART_QUEUE_FULL 4 (R406). -/
def F.srchStatus_partQueueFull : Fld := { base := 0xE0008, stride := 8, count := 1, lo := 4, width := 1, acc := .w1c, reset := .const 0, silent := true }
/-- SRCH_STATUS.SHARD_DEAD 5 (R406). -/
def F.srchStatus_shardDead : Fld := { base := 0xE0008, stride := 8, count := 1, lo := 5, width := 1, acc := .w1c, reset := .const 0 }
/-- SRCH_CAL.PERIOD_US 14:0 (R407). -/
def F.srchCal_periodUs : Fld := { base := 0xE0010, stride := 8, count := 1, lo := 0, width := 15, acc := .rw, reset := .const 20000, range := some (3000, 20000) }
/-- SRCH_CAL.TEMP_STEP 18:15 (R407). -/
def F.srchCal_tempStep : Fld := { base := 0xE0010, stride := 8, count := 1, lo := 15, width := 4, acc := .rw, reset := .const 8, range := some (1, 8) }
/-- SRCH_CTX_USED.HOME 14:0 (R405). -/
def F.srchCtxUsed_home : Fld := { base := 0xE0018, stride := 8, count := 1, lo := 0, width := 15, acc := .ro, reset := .const 0 }
/-- SRCH_CTX_USED.PART 29:15 (R405). -/
def F.srchCtxUsed_part : Fld := { base := 0xE0018, stride := 8, count := 1, lo := 15, width := 15, acc := .ro, reset := .const 0 }
/-- SRCH_CTX_USED.PENDING 43:30 (R405). -/
def F.srchCtxUsed_pending : Fld := { base := 0xE0018, stride := 8, count := 1, lo := 30, width := 14, acc := .ro, reset := .const 0 }
/-- SRCH_PROGRESS.PERIOD_US 13:0 (R407). -/
def F.srchProgress_periodUs : Fld := { base := 0xE0020, stride := 8, count := 1, lo := 0, width := 14, acc := .rw, reset := .const 1000, range := some (100, 10000) }
/-- SRCH_SHARD_ADDR.ALL 63:0 (R408). -/
def F.srchShardAddr_all : Fld := { base := 0xE0028, stride := 8, count := 1, lo := 0, width := 64, acc := .rw, reset := .const 0 }
/-- SRCH_SHARD_TOMB.ALL 63:0 (R408). -/
def F.srchShardTomb_all : Fld := { base := 0xE0030, stride := 8, count := 1, lo := 0, width := 64, acc := .rw, reset := .const 0 }
/-- SRCH_SHARD_CMD.SLOT 7:0 (R409). -/
def F.srchShardCmd_slot : Fld := { base := 0xE0038, stride := 8, count := 1, lo := 0, width := 8, acc := .rw, reset := .const 0 }
/-- SRCH_SHARD_CMD.OP 10:8 (R409). -/
def F.srchShardCmd_op : Fld := { base := 0xE0038, stride := 8, count := 1, lo := 8, width := 3, acc := .rw, reset := .const 0 }
/-- SRCH_SHARD_CMD.DIE 11 (R409). -/
def F.srchShardCmd_die : Fld := { base := 0xE0038, stride := 8, count := 1, lo := 11, width := 1, acc := .rw, reset := .const 0 }
/-- SRCH_SHARD_CMD.BUSY 12 (R409). -/
def F.srchShardCmd_busy : Fld := { base := 0xE0038, stride := 8, count := 1, lo := 12, width := 1, acc := .ro, reset := .const 0 }
/-- SRCH_SHARD_CMD.CODE 20:13 (R409). -/
def F.srchShardCmd_code : Fld := { base := 0xE0038, stride := 8, count := 1, lo := 13, width := 8, acc := .ro, reset := .const 0 }
/-- SRCH_QUERY_COUNT.COUNT 63:0 (R411). -/
def F.srchQueryCount_count : Fld := { base := 0xE0040, stride := 8, count := 1, lo := 0, width := 64, acc := .rc, reset := .const 0 }
/-- SRCH_SHORT_COUNT.COUNT 63:0 (R411). -/
def F.srchShortCount_count : Fld := { base := 0xE0048, stride := 8, count := 1, lo := 0, width := 64, acc := .rc, reset := .const 0 }
/-- SRCH_FALLBACK_COUNT.COUNT 63:0 (R411). -/
def F.srchFallbackCount_count : Fld := { base := 0xE0050, stride := 8, count := 1, lo := 0, width := 64, acc := .rc, reset := .const 0 }
/-- SRCH_REF_MISMATCH_COUNT.COUNT 63:0 (R411). -/
def F.srchRefMismatchCount_count : Fld := { base := 0xE0058, stride := 8, count := 1, lo := 0, width := 64, acc := .rc, reset := .const 0 }
/-- SRCH_ARRAY.STATE 1:0 (R412). -/
def F.srchArray_state : Fld := { base := 0xE0400, stride := 8, count := 128, lo := 0, width := 2, acc := .ro, reset := .const 0 }
/-- SRCH_ARRAY.MARGIN 3:2 (R412). -/
def F.srchArray_margin : Fld := { base := 0xE0400, stride := 8, count := 128, lo := 2, width := 2, acc := .ro, reset := .const 0 }
/-- SRCH_ARRAY.ERROR 7:4 (R412). -/
def F.srchArray_error : Fld := { base := 0xE0400, stride := 8, count := 128, lo := 4, width := 4, acc := .ro, reset := .const 0 }
/-- SRCH_ARRAY.TEMP 17:8 (R412). -/
def F.srchArray_temp : Fld := { base := 0xE0400, stride := 8, count := 128, lo := 8, width := 10, acc := .ro, reset := .const 0 }
/-- SRCH_ARRAY.CAL_AGE_US 32:18 (R412). -/
def F.srchArray_calAgeUs : Fld := { base := 0xE0400, stride := 8, count := 128, lo := 18, width := 15, acc := .ro, reset := .const 0 }
/-- SRCH_SHARD.STATE 1:0 (R412). -/
def F.srchShard_state : Fld := { base := 0xE0800, stride := 8, count := 256, lo := 0, width := 2, acc := .ro, reset := .const 0 }
/-- SRCH_SHARD.FORM 3:2 (R412). -/
def F.srchShard_form : Fld := { base := 0xE0800, stride := 8, count := 256, lo := 2, width := 2, acc := .ro, reset := .const 0 }
/-- SRCH_SHARD.DIE 4 (R412). -/
def F.srchShard_die : Fld := { base := 0xE0800, stride := 8, count := 256, lo := 4, width := 1, acc := .ro, reset := .const 0 }
/-- SRCH_SHARD.TENANT 12:5 (R412). -/
def F.srchShard_tenant : Fld := { base := 0xE0800, stride := 8, count := 256, lo := 5, width := 8, acc := .ro, reset := .const 0 }
/-- SRCH_SHARD.USERS 26:13 (R412). -/
def F.srchShard_users : Fld := { base := 0xE0800, stride := 8, count := 256, lo := 13, width := 14, acc := .ro, reset := .const 0 }
/-- SRCH_SHARD.OLD_USERS 40:27 (R412). -/
def F.srchShard_oldUsers : Fld := { base := 0xE0800, stride := 8, count := 256, lo := 27, width := 14, acc := .ro, reset := .const 0 }
/-- SRCH_CORPUS.VALID 0 (R412). -/
def F.srchCorpus_valid : Fld := { base := 0xE1000, stride := 8, count := 64, lo := 0, width := 1, acc := .ro, reset := .weave }
/-- SRCH_CORPUS.SHARED 1 (R412). -/
def F.srchCorpus_shared : Fld := { base := 0xE1000, stride := 8, count := 64, lo := 1, width := 1, acc := .ro, reset := .weave }
/-- SRCH_CORPUS.TENANT 9:2 (R412). -/
def F.srchCorpus_tenant : Fld := { base := 0xE1000, stride := 8, count := 64, lo := 2, width := 8, acc := .ro, reset := .weave }
/-- SRCH_CORPUS.MCAST_GROUP 18:10 (R412). -/
def F.srchCorpus_mcastGroup : Fld := { base := 0xE1000, stride := 8, count := 64, lo := 10, width := 9, acc := .ro, reset := .weave }
/-- SRCH_CORPUS.SHARDS 29:19 (R412). -/
def F.srchCorpus_shards : Fld := { base := 0xE1000, stride := 8, count := 64, lo := 19, width := 11, acc := .ro, reset := .weave }
/-- SRCH_CORPUS.DIM 41:30 (R412). -/
def F.srchCorpus_dim : Fld := { base := 0xE1000, stride := 8, count := 64, lo := 30, width := 12, acc := .ro, reset := .weave }

/-- The registers of SRCH. -/
def srchRegs : List RegDesc := [
  ⟨0xE0000, 8, 1, [F.srchCap_contexts, F.srchCap_arrays, F.srchCap_sorus, F.srchCap_slots, F.srchCap_corpora]⟩,
  ⟨0xE0008, 8, 1, [F.srchStatus_arrayRetired, F.srchStatus_refMismatch, F.srchStatus_shardPoison, F.srchStatus_shardDegraded, F.srchStatus_partQueueFull, F.srchStatus_shardDead]⟩,
  ⟨0xE0010, 8, 1, [F.srchCal_periodUs, F.srchCal_tempStep]⟩,
  ⟨0xE0018, 8, 1, [F.srchCtxUsed_home, F.srchCtxUsed_part, F.srchCtxUsed_pending]⟩,
  ⟨0xE0020, 8, 1, [F.srchProgress_periodUs]⟩,
  ⟨0xE0028, 8, 1, [F.srchShardAddr_all]⟩,
  ⟨0xE0030, 8, 1, [F.srchShardTomb_all]⟩,
  ⟨0xE0038, 8, 1, [F.srchShardCmd_slot, F.srchShardCmd_op, F.srchShardCmd_die, F.srchShardCmd_busy, F.srchShardCmd_code]⟩,
  ⟨0xE0040, 8, 1, [F.srchQueryCount_count]⟩,
  ⟨0xE0048, 8, 1, [F.srchShortCount_count]⟩,
  ⟨0xE0050, 8, 1, [F.srchFallbackCount_count]⟩,
  ⟨0xE0058, 8, 1, [F.srchRefMismatchCount_count]⟩,
  ⟨0xE0400, 8, 128, [F.srchArray_state, F.srchArray_margin, F.srchArray_error, F.srchArray_temp, F.srchArray_calAgeUs]⟩,
  ⟨0xE0800, 8, 256, [F.srchShard_state, F.srchShard_form, F.srchShard_die, F.srchShard_tenant, F.srchShard_users, F.srchShard_oldUsers]⟩,
  ⟨0xE1000, 8, 64, [F.srchCorpus_valid, F.srchCorpus_shared, F.srchCorpus_tenant, F.srchCorpus_mcastGroup, F.srchCorpus_shards, F.srchCorpus_dim]⟩]

/-! ### LNK (offset 0x100000, R696) -/

/-- LNK_CAP.PORTS 7:0 (R469). -/
def F.lnkCap_ports : Fld := { base := 0x100000, stride := 8, count := 1, lo := 0, width := 8, acc := .ro, reset := .perCode 255 15 15 }
/-- LNK_CAP.LANES 11:8 (R469). -/
def F.lnkCap_lanes : Fld := { base := 0x100000, stride := 8, count := 1, lo := 8, width := 4, acc := .ro, reset := .const 8 }
/-- LNK_CAP.LANE_GBPS 19:12 (R469). -/
def F.lnkCap_laneGbps : Fld := { base := 0x100000, stride := 8, count := 1, lo := 12, width := 8, acc := .ro, reset := .const 128 }
/-- LNK_CAP.REPLAY_FLITS 29:20 (R469). -/
def F.lnkCap_replayFlits : Fld := { base := 0x100000, stride := 8, count := 1, lo := 20, width := 10, acc := .ro, reset := .const 512 }
/-- LNK_DEAD_BOUND.BOUND_US 7:0 (R470). -/
def F.lnkDeadBound_boundUs : Fld := { base := 0x100008, stride := 8, count := 1, lo := 0, width := 8, acc := .rw, reset := .const 25, range := some (5, 200) }
/-- LNK_RESEND.RESEND_US 6:0 (R470). -/
def F.lnkResend_resendUs : Fld := { base := 0x100010, stride := 8, count := 1, lo := 0, width := 7, acc := .rw, reset := .const 4, range := some (1, 100) }
/-- LNK_QUAR_HOLDOFF.HOLDOFF_MS 15:0 (R470). -/
def F.lnkQuarHoldoff_holdoffMs : Fld := { base := 0x100018, stride := 8, count := 1, lo := 0, width := 16, acc := .rw, reset := .const 1000, range := some (100, 64000) }
/-- LNK_DEAD_COUNT.COUNT 63:0 (R474). -/
def F.lnkDeadCount_count : Fld := { base := 0x100020, stride := 8, count := 1, lo := 0, width := 64, acc := .rc, reset := .const 0 }
/-- LNK_LATE_REPLY_COUNT.COUNT 63:0 (R474). -/
def F.lnkLateReplyCount_count : Fld := { base := 0x100028, stride := 8, count := 1, lo := 0, width := 64, acc := .rc, reset := .const 0 }
/-- LNK_CTL.ENABLE 0 (R471). -/
def F.lnkCtl_enable : Fld := { base := 0x100100, stride := 8, count := 8, lo := 0, width := 1, acc := .rw, reset := .weave }
/-- LNK_CTL.KEEPALIVE_OK 1 (R471). -/
def F.lnkCtl_keepaliveOk : Fld := { base := 0x100100, stride := 8, count := 8, lo := 1, width := 1, acc := .rw, reset := .weave }
/-- LNK_CTL.MIN_WIDTH 2 (R471). -/
def F.lnkCtl_minWidth : Fld := { base := 0x100100, stride := 8, count := 8, lo := 2, width := 1, acc := .rw, reset := .const 0 }
/-- LNK_CTL.RETRAIN 3 (R471). -/
def F.lnkCtl_retrain : Fld := { base := 0x100100, stride := 8, count := 8, lo := 3, width := 1, acc := .w1s, reset := .const 0 }
/-- LNK_CTL.REAUTH 4 (R471). -/
def F.lnkCtl_reauth : Fld := { base := 0x100100, stride := 8, count := 8, lo := 4, width := 1, acc := .w1s, reset := .const 0 }
/-- LNK_STATE.STATE 2:0 (R472). -/
def F.lnkState_state : Fld := { base := 0x100200, stride := 8, count := 8, lo := 0, width := 3, acc := .ro, reset := .const 0 }
/-- LNK_STATE.WIDTH 6:3 (R472). -/
def F.lnkState_width : Fld := { base := 0x100200, stride := 8, count := 8, lo := 3, width := 4, acc := .ro, reset := .const 0 }
/-- LNK_STATE.PARTNER 15:7 (R472). -/
def F.lnkState_partner : Fld := { base := 0x100200, stride := 8, count := 8, lo := 7, width := 9, acc := .ro, reset := .const 0 }
/-- LNK_STATE.PARTNER_PORT 18:16 (R472). -/
def F.lnkState_partnerPort : Fld := { base := 0x100200, stride := 8, count := 8, lo := 16, width := 3, acc := .ro, reset := .const 0 }
/-- LNK_STATE.CLIENT 19 (R472). -/
def F.lnkState_client : Fld := { base := 0x100200, stride := 8, count := 8, lo := 19, width := 1, acc := .ro, reset := .const 0 }
/-- LNK_STATE.KEY_EPOCH 34:20 (R472). -/
def F.lnkState_keyEpoch : Fld := { base := 0x100200, stride := 8, count := 8, lo := 20, width := 15, acc := .ro, reset := .const 0 }
/-- LNK_STATE.QUAR_FAILS 42:35 (R472). -/
def F.lnkState_quarFails : Fld := { base := 0x100200, stride := 8, count := 8, lo := 35, width := 8, acc := .ro, reset := .const 0 }
/-- LNK_STATUS.DOWN 0 (R473). -/
def F.lnkStatus_down : Fld := { base := 0x100300, stride := 8, count := 8, lo := 0, width := 1, acc := .w1c, reset := .const 0 }
/-- LNK_STATUS.RETRAINED 1 (R473). -/
def F.lnkStatus_retrained : Fld := { base := 0x100300, stride := 8, count := 8, lo := 1, width := 1, acc := .w1c, reset := .const 0, silent := true }
/-- LNK_STATUS.WIDTH_DEGRADED 2 (R473). -/
def F.lnkStatus_widthDegraded : Fld := { base := 0x100300, stride := 8, count := 8, lo := 2, width := 1, acc := .w1c, reset := .const 0 }
/-- LNK_STATUS.AUTH_FAIL 3 (R473). -/
def F.lnkStatus_authFail : Fld := { base := 0x100300, stride := 8, count := 8, lo := 3, width := 1, acc := .w1c, reset := .const 0 }
/-- LNK_STATUS.PARTNER_MISMATCH 4 (R473). -/
def F.lnkStatus_partnerMismatch : Fld := { base := 0x100300, stride := 8, count := 8, lo := 4, width := 1, acc := .w1c, reset := .const 0 }
/-- LNK_STATUS.TAG_FAIL 5 (R473). -/
def F.lnkStatus_tagFail : Fld := { base := 0x100300, stride := 8, count := 8, lo := 5, width := 1, acc := .w1c, reset := .const 0 }
/-- LNK_STATUS.UNAUTH_DISCARD 6 (R473). -/
def F.lnkStatus_unauthDiscard : Fld := { base := 0x100300, stride := 8, count := 8, lo := 6, width := 1, acc := .w1c, reset := .const 0, silent := true }
/-- LNK_STATUS.MALFORMED_PKT 7 (R473). -/
def F.lnkStatus_malformedPkt : Fld := { base := 0x100300, stride := 8, count := 8, lo := 7, width := 1, acc := .w1c, reset := .const 0 }
/-- LNK_STATUS.STOMP_RX 8 (R473). -/
def F.lnkStatus_stompRx : Fld := { base := 0x100300, stride := 8, count := 8, lo := 8, width := 1, acc := .w1c, reset := .const 0 }
/-- LNK_FEC_COUNT.CORRECTED 31:0 (R474). -/
def F.lnkFecCount_corrected : Fld := { base := 0x100400, stride := 8, count := 8, lo := 0, width := 32, acc := .rc, reset := .const 0 }
/-- LNK_FEC_COUNT.UNCORRECTED 63:32 (R474). -/
def F.lnkFecCount_uncorrected : Fld := { base := 0x100400, stride := 8, count := 8, lo := 32, width := 32, acc := .rc, reset := .const 0 }
/-- LNK_REPLAY_COUNT.REPLAYS 31:0 (R474). -/
def F.lnkReplayCount_replays : Fld := { base := 0x100500, stride := 8, count := 8, lo := 0, width := 32, acc := .rc, reset := .const 0 }
/-- LNK_REPLAY_COUNT.RETRAINS 63:32 (R474). -/
def F.lnkReplayCount_retrains : Fld := { base := 0x100500, stride := 8, count := 8, lo := 32, width := 32, acc := .rc, reset := .const 0 }

/-- The registers of LNK. -/
def lnkRegs : List RegDesc := [
  ⟨0x100000, 8, 1, [F.lnkCap_ports, F.lnkCap_lanes, F.lnkCap_laneGbps, F.lnkCap_replayFlits]⟩,
  ⟨0x100008, 8, 1, [F.lnkDeadBound_boundUs]⟩,
  ⟨0x100010, 8, 1, [F.lnkResend_resendUs]⟩,
  ⟨0x100018, 8, 1, [F.lnkQuarHoldoff_holdoffMs]⟩,
  ⟨0x100020, 8, 1, [F.lnkDeadCount_count]⟩,
  ⟨0x100028, 8, 1, [F.lnkLateReplyCount_count]⟩,
  ⟨0x100100, 8, 8, [F.lnkCtl_enable, F.lnkCtl_keepaliveOk, F.lnkCtl_minWidth, F.lnkCtl_retrain, F.lnkCtl_reauth]⟩,
  ⟨0x100200, 8, 8, [F.lnkState_state, F.lnkState_width, F.lnkState_partner, F.lnkState_partnerPort, F.lnkState_client, F.lnkState_keyEpoch, F.lnkState_quarFails]⟩,
  ⟨0x100300, 8, 8, [F.lnkStatus_down, F.lnkStatus_retrained, F.lnkStatus_widthDegraded, F.lnkStatus_authFail, F.lnkStatus_partnerMismatch, F.lnkStatus_tagFail, F.lnkStatus_unauthDiscard, F.lnkStatus_malformedPkt, F.lnkStatus_stompRx]⟩,
  ⟨0x100400, 8, 8, [F.lnkFecCount_corrected, F.lnkFecCount_uncorrected]⟩,
  ⟨0x100500, 8, 8, [F.lnkReplayCount_replays, F.lnkReplayCount_retrains]⟩]

/-! ### SWC (offset 0x120000, R696) -/

/-- SWC_CAP.OUTPUTS 3:0 (R477). -/
def F.swcCap_outputs : Fld := { base := 0x120000, stride := 8, count := 1, lo := 0, width := 4, acc := .ro, reset := .perCode 8 4 4 }
/-- SWC_CAP.BUF_KIB 17:4 (R477). -/
def F.swcCap_bufKib : Fld := { base := 0x120000, stride := 8, count := 1, lo := 4, width := 14, acc := .ro, reset := .const 8192 }
/-- SWC_CAP.WINDOW 28:18 (R477). -/
def F.swcCap_window : Fld := { base := 0x120000, stride := 8, count := 1, lo := 18, width := 11, acc := .ro, reset := .const 1024 }
/-- SWC_CAP.RESEQ_SLOTS 43:29 (R477). -/
def F.swcCap_reseqSlots : Fld := { base := 0x120000, stride := 8, count := 1, lo := 29, width := 15, acc := .ro, reset := .const 16384 }
/-- SWC_CAP.REPLAY_KIB 59:44 (R477). -/
def F.swcCap_replayKib : Fld := { base := 0x120000, stride := 8, count := 1, lo := 44, width := 16, acc := .ro, reset := .const 32768 }
/-- SWC_STATUS.RESEQ_FULL 0 (R478). -/
def F.swcStatus_reseqFull : Fld := { base := 0x120008, stride := 8, count := 1, lo := 0, width := 1, acc := .w1c, reset := .const 0, silent := true }
/-- SWC_STATUS.REPLAY_FULL 1 (R478). -/
def F.swcStatus_replayFull : Fld := { base := 0x120008, stride := 8, count := 1, lo := 1, width := 1, acc := .w1c, reset := .const 0, silent := true }
/-- SWC_STATUS.NO_ROUTE 2 (R478). -/
def F.swcStatus_noRoute : Fld := { base := 0x120008, stride := 8, count := 1, lo := 2, width := 1, acc := .w1c, reset := .const 0 }
/-- SWC_STATUS.UNREACHABLE 3 (R478). -/
def F.swcStatus_unreachable : Fld := { base := 0x120008, stride := 8, count := 1, lo := 3, width := 1, acc := .w1c, reset := .const 0 }
/-- SWC_STATUS.STOMP 4 (R478). -/
def F.swcStatus_stomp : Fld := { base := 0x120008, stride := 8, count := 1, lo := 4, width := 1, acc := .w1c, reset := .const 0, silent := true }
/-- SWC_STATUS.MCAST_UNICAST 5 (R478). -/
def F.swcStatus_mcastUnicast : Fld := { base := 0x120008, stride := 8, count := 1, lo := 5, width := 1, acc := .w1c, reset := .const 0, silent := true }
/-- SWC_STATUS.HOP_LIMIT 6 (R478). -/
def F.swcStatus_hopLimit : Fld := { base := 0x120008, stride := 8, count := 1, lo := 6, width := 1, acc := .w1c, reset := .const 0 }
/-- SWC_STATUS.REQ_DEAD 7 (R478). -/
def F.swcStatus_reqDead : Fld := { base := 0x120008, stride := 8, count := 1, lo := 7, width := 1, acc := .w1c, reset := .const 0 }
/-- SWC_STATUS.POSTED_LOST 8 (R478). -/
def F.swcStatus_postedLost : Fld := { base := 0x120008, stride := 8, count := 1, lo := 8, width := 1, acc := .w1c, reset := .const 0 }
/-- SWC_REPLAY_USED.KIB 15:0 (R479). -/
def F.swcReplayUsed_kib : Fld := { base := 0x120010, stride := 8, count := 1, lo := 0, width := 16, acc := .ro, reset := .const 0 }
/-- SWC_RESEQ_USED.SLOTS 14:0 (R479). -/
def F.swcReseqUsed_slots : Fld := { base := 0x120018, stride := 8, count := 1, lo := 0, width := 15, acc := .ro, reset := .const 0 }
/-- SWC_DROP_COUNT.COUNT 63:0 (R481). -/
def F.swcDropCount_count : Fld := { base := 0x120020, stride := 8, count := 1, lo := 0, width := 64, acc := .rc, reset := .const 0 }
/-- SWC_RESEND_COUNT.COUNT 63:0 (R481). -/
def F.swcResendCount_count : Fld := { base := 0x120028, stride := 8, count := 1, lo := 0, width := 64, acc := .rc, reset := .const 0 }
/-- SWC_STOMP_COUNT.COUNT 63:0 (R481). -/
def F.swcStompCount_count : Fld := { base := 0x120030, stride := 8, count := 1, lo := 0, width := 64, acc := .rc, reset := .const 0 }
/-- SWC_FWD.CUT 3:0 (R480). -/
def F.swcFwd_cut : Fld := { base := 0x120100, stride := 8, count := 8, lo := 0, width := 4, acc := .rw, reset := .weave }
/-- SWC_OUT.USED_KIB 13:0 (R479). -/
def F.swcOut_usedKib : Fld := { base := 0x120200, stride := 8, count := 8, lo := 0, width := 14, acc := .ro, reset := .const 0 }
/-- SWC_OUT.SHARED_FREE_KIB 27:14 (R479). -/
def F.swcOut_sharedFreeKib : Fld := { base := 0x120200, stride := 8, count := 8, lo := 14, width := 14, acc := .ro, reset := .perCode 4096 6144 6144 }
/-- SWC_UNREACH.MAP 63:0 (R479). -/
def F.swcUnreach_map : Fld := { base := 0x120300, stride := 8, count := 8, lo := 0, width := 64, acc := .ro, reset := .const 0 }

/-- The registers of SWC. -/
def swcRegs : List RegDesc := [
  ⟨0x120000, 8, 1, [F.swcCap_outputs, F.swcCap_bufKib, F.swcCap_window, F.swcCap_reseqSlots, F.swcCap_replayKib]⟩,
  ⟨0x120008, 8, 1, [F.swcStatus_reseqFull, F.swcStatus_replayFull, F.swcStatus_noRoute, F.swcStatus_unreachable, F.swcStatus_stomp, F.swcStatus_mcastUnicast, F.swcStatus_hopLimit, F.swcStatus_reqDead, F.swcStatus_postedLost]⟩,
  ⟨0x120010, 8, 1, [F.swcReplayUsed_kib]⟩,
  ⟨0x120018, 8, 1, [F.swcReseqUsed_slots]⟩,
  ⟨0x120020, 8, 1, [F.swcDropCount_count]⟩,
  ⟨0x120028, 8, 1, [F.swcResendCount_count]⟩,
  ⟨0x120030, 8, 1, [F.swcStompCount_count]⟩,
  ⟨0x120100, 8, 8, [F.swcFwd_cut]⟩,
  ⟨0x120200, 8, 8, [F.swcOut_usedKib, F.swcOut_sharedFreeKib]⟩,
  ⟨0x120300, 8, 8, [F.swcUnreach_map]⟩]

/-! ### HPT (offset 0x140000, R696) -/

/-- HPT_CAP.BINDINGS 7:0 (R525). -/
def F.hptCap_bindings : Fld := { base := 0x140000, stride := 8, count := 1, lo := 0, width := 8, acc := .ro, reset := .const 32 }
/-- HPT_CAP.DECODERS 11:8 (R525). -/
def F.hptCap_decoders : Fld := { base := 0x140000, stride := 8, count := 1, lo := 8, width := 4, acc := .ro, reset := .const 8 }
/-- HPT_CAP.DC_REGIONS 15:12 (R525). -/
def F.hptCap_dcRegions : Fld := { base := 0x140000, stride := 8, count := 1, lo := 12, width := 4, acc := .ro, reset := .const 8 }
/-- HPT_CAP.EXTENTS 31:16 (R525). -/
def F.hptCap_extents : Fld := { base := 0x140000, stride := 8, count := 1, lo := 16, width := 16, acc := .ro, reset := .const 4096 }
/-- HPT_CAP.DIR_ENTRIES 54:32 (R525). -/
def F.hptCap_dirEntries : Fld := { base := 0x140000, stride := 8, count := 1, lo := 32, width := 23, acc := .ro, reset := .const 4194304 }
/-- HPT_CAP.COMMONS 61:55 (R525). -/
def F.hptCap_commons : Fld := { base := 0x140000, stride := 8, count := 1, lo := 55, width := 7, acc := .ro, reset := .const 64 }
/-- HPT_LINK.STATE 1:0 (R525). -/
def F.hptLink_state : Fld := { base := 0x140008, stride := 8, count := 1, lo := 0, width := 2, acc := .ro, reset := .const 0 }
/-- HPT_LINK.WIDTH 6:2 (R525). -/
def F.hptLink_width : Fld := { base := 0x140008, stride := 8, count := 1, lo := 2, width := 5, acc := .ro, reset := .const 0 }
/-- HPT_LINK.RATE_GT 13:7 (R525). -/
def F.hptLink_rateGt : Fld := { base := 0x140008, stride := 8, count := 1, lo := 7, width := 7, acc := .ro, reset := .const 0 }
/-- HPT_LINK.PBR 14 (R525). -/
def F.hptLink_pbr : Fld := { base := 0x140008, stride := 8, count := 1, lo := 14, width := 1, acc := .ro, reset := .const 0 }
/-- HPT_LINK.IDE_IO 15 (R525). -/
def F.hptLink_ideIo : Fld := { base := 0x140008, stride := 8, count := 1, lo := 15, width := 1, acc := .ro, reset := .const 0 }
/-- HPT_LINK.IDE_MEM 16 (R525). -/
def F.hptLink_ideMem : Fld := { base := 0x140008, stride := 8, count := 1, lo := 16, width := 1, acc := .ro, reset := .const 0 }
/-- HPT_STATUS.RECALL_TIMEOUT 0 (R526). -/
def F.hptStatus_recallTimeout : Fld := { base := 0x140010, stride := 8, count := 1, lo := 0, width := 1, acc := .w1c, reset := .const 0 }
/-- HPT_STATUS.FENCED 1 (R526). -/
def F.hptStatus_fenced : Fld := { base := 0x140010, stride := 8, count := 1, lo := 1, width := 1, acc := .w1c, reset := .const 0 }
/-- HPT_STATUS.DIR_FULL 2 (R526). -/
def F.hptStatus_dirFull : Fld := { base := 0x140010, stride := 8, count := 1, lo := 2, width := 1, acc := .w1c, reset := .const 0, silent := true }
/-- HPT_STATUS.HOST_ERR 3 (R526). -/
def F.hptStatus_hostErr : Fld := { base := 0x140010, stride := 8, count := 1, lo := 3, width := 1, acc := .w1c, reset := .const 0, silent := true }
/-- HPT_STATUS.DC_FORCED 4 (R526). -/
def F.hptStatus_dcForced : Fld := { base := 0x140010, stride := 8, count := 1, lo := 4, width := 1, acc := .w1c, reset := .const 0 }
/-- HPT_STATUS.IDE_FAIL 5 (R526). -/
def F.hptStatus_ideFail : Fld := { base := 0x140010, stride := 8, count := 1, lo := 5, width := 1, acc := .w1c, reset := .const 0 }
/-- HPT_STATUS.DISCARD 6 (R526). -/
def F.hptStatus_discard : Fld := { base := 0x140010, stride := 8, count := 1, lo := 6, width := 1, acc := .w1c, reset := .const 0, silent := true }
/-- HPT_RECALL_BOUND.BOUND_US 13:0 (R527). -/
def F.hptRecallBound_boundUs : Fld := { base := 0x140018, stride := 8, count := 1, lo := 0, width := 14, acc := .rw, reset := .const 100, range := some (10, 10000) }
/-- HPT_DC_GRACE.GRACE_MS 19:0 (R527). -/
def F.hptDcGrace_graceMs : Fld := { base := 0x140020, stride := 8, count := 1, lo := 0, width := 20, acc := .rw, reset := .const 10000, range := some (100, 600000) }
/-- HPT_DIR_USED.USED 22:0 (R527). -/
def F.hptDirUsed_used : Fld := { base := 0x140028, stride := 8, count := 1, lo := 0, width := 23, acc := .ro, reset := .const 0 }
/-- HPT_CMD.OP 3:0 (R528). -/
def F.hptCmd_op : Fld := { base := 0x140030, stride := 8, count := 1, lo := 0, width := 4, acc := .rw, reset := .const 0 }
/-- HPT_CMD.BUSY 4 (R528). -/
def F.hptCmd_busy : Fld := { base := 0x140030, stride := 8, count := 1, lo := 4, width := 1, acc := .ro, reset := .const 0 }
/-- HPT_ARG0.ALL 63:0 (R529). -/
def F.hptArg0_all : Fld := { base := 0x140038, stride := 8, count := 1, lo := 0, width := 64, acc := .rw, reset := .const 0 }
/-- HPT_ARG1.ALL 63:0 (R529). -/
def F.hptArg1_all : Fld := { base := 0x140040, stride := 8, count := 1, lo := 0, width := 64, acc := .rw, reset := .const 0 }
/-- HPT_RESULT.CODE 7:0 (R528). -/
def F.hptResult_code : Fld := { base := 0x140048, stride := 8, count := 1, lo := 0, width := 8, acc := .ro, reset := .const 0 }
/-- HPT_RECALL_COUNT.COUNT 63:0 (R531). -/
def F.hptRecallCount_count : Fld := { base := 0x140050, stride := 8, count := 1, lo := 0, width := 64, acc := .rc, reset := .const 0 }
/-- HPT_RETRY_COUNT.COUNT 63:0 (R531). -/
def F.hptRetryCount_count : Fld := { base := 0x140058, stride := 8, count := 1, lo := 0, width := 64, acc := .rc, reset := .const 0 }
/-- HPT_STALE_COUNT.COUNT 63:0 (R531). -/
def F.hptStaleCount_count : Fld := { base := 0x140060, stride := 8, count := 1, lo := 0, width := 64, acc := .rc, reset := .const 0 }
/-- HPT_BIND.STATE 1:0 (R530). -/
def F.hptBind_state : Fld := { base := 0x140100, stride := 8, count := 32, lo := 0, width := 2, acc := .ro, reset := .weave }
/-- HPT_BIND.TENANT 9:2 (R530). -/
def F.hptBind_tenant : Fld := { base := 0x140100, stride := 8, count := 32, lo := 2, width := 8, acc := .ro, reset := .weave }
/-- HPT_BIND.PBR_ID 21:10 (R530). -/
def F.hptBind_pbrId : Fld := { base := 0x140100, stride := 8, count := 32, lo := 10, width := 12, acc := .ro, reset := .weave }
/-- HPT_BIND.MGMT_OK 22 (R530). -/
def F.hptBind_mgmtOk : Fld := { base := 0x140100, stride := 8, count := 32, lo := 22, width := 1, acc := .ro, reset := .weave }
/-- HPT_BIND.EXTENTS 35:23 (R530). -/
def F.hptBind_extents : Fld := { base := 0x140100, stride := 8, count := 32, lo := 23, width := 13, acc := .ro, reset := .const 0 }
/-- HPT_BIND_ERR.LAST_CODE 7:0 (R530). -/
def F.hptBindErr_lastCode : Fld := { base := 0x140200, stride := 8, count := 32, lo := 0, width := 8, acc := .rc, reset := .const 0 }
/-- HPT_BIND_ERR.COUNT 39:8 (R530). -/
def F.hptBindErr_count : Fld := { base := 0x140200, stride := 8, count := 32, lo := 8, width := 32, acc := .rc, reset := .const 0 }
/-- HPT_COM.VALID 0 (R530). -/
def F.hptCom_valid : Fld := { base := 0x140400, stride := 8, count := 64, lo := 0, width := 1, acc := .ro, reset := .const 0 }
/-- HPT_COM.OWNER 8:1 (R530). -/
def F.hptCom_owner : Fld := { base := 0x140400, stride := 8, count := 64, lo := 1, width := 8, acc := .ro, reset := .const 0 }
/-- HPT_COM.GRANULES 21:9 (R530). -/
def F.hptCom_granules : Fld := { base := 0x140400, stride := 8, count := 64, lo := 9, width := 13, acc := .ro, reset := .const 0 }
/-- HPT_COM.LIVE 28:22 (R530). -/
def F.hptCom_live : Fld := { base := 0x140400, stride := 8, count := 64, lo := 22, width := 7, acc := .ro, reset := .const 0 }
/-- HPT_COM.VIEWS 41:29 (R530). -/
def F.hptCom_views : Fld := { base := 0x140400, stride := 8, count := 64, lo := 29, width := 13, acc := .ro, reset := .const 0 }
/-- HPT_COM_VER.LATEST 63:0 (R530). -/
def F.hptComVer_latest : Fld := { base := 0x140600, stride := 8, count := 64, lo := 0, width := 64, acc := .ro, reset := .const 0 }

/-- The registers of HPT, part 1. -/
def hptRegs0 : List RegDesc := [
  ⟨0x140000, 8, 1, [F.hptCap_bindings, F.hptCap_decoders, F.hptCap_dcRegions, F.hptCap_extents, F.hptCap_dirEntries, F.hptCap_commons]⟩,
  ⟨0x140008, 8, 1, [F.hptLink_state, F.hptLink_width, F.hptLink_rateGt, F.hptLink_pbr, F.hptLink_ideIo, F.hptLink_ideMem]⟩,
  ⟨0x140010, 8, 1, [F.hptStatus_recallTimeout, F.hptStatus_fenced, F.hptStatus_dirFull, F.hptStatus_hostErr, F.hptStatus_dcForced, F.hptStatus_ideFail, F.hptStatus_discard]⟩,
  ⟨0x140018, 8, 1, [F.hptRecallBound_boundUs]⟩,
  ⟨0x140020, 8, 1, [F.hptDcGrace_graceMs]⟩,
  ⟨0x140028, 8, 1, [F.hptDirUsed_used]⟩,
  ⟨0x140030, 8, 1, [F.hptCmd_op, F.hptCmd_busy]⟩,
  ⟨0x140038, 8, 1, [F.hptArg0_all]⟩,
  ⟨0x140040, 8, 1, [F.hptArg1_all]⟩,
  ⟨0x140048, 8, 1, [F.hptResult_code]⟩,
  ⟨0x140050, 8, 1, [F.hptRecallCount_count]⟩,
  ⟨0x140058, 8, 1, [F.hptRetryCount_count]⟩,
  ⟨0x140060, 8, 1, [F.hptStaleCount_count]⟩,
  ⟨0x140100, 8, 32, [F.hptBind_state, F.hptBind_tenant, F.hptBind_pbrId, F.hptBind_mgmtOk, F.hptBind_extents]⟩,
  ⟨0x140200, 8, 32, [F.hptBindErr_lastCode, F.hptBindErr_count]⟩,
  ⟨0x140400, 8, 64, [F.hptCom_valid, F.hptCom_owner, F.hptCom_granules, F.hptCom_live, F.hptCom_views]⟩]

/-- The registers of HPT, part 2. -/
def hptRegs1 : List RegDesc := [
  ⟨0x140600, 8, 64, [F.hptComVer_latest]⟩]

/-- The registers of HPT. -/
def hptRegs : List RegDesc := hptRegs0 ++ hptRegs1

/-! ### MAP (offset 0x160000, R696) -/

/-- MAP_CAP.RECORDS 20:0 (R567). -/
def F.mapCap_records : Fld := { base := 0x160000, stride := 8, count := 1, lo := 0, width := 21, acc := .ro, reset := .const 1048576 }
/-- MAP_CAP.KEEPERS 22:21 (R567). -/
def F.mapCap_keepers : Fld := { base := 0x160000, stride := 8, count := 1, lo := 21, width := 2, acc := .ro, reset := .const 3 }
/-- MAP_ROLE.KEEPER 0 (R567). -/
def F.mapRole_keeper : Fld := { base := 0x160008, stride := 8, count := 1, lo := 0, width := 1, acc := .ro, reset := .weave }
/-- MAP_ROLE.INDEX 2:1 (R567). -/
def F.mapRole_index : Fld := { base := 0x160008, stride := 8, count := 1, lo := 1, width := 2, acc := .ro, reset := .weave }
/-- MAP_ROLE.KEEPER0_X 5:3 (R567). -/
def F.mapRole_keeper0X : Fld := { base := 0x160008, stride := 8, count := 1, lo := 3, width := 3, acc := .ro, reset := .weave }
/-- MAP_ROLE.KEEPER1_X 8:6 (R567). -/
def F.mapRole_keeper1X : Fld := { base := 0x160008, stride := 8, count := 1, lo := 6, width := 3, acc := .ro, reset := .weave }
/-- MAP_ROLE.KEEPER2_X 11:9 (R567). -/
def F.mapRole_keeper2X : Fld := { base := 0x160008, stride := 8, count := 1, lo := 9, width := 3, acc := .ro, reset := .weave }
/-- MAP_ROLE.ENGINE_DIE 12 (R567). -/
def F.mapRole_engineDie : Fld := { base := 0x160008, stride := 8, count := 1, lo := 12, width := 1, acc := .ro, reset := .const 0 }
/-- MAP_STATUS.VERDICT 0 (R568). -/
def F.mapStatus_verdict : Fld := { base := 0x160010, stride := 8, count := 1, lo := 0, width := 1, acc := .w1c, reset := .const 0 }
/-- MAP_STATUS.ADOPTING 1 (R568). -/
def F.mapStatus_adopting : Fld := { base := 0x160010, stride := 8, count := 1, lo := 1, width := 1, acc := .w1c, reset := .const 0, silent := true }
/-- MAP_STATUS.RING_LOST 2 (R568). -/
def F.mapStatus_ringLost : Fld := { base := 0x160010, stride := 8, count := 1, lo := 2, width := 1, acc := .w1c, reset := .const 0 }
/-- MAP_STATUS.ISOLATED 3 (R568). -/
def F.mapStatus_isolated : Fld := { base := 0x160010, stride := 8, count := 1, lo := 3, width := 1, acc := .w1c, reset := .const 0 }
/-- MAP_STATUS.KEEPER_CHANGE 4 (R568). -/
def F.mapStatus_keeperChange : Fld := { base := 0x160010, stride := 8, count := 1, lo := 4, width := 1, acc := .w1c, reset := .const 0 }
/-- MAP_STATUS.OFFER_EXPIRED 5 (R568). -/
def F.mapStatus_offerExpired : Fld := { base := 0x160010, stride := 8, count := 1, lo := 5, width := 1, acc := .w1c, reset := .const 0 }
/-- MAP_STATUS.GRANULES_LOST 6 (R568). -/
def F.mapStatus_granulesLost : Fld := { base := 0x160010, stride := 8, count := 1, lo := 6, width := 1, acc := .w1c, reset := .const 0 }
/-- MAP_STATUS.REPAIR_FAIL 7 (R568). -/
def F.mapStatus_repairFail : Fld := { base := 0x160010, stride := 8, count := 1, lo := 7, width := 1, acc := .w1c, reset := .const 0 }
/-- MAP_STATUS.REHEARSAL 8 (R568). -/
def F.mapStatus_rehearsal : Fld := { base := 0x160010, stride := 8, count := 1, lo := 8, width := 1, acc := .w1c, reset := .const 0, silent := true }
/-- MAP_STATUS.EPOCH_DISCARD 9 (R568). -/
def F.mapStatus_epochDiscard : Fld := { base := 0x160010, stride := 8, count := 1, lo := 9, width := 1, acc := .w1c, reset := .const 0 }
/-- MAP_STATUS.LOG_MISS 10 (R568). -/
def F.mapStatus_logMiss : Fld := { base := 0x160010, stride := 8, count := 1, lo := 10, width := 1, acc := .w1c, reset := .const 0 }
/-- MAP_ISOLATE_BOUND.BOUND_US 13:0 (R569). -/
def F.mapIsolateBound_boundUs : Fld := { base := 0x160018, stride := 8, count := 1, lo := 0, width := 14, acc := .rw, reset := .const 500, range := some (200, 10000) }
/-- MAP_OFFER_WALES.WALES 15:0 (R569). -/
def F.mapOfferWales_wales : Fld := { base := 0x160020, stride := 8, count := 1, lo := 0, width := 16, acc := .rw, reset := .const 64, range := some (1, 65535) }
/-- MAP_REPAIR_BOUND.BOUND_S 15:0 (R569). -/
def F.mapRepairBound_boundS : Fld := { base := 0x160028, stride := 8, count := 1, lo := 0, width := 16, acc := .rw, reset := .const 600, range := some (60, 36000) }
/-- MAP_MIRROR.USED 23:0 (R570). -/
def F.mapMirror_used : Fld := { base := 0x160030, stride := 8, count := 1, lo := 0, width := 24, acc := .ro, reset := .const 0 }
/-- MAP_MIRROR.FRAMES 47:24 (R570). -/
def F.mapMirror_frames : Fld := { base := 0x160030, stride := 8, count := 1, lo := 24, width := 24, acc := .ro, reset := .weave }
/-- MAP_MIRROR.CONTEXTS 61:48 (R570). -/
def F.mapMirror_contexts : Fld := { base := 0x160030, stride := 8, count := 1, lo := 48, width := 14, acc := .ro, reset := .const 0 }
/-- MAP_REHEARSE.ENABLE 0 (R570). -/
def F.mapRehearse_enable : Fld := { base := 0x160038, stride := 8, count := 1, lo := 0, width := 1, acc := .rw, reset := .weave }
/-- MAP_REHEARSE.ACTIVE 1 (R570). -/
def F.mapRehearse_active : Fld := { base := 0x160038, stride := 8, count := 1, lo := 1, width := 1, acc := .ro, reset := .const 0 }
/-- MAP_REHEARSE.LAST_KIND 5:2 (R570). -/
def F.mapRehearse_lastKind : Fld := { base := 0x160038, stride := 8, count := 1, lo := 2, width := 4, acc := .ro, reset := .const 0 }
/-- MAP_CMD.OP 3:0 (R571). -/
def F.mapCmd_op : Fld := { base := 0x160040, stride := 8, count := 1, lo := 0, width := 4, acc := .rw, reset := .const 0 }
/-- MAP_CMD.BUSY 4 (R571). -/
def F.mapCmd_busy : Fld := { base := 0x160040, stride := 8, count := 1, lo := 4, width := 1, acc := .ro, reset := .const 0 }
/-- MAP_ARG0.KIND 7:0 (R571). -/
def F.mapArg0_kind : Fld := { base := 0x160048, stride := 8, count := 1, lo := 0, width := 8, acc := .rw, reset := .const 0 }
/-- MAP_ARG0.TENANT 15:8 (R571). -/
def F.mapArg0_tenant : Fld := { base := 0x160048, stride := 8, count := 1, lo := 8, width := 8, acc := .rw, reset := .const 0 }
/-- MAP_ARG0.DEVICE 24:16 (R571). -/
def F.mapArg0_device : Fld := { base := 0x160048, stride := 8, count := 1, lo := 16, width := 9, acc := .rw, reset := .const 0 }
/-- MAP_ARG0.ORIGIN 33:25 (R571). -/
def F.mapArg0_origin : Fld := { base := 0x160048, stride := 8, count := 1, lo := 25, width := 9, acc := .rw, reset := .const 0 }
/-- MAP_ARG0.INJECT_KIND 37:34 (R571). -/
def F.mapArg0_injectKind : Fld := { base := 0x160048, stride := 8, count := 1, lo := 34, width := 4, acc := .rw, reset := .const 0 }
/-- MAP_ARG1.KEY 63:0 (R571). -/
def F.mapArg1_key : Fld := { base := 0x160050, stride := 8, count := 1, lo := 0, width := 64, acc := .rw, reset := .const 0 }
/-- MAP_RESULT.CODE 7:0 (R571). -/
def F.mapResult_code : Fld := { base := 0x160058, stride := 8, count := 1, lo := 0, width := 8, acc := .ro, reset := .const 0 }
/-- MAP_RESULT.STATE 11:8 (R571). -/
def F.mapResult_state : Fld := { base := 0x160058, stride := 8, count := 1, lo := 8, width := 4, acc := .ro, reset := .const 0 }
/-- MAP_RESULT.HOLDER 20:12 (R571). -/
def F.mapResult_holder : Fld := { base := 0x160058, stride := 8, count := 1, lo := 12, width := 9, acc := .ro, reset := .const 0 }
/-- MAP_RESULT.TAKER 29:21 (R571). -/
def F.mapResult_taker : Fld := { base := 0x160058, stride := 8, count := 1, lo := 21, width := 9, acc := .ro, reset := .const 0 }
/-- MAP_RESULT.EPOCH 61:30 (R571). -/
def F.mapResult_epoch : Fld := { base := 0x160058, stride := 8, count := 1, lo := 30, width := 32, acc := .ro, reset := .const 0 }
/-- MAP_COMMIT_COUNT.COUNT 63:0 (R573). -/
def F.mapCommitCount_count : Fld := { base := 0x160060, stride := 8, count := 1, lo := 0, width := 64, acc := .rc, reset := .const 0 }
/-- MAP_VERDICT_COUNT.COUNT 63:0 (R573). -/
def F.mapVerdictCount_count : Fld := { base := 0x160068, stride := 8, count := 1, lo := 0, width := 64, acc := .rc, reset := .const 0 }
/-- MAP_REHEARSAL_COUNT.RUN 31:0 (R573). -/
def F.mapRehearsalCount_run : Fld := { base := 0x160070, stride := 8, count := 1, lo := 0, width := 32, acc := .rc, reset := .const 0 }
/-- MAP_REHEARSAL_COUNT.SKIPPED 63:32 (R573). -/
def F.mapRehearsalCount_skipped : Fld := { base := 0x160070, stride := 8, count := 1, lo := 32, width := 32, acc := .rc, reset := .const 0 }
/-- MAP_FATE.STATE 2:0 (R574). -/
def F.mapFate_state : Fld := { base := 0x160100, stride := 8, count := 8, lo := 0, width := 3, acc := .ro, reset := .const 0 }
/-- MAP_FATE.REHEARSAL 3 (R574). -/
def F.mapFate_rehearsal : Fld := { base := 0x160100, stride := 8, count := 8, lo := 3, width := 1, acc := .ro, reset := .const 0 }
/-- MAP_FATE.ADOPTER_X 6:4 (R574). -/
def F.mapFate_adopterX : Fld := { base := 0x160100, stride := 8, count := 8, lo := 4, width := 3, acc := .ro, reset := .const 0 }
/-- MAP_FATE.ADOPTED 7 (R574). -/
def F.mapFate_adopted : Fld := { base := 0x160100, stride := 8, count := 8, lo := 7, width := 1, acc := .ro, reset := .const 0 }
/-- MAP_FATE.TRACKS 23:8 (R574). -/
def F.mapFate_tracks : Fld := { base := 0x160100, stride := 8, count := 8, lo := 8, width := 16, acc := .ro, reset := .const 0 }

/-- The registers of MAP. -/
def mapRegs : List RegDesc := [
  ⟨0x160000, 8, 1, [F.mapCap_records, F.mapCap_keepers]⟩,
  ⟨0x160008, 8, 1, [F.mapRole_keeper, F.mapRole_index, F.mapRole_keeper0X, F.mapRole_keeper1X, F.mapRole_keeper2X, F.mapRole_engineDie]⟩,
  ⟨0x160010, 8, 1, [F.mapStatus_verdict, F.mapStatus_adopting, F.mapStatus_ringLost, F.mapStatus_isolated, F.mapStatus_keeperChange, F.mapStatus_offerExpired, F.mapStatus_granulesLost, F.mapStatus_repairFail, F.mapStatus_rehearsal, F.mapStatus_epochDiscard, F.mapStatus_logMiss]⟩,
  ⟨0x160018, 8, 1, [F.mapIsolateBound_boundUs]⟩,
  ⟨0x160020, 8, 1, [F.mapOfferWales_wales]⟩,
  ⟨0x160028, 8, 1, [F.mapRepairBound_boundS]⟩,
  ⟨0x160030, 8, 1, [F.mapMirror_used, F.mapMirror_frames, F.mapMirror_contexts]⟩,
  ⟨0x160038, 8, 1, [F.mapRehearse_enable, F.mapRehearse_active, F.mapRehearse_lastKind]⟩,
  ⟨0x160040, 8, 1, [F.mapCmd_op, F.mapCmd_busy]⟩,
  ⟨0x160048, 8, 1, [F.mapArg0_kind, F.mapArg0_tenant, F.mapArg0_device, F.mapArg0_origin, F.mapArg0_injectKind]⟩,
  ⟨0x160050, 8, 1, [F.mapArg1_key]⟩,
  ⟨0x160058, 8, 1, [F.mapResult_code, F.mapResult_state, F.mapResult_holder, F.mapResult_taker, F.mapResult_epoch]⟩,
  ⟨0x160060, 8, 1, [F.mapCommitCount_count]⟩,
  ⟨0x160068, 8, 1, [F.mapVerdictCount_count]⟩,
  ⟨0x160070, 8, 1, [F.mapRehearsalCount_run, F.mapRehearsalCount_skipped]⟩,
  ⟨0x160100, 8, 8, [F.mapFate_state, F.mapFate_rehearsal, F.mapFate_adopterX, F.mapFate_adopted, F.mapFate_tracks]⟩]

/-! ### CHK (offset 0x180000, R696) -/

/-- CHK_CAP.UNITS 4:0 (R647). -/
def F.chkCap_units : Fld := { base := 0x180000, stride := 8, count := 1, lo := 0, width := 5, acc := .ro, reset := .perCode 16 8 8 }
/-- CHK_CAP.SCAN_UNITS 7:5 (R647). -/
def F.chkCap_scanUnits : Fld := { base := 0x180000, stride := 8, count := 1, lo := 5, width := 3, acc := .ro, reset := .perCode 4 2 2 }
/-- CHK_CAP.UNIT_GBPS 15:8 (R647). -/
def F.chkCap_unitGbps : Fld := { base := 0x180000, stride := 8, count := 1, lo := 8, width := 8, acc := .ro, reset := .const 64 }
/-- CHK_STATUS.INLINE_MISMATCH 0 (R647). -/
def F.chkStatus_inlineMismatch : Fld := { base := 0x180008, stride := 8, count := 1, lo := 0, width := 1, acc := .w1c, reset := .const 0 }
/-- CHK_STATUS.SCAN_POISON 1 (R647). -/
def F.chkStatus_scanPoison : Fld := { base := 0x180008, stride := 8, count := 1, lo := 1, width := 1, acc := .w1c, reset := .const 0 }
/-- CHK_STATUS.SCAN_OVERRUN 2 (R647). -/
def F.chkStatus_scanOverrun : Fld := { base := 0x180008, stride := 8, count := 1, lo := 2, width := 1, acc := .w1c, reset := .const 0, silent := true }
/-- CHK_INLINE_FAIL_COUNT.COUNT 63:0 (R648). -/
def F.chkInlineFailCount_count : Fld := { base := 0x180010, stride := 8, count := 1, lo := 0, width := 64, acc := .rc, reset := .const 0 }
/-- CHK_SCAN_ADDR.ADDR 63:0 (R648). -/
def F.chkScanAddr_addr : Fld := { base := 0x180100, stride := 8, count := 4, lo := 0, width := 64, acc := .rw, reset := .const 0 }
/-- CHK_SCAN_LEN.LENGTH 40:0 (R648). -/
def F.chkScanLen_length : Fld := { base := 0x180140, stride := 8, count := 4, lo := 0, width := 41, acc := .rw, reset := .const 0 }
/-- CHK_SCAN_CMD.OP 1:0 (R648). -/
def F.chkScanCmd_op : Fld := { base := 0x180180, stride := 8, count := 4, lo := 0, width := 2, acc := .rw, reset := .const 0 }
/-- CHK_SCAN_CMD.BUSY 2 (R648). -/
def F.chkScanCmd_busy : Fld := { base := 0x180180, stride := 8, count := 4, lo := 2, width := 1, acc := .ro, reset := .const 0 }
/-- CHK_SCAN_CMD.CODE 10:3 (R648). -/
def F.chkScanCmd_code : Fld := { base := 0x180180, stride := 8, count := 4, lo := 3, width := 8, acc := .ro, reset := .const 0 }
/-- CHK_SCAN_RESULT.CRC 63:0 (R648). -/
def F.chkScanResult_crc : Fld := { base := 0x1801C0, stride := 8, count := 4, lo := 0, width := 64, acc := .ro, reset := .const 0 }
/-- CHK_SCAN_POS.POS 40:0 (R648). -/
def F.chkScanPos_pos : Fld := { base := 0x180200, stride := 8, count := 4, lo := 0, width := 41, acc := .ro, reset := .const 0 }

/-- The registers of CHK. -/
def chkRegs : List RegDesc := [
  ⟨0x180000, 8, 1, [F.chkCap_units, F.chkCap_scanUnits, F.chkCap_unitGbps]⟩,
  ⟨0x180008, 8, 1, [F.chkStatus_inlineMismatch, F.chkStatus_scanPoison, F.chkStatus_scanOverrun]⟩,
  ⟨0x180010, 8, 1, [F.chkInlineFailCount_count]⟩,
  ⟨0x180100, 8, 4, [F.chkScanAddr_addr]⟩,
  ⟨0x180140, 8, 4, [F.chkScanLen_length]⟩,
  ⟨0x180180, 8, 4, [F.chkScanCmd_op, F.chkScanCmd_busy, F.chkScanCmd_code]⟩,
  ⟨0x1801C0, 8, 4, [F.chkScanResult_crc]⟩,
  ⟨0x180200, 8, 4, [F.chkScanPos_pos]⟩]

/-! ### SEC (offset 0x1A0000, R696) -/

/-- SEC_STATE.ENROLLED 0 (R651). -/
def F.secState_enrolled : Fld := { base := 0x1A0000, stride := 8, count := 1, lo := 0, width := 1, acc := .ro, reset := .const 0 }
/-- SEC_STATE.SLOT1 1 (R651). -/
def F.secState_slot1 : Fld := { base := 0x1A0000, stride := 8, count := 1, lo := 1, width := 1, acc := .ro, reset := .const 0 }
/-- SEC_STATE.SESSIONS 4:2 (R651). -/
def F.secState_sessions : Fld := { base := 0x1A0000, stride := 8, count := 1, lo := 2, width := 3, acc := .ro, reset := .const 0 }
/-- SEC_STATUS.ENROLLED 0 (R651). -/
def F.secStatus_enrolled : Fld := { base := 0x1A0008, stride := 8, count := 1, lo := 0, width := 1, acc := .w1c, reset := .const 0, silent := true }
/-- SEC_STATUS.RP_WRITE_FAIL 1 (R651). -/
def F.secStatus_rpWriteFail : Fld := { base := 0x1A0008, stride := 8, count := 1, lo := 1, width := 1, acc := .w1c, reset := .const 0 }
/-- SEC_STATUS.FW_ROLLBACK 2 (R651). -/
def F.secStatus_fwRollback : Fld := { base := 0x1A0008, stride := 8, count := 1, lo := 2, width := 1, acc := .w1c, reset := .const 0 }
/-- SEC_STATUS.SPDM_REFUSED 3 (R651). -/
def F.secStatus_spdmRefused : Fld := { base := 0x1A0008, stride := 8, count := 1, lo := 3, width := 1, acc := .w1c, reset := .const 0 }
/-- SEC_DEVICE_ID.ID 63:0 (R651). -/
def F.secDeviceId_id : Fld := { base := 0x1A0010, stride := 8, count := 1, lo := 0, width := 64, acc := .ro, reset := .const 0 }
/-- SEC_OWNER_ID.ID 63:0 (R651). -/
def F.secOwnerId_id : Fld := { base := 0x1A0018, stride := 8, count := 1, lo := 0, width := 64, acc := .ro, reset := .const 0 }
/-- SEC_STAND_ID.ID 63:0 (R651). -/
def F.secStandId_id : Fld := { base := 0x1A0020, stride := 8, count := 1, lo := 0, width := 64, acc := .ro, reset := .const 0 }
/-- SEC_FW_ROLLBACK.COUNTER 31:0 (R651). -/
def F.secFwRollback_counter : Fld := { base := 0x1A0028, stride := 8, count := 1, lo := 0, width := 32, acc := .ro, reset := .const 0 }
/-- SEC_FW_ROLLBACK.IMAGE 63:32 (R651). -/
def F.secFwRollback_image : Fld := { base := 0x1A0028, stride := 8, count := 1, lo := 32, width := 32, acc := .ro, reset := .const 0 }
/-- SEC_RP_WRITES.COUNT 31:0 (R651). -/
def F.secRpWrites_count : Fld := { base := 0x1A0030, stride := 8, count := 1, lo := 0, width := 32, acc := .ro, reset := .const 0 }
/-- SEC_PK_COUNT.PRIVATE 31:0 (R651). -/
def F.secPkCount_private : Fld := { base := 0x1A0038, stride := 8, count := 1, lo := 0, width := 32, acc := .rc, reset := .const 0 }
/-- SEC_PK_COUNT.PUBLIC 63:32 (R651). -/
def F.secPkCount_public : Fld := { base := 0x1A0038, stride := 8, count := 1, lo := 32, width := 32, acc := .rc, reset := .const 0 }

/-- The registers of SEC. -/
def secRegs : List RegDesc := [
  ⟨0x1A0000, 8, 1, [F.secState_enrolled, F.secState_slot1, F.secState_sessions]⟩,
  ⟨0x1A0008, 8, 1, [F.secStatus_enrolled, F.secStatus_rpWriteFail, F.secStatus_fwRollback, F.secStatus_spdmRefused]⟩,
  ⟨0x1A0010, 8, 1, [F.secDeviceId_id]⟩,
  ⟨0x1A0018, 8, 1, [F.secOwnerId_id]⟩,
  ⟨0x1A0020, 8, 1, [F.secStandId_id]⟩,
  ⟨0x1A0028, 8, 1, [F.secFwRollback_counter, F.secFwRollback_image]⟩,
  ⟨0x1A0030, 8, 1, [F.secRpWrites_count]⟩,
  ⟨0x1A0038, 8, 1, [F.secPkCount_private, F.secPkCount_public]⟩]

/-! ### TEL (offset 0x1C0000, R696) -/

/-- TEL_CTL.INTERVAL 15:0 (R709). -/
def F.telCtl_interval : Fld := { base := 0x1C0000, stride := 8, count := 1, lo := 0, width := 16, acc := .rw, reset := .const 1000 }
/-- TEL_SNAP_SEQ.SEQ 31:0 (R709). -/
def F.telSnapSeq_seq : Fld := { base := 0x1C0008, stride := 8, count := 1, lo := 0, width := 32, acc := .ro, reset := .const 0 }
/-- TEL_SNAP_WALE.WALE 47:0 (R709). -/
def F.telSnapWale_wale : Fld := { base := 0x1C0010, stride := 8, count := 1, lo := 0, width := 48, acc := .ro, reset := .const 0 }
/-- TEL_SNAP_NS.COUNT 63:0 (R709). -/
def F.telSnapNs_count : Fld := { base := 0x1C0018, stride := 8, count := 1, lo := 0, width := 64, acc := .ro, reset := .const 0 }
/-- TEL_T0_BYTES.COUNT 63:0 (R709). -/
def F.telT0Bytes_count : Fld := { base := 0x1C0100, stride := 8, count := 1, lo := 0, width := 64, acc := .ro, reset := .const 0 }
/-- TEL_T1_BYTES.COUNT 63:0 (R709). -/
def F.telT1Bytes_count : Fld := { base := 0x1C0108, stride := 8, count := 1, lo := 0, width := 64, acc := .ro, reset := .const 0 }
/-- TEL_T2_BYTES.COUNT 63:0 (R709). -/
def F.telT2Bytes_count : Fld := { base := 0x1C0110, stride := 8, count := 1, lo := 0, width := 64, acc := .ro, reset := .const 0 }
/-- TEL_HOST_BYTES.COUNT 63:0 (R709). -/
def F.telHostBytes_count : Fld := { base := 0x1C0118, stride := 8, count := 1, lo := 0, width := 64, acc := .ro, reset := .const 0 }
/-- TEL_CELL_CYCLES.COUNT 63:0 (R709). -/
def F.telCellCycles_count : Fld := { base := 0x1C0120, stride := 8, count := 1, lo := 0, width := 64, acc := .ro, reset := .const 0 }
/-- TEL_STRETCH_NS.COUNT 63:0 (R709). -/
def F.telStretchNs_count : Fld := { base := 0x1C0128, stride := 8, count := 1, lo := 0, width := 64, acc := .ro, reset := .const 0 }
/-- TEL_ENERGY_J.COUNT 63:0 (R709). -/
def F.telEnergyJ_count : Fld := { base := 0x1C0130, stride := 8, count := 1, lo := 0, width := 64, acc := .ro, reset := .const 0 }
/-- TEL_LINK_TX.COUNT 63:0 (R709). -/
def F.telLinkTx_count : Fld := { base := 0x1C0200, stride := 8, count := 8, lo := 0, width := 64, acc := .ro, reset := .const 0 }
/-- TEL_LINK_RX.COUNT 63:0 (R709). -/
def F.telLinkRx_count : Fld := { base := 0x1C0240, stride := 8, count := 8, lo := 0, width := 64, acc := .ro, reset := .const 0 }
/-- TEL_TOKENS.COUNT 63:0 (R709). -/
def F.telTokens_count : Fld := { base := 0x1C1000, stride := 8, count := 256, lo := 0, width := 64, acc := .ro, reset := .const 0 }
/-- TEL_QUERIES.COUNT 63:0 (R709). -/
def F.telQueries_count : Fld := { base := 0x1C1800, stride := 8, count := 256, lo := 0, width := 64, acc := .ro, reset := .const 0 }
/-- TEL_UNSCHED_BYTES.COUNT 63:0 (R709). -/
def F.telUnschedBytes_count : Fld := { base := 0x1C2000, stride := 8, count := 256, lo := 0, width := 64, acc := .ro, reset := .const 0 }
/-- TEL_FRAME_WALES.COUNT 63:0 (R709). -/
def F.telFrameWales_count : Fld := { base := 0x1C2800, stride := 8, count := 256, lo := 0, width := 64, acc := .ro, reset := .const 0 }

/-- The registers of TEL, part 1. -/
def telRegs0 : List RegDesc := [
  ⟨0x1C0000, 8, 1, [F.telCtl_interval]⟩,
  ⟨0x1C0008, 8, 1, [F.telSnapSeq_seq]⟩,
  ⟨0x1C0010, 8, 1, [F.telSnapWale_wale]⟩,
  ⟨0x1C0018, 8, 1, [F.telSnapNs_count]⟩,
  ⟨0x1C0100, 8, 1, [F.telT0Bytes_count]⟩,
  ⟨0x1C0108, 8, 1, [F.telT1Bytes_count]⟩,
  ⟨0x1C0110, 8, 1, [F.telT2Bytes_count]⟩,
  ⟨0x1C0118, 8, 1, [F.telHostBytes_count]⟩,
  ⟨0x1C0120, 8, 1, [F.telCellCycles_count]⟩,
  ⟨0x1C0128, 8, 1, [F.telStretchNs_count]⟩,
  ⟨0x1C0130, 8, 1, [F.telEnergyJ_count]⟩,
  ⟨0x1C0200, 8, 8, [F.telLinkTx_count]⟩,
  ⟨0x1C0240, 8, 8, [F.telLinkRx_count]⟩,
  ⟨0x1C1000, 8, 256, [F.telTokens_count]⟩,
  ⟨0x1C1800, 8, 256, [F.telQueries_count]⟩,
  ⟨0x1C2000, 8, 256, [F.telUnschedBytes_count]⟩]

/-- The registers of TEL, part 2. -/
def telRegs1 : List RegDesc := [
  ⟨0x1C2800, 8, 256, [F.telFrameWales_count]⟩]

/-- The registers of TEL. -/
def telRegs : List RegDesc := telRegs0 ++ telRegs1

/-- The registers of the block at an offset of register space (R696); none above 0x1E_0000. -/
def blockRegs (off : Nat) : List RegDesc :=
  if off < 0x10000 then mgtRegs
  else if off < 0x20000 then pwrRegs
  else if off < 0x40000 then weaveRegs
  else if off < 0x60000 then tierRegs
  else if off < 0x80000 then xltRegs
  else if off < 0xA0000 then cellRegs
  else if off < 0xC0000 then schedRegs
  else if off < 0xE0000 then svcRegs
  else if off < 0x100000 then srchRegs
  else if off < 0x120000 then lnkRegs
  else if off < 0x140000 then swcRegs
  else if off < 0x160000 then hptRegs
  else if off < 0x180000 then mapRegs
  else if off < 0x1A0000 then chkRegs
  else if off < 0x1C0000 then secRegs
  else if off < 0x1E0000 then telRegs
  else []

/-- Does the register `d` have an instance at offset `off`? -/
def RegDesc.covers (d : RegDesc) (off : Nat) : Bool :=
  decide (d.base ≤ off) && decide (off < d.base + d.stride * d.count) && decide ((off - d.base) % d.stride = 0)

/-- The register at an offset, if one lies there (R697). -/
def regAt (off : Nat) : Option RegDesc := (blockRegs off).find? (·.covers off)

end Sys2Proof.Machine
end

