-- ==== Sys2Proof/Machine/State.lean ====
section
/-! DEFINITION. The state of an OZ8 as plain data: every register, table, buffer, counter, mode and pin the manual
gives the device, the commands that are waiting, and the machine right after reset. One structure per chapter. -/
namespace Sys2Proof.Machine

/-- Device modes (R22). -/
inductive Mode where
  | slath | weaving | service | rest | sleep | crust | repair | quarantine
  deriving DecidableEq, Repr

/-- MODE of the status word (R22). -/
def Mode.num : Mode → Nat
  | .slath => 0 | .weaving => 1 | .service => 2 | .rest => 3 | .sleep => 4 | .crust => 5 | .repair => 6 | .quarantine => 7

/-! ### The store and its tiers (R49 to R122) -/

/-- Block states (R64). -/
inductive BState where
  | empty | live | migrating | sealing | sealed | quarantined
  deriving DecidableEq, Repr

/-- Copy states of a sealed block (R66). -/
inductive CopyState where
  | none | rising | held | sinking
  deriving DecidableEq, Repr

/-- Who asked for a seal, and so learns how it ends: TIER_OP_CMD, the service's KV segment seal of a context (R330), or
a PUBLISH of a commons (R517). -/
inductive SealOwner where
  | command | service (ctx : Nat) | publish (commons : Nat)
  deriving DecidableEq, Repr

/-- A seal in progress or waiting for a migration (R62, R65). -/
structure SealJob where
  owner : SealOwner
  elem : Nat
  t1Copy : Bool
  kind : Nat
  version : Word
  /-- the T2 image being written, once sectors are allocated -/
  image : Option Nat
  deriving DecidableEq, Repr

/-- The sources a refetch still has, nearest first (R105). -/
inductive Source where
  | t1 | t2 | partner
  deriving DecidableEq, Repr

/-- One entry of the block table (R52, R64, R66). An unlisted block is EMPTY. -/
structure Block where
  state : BState
  /-- the tenant the live frame is counted to (R98) or that owned the block at sealing (R74) -/
  tenant : Tenant
  /-- tier of the live frame (source frame while MIGRATING) -/
  liveTier : Tier
  t0 : CopyState
  t1 : CopyState
  t0Packed : Bool
  /-- the stored image bound to the block number -/
  image : Option Nat
  /-- a copy-on-write is in flight into a live frame of this tier (R58, R59) -/
  cow : Option Tier
  /-- poisoned lines of a LIVE block (R109) -/
  poison : List Nat
  /-- readers in flight on the T0 and T1 copies (R67) -/
  readers0 : Nat
  readers1 : Nat
  /-- loads and atomics that wait for a promotion, copy-on-write or refetch, in arrival order -/
  waiting : List Access
  /-- the seal in progress, or waiting while MIGRATING -/
  job : Option SealJob
  /-- a refetch in flight: its remaining sources -/
  refetch : Option (List Source)
  /-- wale of the last access (R103) -/
  lastWale : Wale
  /-- the reservation that counts the block's T0 or live frame (R99) -/
  resv : Option Nat
  /-- the T0 frame belongs to a streaming window (R86) -/
  window : Bool
  deriving DecidableEq, Repr

/-- The entry of an EMPTY block. -/
def Block.fresh : Block :=
  { state := .empty, tenant := 0, liveTier := .t0, t0 := .none, t1 := .none, t0Packed := false, image := none,
    cow := none, poison := [], readers0 := 0, readers1 := 0, waiting := [], job := none, refetch := none,
    lastWale := 0, resv := none, window := false }

/-- A stored image in T2 (R74, R75): where it lies, its header, its expanded payload, its reference count (R60). -/
structure Image where
  drive : Nat
  start : Nat
  sectors : Nat
  codec : Nat
  kind : Nat
  elem : Nat
  bodyLen : Nat
  payload : Mem
  sealAddr : Word
  sealWale : Wale
  tenant : Tenant
  version : Word
  rawTail : Nat
  refs : Nat
  deriving DecidableEq, Repr

/-- A mapped drive (R82, R83): dense port, backplane slot, serial, mapped sectors (from LBA 262,144), whether it is
lost (R84), and its runs in use, by ascending start. -/
structure Drive where
  port : Nat
  slot : Nat
  serial : Nat
  sectors : Nat
  lost : Bool
  used : List (Nat × Nat)
  deriving DecidableEq, Repr

/-- A reservation admitted under R97: frames reserved and drawn in each tier, and whether its turn has ended (R100). -/
structure Reservation where
  tenant : Tenant
  t0 : Nat
  t1 : Nat
  drawn0 : Nat
  drawn1 : Nat
  ended : Bool
  deriving DecidableEq, Repr

/-- Work that waits for a victim's frame (R104). -/
inductive AllocWork where
  | access (a : Access)
  | promote (block : Nat) (tier : Tier) (packed : Bool)
  | migrate (block : Nat)
  deriving DecidableEq, Repr

/-- What the tiers report. -/
inductive TierEvent where
  /-- a block entered QUARANTINED (R108) -/
  | quarantined (block : Nat)
  /-- a seal that the service or a commons asked for ended -/
  | sealEnd (owner : SealOwner) (block : Nat) (code : Code)
  deriving DecidableEq, Repr

/-- The operation that keeps TIER_OP_CMD.BUSY (R117). -/
inductive TierOp where
  | sealing (block : Nat) | promote (block : Nat) (tier : Tier) | migrate (block : Nat)
  deriving DecidableEq, Repr


/-- A Frond die's stream sequencer (R85 to R95): the model's layer table, its window and prefetch lead, the tenant
charged for the window, and the next chunk of the current layer to deal. -/
structure Stream where
  tenant : Tenant
  layers : List LayerEntry
  window : Nat
  lead : Nat
  layer : Nat
  /-- (cell, half) pairs filled in the current layer and not yet consumed -/
  filled : List (Nat × Nat)
  /-- chunks of the current layer dealt so far -/
  dealt : Nat
  deriving DecidableEq, Repr

/-- The chapter "The Store and Its Tiers". -/
structure TierS where
  blocks : Table Block
  images : Table Image
  nextImage : Nat
  drives : List Drive
  reservations : Table Reservation
  nextResv : Nat
  /-- victims taken by waiting allocations, with the work that waits (R104) -/
  allocWaits : List (Nat × AllocWork)
  /-- work whose wait has ended, to run before the command that ended it is over -/
  ready : List AllocWork
  /-- what the tiers report to the service, the search, the commons and the commands -/
  events : List TierEvent
  op : Option TierOp
  /-- sectors of the T0 and T1 sector pools in use -/
  pool0 : Nat
  pool1 : Nat
  streams : Table Stream
  deriving DecidableEq, Repr

/-- An empty store. -/
def TierS.fresh : TierS :=
  { blocks := [], images := [], nextImage := 0, drives := [], reservations := [], nextResv := 0, allocWaits := [], ready := [],
    events := [], op := none, pool0 := 0, pool1 := 0, streams := [] }

/-! ### Extents and translation (R123 to R163) -/





/-- A cached translation, by tenant, TGRAN and SIZE (R134). -/
structure XKey where
  tenant : Tenant
  tgran : Nat
  size1G : Bool
  deriving DecidableEq, Repr

/-- A walk of the extent map (R135): die, tenant, 32 MiB granule, and the movers (cell, channel) joined, in order. -/
structure Walk where
  die : Nat
  tenant : Tenant
  granule : Nat
  waiting : List (Nat × Nat)
  deriving DecidableEq, Repr

/-- A fill record (R142): die, number, tenant and tenant granule, blocks needed, movers waiting in fault order. -/
structure FillRec where
  die : Nat
  id : Nat
  tenant : Tenant
  granule : Nat
  blocks : List Nat
  waiting : List (Nat × Nat)
  deriving DecidableEq, Repr

/-- A fault that waits for a free fill record (R144). -/
structure FillWait where
  die : Nat
  tenant : Tenant
  granule : Nat
  block : Nat
  cell : Nat
  channel : Nat
  deriving DecidableEq, Repr

/-- The chapter "Extents and Translation". -/
structure XltS where
  entries : List Extent
  /-- home records by 32 MiB granule of the own store; unlisted is MODE NONE -/
  homes : Table HomeRec
  /-- translation buffers by cell, second levels by die, host translation cache: newest first (R134) -/
  bufs : Table (List XKey)
  l2 : Table (List XKey)
  hostCache : List XKey
  walks : List Walk
  fills : List FillRec
  fillWaits : List FillWait
  /-- the entry a REVOKE is withdrawing (R150) -/
  revoking : Option XKey
  deriving DecidableEq, Repr

/-- Nothing mapped. -/
def XltS.fresh : XltS :=
  { entries := [], homes := [], bufs := [], l2 := [], hostCache := [], walks := [], fills := [], fillWaits := [],
    revoking := none }

/-! ### Cells (R164 to R250) -/

/-- A queue of 64-byte descriptors (R202, R203): next ticket, waiting descriptors by ticket, ended tickets with their
result words. -/
structure Queue where
  next : Nat
  items : List (Nat × Line)
  ended : List (Nat × Word)
  deriving DecidableEq, Repr

/-- An empty queue. -/
def Queue.fresh : Queue := { next := 0, items := [], ended := [] }

/-- What a running mover descriptor waits for. -/
inductive MvPhase where
  | running | walk | fill | remote | store | ending
  deriving DecidableEq, Repr

/-- A mover descriptor that has started (R193, R139): its next line, lines moved, status so far, its outstanding
requests (tag, first line, lines), the extents it translated through (R151), the copies it is reading (R67). -/
structure MvRun where
  ticket : Nat
  desc : Line
  pos : Nat
  moved : Nat
  code : Code
  phase : MvPhase
  tags : List (BitVec 16 × Nat × Nat)
  through : List XKey
  reading : List (Nat × Tier)
  /-- answers of its accesses to the own store that the descriptor has not taken up yet -/
  got : List (Code × List Line)
  /-- its kernel has ended: no ticket reports it (R211) -/
  orphan : Bool
  /-- it is work that the schedule plans: its packets carry SCHED and WORK (R436) -/
  sched : Bool
  deriving DecidableEq, Repr

/-- A mover channel. -/
structure Channel where
  q : Queue
  run : Option MvRun
  deriving DecidableEq, Repr

/-- What the scalar engine is stalled on (R202, R205, R207, R208, R230). -/
inductive Stall where
  | none
  /-- an ISSUE to a full queue: matrix 0, vector 1, mover channel c as 8 + c -/
  | issue (queue : Nat) (rd : XReg) (desc : Line)
  | engWait (queue ticket : Nat) (rd : XReg)
  | flagWait (off : Nat) (target : Word) (aq : Bool) (rd : XReg)
  /-- as flagWait, after a plain engine write over the flag: what the waiter sees is open (R213) -/
  | flagOpen (target : Word) (aq : Bool) (rd : XReg)
  | waleWait (rd : XReg) (target : Nat)
  /-- ENG.REL, with its store-complete fence once the descriptors issued before it have ended (R230) -/
  | rel (fence : Option Nat)
  deriving DecidableEq, Repr

/-- One accumulator element (R174, R176, R182): the exact sum in units of 2^-50 with its flags on the exact path, the
FP32 value on the BF16 path. -/
structure AccElem where
  sum : Int
  ovf : Bool
  nan : Bool
  /-- a product of magnitude 2^53 or more has entered: whether OVF is set is open (R175) -/
  wild : Bool
  fp32 : BitVec 32
  deriving DecidableEq, Repr

/-- The shape of the last matrix operation of the kernel: M, N, A format, B format (R182). -/
structure AccShape where
  m : Nat
  n : Nat
  afmt : Nat
  bfmt : Nat
  deriving DecidableEq, Repr

/-- A cell beyond its registers. -/
structure Cell where
  sram : Mem
  /-- RISC-V integer and floating-point registers by number (unlisted: zero), pc, fcsr, LR reservation -/
  x : Table Word
  f : Table Word
  pc : Word
  fcsr : Nat
  reservation : Option Nat
  /-- lines held in the scalar data cache (R223) and in the instruction cache, as they were when filled -/
  dcache : Table Line
  icache : Table Line
  stall : Stall
  mq : Queue
  vq : Queue
  mv : Table Channel
  acc : Table AccElem
  accShape : Option AccShape
  /-- the schedule track that launched the running kernel, and the launcher's slot in it -/
  track : Option Nat
  deriving DecidableEq, Repr

/-- A cell with everything cleared (R166). -/
def Cell.fresh : Cell :=
  { sram := [], x := [], f := [], pc := 0, fcsr := 0, reservation := none, dcache := [], icache := [], stall := .none,
    mq := .fresh, vq := .fresh, mv := [], acc := [], accShape := none, track := none }

/-- A channel with nothing in it. -/
def Channel.fresh : Channel := { q := .fresh, run := none }



/-- The chapters on cells and on visibility. -/
structure CellS where
  cells : Table Cell
  kernels : List Kernel
  atomLog : List AtomLog
  deriving DecidableEq, Repr

/-- No cell has run. -/
def CellS.fresh : CellS := { cells := [], kernels := [], atomLog := [] }

/-! ### Wales and the static schedule (R251 to R300) -/





/-- A step that has started and not ended (R269): its cells whose kernel runs on, the layers still to deliver, what a
SERVICE step serves, and the first status of its kernels that is not DONE (R277, R279). -/
structure OpenStep where
  index : Nat
  kind : StepKind
  die : Nat
  cells : List Nat
  layers : Nat
  model : Nat
  argSram : Nat
  /-- every cell of the step -/
  ran : List Nat
  /-- the slot table's contexts, in its order: owner, tenant, request -/
  batch : List (DevNo × Tenant × Word)
  status : Code
  /-- its kernels were ended under R277 -/
  overrun : Bool
  deriving DecidableEq, Repr

/-- A track as it runs in the current wale. -/
structure TrackRun where
  next : Nat
  open_ : List OpenStep
  ended : Bool
  failed : Bool
  /-- SERVICE steps of the wale that have ended -/
  served : List OpenStep
  /-- the device whose adopted track this is (R554) -/
  adoptedFrom : Option DevNo
  deriving DecidableEq, Repr

/-- The announced boundary (R259, R261). -/
structure Announced where
  wale : Wale
  time : Word
  lenUs : Nat
  deriving DecidableEq, Repr

/-- The chapter "Wales and the Static Schedule". -/
structure SchedS where
  tracks : Table TrackRec
  templates : Table Template
  runs : Table TrackRun
  /-- children on the time tree, and those heard in this wale: READY counts, HOLDs (R257, R258) -/
  children : List DevNo
  parent : Option DevNo
  readyFrom : List (DevNo × Nat)
  heldFrom : List DevNo
  /-- devices of the stand, the failed ones left out (R259, R263) -/
  standSize : Nat
  sentReady : Bool
  /-- boundary B(w) of the current wale and its nominal length in us (R281) -/
  start : Word
  lenUs : Nat
  announced : Option Announced
  sentBoundary : Bool
  /-- causes of this device's current holds (R275) -/
  holds : List Nat
  /-- schedule-class packets of the next wale, held for the boundary (R262) -/
  early : List Packet
  warned : Bool
  overrun : Bool
  /-- shortest nominal length every template of the stand fits (R293), and the ordered backups (R255) -/
  standMinUs : Nat
  backups : List DevNo
  /-- largest wale number saved to the replay-protected region (R252) -/
  savedWale : Wale
  /-- the store-complete fence that this wale's READY waits for, once it is sent (R257, R464) -/
  readyFence : Option Nat
  /-- something that R660 counts has been in the device in this wale -/
  worked : Bool
  /-- models whose requests have advanced in this wale: a replay does not advance them again (R552) -/
  advanced : List Nat
  deriving DecidableEq, Repr

/-- No schedule. -/
def SchedS.fresh : SchedS :=
  { tracks := [], templates := [], runs := [], children := [], parent := none, readyFrom := [], heldFrom := [],
    standSize := 0, sentReady := false, start := 0, lenUs := 0, announced := none, sentBoundary := false, holds := [],
    early := [], warned := false, overrun := false, standMinUs := 50, backups := [], savedWale := 0,
    readyFence := none, worked := false, advanced := [] }

/-! ### The inference service (R301 to R356) -/

/-- What a held slot asks for, decoded from its line (R309 to R311). -/
inductive Command where
  | start | cancel | drop | ring
  deriving DecidableEq, Repr

/-- An aperture slot (R303, R304). -/
structure Slot where
  line : Line
  held : Bool
  status : Word
  requestId : Word
  context : Nat
  discards : Nat
  landWale : Wale
  doneWale : Wale
  /-- stamp of the submission (R282), for arrival order (R313) and deadlines (R344) -/
  stamp : Word
  /-- the prompt read of step 7a and the peers that granted, while a ring candidate waits (R315) -/
  prompt : List (BitVec 32)
  granted : List DevNo
  asked : Bool
  resv : Option Nat
  deriving DecidableEq, Repr

/-- A slot never written. -/
def Slot.fresh : Slot :=
  { line := 0, held := false, status := 0, requestId := 0, context := 0, discards := 0, landWale := 0, doneWale := 0,
    stamp := 0, prompt := [], granted := [], asked := false, resv := none }

/-- A tenant's aperture on this device: slots by line number, completion ring (R305, R338), control-line discards. -/
structure Aperture where
  slots : Table Slot
  produced : Nat
  consumed : Nat
  ringBase : Nat
  ringEntries : Nat
  discards : Nat
  deriving DecidableEq, Repr

/-- An aperture nothing has touched. -/
def Aperture.fresh : Aperture :=
  { slots := [], produced := 0, consumed := 0, ringBase := 0, ringEntries := 0, discards := 0 }



/-- A model's Weave-defined facts beyond its registers: first layer table entry per die is in the stream tables. -/
structure ModelS where
  /-- CLEAR_DEGRADED waits for the boundary (R356) -/
  clearing : Bool
  /-- the model's ring is lost (R556) -/
  ringLost : Bool
  deriving DecidableEq, Repr

/-- A record the owner has formed and mirrored, and that waits for the acknowledgement, the ring's room or its home (R341
to R343): its line and SEQ, and how many tokens it delivers. -/
structure Record where
  ctx : Nat
  tenant : Tenant
  /-- the completion ring: the tenant's number, or 256 more for the ring that an adopted device left (R552) -/
  ring : Nat
  isEnd : Bool
  seq : Nat
  line : Line
  tokens : Nat
  deriving DecidableEq, Repr

/-- The chapter "The Inference Service". -/
structure SvcS where
  apertures : Table Aperture
  ctxs : Table Ctx
  models : Table ModelS
  /-- records formed and not yet landed, in the order of R341 -/
  records : List Record
  /-- pending attention of classes 2, 4 and 7 (R308): class, the wale that raised it, the tenants it is pending for -/
  latched : List (Nat × Wale × BitVec 256)
  nextOrder : Nat
  /-- reservations this device has granted to ring owners, not yet committed, with the reservation (R315) -/
  grants : List (ReserveMsg × Option Nat)
  /-- this device's shares of the requests that other ring devices own (R315, R323) -/
  shares : List Ctx
  deriving DecidableEq, Repr

/-- No tenant. -/
def SvcS.fresh : SvcS :=
  { apertures := [], ctxs := [], models := [], records := [], latched := [], nextOrder := 0, grants := [], shares := [] }

/-! ### Vector search (R357 to R413) -/


/-- A shard header with its base and tombstone bitmap, as loaded (R360, R364). Offsets are in bytes from the base. -/
structure ShardHdr where
  base : Nat
  tomb : Option Nat
  form : Nat
  pqM : Nat
  degree : Nat
  dim : Nat
  rows : Nat
  parts : Nat
  entry : Nat
  dir : Nat
  centroids : Nat
  codebook : Nat
  sketches : Nat
  codes : Nat
  attrs : Nat
  ids : Nat
  vectors : Nat
  graph : Nat
  die : Nat
  tenant : Tenant
  deriving DecidableEq, Repr

/-- A shard slot: the shard in force, counted up by each REPLACE, and the replaced ones while parts still use them, with
the blocks held in T0 for them (R363, R410). -/
structure ShardSlot where
  gen : Nat
  cur : ShardHdr
  degraded : Bool
  heldBlocks : List Nat
  /-- replaced shards: number, owner, blocks held in T0 -/
  olds : List (Nat × Tenant × List Nat)
  deriving DecidableEq, Repr

/-- Home query context states (R386). -/
inductive HomeState where
  | fanout | waiting | merge
  deriving DecidableEq, Repr

/-- A shard's standing in the current round of a query (R391). -/
inductive ShardStand where
  | sent | acked | retry | settled
  deriving DecidableEq, Repr

/-- What the home knows of a shard: standing, last answer's code if it has answered or counts as DEAD, exhausted, and
when it was last heard or sent to (R391). -/
structure ShardNote where
  stand : ShardStand
  code : Option Code
  exhausted : Bool
  heard : Word
  deriving DecidableEq, Repr

/-- A merged result: distance, vector ID, shard index (R393). -/
structure Hit where
  dist : Int
  id : Nat
  shard : Nat
  deriving DecidableEq, Repr

/-- A home query context (R379 to R397). -/
structure HomeQ where
  state : HomeState
  die : Nat
  tenant : Tenant
  slot : Nat
  corpus : Nat
  widen : Nat
  k : Nat
  nprobe : Nat
  queryId : Word
  resultAddr : Nat
  deadlineUs : Nat
  rerank : Nat
  ef : Nat
  stamp : Word
  block : List Line
  round : Nat
  shards : Table ShardNote
  hits : List Hit
  scanned : Nat
  matched : Nat
  /-- code and DETAIL the record will carry, once decided -/
  ended : Option (Code × Nat)
  deriving DecidableEq, Repr

/-- Part context states (R386). -/
inductive PartState where
  | queued | scan | memwait | rerank | answer
  deriving DecidableEq, Repr

/-- A part context (R387): the part, the partitions it probes, the blocks it was compared with, its candidates. -/
structure Part where
  state : PartState
  /-- the state MEMWAIT returns to -/
  left : PartState
  die : Nat
  msg : QueryParts
  shard : Nat
  slot : Nat
  /-- the shard it was bound to: the slot's number and header (R410) -/
  gen : Nat
  hdr : ShardHdr
  probes : List Nat
  /-- (partition, first row) blocks compared so far -/
  compared : List (Nat × Nat)
  /-- candidates as (first-stage distance, row), ascending (R370) -/
  cands : List (Int × Nat)
  scanned : Nat
  matched : Nat
  exhausted : Bool
  code : Code
  results : List (Word × Int)
  deriving DecidableEq, Repr

/-- The chapter "Vector Search". -/
structure SrchS where
  corpora : Table Corpus
  slots : Table ShardSlot
  homes : Table HomeQ
  parts : Table Part
  /-- pending queues: (sequencer, part, slot) in arrival order (R390) -/
  pending : List (Nat × QueryParts × Nat)
  /-- open SEARCH slots by track: Sorus die, or none for cells (R269) -/
  open_ : Table (Option Nat)
  /-- by die: the arrays at the front of the calibration order, first first, then the next array of the ascending order
  (R373) -/
  calOrder : Table (List Nat)
  /-- arrays that take no new compare until recalibrated (R373) -/
  blocked : List Nat
  /-- when each array was calibrated last, and its temperature then (R373, R412) -/
  calAt : Table (Word × Nat)
  deriving DecidableEq, Repr

/-- No corpus. -/
def SrchS.fresh : SrchS :=
  { corpora := [], slots := [], homes := [], parts := [], pending := [], open_ := [], calOrder := [], blocked := [],
    calAt := [] }

/-! ### Withy links and the switch core (R414 to R482) -/

/-- A port's handshake with its partner (R429 to R431, R638). -/
structure Handshake where
  sentHello : Bool
  nonce : Option (BitVec 256)
  cert : Option CertFacts
  share : Option (BitVec 256)
  doneIn : Bool
  doneOut : Bool
  failed : Bool
  deriving DecidableEq, Repr

/-- A handshake that has not begun. -/
def Handshake.fresh : Handshake :=
  { sentHello := false, nonce := none, cert := none, share := none, doneIn := false, doneOut := false, failed := false }

/-- A frame held in a link replay buffer: its first flit's sequence number, its flits, and what it carries (R423). -/
structure LinkFrame where
  seq : Nat
  flits : Nat
  packet : Option Packet
  deriving DecidableEq, Repr

/-- One Withy port beyond its registers. -/
structure Port where
  /-- what the Weave image's port map names: the partner device and port, or a client accelerator's tenant (R428) -/
  partner : DevNo
  partnerPort : Nat
  client : Option Tenant
  mapped : Bool
  /-- training step reached (R416): 0 waiting for signal, 1 to 4 steps done; a fault's retrain resumes ACTIVE -/
  trainStep : Nat
  fromActive : Bool
  signalLanes : Nat
  /-- next transmit and expected receive sequence numbers (R421) -/
  txSeq : Nat
  rxSeq : Nat
  /-- link replay buffer, oldest first (R423) -/
  replay : List LinkFrame
  /-- NAKs in a row for one sequence number (R424) -/
  naks : Nat
  nakSeq : Nat
  /-- stand times of recent tag failures (R424) and of recent AUTH messages (R431) -/
  tagFails : List (BitVec 64)
  authTimes : List (BitVec 64)
  /-- credits held per class and virtual lane, and credits owed to the partner (R441, R442) -/
  credits : List Nat
  owed : List Nat
  /-- packets queued at this output (R443), and those of them that still lie in a reserved slice, with their input port, oldest
  first (R441, R442) -/
  outq : List Packet
  slices : List (Packet × Nat)
  /-- the tenant served last by the round robin (R444) -/
  rrTenant : Nat
  hs : Handshake
  /-- receive key epoch and session key shares (R638, R641) -/
  rxEpoch : Nat
  ownShare : BitVec 256
  peerShare : BitVec 256
  /-- DATA and CTRL flits sent under the current transmit key: 8 to a group (R422) -/
  txFlits : Nat
  /-- the epoch that the next group begun brings into use (R641) -/
  rekeyTo : Option Nat
  /-- hold-off of the next attempt in ms (R432); 0 when none is running -/
  holdoff : Nat
  deriving DecidableEq, Repr

/-- A port that has done nothing. -/
def Port.fresh : Port :=
  { partner := 0, partnerPort := 0, client := none, mapped := false, trainStep := 0, fromActive := false,
    signalLanes := 0, txSeq := 0, rxSeq := 0, replay := [], naks := 0, nakSeq := 0, tagFails := [], authTimes := [],
    credits := List.replicate 8 256, owed := List.replicate 8 0, outq := [], slices := [], rrTenant := 0, hs := .fresh, rxEpoch := 0,
    ownShare := 0, peerShare := 0, txFlits := 0, rekeyTo := none, holdoff := 0 }

/-- A transmit flow (R452): next FLOW_SEQ, and the last posted packet not yet covered by a FENCE_DONE (R464). -/
structure TxFlow where
  flow : FlowId
  next : Nat
  posted : Option Nat
  /-- a posted packet of the flow was lost since the last fence (R462) -/
  lost : Bool
  deriving DecidableEq, Repr

/-- A packet in the source replay buffer (R455): the members that have not covered it. -/
structure Replay where
  flow : FlowId
  seq : Nat
  packet : Packet
  lastPort : Option Nat
  uncovered : List DevNo
  deriving DecidableEq, Repr

/-- A receive flow at the resequencer (R453): next expected number, held packets, packets not yet reported (R454). -/
structure RxFlow where
  flow : FlowId
  expected : Nat
  held : List Packet
  unreported : Nat
  deriving DecidableEq, Repr

/-- Why a request was sent, and so who learns its end. -/
inductive Issuer where
  | mover (cell channel : Nat)
  | host (binding : Nat) (dpa : Nat) (ask : CopyAsk)
  | fence (id : Nat)
  | probe
  | refetch (block : Nat)
  | query (q : Nat)
  | homeop (binding line : Nat)
  /-- an engine's access to another device's store -/
  | engine (tenant : Tenant)
  /-- a packet that this device answers for a third one (R35) -/
  | relay (p : Packet)
  | other
  deriving DecidableEq, Repr

/-- A request that waits for its REPLY, FENCE_DONE or PROBE_REPLY (R461): the members that have not answered and the
answers so far (R740). -/
structure Request where
  tag : BitVec 16
  issuer : Issuer
  flow : FlowId
  seq : Nat
  addr : Word
  lines : Nat
  waiting : List DevNo
  answers : List Code
  /-- the packet as it was sent, for a coherent request that is answered RETRY (R506) -/
  packet : Packet
  /-- stand time from which the dead-target bound runs, and whether WAKING restarted it (R450, R461) -/
  since : BitVec 64
  woken : Bool
  deriving DecidableEq, Repr

/-- Who asked for a store-complete fence (R464): a cell's ENG.REL or the device's READY. -/
inductive FenceOwner where
  | cell (c : Nat) | deviceReady
  deriving DecidableEq, Repr

/-- A store-complete fence with the FENCEs it still waits for (R466). -/
structure Fence where
  owner : FenceOwner
  waiting : Nat
  dead : Bool
  deriving DecidableEq, Repr

/-- A multicast group's entry at this device (R451). -/
structure McastEntry where
  source : DevNo
  outputs : List Nat
  member : Bool
  members : List DevNo
  deriving DecidableEq, Repr

/-- The chapter "Withy Links and the Fabric". -/
structure FabS where
  ports : Table Port
  /-- route table: candidates (port, rank) by destination device (R447) -/
  routes : Table (List (Nat × Nat))
  groups : Table McastEntry
  tx : List TxFlow
  rx : List RxFlow
  replay : List Replay
  requests : List Request
  fences : Table Fence
  nextFence : Nat
  nextTag : BitVec 16
  /-- packets waiting for the replay buffer or a flow's window (R455) -/
  blocked : List (Packet × Option Issuer)
  /-- FENCE packets delivered here whose flows' earlier packets have not all taken effect (R465) -/
  fencesIn : List Packet
  deriving DecidableEq, Repr

/-- A fabric with nothing in it. -/
def FabS.fresh : FabS :=
  { ports := [], routes := [], groups := [], tx := [], rx := [], replay := [], requests := [], fences := [],
    nextFence := 0, nextTag := 0, blocked := [], fencesIn := [] }

/-! ### The host port and coherence (R483 to R532) -/

/-- Binding states (R484). -/
inductive BindState where
  | unbound | active | fenced
  deriving DecidableEq, Repr

/-- A home-operation line of a binding (R495, R496). -/
structure HomeOpLine where
  status : Word
  result : Word
  seq : BitVec 32
  busy : Bool
  discards : Nat
  /-- the request that runs -/
  request : Line
  deriving DecidableEq, Repr

/-- An idle line. -/
def HomeOpLine.fresh : HomeOpLine := { status := 0, result := 0, seq := 0, busy := false, discards := 0, request := 0 }

/-- A Dynamic Capacity extent: binding, first tenant address, 32 MiB blocks (R508). -/
structure DcExtent where
  binding : Nat
  addr : Nat
  blocks : Nat
  deriving DecidableEq, Repr

/-- A running DC_ADD or withdrawal (R508, R509). -/
inductive DcPhase where
  | adding | releasing | draining | recalling
  deriving DecidableEq, Repr

/-- A Dynamic Capacity operation in progress. -/
structure DcOp where
  ext : DcExtent
  phase : DcPhase
  /-- started by HPT_CMD (true) or by the host (false), and whether the grace expired -/
  command : Bool
  forced : Bool
  /-- the extent entries it withdraws -/
  keys : List XKey
  /-- granules of other homes whose recall is not yet reported -/
  waits : List Word
  deriving DecidableEq, Repr

/-- A holder of a line with its request's tenant, the stand time of its grant, and whether its recall has started (R499, R501, R502). -/
structure Holding where
  holder : Holder
  tenant : Tenant
  since : Word
  recalling : Bool
  deriving DecidableEq, Repr

/-- A directory entry (R499): OWNED or SHARED, holders earliest first, requests waiting for the recall, in order. -/
structure DirEntry where
  owned : Bool
  holders : List Holding
  waiting : List Access
  deriving DecidableEq, Repr

/-- A version of a commons (R514): its number and its image of each block, in block order. -/
structure Version where
  num : Nat
  images : List Nat
  deriving DecidableEq, Repr

/-- A right on a commons (R512). -/
inductive Right where
  | none | read | publish
  deriving DecidableEq, Repr

/-- A COM_CREATE in progress (R511): number, owner, first granule, granules; whether the seals have been asked for. -/
structure Creating where
  commons : Nat
  owner : Tenant
  first : Nat
  granules : Nat
  sealing : Bool
  deriving DecidableEq, Repr

/-- A home operation that has taken effect at this home and replies when these recalls have ended (R516, R518). -/
structure HomeReply where
  src : DevNo
  binding : Nat
  line : Nat
  code : Code
  detail : Nat
  result : Option Word
  waits : List (Nat × Holder)
  deriving DecidableEq, Repr

/-- A commons (R511): first block, blocks, grants, versions latest first, views by (device, tenant). -/
structure Commons where
  firstBlock : Nat
  blocks : Nat
  owner : Tenant
  rights : List (Tenant × Right)
  versions : List Version
  views : List (DevNo × Tenant × Nat)
  deriving DecidableEq, Repr

/-- The chapter "The Host Port and Coherence". -/
structure HptS where
  homeOps : Table HomeOpLine
  extents : List DcExtent
  dcOps : List DcOp
  /-- directory by line number of the own store, and lines in the order they were granted (R505) -/
  dir : Table DirEntry
  grantOrder : List Nat
  commons : Table Commons
  creating : Option Creating
  replies : List HomeReply
  /-- ranges that other devices have asked this home to recall for a binding of theirs: start and bytes (R509) -/
  ranges : List (Holder × Word × Nat)
  /-- recalls this device's bindings are answering: (home, binding, line) -/
  snoops : List (DevNo × Nat × Word)
  decoders : List (Nat × Nat × Nat)
  /-- the Weave image requires IDE (R521) -/
  ideRequired : Bool
  deriving DecidableEq, Repr

/-- No host. -/
def HptS.fresh : HptS :=
  { homeOps := [], extents := [], dcOps := [], dir := [], grantOrder := [], commons := [], creating := none, replies := [],
    ranges := [], snoops := [], decoders := [], ideRequired := false }

/-! ### The Thallus map and recovery (R533 to R575) -/

/-- A change a keeper has been offered and that waits for its commit (R534): the record, the operation, who proposed,
the keepers that stored or voted it. -/
structure Proposal where
  op : Nat
  src : DevNo
  rec_ : MapRec
  stored : List DevNo
  wale : Wale
  deriving DecidableEq, Repr

/-- A lease this device is handing over or taking (R541). -/
structure Handover where
  kind : BitVec 8
  key : Word
  other : DevNo
  giver : Bool
  offered : Wale
  accepted : Bool
  /-- the giver's copy of a REQUEST lease's context, kept until the taker's first mirror is acknowledged -/
  kept : Option (Nat × Ctx)
  deriving DecidableEq, Repr

/-- A device's failover in progress at this device (R552): the failed device, tracks, whether this device adopts it. -/
structure Failover where
  dev : DevNo
  tracks : Nat
  adopter : Bool
  rehearsal : Bool
  wale : Wale
  deriving DecidableEq, Repr

/-- The committed mirror of a device, as its partner holds it (R545 to R547): bytes of mirrored lines by the device's STORE
offset, the blocks they lie in, contexts, completion rings (tenant, base, entries, SEQ produced), copies of its tables. -/
structure Mirror where
  mem : Mem
  frames : List Nat
  ctxs : List (Nat × Ctx)
  rings : List (Tenant × Nat × Nat × Nat)
  extents : List Extent
  homes : List (Nat × HomeRec)
  atoms : List AtomLog
  deriving DecidableEq, Repr

/-- Nothing mirrored. -/
def Mirror.fresh : Mirror := { mem := [], frames := [], ctxs := [], rings := [], extents := [], homes := [], atoms := [] }

/-- The chapter "The Thallus Map and Recovery". -/
structure MapS where
  /-- the committed records this device knows: the ring's partition on a keeper, its own notices elsewhere -/
  records : List MapRec
  proposals : List Proposal
  /-- changes this device proposed whose NOTICE it awaits (R537) -/
  awaiting : List MapRec
  handovers : List Handover
  /-- the latest BEAT_ACK of each keeper, the latest sign of each device, the FAILs that named one, with their stand times
  (R549, R550) -/
  acks : List (DevNo × Word)
  heard : List (DevNo × Word)
  failedNamed : List (DevNo × Word)
  /-- the keeper index whose device is replaced and its replacement; whether the copy runs (R538) -/
  newKeeper : Option (Nat × DevNo)
  copying : Bool
  /-- by x of the device mirrored: the committed generation; and the transfers of this wale (R547) -/
  mirrors : Table Mirror
  mirrorOpen : List (DevNo × MirrorItem)
  /-- the change that a running MAP_CMD proposed or asks for -/
  cmd : Option MapRec
  /-- mirror transfers this device has sent and its partner has not acknowledged, with the completion record (tenant, SEQ)
  that one carries (R257, R342) -/
  unacked : List (Option (Tenant × Nat))
  failover : Option Failover
  /-- the device whose tracks this device has adopted (R554), and whether it has reported itself current (R562) -/
  adopted : Option DevNo
  current : Bool
  /-- an INJECT waits for the boundary: kind and device (R572) -/
  injected : Option (Nat × DevNo)
  /-- the rehearsal in progress: kind and victim -/
  active : Option (Nat × DevNo)
  /-- repair of this device: step reached (R562), 0 when none -/
  repairStep : Nat
  isolated : Bool
  deriving DecidableEq, Repr

/-- No map. -/
def MapS.fresh : MapS :=
  { records := [], proposals := [], awaiting := [], handovers := [], acks := [], heard := [], failedNamed := [],
    newKeeper := none, copying := false, mirrors := [], mirrorOpen := [], cmd := none, unacked := [], failover := none,
    adopted := none, current := false, injected := none, active := none, repairStep := 0, isolated := false }

/-! ### Start-up and the Weave image (R576 to R617) -/

/-- A seal catalogue entry (R584): BIND names an image by its key in the image table. -/
structure CatEntry where
  block : Nat
  /-- 1 = BIND, 2 = UNBIND, 3 = COMPACT -/
  op : Nat
  sectors : Nat
  lba : Nat
  seq : Nat
  deriving DecidableEq, Repr

/-- A drive's catalogue region (R586): two halves, oldest entry first, and the half in use; whether a compaction runs. -/
structure Catalogue where
  half0 : List CatEntry
  half1 : List CatEntry
  second : Bool
  compacting : Bool
  deriving DecidableEq, Repr

/-- A catalogue no entry was ever written to. -/
def Catalogue.fresh : Catalogue := { half0 := [], half1 := [], second := false, compacting := false }

/-- A drive between starts, by its serial number: its catalogue and the images whose sectors it holds. -/
structure Shelved where
  serial : Nat
  cat : Catalogue
  images : List Image
  deriving DecidableEq, Repr

/-- How far a start is (R579, R580). -/
inductive StartPhase where
  /-- no start runs: the device is in a mode that a start reached, or has no power -/
  | none
  /-- steps 1 to 6 done; drives and links outstanding (steps 7 to 10) -/
  | links
  /-- step 12 done: JOIN sent -/
  | joined
  deriving DecidableEq, Repr

/-- The chapter "Start-up and the Weave Image". -/
structure WeaveS where
  /-- the running image, as partial images amended it -/
  running : Option WeaveImage
  /-- Weave slots A and B of the boot flash, with what their byte checks find; none: no image was ever written -/
  slotA : Option ImageFacts
  slotB : Option ImageFacts
  /-- the slots have been read by a start, written or erased: from then on they are as they stand here -/
  slotsKnown : Bool
  staged : Option WeaveImage
  readySent : Bool
  phase : StartPhase
  /-- listed drives not yet ready, by index of the DRIVE record (step 7) -/
  drivesLeft : List Nat
  /-- drives that have reported ready in this start, and the drives as the last start left them -/
  found : List DriveFacts
  shelf : List Shelved
  /-- steps 7 and 8 are done -/
  drivesDone : Bool
  /-- the seal catalogue on each drive, by index (R584), and the next SEQ -/
  cats : Table Catalogue
  catSeq : Nat
  /-- at the time source: JOINs held, with their CRUST bit, and whether the stand is formed (R588) -/
  joins : List (DevNo × Bool)
  formed : Bool
  /-- at the time source: devices whose RELOAD_READY it holds, by PARTIAL_ID (R607) -/
  reloadReady : List (DevNo × Word)
  /-- the partial image a RELOAD_GO ordered to take effect, and its boundary (R608) -/
  reloadGo : Option (Word × Wale)
  /-- ms from power-good of the start that runs, as the rhizoid counts them -/
  powerGood : Word
  /-- stand time of this device's step 12 -/
  joinedAt : Word
  /-- a reset with power held is due: RESTART, RELEASE, or PERST_N released (R580) -/
  restartDue : Bool
  deriving DecidableEq, Repr

/-- No image. -/
def WeaveS.fresh : WeaveS :=
  { running := none, slotA := none, slotB := none, slotsKnown := false, staged := none, readySent := false, phase := .none, drivesLeft := [],
    found := [], shelf := [], drivesDone := false, joinedAt := 0, restartDue := false, cats := [], catSeq := 1, joins := [], formed := false, reloadReady := [], reloadGo := none, powerGood := 0 }

/-! ### Integrity and security (R618 to R651) -/

/-- An SPDM secure session (R635). -/
structure Session where
  id : Nat
  transport : Transport
  finished : Bool
  /-- key updates so far -/
  updates : Nat
  deriving DecidableEq, Repr

/-- How far a transport's SPDM negotiation is. -/
inductive SpdmStage where
  | idle | version | capabilities | negotiated
  deriving DecidableEq, Repr

/-- The chapter "Integrity and Security", beyond the CHK and SEC registers. -/
structure SecS where
  i3c : SpdmStage
  cxl : SpdmStage
  sessions : List Session
  nextSession : Nat
  /-- the owner key of the replay-protected region, and the chain in slot 1 (R630) -/
  ownerKey : Option Nat
  slot1 : Option ChainFacts
  /-- the nonce returned in the previous RELEASE response (R631) -/
  releaseNonce : Option (BitVec 256)
  nonces : Nat
  /-- PARTIAL_IDs of the partial chain, measurement 4 (R636) -/
  chain : List Word
  /-- host-port IDE keys: stream, key, session that set it (R637) -/
  ide : List (IdeStream × BitVec 256 × Nat)
  /-- the block of a class 3 transfer that failed its trailer once (R621) -/
  trailerFailed : List Nat
  deriving DecidableEq, Repr

/-- Nothing negotiated, nobody enrolled. -/
def SecS.fresh : SecS :=
  { i3c := .idle, cxl := .idle, sessions := [], nextSession := 0, ownerKey := none, slot1 := none, releaseNonce := none,
    nonces := 0, chain := [], ide := [], trailerFailed := [] }

/-! ### Power, clocks and modes (R652 to R684) -/

/-- A sleep or wake sequence (R664, R666). -/
inductive SleepSeq where
  | none
  /-- steps 1 and 2 of R664, started by PWR_CMD (true) or by the policy (false) -/
  | falling (command : Bool)
  | waking (command : Bool)
  deriving DecidableEq, Repr

/-- A packet held for a sleeping device (R665). -/
structure SleepHold where
  packet : Packet
  issuer : Option Issuer
  /-- a message of a boundary step, discarded when the step ends -/
  boundary : Bool
  deriving DecidableEq, Repr

/-- The chapter "Power, Clocks and Modes". -/
structure PwrS where
  seq : SleepSeq
  asleep : List DevNo
  holds : List SleepHold
  /-- devices a WAKE was sent to and that are not yet awake -/
  wakeSent : List DevNo
  /-- consecutive wales that met R660, and wales in REST (R662) -/
  idleWales : Nat
  restWales : Nat
  /-- the Crust cause recorded in SLEEP (R669) -/
  recorded : Option Nat
  /-- stand time of the recorded Crust cause (R668) -/
  causeAt : Word
  /-- stand times of the accepted edges of the last second, by pin: WAKE_N 0, PERST_N 1, THERM_N 2 (R674) -/
  edges : Table (List Word)
  /-- WAKE_N was held over 10 s: it blocks SLEEP no more until released (R675) -/
  wakeSpent : Bool
  /-- held in reset by PERST_N, and a PERST_N edge during a start to be sampled at its end (R673, R675) -/
  inReset : Bool
  /-- every rail but VDD_RHZ removed by stage 3 or by an overvoltage: a cold start follows -/
  thermOff : Bool
  overOff : Bool
  /-- the temperatures or the input are back in range: a cold start may begin -/
  coldDue : Bool
  /-- every rail off: the input collapsed -/
  dead : Bool
  /-- dies with an uncorrectable fault -/
  failed : List (DieKind × Nat)
  deriving DecidableEq, Repr

/-- Power-good, nothing asleep. -/
def PwrS.fresh : PwrS :=
  { seq := .none, asleep := [], holds := [], wakeSent := [], idleWales := 0, restWales := 0, recorded := none, causeAt := 0, edges := [],
    wakeSpent := false, inReset := false, thermOff := false, overOff := false, coldDue := false, dead := false, failed := [] }

/-! ### Management (R685 to R710) -/

/-- A fault record (R699). -/
structure FaultRec where
  seq : Nat
  block : Nat
  bit : Nat
  dieType : Nat
  die : Nat
  tenant : Nat
  index : Nat
  wale : Wale
  count : Nat
  stime : Word
  addr : Word
  status : Word
  arg : Word
  deriving DecidableEq, Repr

/-- A firmware slot's image (R633, R689). -/
structure FwSlot where
  written : Nat
  version : Nat
  counter : Nat
  valid : Bool
  deriving DecidableEq, Repr

/-- A slot nothing was written to. -/
def FwSlot.fresh : FwSlot := { written := 0, version := 0, counter := 0, valid := false }

/-- The chapter "Management and Telemetry". -/
structure MgtS where
  /-- the fault ring, by slot (R699) -/
  ring : Table FaultRec
  /-- the records of the ring not yet copied to the flash log, oldest first (R701), and the flash log -/
  unlogged : List Nat
  flash : List FaultRec
  /-- entries in the exception, MCTP and telemetry queues (R691) -/
  qExc : Nat
  qMctp : Nat
  qTel : Nat
  /-- shedding: telemetry, deferred logging (R692) -/
  shedTel : Bool
  shedLog : Bool
  /-- ms since the heartbeat last changed (R693), as the watchdog counts them -/
  stallMs : Nat
  /-- firmware slots 0 and 1 -/
  fw0 : FwSlot
  fw1 : FwSlot
  /-- event counts of the TEL window that is open, by TEL counter offset (R707) -/
  telOpen : Table Nat
  telStart : Wale
  telStartNs : Word
  telSnaps : Nat
  /-- the TEL_CTL.INTERVAL in force (R709) -/
  telInterval : Nat
  deriving DecidableEq, Repr

/-- Nothing logged. -/
def MgtS.fresh : MgtS :=
  { ring := [], unlogged := [], flash := [], qExc := 0, qMctp := 0, qTel := 0, shedTel := false, shedLog := false,
    stallMs := 0, fw0 := .fresh, fw1 := .fresh, telOpen := [], telStart := 0, telStartNs := 0, telSnaps := 0,
    telInterval := 1000 }

/-! ### What the block sends -/

/-- A management answer (R635, R687): PLDM, SPDM and the vendor register type. -/
inductive Answer where
  /-- the queue is full or telemetry is shed: ERROR_NOT_READY, Busy, or a vendor busy code (R691, R692) -/
  | busy
  /-- the protocol's error answer -/
  | error
  | ok
  | value (w : Word)
  | values (ws : List Nat)
  | nonce (n : BitVec 256)
  | records (rs : List FaultRec)
  deriving DecidableEq, Repr

/-- What the block answers and sends, in order. -/
inductive Out where
  /-- a register read's value, by offset -/
  | reg (off : Nat) (v : Word)
  /-- an engine's access to the store ended: its first line, code, lines read -/
  | access (a : Access) (code : Code) (data : List Line)
  /-- a host access through a binding ended -/
  | host (binding : Nat) (dpa : Nat) (poison : Bool) (data : List Line)
  /-- BISnpInv to a host for a line, or for a range (R502, R519) -/
  | biSnpInv (binding : Nat) (sa : Word) (range : Option Nat)
  /-- a read of an aperture slot or a control line -/
  | aperture (tenant : Tenant) (slot : Nat) (data : Line)
  /-- a packet leaves a port -/
  | packet (port : Nat) (p : Packet)
  /-- CTRL and AUTH flits of a port (R419) -/
  | ctrl (port : Nat) (ackSeq : Nat) (nak : Bool) (credits : List Nat)
  | hello (port : Nat) (nonce : BitVec 256)
  | cert (port : Nat)
  | proof (port : Nat) (share : BitVec 256)
  | authDone (port : Nat)
  | authFail (port : Nat)
  | rekey (port : Nat) (epoch : Nat)
  /-- a status word a host can read: produced for a tenant by a block (R16) -/
  | status (tenant : Tenant) (word : Word)
  /-- a completion or query record written to a ring -/
  | record (tenant : Tenant) (off : Nat) (data : List Line)
  /-- a management answer -/
  | mgmt (t : Transport) (a : Answer)
  /-- a Dynamic Capacity event to a binding's host: add or release (R508, R509) -/
  | dcEvent (binding : Nat) (release : Bool) (dpa : Nat) (blocks : Nat)
  /-- a HDM decoder commit's answer -/
  | decoder (binding decoder : Nat) (ok : Bool)
  deriving DecidableEq, Repr

/-! ### The machine -/

/-- The state of an OZ8. `out` is everything it has sent, oldest first; `free` counts the free values it has drawn (the
model's own field); `pending` is the queue of commands that wait, first in first out. -/
structure State where
  code : OrderCode
  device : DevNo
  mode : Mode
  wale : Wale
  stime : Word
  free : Nat
  /-- registers by offset of register space; an unlisted register holds its reset value -/
  regs : Table Word
  /-- the values in force of the registers that R738 holds until the next boundary; unlisted: the reset value -/
  inForce : Table Word
  /-- the bytes of the STORE frames that hold live data, by offset; an unlisted byte reads as zero (R54) -/
  mem : Mem
  tier : TierS
  xlt : XltS
  cell : CellS
  sched : SchedS
  svc : SvcS
  srch : SrchS
  fab : FabS
  hpt : HptS
  map : MapS
  weave : WeaveS
  sec : SecS
  pwr : PwrS
  mgt : MgtS
  out : List Out
  pending : List Instr
  deriving DecidableEq, Repr

/-- Why a command stops the machine: none of these is a state the hardware can be in. -/
inductive Fault where
  /-- a command names a cell, port, array, scan unit or other part that this OZ8 does not have: raised by every command of
  such a part (withUnit). Safe: the hardware has no such event. -/
  | noSuchUnit
  deriving DecidableEq, Repr

/-- Why the model gives a command no meaning. -/
inductive Refusal where
  /-- raised by an arm of exec whose command has no meaning yet. Safe: nothing can be proved of it. -/
  | notModelled (mnemonic : String)
  deriving DecidableEq, Repr

/-- The machine right after reset: an OZ8-880 (assumption 1) with power good and nothing read from the boot flash, in
SLATH (R22, R578), every register at its reset value, every table empty, no command waiting. -/
def State.reset : State :=
  { code := .oz880, device := 0, mode := .slath, wale := 0, stime := 0, free := 0, regs := [], inForce := [], mem := [],
    tier := .fresh, xlt := .fresh, cell := .fresh, sched := .fresh, svc := .fresh, srch := .fresh, fab := .fresh,
    hpt := .fresh, map := .fresh, weave := .fresh, sec := .fresh, pwr := .fresh, mgt := .fresh, out := [], pending := [] }

end Sys2Proof.Machine
end

