-- ==== Sys2Proof/Machine/Ops.lean ====
section
/-! DEFINITION. The operations every block shares: register fields, status bits and fault records, attention and the
status word, free values, what the block sends. -/
namespace Sys2Proof.Machine

/-! ### The fitted parts (R1, R2, R24) -/

/-- Frond dies fitted. -/
def OrderCode.fronds : OrderCode → Nat
  | .oz880 => 4 | .oz440 => 2 | .oz220 => 1

/-- Rand dies fitted. -/
def OrderCode.rands : OrderCode → Nat
  | .oz880 => 2 | .oz440 => 1 | .oz220 => 1

/-- Sorus dies fitted. -/
def OrderCode.soruses : OrderCode → Nat
  | .oz880 => 2 | .oz440 => 1 | .oz220 => 0

/-- Cells fitted: 32 on each Frond die. -/
def OrderCode.cells (c : OrderCode) : Nat := 32 * c.fronds

/-- Withy ports fitted (R1, R2). -/
def OrderCode.ports (c : OrderCode) : Nat := 4 * c.rands

/-- Dense-tier ports fitted. -/
def OrderCode.densePorts : OrderCode → Nat
  | .oz880 => 4 | .oz440 => 2 | .oz220 => 2

/-- T0 and T1 frames (R50, TIER_CAP). -/
def OrderCode.frames : OrderCode → Nat × Nat
  | .oz880 => (1953125, 7596626) | .oz440 => (976562, 3798313) | .oz220 => (488281, 3798313)

/-- How many instances of a bracketed register have hardware behind them on this ordering code; the rest read as zero
(R24, R2). -/
def fittedCount (c : OrderCode) (base count : Nat) : Nat :=
  if base = 0x40100 ∨ base = 0x60100 ∨ base = 0x60200 then c.fronds
  else if base = 0x80100 then 4 * c.fronds
  else if base = 0x80400 ∨ base = 0x80800 ∨ base = 0x80C00 then c.cells
  else if base = 0xE0400 then 64 * c.soruses
  else if (0x100100 ≤ base ∧ base ≤ 0x100500) ∨ (0x120100 ≤ base ∧ base ≤ 0x120300) ∨ base = 0x1C0200 ∨ base = 0x1C0240 then
    c.ports
  else if 0x180100 ≤ base ∧ base ≤ 0x180200 then 2 * c.rands
  else count

/-- Is instance `i` of the register at `base` fitted? Temperature sensors are numbered by die and stack (R683). -/
def fitted (c : OrderCode) (base count i : Nat) : Bool :=
  if base = 0x10100 then
    if i < 4 then decide (i < c.fronds) else if i < 6 then decide (i < 4 + c.rands)
    else if i < 8 then decide (i < 6 + c.soruses) else decide (i < 8 + 2 * c.fronds)
  else decide (i < fittedCount c base count)

/-- A command that names a part of the device runs where that part is fitted. -/
def withUnit (ok : Bool) (o : Host.Outcome State Fault Refusal) : Host.Outcome State Fault Refusal :=
  if ok then o else .fault .noSuchUnit

/-- Is the cell fitted? -/
def OrderCode.hasCell (c : OrderCode) (n : Nat) : Bool := decide (n < c.cells)
/-- Is the port fitted? -/
def OrderCode.hasPort (c : OrderCode) (n : Nat) : Bool := decide (n < c.ports)
/-- Is the Frond die fitted? -/
def OrderCode.hasFrond (c : OrderCode) (n : Nat) : Bool := decide (n < c.fronds)

/-! ### Register fields -/

/-- The offset of instance `i` of a field's register. -/
def Fld.off (f : Fld) (i : Nat) : Nat := f.base + f.stride * i

/-- A reset column's number. -/
def ResetVal.num : ResetVal → OrderCode → Nat
  | .const n, _ => n
  | .perCode a b c, code => match code with
    | .oz880 => a | .oz440 => b | .oz220 => c
  | .weave, _ => 0

/-- Replace bits `lo` to `lo + n - 1` of a word by the low `n` bits of `v`. -/
def putBits (w : Word) (lo n v : Nat) : Word :=
  BitVec.ofNat 64 (w.toNat % 2 ^ lo + (v % 2 ^ n) * 2 ^ lo + (w.toNat / 2 ^ (lo + n)) * 2 ^ (lo + n))

/-- A register's reset word; zero where no register lies or the die or port is absent (R24, R697). -/
def resetWord (c : OrderCode) (off : Nat) : Word :=
  match regAt off with
  | none => 0
  | some d =>
    if fitted c d.base d.count ((off - d.base) / d.stride) then
      BitVec.ofNat 64 (pack (d.fields.map fun f => (f.lo, f.reset.num c % 2 ^ f.width)))
    else 0

/-- The stored word of a register. -/
def State.reg (s : State) (off : Nat) : Word := s.regs.get off (resetWord s.code off)

/-- Store a register's word. -/
def State.setReg (s : State) (off : Nat) (w : Word) : State := { s with regs := s.regs.put off w }

/-- A field of instance `i`. -/
def State.getF (s : State) (f : Fld) (i : Nat := 0) : Nat := fieldOf (s.reg (f.off i)) f.lo f.width

/-- Set a field of instance `i` to the low bits of `v`. -/
def State.setF (s : State) (f : Fld) (i v : Nat) : State :=
  s.setReg (f.off i) (putBits (s.reg (f.off i)) f.lo f.width v)

/-- A value outside a field's range acts as the nearer end of the range. -/
def Fld.clamp (f : Fld) (v : Nat) : Nat :=
  match f.range with
  | none => v
  | some (lo, hi) => if v < lo then lo else if hi < v then hi else v

/-- The value a field acts with: the one in force (R738) for a held field, inside its range. -/
def State.act (s : State) (f : Fld) (i : Nat := 0) : Nat :=
  f.clamp (if f.held then fieldOf (s.inForce.get (f.off i) (resetWord s.code (f.off i))) f.lo f.width else s.getF f i)

/-- Add to a counter field, which saturates at its maximum. -/
def State.addF (s : State) (f : Fld) (i n : Nat) : State :=
  s.setF f i (min (s.getF f i + n) (2 ^ f.width - 1))

/-- Step 2 of R271: the values held since the last boundary come into force (R738). -/
def State.applyHeld (s : State) : State := { s with inForce := s.regs }

/-- Set a field to a value both as written and as in force (a start does so). -/
def State.initF (s : State) (f : Fld) (i v : Nat) : State :=
  let s := s.setF f i v
  { s with inForce := s.inForce.put (f.off i) (s.reg (f.off i)) }

/-! ### Free values and output -/

/-- The next free value: a word nothing is known of. -/
def State.fresh (s : State) : Word × State := (Config.freeWord s.free, { s with free := s.free + 1 })

/-- Send one item. -/
def State.emit (s : State) (o : Out) : State := { s with out := s.out ++ [o] }

/-! ### Attention and the status word (R16, R17, R307, R308) -/

/-- All tenants. -/
def allTenants : BitVec 256 := BitVec.allOnes 256

/-- One tenant, as a mask. -/
def oneTenant (t : Tenant) : BitVec 256 := BitVec.ofNat 256 (2 ^ t.toNat)

/-- Take tenants out of what is pending for a class. -/
def unlatch (c : Nat) (ts : BitVec 256) (l : List (Nat × Wale × BitVec 256)) : List (Nat × Wale × BitVec 256) :=
  (l.map fun e => if e.1 = c then (e.1, e.2.1, e.2.2 &&& ~~~ts) else e).filter fun e => e.2.2 != 0

/-- An event raises class 2, 4 or 7 for tenants (R308). -/
def State.latch (s : State) (c : Nat) (ts : BitVec 256) : State :=
  { s with svc := { s.svc with latched := unlatch c ts s.svc.latched ++ [(c, s.wale, ts)] } }

/-- Is class 2, 4 or 7 pending for a tenant? -/
def State.isLatched (s : State) (c : Nat) (t : Tenant) : Bool :=
  s.svc.latched.any fun e => e.1 == c && e.2.2.getLsbD t.toNat

/-- A tenant's aperture. -/
def State.aperture (s : State) (t : Tenant) : Aperture := s.svc.apertures.get t.toNat .fresh

/-- Is an attention class pending for a tenant (R21, R307, R308, R561, R695, R702)? -/
def State.pendingClass (s : State) (t : Tenant) (c : Nat) : Bool :=
  if c = 1 then decide ((s.aperture t).produced ≠ (s.aperture t).consumed)
  else if c = 3 then t == 0 && decide (s.getF F.mgtFaultSeq_seq ≠ s.getF F.mgtFaultAck_ack)
  else if c = 5 then s.getF F.mapRehearse_active == 1
  else if c = 6 then t == 0 && (s.getF F.mgtStatus_mpStall == 1 || s.getF F.mgtStatus_fwStaged == 1)
  else s.isLatched c t

/-- The class shown: the highest pending (R17). -/
def State.attention (s : State) (t : Tenant) : Nat :=
  ([7, 6, 5, 4, 3, 2, 1].find? (s.pendingClass t)).getD 0

/-- A status word for a tenant (R16). -/
def State.statusWord (s : State) (t : Tenant) (code : Code) (detail : Nat) : Word :=
  let a := s.attention t
  BitVec.ofNat 64 (pack [(0, code.num), (8, detail % 256), (16, if a = 0 then 0 else 1), (17, a), (20, s.mode.num),
    (32, s.wale.toNat % 2 ^ 32)])

/-- The device changes mode: class 4 for every tenant (R308). -/
def State.setMode (s : State) (m : Mode) : State :=
  if s.mode = m then s else { s with mode := m }.latch 4 allTenants

/-! ### Status bits and fault records (R12, R699 to R701) -/

/-- What a fault record says beside its bit. -/
structure Note where
  tenant : Nat := 0
  index : Nat := 0
  dieType : Nat := 0
  die : Nat := 0
  addr : Word := 0
  status : Word := 0
  arg : Word := 0
  deriving DecidableEq, Repr

/-- The block of a register offset, in the order of R696. -/
def blockNum (off : Nat) : Nat := if off < 0x20000 then off / 0x10000 else off / 0x20000 + 1

/-- The record number after `n` (R699). -/
def nextSeq (n : Nat) : Nat := if n = 0xFFFFFFFF then 1 else n + 1

/-- A new record in slot SEQ mod 512, and whether the record it overwrites was not yet logged (R701) -/
def State.newRecord (s : State) (seq block bit : Nat) (n : Note) : State × Bool :=
  let q := nextSeq seq
  let r : FaultRec :=
    { seq := q, block := block, bit := bit, dieType := n.dieType, die := n.die, tenant := n.tenant, index := n.index,
      wale := s.wale, count := 1, stime := s.stime, addr := n.addr, status := n.status, arg := n.arg }
  let gone := (s.mgt.ring.find? fun e => e.1 == q % 512).map (·.2.seq)
  let lost := s.mgt.unlogged.any fun u => gone == some u
  let left := s.mgt.unlogged.filter fun u => gone != some u
  ({ s with mgt := { s.mgt with ring := s.mgt.ring.put (q % 512) r, unlogged := left ++ [q] } }.setF
    F.mgtFaultSeq_seq 0 q, lost)

/-- Write a fault record, or merge the occurrence into the newest one (R699, R700); whether a record was lost. -/
def State.putRecord (s : State) (block bit : Nat) (n : Note) : State × Bool :=
  let seq := s.getF F.mgtFaultSeq_seq
  let old := (s.mgt.ring.find? fun e => e.1 == seq % 512 && e.2.seq == seq && seq != 0)
  match old with
  | some (k, r) =>
    if r.block = block ∧ r.bit = bit ∧ r.index = n.index ∧ r.tenant = n.tenant ∧
        s.stime.toNat < r.stime.toNat + 1000000 then
      ({ s with mgt := { s.mgt with ring := s.mgt.ring.put k { r with count := min (r.count + 1) 65535 } } }, false)
    else s.newRecord seq block bit n
  | none => s.newRecord seq block bit n

/-- One lost record (R701). -/
def State.loseRecord (s : State) : State := (s.setF F.mgtStatus_logLost 0 1).addF F.mgtLogLost_count 0 1

/-- Raise a fault record. A record lost on the way sets LOG_LOST, which raises one too; its own repeat merges (R700). -/
def State.raise (s : State) (block bit : Nat) (n : Note) : State :=
  match s.putRecord block bit n with
  | (s, false) => s
  | (s, true) =>
    match s.loseRecord.putRecord 0 F.mgtStatus_logLost.lo {} with
    | (s, false) => s
    | (s, true) => (s.loseRecord.putRecord 0 F.mgtStatus_logLost.lo {}).1

/-- An event sets a status bit: the bit, its fault record unless the manual gives it none, and an entry in the
management processor's exception queue, or EXC_OVERFLOW when that is full (R691). `i` is the instance of a bracketed
status register. -/
def State.flag (s : State) (f : Fld) (n : Note := {}) (i : Nat := 0) : State :=
  let s := s.setF f i 1
  let s := if f.silent then s else s.raise (blockNum f.base) f.lo { n with index := if f.count = 1 then n.index else i }
  if s.mgt.qExc < 1024 then { s with mgt := { s.mgt with qExc := s.mgt.qExc + 1 } }
  else (s.setF F.mgtStatus_excOverflow 0 1).raise 0 F.mgtStatus_excOverflow.lo {}

/-! ### Devices (R29, R33) -/

/-- A device's x. -/
def devX (d : DevNo) : Nat := d.toNat % 8

/-- A device's ring, 8z + y. -/
def devRing (d : DevNo) : Nat := d.toNat / 8

/-- Device x of the ring of `d`. -/
def ringDev (d : DevNo) (x : Nat) : DevNo := BitVec.ofNat 9 (8 * devRing d + x % 8)

/-- The partner: the +X neighbour (R33). -/
def partnerOf (d : DevNo) : DevNo := ringDev d (devX d + 1)

/-- The predecessor: the device whose partner this is. -/
def predecessorOf (d : DevNo) : DevNo := ringDev d (devX d + 7)

/-- Is there a device of that number in the stand (R30)? -/
def State.inStand (s : State) (d : DevNo) : Bool :=
  match s.weave.running with
  | none => d == s.device
  | some w => w.stand.rings.testBit (devRing d)

/-- The committed fate of a device as this one knows it: 0 is MEMBER (R535). -/
def State.fateOf (s : State) (d : DevNo) : Option MapRec :=
  s.map.records.find? fun r => r.kind == 1 && r.holder == d && r.state != 0

/-! ### The Stand Address (R34) -/

/-- CLASS. -/
def saClass (a : Word) : Nat := fieldOf a 60 4
/-- DEVICE, or the multicast group. -/
def saDevice (a : Word) : Nat := fieldOf a 48 9
/-- OFFSET. -/
def saOffset (a : Word) : Nat := fieldOf a 0 47
/-- The reserved bits that must be zero. -/
def saReserved (a : Word) : Bool := fieldOf a 57 3 != 0 || fieldOf a 47 1 != 0
/-- A STORE-class address of a device. -/
def saStore (d : DevNo) (off : Nat) : Word := BitVec.ofNat 64 (pack [(0, off % 2 ^ 47), (48, d.toNat)])

/-- Store size of this device (R53). -/
def State.storeSize (s : State) : Nat := s.getF F.tierStoreSize_size

/-- Bytes of a tier block (R7). -/
def blockBytes : Nat := 262144

/-- The first block of a layer entry's slice (R87). -/
def LayerEntry.firstBlock (l : LayerEntry) : Nat := saOffset (BitVec.ofNat 64 l.src) / blockBytes

/-- Does a layer entry's slice hold a block? -/
def LayerEntry.holds (l : LayerEntry) (b : Nat) : Bool :=
  decide (l.firstBlock ≤ b) && decide (b < l.firstBlock + l.blocks)

/-! ### Parts of the state -/

/-- Change the tiers. -/
def State.onTier (s : State) (g : TierS → TierS) : State := { s with tier := g s.tier }
/-- Change the translation state. -/
def State.onXlt (s : State) (g : XltS → XltS) : State := { s with xlt := g s.xlt }
/-- Change the cells. -/
def State.onCell (s : State) (g : CellS → CellS) : State := { s with cell := g s.cell }
/-- Change the schedule. -/
def State.onSched (s : State) (g : SchedS → SchedS) : State := { s with sched := g s.sched }
/-- Change the service. -/
def State.onSvc (s : State) (g : SvcS → SvcS) : State := { s with svc := g s.svc }
/-- Change the search. -/
def State.onSrch (s : State) (g : SrchS → SrchS) : State := { s with srch := g s.srch }
/-- Change the fabric. -/
def State.onFab (s : State) (g : FabS → FabS) : State := { s with fab := g s.fab }
/-- Change the host port. -/
def State.onHpt (s : State) (g : HptS → HptS) : State := { s with hpt := g s.hpt }
/-- Change the map. -/
def State.onMap (s : State) (g : MapS → MapS) : State := { s with map := g s.map }
/-- Change the start-up state. -/
def State.onWeave (s : State) (g : WeaveS → WeaveS) : State := { s with weave := g s.weave }
/-- Change the security state. -/
def State.onSec (s : State) (g : SecS → SecS) : State := { s with sec := g s.sec }
/-- Change the power state. -/
def State.onPwr (s : State) (g : PwrS → PwrS) : State := { s with pwr := g s.pwr }
/-- Change the management state. -/
def State.onMgt (s : State) (g : MgtS → MgtS) : State := { s with mgt := g s.mgt }

/-- WEAVE_START_TIME: ms from power-good to SERVICE, REPAIR or CRUST (R616). -/
def State.noteStart (s : State) : State :=
  s.setF F.weaveStartTime_ms 0 (min ((s.stime.toNat - s.weave.powerGood.toNat) / 1000000) (2 ^ 32 - 1))

/-! ### Lists -/

/-- Replace every element that the test picks. -/
def updWhere {α : Type} (p : α → Bool) (f : α → α) (l : List α) : List α := l.map fun a => if p a then f a else a

/-- The first number below `n` that is not in the list. -/
def firstFree (n : Nat) (l : List Nat) : Option Nat := (List.range n).find? fun i => !l.contains i

end Sys2Proof.Machine
end

