-- ==== Sys2Proof/Machine/RegOps.lean ====
section
/-! DEFINITION. Writes of registers as such: what a write does to each field by its access type, and reserved bits
(R10, R11). -/
namespace Sys2Proof.Machine

/-- The bits of a register that belong to a field. -/
def RegDesc.fieldMask (d : RegDesc) : Nat := (d.fields.map fun f => (2 ^ f.width - 1) * 2 ^ f.lo).foldl (· ||| ·) 0

/-- The value a write carries: with a reserved bit set, what the fields are given is a free value (R11). -/
def State.cleanWrite (s : State) (off : Nat) (w : Word) : Word × State :=
  match regAt off with
  | none => (w, s)
  | some d =>
    let m := BitVec.ofNat 64 d.fieldMask
    if w &&& ~~~m = 0 then (w, s)
    else
      let (v, s) := s.fresh
      (v &&& m, s)

/-- A field's value after a write of `new` over `old` (R10). -/
def Fld.written (f : Fld) (old new : Nat) : Nat :=
  match f.acc with
  | .ro | .rc => old
  | .rw => new
  | .w1c => old &&& (2 ^ f.width - 1 - new)
  | .w1s => old ||| new

/-- The word of a register after a write. -/
def RegDesc.written (d : RegDesc) (old new : Word) : Word :=
  BitVec.ofNat 64 (pack (d.fields.map fun f => (f.lo, f.written (fieldOf old f.lo f.width) (fieldOf new f.lo f.width))))

/-- A write with no effect beyond the register itself (R10); a register of an absent die or port ignores it (R24). -/
def State.writeReg (s : State) (off : Nat) (w : Word) : State :=
  match regAt off with
  | none => s
  | some d =>
    if fitted s.code d.base d.count ((off - d.base) / d.stride) then s.setReg off (d.written (s.reg off) w) else s

end Sys2Proof.Machine
end

