-- ==== Sys2Proof/Machine/Floats.lean ====
section
/-! DEFINITION. Binary floating-point numbers: the formats of R169 and of RV64GC, exact values, rounding, and the
arithmetic the engines and the scalar core share. -/
namespace Sys2Proof.Machine

/-- An exact number of a floating format: a NaN, an infinity, or (−1)^neg × m × 2^e. -/
inductive Num where
  | nan
  | inf (neg : Bool)
  | fin (neg : Bool) (m : Nat) (e : Int)
  deriving DecidableEq, Repr

/-- A binary format: significant bits, exponent of the last place of its subnormals, code bits, the code of infinity or
of the first value beyond the largest finite one, whether that code is infinity, the canonical NaN. -/
structure FpFmt where
  prec : Nat
  lsb : Int
  bits : Nat
  top : Nat
  hasInf : Bool
  qnan : Nat
  deriving DecidableEq, Repr

/-- E4M3: no infinity; S.1111.111 is NaN (R169). -/
def fmtE4M3 : FpFmt := { prec := 4, lsb := -9, bits := 8, top := 0x7F, hasInf := false, qnan := 0x7F }
/-- E5M2 (R169, R178). -/
def fmtE5M2 : FpFmt := { prec := 3, lsb := -16, bits := 8, top := 0x7C, hasInf := true, qnan := 0x7E }
/-- E2M1: no infinity and no NaN. -/
def fmtE2M1 : FpFmt := { prec := 2, lsb := -1, bits := 4, top := 8, hasInf := false, qnan := 0 }
/-- BF16. -/
def fmtBF16 : FpFmt := { prec := 8, lsb := -133, bits := 16, top := 0x7F80, hasInf := true, qnan := 0x7FC0 }
/-- FP32. -/
def fmtFP32 : FpFmt := { prec := 24, lsb := -149, bits := 32, top := 0x7F800000, hasInf := true, qnan := 0x7FC00000 }
/-- FP64, of the scalar engine. -/
def fmtFP64 : FpFmt :=
  { prec := 53, lsb := -1074, bits := 64, top := 0x7FF0000000000000, hasInf := true, qnan := 0x7FF8000000000000 }

/-- The value of a code's magnitude below the top. -/
def FpFmt.finite (f : FpFmt) (neg : Bool) (mag : Nat) : Num :=
  let h := 2 ^ (f.prec - 1)
  if mag < h then .fin neg mag f.lsb else .fin neg (mag % h + h) (f.lsb + (mag / h : Nat) - 1)

/-- The number a code stands for. -/
def FpFmt.decode (f : FpFmt) (code : Nat) : Num :=
  let mag := code % 2 ^ (f.bits - 1)
  let neg := code.testBit (f.bits - 1)
  if mag < f.top then f.finite neg mag
  else if f.hasInf ∧ mag = f.top then .inf neg
  else .nan

/-- Rounding modes (RISC-V); the engines use `rne`. -/
inductive Round where
  | rne | rtz | rdn | rup | rmm
  deriving DecidableEq, Repr

/-- Bits of a number. -/
def bitLen (n : Nat) : Nat := if n = 0 then 0 else n.log2 + 1

/-- Does a magnitude go up by one unit: the cut-off part is `rem` of `2 * half` units, with more below it when
`sticky`? -/
def roundsUp (rm : Round) (neg odd : Bool) (rem half : Nat) (sticky : Bool) : Bool :=
  match rm with
  | .rne => decide (half < rem) || (rem == half && (sticky || odd))
  | .rtz => false
  | .rdn => neg && (rem != 0 || sticky)
  | .rup => !neg && (rem != 0 || sticky)
  | .rmm => decide (half ≤ rem)

/-- Round m × 2^e (a little more when `sticky`) to a multiple of 2^x: the multiple and whether it is inexact. -/
def roundAt (rm : Round) (neg : Bool) (m : Nat) (e x : Int) (sticky : Bool) : Nat × Bool :=
  if x ≤ e then
    let q := m <<< (e - x).toNat
    -- a sticky part below a whole multiple
    if sticky then (if roundsUp rm neg (q % 2 == 1) 0 1 true then q + 1 else q, true) else (q, false)
  else
    let d := (x - e).toNat
    let q := m >>> d
    let rem := m % 2 ^ d
    (if roundsUp rm neg (q % 2 == 1) rem (2 ^ (d - 1)) sticky then q + 1 else q, rem != 0 || sticky)

/-- Exponent of the last place that a format gives to m × 2^e. -/
def FpFmt.place (f : FpFmt) (m : Nat) (e : Int) : Int := max (e + bitLen m - f.prec) f.lsb

/-- A rounded magnitude: its code (at or above the top: overflow), inexact, and tiny after rounding. -/
structure Rounded where
  mag : Nat
  inexact : Bool
  tiny : Bool
  deriving DecidableEq, Repr

/-- The code of q × 2^x, where x is the place of the format. -/
def FpFmt.magCode (f : FpFmt) (q : Nat) (x : Int) : Nat := q + ((x - f.lsb).toNat) * 2 ^ (f.prec - 1)

/-- Round m × 2^e (a little more when `sticky`) to a format. -/
def FpFmt.round (f : FpFmt) (rm : Round) (neg : Bool) (m : Nat) (e : Int) (sticky : Bool) : Rounded :=
  let x := if m = 0 then f.lsb else f.place m e
  let (q, inexact) := roundAt rm neg m e x sticky
  -- the rounding with an unbounded exponent decides tininess
  let u := e + bitLen m - f.prec
  let (qu, _) := roundAt rm neg m e u sticky
  let tiny := m != 0 && decide (u + bitLen qu ≤ f.lsb + f.prec - 1)
  { mag := f.magCode q x, inexact := inexact, tiny := tiny }

/-- A code with its sign. -/
def FpFmt.signed (f : FpFmt) (neg : Bool) (mag : Nat) : Nat := if neg then mag + 2 ^ (f.bits - 1) else mag

/-- Exception flags of RISC-V: NV 16, DZ 8, OF 4, UF 2, NX 1. -/
abbrev FFlags := Nat

/-- IEEE encoding of a number under a rounding mode, with its flags. -/
def FpFmt.encode (f : FpFmt) (rm : Round) (n : Num) (sticky : Bool := false) : Nat × FFlags :=
  match n with
  | .nan => (f.qnan, 0)
  | .inf neg => (f.signed neg f.top, 0)
  | .fin neg m e =>
    let r := f.round rm neg m e sticky
    if f.top ≤ r.mag then
      let up : Bool := match rm with
        | .rne => true
        | .rmm => true
        | .rtz => false
        | .rdn => neg
        | .rup => !neg
      (f.signed neg (if up then f.top else f.top - 1), 5)
    else (f.signed neg r.mag, (if r.inexact then 1 else 0) ||| (if r.inexact && r.tiny then 2 else 0))

/-- Round to nearest, ties to even. -/
def FpFmt.near (f : FpFmt) (n : Num) : Nat := (f.encode .rne n).1

/-- Encoding for an output of FP8 or E2M1 (R178, R187): values beyond the largest finite one saturate, or give the
canonical NaN or infinity. -/
def FpFmt.small (f : FpFmt) (sat : Bool) (n : Num) : Nat :=
  let beyond (neg : Bool) : Nat :=
    if sat then f.signed neg (f.top - 1) else if f.hasInf then f.signed neg f.top else f.qnan
  match n with
  | .nan => f.qnan
  | .inf neg => beyond neg
  | .fin neg m e =>
    let r := f.round .rne neg m e false
    if f.top ≤ r.mag then beyond neg else f.signed neg r.mag

/-! ### Arithmetic on exact numbers -/

/-- The signed integer of m × 2^e in units of 2^x, x ≤ e. -/
def scaleTo (neg : Bool) (m : Nat) (e x : Int) : Int :=
  let v : Int := ((m <<< (e - x).toNat : Nat) : Int)
  if neg then -v else v

/-- A signed integer in units of 2^x as a number; zero takes the given sign. -/
def numOf (v : Int) (x : Int) (zeroNeg : Bool) : Num :=
  if v = 0 then .fin zeroNeg 0 x else .fin (decide (v < 0)) v.natAbs x

/-- Negate. -/
def Num.neg : Num → Num
  | .nan => .nan
  | .inf n => .inf !n
  | .fin n m e => .fin (!n) m e

/-- Exact sum; `down` gives a zero sum of unlike signs its sign. Whether the operation is invalid. -/
def Num.add (a b : Num) (down : Bool := false) : Num × Bool :=
  match a, b with
  | .nan, _ => (.nan, false)
  | _, .nan => (.nan, false)
  | .inf x, .inf y => if x = y then (.inf x, false) else (.nan, true)
  | .inf x, _ => (.inf x, false)
  | _, .inf y => (.inf y, false)
  | .fin n1 m1 e1, .fin n2 m2 e2 =>
    let x := min e1 e2
    let v := scaleTo n1 m1 e1 x + scaleTo n2 m2 e2 x
    let z := if m1 = 0 ∧ m2 = 0 ∧ n1 = n2 then n1 else down
    (numOf v x z, false)

/-- Exact product, and whether the operation is invalid. -/
def Num.mul (a b : Num) : Num × Bool :=
  match a, b with
  | .nan, _ => (.nan, false)
  | _, .nan => (.nan, false)
  | .inf x, .inf y => (.inf (x != y), false)
  | .inf x, .fin y m _ => if m = 0 then (.nan, true) else (.inf (x != y), false)
  | .fin x m _, .inf y => if m = 0 then (.nan, true) else (.inf (x != y), false)
  | .fin n1 m1 e1, .fin n2 m2 e2 => (.fin (n1 != n2) (m1 * m2) (e1 + e2), false)

/-- Quotient of two finite numbers, the divisor not zero, to 128 bits and more, with its sticky part. -/
def divFin (n1 : Bool) (m1 : Nat) (e1 : Int) (n2 : Bool) (m2 : Nat) (e2 : Int) : Num × Bool :=
  let k := 128 + bitLen m2
  let a := m1 <<< k
  (.fin (n1 != n2) (a / m2) (e1 - e2 - k), a % m2 != 0)

/-- Floor of the square root, bit by bit. -/
def sqrtBits : Nat → Nat → Nat → Nat
  | 0, _, r => r
  | i + 1, n, r =>
    let c := r + 2 ^ i
    sqrtBits i n (if c * c ≤ n then c else r)

/-- Floor of the square root. -/
def isqrt (n : Nat) : Nat := sqrtBits (bitLen n / 2 + 1) n 0

/-- Square root of a finite number that is not negative, to 128 bits and more, with its sticky part. -/
def sqrtFin (m : Nat) (e : Int) : Num × Bool :=
  let k : Nat := if e % 2 = 0 then 256 else 257
  let a := m <<< k
  let r := isqrt a
  (.fin false r ((e - k) / 2), r * r != a)

/-- Compare two numbers that are not NaN: −1, 0 or 1. -/
def Num.cmp (a b : Num) : Int :=
  match a, b with
  | .inf x, .inf y => if x = y then 0 else if x then -1 else 1
  | .inf x, _ => if x then -1 else 1
  | _, .inf y => if y then 1 else -1
  | .fin n1 m1 e1, .fin n2 m2 e2 =>
    let x := min e1 e2
    let u := scaleTo n1 m1 e1 x
    let v := scaleTo n2 m2 e2 x
    if u < v then -1 else if v < u then 1 else 0
  | _, _ => 0

/-- Is the sign set? -/
def Num.sign : Num → Bool
  | .nan => false
  | .inf n => n
  | .fin n _ _ => n

/-- Round to an integer under a mode, and whether it is inexact. -/
def Num.toInt (rm : Round) (n : Num) : Int × Bool :=
  match n with
  | .fin neg m e =>
    let (q, ix) := roundAt rm neg m e 0 false
    (if neg then -(q : Int) else q, ix)
  | _ => (0, false)

/-! ### EXP, LOG and RSQRT (R187)

Each is within one unit in the last place of the exact result. The bracket of the exact result comes from fixed-point
arithmetic of 192 fraction bits; which value of it the silicon gives is the free choice Config.approxPick. -/

/-- Fraction bits of the bracket. -/
def apxBits : Nat := 192

/-- e^r for 0 ≤ r < 1 in units of 2^-192. -/
def expSeries : Nat → Nat → Nat → Nat → Nat → Nat
  | 0, _, _, _, acc => acc
  | fuel + 1, r, k, term, acc =>
    let term := (term * r) / 2 ^ apxBits / k
    expSeries fuel r (k + 1) term (acc + term)

/-- e^r for 0 ≤ r < 1. -/
def expFrac (r : Nat) : Nat := expSeries 60 r 1 (2 ^ apxBits) (2 ^ apxBits)

/-- Logarithm of x by the sum of 2 y^(2k+1) / (2k+1), y = (x − 1) / (x + 1), for 1 ≤ x < 2, in units of 2^-192. -/
def logSeries : Nat → Nat → Nat → Nat → Nat → Nat
  | 0, _, _, _, acc => acc
  | fuel + 1, y2, k, term, acc =>
    logSeries fuel y2 (k + 2) (term * y2 / 2 ^ apxBits) (acc + 2 * term / k)

/-- ln x for 1 ≤ x ≤ 2, in units of 2^-192. -/
def logFrac (x : Nat) : Nat :=
  let one := 2 ^ apxBits
  let y := (x - one) * one / (x + one)
  logSeries 70 (y * y / one) 1 y 0

/-- ln 2 in units of 2^-192. -/
def ln2 : Nat := logFrac (2 ^ (apxBits + 1))

/-- m × 2^e in units of 2^-192, toward zero. -/
def toFixed (m : Nat) (e : Int) : Nat :=
  let k := e + apxBits
  if 0 ≤ k then m <<< k.toNat else m >>> (-k).toNat

/-- e^v for v = ± m × 2^e with |v| at most 2^8, toward zero, as a magnitude and exponent. -/
def expNum (neg : Bool) (m : Nat) (e : Int) : Nat × Int :=
  let v : Int := (toFixed m e : Nat)
  let v := if neg then -v else v
  let n := v.fdiv (ln2 : Nat)
  let r := (v - n * (ln2 : Nat)).toNat
  (expFrac r, n - apxBits)

/-- ln of m × 2^e, m not zero, as a signed integer in units of 2^-192. -/
def logNum (m : Nat) (e : Int) : Int :=
  let b := bitLen m
  let x := if b ≤ apxBits + 1 then m <<< (apxBits + 1 - b) else m >>> (b - apxBits - 1)
  (logFrac x : Nat) + (e + b - 1) * (ln2 : Nat)

/-- The FP32 code that the operation `op` gives for operand code `a`, among the codes within one unit in the last place
of m × 2^e: the one below, the nearest, or the one above. Beyond the largest finite value the nearest is infinity. -/
def pickFP32 (op a : Nat) (neg : Bool) (m : Nat) (e : Int) : Nat :=
  let r (rm : Round) : Nat := (fmtFP32.encode rm (.fin neg m e) true).1
  if r .rne % 2 ^ 31 = fmtFP32.top then r .rne
  else match Config.approxPick op (BitVec.ofNat 64 a) with
  | 0 => r .rdn
  | 1 => r .rne
  | _ => r .rup

/-- EXP, LOG, RSQRT and RCP of an FP32 code (R186, R187). -/
def fp32Special (op a : Nat) : Nat :=
  match fmtFP32.decode a, op with
  | .nan, _ => fmtFP32.qnan
  | .inf neg, 0x26 => if neg then 0 else fmtFP32.top
  | .inf neg, 0x29 => fmtFP32.signed neg 0
  | .inf false, 0x27 => fmtFP32.top
  | .inf false, _ => 0
  | .inf true, _ => Config.openNumber op a % 2 ^ 32
  | .fin neg m e, 0x26 =>
    if m = 0 then pickFP32 op a false (2 ^ 60) (-60)
    else if 8 < e + bitLen m then (if neg then pickFP32 op a false 1 (-400) else fmtFP32.top)
    else
      let r := expNum neg m e
      pickFP32 op a false r.1 r.2
  | .fin neg m e, 0x27 =>
    if neg ∨ m = 0 then Config.openNumber op a % 2 ^ 32
    else
      let v := logNum m e
      if v = 0 then pickFP32 op a false 0 0 else pickFP32 op a (decide (v < 0)) v.natAbs (-(apxBits : Int))
  | .fin neg m e, 0x28 =>
    if neg ∨ m = 0 then Config.openNumber op a % 2 ^ 32
    else match divFin false 1 0 false m e with
      | (.fin _ q x, _) => match sqrtFin q x with
        | (.fin _ r y, _) => pickFP32 op a false r y
        | _ => 0
      | _ => 0
  | .fin neg m e, _ =>
    if m = 0 then Config.openNumber op a % 2 ^ 32
    else match divFin false 1 0 neg m e with
      | (n, sticky) => (fmtFP32.encode .rne n sticky).1

end Sys2Proof.Machine
end

