-- ==== Sys2Proof/Machine/Operands.lean ====
section
/-! DEFINITION. Operand forms of the cell engines: the matrix, vector and mover descriptors with their checks (R180 to
R183, R185, R186, R191, R192, R195), element formats (R169), and the encodings of the engine-issue extension (R200,
R201). -/
namespace Sys2Proof.Machine

/-- Bytes of cell SRAM (R165). -/
def sramBytes : Nat := 8388608

/-- Field of a descriptor: byte offset, low bit, width. -/
def dfield (l : Line) (off lo n : Nat) : Nat := lineField l (8 * off + lo) n

/-- Are all these fields zero? -/
def allZero (l : Line) (fs : List (Nat × Nat × Nat)) : Bool := fs.all fun f => dfield l f.1 f.2.1 f.2.2 == 0

/-- Do `n` bytes from an offset lie in cell SRAM? -/
def inSram (off n : Nat) : Bool := decide (off + n ≤ sramBytes)

/-! ### Element formats (R169) -/

/-- Bits of an element, by format code; 0 for a reserved code. -/
def elemBits : Nat → Nat
  | 0 => 8 | 1 => 8 | 2 => 4 | 3 => 8 | 4 => 16 | 6 => 32 | 7 => 32 | 8 => 128 | _ => 0

/-- Is the format code defined? -/
def elemFmt (code : Nat) : Bool := elemBits code != 0

/-- Bytes of `n` elements. -/
def elemBytes (code n : Nat) : Nat := (elemBits code * n + 7) / 8

/-- Element `i` of a run of elements in memory, as its code. -/
def elemAt (m : Mem) (off code i : Nat) : Nat :=
  if elemBits code = 4 then ((m.byte (off + i / 2)).toNat / 16 ^ (i % 2)) % 16
  else leNat (m.bytes (off + i * (elemBits code / 8)) (elemBits code / 8))

/-- The floating format of a code. -/
def floatFmt : Nat → FpFmt
  | 0 => fmtE4M3 | 1 => fmtE5M2 | 2 => fmtE2M1 | 4 => fmtBF16 | _ => fmtFP32

/-- Two's complement of `n` bits. -/
def signedNat (n v : Nat) : Int := if v < 2 ^ (n - 1) then v else (v : Int) - (2 ^ n : Nat)

/-- The low `n` bits of an integer. -/
def lowBits (n : Nat) (v : Int) : Nat := (v % (2 ^ n : Nat)).toNat

/-- The number an element of a floating or integer format stands for (WIDE apart). -/
def elemNum (code v : Nat) : Num :=
  if code = 3 then numOf (signedNat 8 v) 0 false
  else if code = 7 then numOf (signedNat 32 v) 0 false
  else (floatFmt code).decode v

/-! ### Matrix descriptors -/

/-- A matrix descriptor (R180). -/
structure MatDesc where
  opc : Nat
  afmt : Nat
  bfmt : Nat
  acc : Nat
  out : Nat
  ascl : Bool
  bscl : Bool
  sat : Bool
  flagEn : Bool
  m : Nat
  n : Nat
  kb : Nat
  aOff : Nat
  bOff : Nat
  aScl : Nat
  bScl : Nat
  cOff : Nat
  accOff : Nat
  aStride : Nat
  bStride : Nat
  cStride : Nat
  flag : Nat
  clean : Bool
  deriving DecidableEq, Repr

/-- Read a matrix descriptor. -/
def matDesc (l : Line) : MatDesc :=
  { opc := dfield l 0 0 8, afmt := dfield l 0 8 4, bfmt := dfield l 0 12 4, acc := dfield l 0 16 2, out := dfield l 0 18 4,
    ascl := dfield l 0 22 1 == 1, bscl := dfield l 0 23 1 == 1, sat := dfield l 0 24 1 == 1, flagEn := dfield l 0 25 1 == 1,
    m := dfield l 4 0 8, n := dfield l 5 0 8, kb := dfield l 6 0 16, aOff := dfield l 8 0 23, bOff := dfield l 12 0 23,
    aScl := dfield l 16 0 23, bScl := dfield l 20 0 23, cOff := dfield l 24 0 23, accOff := dfield l 28 0 23,
    aStride := dfield l 32 0 24, bStride := dfield l 36 0 24, cStride := dfield l 40 0 24, flag := dfield l 44 0 16,
    clean := allZero l [(0, 26, 6), (8, 23, 9), (12, 23, 9), (16, 23, 9), (20, 23, 9), (24, 23, 9), (28, 23, 9), (32, 24, 8),
      (36, 24, 8), (40, 24, 8), (46, 0, 16), (48, 0, 128)] }

/-- K. -/
def MatDesc.k (d : MatDesc) : Nat := 32 * d.kb

/-- The BF16 path (R179). -/
def MatDesc.bf16 (d : MatDesc) : Bool := d.afmt == 4

/-- Bytes of an output element (R181); 0 for OUT NONE. -/
def outBytes : Nat → Nat
  | 1 => 16 | 2 => 4 | 3 => 2 | 4 => 1 | 5 => 1 | 6 => 4 | _ => 0

/-- Bytes of an element of the LOAD image (R182). -/
def MatDesc.imgBytes (d : MatDesc) : Nat := if d.bf16 then 4 else 16

/-- Does a matrix descriptor end MALFORMED (R183)? -/
def MatDesc.malformed (d : MatDesc) : Bool :=
  let aligned (v : Nat) : Bool := v % 64 == 0
  let useC := d.out != 0
  let useAcc := d.acc == 2
  let rows (off stride count bytes : Nat) : Bool := inSram off ((count - 1) * stride + bytes)
  d.opc != 0x10 || decide (4 < d.afmt) || decide (4 < d.bfmt) || d.acc == 3 || decide (6 < d.out) || !d.clean ||
    d.m == 0 || decide (64 < d.m) || d.n == 0 || decide (64 < d.n) || d.kb == 0 || decide (2048 < d.kb) ||
    ((d.afmt == 4) != (d.bfmt == 4)) || (d.bf16 && (d.out == 1 || d.out == 6)) ||
    (d.afmt == 4 && d.ascl) || (d.bfmt == 4 && d.bscl) || (d.afmt == 2 && !d.ascl) || (d.bfmt == 2 && !d.bscl) ||
    !(aligned d.aOff && aligned d.bOff && aligned d.aStride && aligned d.bStride) || (useC && !aligned d.cOff) ||
    (useAcc && !aligned d.accOff) || ((useC || useAcc) && !aligned d.cStride) ||
    !rows d.aOff d.aStride d.m (elemBytes d.afmt d.k) || !rows d.bOff d.bStride d.n (elemBytes d.bfmt d.k) ||
    (d.ascl && !inSram d.aScl (d.m * d.kb)) || (d.bscl && !inSram d.bScl (d.n * d.kb)) ||
    (useC && !rows d.cOff d.cStride d.m (d.n * outBytes d.out)) ||
    (useAcc && !rows d.accOff d.cStride d.m (d.n * d.imgBytes))

/-! ### Vector descriptors -/

/-- A vector descriptor (R185). -/
structure VecDesc where
  opc : Nat
  stype : Nat
  dtype : Nat
  sat : Bool
  flagEn : Bool
  bcast : Nat
  count : Nat
  src1 : Nat
  src2 : Nat
  src3 : Nat
  dst : Nat
  scl : Nat
  imm : Nat
  flag : Nat
  clean : Bool
  deriving DecidableEq, Repr

/-- Read a vector descriptor. -/
def vecDesc (l : Line) : VecDesc :=
  { opc := dfield l 0 0 8, stype := dfield l 0 8 4, dtype := dfield l 0 12 4, sat := dfield l 0 16 1 == 1,
    flagEn := dfield l 0 17 1 == 1, bcast := dfield l 0 18 2, count := dfield l 4 0 24, src1 := dfield l 8 0 23,
    src2 := dfield l 12 0 23, src3 := dfield l 16 0 23, dst := dfield l 20 0 23, scl := dfield l 24 0 23,
    imm := dfield l 28 0 32, flag := dfield l 32 0 16,
    clean := allZero l [(0, 20, 12), (4, 24, 8), (8, 23, 9), (12, 23, 9), (16, 23, 9), (20, 23, 9), (24, 23, 9), (34, 0, 16),
      (36, 0, 224)] }

/-- Has the operation a second operand (0x23 is FMA)? -/
def VecDesc.binary (d : VecDesc) : Bool :=
  decide (0x20 ≤ d.opc ∧ d.opc ≤ 0x25) || d.opc == 0x2F

/-- The source formats an operation allows (R186). -/
def vecAllows (opc stype : Nat) : Bool :=
  let fp := stype == 6 || stype == 4
  if opc = 0x20 ∨ opc = 0x21 ∨ opc = 0x22 ∨ opc = 0x24 ∨ opc = 0x25 then fp || stype == 7
  else if opc = 0x2A then elemFmt stype
  else if opc = 0x2C then stype == 2
  else if opc = 0x2F then stype == 8
  else if 0x23 ≤ opc ∧ opc ≤ 0x30 then fp
  else false

/-- Format of the result: DTYPE for CVT and DQMX; INT32 for ARGMAX; E2M1 for QMX; else the source's (assumption 12). -/
def VecDesc.outFmt (d : VecDesc) : Nat :=
  if d.opc = 0x2A ∨ d.opc = 0x2C then d.dtype
  else if d.opc = 0x30 then 7
  else if d.opc = 0x2B then 2
  else d.stype

/-- Elements of the result. -/
def VecDesc.outCount (d : VecDesc) : Nat := if d.opc = 0x2D ∨ d.opc = 0x2E ∨ d.opc = 0x30 then 1 else d.count

/-- Elements read at SRC2. -/
def VecDesc.count2 (d : VecDesc) : Nat := if !d.binary ∨ d.bcast = 1 then 0 else if d.bcast = 2 then 1 else d.count

/-- The source ranges (offset, bytes). -/
def VecDesc.sources (d : VecDesc) : List (Nat × Nat) :=
  let e (off n : Nat) : Nat × Nat := (off, elemBytes d.stype n)
  [e d.src1 d.count] ++ (if d.count2 = 0 then [] else [e d.src2 d.count2]) ++
    (if d.opc = 0x23 then [e d.src3 d.count] else []) ++
    (if d.opc = 0x2C then [(d.scl, d.count / 32)] else [])

/-- The destination range. -/
def VecDesc.dest (d : VecDesc) : Nat × Nat := (d.dst, elemBytes d.outFmt d.outCount)

/-- Does a vector descriptor end MALFORMED (R186, R191)? -/
def VecDesc.malformed (d : VecDesc) : Bool :=
  let align (code off : Nat) : Bool := off % max 1 (elemBits code / 8) == 0
  let scaled := d.opc == 0x2B || d.opc == 0x2C
  !vecAllows d.opc d.stype || !elemFmt d.dtype || d.bcast == 3 || !d.clean || d.count == 0 || decide (4194304 < d.count) ||
    (d.opc == 0x2A && d.dtype == 8) || (d.opc == 0x2C && d.dtype != 6 && d.dtype != 4) ||
    (d.opc == 0x2F && d.bcast == 1) || !align d.stype d.src1 || (d.count2 != 0 && !align d.stype d.src2) ||
    (d.opc == 0x23 && !align d.stype d.src3) || !align d.outFmt d.dst || (scaled && d.count % 32 != 0) ||
    !(d.sources.all fun r => inSram r.1 r.2) || !inSram d.dest.1 d.dest.2 ||
    (d.opc == 0x2B && !inSram d.scl (d.count / 32))

/-- Does DST overlap a source without being equal to it (R191, R213)? -/
def VecDesc.overlaps (d : VecDesc) : Bool :=
  let (a, n) := d.dest
  d.sources.any fun r => decide (r.1 < a + n) && decide (a < r.1 + r.2) && r != (a, n)

/-! ### Mover descriptors -/

/-- A mover descriptor (R192); rows and lines per row are decoded. -/
structure MvDesc where
  opc : Nat
  atop : Nat
  posted : Bool
  flagEn : Bool
  rows : Nat
  rowLines : Nat
  addr : Nat
  sramOff : Nat
  addrStride : Nat
  sramStride : Nat
  doneOff : Nat
  flag : Nat
  operand : Nat
  compare : Nat
  clean : Bool
  deriving DecidableEq, Repr

/-- Read a mover descriptor. -/
def mvDesc (l : Line) : MvDesc :=
  let opc := dfield l 0 0 8
  let operandClean :=
    if opc = 0x42 then dfield l 40 23 41 == 0 else if opc = 0x43 then dfield l 40 39 25 == 0
    else if opc = 0x44 then true else dfield l 40 0 64 == 0
  { opc := opc, atop := dfield l 0 8 2, posted := dfield l 0 10 1 == 1, flagEn := dfield l 0 11 1 == 1,
    rows := dfield l 4 0 16 + 1, rowLines := dfield l 6 0 16 + 1, addr := dfield l 8 0 56, sramOff := dfield l 16 0 23,
    addrStride := dfield l 24 0 32, sramStride := dfield l 28 0 23, doneOff := dfield l 32 0 23, flag := dfield l 36 0 16,
    operand := dfield l 40 0 64, compare := dfield l 48 0 64,
    clean := operandClean && allZero l [(0, 12, 20), (8, 56, 8), (16, 23, 9), (20, 0, 32), (28, 23, 9), (32, 23, 9),
      (38, 0, 16), (56, 0, 64)] }

/-- Lines of the whole descriptor. -/
def MvDesc.lines (d : MvDesc) : Nat := if d.opc = 0x44 then 1 else d.rows * d.rowLines

/-- Offset of line `i` on the SRAM side. -/
def MvDesc.sramAt (d : MvDesc) (i : Nat) : Nat := d.sramOff + i / d.rowLines * d.sramStride + 64 * (i % d.rowLines)

/-- Offset of line `i` on the other side, from a base. -/
def MvDesc.otherAt (d : MvDesc) (base i : Nat) : Nat := base + i / d.rowLines * d.addrStride + 64 * (i % d.rowLines)

/-- Destination of a CELL_PUT: device, Frond die, cell of the die, offset. -/
def MvDesc.target (d : MvDesc) : DevNo × Nat × Nat × Nat :=
  (BitVec.ofNat 9 d.operand, d.operand / 2 ^ 9 % 4, d.operand / 2 ^ 11 % 32, d.operand / 2 ^ 16 % 2 ^ 23)

/-- Is the completion word in place (R195, R196)? -/
def MvDesc.doneOk (d : MvDesc) : Bool := d.doneOff % 8 == 0

/-- Does a mover descriptor end MALFORMED (R195)? -/
def MvDesc.malformed (d : MvDesc) (ordinary : Bool) : Bool :=
  let span (off stride : Nat) : Bool := inSram off ((d.rows - 1) * stride + 64 * d.rowLines)
  let al (v : Nat) : Bool := v % 64 == 0
  !d.clean || !d.doneOk || decide (d.opc < 0x40) || decide (0x44 < d.opc) ||
    (if d.opc = 0x44 then d.addr % 8 != 0 || d.sramOff % 8 != 0 || !inSram d.sramOff 8
     else
       !al d.sramOff || !al d.sramStride || !al d.addrStride || !span d.sramOff d.sramStride ||
         ((d.opc == 0x40 || d.opc == 0x41) && !al d.addr) ||
         (d.opc == 0x42 && (!al d.operand || !span (d.operand % 2 ^ 23) d.addrStride)) ||
         (d.opc == 0x43 && (ordinary || !al d.target.2.2.2 || !span d.target.2.2.2 d.addrStride)))

/-- A result word (R204). -/
def resultWord (code : Nat) (ovf nan : Bool) (lines : Nat) : Word :=
  BitVec.ofNat 64 (pack [(0, code % 256), (8, ovf.toNat), (9, nan.toNat), (32, lines % 2 ^ 32)])

/-! ### The engine-issue extension (R200, R201) -/

/-- An instruction of the extension. -/
inductive Ext where
  | mx (rd rs1 : XReg)
  | vx (rd rs1 : XReg)
  | mv (ch : BitVec 3) (rd rs1 : XReg)
  | wait (q : BitVec 4) (rd rs1 : XReg)
  | poll (q : BitVec 4) (rd rs1 : XReg)
  | flagLd (aq : Bool) (rd rs1 : XReg)
  | flagSt (rl : Bool) (rs2 rs1 : XReg)
  | flagAdd (aq rl : Bool) (rd rs2 rs1 : XReg)
  | flagMax (aq rl : Bool) (rd rs2 rs1 : XReg)
  | flagCas (aq rl : Bool) (rd rs2 rs1 : XReg)
  | flagWaitge (aq : Bool) (rd rs2 rs1 : XReg)
  | rel
  | acq
  | waleRd (rd : XReg)
  | waleWait (rd rs1 : XReg)
  | stimeRd (rd : XReg)
  deriving DecidableEq, Repr

/-- Is a queue select defined: matrix, vector, or mover channel ccc? -/
def queueOk (q : Nat) : Bool := q == 0 || q == 1 || decide (8 ≤ q)

/-- Decode a word of custom-0, custom-1 or custom-2; none is an illegal instruction (R201). -/
def decodeExt (w : BitVec 32) : Option Ext :=
  let op := (w.extractLsb' 0 7).toNat
  let rd : XReg := w.extractLsb' 7 5
  let f3 := (w.extractLsb' 12 3).toNat
  let rs1 : XReg := w.extractLsb' 15 5
  let rs2 : XReg := w.extractLsb' 20 5
  let f7 := (w.extractLsb' 25 7).toNat
  let aq := f7.testBit 1
  let rl := f7.testBit 0
  if op = 0x0B then
    if rs2 ≠ 0 then none
    else match f3 with
      | 0 => if f7 = 0 then some (.mx rd rs1) else none
      | 1 => if f7 = 0 then some (.vx rd rs1) else none
      | 2 => if f7 < 8 then some (.mv (BitVec.ofNat 3 f7) rd rs1) else none
      | 4 => if f7 < 16 ∧ queueOk f7 then some (.wait (BitVec.ofNat 4 f7) rd rs1) else none
      | 5 => if f7 < 16 ∧ queueOk f7 then some (.poll (BitVec.ofNat 4 f7) rd rs1) else none
      | _ => none
  else if op = 0x2B then
    if 4 ≤ f7 then none
    else match f3 with
      | 0 => if rs2 = 0 ∧ !rl then some (.flagLd aq rd rs1) else none
      | 1 => if rd = 0 ∧ !aq then some (.flagSt rl rs2 rs1) else none
      | 2 => some (.flagAdd aq rl rd rs2 rs1)
      | 3 => some (.flagMax aq rl rd rs2 rs1)
      | 4 => some (.flagCas aq rl rd rs2 rs1)
      | 5 => if rl then none else some (.flagWaitge aq rd rs2 rs1)
      | _ => none
  else if op = 0x5B then
    if f7 ≠ 0 ∨ rs2 ≠ 0 then none
    else match f3 with
      | 0 => if rd = 0 ∧ rs1 = 0 then some .rel else none
      | 1 => if rd = 0 ∧ rs1 = 0 then some .acq else none
      | 2 => if rs1 = 0 then some (.waleRd rd) else none
      | 3 => some (.waleWait rd rs1)
      | 4 => if rs1 = 0 then some (.stimeRd rd) else none
      | _ => none
  else none

end Sys2Proof.Machine
end

