-- ==== Sys2Proof/Machine/Send.lean ====
section
/-! DEFINITION. The sending half of the fabric: ports, routes, output queues, flows, the source replay buffer, requests
and fences (R441 to R466, R739). Time shares of an output (R444) are not modelled (assumption 7). -/
namespace Sys2Proof.Machine

/-! ### Ports -/

/-- A Withy port. -/
def State.port (s : State) (p : Nat) : Port := s.fab.ports.get p .fresh

/-- Replace a Withy port. -/
def State.setPort (s : State) (p : Nat) (q : Port) : State :=
  { s with fab := { s.fab with ports := s.fab.ports.put p q } }

/-- LNK_STATE[p].STATE (R426). -/
def State.linkState (s : State) (p : Nat) : Nat := s.getF F.lnkState_state p

/-- A port that carries packets: ACTIVE or KEEPALIVE. -/
def State.portLive (s : State) (p : Nat) : Bool := s.linkState p == 3 || s.linkState p == 4

/-- Count an event in the open TEL window (R707). -/
def State.tel (s : State) (f : Fld) (i n : Nat) : State :=
  { s with mgt := { s.mgt with telOpen := s.mgt.telOpen.put (f.off i) (s.mgt.telOpen.get (f.off i) 0 + n) } }

/-! ### Packets -/

/-- A packet with every field clear but its kind, class and ends. -/
def Packet.make (kind : PacketKind) (cls : Nat) (src : DevNo) (dst : Nat) (tenant : Tenant) : Packet :=
  { kind := kind, cls := cls, vl := false, mcast := false, posted := false, resent := false, stomp := false, src := src,
    hops := 0, dst := dst, tenant := tenant, lines := 0, addr := 0, flowSeq := 0, tag := 0, mlen := 0, uni := none,
    work := none, data := [], mask := 0, atop := 0, operand := 0, compare := 0, code := .done, fenced := 0, entries := [],
    copy := none, msg := none }

/-- Bytes of a packet: header and payload (R436, R437). -/
def Packet.bytes (p : Packet) : Nat :=
  32 + (match p.kind with
    | .store | .cellPut | .reply => 64 * p.data.length
    | .atomic => 16
    | .fence | .probe => 8
    | .delivered => 8 * p.entries.length
    | .msg => p.mlen
    | _ => 0)

/-- Credits a packet takes (R441). -/
def Packet.credits (p : Packet) : Nat := (p.bytes + 255) / 256

/-- Flits a packet takes, each packet beginning a flit of its own (R420, assumption 7). -/
def Packet.flits (p : Packet) : Nat := (p.bytes + 249) / 250

/-- Is the packet in a flow (R452)? -/
def Packet.inFlow (p : Packet) : Bool :=
  match p.kind with
  | .load | .store | .atomic | .cellPut | .fence | .msg => true
  | _ => false

/-- A request that a REPLY or FENCE_DONE answers (R437, R461). -/
def Packet.answered (p : Packet) : Bool :=
  match p.kind with
  | .load | .atomic | .fence => true
  | .store | .cellPut => !p.posted
  | _ => false

/-- The packet's flow (R452). -/
def Packet.flow (p : Packet) : FlowId := { src := p.src, cls := p.cls, dst := p.dst, mcast := p.mcast }

/-- The device a packet that is not multicast, or is sent to one member, goes to. -/
def Packet.target (p : Packet) : DevNo := p.uni.getD (BitVec.ofNat 9 p.dst)

/-! ### Routes (R447, R448) -/

/-- The port crosses a dateline link (R32, R448). -/
def datelinePort (d : DevNo) (p : Nat) : Bool :=
  let x := devX d; let y := d.toNat / 8 % 8; let z := d.toNat / 64
  (p == 0 && x == 7) || (p == 1 && x == 0) || (p == 2 && y == 7) || (p == 3 && y == 0) || (p == 4 && z == 7) ||
    (p == 5 && z == 0)

/-- The live candidates for a destination: a port toward a sleeping device serves that device alone (R447, R665). -/
def State.liveCands (s : State) (dst : DevNo) : List (Nat × Nat) :=
  (s.fab.routes.get dst.toNat []).filter fun c =>
    s.portLive c.1 && (!s.pwr.asleep.contains (s.port c.1).partner || (s.port c.1).partner == dst)

/-- Bytes queued at an output. -/
def State.queued (s : State) (p : Nat) : Nat := ((s.port p).outq.map Packet.bytes).sum

/-- Is candidate `a` to be taken before `b`? Classes 2 and 3 look at the queued bytes too. -/
def State.better (s : State) (cls : Nat) (a b : Nat × Nat) : Bool :=
  let ka := if cls < 2 then 0 else s.queued a.1
  let kb := if cls < 2 then 0 else s.queued b.1
  decide (a.2 < b.2) || (a.2 == b.2 && (decide (ka < kb) || (ka == kb && decide (a.1 < b.1))))

/-- The output port for a packet, preferring one other than `avoid` (R447, R456). -/
def State.pickPort (s : State) (cls : Nat) (dst : DevNo) (avoid : Option Nat) : Option Nat :=
  let cs := s.liveCands dst
  let others := cs.filter fun c => avoid != some c.1
  let cs := if others.isEmpty then cs else others
  (cs.foldl (fun best c => match best with
    | none => some c
    | some b => if s.better cls c b then some c else some b) none).map (·.1)

/-! ### Outputs (R441 to R444) -/

/-- The pair of class and virtual lane of a packet (R441). -/
def Packet.lane (p : Packet) : Nat := 2 * p.cls + p.vl.toNat

/-- Does the port hold the credits and the link replay room for the packet (R441, R423)? `cross`: its link is a dateline,
behind which the packet is on VL 1 (R448). -/
def Port.canSend (q : Port) (cross : Bool) (p : Packet) : Bool :=
  decide (p.credits ≤ q.credits.getD ({ p with vl := p.vl || cross } : Packet).lane 0) &&
    decide ((q.replay.map (·.flits)).sum + p.flits ≤ 512)

/-- How far a packet stands behind: class 0, then scheduled work, then round-robin by tenant with class 2 before 3
(R444). -/
def Port.rank (q : Port) (p : Packet) : Nat :=
  if p.cls = 0 then 0 else if p.work.isSome then 1
  else 2 + 4 * ((p.tenant.toNat + 255 - q.rrTenant) % 256) + p.cls

/-- The packet the output sends next: index and packet. -/
def Port.nextOut (q : Port) (cross : Bool) : Option (Nat × Packet) :=
  let cs := (q.outq.zipIdx.filter fun e => q.canSend cross e.1).map fun e => (e.2, e.1)
  cs.foldl (fun best e => match best with
    | none => some e
    | some b => if q.rank e.2 < q.rank b.2 then some e else some b) none

/-- Flits leave a port: sequence numbers, groups, and a new key at the first group begun after a REKEY (R421, R422,
R641). -/
def State.sendFlits (s : State) (p n : Nat) (packet : Option Packet) : State :=
  let q := s.port p
  let frame : LinkFrame := { seq := q.txSeq, flits := n, packet := packet }
  let start := q.txFlits % 8
  let q' := { q with txSeq := (q.txSeq + n) % 65536, replay := q.replay ++ [frame] }
  match q.rekeyTo with
  | some e =>
    if start + n > 8 ∨ start = 0 then
      let left := if start = 0 then n else start + n - 8
      let s := (s.setPort p { q' with txFlits := left, rekeyTo := none }).setF F.lnkState_keyEpoch p e
      if left ≥ 8 then s.setF F.lnkCtl_reauth p 0 else s
    else s.setPort p { q' with txFlits := q.txFlits + n }
  | none =>
    let s := s.setPort p { q' with txFlits := q.txFlits + n }
    if q.txFlits < 8 ∧ 8 ≤ q.txFlits + n then s.setF F.lnkCtl_reauth p 0 else s

/-- The credits of a packet that came in at a port are owed to the partner (R442). -/
def State.owe (s : State) (inp : Nat) (p : Packet) : State :=
  let q := s.port inp
  s.setPort inp { q with owed := q.owed.set p.lane (q.owed.getD p.lane 0 + p.credits) }

/-- Bytes of an output's shared buffer (R441, R479). -/
def State.sharedBytes (s : State) : Nat := F.swcOut_sharedFreeKib.reset.num s.code * 1024

/-- Bytes of the shared buffer in use. -/
def Port.sharedUsed (q : Port) : Nat := (q.outq.map Packet.bytes).sum - (q.slices.map fun e => e.1.bytes).sum

/-- Has the shared buffer room for a packet? -/
def State.sharedRoom (s : State) (port : Nat) (p : Packet) : Bool :=
  decide ((s.port port).sharedUsed + p.bytes ≤ s.sharedBytes)

/-- Packets in reserved slices move to the shared buffer, oldest first, while there is room; their credits go back (R442). -/
def State.moveShared : Nat → Nat → State → State
  | 0, _, s => s
  | fuel + 1, port, s =>
    match (s.port port).slices with
    | [] => s
    | (p, inp) :: rest =>
      if s.sharedRoom port p then moveShared fuel port ((s.setPort port { s.port port with slices := rest }).owe inp p) else s

/-- A packet has left an output: its slice is free, or its shared room is (R442). -/
def State.leftOutput (s : State) (port : Nat) (p : Packet) : State :=
  let q := s.port port
  let s := match q.slices.find? fun e => e.1 == p with
    | some e => (s.setPort port { q with slices := q.slices.erase e }).owe e.2 p
    | none => s
  s.moveShared q.slices.length port

/-- Send the packet at index `i` of an output: HOPS, VL, credits, and the flits. -/
def State.transmit (s : State) (port i : Nat) (p : Packet) : State :=
  let q := s.port port
  let p' := { p with hops := p.hops + 1, vl := p.vl || datelinePort s.device port }
  let s := s.setPort port { q with
    outq := q.outq.eraseIdx i, credits := q.credits.set p'.lane (q.credits.getD p'.lane 0 - p.credits),
    rrTenant := if p.cls = 0 ∨ p.work.isSome then q.rrTenant else p.tenant.toNat }
  let s := (s.leftOutput port p).sendFlits port p.flits (some p')
  (s.emit (.packet port p')).tel F.telLinkTx_count port (p.bytes - 32)

/-- Send what the output can send, at most `fuel` packets. -/
def State.drain : Nat → Nat → State → State
  | 0, _, s => s
  | fuel + 1, port, s =>
    if s.linkState port = 3 then
      match (s.port port).nextOut (datelinePort s.device port) with
      | none => s
      | some (i, p) => drain fuel port (s.transmit port i p)
    else s

/-- Queue a packet at an output (R443); at a port in KEEPALIVE it waits for the port to wake. One that came in at port `inp`
lies in that input's reserved slice until there is shared room. -/
def State.enqueue (s : State) (port : Nat) (p : Packet) (inp : Option Nat := none) : State :=
  let q := s.port port
  let room := s.sharedRoom port p && q.slices.isEmpty
  let s := s.setPort port { q with outq := q.outq ++ [p] }
  let s := match inp with
    | none => s
    | some i => if room then s.owe i p else s.setPort port { s.port port with slices := q.slices ++ [(p, i)] }
  s.drain (q.outq.length + 1) port

/-- Count a dropped packet (R481). -/
def State.dropPacket (s : State) : State := s.addF F.swcDropCount_count 0 1

/-- The credits of a packet that is not queued go back to the port it came in at, if it came in at one. -/
def State.oweIn (s : State) (inp : Option Nat) (p : Packet) : State :=
  match inp with
  | none => s
  | some i => s.owe i p

/-- Send a packet that is no copy of a tree toward one device: the hop limit, the route (R739, R447). Its own device is
reached through the ejection output, shown as output 8 (assumption 8). -/
def State.unicastOut (s : State) (p : Packet) (avoid : Option Nat := none) (inp : Option Nat := none) : State :=
  if p.target = s.device then (s.oweIn inp p).emit (.packet 8 p)
  else if 32 ≤ p.hops then ((s.oweIn inp p).dropPacket).flag F.swcStatus_hopLimit { arg := BitVec.ofNat 64 p.target.toNat }
  else match s.pickPort p.cls p.target avoid with
    | none => ((s.oweIn inp p).dropPacket).flag F.swcStatus_noRoute { arg := BitVec.ofNat 64 p.target.toNat }
    | some port => s.enqueue port p inp

/-- This device's entry for a multicast group (R451). -/
def State.group (s : State) (g : Nat) : Option McastEntry := (s.fab.groups.find? fun e => e.1 == g).map (·.2)

/-- Copy a multicast packet to every output its group's entry names (R451). Its credits go back once the first output
without shared room has room for it. -/
def State.mcastOut (s : State) (p : Packet) (inp : Option Nat := none) : State :=
  match s.group p.dst with
  | none => s.oweIn inp p
  | some e =>
    let tight := e.outputs.find? fun port => s.portLive port && !s.sharedRoom port p
    let s := if tight.isNone then s.oweIn inp p else s
    let s := e.outputs.foldl (fun s port =>
      if s.portLive port then s.enqueue port p (if tight = some port then inp else none) else s.dropPacket) s
    if e.member && p.src == s.device then s.emit (.packet 8 p) else s

/-- WAKING to the source of a request that met a port in KEEPALIVE, or a restart of the own request's bound (R450). -/
def State.wakingFor (s : State) (p : Packet) : State :=
  if p.answered && !p.resent then
    match s.pickPort p.cls p.target none with
    | none => s
    | some port =>
      if s.linkState port = 4 then
        if p.src = s.device then
          { s with fab := { s.fab with
            requests := updWhere (fun r => r.tag == p.tag && !r.woken) (fun r => { r with woken := true, since := s.stime })
              s.fab.requests } }
        else s.unicastOut { Packet.make .waking 0 s.device p.src.toNat 0 with tag := p.tag, flowSeq := p.flowSeq }
      else s
  else s

/-- Send a packet on its way: as a unicast or along its group's tree. -/
def State.out1 (s : State) (p : Packet) (avoid : Option Nat := none) (inp : Option Nat := none) : State :=
  if p.mcast && p.uni.isNone then s.mcastOut p inp else (s.wakingFor p).unicastOut p avoid inp

/-! ### Flows (R452 to R463) -/

/-- Is a device marked unreachable (R463)? -/
def State.unreachable (s : State) (d : DevNo) : Bool :=
  (s.getF F.swcUnreach_map (d.toNat / 64)).testBit (d.toNat % 64)

/-- A request ends DEAD: the counts, the fault records, the mark (R461, R463). -/
def State.noteDead (s : State) (dst : DevNo) (addr : Word) (tenant : Tenant) : State :=
  let s := s.addF F.lnkDeadCount_count 0 1
  let s := s.flag F.swcStatus_reqDead { arg := BitVec.ofNat 64 dst.toNat, addr := addr, tenant := tenant.toNat }
  let m := s.getF F.swcUnreach_map (dst.toNat / 64)
  let s := s.setF F.swcUnreach_map (dst.toNat / 64) (m ||| 2 ^ (dst.toNat % 64))
  s.flag F.swcStatus_unreachable { arg := BitVec.ofNat 64 dst.toNat }

/-- A posted packet is lost (R462). -/
def State.noteLost (s : State) (p : Packet) : State :=
  let s := s.flag F.swcStatus_postedLost
    { arg := BitVec.ofNat 64 p.target.toNat, addr := p.addr, tenant := p.tenant.toNat }
  { s with fab := { s.fab with tx := updWhere (fun f => f.flow == p.flow) (fun f => { f with lost := true }) s.fab.tx } }

/-- The transmit side of a flow. -/
def State.txFlow (s : State) (f : FlowId) : TxFlow :=
  (s.fab.tx.find? fun t => t.flow == f).getD { flow := f, next := 0, posted := none, lost := false }

/-- Put the transmit side of a flow. -/
def State.setTx (s : State) (t : TxFlow) : State :=
  { s with fab := { s.fab with tx := (s.fab.tx.filter fun u => u.flow != t.flow) ++ [t] } }

/-- Bytes of the source replay buffer in use. -/
def State.replayBytes (s : State) : Nat := (s.fab.replay.map fun r => r.packet.bytes).sum

/-- Is there room for the packet in the buffer and in its flow's window (R455)? -/
def State.replayRoom (s : State) (p : Packet) : Bool :=
  decide (s.replayBytes + p.bytes ≤ 33554432) &&
    decide ((s.fab.replay.filter fun r => r.flow == p.flow).length < 1024)

/-- The devices a flow packet must reach: its member, its group's members, or its destination. -/
def State.packetMembers (s : State) (p : Packet) : List DevNo :=
  match p.uni with
  | some d => [d]
  | none => if p.mcast then ((s.group p.dst).map (·.members)).getD [] else [BitVec.ofNat 9 p.dst]

/-- A fresh request tag. -/
def State.newTag (s : State) : BitVec 16 × State :=
  (s.fab.nextTag, { s with fab := { s.fab with nextTag := s.fab.nextTag + 1 } })

/-- Give a packet the next number of its flow, keep it in the source replay buffer, register the request, and send it. -/
def State.launch (s : State) (p : Packet) (iss : Option Issuer) : State :=
  let f := s.txFlow p.flow
  let p := { p with flowSeq := BitVec.ofNat 16 f.next }
  let s := s.setTx { f with
    next := (f.next + 1) % 65536, posted := if p.posted then some f.next else f.posted }
  let who := s.packetMembers p
  let kept : Replay :=
    { flow := p.flow, seq := p.flowSeq.toNat, packet := p, lastPort := s.pickPort p.cls p.target none, uncovered := who }
  let s := { s with fab := { s.fab with replay := s.fab.replay ++ [kept] } }
  let s := match iss with
    | none => s
    | some i =>
      let r : Request :=
        { tag := p.tag, issuer := i, flow := p.flow, seq := p.flowSeq.toNat, addr := p.addr, lines := p.lines,
          waiting := who, answers := [], packet := p, since := s.stime, woken := false }
      { s with fab := { s.fab with requests := s.fab.requests ++ [r] } }
  if p.kind = .fence ∧ p.mcast then who.foldl (fun s d => s.out1 { p with uni := some d }) s else s.out1 p

/-- How a send begins. -/
inductive SendEnd where
  /-- on its way, or waiting for room, or held for a sleeping device -/
  | sent
  /-- a request to an unreachable device: DEAD at once (R463) -/
  | dead
  deriving DecidableEq, Repr

/-- A WAKE to a sleeping device (R665): at most one while no wake is in progress. -/
def State.sendWake (s : State) (d : DevNo) : State :=
  if s.pwr.wakeSent.contains d then s
  else
    let s := { s with pwr := { s.pwr with wakeSent := s.pwr.wakeSent ++ [d] } }
    let p := { Packet.make .msg 0 s.device d.toNat 0 with mlen := 32, msg := some (.wake d) }
    if s.replayRoom p then s.launch p none else { s with fab := { s.fab with blocked := s.fab.blocked ++ [(p, none)] } }

/-- The committed REGION record, as this device knows it, that covers a STORE address (R539). -/
def State.regionRec (s : State) (sa : Word) : Option MapRec :=
  s.map.records.find? fun r => r.kind == 3 && saDevice r.key == saDevice sa && decide (saOffset r.key ≤ saOffset sa) &&
    decide (saOffset sa < saOffset r.key + max r.count 1 * 33554432)

/-- The device that serves a STORE address: the holder of its REGION lease, by default its home (R539, R544). -/
def State.serverOf (s : State) (sa : Word) : DevNo :=
  ((s.regionRec sa).map (·.holder)).getD (BitVec.ofNat 9 (saDevice sa))

/-- Does this device serve the address from its own store? -/
def State.servesOwn (s : State) (sa : Word) : Bool :=
  BitVec.ofNat 9 (saDevice sa) == s.device && s.serverOf sa == s.device

/-- A store access goes to the holder of the address's REGION lease (R539), and to the adopter where that device has one
(R555). -/
def State.redirect (s : State) (p : Packet) : Packet :=
  if p.mcast then p
  else match p.kind with
    | .load | .store | .atomic =>
      let p := if saClass p.addr = 0 ∧ saDevice p.addr = p.dst then { p with dst := (s.serverOf p.addr).toNat } else p
      match s.fateOf (BitVec.ofNat 9 p.dst) with
      | some r => if (r.state = 1 ∨ r.state = 4) ∧ fieldOf r.key 9 16 = 0 then { p with dst := r.taker.toNat } else p
      | none => p
    | _ => p

/-- Send a flow packet: held for a sleeping device (R665), ended or dropped for an unreachable one (R463), waiting for
room (R455), or launched. `boundary`: a message that a boundary step sends and discards. -/
def State.sendPacket (s : State) (p : Packet) (iss : Option Issuer) (boundary : Bool := false) : SendEnd × State :=
  let p := s.redirect p
  let one := !p.mcast || p.uni.isSome
  if one && s.pwr.asleep.contains p.target then
    let h : SleepHold := { packet := p, issuer := iss, boundary := boundary }
    (.sent, ({ s with pwr := { s.pwr with holds := s.pwr.holds ++ [h] } } : State).sendWake p.target)
  else if one && s.unreachable p.target then
    if p.posted then
      let f := s.txFlow p.flow
      (.sent, (s.setTx { f with next := (f.next + 1) % 65536, posted := some f.next }).noteLost p)
    else if p.answered then (.dead, s.noteDead p.target p.addr p.tenant)
    else (.sent, s)
  else if !s.replayRoom p then
    (.sent, { s with fab := { s.fab with blocked := s.fab.blocked ++ [(p, iss)] } }.flag F.swcStatus_replayFull)
  else (.sent, s.launch p iss)

/-- Packets that waited for room go out, in order, while there is room (R455). -/
def State.unblock : Nat → State → State
  | 0, s => s
  | fuel + 1, s =>
    match s.fab.blocked with
    | [] => s
    | (p, i) :: rest =>
      if s.replayRoom p then unblock fuel ({ s with fab := { s.fab with blocked := rest } }.launch p i) else s

/-- Payload bytes of a message, for its packet's length (R437). -/
def Msg.bytes : Msg → Nat
  | .part m => min 1024 (32 + 64 * m.block.length)
  | .relay m => min 1024 (32 + 64 * m.block.length)
  | .partAnswer _ _ a => min 1024 (32 + 16 * a.results.length)
  | .commit _ _ ts => min 1024 (32 + 4 * ts.length)
  | .homeop .. => 128
  | _ => 32

/-- Send a message to one device in a class. To this device itself it goes through the ejection output. -/
def State.sendMsg (s : State) (dst : DevNo) (cls : Nat) (tenant : Tenant) (m : Msg) (boundary : Bool := false) : State :=
  let p := { Packet.make .msg cls s.device dst.toNat tenant with mlen := m.bytes, msg := some m }
  if dst = s.device then s.emit (.packet 8 p) else (s.sendPacket p none boundary).2

/-- Send a message to a multicast group. -/
def State.sendGroup (s : State) (g cls : Nat) (tenant : Tenant) (m : Msg) : State :=
  let p := { Packet.make .msg cls s.device g tenant with mcast := true, mlen := m.bytes, msg := some m }
  (s.sendPacket p none).2

/-- Send a packet that is in no flow (R452). -/
def State.sendLoose (s : State) (p : Packet) : State := s.out1 p

/-- The REPLY to a request: its status word in ADDR, its data (R458). -/
def State.sendReply (s : State) (p : Packet) (code : Code) (detail : Nat) (data : List Line) : State :=
  s.sendLoose { Packet.make .reply p.cls s.device p.src.toNat p.tenant with
    addr := s.statusWord p.tenant code detail, code := code, tag := p.tag, flowSeq := p.flowSeq, data := data,
    lines := data.length }

/-! ### Fences (R464 to R466) -/

/-- A fence's record. -/
def State.fence (s : State) (id : Nat) : Option Fence := (s.fab.fences.find? fun e => e.1 == id).map (·.2)

/-- One FENCE on a flow: to its destination, or one number of the flow for the copies to its members. A flow that lost a
posted packet, or a member that is unreachable, ends it DEAD (R462, R463). Answers the requests that are outstanding and
whether one ended DEAD. -/
def State.fenceFlow (s : State) (id : Nat) (f : TxFlow) : Nat × Bool × State :=
  let members := if f.flow.mcast then ((s.group f.flow.dst).map (·.members)).getD [] else [BitVec.ofNat 9 f.flow.dst]
  if f.lost then
    (0, true, members.foldl (fun s d => s.noteDead d 0 0) (s.setTx { f with lost := false, posted := none }))
  else match members.find? fun d => f.flow.mcast && s.unreachable d with
    | some d => (0, true, s.noteDead d 0 0)
    | none =>
      let (t, s) := s.newTag
      let p := { Packet.make .fence f.flow.cls s.device f.flow.dst 0 with
        mcast := f.flow.mcast, fenced := BitVec.ofNat 16 (f.posted.getD 0), mlen := 8, tag := t }
      match s.sendPacket p (some (.fence id)) with
      | (.sent, s) => (1, false, s)
      | (.dead, s) => (0, true, s)

/-- Start a store-complete fence of a class: a FENCE on every flow that holds posted packets not yet fenced (R464).
Answers the fence's number, whether it is complete already, and whether it is DEAD. -/
def State.startFence (s : State) (owner : FenceOwner) (classes : List Nat) : Nat × Bool × Bool × State :=
  let id := s.fab.nextFence
  let flows := s.fab.tx.filter fun f => classes.contains f.flow.cls && f.posted.isSome
  let s := { s with fab := { s.fab with nextFence := id + 1 } }
  let r := flows.foldl (fun (acc : Nat × Bool × State) f =>
    let (n, d, s) := acc.2.2.fenceFlow id f
    (acc.1 + n, acc.2.1 || d, s)) (0, false, s)
  if r.1 = 0 then (id, true, r.2.1, r.2.2)
  else
    (id, false, r.2.1, { r.2.2 with fab := { r.2.2.fab with
      fences := r.2.2.fab.fences.put id { owner := owner, waiting := r.1, dead := r.2.1 } } })

/-! ### Answers of several members (R740) -/

/-- Place of a code in the order of R740; DONE comes last. -/
def Code.order740 : Code → Nat
  | .dead => 0 | .poison => 1 | .denied => 2 | .revoked => 3 | .absent => 4 | .malformed => 5
  | .done => 100
  | c => 10 + c.num

/-- The one status of a request with several answers. -/
def joinAnswers (cs : List Code) : Code :=
  cs.foldl (fun best c => if c.order740 < best.order740 then c else best) .done

end Sys2Proof.Machine
end

