-- ==== Sys2Proof/Machine/Propose.lean ====
section
/-! DEFINITION. Proposing a change of the Thallus map to the ring's keepers (R533 to R537). -/
namespace Sys2Proof.Machine

/-- The ring's keepers in index order, as MAP_ROLE shows them (R533). -/
def State.keepers (s : State) : List DevNo :=
  [F.mapRole_keeper0X, F.mapRole_keeper1X, F.mapRole_keeper2X].map fun f => ringDev s.device (s.getF f)

/-- Is this device a keeper of its ring? -/
def State.isKeeper (s : State) : Bool := s.getF F.mapRole_keeper == 1

/-- A map record with nothing in it. -/
def MapRec.blank (kind : Nat) (holder taker : DevNo) (key : Word) : MapRec :=
  { kind := kind, state := 0, rehearsal := false, holder := holder, taker := taker, tenant := 0, key := key, epoch := 0,
    origin := 0, count := 0, commitWale := 0 }

/-- The operations of a PROPOSE (R536). -/
def opCreate : Nat := 1
/-- OFFER. -/
def opOffer : Nat := 2
/-- ACCEPT. -/
def opAccept : Nat := 3
/-- WITHDRAW. -/
def opWithdraw : Nat := 4
/-- SEIZE. -/
def opSeize : Nat := 5
/-- RETURN. -/
def opReturn : Nat := 6
/-- FATE. -/
def opFate : Nat := 7

/-- Propose a change to every keeper of the ring, and await its NOTICE (R534, R537). -/
def State.propose (s : State) (op : Nat) (r : MapRec) : State :=
  let s := s.keepers.foldl (fun s k => s.sendMsg k 0 0 (.propose op r)) s
  s.onMap fun m => { m with awaiting := m.awaiting ++ [r] }

/-- The fate record of a device: STATE, tracks judged (0: the whole device). -/
def fateRec (dev adopter : DevNo) (state tracks : Nat) (rehearsal : Bool) : MapRec :=
  { MapRec.blank 1 dev adopter (BitVec.ofNat 64 (dev.toNat + tracks % 65536 * 512)) with
    state := state, rehearsal := rehearsal }

end Sys2Proof.Machine
end

