-- ==== Sys2Proof/Machine/Cells.lean ====
section
/-! DEFINITION. The cells the engines share: registers, caches, queues, the start and the end of a kernel, traps and SRAM
errors (R164 to R168, R202 to R211, R223 to R226, R278). -/
namespace Sys2Proof.Machine

/-! ### Access -/

/-- A cell. -/
def State.cellAt (s : State) (c : Nat) : Cell := s.cell.cells.get c .fresh

/-- Replace a cell. -/
def State.setCell (s : State) (c : Nat) (v : Cell) : State := s.onCell fun x => { x with cells := x.cells.put c v }

/-- Change a cell. -/
def State.onCellAt (s : State) (c : Nat) (g : Cell → Cell) : State := s.setCell c (g (s.cellAt c))

/-- RUN values of CELL_STATE (R219). -/
def runUnallocated : Nat := 0
/-- IDLE. -/
def runIdle : Nat := 1
/-- RUNNING. -/
def runRunning : Nat := 2
/-- WAITING. -/
def runWaiting : Nat := 3
/-- OFF. -/
def runOff : Nat := 4

/-- RUN of a cell. -/
def State.cellRun (s : State) (c : Nat) : Nat := s.getF F.cellState_run c

/-- The cell's tenant. -/
def State.cellTenant (s : State) (c : Nat) : Tenant := BitVec.ofNat 8 (s.getF F.cellState_tenant c)

/-- A kernel runs on the cell and its scalar engine is not stalled. -/
def State.scalarFree (s : State) (c : Nat) : Bool := s.cellRun c == runRunning && (s.cellAt c).stall == .none

/-- What a fault record of a cell says. -/
def State.cellNote (s : State) (c : Nat) : Note :=
  { tenant := (s.cellTenant c).toNat, index := c, dieType := 1, die := c / 32 }

/-- An integer register; x0 reads zero. -/
def Cell.xr (v : Cell) (r : XReg) : Word := if r = 0 then 0 else v.x.get r.toNat 0

/-- Write an integer register; a write of x0 is discarded. -/
def Cell.setX (v : Cell) (r : XReg) (w : Word) : Cell := if r = 0 then v else { v with x := v.x.set r.toNat w 0 }

/-- The next instruction. -/
def Cell.step4 (v : Cell) : Cell := { v with pc := v.pc + 4 }

/-- An instruction of the extension retires: its destination is written and the pc moves on. -/
def State.retire (s : State) (c : Nat) (rd : XReg) (w : Word) : State := s.onCellAt c fun v => (v.setX rd w).step4

/-- Stall the scalar engine: the cell shows WAITING. -/
def State.stallCell (s : State) (c : Nat) (k : Stall) : State :=
  (s.onCellAt c fun v => { v with stall := k }).setF F.cellState_run c runWaiting

/-- The stall ends; the instruction retires. -/
def State.resume (s : State) (c : Nat) (rd : XReg) (w : Word) : State :=
  ((s.onCellAt c fun v => { (v.setX rd w).step4 with stall := .none })).setF F.cellState_run c runRunning

/-- The scalar data cache is emptied (R228). -/
def State.acquire (s : State) (c : Nat) : State := s.onCellAt c fun v => { v with dcache := [] }

/-! ### Writes to cell SRAM -/

/-- The scalar engine's own write: write-through, and a cached line follows it (R223). -/
def Cell.storeBytes (v : Cell) (off : Nat) (bs : List Byte) : Cell :=
  let sram := v.sram.setBytes off bs
  let lines := [off / 64, (off + bs.length - 1) / 64]
  { v with
    sram := sram
    dcache := v.dcache.map fun e =>
      if lines.contains e.1 then
        let old : Mem := Mem.setLine [] (64 * e.1) e.2 (BitVec.allOnes 64)
        (e.1, (Mem.setBytes old off bs).line (64 * e.1))
      else e }

/-- Bytes that another engine changes: the scalar data cache does not see it (R223). It ends an LR reservation on its
line. -/
def Cell.putBytes (v : Cell) (off : Nat) (bs : List Byte) : Cell :=
  let hit : Bool := match v.reservation with
    | none => false
    | some a => decide (off / 64 ≤ a / 64) && decide (a / 64 ≤ (off + bs.length - 1) / 64)
  { v with sram := v.sram.setBytes off bs, reservation := if hit then none else v.reservation }

/-- A plain write of another engine. A FLAG.WAITGE that waits on a flag it overwrites may see any value (R213). -/
def Cell.engineBytes (v : Cell) (off : Nat) (bs : List Byte) : Cell :=
  let v := v.putBytes off bs
  match v.stall with
  | .flagWait f t aq rd => if off < f + 8 ∧ f < off + bs.length then { v with stall := .flagOpen t aq rd } else v
  | _ => v

/-- An engine writes one line. -/
def Cell.engineLine (v : Cell) (off : Nat) (l : Line) : Cell := v.engineBytes off (leBytes 64 l.toNat)

/-- FLAG_BASE of a cell (R165, R219). -/
def State.flagBase (s : State) (c : Nat) : Nat := 65536 * s.getF F.cellLayout_flagBase64k c

/-- An engine's increment of flag `i` of a cell (R165, R231). A flag past the end of cell SRAM is not one of the cell's
bytes and nothing changes. -/
def State.addFlag (s : State) (c i : Nat) : State :=
  let off := s.flagBase c + 8 * i
  if inSram off 8 then
    s.onCellAt c fun v => v.putBytes off (leBytes 8 (v.sram.word off + 1).toNat)
  else s

/-! ### Queues (R202 to R205) -/

/-- Descriptors a queue holds: waiting ones and the one that runs. -/
def Channel.count (ch : Channel) : Nat := ch.q.items.length + (if ch.run.isSome then 1 else 0)

/-- A cell's queue by number: matrix 0, vector 1, mover channel ccc as 8 + ccc. -/
def Cell.queue (v : Cell) (q : Nat) : Queue :=
  if q = 0 then v.mq else if q = 1 then v.vq else (v.mv.get (q - 8) .fresh).q

/-- Replace a queue. -/
def Cell.setQueue (v : Cell) (q : Nat) (n : Queue) : Cell :=
  if q = 0 then { v with mq := n }
  else if q = 1 then { v with vq := n }
  else { v with mv := v.mv.put (q - 8) { v.mv.get (q - 8) .fresh with q := n } }

/-- Is the queue full (R164)? -/
def Cell.queueFull (v : Cell) (q : Nat) : Bool :=
  if q = 0 then decide (8 ≤ v.mq.items.length)
  else if q = 1 then decide (16 ≤ v.vq.items.length)
  else decide (16 ≤ (v.mv.get (q - 8) .fresh).count)

/-- Put a descriptor into a queue: its ticket. -/
def Queue.issue (q : Queue) (d : Line) : Nat × Queue :=
  (q.next, { q with next := (q.next + 1) % 65536, items := q.items ++ [(q.next, d)] })

/-- A ticket ends with a result word; the last 32,768 are kept (R205). -/
def Queue.finish (q : Queue) (t : Nat) (w : Word) : Queue :=
  { q with ended := (q.ended.filter fun e => e.1 != t).drop ((q.ended.length + 1) - 32768) ++ [(t, w)] }

/-- The result word of a ticket of queue `q`, once it has ended (R205). -/
def Cell.ticketResult (v : Cell) (q t : Nat) : Option Word :=
  let u := v.queue q
  let running : Bool := decide (8 ≤ q) && (match (v.mv.get (q - 8) .fresh).run with
    | some r => r.ticket == t && !r.orphan
    | none => false)
  if 32767 < (u.next + 131071 - t) % 65536 then some (resultWord 0 false false 0)
  else if running || u.items.any (fun e => e.1 == t) then none
  else some (((u.ended.find? fun e => e.1 == t).map (·.2)).getD (resultWord 0 false false 0))

/-- Has every descriptor of the cell ended (R230)? -/
def Cell.quiet (v : Cell) : Bool :=
  v.mq.items.isEmpty && v.vq.items.isEmpty && v.mv.all fun e => e.2.q.items.isEmpty && (match e.2.run with
    | some r => r.orphan
    | none => true)

/-! ### Kernels (R209 to R211, R278) -/

/-- The first status that is not DONE stays (R279). -/
def firstStatus (a b : Code) : Code := if a = .done then b else a

/-- A kernel of a track's step has ended on a cell. -/
def TrackRun.cellEnded (r : TrackRun) (c : Nat) (code : Code) : TrackRun :=
  let runs (o : OpenStep) : Bool := o.kind != .stream && o.kind != .search && o.cells.contains c
  let ends (o : OpenStep) : OpenStep := { o with cells := o.cells.filter (· != c), status := firstStatus o.status code }
  { r with open_ := updWhere runs ends r.open_ }

/-- The kernel of a cell ends with a status (R211): queued descriptors are discarded, running ones end as they would
have, the cell becomes IDLE. -/
def State.kernelEnd (s : State) (c : Nat) (code : Code) : State :=
  let v := s.cellAt c
  let s := s.setCell c { v with
    stall := .none, mq := { v.mq with items := [] }, vq := { v.vq with items := [] }, track := none,
    mv := v.mv.map fun e => (e.1, { e.2 with
      q := { e.2.q with items := [] }, run := e.2.run.map fun r => { r with orphan := true } }) }
  let s := ((s.setF F.cellState_kernel c 0).setF F.cellState_priv c 0).setF F.cellState_run c runIdle
  match v.track with
  | none => s
  | some t => s.onSched fun x => { x with runs := match x.runs.find? fun e => e.1 == t with
      | none => x.runs
      | some (_, r) => x.runs.put t (r.cellEnded c code) }

/-- A kernel ends by an exception or a bad ECALL (R211). -/
def State.trap (s : State) (c cause : Nat) : State :=
  let n := s.cellNote c
  let w := pack [(0, cause % 256), (8, (s.cellAt c).pc.toNat % 2 ^ 23), (31, s.getF F.cellState_kernel c)]
  let s := s.setReg (F.cellLastTrap_cause.off c) (BitVec.ofNat 64 w)
  let s := (s.addF F.cellTrapCount_count 0 1).flag F.cellStatus_trap { n with arg := BitVec.ofNat 64 cause }
  s.kernelEnd c .aborted

/-- A hardware fault of a track (R278): the track is FAILED, and the device reports it itself (R551).
Nobody can adopt an adopted track: its verdict names the adopter as holder and as taker. -/
def State.trackFault (s : State) (t : Nat) (injected : Bool := false) : State :=
  match s.sched.runs.find? fun e => e.1 == t with
  | none => s
  | some (_, r) =>
    if r.failed then s
    else
      let s := s.onSched fun x => { x with runs := x.runs.put t { r with failed := true, open_ := [] } }
      let tn := ((s.sched.tracks.find? fun e => e.1 == t).map fun e => e.2.tenant.toNat).getD 0
      let s := s.flag F.schedStatus_peerFailed { tenant := tn, index := t }
      s.propose opFate (fateRec s.device (if t < 16 then partnerOf s.device else s.device) 1 (2 ^ (t % 16)) injected)

/-- An engine reads an uncorrectable word of cell SRAM (R168): the kernel ends POISON; in a scheduled step it is a
hardware fault of the track and the cell goes OFF (R278). -/
def State.sramUe (s : State) (c : Nat) : State :=
  let n := s.cellNote c
  let t := (s.cellAt c).track
  let s := (s.kernelEnd c .poison).flag F.cellStatus_sramUe n
  match t with
  | none => s
  | some t => (s.setF F.cellState_run c runOff).trackFault t

/-- Before a cell is given to another tenant (R166). -/
def State.clearCell (s : State) (c : Nat) : State := s.setCell c .fresh

/-- A kernel starts on a cell (R166, R210): the accumulator is cleared and every queue emptied; tickets start at 0
(assumption 13). Running descriptors of an ended kernel stay. -/
def State.kernelStart (s : State) (c : Nat) (k : Kernel) (argOff : Nat) (arg : Option Line) (track : Option Nat) : State :=
  let v := s.cellAt c
  let v := match arg with
    | some l => v.engineLine argOff l
    | none => v
  let x : Table Word := [(2, BitVec.ofNat 64 (s.flagBase c)), (10, BitVec.ofNat 64 argOff), (11, BitVec.ofNat 64 c),
    (12, (s.cellTenant c).setWidth 64)].filter fun e => e.2 != 0
  let s := s.setCell c { v with
    x := x, f := [], fcsr := 0, pc := BitVec.ofNat 64 (k.codeOffset + k.entry), reservation := none, stall := .none,
    mq := .fresh, vq := .fresh, acc := [], accShape := none, track := track,
    mv := v.mv.map fun e => (e.1, { e.2 with q := .fresh, run := e.2.run.map fun r => { r with orphan := true } }) }
  ((s.setF F.cellState_kernel c k.id).setF F.cellState_priv c k.priv.toNat).setF F.cellState_run c runRunning

/-- The kernel table entry that may run on a tenant's cells. -/
def State.kernelFor (s : State) (id : Nat) (t : Tenant) : Option Kernel :=
  s.cell.kernels.find? fun k => k.id == id && (k.anyTenant || k.tenant == t)

/-- A matrix, vector or mover descriptor ended MALFORMED: the status bit (R216). -/
def State.noteMalformed (s : State) (c : Nat) : State := s.flag F.cellStatus_descMalformed (s.cellNote c)

end Sys2Proof.Machine
end

