-- ==== Sys2Proof/Machine/Codec.lean ====
section
/-! DEFINITION. Check values (R618) and the stored image: its header and the decoding of its body (R63, R74 to R79). -/
namespace Sys2Proof.Machine

/-! ### CRCs (R618) -/

/-- One bit of a reflected CRC. -/
def crcBit {w : Nat} (poly c : BitVec w) : BitVec w := if c.getLsbD 0 then (c >>> 1) ^^^ poly else c >>> 1

/-- One byte of a reflected CRC. -/
def crcByte {w : Nat} (poly c : BitVec w) (b : Byte) : BitVec w :=
  (List.range 8).foldl (fun c _ => crcBit poly c) (c ^^^ b.setWidth w)

/-- CRC-64/NVME: 0xAD93_D235_94C9_3659, reflected. -/
def crc64 (bs : List Byte) : BitVec 64 :=
  bs.foldl (crcByte 0x9A6C9329AC4BC9B5#64) (BitVec.allOnes 64) ^^^ BitVec.allOnes 64

/-- CRC-32C: 0x1EDC_6F41, reflected. -/
def crc32c (bs : List Byte) : BitVec 32 :=
  bs.foldl (crcByte 0x82F63B78#32) (BitVec.allOnes 32) ^^^ BitVec.allOnes 32

/-- One byte of the flit CRC-16 (0x8BB7, not reflected). -/
def crc16Byte (c : BitVec 16) (b : Byte) : BitVec 16 :=
  (List.range 8).foldl (fun c _ => if c.getLsbD 15 then (c <<< 1) ^^^ 0x8BB7#16 else c <<< 1)
    (c ^^^ (b.setWidth 16 <<< 8))

/-- The flit CRC-16. -/
def crc16 (bs : List Byte) : BitVec 16 := bs.foldl crc16Byte 0

/-! ### Bytes of a memory -/

/-- The memory that holds a byte list from address 0, listing no zero. -/
def memOf (bs : List Byte) : Mem := (bs.zipIdx.filter fun e => e.1 != 0).map fun e => (e.2, e.1)

/-- A little-endian number of `n` bytes at `i`. -/
def numAt (bs : List Byte) (i n : Nat) : Nat := leNat ((bs.drop i).take n)

/-! ### rANS planes (R77 to R79) -/

/-- The symbol whose slot range holds `slot`, with its cumulative frequency and frequency. -/
def ransSymbol (slot : Nat) : List Nat → Nat → Nat → Option (Nat × Nat × Nat)
  | [], _, _ => none
  | f :: fs, sym, c => if c ≤ slot ∧ slot < c + f then some (sym, c, f) else ransSymbol slot fs (sym + 1) (c + f)

/-- A lane as it decodes: its state, its unread words. -/
abbrev Lane := Nat × List Nat

/-- One symbol from a lane (R78); none when the lane needs a word it does not have. -/
def ransStep (freq : List Nat) (l : Lane) : Option (Nat × Lane) :=
  match ransSymbol (l.1 % 4096) freq 0 0 with
  | none => none
  | some (sym, c, f) =>
    let x := f * (l.1 / 4096) + l.1 % 4096 - c
    if x < 65536 then
      match l.2 with
      | [] => none
      | w :: ws => some (sym, (x * 65536 + w, ws))
    else some (sym, (x, l.2))

/-- Symbols from the lanes in turn, lane i mod 32 for symbol i. `done` holds the lanes already served in this round. -/
def ransRun (freq : List Nat) : Nat → List Lane → List Lane → List Nat → Option (List Lane × List Nat)
  | 0, todo, done, out => some (done.reverse ++ todo, out.reverse)
  | n + 1, [], done, out =>
    match done.reverse with
    | [] => none
    | l :: ls => match ransStep freq l with
      | none => none
      | some (sym, l') => ransRun freq n ls [l'] (sym :: out)
  | n + 1, l :: ls, done, out =>
    match ransStep freq l with
    | none => none
    | some (sym, l') => ransRun freq n ls (l' :: done) (sym :: out)

/-- Split a word list into lanes by length. -/
def ransLanes : List Nat → List Nat → List (List Nat)
  | [], _ => []
  | n :: ns, ws => ws.take n :: ransLanes ns (ws.drop n)

/-- 16-bit words of a byte list. -/
def words16 : List Byte → List Nat
  | a :: b :: r => leNat [a, b] :: words16 r
  | _ => []

/-- Decode one coded plane of `n` symbols of an alphabet of `k` at the head of `body`: the symbols and the rest of the
body; none when the plane is malformed (R79). -/
def decodePlane (k n : Nat) (body : List Byte) : Option (List Nat × List Byte) :=
  let freq := (List.range k).map fun i => numAt body (2 * i) 2
  let lens := (List.range 32).map fun i => numAt body (2 * k + 4 * i) 4
  let states := (List.range 32).map fun i => numAt body (2 * k + 128 + 4 * i) 4
  let words := lens.sum
  let size := 2 * k + 256 + 2 * words
  if body.length < size ∨ freq.sum ≠ 4096 ∨ states.any (fun x => decide (x < 65536)) then none
  else
    let lanes := states.zip (ransLanes lens (words16 ((body.drop (2 * k + 256)).take (2 * words))))
    match ransRun freq n lanes [] [] with
    | none => none
    | some (ls, out) => if ls.all fun l => l.2.isEmpty then some (out, body.drop size) else none

/-- Decode `p` planes of `n` symbols each. -/
def decodePlanes (n : Nat) : Nat → List Byte → Option (List (List Nat) × List Byte)
  | 0, body => some ([], body)
  | p + 1, body =>
    match decodePlane 256 n body with
    | none => none
    | some (pl, rest) => match decodePlanes n p rest with
      | none => none
      | some (pls, rest) => some (pl :: pls, rest)

/-- Interleave byte planes into elements: byte p of every element from plane p. -/
def interleave (planes : List (List Nat)) (n : Nat) : List Byte :=
  (List.range n).flatMap fun i => planes.map fun pl => BitVec.ofNat 8 (pl.getD i 0)

/-- Bytes from nibbles, low nibble first. -/
def packNibbles : List Nat → List Byte
  | a :: b :: r => BitVec.ofNat 8 (a + 16 * b) :: packNibbles r
  | _ => []

/-- The payload of a body under its codec (R76); none when it does not decode. -/
def decodeBody (codec elem rawTail : Nat) (body : List Byte) : Option (List Byte) :=
  match codec with
  | 0 => if body.length = 262144 then some body else none
  | 1 => if body.isEmpty then some (List.replicate 262144 0) else none
  | 2 =>
    match decodePlanes (262144 / 2 ^ elem) (2 ^ elem) body with
    | some (pls, []) => some (interleave pls (262144 / 2 ^ elem))
    | _ => none
  | 3 =>
    match decodePlane 16 (2 * (262144 - rawTail)) body with
    | some (ns, rest) => if rest.length = rawTail then some (packNibbles ns ++ rest) else none
    | none => none
  | _ => none

/-! ### The header (R74) -/

/-- A stored image header's fields. -/
structure ImageHeader where
  codec : Nat
  format : Nat
  kind : Nat
  elem : Nat
  reserved : Nat
  bodyLen : Nat
  payloadCrc : Nat
  sealAddr : Nat
  sealWale : Nat
  tenant : Nat
  version : Nat
  rawTail : Nat
  bodyCrc : Nat
  hdrCrc : Nat
  deriving DecidableEq, Repr

/-- Read a header from its 64 bytes. `reserved` gathers every reserved field. -/
def readHeader (h : List Byte) : ImageHeader :=
  { codec := numAt h 0 1, format := numAt h 1 1, kind := numAt h 2 1, elem := numAt h 3 1 % 4,
    reserved := numAt h 3 1 / 4 + numAt h 31 1 + numAt h 44 4 + numAt h 48 8,
    bodyLen := numAt h 4 4, payloadCrc := numAt h 8 8, sealAddr := numAt h 16 8, sealWale := numAt h 24 6,
    tenant := numAt h 30 1, version := numAt h 32 8, rawTail := numAt h 40 4, bodyCrc := numAt h 56 4,
    hdrCrc := numAt h 60 4 }

/-- The header checks of R63 that need no body. -/
def ImageHeader.ok (h : ImageHeader) (hdr : List Byte) : Bool :=
  h.hdrCrc == (crc32c (hdr.take 60)).toNat && decide (h.codec ≤ 3) && h.format == 1 && decide (h.kind ≤ 4) &&
    (if h.codec = 2 then decide (h.elem ≤ 2) else h.elem == 0) &&
    (if h.codec = 3 then decide (h.rawTail ≤ 262144) else h.rawTail == 0) &&
    h.sealAddr % 262144 == 0 && h.reserved == 0 && decide (h.bodyLen ≤ 262144) &&
    (if h.codec = 0 then h.bodyLen == 262144 else if h.codec = 1 then h.bodyLen == 0 else true)

/-- The payload of a stored image that passes every check of R63; none when one fails. -/
def importPayload (hdr body : List Byte) : Option (ImageHeader × List Byte) :=
  let h := readHeader hdr
  if h.ok hdr && h.bodyCrc == (crc32c body).toNat then
    match decodeBody h.codec h.elem h.rawTail body with
    | none => none
    | some p => if h.payloadCrc = (crc64 p).toNat then some (h, p) else none
  else none

end Sys2Proof.Machine
end

