-- ==== Sys2Proof/Machine/Tier.lean ====
section
/-! DEFINITION. The tiers: frames and their accounting, victims, sector pools, T2 runs and the seal catalogue, seals,
promotions and sinks (R49 to R122, R584 to R586). -/
namespace Sys2Proof.Machine

/-! ### Blocks -/

/-- The block table's entry (R52). -/
def State.blk (s : State) (b : Nat) : Block := s.tier.blocks.get b .fresh

/-- Set the block table's entry. -/
def State.setBlk (s : State) (b : Nat) (e : Block) : State := s.onTier fun t => { t with blocks := t.blocks.put b e }

/-- The bytes of a live block, from its first. -/
def State.blockMem (s : State) (b : Nat) : Mem := s.mem.slice (b * blockBytes) ((b + 1) * blockBytes)

/-- Is the block number below TIER_STORE_SIZE (R52)? -/
def State.hasBlock (s : State) (b : Nat) : Bool := decide ((b + 1) * blockBytes ≤ s.storeSize)

/-- Report an event of the tiers. -/
def State.tierEvent (s : State) (e : TierEvent) : State := s.onTier fun t => { t with events := t.events ++ [e] }

/-- Let work run before the command is over. -/
def State.makeReady (s : State) (ws : List AllocWork) : State := s.onTier fun t => { t with ready := t.ready ++ ws }

/-! ### Frames and their accounting (R97 to R100, TIER_FREE, TIER_RESV_USED) -/

/-- The free-frame field of a tier. -/
def freeF : Tier → Fld
  | .t0 => F.tierFree_t0Free | .t1 => F.tierFree_t1Free
/-- The used field of a tier. -/
def usedF : Tier → Fld
  | .t0 => F.tierResvUsed_t0Used | .t1 => F.tierResvUsed_t1Used
/-- The limit field of a tier. -/
def limitF : Tier → Fld
  | .t0 => F.tierResvLimit_t0Limit | .t1 => F.tierResvLimit_t1Limit

/-- The other live tier. -/
def Tier.other : Tier → Tier
  | .t0 => .t1 | .t1 => .t0

/-- Give a frame back. -/
def State.giveFrames (s : State) (t : Tier) (n : Nat) : State := s.addF (freeF t) 0 n

/-- Take frames that are free. -/
def State.takeFrames (s : State) (t : Tier) (n : Nat) : State := s.setF (freeF t) 0 (s.getF (freeF t) - n)

/-- A reservation. -/
def State.resv (s : State) (r : Nat) : Option Reservation :=
  (s.tier.reservations.find? fun e => e.1 == r).map (·.2)

/-- Frames of a reservation still to draw. -/
def Reservation.left (r : Reservation) : Tier → Nat
  | .t0 => r.t0 - r.drawn0 | .t1 => r.t1 - r.drawn1

/-- Draw frames of a reservation, or give them back. -/
def Reservation.draw (r : Reservation) (t : Tier) (n : Int) : Reservation :=
  match t with
  | .t0 => { r with drawn0 := (r.drawn0 + n).toNat } | .t1 => { r with drawn1 := (r.drawn1 + n).toNat }

/-- Set a reservation. -/
def State.setResv (s : State) (r : Nat) (v : Reservation) : State :=
  s.onTier fun t => { t with reservations := t.reservations.put r v }

/-- Shared-pool mode (R102). -/
def State.poolMode (s : State) : Bool := s.getF F.tierMode_pool == 1

/-- May one live frame more be counted: to a reservation that has one left (R99), or to the tenant while both its
conditions of R97 hold (R98)? -/
def State.mayCount (s : State) (tn : Tenant) (t : Tier) (resv : Option Nat) : Bool :=
  match resv with
  | some r => match s.resv r with
    | some v => decide (0 < v.left t)
    | none => false
  | none => s.poolMode ||
    (decide (s.getF (usedF t) tn.toNat + 1 ≤ s.act (limitF t) tn.toNat) &&
      decide (s.getF (usedF t.other) tn.toNat ≤ s.act (limitF t.other) tn.toNat))

/-- Count one live frame to a reservation or to its tenant. -/
def State.countFrame (s : State) (tn : Tenant) (t : Tier) (resv : Option Nat) : State :=
  match resv with
  | some r => match s.resv r with
    | some v => s.setResv r (v.draw t 1)
    | none => s
  | none => s.addF (usedF t) tn.toNat 1

/-- Take one live frame out of the count. -/
def State.uncountFrame (s : State) (tn : Tenant) (t : Tier) (resv : Option Nat) : State :=
  match resv with
  | some r => match s.resv r with
    | some v => s.setResv r (v.draw t (-1))
    | none => s
  | none => s.setF (usedF t) tn.toNat (s.getF (usedF t) tn.toNat - 1)

/-- Admit a reservation (R97); none when it does not fit. In shared-pool mode none is checked or kept (R102). -/
def State.reserve (s : State) (tn : Tenant) (t0 t1 : Nat) : Option (Option Nat × State) :=
  if s.poolMode then some (none, s)
  else
    let sum (f : Fld) : Nat := ((List.range 256).map fun n => s.getF f n).sum
    if s.getF F.tierResvUsed_t0Used tn.toNat + t0 ≤ s.act F.tierResvLimit_t0Limit tn.toNat ∧
        s.getF F.tierResvUsed_t1Used tn.toNat + t1 ≤ s.act F.tierResvLimit_t1Limit tn.toNat ∧
        sum F.tierResvUsed_t0Used + t0 ≤ s.code.frames.1 ∧ sum F.tierResvUsed_t1Used + t1 ≤ s.code.frames.2 then
      let s := (s.addF F.tierResvUsed_t0Used tn.toNat t0).addF F.tierResvUsed_t1Used tn.toNat t1
      let r : Reservation := { tenant := tn, t0 := t0, t1 := t1, drawn0 := 0, drawn1 := 0, ended := false }
      let id := s.tier.nextResv
      some (some id, s.onTier fun t => { t with reservations := t.reservations.put id r, nextResv := id + 1 })
    else none

/-- Release a reservation (R100): live frames stay counted to the tenant, copies to nobody. -/
def State.releaseResv (s : State) (id : Nat) : State :=
  match s.resv id with
  | none => s
  | some r =>
    let s := s.setF F.tierResvUsed_t0Used r.tenant.toNat (s.getF F.tierResvUsed_t0Used r.tenant.toNat - r.t0)
    let s := s.setF F.tierResvUsed_t1Used r.tenant.toNat (s.getF F.tierResvUsed_t1Used r.tenant.toNat - r.t1)
    let s := s.onTier fun t => { t with reservations := t.reservations.del id }
    s.tier.blocks.foldl (fun s e =>
      if e.2.resv = some id then
        let s := if e.2.state = .live ∨ e.2.state = .migrating ∨ e.2.state = .sealing then
            s.countFrame e.2.tenant e.2.liveTier none else s
        s.setBlk e.1 { e.2 with resv := none }
      else s) s

/-! ### Sector pools (R51) -/

/-- Frames of a pool of `n` sectors, 64 sectors to a frame, packed without gaps (assumption 10). -/
def poolFrames (n : Nat) : Nat := (n + 63) / 64

/-- Sectors in use in a tier's pool. -/
def State.pool (s : State) : Tier → Nat
  | .t0 => s.tier.pool0 | .t1 => s.tier.pool1

/-- Set the sectors in use in a tier's pool. -/
def State.setPool (s : State) (t : Tier) (n : Nat) : State :=
  s.onTier fun x => match t with
    | .t0 => { x with pool0 := n } | .t1 => { x with pool1 := n }

/-- Free a sector run; frames that empty return to the free frames. -/
def State.freeRun (s : State) (t : Tier) (n : Nat) : State :=
  let old := s.pool t
  (s.setPool t (old - n)).giveFrames t (poolFrames old - poolFrames (old - n))

/-! ### Copies of a sealed block (R66, R67) -/

/-- The copy state in a tier. -/
def Block.copy (e : Block) : Tier → CopyState
  | .t0 => e.t0 | .t1 => e.t1

/-- Set the copy state in a tier. -/
def Block.setCopy (e : Block) (t : Tier) (c : CopyState) : Block :=
  match t with
  | .t0 => { e with t0 := c } | .t1 => { e with t1 := c }

/-- Readers in flight on a copy. -/
def Block.readers (e : Block) : Tier → Nat
  | .t0 => e.readers0 | .t1 => e.readers1

/-- The image bound to a block. -/
def State.image (s : State) (e : Block) : Option Image :=
  e.image.bind fun i => (s.tier.images.find? fun x => x.1 == i).map (·.2)

/-- Is a tier's copy an expanded frame? Only a T0 copy that is not packed is. -/
def Block.expanded (e : Block) (t : Tier) : Bool := t == .t0 && !e.t0Packed

/-- Work that waits for a victim may run again (R104). -/
def State.wakeVictim (s : State) (b : Nat) : State :=
  let ws := (s.tier.allocWaits.filter fun w => w.1 == b).map (·.2)
  (s.onTier fun t => { t with allocWaits := t.allocWaits.filter fun w => w.1 != b }).makeReady ws

/-- Free the space of a copy and set it to NONE. -/
def State.dropCopy (s : State) (b : Nat) (t : Tier) : State :=
  let e := s.blk b
  if e.copy t = .none then s
  else
    let s :=
      if e.expanded t then
        let s := s.giveFrames .t0 1
        match e.resv with
        | some r => s.uncountFrame e.tenant .t0 (some r)
        | none => s
      else s.freeRun t (((s.image e).map (·.sectors)).getD 0)
    let e := e.setCopy t .none
    let e := if t = .t0 then { e with t0Packed := false, readers0 := 0, resv := none } else { e with readers1 := 0 }
    (s.setBlk b e).wakeVictim b

/-- The last reader of a copy is done: a SINKING copy becomes NONE (R67). -/
def State.readersDone (s : State) (b : Nat) (t : Tier) : State :=
  let e := s.blk b
  let e := match t with
    | .t0 => { e with readers0 := 0 } | .t1 => { e with readers1 := 0 }
  let s := s.setBlk b e
  if e.copy t = .sinking then s.dropCopy b t else s

/-- One reader more, or less, is in flight on a copy. -/
def State.addReader (s : State) (b : Nat) (t : Tier) : State :=
  let e := s.blk b
  s.setBlk b (match t with
    | .t0 => { e with readers0 := e.readers0 + 1 } | .t1 => { e with readers1 := e.readers1 + 1 })

/-- A reader of a copy is done. -/
def State.endReader (s : State) (b : Nat) (t : Tier) : State :=
  let e := s.blk b
  if e.readers t ≤ 1 then s.readersDone b t
  else s.setBlk b (match t with
    | .t0 => { e with readers0 := e.readers0 - 1 } | .t1 => { e with readers1 := e.readers1 - 1 })

/-- A read or a PROMOTE cancels a sink; an allocation that waited for the copy takes the next candidate (R72, R104). -/
def State.cancelSink (s : State) (b : Nat) (t : Tier) : State :=
  if (s.blk b).copy t = .sinking then
    ((s.setBlk b ((s.blk b).setCopy t .held)).addF F.tierSinkCancelCount_count 0 1).wakeVictim b
  else s

/-! ### Victims (R69, R103, R104) -/

/-- A victim candidate: age, 0 for a copy and 1 for a live block, block number. -/
abbrev Cand := Nat × Nat × Nat

/-- Is the block some waiting allocation's victim already? -/
def State.isVictim (s : State) (b : Nat) : Bool := s.tier.allocWaits.any fun w => w.1 == b

/-- The candidates of a tier, those in `tried` left out. -/
def State.victims (s : State) (t : Tier) (tried : List Nat) : List Cand :=
  s.tier.blocks.filterMap fun (b, e) =>
    let age := e.lastWale.toNat / 2 ^ s.act F.tierMode_ageShift
    if tried.contains b || s.isVictim b then none
    else if e.state = .sealed ∧ e.copy t = .held ∧ e.cow = none then
      if t = .t0 ∧ (e.resv ≠ none ∨ e.window) then none else some (age, 0, b)
    else if e.state = .live ∧ t = .t0 ∧ e.liveTier = .t0 ∧ e.resv = none then some (age, 1, b)
    else none

/-- Does candidate `a` go before `b` (R103)? -/
def candBefore (a b : Cand) : Bool :=
  decide (a.1 < b.1) || (a.1 == b.1 && (decide (a.2.1 < b.2.1) || (a.2.1 == b.2.1 && decide (a.2.2 < b.2.2))))

/-- The victim R103 chooses. -/
def State.victim (s : State) (t : Tier) (tried : List Nat) : Option Cand :=
  (s.victims t tried).foldl (fun best c => match best with
    | none => some c
    | some b => if candBefore c b then some c else some b) none

/-- How an allocation ends. -/
inductive Got where
  | frame (s : State)
  | wait (s : State) (victim : Nat)
  | quota (s : State)

/-- A copy taken as a victim: NONE at once without readers, else SINKING (R104). Whether its space is free now. -/
def State.evictCopy (s : State) (b : Nat) (t : Tier) : Bool × State :=
  let s := s.addF F.tierEvictCount_count 0 1
  if (s.blk b).readers t = 0 then (true, s.dropCopy b t)
  else (false, s.setBlk b ((s.blk b).setCopy t .sinking))

/-- A T1 frame at once: a free one, or those of victims without readers (for the migration of a T0 victim, R104). -/
def State.allocT1 : Nat → State → List Nat → Option State
  | 0, _, _ => none
  | fuel + 1, s, tried =>
    if 0 < s.getF (freeF .t1) then some (s.takeFrames .t1 1)
    else match s.victim .t1 tried with
      | none => none
      | some (_, _, b) =>
        if (s.blk b).readers1 = 0 then allocT1 fuel (s.evictCopy b .t1).2 tried else allocT1 fuel s (b :: tried)

/-- A live T0 victim starts towards T1; none when it cannot have a T1 frame (R104). -/
def State.evictLive (s : State) (b : Nat) : Option State :=
  let e := s.blk b
  if s.mayCount e.tenant .t1 none then
    match State.allocT1 (s.tier.blocks.length + 1) s [] with
    | none => none
    | some s =>
      let s := (s.countFrame e.tenant .t1 none).addF F.tierEvictCount_count 0 1
      some (s.setBlk b { s.blk b with state := .migrating })
  else none

/-- One frame of a tier: a free one, or a victim's (R101 to R104). -/
def State.allocFrame : Nat → State → Tier → List Nat → Got
  | 0, s, _, _ => .quota s
  | fuel + 1, s, t, tried =>
    if 0 < s.getF (freeF t) then .frame (s.takeFrames t 1)
    else match s.victim t tried with
      | none => .quota s
      | some (_, 0, b) =>
        match s.evictCopy b t with
        | (true, s) => allocFrame fuel s t tried
        | (false, s) => .wait s b
      | some (_, _, b) =>
        match s.evictLive b with
        | some s => .wait s b
        | none => allocFrame fuel s t (b :: tried)

/-- One frame of a tier. -/
def State.alloc (s : State) (t : Tier) : Got := State.allocFrame (2 * s.tier.blocks.length + 2) s t []

/-- Frames for a sector run, one after another; a failure gives the frames back. -/
def State.allocRunFrames : Nat → Nat → State → Tier → Got
  | 0, _, s, _ => .frame s
  | n + 1, got, s, t =>
    match s.alloc t with
    | .frame s => allocRunFrames n (got + 1) s t
    | .wait s b => .wait (s.giveFrames t got) b
    | .quota s => .quota (s.giveFrames t got)

/-- A run of `n` sectors of a tier's pool. -/
def State.allocRun (s : State) (t : Tier) (n : Nat) : Got :=
  let need := poolFrames (s.pool t + n) - poolFrames (s.pool t)
  match State.allocRunFrames need 0 s t with
  | .frame s => .frame (s.setPool t (s.pool t + n))
  | g => g

/-! ### T2 runs and the seal catalogue (R75, R82 to R84, R584 to R586) -/

/-- Sectors of a stored image (R75). -/
def imageSectors (bodyLen : Nat) : Nat := (64 + bodyLen + 4095) / 4096

/-- The lowest start of a free run of `n` sectors from `at_` up to `hi`, between the runs in use. -/
def freeRunIn (n at_ hi : Nat) : List (Nat × Nat) → Option Nat
  | [] => if at_ + n ≤ hi then some at_ else none
  | (st, len) :: r => if at_ + n ≤ st then some at_ else freeRunIn n (st + len) hi r

/-- First mapped sector of a drive: past the catalogue (R82). -/
def firstLba : Nat := 262144

/-- Mark a run as in use. -/
def useRun (st n : Nat) : List (Nat × Nat) → List (Nat × Nat)
  | [] => [(st, n)]
  | (a, l) :: r => if st < a then (st, n) :: (a, l) :: r else (a, l) :: useRun st n r

/-- A drive by number. -/
def State.drive (s : State) (d : Nat) : Option Drive := s.tier.drives[d]?

/-- Set a drive. -/
def State.setDrive (s : State) (d : Nat) (v : Drive) : State := s.onTier fun t => { t with drives := t.drives.set d v }

/-- A run for an image of block `b` (R83): drive and first LBA. -/
def State.allocT2 (s : State) (b n : Nat) : Option (Nat × Nat × State) :=
  let count := s.tier.drives.length
  let find := (List.range count).findSome? fun k =>
    let d := (b + k) % count
    match s.drive d with
    | none => none
    | some v => if v.lost then none else (freeRunIn n firstLba (firstLba + v.sectors) v.used).map fun st => (d, st, v)
  find.map fun (d, st, v) =>
    (d, st, (s.setDrive d { v with used := useRun st n v.used }).setF F.tierT2Free_t2Free 0
      (s.getF F.tierT2Free_t2Free - n))

/-- Free an image's run: deallocated (R83); the free sectors of a lost drive are not counted (R84). -/
def State.freeT2 (s : State) (d st n : Nat) : State :=
  match s.drive d with
  | none => s
  | some v =>
    let s := s.setDrive d { v with used := v.used.filter fun r => r.1 != st }
    if v.lost then s else s.addF F.tierT2Free_t2Free 0 n

/-- Entries that a half of a catalogue holds: 131,072 LBAs of 128 entries (R584, R586). -/
def catHalf : Nat := 16777216

/-- The half of a catalogue that is in use. -/
def Catalogue.log (c : Catalogue) : List CatEntry := if c.second then c.half1 else c.half0

/-- Compact a drive's catalogue into its other half (R586). -/
def State.compact (s : State) (d : Nat) : State :=
  let c := s.weave.cats.get d .fresh
  let live := s.tier.blocks.filterMap fun (b, e) =>
    (s.image e).bind fun i => if i.drive = d then some (b, i) else none
  let first := s.weave.catSeq
  let binds := live.zipIdx.map fun ((b, i), k) =>
    ({ block := b, op := 1, sectors := i.sectors, lba := i.start, seq := first + k } : CatEntry)
  let mark : CatEntry := { block := 0, op := 3, sectors := 0, lba := first % 2 ^ 48, seq := first + binds.length }
  let log := binds ++ [mark]
  let c := if c.second then { c with half0 := log, second := false, compacting := false }
    else { c with half1 := log, second := true, compacting := false }
  s.onWeave fun w => { w with cats := w.cats.put d c, catSeq := first + log.length }

/-- Append a catalogue entry to the drive of an image; a full half is compacted first (R584, R585). -/
def State.catAppend (s : State) (d b op sectors lba : Nat) : State :=
  let s := if catHalf ≤ (s.weave.cats.get d .fresh).log.length then s.compact d else s
  let c := s.weave.cats.get d .fresh
  let e : CatEntry := { block := b, op := op, sectors := sectors, lba := lba, seq := s.weave.catSeq }
  let c := if c.second then { c with half1 := c.half1 ++ [e] } else { c with half0 := c.half0 ++ [e] }
  s.onWeave fun w => { w with cats := w.cats.put d c, catSeq := w.catSeq + 1 }

/-! ### Stored images (R60) -/

/-- Put an image record. -/
def State.setImage (s : State) (i : Nat) (v : Image) : State := s.onTier fun t => { t with images := t.images.put i v }

/-- A new image record's number. -/
def State.newImage (s : State) (v : Image) : Nat × State :=
  (s.tier.nextImage, s.onTier fun t => { t with images := t.images.put t.nextImage v, nextImage := t.nextImage + 1 })

/-- An image by number. -/
def State.imageAt (s : State) (i : Nat) : Option Image := (s.tier.images.find? fun x => x.1 == i).map (·.2)

/-- Drop one reference of an image; at zero its sectors are freed (R60). -/
def State.dropRef (s : State) (i : Nat) : State :=
  match s.imageAt i with
  | none => s
  | some v =>
    if v.refs ≤ 1 then (s.freeT2 v.drive v.start v.sectors).onTier fun t => { t with images := t.images.del i }
    else s.setImage i { v with refs := v.refs - 1 }

/-- Bind an image to a block number: the catalogue entry, the reference. -/
def State.bindImage (s : State) (b i : Nat) : State :=
  match s.imageAt i with
  | none => s
  | some v =>
    let s := s.setImage i { v with refs := v.refs + 1 }
    let s := s.setBlk b { s.blk b with image := some i }
    s.catAppend v.drive b 1 v.sectors v.start

/-- Unbind a block's image. -/
def State.unbindImage (s : State) (b : Nat) : State :=
  match (s.blk b).image with
  | none => s
  | some i =>
    let s := match s.imageAt i with
      | none => s
      | some v => s.catAppend v.drive b 2 v.sectors v.start
    (s.setBlk b { s.blk b with image := none }).dropRef i

/-! ### The end of a TIER command (R117, R118) -/

/-- BSTATE. -/
def BState.num : BState → Nat
  | .empty => 0 | .live => 1 | .migrating => 2 | .sealing => 3 | .sealed => 4 | .quarantined => 5

/-- T0_COPY and T1_COPY. -/
def CopyState.num : CopyState → Nat
  | .none => 0 | .rising => 1 | .held => 2 | .sinking => 3

/-- LIVE_TIER. -/
def Tier.num : Tier → Nat
  | .t0 => 0 | .t1 => 1

/-- TIER_OP_RESULT as an operation on block `b` ends with a code number. -/
def State.opResult (s : State) (b code : Nat) : State :=
  let e := s.blk b
  let img := s.image e
  let w := if code = Code.malformed.num ∨ code = Code.absent.num then pack [(0, code)]
    else pack [(0, code % 256), (8, e.state.num), (11, e.liveTier.num), (12, e.t0.num), (14, e.t1.num),
      (16, e.t0Packed.toNat), (24, if e.state = .sealed then (img.map (·.codec)).getD 0 else 0),
      (32, ((img.map (·.refs)).getD 0) % 65536)]
  let s := (s.setReg (F.tierOpResult_code.off 0) (BitVec.ofNat 64 w)).setF F.tierOpCmd_busy 0 0
  s.onTier fun t => { t with op := none }

/-- The command that runs ends, if it is `op`. -/
def State.opEnd (s : State) (op : TierOp) (b : Nat) (code : Code) : State :=
  if s.tier.op = some op then s.opResult b code.num else s

/-! ### Migration (R65) -/

/-- Start a migration of a live block to the other live tier. Its frame is counted like the one it leaves. -/
def State.startMigration (s : State) (b : Nat) : Got :=
  let e := s.blk b
  let t := e.liveTier.other
  if s.mayCount e.tenant t none then
    match s.alloc t with
    | .frame s => .frame ((s.countFrame e.tenant t none).setBlk b { s.blk b with state := .migrating })
    | g => g
  else .quota s

/-! ### Seals (R62, R65) -/

/-- A seal ends for who asked. -/
def State.sealDone (s : State) (b : Nat) (owner : SealOwner) (code : Code) : State :=
  match owner with
  | .command => s.opEnd (.sealing b) b code
  | o => s.tierEvent (.sealEnd o b code)

/-- The codec and body length the sealing encoder gives a payload (R62, R75, R79). -/
def sealForm (elem : Nat) (p : Mem) : Nat × Nat :=
  if p = [] then (1, 0)
  else
    let n := Config.bprBodyLen p elem
    if 262144 ≤ n then (0, 262144) else (2, n)

/-- A new image of a payload for block `b`, its sectors taken; none when T2 is full. -/
def State.makeImage (s : State) (b : Nat) (p : Mem) (elem kind : Nat) (tn : Tenant) (version : Word) : Option (Nat × State) :=
  let (codec, len) := sealForm elem p
  (s.allocT2 b (imageSectors len)).map fun (d, st, s) =>
    s.newImage
      { drive := d, start := st, sectors := imageSectors len, codec := codec, kind := kind,
        elem := if codec = 2 then elem else 0, bodyLen := len, payload := p,
        sealAddr := saStore s.device (b * blockBytes), sealWale := s.wale, tenant := tn, version := version,
        rawTail := 0, refs := 0 }

/-- Start the seal a LIVE block waits for. -/
def State.beginSeal (s : State) (b : Nat) (j : SealJob) : State :=
  let e := s.blk b
  match s.makeImage b (s.blockMem b) j.elem j.kind e.tenant j.version with
  | none => (s.setBlk b { e with job := none }).sealDone b j.owner .quota
  | some (i, s) =>
    (s.setBlk b { s.blk b with state := .sealing, job := some { j with image := some i } }).tel F.telT2Bytes_count 0
      (64 + ((s.imageAt i).map (·.bodyLen)).getD 0)

/-- A seal request (R65). An EMPTY block is sealed at once as a ZERO image. `none`: the manual states no result for the
block's state. -/
def State.requestSeal (s : State) (b : Nat) (tn : Tenant) (j : SealJob) : Option State :=
  let e := s.blk b
  match e.state with
  | .empty =>
    match s.makeImage b [] j.elem j.kind tn j.version with
    | none => some (s.sealDone b j.owner .quota)
    | some (i, s) =>
      some (((s.setBlk b { s.blk b with state := .sealed, tenant := tn }).bindImage b i).sealDone b j.owner .done)
  | .live => some (s.beginSeal b j)
  | .migrating => if e.job = none then some (s.setBlk b { e with job := some j }) else none
  | _ => none

/-- A seal in progress ends without an image: sectors freed, the block LIVE again (R65). -/
def State.abortSeal (s : State) (b : Nat) (code : Code) : State :=
  let e := s.blk b
  match e.job with
  | none => s
  | some j =>
    let s := match j.image.bind s.imageAt with
      | none => s
      | some v => s.freeT2 v.drive v.start v.sectors
    let s := match j.image with
      | none => s
      | some i => s.onTier fun t => { t with images := t.images.del i }
    let s := s.setBlk b { e with job := none, state := if e.state = .sealing then .live else e.state }
    s.sealDone b j.owner code

/-- The image is written and checked: the block is SEALED (R65). -/
def State.finishSeal (s : State) (b : Nat) : State :=
  let e := s.blk b
  match e.job with
  | none => s
  | some j =>
    match j.image with
    | none => s
    | some i =>
      -- the live frame becomes the T0 copy, or is freed
      let s := match e.liveTier with
        | .t0 => match e.resv with
          | some _ => s
          | none => s.uncountFrame e.tenant .t0 none
        | .t1 => (s.uncountFrame e.tenant .t1 e.resv).giveFrames .t1 1
      let e := { e with
        state := .sealed, job := none, t0 := if e.liveTier = .t0 then .held else .none, t0Packed := false,
        resv := if e.liveTier = .t0 then e.resv else none, readers0 := 0, readers1 := 0 }
      let s := { s.setBlk b e with mem := s.mem.clear (b * blockBytes) ((b + 1) * blockBytes) }
      let s := s.bindImage b i
      -- the compressed T1 copy, when it can be had
      let s :=
        if j.t1Copy then
          match s.allocRun .t1 (((s.imageAt i).map (·.sectors)).getD 0) with
          | .frame s => s.setBlk b { s.blk b with t1 := .held }
          | _ => s
        else s
      s.sealDone b j.owner .done

/-- FREE (R65): every frame and the image reference go; the block is EMPTY. -/
def State.freeBlock (s : State) (b : Nat) : State :=
  let s := if (s.blk b).job.isSome then s.abortSeal b .aborted else s
  let e := s.blk b
  let s := match e.state with
    | .live => (s.uncountFrame e.tenant e.liveTier e.resv).giveFrames e.liveTier 1
    | .migrating =>
      let s := (s.uncountFrame e.tenant e.liveTier e.resv).giveFrames e.liveTier 1
      ((s.uncountFrame e.tenant e.liveTier.other none).giveFrames e.liveTier.other 1).opEnd (.migrate b) b .aborted
    | .sealed => (s.dropCopy b .t0).dropCopy b .t1
    | _ => s
  let s := match e.cow with
    | some t => (s.uncountFrame e.tenant t e.resv).giveFrames t 1
    | none => s
  let s := s.unbindImage b
  let s := { s with mem := s.mem.clear (b * blockBytes) ((b + 1) * blockBytes) }
  let s := s.setBlk b { Block.fresh with liveTier := e.liveTier, lastWale := e.lastWale }
  let reads := e.waiting.map AllocWork.access
  ((s.opEnd (.promote b .t0) b .aborted).opEnd (.promote b .t1) b .aborted).wakeVictim b |>.makeReady reads

/-! ### Promotions and refetches (R67, R71, R105 to R108) -/

/-- Does a MODEL record place a replica of the block in the partner's T2 (R105, R598)? -/
def State.hasReplica (s : State) (b : Nat) : Bool :=
  match s.weave.running with
  | none => false
  | some w => w.models.any fun m => m.replica != 0 && m.layers.any fun e => e.2.holds b

/-- The sources of a payload below the failed copy, nearest first (R105). A lost drive is no source (R84). -/
def State.sources (s : State) (b : Nat) (below : Tier) : List Source :=
  let e := s.blk b
  let t2 := match s.image e with
    | none => false
    | some i => match s.drive i.drive with
      | none => false
      | some v => !v.lost
  (if below = .t0 ∧ e.t1 = .held then [Source.t1] else []) ++ (if t2 then [Source.t2] else []) ++
    (if s.hasReplica b then [Source.partner] else [])

/-- Allocate the space of a rising copy: a frame, or a run for a packed or compressed copy. -/
def State.allocCopy (s : State) (b : Nat) (t : Tier) (packed : Bool) : Got :=
  if t = .t0 ∧ !packed then s.alloc .t0 else s.allocRun t (((s.image (s.blk b)).map (·.sectors)).getD 0)

/-- A promotion cannot have space: whoever waits for it ends QUOTA. -/
def State.riseQuota (s : State) (b : Nat) (t : Tier) : State := s.opEnd (.promote b t) b .quota

/-- Start the promotion of a sealed block's copy, or wait for a victim's frame (R67, R104). -/
def State.startRise (s : State) (b : Nat) (t : Tier) (packed : Bool) : Got :=
  match s.allocCopy b t packed with
  | .frame s =>
    let e := (s.blk b).setCopy t .rising
    .frame (s.setBlk b (if t = .t0 then { e with t0Packed := packed } else e))
  | .wait s v => .wait (s.onTier fun x => { x with allocWaits := x.allocWaits ++ [(v, .promote b t packed)] }) v
  | .quota s => .quota s

/-- No source yields the payload: QUARANTINED, and everything that waits ends POISON (R108). The accesses that wait run
again and find the state. -/
def State.quarantine (s : State) (b : Nat) : State :=
  let e := s.blk b
  let s := (s.dropCopy b .t0).dropCopy b .t1
  let s := s.setBlk b { s.blk b with state := .quarantined, waiting := [], refetch := none, cow := none }
  let i := s.image e
  let s := s.flag F.tierStatus_quarantined
    { tenant := e.tenant.toNat, addr := saStore s.device (b * blockBytes),
      arg := BitVec.ofNat 64 ((i.map (·.kind)).getD 0) }
  let s := (s.opEnd (.promote b .t0) b .poison).opEnd (.promote b .t1) b .poison
  (s.tierEvent (.quarantined b)).makeReady (e.waiting.map AllocWork.access)

/-- A refetch of a block begins; with no source the block is quarantined. -/
def State.beginRefetch (s : State) (b : Nat) (srcs : List Source) : State :=
  if srcs.isEmpty then s.quarantine b else s.setBlk b { s.blk b with refetch := some srcs }

/-- A copy meets an uncorrectable error: it becomes NONE and the refetch order begins (R105). -/
def State.copyFailed (s : State) (b : Nat) (t : Tier) : State :=
  let srcs := s.sources b t
  (s.dropCopy b t).beginRefetch b srcs

/-- The status bit of an error at a source. -/
def failFlag (why : FillFail) (src : Source) : Option Fld :=
  match why, src with
  | .crcMismatch, _ => some F.tierStatus_crcMismatch
  | .ue, .t1 => some F.tierStatus_ueT1
  | .ue, .t2 => some F.tierStatus_ueT2
  | .inline, .t2 => some F.tierStatus_ueT2
  | _, _ => none

/-- Note an error at a source: the tier's bit, and the inline check's (R105, R621). -/
def State.noteFail (s : State) (b : Nat) (why : FillFail) (src : Source) : State :=
  let n : Note := { tenant := (s.blk b).tenant.toNat, addr := saStore s.device (b * blockBytes) }
  let s := match failFlag why src with
    | some f => s.flag f n
    | none => s
  if why = .inline then (s.addF F.chkInlineFailCount_count 0 1).flag F.chkStatus_inlineMismatch n else s

end Sys2Proof.Machine
end

