-- ==== Sys2Proof/Machine/Mirror.lean ====
section
/-! DEFINITION. What a device mirrors to its partner: KV regions of live requests, mirrored granules, transfers (R328,
R545 to R548). -/
namespace Sys2Proof.Machine

/-- Where this device's mirror goes: the partner, or its adopter while the partner is no MEMBER (R548). -/
def State.mirrorDst (s : State) : DevNo :=
  match s.fateOf (partnerOf s.device) with
  | none => partnerOf s.device
  | some r => r.taker

/-- The lease record of a kind and key. -/
def State.leaseRec (s : State) (kind : Nat) (key : Word) : Option MapRec :=
  s.map.records.find? fun r => r.kind == kind && r.key == key

/-- EPOCH of a lease; 0 until a record exists (R539). -/
def State.leaseEpoch (s : State) (kind : Nat) (key : Word) : BitVec 32 := ((s.leaseRec kind key).map (·.epoch)).getD 0

/-- Send a mirror transfer; the partner's acknowledgement is awaited (R257, R545). -/
def State.sendMirror (s : State) (epoch : BitVec 32) (item : MirrorItem) : State :=
  let s := s.sendMsg s.mirrorDst 1 0 (.mirror epoch item)
  let rec_ : Option (Tenant × Nat) := match item with
    | .record t seq _ _ => some (t, seq)
    | _ => none
  s.onMap fun m => { m with unacked := m.unacked ++ [rec_] }

/-! ### KV regions (R328) -/

/-- Bytes of a KV segment on one device. -/
def State.segBytes (s : State) (model : Nat) : Nat := s.getF F.svcModelKv_segFrames model * blockBytes

/-- Segments that a bound takes. -/
def segments (tokens : Nat) : Nat := (tokens + 2047) / 2048

/-- Is a request context live? -/
def Ctx.live (c : Ctx) : Bool := c.state != .free

/-- Bytes of a context's KV region. -/
def State.regionBytes (s : State) (c : Ctx) : Nat := segments c.bound * s.segBytes c.model

/-- The contexts and shares whose KV regions lie on this device. -/
def State.regions (s : State) : List Ctx := s.svc.ctxs.map (·.2) ++ s.svc.shares

/-- The context of a tenant whose KV region holds a tenant address. -/
def State.kvCtx (s : State) (t : Tenant) (addr : Nat) : Option Ctx :=
  s.regions.find? fun c => c.live && c.tenant == t && decide (c.kvAddr ≤ addr) &&
    decide (addr < c.kvAddr + s.regionBytes c)

/-- The reservation a write to a tenant address draws on (R99). -/
def State.kvResv (s : State) (t : Tenant) (addr : Nat) : Option Nat := (s.kvCtx t addr).bind (·.resv)

/-- Is a 32 MiB granule of the own store mirrored: listed by the image, or named by a live request's KV region (R545)? -/
def State.mirrored (s : State) (g : Nat) : Bool :=
  (match s.weave.running with
    | none => false
    | some w => w.mirrors.any fun m => decide (m.1 ≤ g) && decide (g < m.1 + m.2)) ||
    s.xlt.entries.any fun e =>
      let n := if e.size1G then 32 else 1
      let first := saOffset e.stand / 33554432
      BitVec.ofNat 9 (saDevice e.stand) == s.device && decide (first ≤ g) && decide (g < first + n) &&
        s.regions.any fun c => c.live && c.tenant == e.tenant &&
          decide (c.kvAddr < (e.tgran + (g - first) + 1) * 33554432) &&
          decide ((e.tgran + (g - first)) * 33554432 < c.kvAddr + s.regionBytes c)

/-- A store to a region that this device has offered goes to the taker too, so that the taker holds the state when it acts
(R541). -/
def State.tellTaker (s : State) (home : DevNo) (off : Nat) (data : List Line) (mask : Mask) : State :=
  let covers (h : Handover) : Bool := h.giver && !h.accepted && h.kind == 3 && saDevice h.key == home.toNat &&
    decide (saOffset h.key ≤ off) && decide (off < saOffset h.key + ((s.leaseRec 3 h.key).map fun r => max r.count 1).getD 1 * 33554432)
  match s.map.handovers.find? covers with
  | some h => s.sendMsg h.other 3 0 (.mirror (s.leaseEpoch 3 h.key) (.lines off data mask))
  | none => s

/-- A store to the own store is mirrored when its granule is (R545). -/
def State.mirrorStore (s : State) (off : Nat) (data : List Line) (mask : Mask) : State :=
  let s := s.tellTaker s.device off data mask
  if s.mirrored (off / 33554432) then
    s.sendMirror (s.leaseEpoch 3 (saStore s.device (off / 33554432 * 33554432))) (.lines off data mask)
  else s

end Sys2Proof.Machine
end

