-- ==== Sys2Proof/Machine/Home.lean ====
section
/-! DEFINITION. An access at the home of its lines: the home's mode (R238, R670), the home record (R131), the version
rules of a commons (R513, R515), the directory (R499 to R506), the state of the tier block (R64, R67, R68, R109), and the
answer (R458, R493). -/
namespace Sys2Proof.Machine

/-! ### Home records -/

/-- The home record of a granule of the own store (R130). -/
def State.homeRec (s : State) (g : Nat) : HomeRec := s.xlt.homes.get g { owner := 0, mode := .none }

/-- The commons that covers a block, if one does (R511). -/
def State.commonsOf (s : State) (b : Nat) : Option (Nat × Commons) :=
  s.hpt.commons.find? fun e => decide (e.2.firstBlock ≤ b) && decide (b < e.2.firstBlock + e.2.blocks)

/-- The right a tenant has on a commons (R512): the owner always holds PUBLISH. -/
def Commons.right (c : Commons) (t : Tenant) : Right :=
  if t = c.owner then .publish else ((c.rights.find? fun r => r.1 == t).map (·.2)).getD .none

/-- The check of R131: `none` when the access is served. -/
def State.homeCheck (s : State) (t : Tenant) (off : Nat) : Option Code :=
  let r := s.homeRec (off / 33554432)
  if t = 0 then none
  else match r.mode with
    | .none => some .absent
    | .priv => if t = r.owner then none else some .denied
    | .commons =>
      if t = r.owner then none
      else match s.commonsOf (off / blockBytes) with
        | some (_, c) => if c.right t = .none then some .denied else none
        | none => some .denied

/-! ### Requesters -/

/-- The device an access comes from. -/
def State.sourceOf (s : State) (a : Access) : DevNo :=
  match a.who with
  | .fabric p => p.src
  | _ => s.device

/-- The host copy that an access asks for: its holder and the kind of copy (R500). -/
def State.copyAsked (s : State) (a : Access) : Option (Holder × CopyAsk) :=
  match a.who with
  | .host b _ ask => if ask = .none then none else some ({ dev := s.device, binding := b }, ask)
  | .fabric p => p.copy.bind fun c => if c.2 = .none then none else some ({ dev := p.src, binding := c.1 }, c.2)
  | _ => none

/-- A requester of R506: one device's host port (false) or its movers (true). -/
def State.requester (s : State) (a : Access) : DevNo × Bool :=
  match a.who with
  | .host .. => (s.device, false)
  | .fabric p => (p.src, p.copy.isNone)
  | _ => (s.device, true)

/-! ### The directory (R499 to R506) -/

/-- The entry of a line. -/
def State.dirAt (s : State) (l : Nat) : DirEntry := s.hpt.dir.get l { owned := false, holders := [], waiting := [] }

/-- Set a line's entry; one with no holder and no request is dropped. -/
def State.setDir (s : State) (l : Nat) (e : DirEntry) : State :=
  s.onHpt fun h =>
    if e.holders.isEmpty && e.waiting.isEmpty then
      { h with dir := h.dir.del l, grantOrder := h.grantOrder.filter fun x => x != l }
    else { h with dir := h.dir.put l e }

/-- The holders whose copies conflict with an access to a line: a store or atomic conflicts with all, an exclusive read
with all others, a shared or uncached read with an owner; a ninth SHARED holder with the one granted earliest (R500,
R235). -/
def DirEntry.conflicts (e : DirEntry) (kind : AccKind) (ask : Option (Holder × CopyAsk)) : List Holder :=
  let hs := e.holders.map (·.holder)
  match kind with
  | .load _ =>
    match ask with
    | some (h, .exclusive) => hs.filter (· != h)
    | some (h, _) =>
      if e.owned then hs.filter (· != h)
      else if hs.contains h || decide (hs.length < 8) then [] else hs.take 1
    | none => if e.owned then hs else []
  | _ => hs

/-- A recall starts (R502): RECALL to the holder's device, or BISnpInv to the own host. -/
def State.sendRecall (s : State) (h : Holder) (sa : Word) : State :=
  let s := s.addF F.hptRecallCount_count 0 1
  if h.dev = s.device then
    (s.onHpt fun p => { p with snoops := p.snoops ++ [(s.device, h.binding, sa)] }).emit (.biSnpInv h.binding sa none)
  else s.sendMsg h.dev 0 0 (.recall h.binding sa none)

/-- Has the hold of R501 ended? -/
def State.holdOver (s : State) (g : Holding) : Bool := decide (g.since.toNat + 2000 ≤ s.stime.toNat)

/-- Start the recalls of the named holders whose hold has ended. -/
def State.recallHolders (s : State) (l : Nat) (hs : List Holder) : State :=
  let e := s.dirAt l
  let now := e.holders.filter fun g => hs.contains g.holder && !g.recalling && s.holdOver g
  let s := s.setDir l { e with
    holders := updWhere (fun g => now.any fun n => n.holder == g.holder) (fun g => { g with recalling := true }) e.holders }
  now.foldl (fun s g => s.sendRecall g.holder (saStore s.device (64 * l))) s

/-- A grant takes effect (R500). -/
def State.grantCopy (s : State) (l : Nat) (h : Holder) (t : Tenant) (ask : CopyAsk) : State :=
  let e := s.dirAt l
  let rest := e.holders.filter fun g => g.holder != h
  let g : Holding := { holder := h, tenant := t, since := s.stime, recalling := false }
  let s := s.setDir l { e with owned := decide (ask = .exclusive), holders := rest ++ [g] }
  s.onHpt fun p => { p with grantOrder := (p.grantOrder.filter fun x => x != l) ++ [l] }

/-- Tracker entries in use: shared ones, and the reserved ones of a requester (R506). -/
def State.tracked (s : State) (reserved : Bool) (r : DevNo × Bool) : Nat :=
  (s.hpt.dir.map fun e => (e.2.waiting.filter fun a =>
    a.reserved == reserved && (!reserved || s.requester a == r)).length).sum

/-! ### Answers -/

/-- A mover descriptor of the own device takes up an answer. -/
def State.moverGot (s : State) (c ch : Nat) (code : Code) (data : List Line) : State :=
  s.onCell fun x =>
    let cell := x.cells.get c .fresh
    let chan := cell.mv.get ch .fresh
    match chan.run with
    | none => x
    | some r =>
      let r := { r with got := r.got ++ [(code, data)], phase := if r.phase = .store ∨ r.phase = .remote then .running else r.phase }
      { x with cells := x.cells.put c { cell with mv := cell.mv.put ch { chan with run := some r } } }

/-- Count a host access that ended other than DONE (R493). -/
def State.bindError (s : State) (b : Nat) (code : Code) : State :=
  if code = .done then s
  else ((s.setF F.hptBindErr_lastCode b code.num).addF F.hptBindErr_count b 1).flag F.hptStatus_hostErr
    { index := b, status := BitVec.ofNat 64 code.num }

/-- A host access ends: the host sees data, or poison (R493). -/
def State.hostEnd (s : State) (b dpa : Nat) (code : Code) (data : List Line) : State :=
  ((s.bindError b code).emit (.host b dpa (code != .done) data)).tel F.telHostBytes_count 0 64

/-- A home-operation line (R496). -/
def State.homeOpLine (s : State) (b l : Nat) : HomeOpLine := s.hpt.homeOps.get (1024 * b + l) .fresh

/-- Put a home-operation line. -/
def State.setHomeOpLine (s : State) (b l : Nat) (v : HomeOpLine) : State :=
  s.onHpt fun h => { h with homeOps := h.homeOps.put (1024 * b + l) v }

/-- A binding's tenant (R484). -/
def State.bindTenant (s : State) (b : Nat) : Tenant := BitVec.ofNat 8 (s.getF F.hptBind_tenant b)

/-- A home-operation request ends; RESULT is a free value where the manual names none (R496, assumption 20). -/
def State.homeopEnd (s : State) (b l : Nat) (code : Code) (detail : Nat) (result : Option Word) : State :=
  let (w, s) := match result with
    | some w => (w, s)
    | none => s.fresh
  let v := s.homeOpLine b l
  s.setHomeOpLine b l { v with status := s.statusWord (s.bindTenant b) code detail, result := w, busy := false }

/-- A coherent read that ends DONE is granted its copy; a commons line is granted SHARED (R500). -/
def State.grantOnDone (s : State) (a : Access) (code : Code) : State :=
  match a.kind, s.copyAsked a with
  | .load _, some (h, k) =>
    if code = .done then
      s.grantCopy (a.off / 64) h a.tenant (if (s.homeRec (a.off / 33554432)).mode = .commons then .shared else k)
    else s
  | _, _ => s

/-- An access to the own store ends: its answer to whoever issued it. -/
def State.answer (s : State) (a : Access) (code : Code) (detail : Nat) (data : List Line) : State :=
  let s := s.grantOnDone a code
  match a.who with
  | .engine => s.emit (.access a code data)
  | .device => s
  | .query _ => s
  | .homeop b l => s.homeopEnd b l code detail (if code = .done then some (((data.headD 0).extractLsb' 0 64)) else none)
  | .fabric p => if p.answered then s.sendReply p code detail data else s
  | .host b dpa _ =>
    s.hostEnd b dpa code data
  | .mover c ch => s.moverGot c ch code data

/-- A line of all ones (R237, R458). -/
def lineOnes : Line := BitVec.allOnes 512

/-- Lines a failed load delivers. -/
def Access.ones (a : Access) : List Line :=
  match a.kind with
  | .load n => List.replicate n lineOnes
  | .atom .. => [lineOnes]
  | .store .. => []

/-- An access ends with a code other than DONE and delivers nothing. -/
def State.refuseAccess (s : State) (a : Access) (code : Code) (detail : Nat := 0) : State :=
  s.answer a code detail a.ones

/-! ### The tier block (R64, R65) -/

/-- Lines an access touches. -/
def Access.lineCount (a : Access) : Nat :=
  match a.kind with
  | .load n => n
  | .store d _ => d.length
  | .atom .. => 1

/-- The Frond die of a block's T0 frame (R56): the die whose layer table names the block, else that of stack n mod the
stacks. -/
def State.t0Die (s : State) (b : Nat) : Nat :=
  let layered : Option (Nat × LayerEntry) := match s.weave.running with
    | none => none
    | some w => (w.models.flatMap fun m => m.layers).find? fun e => e.2.holds b
  match layered with
  | some e => e.1
  | none => b % (2 * s.code.fronds) / 2

/-- Is the frame or copy of a block lost with a failed die (R670, R671)? Channel n mod the channels (R56). -/
def State.dieFailed (s : State) (b : Nat) (t : Tier) : Bool :=
  match t with
  | .t0 => s.pwr.failed.contains (.frond, s.t0Die b)
  | .t1 => s.pwr.failed.contains (.rand, b % (8 * s.code.rands) / 8)

/-- The lines of a LIVE block's frame, and the index of the first poisoned one (R109, R458). -/
def State.liveLines (s : State) (e : Block) (lost : Bool) (off n : Nat) : Option Nat × List Line :=
  let bad (i : Nat) : Bool := lost || e.poison.contains ((off % blockBytes) / 64 + i)
  ((List.range n).find? bad, (List.range n).map fun i => if bad i then lineOnes else s.mem.line (off / 64 * 64 + 64 * i))

/-- The lines of a stored image's payload. -/
def Image.lines (i : Image) (off n : Nat) : List Line :=
  (List.range n).map fun k => i.payload.line ((off % blockBytes) / 64 * 64 + 64 * k)

/-- The result of an atomic (R194): the value written. -/
def atomResult (op : Nat) (old operand compare : Word) : Word :=
  if op = 0 then old + operand
  else if op = 1 then (if operand < old then operand else old)
  else if op = 2 then (if old < operand then operand else old)
  else if old = compare then operand else old

/-- An access waits at its block (copy-on-write, promotion, refetch). -/
def State.waitAtBlock (s : State) (b : Nat) (a : Access) : State :=
  s.setBlk b { s.blk b with waiting := (s.blk b).waiting ++ [a] }

/-- An access waits for a victim's frame (R104). -/
def State.waitForVictim (s : State) (v : Nat) (a : Access) : State :=
  s.onTier fun t => { t with allocWaits := t.allocWaits ++ [(v, .access a)] }

/-- WORK of a mover's running descriptor, when the schedule plans it (R242, R436). -/
def State.moverWork (s : State) (c ch : Nat) : Option WorkId :=
  ((s.cell.cells.get c .fresh).mv.get ch .fresh).run.bind fun r =>
    if r.sched then
      some { waleLo := s.wale.setWidth 32, cell := c, channel := BitVec.ofNat 3 ch, ticket := BitVec.ofNat 16 r.ticket }
    else none

/-- The work a scheduled atomic is part of. -/
def State.accessWork (s : State) (a : Access) : Option (DevNo × WorkId) :=
  match a.who with
  | .fabric p => p.work.map fun w => (p.src, w)
  | .mover c ch => (s.moverWork c ch).map fun w => (s.device, w)
  | _ => none

/-- Bytes served at a tier; what no schedule planned counts to the tenant too (R39, R709). -/
def State.telServed (s : State) (a : Access) (t : Tier) (n : Nat) : State :=
  let s := s.tel (match t with
    | .t0 => F.telT0Bytes_count | .t1 => F.telT1Bytes_count) 0 n
  let planned : Bool := match a.who with
    | .device => true
    | _ => (s.accessWork a).isSome
  if planned then s else s.tel F.telUnschedBytes_count a.tenant.toNat n

/-- Entries of the atomic log for a source and wale (R242). -/
def State.logged (s : State) (src : DevNo) (w : WorkId) : List AtomLog :=
  s.cell.atomLog.filter fun l => l.src == src && l.waleLo == w.waleLo

/-- The store into the frame of a LIVE or MIGRATING block; a partial write of a poisoned line is POISON (R109). -/
def State.writeLive (s : State) (b : Nat) (e : Block) (a : Access) : State :=
  let base := a.off / 64 * 64
  let ix := (a.off % blockBytes) / 64
  match a.kind with
  | .load _ => s
  | .store data mask =>
    let bad (i : Nat) : Bool := e.poison.contains (ix + i) && mask != BitVec.allOnes 64
    match (List.range data.length).find? bad with
    | some i => s.answer a .poison i []
    | none =>
      let mem := data.zipIdx.foldl (fun m (d, i) => m.setLine (base + 64 * i) d mask) s.mem
      let clean := e.poison.filter fun l => decide (l < ix) || decide (ix + data.length ≤ l)
      let s := ({ s with mem := mem }.setBlk b { e with
        poison := if mask = BitVec.allOnes 64 then clean else e.poison, lastWale := s.wale })
      let s := s.telServed a e.liveTier (64 * data.length)
      (s.mirrorStore base data mask).answer a .done 0 []
  | .atom op operand compare =>
    if e.poison.contains ix then s.answer a .poison 0 [lineOnes]
    else
      let old := s.mem.word a.off
      let put (s : State) (v : Word) : State :=
        let i := a.off % 64 / 8
        ({ s with mem := s.mem.setWord a.off v }.setBlk b { e with lastWale := s.wale }).mirrorStore base
          [BitVec.ofNat 512 (v.toNat * 2 ^ (64 * i))] (BitVec.ofNat 64 (255 * 2 ^ (8 * i)))
      let ans (s : State) (old : Word) : State := s.answer a .done 0 [old.setWidth 512]
      match s.accessWork a with
      | none => ans (put s (atomResult op old operand compare)) old
      | some (src, w) =>
        match (s.logged src w).find? fun l => l.cell == w.cell && l.channel == w.channel && l.ticket == w.ticket with
        | some l => ans s l.old
        | none =>
          if (s.logged src w).length < 4096 then
            let l : AtomLog :=
              { src := src, waleLo := w.waleLo, cell := w.cell, channel := w.channel, ticket := w.ticket, old := old }
            ans ((put s (atomResult op old operand compare)).onCell fun c => { c with atomLog := c.atomLog ++ [l] }) old
          else if s.map.failover.isSome then
            -- a replay that misses the full log is applied again: the line's value is undefined (R242)
            let (v, s) := s.fresh
            ans ((put s v).flag F.mapStatus_logMiss
              { tenant := a.tenant.toNat, addr := saStore s.device a.off }) old
          else ans (put s (atomResult op old operand compare)) old

/-- A live frame for a write (R54, R55): in T0 when the writer's reservation or limits allow it, else in T1. `k` goes on
with the state and the frame's tier. -/
def State.newLive (s : State) (tn : Tenant) (a : Access) (k : State → Tier → State) : State :=
  let tryT1 (s : State) : State :=
    if s.mayCount tn .t1 a.resv then
      match s.alloc .t1 with
      | .frame s => k (s.countFrame tn .t1 a.resv) .t1
      | .wait s v => s.waitForVictim v a
      | .quota s => s.refuseAccess a .quota
    else s.refuseAccess a .quota
  if s.mayCount tn .t0 a.resv then
    match s.alloc .t0 with
    | .frame s => k (s.countFrame tn .t0 a.resv) .t0
    | .wait s v => s.waitForVictim v a
    | .quota s => tryT1 s
  else tryT1 s

/-- A write meets a SEALED block (R58, R59, R67). -/
def State.writeSealed (s : State) (b : Nat) (e : Block) (a : Access) : State :=
  if e.cow.isSome then s.waitAtBlock b a
  else if (e.t0 = .held ∨ e.t0 = .sinking) ∧ !e.t0Packed then
    -- the expanded T0 copy becomes the live frame without a copy
    let covered := e.resv.isSome
    if covered || s.mayCount a.tenant .t0 a.resv then
      let s := if covered then s else s.countFrame a.tenant .t0 a.resv
      let payload := ((s.image e).map (·.payload)).getD []
      let s := s.setBlk b { e with t0 := .none, readers0 := 0, resv := if covered then e.resv else a.resv }
      let s := (s.dropCopy b .t1).unbindImage b
      let s := { s with mem := (s.mem.clear (b * blockBytes) ((b + 1) * blockBytes)).paste (b * blockBytes) payload }
      let e' := { s.blk b with
        state := .live, liveTier := .t0, tenant := if covered then e.tenant else a.tenant, window := false, poison := [] }
      ((s.setBlk b e').wakeVictim b).writeLive b e' a
    else s.refuseAccess a .quota
  else
    s.newLive a.tenant a fun s t =>
      (s.setBlk b { s.blk b with cow := some t, resv := a.resv, tenant := a.tenant }).waitAtBlock b a

/-- A load meets a SEALED block (R68, R70 to R72). -/
def State.readSealed (s : State) (b : Nat) (e : Block) (a : Access) (n : Nat) : State :=
  let serve (s : State) (t : Tier) : State :=
    let s := s.cancelSink b t
    let s := s.setBlk b { s.blk b with lastWale := s.wale }
    let s := s.telServed a t (64 * n)
    s.answer a .done 0 (((s.image e).map fun i => i.lines a.off n).getD a.ones)
  let mover : Bool := match a.who with
    | .mover .. => true
    | _ => false
  if (e.t0 = .held ∨ e.t0 = .sinking) ∧ !s.dieFailed b .t0 then serve s .t0
  else if mover ∧ (e.t1 = .held ∨ e.t1 = .sinking) ∧ !s.dieFailed b .t1 then serve s .t1
  else if e.t0 = .held ∨ e.t0 = .sinking then (s.waitAtBlock b a).copyFailed b .t0
  else if e.t0 = .rising ∨ e.refetch.isSome ∨ e.cow.isSome then s.waitAtBlock b a
  else
    match s.startRise b .t0 false with
    | .frame s => s.waitAtBlock b a
    | .wait s _ => s.waitAtBlock b a
    | .quota s => s.refuseAccess a .quota

/-- An access at its tier block (R64, R65). -/
def State.tierAccess (s : State) (a : Access) : State :=
  let b := a.off / blockBytes
  let e := s.blk b
  match e.state, a.kind with
  | .quarantined, _ => s.refuseAccess a .poison
  | .empty, .load n => s.answer a .done 0 (List.replicate n 0)
  | .empty, _ =>
    s.newLive a.tenant a fun s t =>
      let e' := { s.blk b with state := .live, liveTier := t, tenant := a.tenant, resv := a.resv, poison := [] }
      (s.setBlk b e').writeLive b e' a
  | .sealed, .load n => s.readSealed b e a n
  | .sealed, _ => s.writeSealed b e a
  | .sealing, .load n => live s b e n
  | .sealing, _ =>
    let s := s.abortSeal b .aborted
    s.writeLive b (s.blk b) a
  | _, .load n => live s b e n
  | _, _ => s.writeLive b e a
where
  /-- a load of a live frame -/
  live (s : State) (b : Nat) (e : Block) (n : Nat) : State :=
    let s := s.setBlk b { e with lastWale := s.wale }
    let s := s.telServed a e.liveTier (64 * n)
    match s.liveLines e (s.dieFailed b e.liveTier) a.off n with
    | (some i, data) => s.answer a .poison i data
    | (none, data) => s.answer a .done 0 data

/-! ### The whole of an access -/

/-- The image a requester's view of a commons reads, when it is not the latest version's (R515). -/
def State.viewImage (s : State) (c : Commons) (a : Access) : Option Nat :=
  match c.views.find? fun v => v.1 == s.sourceOf a && v.2.1 == a.tenant with
  | none => none
  | some (_, _, n) =>
    if (c.versions.head?.map (·.num)) = some n then none
    else (c.versions.find? fun v => v.num == n).bind fun v => v.images[a.off / blockBytes - c.firstBlock]?

/-- The access reaches its line: the version rules, the directory, then the tier. -/
def State.lineAccess (s : State) (a : Access) : State :=
  let b := a.off / blockBytes
  let isCommons := (s.homeRec (a.off / 33554432)).mode = .commons
  let isLoad : Bool := match a.kind with
    | .load _ => true
    | _ => false
  if isCommons ∧ !isLoad then s.refuseAccess a .denied 2
  else
    let l0 := a.off / 64
    let ask := (s.copyAsked a).map fun x => if isCommons then (x.1, CopyAsk.shared) else x
    let conflict := (List.range a.lineCount).findSome? fun k =>
      let c := (s.dirAt (l0 + k)).conflicts a.kind ask
      let busy := !a.rerun && !(s.dirAt (l0 + k)).waiting.isEmpty
      if c.isEmpty && !busy then none else some (l0 + k, c)
    match conflict with
    | some (l, c) =>
      if !a.reserved && !a.rerun && decide (8192 ≤ s.tracked false (s.requester a)) then
        -- no shared tracker entry is free (R506)
        let s := s.addF F.hptRetryCount_count 0 1
        match a.who with
        | .fabric _ => s.answer a .retry 0 a.ones
        | _ => s
      else
        let e := s.dirAt l
        (s.setDir l { e with waiting := e.waiting ++ [a] }).recallHolders l c
    | none =>
      let full := ask.isSome && (s.hpt.dir.find? fun e => e.1 == l0).isNone && decide (4194304 ≤ s.hpt.dir.length)
      if full then
        -- the entry of the line granted earliest makes room (R505)
        let old := (s.hpt.grantOrder.find? fun l => (s.dirAt l).holders.all s.holdOver).orElse fun _ => s.hpt.grantOrder.head?
        match old with
        | none => s
        | some l =>
          let e := s.dirAt l
          let s := s.flag F.hptStatus_dirFull
          (s.setDir l { e with waiting := e.waiting ++ [a] }).recallHolders l (e.holders.map (·.holder))
      else
        match s.commonsOf b with
        | some (_, c) =>
          match s.viewImage c a, a.kind with
          | some i, .load n => s.answer a .done 0 (((s.imageAt i).map fun i => i.lines a.off n).getD a.ones)
          | _, _ => s.tierAccess a
        | none => s.tierAccess a

/-- Is the access from a tenant other than 0, as the mode rules of R238 see it? -/
def Access.tenantAccess (a : Access) : Bool := a.tenant != 0

/-- An access to the own store, from any issuer (R35, R131, R238, R591, R670). -/
def State.homeAccess (s : State) (a : Access) : State :=
  let fromFabric : Bool := match a.who with
    | .fabric _ => true
    | _ => false
  let isAtom : Bool := match a.kind with
    | .atom .. => true
    | _ => false
  if s.mode = .slath ∨ s.mode = .weaving ∨ s.mode = .quarantine then
    if fromFabric then s else s.refuseAccess a .dead
  else if s.mode = .repair ∧ a.tenantAccess then s.refuseAccess a .retry
  else if s.mode = .crust ∧ isAtom then s.refuseAccess a .crust
  else if s.storeSize < a.off + 64 * a.lineCount then s.refuseAccess a .absent
  else match s.homeCheck a.tenant a.off with
    | some c => s.refuseAccess a c
    | none => s.lineAccess a

/-! ### Work whose wait has ended -/

/-- Run one piece of work again. -/
def State.runWork (s : State) (w : AllocWork) : State :=
  match w with
  | .migrate b =>
    if (s.blk b).state = .live then
      match s.startMigration b with
      | .frame s => s
      | .wait s v => s.onTier fun x => { x with allocWaits := x.allocWaits ++ [(v, .migrate b)] }
      | .quota s => s.opEnd (.migrate b) b .quota
    else s.opEnd (.migrate b) b .done
  | .access a => s.lineAccess { a with rerun := true }
  | .promote b t packed =>
    let e := s.blk b
    if e.state = .sealed ∧ e.copy t = .none then
      match s.startRise b t packed with
      | .frame s => s
      | .wait s _ => s
      | .quota s =>
        let ws := (s.blk b).waiting
        let s := (s.setBlk b { s.blk b with waiting := [] }).riseQuota b t
        ws.foldl (fun s a => s.refuseAccess a .quota) s
    else if e.state = .sealed then s
    else (s.setBlk b { e with waiting := [] }).makeReady (e.waiting.map AllocWork.access)

/-- Run the work whose wait has ended, in order, until none is left. -/
def State.settle : Nat → State → State
  | 0, s => s
  | fuel + 1, s =>
    match s.tier.ready with
    | [] => s
    | w :: ws => settle fuel ((s.onTier fun t => { t with ready := ws }).runWork w)

/-- Enough rounds for everything that waits (every piece of work runs at most twice in one command). -/
def State.settleAll (s : State) : State :=
  let waiting := (s.tier.blocks.map fun e => e.2.waiting.length).sum + s.tier.allocWaits.length + s.tier.ready.length
  s.settle (4 * waiting + 64)

/-- A holder leaves a line's entry; when no recall is left, the requests that wait run in arrival order (R502). -/
def State.removeHolder (s : State) (l : Nat) (h : Holder) : State :=
  let e := s.dirAt l
  let hs := e.holders.filter fun g => g.holder != h
  if hs.any (·.recalling) then s.setDir l { e with holders := hs }
  else
    (s.setDir l { e with holders := hs, owned := e.owned && !hs.isEmpty, waiting := [] }).makeReady
      (e.waiting.map AllocWork.access)

/-- A dirty line that comes back with a recall or a write-back is applied at the home (R494, R502); not to a commons
(R513). -/
def State.applyDirty (s : State) (off : Nat) (data : Line) : State :=
  if (s.homeRec (off / 33554432)).mode = .commons then s
  else s.tierAccess
    { who := .device, tenant := (s.homeRec (off / 33554432)).owner, off := off, kind := .store [data] (BitVec.allOnes 64),
      resv := none }

end Sys2Proof.Machine
end

