-- ==== Sys2Proof/Machine/Translate.lean ====
section
/-! DEFINITION. The extent map as its requesters use it: lookups and their outcomes, the translation caches, walks, and
fill records (R123 to R147). -/
namespace Sys2Proof.Machine

/-! ### Entries (R124 to R127) -/

/-- Bytes of a 32 MiB granule. -/
def granuleBytes : Nat := 33554432

/-- The 32 MiB granule of a tenant address: what TGRAN holds. -/
def granuleOf (addr : Nat) : Nat := addr / granuleBytes

/-- Does a cached key or an entry of this tenant, granule and size cover a granule? -/
def coversGranule (tgran : Nat) (size1G : Bool) (g : Nat) : Bool :=
  if size1G then tgran / 32 == g / 32 else tgran == g

/-- Does an entry cover a tenant's granule? -/
def Extent.covers (e : Extent) (t : Tenant) (g : Nat) : Bool := e.tenant == t && coversGranule e.tgran e.size1G g

/-- The tag of an entry in the caches (R134). -/
def Extent.key (e : Extent) : XKey := { tenant := e.tenant, tgran := e.tgran, size1G := e.size1G }

/-- The entry of a tenant that covers a granule; under R127 there is at most one. -/
def State.entryAt (s : State) (t : Tenant) (g : Nat) : Option Extent := s.xlt.entries.find? fun e => e.covers t g

/-- Size of an entry's granule. -/
def Extent.bytes (e : Extent) : Nat := if e.size1G then 1073741824 else granuleBytes

/-- The Stand Address of a tenant address under an entry that covers it (R125). -/
def Extent.standOf (e : Extent) (addr : Nat) : Word := e.stand + BitVec.ofNat 64 (addr % e.bytes)

/-- What an access wants of an entry. -/
inductive Wants where
  | load | store | atom
  deriving DecidableEq, Repr

/-- The permission bit an access needs. -/
def Extent.permits (e : Extent) : Wants → Bool
  | .load => e.rd | .store => e.wr | .atom => e.at_

/-- The outcome of a lookup (R136). -/
inductive Found where
  | stand (sa : Word) (key : XKey)
  | fails (c : Code)
  deriving DecidableEq, Repr

/-- The lookup of an access in an entry that was found, or not (R136). -/
def lookupIn (e : Option Extent) (addr : Nat) (w : Wants) (mover : Bool) : Found :=
  match e with
  | none => .fails .absent
  | some e =>
    if e.state = .revoking then .fails .revoked
    else if !e.permits w then .fails .denied
    else if !(if mover then e.mover else e.host) then .fails .denied
    else .stand (e.standOf addr) e.key

/-- The lookup of an access, and the check that the Stand Address names a device (R35, R136). -/
def State.lookup (s : State) (t : Tenant) (addr : Nat) (w : Wants) (mover : Bool) : Found :=
  match lookupIn (s.entryAt t (granuleOf addr)) addr w mover with
  | .fails c => .fails c
  | .stand sa k => if s.inStand (BitVec.ofNat 9 (saDevice sa)) then .stand sa k else .fails .absent

/-! ### Caches (R133, R134) -/

/-- Does a key cover a tenant's granule? -/
def XKey.covers (k : XKey) (t : Tenant) (g : Nat) : Bool := k.tenant == t && coversGranule k.tgran k.size1G g

/-- Put a key first in a list of at most `n`. -/
def pushKey (n : Nat) (k : XKey) (l : List XKey) : List XKey := (k :: l.filter fun x => x != k).take n

/-- The second level's set of a key: the granule number mod 1,024, in units of its size (assumption 11). -/
def XKey.set (k : XKey) : Nat := (if k.size1G then k.tgran / 32 else k.tgran) % 1024

/-- Put a key into a second level of 1,024 sets of 8, newest first. -/
def pushL2 (k : XKey) (l : List XKey) : List XKey :=
  let same := (l.filter fun x => x != k && x.set == k.set).take 7
  k :: l.filter fun x => x != k && (x.set != k.set || same.contains x)

/-- Frond die of a cell. -/
def dieOf (cell : Nat) : Nat := cell / 32

/-- Does the mover of a cell find the granule in its buffer or its die's second level? On a hit below, the buffer is
filled. -/
def State.xltHit (s : State) (cell : Nat) (t : Tenant) (g : Nat) : Bool × State :=
  let buf := s.xlt.bufs.get cell []
  if buf.any fun k => k.covers t g then (true, s)
  else match (s.xlt.l2.get (dieOf cell) []).find? fun k => k.covers t g with
    | some k => (true, s.onXlt fun x => { x with bufs := x.bufs.put cell (pushKey 32 k buf) })
    | none => (false, s)

/-- Start or join the walk of a granule (R135). -/
def State.openWalk (s : State) (die : Nat) (t : Tenant) (g cell ch : Nat) : State :=
  if s.xlt.walks.any fun w => w.die == die && w.tenant == t && w.granule == g then
    s.onXlt fun x => { x with
      walks := updWhere (fun w => w.die == die && w.tenant == t && w.granule == g)
        (fun w => { w with waiting := w.waiting ++ [(cell, ch)] }) x.walks }
  else
    (s.onXlt fun x => { x with
      walks := x.walks ++ [{ die := die, tenant := t, granule := g, waiting := [(cell, ch)] }] }).addF F.xltL2Miss_count die 1

/-- A walk that found a VALID entry fills the second level and the buffers of the movers that waited (R134). -/
def State.fillCaches (s : State) (die : Nat) (k : XKey) (cells : List Nat) : State :=
  let s := s.onXlt fun x => { x with l2 := x.l2.put die (pushL2 k (x.l2.get die [])) }
  cells.foldl (fun s c => s.onXlt fun x => { x with bufs := x.bufs.put c (pushKey 32 k (x.bufs.get c [])) }) s

/-- Step 2 of R150: the entry leaves every buffer, every second level and the host translation cache. -/
def State.dropKey (s : State) (k : XKey) : State :=
  let clean : Table (List XKey) → Table (List XKey) := fun t => t.map fun e => (e.1, e.2.filter fun x => x != k)
  s.onXlt fun x => { x with
    bufs := clean x.bufs, l2 := clean x.l2, hostCache := x.hostCache.filter fun y => y != k }

/-! ### Residency faults and fill records (R141 to R146) -/

/-- Can a mover read the block now: no residency fault on a load (R68, R141)? -/
def State.moverReads (s : State) (b : Nat) : Bool :=
  let e := s.blk b
  let has (t : Tier) : Bool := (e.copy t == .held || e.copy t == .sinking) && !s.dieFailed b t
  e.state != .sealed || has .t0 || has .t1

/-- The promotion a fill record issues for a block it needs: into T0 when a frame can be had, else into T1 (R142). -/
def State.fillPromote (s : State) (b : Nat) : State :=
  let e := s.blk b
  if e.state ≠ .sealed ∨ e.t0 ≠ .none ∨ e.t1 = .rising ∨ e.refetch.isSome ∨ e.cow.isSome then s
  else match s.startRise b .t0 false with
    | .frame s => s
    | .wait s _ => s
    | .quota s =>
      if (s.blk b).t1 ≠ .none then s
      else match s.startRise b .t1 false with
        | .frame s => s
        | .wait s _ => s
        | .quota s => s

/-- Fill records open on a die. -/
def State.fillsOpen (s : State) (die : Nat) : Nat := (s.xlt.fills.filter fun f => f.die == die).length

/-- A fault opens a fill record, joins the open one of its granule, or waits for a free record (R142, R144). -/
def State.residencyFault (s : State) (die : Nat) (t : Tenant) (g block cell ch : Nat) : State :=
  if s.xlt.fills.any fun f => f.die == die && f.tenant == t && f.granule == g then
    (s.onXlt fun x => { x with
      fills := updWhere (fun f => f.die == die && f.tenant == t && f.granule == g)
        (fun f => { f with
          blocks := if f.blocks.contains block then f.blocks else f.blocks ++ [block],
          waiting := f.waiting ++ [(cell, ch)] }) x.fills }).fillPromote block
  else
    let used := (s.xlt.fills.filter fun f => f.die == die).map (·.id)
    match firstFree 256 used with
    | some id =>
      let f : FillRec :=
        { die := die, id := id, tenant := t, granule := g, blocks := [block], waiting := [(cell, ch)] }
      ((s.onXlt fun x => { x with fills := x.fills ++ [f] }).addF F.xltFillCount_count 0 1).fillPromote block
    | none =>
      let w : FillWait := { die := die, tenant := t, granule := g, block := block, cell := cell, channel := ch }
      s.onXlt fun x => { x with fillWaits := x.fillWaits ++ [w] }

/-- Faults that waited take a freed record, in arrival order (R144). -/
def State.serveFillWaits : Nat → State → Nat → State
  | 0, s, _ => s
  | fuel + 1, s, die =>
    match s.xlt.fillWaits.find? fun w => w.die == die with
    | none => s
    | some w =>
      let free := decide (s.fillsOpen die < 256) ||
        s.xlt.fills.any fun f => f.die == die && f.tenant == w.tenant && f.granule == w.granule
      if free then
        let s := s.onXlt fun x => { x with fillWaits := x.fillWaits.erase w }
        serveFillWaits fuel (s.residencyFault die w.tenant w.granule w.block w.cell w.channel) die
      else s

/-- May the fill record end so (R143)? HELD needs every block readable by its movers, and a failure needs a block that
failed that way. -/
def State.fillEnds (s : State) (f : FillRec) (o : FillOutcome) : Bool :=
  match o with
  | .held => f.blocks.all fun b => s.moverReads b && (s.blk b).cow.isNone
  | .poison => f.blocks.any fun b => (s.blk b).state == .quarantined
  | .quota => f.blocks.any fun b => !s.moverReads b && (s.blk b).t0 == .none && (s.blk b).t1 == .none
  | .dead => true

/-- The status of a failed fill record. -/
def FillOutcome.code : FillOutcome → Code
  | .held => .done | .poison => .poison | .dead => .dead | .quota => .quota

end Sys2Proof.Machine
end

