-- ==== Sys2Proof/Machine/Movers.lean ====
section
/-! DEFINITION. The mover: how a descriptor moves its lines (R139 to R145, R193 to R198, R439). One request of a
descriptor is outstanding at a time (assumption 14). -/
namespace Sys2Proof.Machine

/-- A mover channel of a cell. -/
def State.chan (s : State) (c ch : Nat) : Channel := (s.cellAt c).mv.get ch .fresh

/-- Replace a channel. -/
def State.setChan (s : State) (c ch : Nat) (v : Channel) : State :=
  s.onCellAt c fun x => { x with mv := x.mv.put ch v }

/-- Replace the running descriptor's record. -/
def State.setRun (s : State) (c ch : Nat) (r : MvRun) : State := s.setChan c ch { s.chan c ch with run := some r }

/-- The channel's head descriptor starts (R140, R195). -/
def State.moverStart (s : State) (c ch : Nat) : State :=
  let v := s.chan c ch
  match v.run, v.q.items with
  | none, (t, l) :: rest =>
    let d := mvDesc l
    let bad := d.malformed (decide (ch < 4)) || (decide (4 ≤ ch) && s.getF F.cellState_priv c == 0)
    let r : MvRun :=
      { ticket := t, desc := l, pos := 0, moved := 0, code := if bad then .malformed else .done,
        phase := if bad then .ending else .running, tags := [], through := [], reading := [], got := [], orphan := false,
        sched := (s.cellAt c).track.isSome }
    s.setChan c ch { q := { v.q with items := rest }, run := some r }
  | _, _ => s

/-- The descriptor's ending is decided; MOVER_DESC_END follows. -/
def MvRun.ends (r : MvRun) (code : Code) : MvRun := { r with code := code, phase := .ending, through := [] }

/-- The tenant address of line `i`. -/
def MvDesc.tenantAt (d : MvDesc) (i : Nat) : Nat := d.otherAt d.addr i

/-- Lines from `i` on that one packet carries: in one row, in one aligned 1 KiB (R439). -/
def MvDesc.batch (d : MvDesc) (i at_ : Nat) : Nat :=
  min (d.rowLines - i % d.rowLines) (16 - at_ / 64 % 16)

/-- The lines of cell SRAM from line `i` of a descriptor. -/
def Cell.sramLines (v : Cell) (d : MvDesc) (i n : Nat) : List Line :=
  (List.range n).map fun k => v.sram.line (d.sramAt (i + k))

/-- Write lines into cell SRAM from line `i` of a descriptor. -/
def State.sramStore (s : State) (c : Nat) (d : MvDesc) (i : Nat) (ls : List Line) : State :=
  s.onCellAt c fun v => ls.zipIdx.foldl (fun v (l, k) => v.engineLine (d.sramAt (i + k)) l) v

/-- A descriptor's reads of a copy: the block it reads from is the one it holds (R67). -/
def State.readFrom (s : State) (c ch b : Nat) : State :=
  match (s.chan c ch).run with
  | none => s
  | some r =>
    let e := s.blk b
    let t : Option Tier :=
      if e.state ≠ .sealed then none else if e.t0 = .held ∨ e.t0 = .sinking then some .t0 else some .t1
    let want := match t with
      | none => []
      | some t => [(b, t)]
    if r.reading = want then s
    else
      let s := r.reading.foldl (fun s x => s.endReader x.1 x.2) s
      let s := want.foldl (fun s x => s.addReader x.1 x.2) s
      match (s.chan c ch).run with
      | none => s
      | some r => s.setRun c ch { r with reading := want }

/-- An answer is taken up: its lines go to cell SRAM, the descriptor moves on or ends (R139, R193, R237). -/
def State.moverTake (s : State) (c ch : Nat) (r : MvRun) (code : Code) (data : List Line) : State :=
  let d := mvDesc r.desc
  let n := if d.opc = 0x40 then data.length else match r.tags with
    | (_, _, k) :: _ => k
    | [] => 1
  let r := { r with got := r.got.drop 1, tags := [], through := [] }
  if d.opc = 0x40 then
    if code = .done ∨ code = .poison then
      let s := s.sramStore c d r.pos data
      s.setRun c ch { r with
        pos := r.pos + n, moved := r.moved + n, code := if code = .poison then .poison else r.code, phase := .running }
    else
      let s := if code = .dead then s.sramStore c d r.pos data else s
      s.setRun c ch (r.ends code)
  else if code = .done then
    let s := if d.opc = 0x44 then
        s.onCellAt c fun v => v.engineBytes d.sramOff (leBytes 8 (lineField (data.headD 0) 0 64))
      else s
    s.setRun c ch { r with pos := r.pos + n, moved := if d.opc = 0x44 then r.moved else r.moved + n, phase := .running }
  else
    let s := if d.opc = 0x44 ∧ (code = .dead ∨ code = .poison) then
        s.onCellAt c fun v => v.engineBytes d.sramOff (leBytes 8 (2 ^ 64 - 1))
      else s
    s.setRun c ch (r.ends code)

/-- COPY moves every line within the cell, in ascending order. -/
def State.moverCopy (s : State) (c ch : Nat) (r : MvRun) : State :=
  let d := mvDesc r.desc
  let s := s.onCellAt c fun v => (List.range d.lines).foldl
    (fun v i => v.engineLine (d.otherAt (d.operand % 2 ^ 23) i) (v.sram.line (d.sramAt i))) v
  s.setRun c ch { r.ends .done with moved := d.lines }

/-- A CELL_PUT's lines at their destination cell: DENIED, MALFORMED or written (R198, R438). -/
def State.cellPutHere (s : State) (tn : Tenant) (die cell off : Nat) (data : List Line) : Code × State :=
  let c := 32 * die + cell
  if s.code.fronds ≤ die ∨ !inSram off (64 * data.length) then (.malformed, s)
  else if s.cellRun c = runUnallocated ∨ s.cellTenant c ≠ tn then (.denied, s)
  else (.done, s.onCellAt c fun v => data.zipIdx.foldl (fun v (l, k) => v.engineLine (off + 64 * k) l) v)

/-- The request packet of a descriptor. -/
def State.moverPacket (s : State) (c ch : Nat) (r : MvRun) (kind : PacketKind) (cls dst : Nat) (sa : Word) (n : Nat)
    (data : List Line) : BitVec 16 × Packet × State :=
  let (tag, s) := s.newTag
  let d := mvDesc r.desc
  (tag, { Packet.make kind cls s.device dst (s.cellTenant c) with
    posted := d.posted && (d.opc == 0x41 || d.opc == 0x43), addr := sa, lines := n, data := data,
    mask := BitVec.allOnes 64, tag := tag, work := s.moverWork c ch }, s)

/-- Send a descriptor's packet: a posted one moves on at once, another waits for its REPLY, and one to an unreachable
device ends DEAD. -/
def State.moverSend (s : State) (c ch : Nat) (r : MvRun) (tag : BitVec 16) (p : Packet) (n : Nat) (key : List XKey) : State :=
  match s.sendPacket p (if p.posted then none else some (.mover c ch)) with
  | (.dead, s) =>
    match (s.chan c ch).run with
    | none => s
    | some _ => s.moverTake c ch r .dead (List.replicate n lineOnes)
  | (.sent, s) =>
    if p.posted then s.setRun c ch { r with pos := r.pos + n, moved := r.moved + n }
    else s.setRun c ch { r with phase := .remote, tags := [(tag, r.pos, n)], through := key }

/-- The next lines of a CELL_PUT. -/
def State.moverCellPut (s : State) (c ch : Nat) (r : MvRun) : State :=
  let d := mvDesc r.desc
  let (dev, die, cell, off0) := d.target
  let off := d.otherAt off0 r.pos
  if dev = s.device then
    match s.cellPutHere (s.cellTenant c) die cell off ((s.cellAt c).sramLines d r.pos 1) with
    | (.done, s) =>
      let s := if r.pos + 1 = d.lines ∧ d.flagEn then s.addFlag (32 * die + cell) d.flag else s
      s.setRun c ch { r with pos := r.pos + 1, moved := r.moved + 1 }
    | (code, s) => s.setRun c ch (r.ends code)
  else if !s.inStand dev then s.setRun c ch (r.ends .absent)
  else
    let n := d.batch r.pos off
    let last := decide (r.pos + n = d.lines)
    let addr := pack [(0, off), (23, cell), (28, die), (30, d.flag), (46, (last && d.flagEn).toNat)]
    let (tag, p, s) := s.moverPacket c ch r .cellPut 1 dev.toNat (BitVec.ofNat 64 addr) n ((s.cellAt c).sramLines d r.pos n)
    s.moverSend c ch r tag p n []

/-- What a GET, PUT or ATOM wants of the extent entry. -/
def MvDesc.wants (d : MvDesc) : Wants := if d.opc = 0x40 then .load else if d.opc = 0x41 then .store else .atom

/-- An access to the own store: at once, or the descriptor waits for it; a residency fault stops the channel (R141). -/
def State.moverLocal (s : State) (c ch : Nat) (r : MvRun) (sa : Word) (key : XKey) : State :=
  let d := mvDesc r.desc
  let off := saOffset sa
  let b := off / blockBytes
  let tn := s.cellTenant c
  let fault (s : State) (r : MvRun) : State :=
    (s.setRun c ch { r with phase := .fill, through := [key] }).residencyFault (dieOf c) tn (granuleOf (d.tenantAt r.pos)) b c ch
  let resv := s.kvResv tn (d.tenantAt r.pos)
  if d.opc = 0x40 ∧ !s.moverReads b then fault s r
  else
    let s := if d.opc = 0x40 then s.readFrom c ch b else s
    match (s.chan c ch).run with
    | none => s
    | some r =>
      let kind : AccKind :=
        if d.opc = 0x40 then .load 1
        else if d.opc = 0x41 then .store ((s.cellAt c).sramLines d r.pos 1) (BitVec.allOnes 64)
        else .atom d.atop (BitVec.ofNat 64 d.operand) (BitVec.ofNat 64 d.compare)
      let s := s.setRun c ch { r with phase := .store, through := [key] }
      let s := s.homeAccess { who := .mover c ch, tenant := tn, off := off, kind := kind, resv := resv }
      match (s.chan c ch).run with
      | none => s
      | some r =>
        -- a write that waits for a copy-on-write is a residency fault
        if r.phase = .store ∧ d.opc ≠ 0x40 ∧ (s.blk b).cow.isSome then fault s r else s

/-- The next lines of a GET, PUT or ATOM (R139). -/
def State.moverLine (s : State) (c ch : Nat) (r : MvRun) : State :=
  let d := mvDesc r.desc
  let tn := s.cellTenant c
  let a := d.tenantAt r.pos
  match s.xltHit c tn (granuleOf a) with
  | (false, s) => (s.setRun c ch { r with phase := .walk }).openWalk (dieOf c) tn (granuleOf a) c ch
  | (true, s) =>
    match s.lookup tn a d.wants true with
    | .fails code => s.setRun c ch (r.ends code)
    | .stand sa key =>
      if s.servesOwn sa then s.moverLocal c ch r sa key
      else
        let dst := saDevice sa
        if d.opc = 0x44 then
          let (tag, p, s) := s.moverPacket c ch r .atomic 2 dst sa 0 []
          s.moverSend c ch r tag
            { p with atop := d.atop, operand := BitVec.ofNat 64 d.operand, compare := BitVec.ofNat 64 d.compare } 1 [key]
        else
          let n := d.batch r.pos (saOffset sa)
          let data := if d.opc = 0x41 then (s.cellAt c).sramLines d r.pos n else []
          let (tag, p, s) := s.moverPacket c ch r (if d.opc = 0x40 then .load else .store) 2 dst sa n data
          s.moverSend c ch r tag p n [key]

/-- One move of a running descriptor; none when it waits or its ending is decided. -/
def State.moverMove (s : State) (c ch : Nat) : Option State :=
  match (s.chan c ch).run with
  | none => none
  | some r =>
    if r.phase ≠ .running then none
    else match r.got with
      | (code, data) :: _ => some (s.moverTake c ch r code data)
      | [] =>
        let d := mvDesc r.desc
        if d.lines ≤ r.pos then some (s.setRun c ch (r.ends r.code))
        else if d.opc = 0x42 then some (s.moverCopy c ch r)
        else if d.opc = 0x43 then some (s.moverCellPut c ch r)
        else some (s.moverLine c ch r)

/-- Run a descriptor as far as it goes now. -/
def State.moverRun : Nat → State → Nat → Nat → State
  | 0, s, _, _ => s
  | fuel + 1, s, c, ch =>
    match s.moverMove c ch with
    | none => s
    | some s => moverRun fuel s c ch

/-- Moves a descriptor may still need: two for each line and its ending. -/
def State.moverFuel (s : State) (c ch : Nat) : Nat :=
  match (s.chan c ch).run with
  | none => 0
  | some r => 2 * ((mvDesc r.desc).lines - r.pos) + 4

/-- Run a channel's descriptor on. -/
def State.moverPump (s : State) (c ch : Nat) : State := State.moverRun (s.moverFuel c ch) s c ch

/-- Does an access of a mover channel wait somewhere in the own store? -/
def State.moverPending (s : State) (c ch : Nat) : Bool :=
  let mine (a : Access) : Bool := a.who == .mover c ch
  (s.tier.blocks.any fun e => e.2.waiting.any mine) || (s.hpt.dir.any fun e => e.2.waiting.any mine) ||
    s.tier.allocWaits.any fun w => match w.2 with
      | .access a => mine a
      | _ => false

/-- A mover that waited for a walk or a fill record goes on. -/
def State.moverResume (s : State) (c ch : Nat) : State :=
  match (s.chan c ch).run with
  | none => s
  | some r =>
    if r.phase = .walk then (s.setRun c ch { r with phase := .running }).moverPump c ch
    else if r.phase = .fill then
      let s := s.setRun c ch { r with phase := if r.got.isEmpty && s.moverPending c ch then .store else .running }
      s.moverPump c ch
    else s

/-- A mover that waits ends with a status. -/
def State.moverFail (s : State) (c ch : Nat) (code : Code) : State :=
  match (s.chan c ch).run with
  | none => s
  | some r => if r.phase = .walk ∨ r.phase = .fill then s.setRun c ch (r.ends code) else s

/-- The block that a waiting mover's next line lies in, on this device. -/
def State.moverBlock (s : State) (c ch : Nat) : Option Nat :=
  (s.chan c ch).run.bind fun r =>
    let d := mvDesc r.desc
    match s.lookup (s.cellTenant c) (d.tenantAt r.pos) d.wants true with
    | .stand sa _ => if BitVec.ofNat 9 (saDevice sa) = s.device then some (saOffset sa / blockBytes) else none
    | .fails _ => none

/-- A descriptor ends (R196): the result word to DONE_OFF, then the flag, then the ticket. A descriptor whose DONE_OFF is
not aligned writes neither. -/
def State.moverFinish (s : State) (c ch : Nat) (r : MvRun) : State :=
  let d := mvDesc r.desc
  let w := resultWord r.code.num false false r.moved
  let s := r.reading.foldl (fun s x => s.endReader x.1 x.2) s
  let s := if r.code = .malformed then s.noteMalformed c else s
  let s := if d.doneOk then
      let s := s.onCellAt c fun v => v.engineBytes d.doneOff (leBytes 8 w.toNat)
      if d.flagEn then s.addFlag c d.flag else s
    else s
  let v := s.chan c ch
  s.setChan c ch { q := if r.orphan then v.q else v.q.finish r.ticket w, run := none }

end Sys2Proof.Machine
end

