-- ==== Sys2Proof/Machine/Hold.lean ====
section
/-! DEFINITION. Schedule messages and holds (R256 to R258, R275), and the holds that the state of the engines calls for
(R92, R95, R106, R147). -/
namespace Sys2Proof.Machine

/-- KIND values of a schedule message (R256). -/
def kReady : Nat := 1
/-- HOLD. -/
def kHold : Nat := 2
/-- BOUNDARY. -/
def kBoundary : Nat := 3
/-- FAIL. -/
def kFail : Nat := 4
/-- SYNC. -/
def kSync : Nat := 5

/-- The causes of R275. -/
def causeStream : Nat := 1
/-- FAULT. -/
def causeFault : Nat := 2
/-- REFETCH. -/
def causeRefetch : Nat := 3
/-- PEER. -/
def causePeer : Nat := 4
/-- BOUNDARY. -/
def causeBoundary : Nat := 5
/-- REHEARSAL. -/
def causeRehearsal : Nat := 6
/-- OVERRUN. -/
def causeOverrun : Nat := 7

/-- The device is the time source of the stand (R255, R294). -/
def State.isSource (s : State) : Bool := s.getF F.schedSync_role == 1

/-- A schedule message of this device for the current wale. -/
def State.schedMsg (s : State) (kind : Nat) : SchedMsg :=
  { kind := kind, epoch := BitVec.ofNat 8 (s.getF F.schedSync_epoch), cause := 0, device := s.device, count := 0,
    wale := s.wale, time := 0, lenUs := 0 }

/-- Send a schedule message to the parent on the time tree (R253, R256). -/
def State.sendUp (s : State) (m : SchedMsg) : State :=
  match s.sched.parent with
  | none => s
  | some p => s.sendMsg p 1 0 (.sched m)

/-- The time source notes the latest HOLD in force (R297). -/
def State.noteHold (s : State) (cause : Nat) (dev : DevNo) : State :=
  (s.setF F.schedHold_standCause 0 cause).setF F.schedHold_holder 0 dev.toNat

/-- Send HOLD with a cause towards the time source (R258). -/
def State.sendHold (s : State) (cause : Nat) : State :=
  if s.isSource then s.noteHold cause s.device else s.sendUp { s.schedMsg kHold with cause := cause }

/-- A cause arises: the device holds, and says so (R258). -/
def State.holdFor (s : State) (cause : Nat) : State :=
  if s.sched.holds.contains cause then s
  else (s.onSched fun x => { x with holds := x.holds ++ [cause] }).sendHold cause

/-- A cause ends. -/
def State.unhold (s : State) (cause : Nat) : State :=
  s.onSched fun x => { x with holds := x.holds.filter (· != cause) }

/-! ### Holds that the engines' state calls for -/

/-- The ready flag of a die's stream, as an offset in a cell (R87, R165). -/
def State.readyFlag (s : State) (die c : Nat) : Option Nat :=
  match s.tier.streams.find? fun e => e.1 == die with
  | none => none
  | some (_, st) => st.layers[st.layer]?.map fun l => s.flagBase c + 8 * l.flagIndex

/-- Does a scheduled cell wait for a streamed half (R92)? -/
def State.streamWait (s : State) (c : Nat) (v : Cell) : Bool :=
  v.track.isSome && (match v.stall with
    | .flagWait off _ _ _ => s.readyFlag (dieOf c) c == some off
    | _ => false)

/-- Does a scheduled cell wait for a mover that stands at a residency fault (R95, R147)? -/
def faultWait (v : Cell) : Bool :=
  v.track.isSome && (match v.stall with
    | .engWait q t _ => decide (8 ≤ q) && (match (v.mv.get (q - 8) .fresh).run with
      | some r => r.phase == .fill && decide ((t + 65536 - r.ticket) % 65536 < 32768)
      | none => false)
    | .rel _ => v.mv.any fun e => match e.2.run with
      | some r => r.phase == .fill && !r.orphan
      | none => false
    | _ => false)

/-- Does scheduled work read a block that is refetched (R106): a mover of a scheduled cell waits for it, or a stream's
current layer holds it? -/
def State.refetchWait (s : State) : Bool :=
  s.tier.blocks.any fun (b, e) => e.refetch.isSome &&
    ((s.xlt.fills.any fun f => f.blocks.contains b && f.waiting.any fun w => (s.cellAt w.1).track.isSome) ||
      s.tier.streams.any fun (_, st) => match st.layers[st.layer]? with
        | none => false
        | some l => l.holds b)

/-- One of the holds of causes 1 to 3 starts or ends with its condition; its status bit is set as it starts. -/
def State.trackHold (s : State) (cause : Nat) (due : Bool) (bit : Option Fld) : State :=
  if due then
    if s.sched.holds.contains cause then s
    else
      let s := match bit with
        | some f => s.flag f
        | none => s
      s.holdFor cause
  else s.unhold cause

/-- STREAM, FAULT and REFETCH follow the state of the engines. -/
def State.refreshHolds (s : State) : State :=
  let s := s.trackHold causeStream (s.cell.cells.any fun e => s.streamWait e.1 e.2) (some F.tierStatus_streamStall)
  let s := s.trackHold causeFault (s.cell.cells.any fun e => faultWait e.2) (some F.tierStatus_prefetchLate)
  let injected := match s.map.active with
    | some (k, d) => k == 3 && d == s.device
    | none => false
  s.trackHold causeRefetch (s.refetchWait && !injected) none

end Sys2Proof.Machine
end

