-- ==== Sys2Proof/Machine/VectorOps.lean ====
section
/-! DEFINITION. Arithmetic on the elements of the vector engine (R186 to R189). -/
namespace Sys2Proof.Machine

/-- FP32 sum. -/
def add32 (a b : Nat) : Nat := fmtFP32.near ((fmtFP32.decode a).add (fmtFP32.decode b)).1

/-- FP32 difference. -/
def sub32 (a b : Nat) : Nat := fmtFP32.near ((fmtFP32.decode a).add (fmtFP32.decode b).neg).1

/-- FP32 product. -/
def mul32 (a b : Nat) : Nat := fmtFP32.near ((fmtFP32.decode a).mul (fmtFP32.decode b)).1

/-- FP32 fused multiply-add, one rounding. -/
def fma32 (a b c : Nat) : Nat :=
  fmtFP32.near (((fmtFP32.decode a).mul (fmtFP32.decode b)).1.add (fmtFP32.decode c)).1

/-- Is the FP32 code a NaN? -/
def isNan32 (a : Nat) : Bool := decide (fmtFP32.top < a % 2 ^ 31)

/-- The order of R186: −0 below +0, a NaN below every other value. -/
def key32 (a : Nat) : Int :=
  if isNan32 a then -(2 ^ 32 : Nat) else if a.testBit 31 then -((a % 2 ^ 31 : Nat) : Int) - 1 else (a : Int)

/-- Larger of two FP32 codes; NaN if either is NaN. -/
def max32 (a b : Nat) : Nat :=
  if isNan32 a || isNan32 b then fmtFP32.qnan else if key32 a < key32 b then b else a

/-- Smaller of two FP32 codes; NaN if either is NaN. -/
def min32 (a b : Nat) : Nat :=
  if isNan32 a || isNan32 b then fmtFP32.qnan else if key32 b < key32 a then b else a

/-- A BF16 code as FP32 is exact. -/
def bf16to32 (a : Nat) : Nat := a * 65536

/-- Round an FP32 code once to BF16. -/
def fp32toBf16 (a : Nat) : Nat := fmtBF16.near (fmtFP32.decode a)

/-- One level of a pairwise tree; a partial result whose partner is absent passes up unchanged (R188). -/
def treeLevel (f : Nat → Nat → Nat) : List Nat → List Nat
  | a :: b :: r => f a b :: treeLevel f r
  | l => l

/-- The levels of a tree. -/
def tree (f : Nat → Nat → Nat) : Nat → List Nat → List Nat
  | 0, l => l
  | n + 1, l => tree f n (treeLevel f l)

/-- Groups of `n` elements, in order. -/
def groupsOf (n : Nat) : Nat → List Nat → List (List Nat)
  | 0, _ => []
  | fuel + 1, l => if l.isEmpty then [] else l.take n :: groupsOf n fuel (l.drop n)

/-- RSUM and RMAX: groups of 64 by a tree of six levels, then a left fold over the groups (R188). -/
def reduce64 (f : Nat → Nat → Nat) (l : List Nat) : Nat :=
  match (groupsOf 64 (l.length + 1) l).map fun g => (tree f 6 g).headD 0 with
  | [] => 0
  | a :: r => r.foldl f a

/-- Index of the largest FP32 code, lowest on ties; 0 when every one is NaN. -/
def argmax32 (l : List Nat) : Nat :=
  (l.zipIdx.foldl (fun best e => match best with
    | none => some e
    | some b => if key32 b.1 < key32 e.1 then some e else some b) (none : Option (Nat × Nat))).elim 0 (·.2)

/-- Exact window value of a conversion, W × 2^-50, as a number (R178). -/
def windowNum (w : Int) : Num := numOf w (-50) false

/-- Convert an exact window value out of the window (R178): FP32, BF16, E4M3, E5M2 or INT32. -/
def windowOut (fmt : Nat) (sat : Bool) (w : Int) (nan : Bool) : Nat :=
  if fmt = 7 then (if nan then 0 else lowBits 32 (max (-(2 ^ 31 : Nat)) (min (w.tdiv (2 ^ 50 : Nat)) ((2 ^ 31 : Nat) - 1))))
  else if nan then (floatFmt fmt).qnan
  else if fmt = 0 ∨ fmt = 1 then (floatFmt fmt).small sat (windowNum w)
  else (floatFmt fmt).near (windowNum w)

/-- Saturate to `n` bits of two's complement. -/
def satInt (n : Nat) (v : Int) : Nat := lowBits n (max (-(2 ^ (n - 1) : Nat)) (min v ((2 ^ (n - 1) : Nat) - 1)))

/-- A number rounded to nearest and saturated to an integer format (R187). -/
def numToInt (n : Nat) (x : Num) : Nat :=
  match x with
  | .nan => 0
  | .inf neg => if neg then 2 ^ (n - 1) else 2 ^ (n - 1) - 1
  | x => satInt n (x.toInt .rne).1

/-- A wide element: W, OVF, NAN (R177). -/
structure Wide where
  w : Int
  ovf : Bool
  nan : Bool
  deriving DecidableEq, Repr

/-- Read a wide element's 128 bits. -/
def wideOf (v : Nat) : Wide := { w := signedNat 96 (v % 2 ^ 96), ovf := v.testBit 96, nan := v.testBit 97 }

/-- The 128 bits of a wide element. -/
def Wide.bits (x : Wide) : Nat := lowBits 96 x.w + x.ovf.toNat * 2 ^ 96 + x.nan.toNat * 2 ^ 97

/-- The E2M1 code of a NaN, which the format has none for: open (assumption 4). -/
def nanToE2M1 (stype v : Nat) : Nat := Config.openNumber (256 * stype + 0x2A) v % 16

/-- CVT of one element's code (R187). -/
def cvt (stype dtype : Nat) (sat : Bool) (v : Nat) : Nat :=
  if stype = 8 then
    let x := wideOf v
    if dtype = 3 then (if x.nan then 0 else satInt 8 (signedNat 32 (windowOut 7 sat x.w false)))
    else if dtype = 2 then (if x.nan then nanToE2M1 stype v else fmtE2M1.small true (windowNum x.w))
    else windowOut dtype sat x.w x.nan
  else
    let x := elemNum stype v
    if dtype = 3 then numToInt 8 x
    else if dtype = 7 then numToInt 32 x
    else if dtype = 2 then (if x = .nan then nanToE2M1 stype v else fmtE2M1.small true x)
    else if dtype = 0 ∨ dtype = 1 then (floatFmt dtype).small sat x
    else (floatFmt dtype).near x

end Sys2Proof.Machine
end

