-- ==== Sys2Proof/Machine/Sampling.lean ====
section
/-! DEFINITION. Deterministic sampling of a token: AES-128 in counter mode and the procedure of R336. -/
namespace Sys2Proof.Machine

/-! ### AES-128 (R335) -/

/-- Multiply by x in GF(2^8). -/
def xtime (a : Byte) : Byte := if a.getLsbD 7 then (a <<< 1) ^^^ 0x1B else a <<< 1

/-- Product in GF(2^8), over the bits of `b`. -/
def gmul (a b : Byte) : Byte :=
  ((List.range 8).foldl (fun (acc : Byte × Byte) i => (xtime acc.1, if b.getLsbD i then acc.2 ^^^ acc.1 else acc.2)) (a, 0)).2

/-- a^254, the inverse of `a` (0 for 0). -/
def ginv (a : Byte) : Byte :=
  let a2 := gmul a a; let a3 := gmul a2 a; let a6 := gmul a3 a3; let a12 := gmul a6 a6; let a15 := gmul a12 a3
  let a30 := gmul a15 a15; let a60 := gmul a30 a30; let a120 := gmul a60 a60; let a126 := gmul a120 a6
  let a127 := gmul a126 a
  gmul a127 a127

/-- The S-box. -/
def sbox (a : Byte) : Byte :=
  let b := ginv a
  b ^^^ b.rotateLeft 1 ^^^ b.rotateLeft 2 ^^^ b.rotateLeft 3 ^^^ b.rotateLeft 4 ^^^ 0x63

/-- Byte `i` of a list. -/
def byteAt (l : List Byte) (i : Nat) : Byte := l.getD i 0

/-- The next round key: 16 bytes from 16 bytes and the round constant. -/
def nextKey (k : List Byte) (rc : Byte) : List Byte :=
  let t (i : Nat) : Byte := sbox (byteAt k (12 + (i + 1) % 4)) ^^^ (if i = 0 then rc else 0)
  let w0 := (List.range 4).map fun i => byteAt k i ^^^ t i
  let w1 := (List.range 4).map fun i => byteAt k (4 + i) ^^^ byteAt w0 i
  let w2 := (List.range 4).map fun i => byteAt k (8 + i) ^^^ byteAt w1 i
  let w3 := (List.range 4).map fun i => byteAt k (12 + i) ^^^ byteAt w2 i
  w0 ++ w1 ++ w2 ++ w3

/-- SubBytes and ShiftRows: byte 4c + r comes from 4 ((c + r) mod 4) + r. -/
def subShift (s : List Byte) : List Byte :=
  (List.range 16).map fun i => sbox (byteAt s (4 * ((i / 4 + i % 4) % 4) + i % 4))

/-- MixColumns. -/
def mixColumns (s : List Byte) : List Byte :=
  (List.range 16).map fun i =>
    let a (k : Nat) : Byte := byteAt s (4 * (i / 4) + (i + k) % 4)
    xtime (a 0) ^^^ (xtime (a 1) ^^^ a 1) ^^^ a 2 ^^^ a 3

/-- Byte-wise exclusive or. -/
def xorBytes (a b : List Byte) : List Byte := List.zipWith (· ^^^ ·) a b

/-- Rounds of the cipher; the last has no MixColumns. -/
def aesRounds : Nat → Byte → List Byte → List Byte → List Byte
  | 0, _, _, s => s
  | 1, rc, k, s => xorBytes (subShift s) (nextKey k rc)
  | n + 2, rc, k, s =>
    let k' := nextKey k rc
    aesRounds (n + 1) (xtime rc) k' (xorBytes (mixColumns (subShift s)) k')

/-- AES-128 of a block. -/
def aes128 (key block : List Byte) : List Byte := aesRounds 10 1 key (xorBytes block key)

/-- U of token index `i`: the 24 upper bits of the low 64 ciphertext bits, times 2^-24, as an FP32 code (R335). -/
def sampleU (seed request : Word) (i : Nat) : Nat :=
  let key := leBytes 8 seed.toNat ++ leBytes 8 request.toNat
  let u := leNat ((aes128 key (leBytes 16 (i % 2 ^ 32))).take 8)
  fmtFP32.near (.fin false (u / 2 ^ 40) (-24))

/-! ### The procedure (R336) -/

/-- Is index `i` before `j` in order of value descending, index ascending? -/
def ranksBefore (y : List Nat) (i j : Nat) : Bool :=
  let a := key32 (y.getD i 0)
  let b := key32 (y.getD j 0)
  decide (b < a) || (a == b && decide (i < j))

/-- Insert an index into a list in rank order. -/
def rankInsert (y : List Nat) (i : Nat) : List Nat → List Nat
  | [] => [i]
  | j :: r => if ranksBefore y i j then i :: j :: r else j :: rankInsert y i r

/-- Indices in order of value descending, index ascending. -/
def rankOrder (y : List Nat) : List Nat := (List.range y.length).foldl (fun l i => rankInsert y i l) []

/-- Is an FP32 code above 0? -/
def pos32 (a : Nat) : Bool := !isNan32 a && !a.testBit 31 && a != 0

/-- Is `a > b`, false for NaN? -/
def gt32 (a b : Nat) : Bool :=
  !isNan32 a && !isNan32 b && decide ((fmtFP32.decode a).cmp (fmtFP32.decode b) = 1)

/-- Is `a ≥ b`, false for NaN? -/
def ge32 (a b : Nat) : Bool :=
  !isNan32 a && !isNan32 b && decide (0 ≤ (fmtFP32.decode a).cmp (fmtFP32.decode b))

/-- The nucleus: in rank order, an index whose running sum before it has reached `t` is dropped. -/
def nucleus (p : List Nat) (t : Nat) : List Nat → Nat → List Nat → List Nat
  | [], _, out => out
  | i :: r, c, out => if ge32 c t then nucleus p t r c (i :: out) else nucleus p t r (add32 c (p.getD i 0)) out

/-- The first index at which the running sum passes `x`. -/
def walkTo (x : Nat) : List Nat → Nat → Nat → Option Nat
  | [], _, _ => none
  | v :: r, i, c => let c := add32 c v; if pos32 v && gt32 c x then some i else walkTo x r (i + 1) c

/-- The largest element of a list of indices that a test picks. -/
def lastIndex (t : Nat → Bool) (n : Nat) : Option Nat := (List.range n).foldl (fun b i => if t i then some i else b) none

/-- TOP_P is off at 0 or from 1.0 on (R310). -/
def topPOn (topP : Nat) : Bool := topP != 0 && !ge32 (bf16to32 topP) 0x3F800000

/-- The token that R336 samples from logits `z`. -/
def sampleToken (z : List Nat) (greedy : Bool) (temp topK topP : Nat) (seed request : Word) (index : Nat) : Nat :=
  if greedy ∨ temp = 0 then argmax32 z
  else
    let inv := fp32Special 0x29 (bf16to32 temp)
    let y := z.map fun v => mul32 v inv
    let order := rankOrder y
    let kept := if topK = 0 then order else order.take topK
    let m := y.getD (kept.headD 0) 0
    let p := y.zipIdx.map fun (v, i) => if kept.contains i then fp32Special 0x26 (sub32 v m) else 0
    let p :=
      if topPOn topP then
        let t := mul32 (reduce64 add32 p) (bf16to32 topP)
        let dropped := nucleus p t (rankOrder p) 0 []
        p.zipIdx.map fun (v, i) => if dropped.contains i then 0 else v
      else p
    let r := mul32 (sampleU seed request index) (reduce64 add32 p)
    match walkTo r p 0 0 with
    | some i => i
    | none =>
      match lastIndex (fun i => pos32 (p.getD i 0)) p.length with
      | some i => i
      | none => kept.headD 0

end Sys2Proof.Machine
end

