-- ==== Sys2Proof/Machine/Service.lean ====
section
/-! DEFINITION. The inference service: slots, admission, contexts, the KV cache, records, degraded models (R301 to
R348). -/
namespace Sys2Proof.Machine

/-! ### Apertures and slots (R301 to R308, R312) -/

/-- Replace a tenant's aperture. -/
def State.setAperture (s : State) (t : Tenant) (a : Aperture) : State :=
  s.onSvc fun x => { x with apertures := x.apertures.put t.toNat a }

/-- SVC_APERTURE[n].LINES. -/
def State.apLines (s : State) (t : Tenant) : Nat := s.getF F.svcAperture_lines t.toNat

/-- A slot. -/
def State.slot (s : State) (t : Tenant) (i : Nat) : Slot := (s.aperture t).slots.get i .fresh

/-- Replace a slot. -/
def State.setSlot (s : State) (t : Tenant) (i : Nat) (v : Slot) : State :=
  let a := s.aperture t
  s.setAperture t { a with slots := a.slots.put i v }

/-- A command line that ended with a code other than DONE without binding a context is counted (R352). -/
def State.countReject (s : State) (code : Code) : State :=
  if code = .done then s else s.addF F.svcRejectCount_count 0 1

/-- A slot's command ends: the slot is FREE and reads the status. -/
def State.slotEnd (s : State) (t : Tenant) (i : Nat) (code : Code) (detail : Nat) : State :=
  let v := s.slot t i
  let s := match v.resv with
    | some r => s.releaseResv r
    | none => s
  let s := s.setSlot t i { v with
    held := false, status := s.statusWord t code detail, doneWale := s.wale, asked := false, granted := [], resv := none }
  let s := if code = .late then s.flag F.svcStatus_lateEnd { tenant := t.toNat, index := i % 256 } else s
  s.countReject code

/-- A write to an aperture line is discarded and counted (R302, R303). -/
def State.apDiscard (s : State) (t : Tenant) (i : Nat) : State :=
  let s :=
    if i = 0 then
      let a := s.aperture t
      s.setAperture t { a with discards := min (a.discards + 1) 255 }
    else
      let v := s.slot t i
      s.setSlot t i { v with discards := min (v.discards + 1) 255 }
  s.flag F.svcStatus_discard { tenant := t.toNat, index := i % 256 }

/-- An access to a line the aperture does not have (R302). -/
def State.apAbsent (s : State) (t : Tenant) : State := s.emit (.status t (s.statusWord t .absent 0))

/-- Opcode of a command line (R309). -/
def lineOpc (l : Line) : Nat := dfield l 0 0 8

/-- The first byte from a list of offsets that is not zero. -/
def firstNonZero (l : Line) (bs : List Nat) : Option Nat := bs.find? fun b => dfield l b 0 8 != 0

/-- Bytes of a range. -/
def bytesFrom (lo hi : Nat) : List Nat := (List.range (hi - lo)).map (· + lo)

/-- REQUEST_ID. -/
def lineReq (l : Line) : Word := BitVec.ofNat 64 (dfield l 8 0 64)

/-- The held slots of a tenant with the opcode, as (slot, value). -/
def State.heldWith (s : State) (t : Tenant) (opc : Nat) : List (Nat × Slot) :=
  (s.aperture t).slots.filter fun e => e.2.held && lineOpc e.2.line == opc

/-- Has the tenant a held or live request of that identifier (R312)? -/
def State.hasRequest (s : State) (t : Tenant) (r : Word) : Bool :=
  ((s.heldWith t 1).any fun e => e.2.requestId == r) || s.svc.ctxs.any fun e => e.2.live && e.2.tenant == t && e.2.requestId == r

/-- Is a BF16 code negative or NaN (R312)? −0 is not below zero. -/
def bf16Bad (v : Nat) : Bool := decide (0x7F80 < v % 32768) || (v.testBit 15 && v % 32768 != 0)

/-- The first field of a START line that fails its check, by byte offset (R312). -/
def State.startCheck (s : State) (t : Tenant) (l : Line) : Option Nat :=
  let f := dfield l
  let cls := f 0 16 5
  ([ (0x00, lineOpc l != 1), (0x01, decide (64 ≤ f 0 8 8)), (0x02, s.getF F.svcClass_valid cls == 0 || f 0 21 3 != 0),
     (0x03, f 0 28 4 != 0), (0x04, f 4 0 4 == 0 || decide (8 < f 4 0 4) || f 4 4 12 != 0), (0x06, decide (1024 < f 6 0 16)),
     (0x08, s.hasRequest t (lineReq l)), (0x18, f 0x18 0 56 % 64 != 0), (0x1F, f 0x1F 0 8 != 0),
     (0x20, f 0x20 0 32 == 0 || decide (2048 < f 0x20 0 32) ||
       (decide (1 < f 0x20 0 32) && s.getF F.svcClass_cellPrefill cls == 0)),
     (0x24, f 0x24 0 32 == 0), (0x28, f 0x28 0 56 % blockBytes != 0), (0x2F, f 0x2F 0 8 != 0),
     (0x30, f 0x30 0 32 != 0 && f 0 26 1 == 0), (0x38, bf16Bad (f 0x38 0 16)), (0x3A, bf16Bad (f 0x3A 0 16)) ].find?
    fun e => e.2).map (·.1)

/-- The first field of a CANCEL, DROP or RING line that fails its check (R311, R312). -/
def otherCheck (l : Line) : Option Nat :=
  let used : List Nat :=
    if lineOpc l = 2 then 0 :: bytesFrom 8 16
    else if lineOpc l = 3 then [0, 1] ++ bytesFrom 0x28 0x2F ++ bytesFrom 0x30 0x34
    else 0 :: (bytesFrom 0x18 0x1F ++ bytesFrom 0x20 0x24)
  let bad (i : Nat) : Bool :=
    if used.contains i then
      lineOpc l = 4 && ((i == 0x18 && dfield l 0x18 0 56 % 4096 != 0) ||
        (i == 0x20 && !((List.range 15).any fun k => dfield l 0x20 0 32 == 64 * 2 ^ k)))
    else dfield l i 0 8 != 0
  (List.range 64).find? bad

/-- The device number of the time source (R294). -/
def State.timeSource (s : State) : DevNo := BitVec.ofNat 9 (s.getF F.schedSync_source)

/-- A PWR command ends. -/
def State.pwrEnd (s : State) (code : Nat) : State := (s.setF F.pwrCmd_busy 0 0).setF F.pwrCmd_code 0 code

/-- A sleep sequence is abandoned before step 4: AWAKE is sent; a command's code is then open (R664, assumption 24). -/
def State.abandonSleep (s : State) : State :=
  match s.pwr.seq with
  | .falling command =>
    let s := (s.onPwr fun p => { p with seq := .none, restWales := 0 }).flag F.pwrStatus_sleepAbandoned
    let s := s.sendMsg s.timeSource 0 0 (.awake s.device s.wale)
    if command then
      let (v, s) := s.fresh
      s.pwrEnd (v.toNat % 256)
    else s
  | _ => s

/-- A device in REST returns to SERVICE; a sleep sequence that has begun is abandoned (R661, R664). -/
def State.leaveRest (s : State) : State :=
  if s.mode = .rest then
    (s.abandonSleep.setMode .service).onPwr fun p => { p with idleWales := 0, restWales := 0 }
  else s

/-- A whole-line write to a slot, once its check has given the first bad field (R303, R312). -/
def State.landWith (s : State) (t : Tenant) (i : Nat) (l : Line) (bad : Option Nat) : State :=
  if s.apLines t ≤ i ∨ i = 0 then s.apAbsent t
  else
    let v := s.slot t i
    if v.held then s.apDiscard t i
    else
      let v := { v with line := l, requestId := lineReq l, landWale := s.wale, stamp := s.stime }
      let no (code : Code) (detail : Nat) : State :=
        (s.setSlot t i { v with status := s.statusWord t code detail, doneWale := s.wale }).countReject code
      if s.mode = .crust then no .crust 0
      else if s.mode = .repair then no .retry 1
      else match bad with
        | some off => no .malformed off
        | none =>
          (s.setSlot t i { v with
            held := true, status := s.statusWord t .done 1, discards := 0, doneWale := 0, context := 0, prompt := [],
            granted := [], asked := false, resv := none }).leaveRest

/-! ### Tenant addresses (R136, R329) -/

/-- The granules of a tenant range. -/
def granules (addr bytes : Nat) : List Nat :=
  (List.range ((addr + bytes + granuleBytes - 1) / granuleBytes - addr / granuleBytes)).map (· + addr / granuleBytes)

/-- The first failure of the lookups of a tenant range, as the service's movers see it (R136). -/
def State.rangeFails (s : State) (t : Tenant) (addr bytes : Nat) (w : Wants) : Option Code :=
  (granules addr (max bytes 1)).findSome? fun g =>
    match s.lookup t (g * granuleBytes) w true with
    | .fails c => some c
    | .stand _ _ => none

/-- Does the range translate to this device throughout? -/
def State.rangeHere (s : State) (t : Tenant) (addr bytes : Nat) : Bool :=
  (granules addr (max bytes 1)).all fun g =>
    match s.entryAt t g with
    | none => false
    | some e => BitVec.ofNat 9 (saDevice e.stand) == s.device

/-- The own STORE offset of a tenant address; none when it lies elsewhere. -/
def State.ownOffset (s : State) (t : Tenant) (addr : Nat) : Option Nat :=
  (s.entryAt t (granuleOf addr)).bind fun e =>
    let sa := e.standOf addr
    if BitVec.ofNat 9 (saDevice sa) = s.device then some (saOffset sa) else none

/-- The check of a KV region (R329): RD, WR and MOVER throughout, and this device. -/
def State.kvFails (s : State) (t : Tenant) (addr bytes : Nat) : Option Code :=
  match s.rangeFails t addr bytes .load with
  | some c => some c
  | none => match s.rangeFails t addr bytes .store with
    | some c => some c
    | none => if s.rangeHere t addr bytes then none else some .denied

/-- A byte of the own store, with no effect on the tiers: what a HELD copy or a LIVE frame holds. -/
def State.peekOff (s : State) (off : Nat) : Byte :=
  let e := s.blk (off / blockBytes)
  if e.state = .sealed then ((s.image e).map fun im => im.payload.byte (off % blockBytes)).getD 0 else s.mem.byte off

/-- Bytes of the own store at a tenant address. -/
def State.peekBytes (s : State) (t : Tenant) (addr n : Nat) : List Byte :=
  (List.range n).map fun i => ((s.ownOffset t (addr + i)).map s.peekOff).getD 0

/-- A range of the own store that a read can serve now: no block quarantined, sealed without a HELD copy, or poisoned in
the lines read. Answers the code of the first line that fails; `none` in the code: it waits. -/
def State.rangeReady (s : State) (t : Tenant) (addr n : Nat) : Option Code :=
  let lines := (List.range ((addr + n + 63) / 64 - addr / 64)).map fun k => 64 * (addr / 64 + k)
  let code (a : Nat) : Code :=
    match s.ownOffset t a with
    | none => .dead
    | some off =>
      let b := off / blockBytes
      let e := s.blk b
      if s.storeSize ≤ off then .absent
      else match s.homeCheck t off with
        | some c => c
        | none =>
          if e.state = .quarantined ∨ (e.state ≠ .sealed ∧ e.poison.contains (off % blockBytes / 64)) then .poison
          else if e.state = .sealed ∧ !s.moverReads b then .retry
          else .done
  (lines.map code).find? (· != .done)

/-- The lines of a tenant range, and how its read ends: an own line by what the store answers, a line of another device DEAD
where `dead` says so of its address, else with free bytes (R316, R380, R383, assumption 22). A read that waits on memory is
over before what reads it goes on. -/
def State.readLines (s : State) (t : Tenant) (addr n : Nat) (dead : Nat → Bool) : Code × List Line × State :=
  (List.range ((n + 63) / 64)).foldl (fun (acc : Code × List Line × State) i =>
    let (code, ls, s) := acc
    let a := addr + 64 * i
    match s.ownOffset t a with
    | some _ =>
      let c := match s.rangeReady t a 64 with
        | none | some .retry => Code.done
        | some c => c
      (firstStatus code c, ls ++ [BitVec.ofNat 512 (leNat (s.peekBytes t a 64))], s)
    | none =>
      let data : Line := BitVec.ofNat 512 (((List.range 8).map fun k => (Config.freeWord (s.free + k)).toNat * 2 ^ (64 * k)).sum)
      (firstStatus code (if dead a then .dead else .done), ls ++ [data], { s with free := s.free + 8 })) (.done, [], s)

/-- Does a tenant address lie on a device that is marked unreachable (R463)? -/
def State.addrDead (s : State) (t : Tenant) (addr : Nat) : Bool :=
  match s.entryAt t (granuleOf addr) with
  | none => false
  | some e => s.unreachable (BitVec.ofNat 9 (saDevice (e.standOf addr)))

/-- Store free bytes to a tenant range of the own store on behalf of the service: what the kernels write there is their
arithmetic (R330, R334). -/
def State.storeOpen (s : State) (t : Tenant) (addr n : Nat) (resv : Option Nat) : State :=
  let first := addr / 64
  (List.range ((addr + n + 63) / 64 - first)).foldl (fun s k =>
    let a := 64 * (first + k)
    match s.ownOffset t a with
    | none => s
    | some off =>
      let mask : Mask := BitVec.ofNat 64 (((List.range 64).filter fun i =>
        decide (addr ≤ a + i) && decide (a + i < addr + n)).foldl (fun m i => m + 2 ^ i) 0)
      let data : Line := BitVec.ofNat 512 (((List.range 8).map fun i =>
        (Config.freeWord (s.free + i)).toNat * 2 ^ (64 * i)).sum)
      ({ s with free := s.free + 8 } : State).homeAccess
        { who := .device, tenant := t, off := off, kind := .store [data] mask, resv := resv }) s

/-! ### Contexts (R319, R320) -/

/-- Replace a context. -/
def State.setCtx (s : State) (n : Nat) (c : Ctx) : State := s.onSvc fun x => { x with ctxs := x.ctxs.put n c }

/-- SVC_CTX.STATE. -/
def CtxState.num : CtxState → Nat
  | .free => 0 | .prefill => 1 | .decode => 2 | .stalled => 3 | .ending => 4 | .resuming => 5

/-- Does an end of this kind apply in the state (R320)? RESUMING takes cancel, deadline and POISON only. -/
def endApplies (st : CtxState) (code : Code) (detail : Nat) : Bool :=
  match st with
  | .prefill | .decode | .stalled => true
  | .resuming => code == .late || code == .poison || (code == .aborted && detail == 1)
  | _ => false

/-- A request enters ENDING with its code and DETAIL (R320). -/
def State.ctxEnd (s : State) (n : Nat) (code : Code) (detail : Nat) : State :=
  match s.svc.ctxs.find? fun e => e.1 == n with
  | none => s
  | some (_, c) =>
    if endApplies c.state code detail then
      let s := s.setCtx n { c with state := .ending, ending := some (code, detail) }
      let note : Note := { tenant := c.tenant.toNat, index := n % 256 }
      if code = .poison then s.flag F.svcStatus_poisoned note
      else if code = .late then s.flag F.svcStatus_lateEnd note
      else if code = .aborted ∧ (detail = 2 ∨ detail = 3) then s.flag F.svcStatus_abortEnd note
      else if detail = 3 ∧ code ≠ .done then s.flag F.svcStatus_abortEnd note
      else s
    else s

/-- Pending tokens of a context: sampled and in no record that has landed (R341). -/
def State.pendingTokens (s : State) (n : Nat) (c : Ctx) : Nat :=
  c.pendingTok.length + ((s.svc.records.filter fun r => r.ctx == n && !r.isEnd).map (·.tokens)).sum

/-! ### Completion records (R338 to R343) -/

/-- The ring that a context's records go to: its tenant's here, or the one that an adopted device left (R552). -/
def Ctx.ring (c : Ctx) : Nat := if c.resumed then 256 + c.tenant.toNat else c.tenant.toNat

/-- A completion ring, with the rest of its aperture. -/
def State.ringAt (s : State) (k : Nat) : Aperture := s.svc.apertures.get k .fresh

/-- The next SEQ of a ring: after the records already formed. -/
def State.nextRecSeq (s : State) (k : Nat) : Nat :=
  ((s.ringAt k).produced + (s.svc.records.filter fun r => r.ring == k).length + 1) % 2 ^ 32

/-- Form a record: its line is mirrored before it is written (R339, R342). -/
def State.formRecord (s : State) (n : Nat) (c : Ctx) (isEnd : Bool) (first : Nat) (tokens : List Nat) (count : Nat)
    (code : Code) (detail : Nat) : State :=
  let t := c.tenant
  let a := s.ringAt c.ring
  let seq := s.nextRecSeq c.ring
  let age := min (s.wale.toNat - c.admitWale.toNat) 65535
  let line : Line := BitVec.ofNat 512 (pack ([(0, (s.statusWord t code detail).toNat), (64, c.requestId.toNat), (128, seq),
    (160, n), (173, isEnd.toNat), (174, (c.resumed || c.wasResumed).toNat), (176, count), (192, first), (224, age)] ++
    tokens.zipIdx.map fun (v, i) => (256 + 32 * i, v % 2 ^ 32)))
  let addr := a.ringBase + 64 * ((seq + 2 ^ 32 - 1) % 2 ^ 32 % max a.ringEntries 1)
  let r : Record := { ctx := n, tenant := t, ring := c.ring, isEnd := isEnd, seq := seq, line := line, tokens := count }
  (s.onSvc fun x => { x with records := x.records ++ [r] }).sendMirror (s.leaseEpoch 2 c.requestId)
    (.record t seq addr [line])

/-- Form what a context has ready: EMIT pending tokens, or all that is left and the END record once it has ended. -/
def State.formFor (s : State) (n : Nat) (c : Ctx) : State :=
  let take := if c.ending.isSome then min c.pendingTok.length 8 else c.emit
  let full := !c.ended && !c.pendingTok.isEmpty && (c.ending.isSome || decide (c.emit ≤ c.pendingTok.length))
  let first := c.index - c.pendingTok.length
  let s :=
    if full then
      s.formRecord n c false first ((c.pendingTok.take take).map (·.toNat)) (min take c.pendingTok.length) .done 0
    else s
  let c := if full then { c with pendingTok := c.pendingTok.drop take } else c
  match c.ending with
  | some (code, detail) =>
    if !c.ended && c.pendingTok.isEmpty then
      (s.formRecord n c true c.index [c.pos, c.prompt.length] 0 code detail).setCtx n { c with ended := true }
    else s.setCtx n c
  | none => s.setCtx n c

/-- After a SERVICE step, and when a request has ended: records in ascending context number (R341). Eight rounds empty 64
pending tokens. -/
def State.formRecords (s : State) : State :=
  (List.range 10).foldl (fun s _ => s.svc.ctxs.foldl (fun s e =>
    if e.2.live then s.formFor e.1 e.2 else s) s) s

/-! ### KV regions (R321, R328 to R333) -/

/-- Bytes per token, layer and half: H × D × 2. -/
def State.tokenBytes (s : State) (m : Nat) : Nat :=
  s.getF F.svcModelKv_kvHeads m * s.getF F.svcModelKv_headDim m * 2

/-- The block numbers, from the region's first block, that hold a byte of the first `n` tokens (R328). -/
def State.tokenBlocks (s : State) (m n : Nat) : List Nat :=
  let frames := s.getF F.svcModelKv_segFrames m
  let hd := s.tokenBytes m
  let full := (List.range (n / 2048 * frames))
  let part := n % 2048
  let rest := if part = 0 then [] else
    ((List.range frames).filter fun b => (List.range (2 * s.getF F.svcModelKv_layers m)).any fun k =>
      decide (k * 2048 * hd < (b + 1) * blockBytes) && decide (b * blockBytes < k * 2048 * hd + part * hd)).map
      fun b => n / 2048 * frames + b
  full ++ rest

/-- The own blocks of a region's first `n` tokens. -/
def State.regionBlocks (s : State) (t : Tenant) (m kvAddr n : Nat) : List Nat :=
  (s.tokenBlocks m n).filterMap fun b => (s.ownOffset t (kvAddr + b * blockBytes)).map (· / blockBytes)

/-- Free the blocks of a region's first `n` tokens on this device (R321, R333). -/
def State.freeRegion (s : State) (t : Tenant) (m kvAddr n : Nat) : State :=
  (s.regionBlocks t m kvAddr n).foldl (fun s b => s.freeBlock b) s

/-- The KV of one token is appended at position `p` on this device (R328, R330). -/
def State.appendKv (s : State) (c : Ctx) (p : Nat) : State :=
  let hd := s.tokenBytes c.model
  let base := c.kvAddr + p / 2048 * s.segBytes c.model
  (List.range (2 * s.getF F.svcModelKv_layers c.model)).foldl (fun s k =>
    s.storeOpen c.tenant (base + k * 2048 * hd + p % 2048 * hd) hd c.resv) s

/-- The mirror of a device of the ring. -/
def State.mirrorOf (s : State) (d : DevNo) : Mirror := s.map.mirrors.get (devX d) .fresh

/-- Replace the mirror of a device. -/
def State.setMirror (s : State) (d : DevNo) (m : Mirror) : State :=
  s.onMap fun x => { x with mirrors := x.mirrors.put (devX d) m }

/-- Write lines into a mirror. -/
def Mirror.write (m : Mirror) (off : Nat) (data : List Line) (mask : Mask) : Mirror :=
  { m with
    mem := data.zipIdx.foldl (fun mem (l, i) => mem.setLine (off + 64 * i) l mask) m.mem
    frames := (List.range data.length).foldl (fun fs i =>
      if fs.contains ((off + 64 * i) / blockBytes) then fs else fs ++ [(off + 64 * i) / blockBytes]) m.frames }

/-- The Stand Address that a mirrored device's map gives a tenant address. -/
def Mirror.standOf (m : Mirror) (t : Tenant) (addr : Nat) : Option Word :=
  (m.extents.find? fun e => e.covers t (granuleOf addr)).map fun e => e.standOf addr

/-- A free line lands in the mirror of a device at a tenant address. -/
def State.mirrorLine (s : State) (d : DevNo) (t : Tenant) (addr : Nat) : State :=
  match (s.mirrorOf d).standOf t addr with
  | none => s
  | some sa =>
    let (v, s) := s.fresh
    s.setMirror d ((s.mirrorOf d).write (saOffset sa / 64 * 64) [v.setWidth 512] (BitVec.allOnes 64))

/-- The KV of `n` tokens of an adopted request is appended from position `p` to the mirrored region (R545, R555). -/
def State.appendMirrors (s : State) (c : Ctx) (p n : Nat) : State :=
  let hd := s.tokenBytes c.model
  (List.range n).foldl (fun s i =>
    let base := c.kvAddr + (p + i) / 2048 * s.segBytes c.model
    (List.range (2 * s.getF F.svcModelKv_layers c.model)).foldl (fun s k =>
      (List.range ((hd + 63) / 64)).foldl (fun s l =>
        s.mirrorLine c.owner c.tenant (base + k * 2048 * hd + (p + i) % 2048 * hd + 64 * l)) s) s) s

/-- The KV of `n` tokens from position `p`. -/
def State.appendKvs (s : State) (c : Ctx) (p n : Nat) : State :=
  (List.range n).foldl (fun s k => s.appendKv c (p + k)) s

/-- Seal the segments that ended in the wale (R330), with a T1 copy when the class and TIER_MODE ask for it (R113). -/
def State.sealSegments (s : State) (n : Nat) (c : Ctx) : State :=
  let frames := s.getF F.svcModelKv_segFrames c.model
  let job : SealJob :=
    { owner := .service n, elem := 1, kind := 2, version := 0, image := none,
      t1Copy := s.getF F.svcClass_sealT1 c.cls == 1 && s.act F.tierMode_sealT1Copy == 1 }
  (List.range ((c.pos / 2048 - c.sealedSegs) * frames)).foldl (fun s b =>
    match s.ownOffset c.tenant (c.kvAddr + (c.sealedSegs * frames + b) * blockBytes) with
    | none => s
    | some off => (s.requestSeal (off / blockBytes) c.tenant job).getD s) s

/-- Does a context's KV region hold an own block? -/
def State.ctxHolds (s : State) (c : Ctx) (b : Nat) : Bool :=
  c.live && s.xlt.entries.any fun e =>
    let base := saOffset e.stand
    let addr := e.tgran * granuleBytes + (b * blockBytes - base)
    e.tenant == c.tenant && BitVec.ofNat 9 (saDevice e.stand) == s.device && decide (base ≤ b * blockBytes) &&
      decide (b * blockBytes < base + e.bytes) && decide (c.kvAddr ≤ addr) && decide (addr < c.kvAddr + s.regionBytes c)

/-! ### Models (R346, R356) -/

/-- The models whose layer tables hold a block (R108). -/
def State.blockModels (s : State) (b : Nat) : List Nat :=
  match s.weave.running with
  | none => []
  | some w => (w.models.filter fun m => m.layers.any fun e => e.2.holds b).map (·.model)

/-- A model's own requests, by context. -/
def State.modelCtxs (s : State) (m : Nat) : List Nat :=
  (s.svc.ctxs.filter fun e => e.2.live && e.2.model == m).map (·.1)

/-- A model is marked degraded: its live requests end POISON (R346). -/
def State.degradeModel (s : State) (m : Nat) : State :=
  let t := s.getF F.svcModel_tenant m
  let s := (s.setF F.svcModel_degraded m 1).flag F.svcStatus_degraded { tenant := t, index := m }
  (s.modelCtxs m).foldl (fun s n => s.ctxEnd n .poison 1) s

/-- A KV block lost its last source: the requests that read the region end POISON (R332). -/
def State.poisonRegion (s : State) (b : Nat) : State :=
  (s.svc.ctxs.filter fun e => s.ctxHolds e.2 b).foldl (fun s e => s.ctxEnd e.1 .poison 2) s

/-! ### Admission (R96, R313 to R318) -/

/-- The frames a bound reserves (R96): T0 and T1. The window share is 0: a model's windows are charged to its owner from
its load on (R86, assumption 15). Scratch frames come from KV_TIER. -/
def State.reserveFrames (s : State) (m cls bound : Nat) : Nat × Nat :=
  let n := segments bound * s.getF F.svcModelKv_segFrames m + s.getF F.svcClass_scratch cls
  if s.getF F.svcClass_kvTier cls = 0 then (n, 0) else (0, n)

/-- Decode ring slots of device x that no context uses (R323). -/
def State.freeRingSlot (s : State) (m x : Nat) : Option Nat :=
  let ds := s.getF F.svcModel_decodeSlots m
  let used := (s.svc.ctxs.filter fun e => e.2.live && e.2.model == m).map fun e => e.2.ringSlot
  ((List.range ds).map (· + x * ds)).find? fun r => !used.contains r

/-- Tokens of bound in use by this device's contexts of a model (check 8 of R314). -/
def State.tokensUsed (s : State) (m : Nat) : Nat :=
  ((s.svc.ctxs.filter fun e => e.2.live && e.2.model == m && e.2.owner == s.device).map fun e => e.2.bound).sum

/-- Contexts this device has bound by admission. -/
def State.ctxsBound (s : State) : Nat := (s.svc.ctxs.filter fun e => e.2.live && !e.2.resumed).length

/-- The lowest free context number. -/
def State.freeCtx (s : State) : Option Nat := firstFree 8192 ((s.svc.ctxs.filter fun e => e.2.live).map (·.1))

/-- The bound B of a START line (check 7 of R314). -/
def startBound (l : Line) : Nat := dfield l 0x30 0 32 + dfield l 0x20 0 32 + dfield l 0x24 0 32

/-- The context a START binds, without its reservation and prompt. -/
def startCtx (t : Tenant) (v : Slot) (owner : DevNo) (ringSlot : Nat) (wale : Wale) (order salt : Nat) : Ctx :=
  let f := dfield v.line
  let tokens := f 0x20 0 32
  { state := if tokens = 1 then .decode else .prefill, tenant := t, model := f 0 8 8, cls := f 0 16 5, ringSlot := ringSlot,
    resumed := false, index := 0, owner := owner, requestId := lineReq v.line, seed := BitVec.ofNat 64 (f 0x10 0 64),
    prompt := v.prompt, promptAddr := f 0x18 0 56, promptDone := 0, maxNew := f 0x24 0 32,
    kvAddr := f 0x28 0 56, pos := f 0x30 0 32,
    bound := startBound v.line, last := v.prompt.headD 0, emit := f 4 0 4, topK := f 6 0 16, topP := f 0x3A 0 16,
    temp := f 0x38 0 16, greedy := f 0 27 1 == 1, stop := BitVec.ofNat 32 (f 0x3C 0 32), keep := f 0 25 1 == 1,
    stamp := v.stamp, deadlineUs := f 0x34 0 32, admitWale := wale, order := order, pendingTok := [], sampled := [],
    salt := salt, stalledFrom := .decode, ending := none, ended := false, suppress := 0, resv := v.resv,
    sealedSegs := f 0x30 0 32 / 2048 }

/-- R331: an attached region's sealed segments rise into KV_TIER within the turn's reservation. -/
def State.attachRegion (s : State) (c : Ctx) : State :=
  let t : Tier := if s.getF F.svcClass_kvTier c.cls = 0 then .t0 else .t1
  (s.regionBlocks c.tenant c.model c.kvAddr c.pos).foldl (fun s b =>
    if (s.blk b).state = .sealed ∧ (s.blk b).copy t = .none then
      match s.startRise b t false with
      | .frame s =>
        if t = .t0 ∧ c.resv.isSome then (s.countFrame c.tenant .t0 c.resv).setBlk b { s.blk b with resv := c.resv } else s
      | .wait s _ => s
      | .quota s => s
    else s) s

/-- Bind a candidate (check 9 of R314): context, slot, count, and the REQUEST lease proposed (R539). -/
def State.bindCtx (s : State) (t : Tenant) (i : Nat) : State :=
  let v := s.slot t i
  let m := dfield v.line 0 8 8
  match s.freeCtx, s.freeRingSlot m (devX s.device) with
  | some n, some rs =>
    let (salt, s) := s.fresh
    let c := startCtx t v s.device rs s.wale s.svc.nextOrder salt.toNat
    let s := (s.setCtx n c).onSvc fun x => { x with nextOrder := x.nextOrder + 1 }
    let s := s.setSlot t i { v with
      held := false, status := s.statusWord t .done 2, context := n, doneWale := s.wale, asked := false, granted := [],
      resv := none }
    let s := (s.addF F.svcAdmitCount_count 0 1).attachRegion c
    s.propose opCreate { MapRec.blank 2 s.device 0 c.requestId with tenant := t, origin := s.device }
  | _, _ => s

/-- A candidate that cannot be served now stays HELD, or ends QUOTA with NOWAIT (check 8 of R314). -/
def State.holdOrQuota (s : State) (t : Tenant) (i : Nat) : State :=
  if dfield (s.slot t i).line 0 24 1 = 1 then s.slotEnd t i .quota 2 else s

/-- Has a window from `stamp` of `us` microseconds ended at `time` (R8, R344)? 0 is no deadline. -/
def windowOver (stamp time : Word) (us : Nat) : Bool := us != 0 && decide (stamp.toNat + us * 1000 ≤ time.toNat)

/-- The ring peers of this device. -/
def State.ringPeers (s : State) : List DevNo :=
  ((List.range 8).map fun x => ringDev s.device x).filter (· != s.device)

/-- Checks 1 to 7 of R314: the outcome that ends the candidate. `time`: the boundary's TIME. -/
def State.startRefused (s : State) (t : Tenant) (i : Nat) (time : Word) : Option (Code × Nat) :=
  let v := s.slot t i
  let f := dfield v.line
  let m := f 0 8 8
  let cls := f 0 16 5
  let b := startBound v.line
  let (r0, r1) := s.reserveFrames m cls b
  let prompt := s.rangeFails t (f 0x18 0 56) (4 * f 0x20 0 32) .load
  let region := s.kvFails t (f 0x28 0 56) (segments b * s.segBytes m)
  if windowOver v.stamp time (f 0x34 0 32) then some (.late, 0)
  else if s.getF F.svcModel_loaded m = 0 then some (.absent, 1)
  else if s.getF F.svcModel_tenant m ≠ t.toNat ∧ s.getF F.svcModel_shared m = 0 then some (.denied, 1)
  else if s.getF F.svcModel_degraded m = 1 then some (.poison, 1)
  else if (((s.svc.models.find? fun e => e.1 == m).map fun e => e.2.ringLost).getD false) then some (.dead, 1)
  else if (s.aperture t).ringEntries = 0 then some (.absent, 2)
  else match prompt with
    | some c => some (c, 3)
    | none => match region with
      | some c => some (c, 4)
      | none =>
        if s.getF F.svcClass_maxTokens cls < b ∨ s.getF F.svcModel_tokenShare m < b ∨
            (!s.poolMode ∧ (s.act F.tierResvLimit_t0Limit t.toNat < r0 ∨ s.act F.tierResvLimit_t1Limit t.toNat < r1)) then
          some (.quota, 1)
        else none

/-- Tokens of a byte list: 32 bits each, little-endian. -/
def tokensOf : Nat → List Byte → List (BitVec 32)
  | 0, _ => []
  | n + 1, bs => BitVec.ofNat 32 (leNat (bs.take 4)) :: tokensOf n (bs.drop 4)

/-- The sealed blocks of a range of the own store begin to rise into T0; what reads them waits. -/
def State.promptRises (s : State) (t : Tenant) (addr n : Nat) : State :=
  let bs := ((List.range ((addr + n + 63) / 64 - addr / 64)).filterMap fun k => (s.ownOffset t (64 * (addr / 64 + k))).map (· / blockBytes)).eraseDups
  bs.foldl (fun s b => if (s.blk b).state = .sealed ∧ !s.moverReads b then s.fillPromote b else s) s

/-- A START candidate at step 7 (R314 to R316): refused, held, bound, or offered to the ring's peers. -/
def State.admitStart (s : State) (t : Tenant) (i : Nat) (time : Word) : State :=
  let v := s.slot t i
  let f := dfield v.line
  let m := f 0 8 8
  let b := startBound v.line
  match s.startRefused t i time with
  | some (code, detail) => s.slotEnd t i code detail
  | none =>
    if s.getF F.svcCtxLimit_limit ≤ s.ctxsBound ∨ s.freeCtx = none ∨ s.freeRingSlot m (devX s.device) = none ∨
        s.getF F.svcModel_tokenShare m < s.tokensUsed m + b then s.holdOrQuota t i
    else
      let (r0, r1) := s.reserveFrames m (f 0 16 5) b
      match s.reserve t r0 r1 with
      | none => s.holdOrQuota t i
      | some (resv, s) =>
        let give (s : State) : State := match resv with
          | some r => s.releaseResv r
          | none => s
        let (code, lines, s) := s.readLines t (f 0x18 0 56) (4 * f 0x20 0 32) (s.addrDead t)
        if code ≠ .done then (give s).slotEnd t i code 3
        else
          let s := s.promptRises t (f 0x18 0 56) (4 * f 0x20 0 32)
          let prompt := (tokensOf (16 * lines.length) (lines.flatMap fun l => leBytes 64 l.toNat)).take (f 0x20 0 32)
          let s := s.setSlot t i { s.slot t i with prompt := prompt, resv := resv, granted := [], asked := true }
          if s.getF F.svcModel_ring m = 0 then s.bindCtx t i
          else
            let ask : ReserveMsg :=
              { owner := s.device, tenant := t, request := lineReq v.line, model := m, cls := f 0 16 5, resumed := false,
                index := 0, bound := b, kvAddr := f 0x28 0 56, promptTokens := f 0x20 0 32,
                ringSlot := (s.freeRingSlot m (devX s.device)).getD 0, keep := f 0 25 1 == 1, kvTokens := f 0x30 0 32,
                greedy := f 0 27 1 == 1, temp := f 0x38 0 16, topK := f 6 0 16, topP := f 0x3A 0 16 }
            s.ringPeers.foldl (fun s p => s.sendMsg p 1 t (.reserve ask) true) s

/-- A ring owner withdraws a candidate or ends a request at its peers (7c of R315, assumption 16). -/
def State.cancelPeers (s : State) (t : Tenant) (r : Word) : State :=
  s.ringPeers.foldl (fun s p => s.sendMsg p 1 t (.reserveCancel t r)) s

/-- A candidate's tentative reservation goes back; it stays HELD. -/
def State.unask (s : State) (t : Tenant) (i : Nat) : State :=
  let v := s.slot t i
  let s := match v.resv with
    | some r => s.releaseResv r
    | none => s
  s.setSlot t i { v with asked := false, granted := [], resv := none }

/-! ### SERVICE steps (R323 to R327, R336, R337) -/

/-- The state a replay goes on from: a RESUMING context's is the mirrored one (R320). -/
def Ctx.phase (c : Ctx) : CtxState := if c.state = .resuming then c.stalledFrom else c.state

/-- PREFILL_COLS columns go to an owner's oldest context in PREFILL (R324). -/
def State.prefillOf (s : State) (m : Nat) (owner : DevNo) : Option Ctx :=
  (s.regions.filter fun c => c.live && c.model == m && c.owner == owner && c.phase == .prefill).foldl
    (fun best c => match best with
      | none => some c
      | some b => if c.order < b.order then some c else some b) none

/-- The identity of a context in a slot table. -/
def Ctx.ident (c : Ctx) : DevNo × Tenant × Word := (c.owner, c.tenant, c.requestId)

/-- Tokens a context processes in the wale: 0 when it has no column (R324). -/
def State.chunkOf (s : State) (c : Ctx) : Nat :=
  match c.phase with
  | .decode => 1
  | .prefill =>
    if (s.prefillOf c.model c.owner).map Ctx.ident = some c.ident then
      min (s.getF F.svcModel_prefillCols c.model) (c.prompt.length - c.promptDone)
    else 0
  | _ => 0

/-- The contexts a model's SERVICE step serves in this wale, decode columns first, in ring slot order (R325). -/
def State.batch (s : State) (m : Nat) : List Ctx :=
  let twice (c : Ctx) : Bool := !c.resumed && s.svc.ctxs.any fun e => e.2.resumed && e.2.live && e.2.ident == c.ident
  let all := s.regions.filter fun c => c.model == m && decide (0 < s.chunkOf c) && !twice c
  let key (c : Ctx) : Nat := if c.phase = .decode then c.ringSlot else 1000 + devX c.owner
  let ins (c : Ctx) (l : List Ctx) : List Ctx :=
    l.filter (fun d => decide (key d ≤ key c)) ++ [c] ++ l.filter fun d => decide (key c < key d)
  all.foldl (fun l c => ins c l) []

/-- One entry of the slot table as device `me` sees it (R327). -/
def State.slotEntry (s : State) (me : DevNo) (c : Ctx) (promptAddr : Word) : Line :=
  let own := c.owner == me
  let pre := c.phase == .prefill
  let n := s.chunkOf c
  let samples := own && (!pre || c.promptDone + n == c.prompt.length)
  let ds := s.getF F.svcModel_decodeSlots c.model
  let rs := if pre then 8 * ds + devX c.owner * s.getF F.svcModel_prefillCols c.model else c.ringSlot
  BitVec.ofNat 512 (pack [(0, rs), (16, devX c.owner), (19, pre.toNat), (20, samples.toNat),
    (21, (c.greedy || c.temp == 0).toNat), (24, n), (32, c.pos), (64, if pre then 0 else c.last.toNat), (96, c.index),
    (128, if pre then promptAddr.toNat else 0), (192, c.kvAddr % 2 ^ 56), (256, if own then c.seed.toNat else 0),
    (320, if own then c.requestId.toNat else 0), (384, c.temp), (400, c.topP), (416, c.topK)])

/-- The argument block and slot table of a SERVICE step in one cell, for device `me`: an adopter runs the failed device's
steps too (R552). The table follows the block (R326, assumption 17). -/
def State.writeBatch (s : State) (me : DevNo) (c m argSram : Nat) : State :=
  let cs := s.batch m
  let head : Line := BitVec.ofNat 512 (pack [(0, m), (16, cs.length), (32, s.wale.toNat % 2 ^ 32), (64, argSram + 64)])
  let s := s.onCellAt c fun v => v.engineLine argSram head
  cs.zipIdx.foldl (fun s (x, k) =>
    let (a, s) := s.fresh
    let line := s.slotEntry me x a
    s.onCellAt c fun v => v.engineLine (argSram + 64 * (k + 1)) line) s

/-- The token of a context: what the sampling kernel wrote to RESULT, or R336 over logits the model leaves free. -/
def State.tokenFor (s : State) (c : Ctx) (result : Option (BitVec 32)) : BitVec 32 :=
  match result with
  | some t => t
  | none =>
    let toks := c.prompt ++ c.sampled
    let z := (List.range (s.getF F.svcModelTok_vocab c.model)).map fun i =>
      (Config.logit c.model c.salt toks i).toNat
    BitVec.ofNat 32 (sampleToken z c.greedy c.temp c.topK c.topP c.seed c.requestId c.index)

/-- The end that a sampled token brings (R337). -/
def State.endOf (s : State) (c : Ctx) (t : BitVec 32) : Option Nat :=
  if t.toNat = s.getF F.svcModelTok_eos c.model then some 4
  else if t = c.stop ∧ c.stop ≠ BitVec.allOnes 32 then some 5
  else if c.index + 1 = c.maxNew then some 6
  else none

/-- A RESUMING context shows RESUMING until the boundary; what its replay has reached is kept beside it (R320). -/
def Ctx.rewrap (was c : Ctx) : Ctx :=
  if was.state = .resuming then { c with state := .resuming, stalledFrom := c.state } else c

/-- An own context's part of a finished SERVICE step. The KV of an adopted one lies in the mirror. -/
def State.advanceOwn (s : State) (n : Nat) (c : Ctx) (result : Option (BitVec 32)) : State :=
  let k := s.chunkOf c
  if k = 0 then s
  else
    let s := if c.resumed then s.appendMirrors c c.pos k else s.appendKvs c c.pos k
    let pre := c.phase == .prefill
    let c' := { c with pos := c.pos + k, promptDone := if pre then c.promptDone + k else c.promptDone }
    if pre && decide (c'.promptDone < c.prompt.length) then s.setCtx n c'
    else
      let t := s.tokenFor c result
      let full := decide (64 ≤ s.pendingTokens n c + if c.index < c.suppress then 0 else 1)
      let st : CtxState := if full then .stalled else .decode
      let s := s.setCtx n { c' with
        index := c.index + 1, last := t, sampled := c.sampled ++ [t]
        pendingTok := if c.index < c.suppress then c.pendingTok else c.pendingTok ++ [t]
        state := st, stalledFrom := .decode }
      let s := match s.endOf c t with
        | some d => s.ctxEnd n .done d
        | none => s
      match s.svc.ctxs.find? fun e => e.1 == n with
      | some (_, x) => s.setCtx n (c.rewrap x)
      | none => s

/-- A peer's share advances with the slot table. -/
def State.advanceShare (s : State) (c : Ctx) : State :=
  let k := s.chunkOf c
  if k = 0 then s
  else
    let s := s.appendKvs c c.pos k
    let pre := c.state == .prefill
    let done := if pre then c.promptDone + k else c.promptDone
    let more := pre && decide (done < c.prompt.length)
    let st : CtxState := if more then .prefill else .decode
    let ix := if more then c.index else c.index + 1
    -- the token sampled is the owner's: INPUT of the next entry is free here
    let (v, s) := s.fresh
    let last := if more then c.last else v.setWidth 32
    let c' : Ctx := { c with pos := c.pos + k, promptDone := done, state := st, index := ix, last := last }
    let same (y : Ctx) : Bool := y.owner == c.owner && y.requestId == c.requestId && y.tenant == c.tenant
    s.onSvc fun x => { x with shares := updWhere same (fun _ => c') x.shares }

/-- RESULT of a context in a cell's slot table, when RESULT_VALID is set (R327). -/
def State.resultIn (s : State) (cell argSram k : Nat) : Option (BitVec 32) :=
  let l := (s.cellAt cell).sram.line (argSram + 64 * (k + 1))
  if dfield l 0x38 63 1 = 1 then some (BitVec.ofNat 32 (dfield l 0x38 0 32)) else none

/-- Every SERVICE step of a model has ended in the wale: every column advances, then records form (R320, R341). A step
whose kernels ended otherwise ends its requests (R277, R279). A replay advances the adopted requests only: what the others
got in the wale stands, and comes out the same again (R552, R553). -/
def State.serviceDone (s : State) (m : Nat) (parts : List OpenStep) : State :=
  let again := s.sched.advanced.contains m
  let s := s.onSched fun x => { x with advanced := if again then x.advanced else x.advanced ++ [m] }
  let ids := (parts.head?.map (·.batch)).getD []
  let serves (c : Ctx) : Bool := ids.contains c.ident && decide (0 < s.chunkOf c) && (!again || c.state == .resuming)
  let own := s.svc.ctxs.filter fun e => serves e.2
  match parts.find? fun o => o.status != .done with
  | some o => (own.foldl (fun s e => s.ctxEnd e.1 o.status (if o.overrun then 2 else 3)) s).formRecords
  | none =>
    let resultOf (k : Nat) (o : OpenStep) : Option (BitVec 32) := o.ran.findSome? fun x => s.resultIn x o.argSram k
    let results := ids.zipIdx.map fun (i, k) => (i, parts.findSome? (resultOf k))
    let shares := s.svc.shares.filter serves
    let s := own.foldl (fun s e => s.advanceOwn e.1 e.2 ((results.find? fun r => r.1 == e.2.ident).bind (·.2))) s
    (shares.foldl (fun s c => s.advanceShare c) s).formRecords

end Sys2Proof.Machine
end

