-- ==== Sys2Proof/Machine/Search.lean ====
section
/-! DEFINITION. Vector search: shards and their items, eligibility and distances, the first stage of each form, home
query contexts and their merge, part contexts (R357 to R403). -/
namespace Sys2Proof.Machine

/-! ### Reading the own store -/

/-- `n` bytes of the own store as a number (R6). -/
def State.peekNat (s : State) (off n : Nat) : Nat := leNat ((List.range n).map fun i => s.peekOff (off + i))

/-- An INT8 element of the own store. -/
def State.peekI8 (s : State) (off : Nat) : Int := signedNat 8 (s.peekOff off).toNat

/-- The tier blocks of a range. -/
def blocksOf (off n : Nat) : List Nat :=
  if n = 0 then [] else (List.range ((off + n - 1) / blockBytes + 1 - off / blockBytes)).map (· + off / blockBytes)

/-- How a read of a range of the own store would go: DONE, POISON, or RETRY where it waits on memory (R68, R105). -/
def State.offReady (s : State) (off n : Nat) : Code :=
  let one (b : Nat) : Code :=
    let e := s.blk b
    let first := off / 64 * 64
    let bad := e.poison.any fun l => decide (first ≤ b * blockBytes + 64 * l) && decide (b * blockBytes + 64 * l < off + n)
    if e.state = .quarantined ∨ (e.state ≠ .sealed ∧ bad) then .poison
    else if !s.moverReads b then .retry
    else .done
  let cs := (blocksOf off n).map one
  if cs.contains .poison then .poison else if cs.contains .retry then .retry else .done

/-- How the reads of several ranges would go together. -/
def State.rangesReady (s : State) (rs : List (Nat × Nat)) : Code :=
  let cs := rs.map fun r => s.offReady r.1 r.2
  if cs.contains .poison then .poison else if cs.contains .retry then .retry else .done

/-- Start the promotions that reads of these ranges wait for (R68). -/
def State.fetchRanges (s : State) (rs : List (Nat × Nat)) : State :=
  (rs.flatMap fun r => blocksOf r.1 r.2).foldl (fun s b => if s.moverReads b then s else s.fillPromote b) s

/-! ### Shards (R359 to R364) -/

/-- A shard slot. -/
def State.shardSlot (s : State) (i : Nat) : Option ShardSlot := (s.srch.slots.find? fun e => e.1 == i).map (·.2)

/-- Put a shard slot. -/
def State.setShardSlot (s : State) (i : Nat) (v : ShardSlot) : State := s.onSrch fun x => { x with slots := x.slots.put i v }

/-- The header at an offset of the own store (R360). -/
def State.readHeader (s : State) (base : Nat) (tomb : Option Nat) (die : Nat) (tn : Tenant) : ShardHdr :=
  let f (o n : Nat) : Nat := s.peekNat (base + o) n
  { base := base, tomb := tomb, form := f 0 1, pqM := f 2 1, degree := f 3 1, dim := f 4 2, rows := f 8 4, parts := f 0xC 4,
    entry := f 0x10 4, dir := 64 * f 0x14 4, centroids := 64 * f 0x18 4, codebook := 64 * f 0x1C 4,
    sketches := 64 * f 0x20 4, codes := 64 * f 0x24 4, attrs := 64 * f 0x28 4, ids := 64 * f 0x2C 4,
    vectors := 64 * f 0x30 4, graph := 64 * f 0x34 4, die := die, tenant := tn }

/-- The items the form uses, as (offset from the base, bytes) (R361). -/
def ShardHdr.items (h : ShardHdr) : List (Nat × Nat) :=
  [(h.attrs, 16 * h.rows), (h.ids, 8 * h.rows), (h.vectors, h.dim * h.rows)] ++
    (if h.form = 3 then [(h.graph, 4 * h.degree * h.rows)] else [(h.dir, 8 * h.parts)]) ++
    (if h.form ≠ 3 ∧ 1 < h.parts then [(h.centroids, h.dim * h.parts)] else []) ++
    (if h.form = 1 then [(h.sketches, 128 * h.rows)] else [(h.codebook, 256 * h.dim), (h.codes, h.pqM * h.rows)])

/-- A field of the header is outside its range (R360, R362). -/
def ShardHdr.badField (h : ShardHdr) : Bool :=
  let pqOk := decide (1 ≤ h.pqM) && h.dim % h.pqM == 0 && decide (h.dim / h.pqM ≤ 64)
  h.form == 0 || decide (3 < h.form) || h.dim % 64 != 0 || h.dim == 0 || decide (2048 < h.dim) ||
    h.rows == 0 || h.rows == 0xFFFFFFFF || h.parts == 0 || decide (65536 < h.parts) || (h.form == 3 && h.parts != 1) ||
    (if h.form = 1 then h.pqM != 0 && !pqOk else !pqOk) ||
    (if h.form = 3 then h.degree == 0 || decide (64 < h.degree) || decide (h.rows ≤ h.entry)
      else h.degree != 0 || h.entry != 0)

/-- FIRST_ROW and ROWS of a partition. -/
def State.partition (s : State) (h : ShardHdr) (p : Nat) : Nat × Nat :=
  (s.peekNat (h.base + h.dir + 8 * p) 4, s.peekNat (h.base + h.dir + 8 * p + 4) 4)

/-- The partitions, in ascending number, cover the rows exactly (R362). -/
def State.partitionsCover (s : State) (h : ShardHdr) : Bool :=
  let (at_, ok) := (List.range h.parts).foldl (fun (acc : Nat × Bool) p =>
    let (first, n) := s.partition h p
    (first + n, acc.2 && first == acc.1 && decide (1 ≤ n))) (0, true)
  ok && at_ == h.rows

/-- The corpora that list a slot of this device, with their shard indices. -/
def State.corporaOf (s : State) (slot : Nat) : List Corpus :=
  (s.srch.corpora.filter fun e => e.2.shards.any fun d => d.1 == s.device && d.2 == slot).map (·.2)

/-- Is a header malformed (R360, R362)? -/
def State.headerBad (s : State) (slot : Nat) (h : ShardHdr) : Bool :=
  crc32c ((List.range 60).map fun i => s.peekOff (h.base + i)) != BitVec.ofNat 32 (s.peekNat (h.base + 0x3C) 4) ||
    s.peekNat (h.base + 1) 1 != 1 || s.peekNat (h.base + 6) 2 != 0 || s.peekNat (h.base + 0x38) 4 != 0 || h.badField ||
    (s.corporaOf slot).any (fun c => c.dim != h.dim) ||
    h.items.any (fun i => decide (s.storeSize < h.base + i.1 + i.2)) ||
    (h.form != 3 && !s.partitionsCover h)

/-- Can the device serve the form (R359)? -/
def State.servesForm (s : State) (form : Nat) : Bool :=
  if form = 1 then decide (0 < s.code.soruses)
  else s.sched.templates.any fun t => t.2.steps.any fun x => x.kind == .search && x.cellMask != 0

/-- The blocks of the T0 ranges of a SKETCH shard (R363). -/
def ShardHdr.heldBlocks (h : ShardHdr) : List Nat :=
  if h.form = 1 then
    (blocksOf (h.base + h.sketches) (128 * h.rows) ++ blocksOf (h.base + h.attrs) (16 * h.rows)).eraseDups
  else []

/-- Hold a sealed block in T0 for its owner: no victim, counted to the owner (R86, R363). None when T0 cannot hold it. -/
def State.holdBlock (s : State) (tn : Tenant) (b : Nat) : Option State :=
  if s.mayCount tn .t0 none then
    let s := s.countFrame tn .t0 none
    let mark (s : State) : State := s.setBlk b { s.blk b with window := true }
    if (s.blk b).state ≠ .sealed ∨ (s.blk b).t0 = .held ∨ (s.blk b).t0 = .rising then some (mark s)
    else if (s.blk b).t0 = .sinking then some (mark (s.cancelSink b .t0))
    else match s.startRise b .t0 false with
      | .frame s => some (mark s)
      | .wait s _ => some (mark s)
      | .quota _ => none
  else none

/-- Hold all of them, or none. -/
def State.holdBlocks (s : State) (tn : Tenant) : List Nat → Option State
  | [] => some s
  | b :: bs => (s.holdBlock tn b).bind fun s => s.holdBlocks tn bs

/-- Blocks held in T0 are held no longer. -/
def State.releaseBlocks (s : State) (tn : Tenant) (bs : List Nat) : State :=
  bs.foldl (fun s b => (s.uncountFrame tn .t0 none).setBlk b { s.blk b with window := false }) s

/-- Replaced shards that no part uses any longer give their T0 ranges back (R410). -/
def State.dropOlds (s : State) : State :=
  s.srch.slots.foldl (fun s (i, v) =>
    let used (g : Nat) : Bool := s.srch.parts.any fun p => p.2.slot == i && p.2.gen == g
    let gone := v.olds.filter fun o => !used o.1
    let s := gone.foldl (fun s o => s.releaseBlocks o.2.1 o.2.2) s
    s.setShardSlot i { v with olds := v.olds.filter fun o => used o.1 }) s

/-! ### Eligibility and distances (R365 to R367) -/

/-- Byte `i` of a query block (R380). -/
def blockByte (bl : List Line) (i : Nat) : Byte := ((bl.getD (i / 64) 0).extractLsb' (8 * (i % 64)) 8)

/-- A 128-bit term of the filter. -/
def blockTerm (bl : List Line) (i : Nat) : Nat := leNat ((List.range 16).map fun k => blockByte bl (i + k))

/-- Element `k` of the query vector. -/
def queryI8 (bl : List Line) (k : Nat) : Int := signedNat 8 (blockByte bl (0xC0 + k)).toNat

/-- Is a row eligible (R365)? -/
def State.eligible (s : State) (h : ShardHdr) (bl : List Line) (row : Nat) : Bool :=
  let dead := match h.tomb with
    | none => false
    | some t => (s.peekOff (t + row / 8)).toNat.testBit (row % 8)
  let a := s.peekNat (h.base + h.attrs + 16 * row) 16
  let any := blockTerm bl 0x20
  !dead && a &&& blockTerm bl 0 == blockTerm bl 0x10 && (any == 0 || a &&& any != 0) && a &&& blockTerm bl 0x30 == 0

/-- Bits set in the low `n` bits. -/
def popcount (n v : Nat) : Nat := ((List.range n).filter fun i => v.testBit i).length

/-- Hamming distance of the sketches. -/
def State.hamming (s : State) (h : ShardHdr) (bl : List Line) (row : Nat) : Nat :=
  ((List.range 128).map fun i =>
    popcount 8 ((s.peekOff (h.base + h.sketches + 128 * row + i)).toNat ^^^ (blockByte bl (0x40 + i)).toNat)).sum

/-- Minus the dot product of the query vector and INT8 elements of the store. -/
def State.minusDot (s : State) (bl : List Line) (off dim : Nat) : Int :=
  -((List.range dim).map fun k => queryI8 bl k * s.peekI8 (off + k)).sum

/-- Exact distance D. -/
def State.exactDist (s : State) (h : ShardHdr) (bl : List Line) (row : Nat) : Int :=
  s.minusDot bl (h.base + h.vectors + h.dim * row) h.dim

/-- Centroid distance. -/
def State.centroidDist (s : State) (h : ShardHdr) (bl : List Line) (p : Nat) : Int :=
  s.minusDot bl (h.base + h.centroids + h.dim * p) h.dim

/-- T[m][j] of the PQ distance: the dot product of subvector m and a codebook entry. -/
def State.pqTable (s : State) (h : ShardHdr) (bl : List Line) (m j : Nat) : Int :=
  let w := h.dim / h.pqM
  ((List.range w).map fun k =>
    queryI8 bl (m * w + k) * s.peekI8 (h.base + h.codebook + (256 * m + j) * w + k)).sum

/-- PQ distance. -/
def State.pqDist (s : State) (h : ShardHdr) (bl : List Line) (row : Nat) : Int :=
  -((List.range h.pqM).map fun m => s.pqTable h bl m (s.peekOff (h.base + h.codes + h.pqM * row + m)).toNat).sum

/-- (distance, row) order. -/
def keyBefore (a b : Int × Nat) : Bool := decide (a.1 < b.1) || (a.1 == b.1 && decide (a.2 < b.2))

/-- Insert by (distance, row). -/
def insertKey (e : Int × Nat) : List (Int × Nat) → List (Int × Nat)
  | [] => [e]
  | x :: r => if keyBefore e x then e :: x :: r else x :: insertKey e r

/-- Insert into a candidate list of at most `n` entries (R370). -/
def insertCand (n : Nat) (e : Int × Nat) (l : List (Int × Nat)) : List (Int × Nat) := (insertKey e l).take n

/-- The partitions in rank order (R367). -/
def State.ranking (s : State) (h : ShardHdr) (bl : List Line) : List Nat :=
  if h.parts ≤ 1 then List.range h.parts
  else ((List.range h.parts).foldl (fun l p => insertKey (s.centroidDist h bl p, p) l) []).map (·.2)

/-- The partitions that round r probes, and whether the round exhausts the shard (R367). -/
def State.probesOf (s : State) (h : ShardHdr) (m : QueryParts) : List Nat × Bool :=
  if h.form = 3 then ([], false)
  else
    let lo := m.nprobe * (2 ^ m.round - 1)
    let hi := m.nprobe * (2 ^ (m.round + 1) - 1)
    (((s.ranking h m.block).drop lo).take (hi - lo), decide (h.parts ≤ hi))

/-! ### Part contexts (R385 to R390) -/

/-- A part context. -/
def State.part (s : State) (i : Nat) : Option Part := (s.srch.parts.find? fun e => e.1 == i).map (·.2)

/-- Put a part context. -/
def State.setPart (s : State) (i : Nat) (p : Part) : State := s.onSrch fun x => { x with parts := x.parts.put i p }

/-- Dies that hold query contexts, and contexts of a die (R385). -/
def OrderCode.queryDies (c : OrderCode) : Nat × Nat :=
  match c with
  | .oz880 => (2, 8192) | .oz440 => (1, 8192) | .oz220 => (1, 4096)

/-- Query contexts of a die in use. -/
def State.queriesOn (s : State) (die : Nat) : List Nat :=
  ((s.srch.homes.filter fun e => e.2.die == die).map (·.1)) ++ ((s.srch.parts.filter fun e => e.2.die == die).map (·.1))

/-- The lowest free query context of a die: the pick among free ones is open (assumption 18). -/
def State.freeQuery (s : State) (die : Nat) : Option Nat :=
  (firstFree s.code.queryDies.2 ((s.queriesOn die).map (· % 8192))).map (· + 8192 * die)

/-- The die with more free contexts, 0 when equal (R385). -/
def State.homeDie (s : State) : Nat :=
  if s.code.queryDies.1 = 2 ∧ (s.queriesOn 1).length < (s.queriesOn 0).length then 1 else 0

/-- Does a SEARCH slot that serves the shard stand open (R269, R359)? -/
def State.searchOpen (s : State) (h : ShardHdr) : Bool :=
  s.srch.open_.any fun e => if h.form = 1 then e.2 == some h.die else e.2.isNone

/-- A part's answer goes to its home (R378). -/
def State.sendAnswer (s : State) (p : Part) : State :=
  let a : PartAnswer :=
    { src := s.device, code := p.code, results := p.results, scanned := p.scanned, matched := p.matched, exhausted := p.exhausted }
  s.sendMsg p.msg.home 2 p.msg.tenant (.partAnswer p.msg.q p.shard a)

/-- A part enters ANSWER with a code. -/
def State.partEnds (s : State) (i : Nat) (p : Part) (code : Code) : State :=
  let p := { p with state := .answer, code := code }
  let s := (s.setPart i p).sendAnswer p
  if code = .poison then s.flag F.srchStatus_shardPoison { tenant := p.hdr.tenant.toNat, index := p.slot % 256 } else s

/-- A part waits on memory (R387, R388). -/
def State.partWaits (s : State) (i : Nat) (p : Part) (left : PartState) (rs : List (Nat × Nat)) : State :=
  (s.setPart i { p with state := .memwait, left := left }).fetchRanges rs

/-- Run `k` when the ranges can be read; else the part waits, or ends POISON (R387, R399). -/
def State.partReads (s : State) (i : Nat) (p : Part) (left : PartState) (rs : List (Nat × Nat)) (k : State → State) : State :=
  match s.rangesReady rs with
  | .done => k s
  | .poison => s.partEnds i p .poison
  | _ => s.partWaits i p left rs

/-- The rows of the probed partitions. -/
def State.probedRows (s : State) (h : ShardHdr) (ps : List Nat) : List Nat :=
  ps.flatMap fun p =>
    let (first, n) := s.partition h p
    (List.range n).map (· + first)

/-- Ranges of the tombstone bitmap. -/
def ShardHdr.tombRange (h : ShardHdr) : List (Nat × Nat) :=
  match h.tomb with
  | none => []
  | some t => [(t, (h.rows + 7) / 8)]

/-- The ranges a cell's first stage reads. -/
def State.scanRanges (s : State) (h : ShardHdr) (ps : List Nat) : List (Nat × Nat) :=
  let rows := if h.form = 3 then [(0, h.rows)] else ps.map (s.partition h)
  h.tombRange ++ [(h.base + h.codebook, 256 * h.dim)] ++
    (rows.flatMap fun r =>
      [(h.base + h.codes + h.pqM * r.1, h.pqM * r.2), (h.base + h.attrs + 16 * r.1, 16 * r.2)]) ++
    (if h.form = 3 then [(h.base + h.graph, 4 * h.degree * h.rows)] else [])

/-- PQ_SCAN over the probed partitions (R375). -/
def State.pqScan (s : State) (p : Part) : Part :=
  let rows := s.probedRows p.hdr p.probes
  let good := rows.filter fun r => s.eligible p.hdr p.msg.block r
  { p with
    cands := good.foldl (fun l r => insertCand p.msg.rerank (s.pqDist p.hdr p.msg.block r, r) l) []
    scanned := rows.length, matched := good.length }

/-- Beam, frontier and seen nodes of a traversal (R376). -/
structure Walk376 where
  beam : List (Int × Nat)
  frontier : List (Int × Nat)
  seen : List (Int × Nat)

/-- One neighbour (R376). -/
def State.graphStep (s : State) (p : Part) (ef : Nat) (w : Walk376) (m : Nat) : Walk376 :=
  if m = 0xFFFFFFFF ∨ p.hdr.rows ≤ m ∨ w.seen.any (fun x => x.2 == m) then w
  else
    let e := (s.pqDist p.hdr p.msg.block m, m)
    let w := { w with seen := insertKey e w.seen }
    let full := decide (ef ≤ w.beam.length)
    let better := match w.beam.getLast? with
      | none => true
      | some x => keyBefore e x
    if !full || better then { w with beam := (insertKey e w.beam).take ef, frontier := insertKey e w.frontier } else w

/-- The traversal, at most `fuel` expansions; whether the frontier emptied (R376, R377). -/
def State.graphWalk (s : State) (p : Part) (ef : Nat) : Nat → Walk376 → Walk376 × Bool
  | 0, w => (w, w.frontier.isEmpty)
  | fuel + 1, w =>
    match w.frontier with
    | [] => (w, true)
    | n :: rest =>
      let stop := decide (ef ≤ w.beam.length) && (match w.beam.getLast? with
        | none => false
        | some x => keyBefore x n)
      if stop then ({ w with frontier := rest }, false)
      else
        let ns := (List.range p.hdr.degree).map fun j =>
          s.peekNat (p.hdr.base + p.hdr.graph + 4 * p.hdr.degree * n.2 + 4 * j) 4
        s.graphWalk p ef fuel (ns.foldl (s.graphStep p ef) { w with frontier := rest })

/-- PQ_SCAN over a proximity graph (R376). -/
def State.graphScan (s : State) (p : Part) : Part :=
  let ef := min (p.msg.ef * 2 ^ p.msg.round) 65535
  let e := (s.pqDist p.hdr p.msg.block p.hdr.entry, p.hdr.entry)
  let (w, empty) := s.graphWalk p ef (p.hdr.rows + 1) { beam := [e], frontier := [e], seen := [e] }
  let good := w.seen.filter fun x => s.eligible p.hdr p.msg.block x.2
  { p with cands := good.take p.msg.rerank, scanned := w.seen.length, matched := good.length, exhausted := empty }

/-- The first stage of a part in SCAN on cells; a SKETCH part waits for the sweep. -/
def State.partScan (s : State) (i : Nat) (p : Part) : State :=
  if p.hdr.form = 1 then s.setPart i p
  else
    s.partReads i p .scan (s.scanRanges p.hdr p.probes) fun s =>
      let p := if p.hdr.form = 3 then s.graphScan p else s.pqScan p
      s.setPart i { p with state := .rerank }

/-- The ranges the ranking reads. -/
def ShardHdr.rankRanges (h : ShardHdr) : List (Nat × Nat) :=
  if h.form = 3 then []
  else (h.base + h.dir, 8 * h.parts) :: if 1 < h.parts then [(h.base + h.centroids, h.dim * h.parts)] else []

/-- A slot of its sequencer takes a QUEUED part: SCAN, its partitions ranked (R367, R387). -/
def State.partStart (s : State) (i : Nat) (p : Part) : State :=
  let p := { p with state := .scan }
  s.partReads i p .scan p.hdr.rankRanges fun s =>
    let (probes, exhausted) := s.probesOf p.hdr p.msg
    s.partScan i { p with probes := probes, exhausted := exhausted }

/-- QUEUED parts whose slot stands open start. -/
def State.startParts (s : State) : State :=
  s.srch.parts.foldl (fun s e =>
    match s.part e.1 with
    | some p => if p.state = .queued ∧ s.searchOpen p.hdr then s.partStart e.1 p else s
    | none => s) s

/-- The shard index of a slot of this device in the corpus, among the shards the round asks (R391). -/
def State.shardIndex (s : State) (m : QueryParts) (slot : Nat) : Option Nat :=
  match s.srch.corpora.find? fun e => e.1 == m.corpus with
  | none => none
  | some (_, c) => (c.shards.zipIdx.find? fun e => e.1 == (s.device, slot) && m.shards.contains e.2).map (·.2)

/-- Bind a part to a context. -/
def State.bindPart (s : State) (i : Nat) (m : QueryParts) (shard slot : Nat) (v : ShardSlot) : State :=
  let p : Part :=
    { state := .queued, left := .queued, die := v.cur.die, msg := m, shard := shard, slot := slot, gen := v.gen, hdr := v.cur,
      probes := [], compared := [], cands := [], scanned := 0, matched := 0, exhausted := false, code := .done, results := [] }
  let s := s.setPart i p
  if v.degraded then s.partEnds i p .poison
  else if s.searchOpen v.cur then s.partStart i p else s

/-- A part answers at once with a code, without a context. -/
def State.answerNow (s : State) (m : QueryParts) (shard : Nat) (code : Code) : State :=
  s.sendMsg m.home 2 m.tenant
    (.partAnswer m.q shard { src := s.device, code := code, results := [], scanned := 0, matched := 0, exhausted := false })

/-- Parts that wait take contexts that are free, in arrival order (R390). -/
def State.dequeueParts : Nat → State → State
  | 0, s => s
  | fuel + 1, s =>
    match s.srch.pending.find? fun e => (s.freeQuery e.1).isSome with
    | none => s
    | some (die, m, slot) =>
      let s := s.onSrch fun x => { x with pending := x.pending.erase (die, m, slot) }
      match s.freeQuery die, s.shardSlot slot, s.shardIndex m slot with
      | some i, some v, some shard => dequeueParts fuel (s.bindPart i m shard slot v)
      | _, _, _ => dequeueParts fuel s

/-- A part context becomes FREE; the next pending parts take contexts. -/
def State.freePart (s : State) (i : Nat) : State :=
  let s := (s.onSrch fun x => { x with parts := x.parts.del i }).dropOlds
  s.dequeueParts s.srch.pending.length

/-! ### Home contexts (R382 to R397) -/

/-- A home query context. -/
def State.homeQ (s : State) (q : Nat) : Option HomeQ := (s.srch.homes.find? fun e => e.1 == q).map (·.2)

/-- Put a home query context. -/
def State.setHomeQ (s : State) (q : Nat) (h : HomeQ) : State := s.onSrch fun x => { x with homes := x.homes.put q h }

/-- A corpus record. -/
def State.corpus (s : State) (k : Nat) : Option Corpus := (s.srch.corpora.find? fun e => e.1 == k).map (·.2)

/-- The shards of a query's corpus: device and slot by index. -/
def State.shardList (s : State) (h : HomeQ) : List (DevNo × Nat) := ((s.corpus h.corpus).map (·.shards)).getD []

/-- The parts of a round. -/
def State.partsOf (s : State) (q : Nat) (h : HomeQ) (shards : List Nat) : QueryParts :=
  { home := s.device, q := q, tenant := h.tenant, corpus := h.corpus, k := h.k, nprobe := h.nprobe, rerank := h.rerank,
    ef := h.ef, round := h.round, periodUs := s.act F.srchProgress_periodUs, block := h.block, shards := shards }

/-- Unicast parts to the devices of the shards asked (R391). -/
def State.unicastParts (s : State) (h : HomeQ) (m : QueryParts) : State :=
  let ds := (m.shards.filterMap fun i => (s.shardList h)[i]?).map (·.1)
  ds.eraseDups.foldl (fun s d => s.sendMsg d 2 m.tenant (.part m)) s

/-- Send a round's parts: multicast, relay or unicast (R391). A home that knows no entry of the group sends unicast. -/
def State.fanOut (s : State) (q : Nat) (h : HomeQ) (shards : List Nat) : State :=
  let m := s.partsOf q h shards
  let note (i : Nat) : ShardNote := { (h.shards.get i { stand := .sent, code := none, exhausted := false, heard := 0 }) with
    stand := .sent, heard := s.stime }
  let s := s.setHomeQ q { h with state := .waiting, shards := shards.foldl (fun t i => t.put i (note i)) h.shards }
  match s.corpus h.corpus with
  | none => s
  | some c =>
    match s.group c.group with
    | none => s.unicastParts h m
    | some g =>
      if g.source = s.device then s.sendGroup c.group 2 h.tenant (.part m)
      else if s.unreachable g.source then s.unicastParts h m
      else
        let (tag, s) := s.newTag
        let r : Msg := .relay m
        (s.sendPacket { Packet.make .msg 2 s.device g.source.toNat h.tenant with mlen := r.bytes, msg := some r, tag := tag }
          (some (.query q))).2

/-- The relay MSG of a round ended DEAD: the home sends the parts by unicast instead (R391). -/
def State.relayDead (s : State) (q : Nat) (m : QueryParts) : State :=
  match (s.srch.homes.find? fun e => e.1 == q).map (·.2) with
  | some h => if h.state = .waiting ∧ h.round = m.round then s.unicastParts h m else s
  | none => s

/-- Order of the merge: (D, vector ID, shard index) (R393). -/
def hitBefore (a b : Hit) : Bool :=
  decide (a.dist < b.dist) || (a.dist == b.dist && (decide (a.id < b.id) || (a.id == b.id && decide (a.shard < b.shard))))

/-- Merge one result: one entry for each (shard, vector ID). -/
def insertHit (e : Hit) (l : List Hit) : List Hit :=
  if l.any fun x => x.shard == e.shard && x.id == e.id then l
  else l.filter (fun x => hitBefore x e) ++ [e] ++ l.filter fun x => !hitBefore x e

/-- The shards that are not settled. -/
def HomeQ.open_ (h : HomeQ) : List Nat := (h.shards.filter fun e => e.2.stand != .settled).map (·.1)

/-- SHARD_CODE of every shard: the last answer's, or a free value where none came (assumption 19). -/
def State.shardCodes (s : State) (h : HomeQ) : List Nat × State :=
  (List.range (s.shardList h).length).foldl (fun (acc : List Nat × State) i =>
    match (h.shards.find? fun e => e.1 == i).bind (·.2.code) with
    | some c => (acc.1 ++ [c.num], acc.2)
    | none =>
      let (v, s) := acc.2.fresh
      (acc.1 ++ [v.toNat % 256], s)) ([], s)

/-- The record's code and DETAIL, of a query that ended early or whose last part has settled (R393). -/
def recordCode (h : HomeQ) (codes : List Nat) : Code × Nat :=
  let failed := min (codes.filter (· != 0)).length 255
  match h.ended with
  | some e => e
  | none =>
    if codes.contains Code.dead.num then (.dead, failed)
    else if codes.contains Code.poison.num then (.poison, failed)
    else if codes.contains Code.denied.num then (.denied, failed)
    else if codes.contains Code.malformed.num then (.malformed, failed)
    else if h.hits.length < h.k then (.short, h.round)
    else (.done, 0)

/-- Store whole lines at a tenant address for a home query: an own line at once, a line of another device by a STORE whose
REPLY is awaited (R396). -/
def State.tenantStore (s : State) (q : Nat) (t : Tenant) (addr : Nat) (data : List Line) : State :=
  data.zipIdx.foldl (fun s (l, i) =>
    match s.lookup t (addr + 64 * i) .store true with
    | .fails _ => s
    | .stand sa _ =>
      let d := BitVec.ofNat 9 (saDevice sa)
      if s.servesOwn sa then
        s.homeAccess { who := .query q, tenant := t, off := saOffset sa, kind := .store [l] (BitVec.allOnes 64), resv := none }
      else
        let (tag, s) := s.newTag
        let p := { Packet.make .store 2 s.device d.toNat t with
          lines := 1, addr := sa, data := [l], mask := BitVec.allOnes 64, tag := tag }
        (s.sendPacket p (some (.query q))).2) s

/-- Bytes as whole lines, the last one padded with zeros. -/
def toLines : Nat → List Byte → List Line
  | 0, _ => []
  | n + 1, bs => BitVec.ofNat 512 (leNat (bs.take 64)) :: toLines n (bs.drop 64)

/-- The result buffer (R394). -/
def resultBytes (k : Nat) (hits : List Hit) (codes : List Nat) : List Byte :=
  let hs := hits.take k
  (hs.flatMap fun x => leBytes 8 x.id ++ leBytes 4 (lowBits 32 x.dist) ++ leBytes 2 x.shard ++ leBytes 2 0) ++
    List.replicate (16 * (k - hs.length)) 0 ++ codes.map (BitVec.ofNat 8)

/-- Size of the result buffer (R394). -/
def resultSize (k shards : Nat) : Nat := (16 * k + shards + 63) / 64 * 64

/-- A query enters MERGE: its parts that still run are cancelled, and the result buffer is written unless it is REVOKED
(R387, R393, R394, R397). `codes` stay in the context as the shards' codes. -/
def State.queryMerge (s : State) (q : Nat) (h : HomeQ) : State :=
  let (codes, s) := s.shardCodes h
  let s := if h.ended.isSome then
      h.open_.foldl (fun s i => match (s.shardList h)[i]? with
        | some d => s.sendMsg d.1 2 h.tenant (.partCancel q i)
        | none => s) s
    else s
  let e := recordCode h codes
  let notes := codes.zipIdx.foldl (fun (t : Table ShardNote) (c, i) =>
    t.put i { stand := .settled, code := some (Code.ofNum c), exhausted := true, heard := 0 }) []
  let s := s.setHomeQ q { h with state := .merge, shards := notes, ended := some e }
  if e.1 = .revoked then s
  else s.tenantStore q h.tenant h.resultAddr
    (toLines (resultSize h.k codes.length / 64) (resultBytes h.k h.hits codes))

/-- A query ends early in FANOUT or WAITING (R387). -/
def State.queryEnds (s : State) (q : Nat) (code : Code) (detail : Nat) : State :=
  match s.homeQ q with
  | some h => if h.state = .merge then s else s.queryMerge q { h with ended := some (code, detail) }
  | none => s

/-- After a shard has settled: the next round, or the merge (R387, R392). -/
def State.querySettled (s : State) (q : Nat) (h : HomeQ) : State :=
  if !h.open_.isEmpty then s.setHomeQ q h
  else
    let answered := h.shards.any fun e => !e.2.exhausted && e.2.code != some .dead
    if h.hits.length < h.k ∧ h.round < h.widen ∧ answered then
      s.fanOut q { h with round := h.round + 1 } ((h.shards.filter fun e => !e.2.exhausted).map (·.1))
    else s.queryMerge q h

/-- A shard counts as DEAD (R391); it stays DEAD in the record. -/
def State.shardDead (s : State) (q : Nat) (h : HomeQ) (i : Nat) (n : ShardNote) : State :=
  let s := s.flag F.srchStatus_shardDead { tenant := h.tenant.toNat, index := i % 256 }
  s.querySettled q { h with shards := h.shards.put i { n with stand := .settled, code := some .dead } }

/-- A part's answer reaches its home (R387, R390, R393, R397). -/
def State.mergeAnswer (s : State) (q shard : Nat) (a : PartAnswer) : State :=
  let s := if a.code = .retry then s else s.sendMsg a.src 2 0 (.answerAck q shard)
  match s.homeQ q with
  | none => s
  | some h =>
    match h.shards.find? fun e => e.1 == shard with
    | none => s
    | some (_, n) =>
      if h.state ≠ .waiting ∨ n.stand = .settled ∨ windowOver h.stamp s.stime h.deadlineUs then s
      else if a.code = .retry then
        s.setHomeQ q { h with shards := h.shards.put shard { n with stand := .retry } }
      else if a.code = .crust then s.shardDead q h shard n
      else
        let hits := a.results.foldl (fun l (id, d) => insertHit { dist := d, id := id.toNat, shard := shard } l) h.hits
        let code := if n.code = some .dead then Code.dead else a.code
        s.querySettled q { h with
          hits := hits.take h.k, scanned := h.scanned + a.scanned, matched := h.matched + a.matched
          shards := h.shards.put shard { n with stand := .settled, code := some code, exhausted := a.exhausted } }

/-- The writes of a home query that have not taken effect. -/
def State.queryPending (s : State) (q : Nat) : Bool :=
  let mine (a : Access) : Bool := a.who == .query q
  (s.tier.blocks.any fun e => e.2.waiting.any mine) || (s.hpt.dir.any fun e => e.2.waiting.any mine) ||
    (s.tier.allocWaits.any fun w => match w.2 with
      | .access a => mine a
      | _ => false) || (s.fab.requests.any fun r => r.issuer == .query q && r.packet.kind == .store)

/-- A query's completion record (R395). -/
def State.queryRecord (s : State) (q : Nat) (h : HomeQ) (seq : Nat) : Line :=
  let e := h.ended.getD (.done, 0)
  let codes := h.shards.map fun n => n.2.code
  let good := (codes.filter (· == some .done)).length
  let us := min ((s.stime.toNat - h.stamp.toNat) / 1000) 0xFFFFFFFF
  BitVec.ofNat 512 (pack [(0, (s.statusWord h.tenant e.1 e.2).toNat), (64, h.queryId.toNat), (128, seq), (160, q), (175, 1),
    (192, if e.1 = .revoked then 0 else min h.hits.length h.k), (208, h.round), (224, good),
    (240, codes.length - good), (256, h.scanned % 2 ^ 64), (320, h.matched % 2 ^ 64), (384, us)])

/-! ### The search and the rest of the device -/

/-- The device enters CRUST (R387): its queries end, its parts answer CRUST. -/
def State.searchCrust (s : State) : State :=
  let s := s.srch.homes.foldl (fun s e => s.queryEnds e.1 .crust 0) s
  s.srch.parts.foldl (fun s e => match s.part e.1 with
    | some p => if p.state = .answer then s else s.partEnds e.1 p .crust
    | none => s) s

/-- An extent turns REVOKING: queries whose result buffer it covers end REVOKED (R387). -/
def State.searchRevoked (s : State) (k : XKey) : State :=
  s.srch.homes.foldl (fun s (q, h) =>
    if (granules h.resultAddr (resultSize h.k (s.shardList h).length)).any fun g => k.covers h.tenant g then
      s.queryEnds q .revoked 0x12
    else s) s

/-- A block is quarantined: the slots whose shard holds it are DEGRADED (R399). -/
def State.degradeShards (s : State) (b : Nat) : State :=
  s.srch.slots.foldl (fun s (i, v) =>
    let has := decide (v.cur.base / blockBytes = b) ||
      v.cur.items.any fun r => decide ((v.cur.base + r.1) / blockBytes ≤ b) && decide (b * blockBytes < v.cur.base + r.1 + r.2)
    if has && !v.degraded then
      (s.setShardSlot i { v with degraded := true }).flag F.srchStatus_shardDegraded
        { tenant := v.cur.tenant.toNat, index := i }
    else s) s

end Sys2Proof.Machine
end

