-- ==== Sys2Proof/Machine/Host.lean ====
section
/-! DEFINITION. The host port: bindings, accesses to Dynamic Capacity, home-operation lines, recalls and fencing,
withdrawal of extent entries, commons and their versions (R483 to R523). -/
namespace Sys2Proof.Machine

/-! ### Bindings (R484 to R487, R503, R521) -/

/-- Is the binding ACTIVE? -/
def State.bindActive (s : State) (b : Nat) : Bool := s.getF F.hptBind_state b == 1

/-- Are the IDE streams that the image requires established (R521)? -/
def State.ideOk (s : State) : Bool :=
  !s.hpt.ideRequired || (s.getF F.hptLink_ideIo == 1 && s.getF F.hptLink_ideMem == 1)

/-- A holder leaves every entry of this home (R503). -/
def State.dropHolder (s : State) (h : Holder) : State :=
  (s.hpt.dir.filter fun e => e.2.holders.any fun g => g.holder == h).foldl (fun s e => s.removeHolder e.1 h) s

/-- The devices of the stand but this one. -/
def State.otherDevices (s : State) : List DevNo :=
  ((List.range 512).map fun d => BitVec.ofNat 9 d).filter fun d => d != s.device && s.inStand d

/-- A binding of this device is fenced (R503). -/
def State.fenceBinding (s : State) (b : Nat) : State :=
  if s.getF F.hptBind_state b = 2 then s
  else
    let h : Holder := { dev := s.device, binding := b }
    let s := (s.setF F.hptBind_state b 2).flag F.hptStatus_fenced { index := b }
    let s := s.onHpt fun p => { p with snoops := p.snoops.filter fun x => x.2.1 != b }
    let s := s.otherDevices.foldl (fun s d => s.sendMsg d 0 0 (.fenced h)) s
    s.dropHolder h

/-- A dirty line, or none, comes back from a holder of a line of this home (R494, R502). -/
def State.holderGone (s : State) (h : Holder) (sa : Word) (dirty : Option Line) : State :=
  let l := saOffset sa / 64
  if (s.dirAt l).holders.any fun g => g.holder == h then
    let s := match dirty with
      | some d => if (s.dirAt l).owned then s.applyDirty (64 * l) d else s
      | none => s
    s.removeHolder l h
  else s

/-! ### Accesses to Dynamic Capacity (R489, R492, R493) -/

/-- Device physical address of Dynamic Capacity (R488). -/
def dcBase : Nat := 0x400000000

/-- Does an extent of the binding hold a tenant address (R489)? -/
def State.dcHolds (s : State) (b a : Nat) : Bool :=
  s.hpt.extents.any fun e => e.binding == b && decide (e.addr ≤ a) && decide (a < e.addr + e.blocks * granuleBytes)

/-- A host access to Dynamic Capacity: the extent list, the translation, the home (R492). -/
def State.dcAccess (s : State) (b dpa : Nat) (kind : AccKind) (ask : CopyAsk) : State :=
  let a := dpa - dcBase
  let t := s.bindTenant b
  let (want, data, mask, isLoad) : Wants × List Line × Mask × Bool := match kind with
    | .store d m => (.store, d, m, false)
    | .load _ => (.load, [], 0, true)
    | .atom .. => (.atom, [], 0, false)
  let fails (s : State) (c : Code) : State := s.hostEnd b dpa c (if isLoad then [lineOnes] else [])
  if !s.dcHolds b a then fails s .absent
  else match s.lookup t a want false with
    | .fails c => fails s c
    | .stand sa key =>
      let s := s.onXlt fun x => { x with hostCache := pushKey 32 key x.hostCache }
      let d := BitVec.ofNat 9 (saDevice sa)
      if s.servesOwn sa then
        s.homeAccess { who := .host b dpa ask, tenant := t, off := saOffset sa, kind := kind, resv := s.kvResv t a }
      else
        let (tag, s) := s.newTag
        let p := { Packet.make (if isLoad then .load else .store) 2 s.device d.toNat t with
          lines := 1, addr := sa, data := data, mask := mask, tag := tag, copy := some (b, ask) }
        match s.sendPacket p (some (.host b dpa ask)) with
        | (.sent, s) => s
        | (.dead, s) => fails s .dead

/-! ### Withdrawing extent entries (R150 to R153, R509) -/

/-- Does a tenant address of the entry's range lie in a context's prompt, KV region or ring? -/
def State.ctxUses (s : State) (c : Ctx) (k : XKey) : Bool :=
  let a := s.aperture c.tenant
  let hit (addr n : Nat) : Bool := decide (0 < n) && (granules addr n).any fun g => k.covers c.tenant g
  hit c.kvAddr (s.regionBytes c) || hit c.promptAddr (4 * c.prompt.length) || hit a.ringBase (64 * a.ringEntries)

/-- Steps 1 and 2 of R150: the entry becomes REVOKING and leaves every cache; what depends on its range ends REVOKED
(R320, R387). -/
def State.startRevoke (s : State) (k : XKey) : State :=
  let s := s.onXlt fun x => { x with entries := updWhere (fun e => e.key == k) (fun e => { e with state := .revoking }) x.entries }
  let s := s.dropKey k
  let s := (s.svc.ctxs.filter fun e => e.2.live && s.ctxUses e.2 k).foldl (fun s e => s.ctxEnd e.1 .revoked 1) s
  s.searchRevoked k

/-- The movers whose running access was translated through the entry (R151). -/
def State.moversThrough (s : State) (k : XKey) : List (Nat × Nat) :=
  s.cell.cells.flatMap fun e => (e.2.mv.filter fun m => match m.2.run with
    | some r => r.through.contains k
    | none => false).map fun m => (e.1, m.1)

/-- A host access of a binding through the entry, at a DPA. -/
def State.hostThrough (s : State) (k : XKey) (b dpa : Nat) : Bool := k.covers (s.bindTenant b) (granuleOf (dpa - dcBase))

/-- Is an access of this device in flight through the entry? -/
def State.accessThrough (s : State) (k : XKey) (a : Access) : Bool :=
  match a.who with
  | .host b dpa _ => s.hostThrough k b dpa
  | .homeop b l => k.covers (s.bindTenant b) (granuleOf (dfield (s.homeOpLine b l).request 8 0 56))
  | _ => false

/-- Is a request of this device in flight through the entry? -/
def State.requestThrough (s : State) (k : XKey) (r : Request) : Bool :=
  match r.issuer with
  | .host b dpa _ => s.hostThrough k b dpa
  | .homeop b l => k.covers (s.bindTenant b) (granuleOf (dfield (s.homeOpLine b l).request 8 0 56))
  | _ => false

/-- Is any access translated through the entry in flight (R151)? -/
def State.inFlight (s : State) (k : XKey) : Bool :=
  !(s.moversThrough k).isEmpty || (s.tier.blocks.any fun e => e.2.waiting.any (s.accessThrough k)) ||
    (s.hpt.dir.any fun e => e.2.waiting.any (s.accessThrough k)) || (s.fab.requests.any (s.requestThrough k)) ||
    s.tier.allocWaits.any fun w => match w.2 with
      | .access a => s.accessThrough k a
      | _ => false

/-- A host access or home operation in flight ends ABORTED. -/
def State.abortWho (s : State) (w : Who) : State :=
  match w with
  | .host b dpa _ => s.hostEnd b dpa .aborted [lineOnes]
  | .homeop b l => s.homeopEnd b l .aborted 0 none
  | _ => s

/-- Step 3 of R150 at its bound: what is still in flight ends ABORTED (R151); how many accesses did. -/
def State.abortThrough (s : State) (k : XKey) : Nat × State :=
  if s.inFlight k then
    let s := s.flag F.xltStatus_revokeAbort { tenant := k.tenant.toNat, addr := BitVec.ofNat 64 (k.tgran * granuleBytes) }
    let ms := s.moversThrough k
    let s := ms.foldl (fun s m => match (s.chan m.1 m.2).run with
      | some r => s.setRun m.1 m.2 { r.ends .aborted with tags := [], got := [] }
      | none => s) s
    let mine := s.accessThrough k
    let gone := (s.tier.blocks.flatMap fun e => e.2.waiting.filter mine) ++ (s.hpt.dir.flatMap fun e => e.2.waiting.filter mine) ++
      s.tier.allocWaits.filterMap fun w => match w.2 with
        | .access a => if mine a then some a else none
        | _ => none
    let reqs := s.fab.requests.filter (s.requestThrough k)
    let s := s.onTier fun t => { t with
      blocks := t.blocks.map fun e => (e.1, { e.2 with waiting := e.2.waiting.filter fun a => !mine a })
      allocWaits := t.allocWaits.filter fun w => match w.2 with
        | .access a => !mine a
        | _ => true }
    let s := s.onHpt fun h => { h with dir := h.dir.map fun e => (e.1, { e.2 with waiting := e.2.waiting.filter fun a => !mine a }) }
    let s := s.onFab fun f => { f with requests := f.requests.filter fun r => !(reqs.contains r) }
    let s := gone.foldl (fun s a => s.abortWho a.who) s
    (ms.length + gone.length + reqs.length, reqs.foldl (fun s r => match r.issuer with
      | .host b dpa ask => s.abortWho (.host b dpa ask)
      | .homeop b l => s.abortWho (.homeop b l)
      | _ => s) s)
  else (0, s)

/-- Step 4 of R150: the entry is INVALID. -/
def State.dropEntry (s : State) (k : XKey) : State := s.onXlt fun x => { x with entries := x.entries.filter fun e => e.key != k }

/-- An XLT edit ends with a code and the STATE of the entry found (R160). -/
def State.xltEnd (s : State) (code : Code) (st : Nat) : State :=
  ((s.setF F.xltEditCmd_busy 0 0).setF F.xltEditResult_code 0 code.num).setF F.xltEditResult_state 0 st

/-- Steps 3 and 4 for the entry that XLT_EDIT_CMD withdraws. -/
def State.revokeDone (s : State) : State :=
  match s.xlt.revoking with
  | some k => (((s.dropEntry k).onXlt fun x => { x with revoking := none }).addF F.xltShootdownCount_count 0 1).xltEnd .done (s.getF F.xltEditResult_state)
  | none => s

/-! ### Dynamic Capacity (R508 to R510) -/

/-- An HPT command ends. -/
def State.hptEnd (s : State) (code : Nat) : State := (s.setF F.hptCmd_busy 0 0).setF F.hptResult_code 0 code

/-- The granules of an extent, as tenant granules. -/
def DcExtent.granules (e : DcExtent) : List Nat := (List.range e.blocks).map (· + e.addr / granuleBytes)

/-- The entries of an extent. -/
def State.dcKeys (s : State) (e : DcExtent) : List XKey :=
  (e.granules.filterMap fun g => (s.entryAt (s.bindTenant e.binding) g).map (·.key)).eraseDups

/-- Replace a running operation. -/
def State.setDcOp (s : State) (old new : DcOp) : State :=
  s.onHpt fun h => { h with dcOps := updWhere (fun o => o == old) (fun _ => new) h.dcOps }

/-- Step 2 of R509. -/
def State.dcDrain (s : State) (o : DcOp) : State :=
  let ks := s.dcKeys o.ext
  ks.foldl (fun s k => s.startRevoke k) (s.setDcOp o { o with phase := .draining, keys := ks })

/-- This home recalls every copy a holder has in a range. -/
def State.recallRange (s : State) (h : Holder) (off n : Nat) : State :=
  (s.hpt.dir.filter fun e => decide (off ≤ 64 * e.1) && decide (64 * e.1 < off + n) &&
    e.2.holders.any fun g => g.holder == h).foldl (fun s e => s.recallHolders e.1 [h]) s

/-- Has the holder a copy in a range of this home? -/
def State.holdsIn (s : State) (h : Holder) (off n : Nat) : Bool :=
  s.hpt.dir.any fun e => decide (off ≤ 64 * e.1) && decide (64 * e.1 < off + n) && e.2.holders.any fun g => g.holder == h

/-- The own ranges and the ranges of other homes that an extent's entries name. -/
def State.dcRanges (s : State) (o : DcOp) : List (Word × Nat) :=
  o.ext.granules.filterMap fun g => (s.entryAt (s.bindTenant o.ext.binding) g).map fun e => (e.standOf (g * granuleBytes), granuleBytes)

/-- Step 3 of R509: the homes of the extent's granules recall the binding's copies; another home is asked by a RECALL with
RANGE (assumption 21). -/
def State.dcRecall (s : State) (o : DcOp) : State :=
  let h : Holder := { dev := s.device, binding := o.ext.binding }
  let rs := s.dcRanges o
  let far := rs.filter fun r => BitVec.ofNat 9 (saDevice r.1) != s.device
  let s := s.setDcOp o { o with phase := .recalling, waits := far.map (·.1) }
  rs.foldl (fun s r =>
    let d := BitVec.ofNat 9 (saDevice r.1)
    if d = s.device then s.recallRange h (saOffset r.1) r.2
    else s.sendMsg d 0 0 (.recall o.ext.binding r.1 (some r.2))) s

/-- Are all copies of the extent back? -/
def State.dcRecalled (s : State) (o : DcOp) : Bool :=
  let h : Holder := { dev := s.device, binding := o.ext.binding }
  o.waits.isEmpty && !(s.dcRanges o).any fun r =>
    BitVec.ofNat 9 (saDevice r.1) == s.device && s.holdsIn h (saOffset r.1) r.2

/-- Steps 4 and 5 of R509. -/
def State.dcFinish (s : State) (o : DcOp) : State :=
  let b := o.ext.binding
  let s := o.keys.foldl (fun s k => s.dropEntry k) s
  let s := s.onHpt fun h => { h with extents := h.extents.filter (· != o.ext), dcOps := h.dcOps.filter (· != o) }
  let s := s.setF F.hptBind_extents b (s.getF F.hptBind_extents b - 1)
  let s := if o.forced then s.emit (.dcEvent b true (dcBase + o.ext.addr) o.ext.blocks) else s
  if o.command then s.hptEnd 0 else s

/-- The withdrawals whose recalls are done end. -/
def State.dcProgress (s : State) : State :=
  s.hpt.dcOps.foldl (fun s o => if o.phase = .recalling ∧ s.dcRecalled o then s.dcFinish o else s) s

/-- Ranges that other devices asked this home to recall: a range with no copy left is reported. -/
def State.rangeProgress (s : State) : State :=
  let done := s.hpt.ranges.filter fun r => !s.holdsIn r.1 (saOffset r.2.1) r.2.2
  let s := s.onHpt fun h => { h with ranges := h.ranges.filter fun r => !done.contains r }
  done.foldl (fun s r => s.sendMsg r.1.dev 0 0 (.recallAck r.1 r.2.1 none)) s

/-! ### Commons (R511 to R520) -/

/-- A commons by number. -/
def State.commonsAt (s : State) (c : Nat) : Option Commons := (s.hpt.commons.find? fun e => e.1 == c).map (·.2)

/-- Put a commons. -/
def State.setCommons (s : State) (c : Nat) (v : Commons) : State := s.onHpt fun h => { h with commons := h.commons.put c v }

/-- Add one reference to each image. -/
def State.addRefs (s : State) (is : List Nat) : State :=
  is.foldl (fun s i => match s.imageAt i with
    | some v => s.setImage i { v with refs := v.refs + 1 }
    | none => s) s

/-- Take one reference from each image. -/
def State.dropRefs (s : State) (is : List Nat) : State := is.foldl (fun s i => s.dropRef i) s

/-- The latest version's number. -/
def Commons.latest (c : Commons) : Nat := (c.versions.head?.map (·.num)).getD 0

/-- Is a version live? -/
def Commons.live (c : Commons) (v : Nat) : Bool := c.versions.any fun x => x.num == v

/-- Retire the versions that are not the latest and that no view holds (R514). -/
def State.retireVersions (s : State) (n : Nat) : State :=
  match s.commonsAt n with
  | none => s
  | some c =>
    let keep (v : Version) : Bool := v.num == c.latest || c.views.any fun w => w.2.2 == v.num
    let gone := c.versions.filter fun v => !keep v
    gone.foldl (fun s v => s.dropRefs v.images) (s.setCommons n { c with versions := c.versions.filter keep })

/-- Views of all commons of this home. -/
def State.viewCount (s : State) : Nat := (s.hpt.commons.map fun e => e.2.views.length).sum

/-- Home records of a commons' granules. -/
def State.setHomes (s : State) (first n : Nat) (r : HomeRec) : State :=
  (List.range n).foldl (fun s k => s.onXlt fun x => { x with homes := x.homes.put (first + k) r }) s

/-- Blocks of a granule. -/
def granuleBlocks : Nat := 128

/-- A COM_CREATE goes on (R511): recalls, then seals, then version 1. -/
def State.createProgress (s : State) : State :=
  match s.hpt.creating with
  | none => s
  | some c =>
    let first := c.first * granuleBlocks
    let bs := (List.range (c.granules * granuleBlocks)).map (· + first)
    let lo := c.first * granuleBytes
    let hi := (c.first + c.granules) * granuleBytes
    let copies := s.hpt.dir.any fun e => decide (lo ≤ 64 * e.1) && decide (64 * e.1 < hi) && !e.2.holders.isEmpty
    let stop (s : State) (code : Code) : State := (s.onHpt fun h => { h with creating := none }).hptEnd code.num
    if copies then s
    else
      let s :=
        if c.sealing then s
        else
          let job : SealJob := { owner := .publish c.commons, elem := 0, t1Copy := false, kind := 4, version := 1, image := none }
          bs.foldl (fun s b =>
            if (s.blk b).state = .sealed then s else (s.requestSeal b c.owner job).getD s)
            (s.onHpt fun h => { h with creating := some { c with sealing := true } })
      if bs.any fun b => (s.blk b).state = .quarantined then stop s .poison
      else if bs.all fun b => (s.blk b).state = .sealed then
        let images := bs.map fun b => ((s.blk b).image).getD 0
        let v : Commons :=
          { firstBlock := first, blocks := c.granules * granuleBlocks, owner := c.owner, rights := [], views := [],
            versions := [{ num := 1, images := images }] }
        stop (((s.addRefs images).setHomes c.first c.granules { owner := c.owner, mode := .commons }).setCommons c.commons v) .done
      else s

/-- A seal that a COM_CREATE asked for ended otherwise than DONE: the command ends with that code. -/
def State.createSealEnd (s : State) (code : Code) : State :=
  if code = .done ∨ s.hpt.creating = none then s
  else (s.onHpt fun h => { h with creating := none }).hptEnd code.num

/-- The copies of a commons' blocks that some holders have, as (line, holder), with their recalls started. -/
def State.recallWhere (s : State) (firstBlock blocks : Nat) (p : Holding → Bool) : List (Nat × Holder) × State :=
  let lo := firstBlock * blockBytes
  let hi := (firstBlock + blocks) * blockBytes
  let hit := (s.hpt.dir.filter fun e => decide (lo ≤ 64 * e.1) && decide (64 * e.1 < hi)).flatMap fun e =>
    (e.2.holders.filter p).map fun g => (e.1, g.holder)
  (hit, hit.foldl (fun s x => s.recallHolders x.1 [x.2]) s)

/-- A home operation's reply: to this device's line, or by HOMEOP_REPLY (R507). -/
def State.sendHomeReply (s : State) (r : HomeReply) : State :=
  if r.src = s.device then s.homeopEnd r.binding r.line r.code r.detail r.result
  else s.sendMsg r.src 2 0 (.homeopReply r.binding r.line r.code r.detail r.result)

/-- Replies whose recalls have ended go out. -/
def State.replyProgress (s : State) : State :=
  let open_ (x : Nat × Holder) : Bool := (s.dirAt x.1).holders.any fun g => g.holder == x.2
  let ready := s.hpt.replies.filter fun r => !r.waits.any open_
  let s := s.onHpt fun h => { h with replies := h.replies.filter fun r => !ready.contains r }
  ready.foldl (fun s r => s.sendHomeReply r) s

/-- What the host port finishes once its waits have ended. -/
def State.hostProgress (s : State) : State := s.createProgress.dcProgress.rangeProgress.replyProgress

/-- A home operation's request as it takes effect at the home. -/
structure HomeReq where
  src : DevNo
  tenant : Tenant
  binding : Nat
  line : Nat
  sa : Word
  staging : Word
  req : Line
  stagingCode : Code

/-- The reply of a request that ends at once. -/
def HomeReq.reply (q : HomeReq) (code : Code) (detail : Nat) (result : Option Word) : HomeReply :=
  { src := q.src, binding := q.binding, line := q.line, code := code, detail := detail, result := result, waits := [] }

/-- The request's view. -/
def HomeReq.isView (q : HomeReq) (v : DevNo × Tenant × Nat) : Bool := v.1 == q.src && v.2.1 == q.tenant

/-- OPEN and CLOSE at the home (R516): the view changes, and the view's copies are recalled before the reply. -/
def State.setView (s : State) (n : Nat) (c : Commons) (q : HomeReq) (v : Option Nat) : State :=
  let rest := c.views.filter fun x => !q.isView x
  let views := match v with
    | some k => rest ++ [(q.src, q.tenant, k)]
    | none => rest
  let s := s.setCommons n { c with views := views }
  let (waits, s) := s.recallWhere c.firstBlock c.blocks fun g => g.holder.dev == q.src && g.tenant == q.tenant
  let s := s.retireVersions n
  s.onHpt fun h => { h with replies := h.replies ++
    [{ q.reply .done 0 (some (BitVec.ofNat 64 (v.getD c.latest))) with waits := waits }] }

/-- Seal the staging blocks as new images (step 5 of R517): from the own store, or of free bytes where the staging lies on
another device (assumption 22). None when T2 is full: the state with the images made so far freed. -/
def State.stagingImages (s : State) (c : Commons) (q : HomeReq) (first version : Nat) : Nat → List Nat → Option (List Nat × State)
  | 0, made => some (made, s)
  | n + 1, made =>
    let k := made.length
    let off := saOffset q.staging + k * blockBytes
    let own := BitVec.ofNat 9 (saDevice q.staging) == s.device
    let payload : Mem := (List.range blockBytes).foldl (fun m i =>
      m.setByte i (if own then s.peekOff (off + i) else (Config.freeWord (s.free + i)).setWidth 8)) []
    let s := if own then s else { s with free := s.free + blockBytes }
    match s.makeImage (c.firstBlock + first + k) payload 0 4 c.owner (BitVec.ofNat 64 version) with
    | none => none
    | some (i, s) => s.stagingImages c q first version n (made ++ [i])

/-- The commit of a PUBLISH (R518). -/
def State.commitVersion (s : State) (n : Nat) (c : Commons) (q : HomeReq) (first : Nat) (made : List Nat) : State :=
  let v := c.latest + 1
  let old := (c.versions.head?.map (·.images)).getD []
  let images := old.take first ++ made ++ old.drop (first + made.length)
  let s := s.addRefs images
  let s := made.zipIdx.foldl (fun s (i, k) =>
    let b := c.firstBlock + first + k
    let ws := (s.blk b).waiting
    let s := (((s.dropCopy b .t0).dropCopy b .t1).unbindImage b).bindImage b i
    (s.setBlk b { s.blk b with state := .sealed, waiting := [], refetch := none }).makeReady (ws.map AllocWork.access)) s
  let s := (s.setCommons n { c with versions := { num := v, images := images } :: c.versions }).retireVersions n
  let pinned (g : Holding) : Bool := c.views.any fun w => w.1 == g.holder.dev && w.2.1 == g.tenant
  let (waits, s) := s.recallWhere (c.firstBlock + first) made.length fun g => !pinned g
  s.onHpt fun h => { h with replies := h.replies ++ [{ q.reply .done 0 (some (BitVec.ofNat 64 v)) with waits := waits }] }

/-- PUBLISH at the home (R517). -/
def State.runPublish (s : State) (n : Nat) (c : Commons) (q : HomeReq) : State :=
  let first := dfield q.req 0x20 0 32
  let count := dfield q.req 0x24 0 32
  let v := c.latest
  let ends (s : State) (code : Code) (detail : Nat) (r : Option Word) : State := s.sendHomeReply (q.reply code detail r)
  let off := saOffset q.staging
  let held := c.views.any fun w => w.2.2 == v
  if c.right q.tenant ≠ .publish then ends s .denied 1 none
  else if c.blocks < first + count then ends s .malformed 0x20 none
  else if granuleOf off ≠ granuleOf (off + count * blockBytes - 1) then ends s .malformed 0x18 none
  else if dfield q.req 0x10 0 64 ≠ v then
    ends (s.addF F.hptStaleCount_count 0 1) .stale 0 (some (BitVec.ofNat 64 v))
  else if 64 < c.versions.length + (if held then 1 else 0) then ends s .quota 1 none
  else if q.stagingCode ≠ .done then ends s q.stagingCode 0 none
  else if BitVec.ofNat 9 (saDevice q.staging) = s.device ∧ s.offReady off (count * blockBytes) = .poison then ends s .poison 0 none
  else match s.stagingImages c q first (v + 1) count [] with
    | none => ends s .quota 2 none
    | some (made, s) => s.commitVersion n c q first made

/-- OPEN, CLOSE or PUBLISH takes effect at the commons' home (R131, R513, R516, R517). -/
def State.runHomeop (s : State) (q : HomeReq) : State :=
  let ends (code : Code) (detail : Nat) (r : Option Word) : State := s.sendHomeReply (q.reply code detail r)
  match s.hpt.commons.find? fun e =>
    decide (e.2.firstBlock ≤ saOffset q.sa / blockBytes) && decide (saOffset q.sa / blockBytes < e.2.firstBlock + e.2.blocks) with
  | none => ends .absent 1 none
  | some (n, c) =>
    if q.tenant ≠ 0 ∧ c.right q.tenant = .none then ends .denied 1 none
    else if lineOpc q.req = 4 then s.runPublish n c q
    else if lineOpc q.req = 3 then s.setView n c q none
    else
      let want := dfield q.req 0x10 0 64
      let v := if want = 0 then c.latest else want
      if !c.live v then
        (s.addF F.hptStaleCount_count 0 1).sendHomeReply (q.reply .stale 0 (some (BitVec.ofNat 64 c.latest)))
      else if !(c.views.any q.isView) && decide (4096 ≤ s.viewCount) then ends .quota 3 none
      else s.setView n c q (some v)

/-! ### Home-operation lines (R495 to R498) -/

/-- The first failing field of a request line, by its first byte (R495, R497). -/
def homeopCheck (l : Line) : Option Nat :=
  let f := dfield l
  let op := lineOpc l
  ([ (0x00, op == 0 || decide (4 < op)), (0x01, f 0 10 54 != 0), (0x08, op == 1 && f 8 0 56 % 8 != 0), (0x0F, f 0xF 0 8 != 0),
     (0x18, op == 4 && f 0x18 0 56 % blockBytes != 0), (0x24, op == 4 && (f 0x24 0 32 == 0 || decide (4096 < f 0x24 0 32))),
     (0x28, f 0x28 0 192 != 0) ].find? fun e => e.2).map (·.1)

/-- An accepted request runs (R497). -/
def State.homeopRun (s : State) (b l : Nat) (req : Line) : State :=
  let t := s.bindTenant b
  let addr := dfield req 8 0 56
  let ends (s : State) (code : Code) (detail : Nat) : State := s.homeopEnd b l code detail none
  if s.mode = .crust then ends s .crust 0
  else match homeopCheck req with
    | some off => ends s .malformed off
    | none =>
      if lineOpc req = 1 then
        match s.lookup t addr .atom false with
        | .fails c => ends s c 0
        | .stand sa _ =>
          let d := BitVec.ofNat 9 (saDevice sa)
          let op := dfield req 0 8 2
          let operand := BitVec.ofNat 64 (dfield req 0x10 0 64)
          let compare := BitVec.ofNat 64 (dfield req 0x18 0 64)
          if s.servesOwn sa then
            s.homeAccess { who := .homeop b l, tenant := t, off := saOffset sa, kind := .atom op operand compare, resv := s.kvResv t addr }
          else
            let (tag, s) := s.newTag
            let p := { Packet.make .atomic 2 s.device d.toNat t with
              addr := sa, atop := op, operand := operand, compare := compare, tag := tag, copy := some (b, .none) }
            match s.sendPacket p (some (.homeop b l)) with
            | (.sent, s) => s
            | (.dead, s) => ends s .dead 0
      else
        match s.lookup t addr .load false with
        | .fails c => ends s c 0
        | .stand sa _ =>
          let stage := dfield req 0x18 0 56
          let bad : Option Code := if lineOpc req = 4 then
              (granules stage (dfield req 0x24 0 32 * blockBytes)).findSome? fun g =>
                match s.lookup t (g * granuleBytes) .load false with
                | .fails c => some c
                | .stand _ _ => none
            else none
          match bad with
          | some c => ends s c 0
          | none =>
            let staging : Word := if lineOpc req = 4 then
                match s.lookup t stage .load false with
                | .stand w _ => w
                | .fails _ => 0
              else 0
            -- a staging range that leaves its granule of the requester is malformed (step 2 of R517)
            let out := lineOpc req == 4 &&
              granuleOf stage != granuleOf (stage + dfield req 0x24 0 32 * blockBytes - 1)
            let d := BitVec.ofNat 9 (saDevice sa)
            let stagingOff := if out then staging ||| 0x1FFFFFF else staging
            if d = s.device then
              s.runHomeop { src := s.device, tenant := t, binding := b, line := l, sa := sa, staging := stagingOff, req := req, stagingCode := .done }
            else if s.unreachable d then ends (s.noteDead d sa t) .dead 0
            else
              let (tag, s) := s.newTag
              let m : Msg := .homeop t b l sa stagingOff req
              (s.sendPacket { Packet.make .msg 2 s.device d.toNat t with mlen := m.bytes, msg := some m, tag := tag, addr := sa }
                (some (.homeop b l))).2

/-- A write to a home-operation line (R495): whole lines only, and only to an idle line. -/
def State.homeopWrite (s : State) (b l : Nat) (req : Line) (whole : Bool) : State :=
  if !s.bindActive b || !s.ideOk then s
  else
    let v := s.homeOpLine b l
    if v.busy || !whole then
      (s.setHomeOpLine b l { v with discards := min (v.discards + 1) 255 }).flag F.hptStatus_discard { index := b }
    else
      (s.setHomeOpLine b l { v with request := req, busy := true, discards := 0, seq := v.seq + 1 }).homeopRun b l req

/-- What a read of a home-operation line returns (R496). -/
def HomeOpLine.data (v : HomeOpLine) : Line :=
  BitVec.ofNat 512 (pack [(0, v.status.toNat), (64, v.result.toNat), (128, v.seq.toNat), (160, v.busy.toNat), (161, v.discards)])

end Sys2Proof.Machine
end

