-- ==== Sys2Proof/Machine/After.lean ====
section
/-! DEFINITION. What a command sets going in the device's own blocks before it is over: work whose wait has ended, what
the tiers report, movers that have their answers, releases, holds. -/
namespace Sys2Proof.Machine

/-- One event of the tiers reaches the blocks that depend on it (R108, R332, R346, R399, R511). -/
def State.tierReports (s : State) (e : TierEvent) : State :=
  match e with
  | .quarantined b => (((s.blockModels b).foldl (fun s m => s.degradeModel m) s).poisonRegion b).degradeShards b
  | .sealEnd (.publish _) _ code => s.createSealEnd code
  | .sealEnd _ _ _ => s

/-- The tiers' events so far. -/
def State.takeReports (s : State) : State :=
  s.tier.events.foldl (fun s e => s.tierReports e) (s.onTier fun t => { t with events := [] })

/-- Movers whose access has been answered go on. -/
def State.pumpMovers (s : State) : State :=
  s.cell.cells.foldl (fun s e => e.2.mv.foldl (fun s m =>
    match (s.chan e.1 m.1).run with
    | some r => if r.phase = .running then s.moverPump e.1 m.1 else s
    | none => s) s) s

/-- A cell whose ENG.REL waited for its descriptors starts its store-complete fence once they have ended (R230). -/
def State.startReleases (s : State) : State :=
  s.cell.cells.foldl (fun s e =>
    let v := s.cellAt e.1
    if v.stall = .rel none ∧ v.quiet then
      let (id, _, _, s) := s.startFence (.cell e.1) [1, 2]
      s.onCellAt e.1 fun v => { v with stall := .rel (some id) }
    else s) s

/-- Accesses that wait somewhere in the own store. -/
def State.waitingAccesses (s : State) : List Access :=
  let work (w : AllocWork) : Option Access := match w with
    | .access a => some a
    | _ => none
  (s.tier.blocks.flatMap fun e => e.2.waiting) ++ (s.hpt.dir.flatMap fun e => e.2.waiting) ++
    (s.tier.allocWaits.map (·.2)).filterMap work ++ s.tier.ready.filterMap work

/-- Has every packet delivered of the flow of a FENCE taken effect (R465)? -/
def State.fenceMet (s : State) (p : Packet) : Bool :=
  !(s.waitingAccesses.any fun a => match a.who with
    | .fabric q => q.flow == p.flow
    | _ => false)

/-- Delivered FENCEs are answered once their flows have taken effect. -/
def State.answerFences (s : State) : State :=
  s.fab.fencesIn.foldl (fun s p =>
    if s.fenceMet p then
      (s.onFab fun x => { x with fencesIn := x.fencesIn.erase p }).sendLoose
        { Packet.make .fenceDone 0 s.device p.src.toNat p.tenant with tag := p.tag, flowSeq := p.flowSeq }
    else s) s

/-- One round. -/
def State.round (s : State) : State := s.settleAll.takeReports.pumpMovers.hostProgress

/-- Rounds until nothing moves; each piece of work sets off at most one more. -/
def State.rounds : Nat → State → State
  | 0, s => s
  | fuel + 1, s =>
    let s := s.round
    if s.tier.ready.isEmpty && s.tier.events.isEmpty then s else rounds fuel s

/-! ### Steps of the schedule (R264 to R269) -/

/-- The template of a track that runs in a wale (R264); an adopted track is numbered from 16 on (R554). -/
def State.templateAt (s : State) (t : Nat) (w : Wale) : Option Template :=
  match s.sched.tracks.find? fun e => e.1 == t with
  | none => none
  | some (_, r) =>
    let pos := (((w.toNat : Int) - (r.origin.toNat : Int)) % (r.cycle.length : Int)).toNat
    let id := r.cycle.getD pos 0
    if id = 0 then none
    else (s.sched.templates.find? fun e => e.1 == (if t < 16 then id else 65536 + id)).map (·.2)

/-- Is a track one of the ring-model tracks of R552: a template of it holds a SERVICE step of a model with RING set, or a
STREAM step on a die whose layers belong to one? -/
def State.ringTrack (s : State) (t : Nat) : Bool :=
  let ringModel (m : Nat) : Bool := s.getF F.svcModel_ring m == 1
  let streams (die : Nat) : Bool := match s.weave.running with
    | none => false
    | some w => w.models.any fun m => ringModel m.model && m.layers.any fun e => e.1 == die
  match s.sched.tracks.find? fun e => e.1 == t with
  | none => false
  | some (_, r) => s.sched.templates.any fun e => r.cycle.contains (if t < 16 then e.1 else e.1 - 65536) && e.2.track == r.track &&
      e.2.steps.any fun d => (d.kind == .service && ringModel d.argIndex) || (d.kind == .stream && streams d.die)

/-- Has every step of an adopted track ended in this wale? -/
def State.adoptedEnded (s : State) : Bool :=
  s.sched.runs.all fun e => decide (e.1 < 16) || e.2.failed ||
    (e.2.open_.isEmpty && (e.2.ended || (s.templateAt e.1 s.wale).isNone))

/-- PEER while a failover runs at the adopter, and while adopted tracks run late (R552, R554); REHEARSAL where the failure
was injected (R561). -/
def State.failoverHolds (s : State) : State :=
  let late := !s.adoptedEnded && decide (s.sched.start.toNat + s.sched.lenUs * 1000 ≤ s.stime.toNat + 8000)
  let runs := match s.map.failover with
    | some f => f.adopter
    | none => s.map.adopted.isSome && late
  let injected := match s.map.adopted.bind s.fateOf with
    | some r => r.rehearsal
    | none => false
  let block := match s.map.active with
    | some (k, d) => k == 3 && d == s.device && s.refetchWait
    | none => false
  (s.trackHold causePeer (runs && !injected) none).trackHold causeRehearsal ((runs && injected) || block) none

/-- SERVICE steps of a model in the templates of the wale, tracks that have failed left out. -/
def State.serviceSteps (s : State) (m : Nat) : Nat :=
  (s.sched.runs.map fun e =>
    if e.2.failed then 0
    else (((s.templateAt e.1 s.wale).map (·.steps)).getD []).countP fun d => d.kind == .service && d.argIndex == m).sum

/-- Steps whose work has ended leave the list of open steps. -/
def TrackRun.close (r : TrackRun) : TrackRun :=
  let past (o : OpenStep) : Bool :=
    match o.kind with
    | .kernel | .service => o.cells.isEmpty
    | .stream => o.layers == 0
    | _ => false
  { r with
    open_ := r.open_.filter fun o => !past o
    served := r.served ++ r.open_.filter fun o => past o && o.kind == .service }

/-- Steps end; a model whose SERVICE steps of the wale have all ended advances its requests (R269). -/
def State.closeSteps (s : State) : State :=
  let s := s.onSched fun x => { x with runs := x.runs.map fun e => (e.1, e.2.close) }
  let served := s.sched.runs.flatMap fun e => if e.2.failed then [] else e.2.served
  let models := (served.map (·.model)).eraseDups.filter fun m => (served.countP fun o => o.model == m) == s.serviceSteps m
  models.foldl (fun s m =>
    -- a step with no model marks one that has been taken into account
    let s := s.onSched fun x => { x with runs := x.runs.map fun e => (e.1, { e.2 with
      served := updWhere (fun o => o.model == m) (fun o => { o with model := 65536 }) e.2.served }) }
    s.serviceDone m (served.filter fun o => o.model == m)) s

/-- Are all window copies promoted (step 11 of R579, R606)? -/
def State.windowsHeld (s : State) : Bool := s.tier.blocks.all fun e => !e.2.window || e.2.t0 == .held

/-- A STAGE ends DONE once its windows are promoted; RELOAD_READY goes to the time source (R606, R607). -/
def State.stageEnds (s : State) : State :=
  match s.weave.staged with
  | none => s
  | some p =>
    if s.weave.readySent ∨ !s.windowsHeld then s
    else
      let s := ((s.setReg (F.weaveResult_code.off 0) 0).setF F.weaveCmd_busy 0 0).setF F.weaveState_staged 0 1
      (s.onWeave fun w => { w with readySent := true }).sendMsg (BitVec.ofNat 9 (s.getF F.schedSync_source)) 0 0 (.reloadReady p.imageId)

/-- Something is in the device that keeps it from REST (R660). -/
def State.busyNow (s : State) : Bool :=
  s.regions.any Ctx.live || !s.srch.homes.isEmpty || !s.srch.parts.isEmpty || s.weave.staged.isSome ||
    s.svc.apertures.any fun a => a.2.slots.any fun e => e.2.held

/-- What every command ends with. -/
def State.finish (s : State) : State :=
  let waiting := (s.tier.blocks.map fun e => e.2.waiting.length).sum + s.tier.allocWaits.length + s.tier.ready.length
  let s := ((s.rounds (waiting + 8)).answerFences.startReleases).closeSteps.stageEnds
  let s := if s.busyNow then s.onSched fun x => { x with worked := true } else s
  s.refreshHolds.failoverHolds

end Sys2Proof.Machine
end

