-- ==== Sys2Proof/Machine/Store.lean ====
section
/-! DEFINITION. The commands of the store and its tiers (R49 to R122): ends of copy-on-writes, migrations, seals, fills,
sinks and refetches, lost drives, weight streaming, and the operations of TIER_OP_CMD. -/
namespace Sys2Proof.Machine

/-! ### Uncorrectable errors met by an access (R105, R109) -/

/-- The uncorrectable-error bit of a live tier. -/
def ueF : Tier → Fld
  | .t0 => F.tierStatus_ueT0 | .t1 => F.tierStatus_ueT1

/-- An access meets an uncorrectable error at a line: a live line is poisoned; a sealed block's T0 copy becomes NONE and
the refetch begins. -/
def State.lineError (s : State) (off : Nat) : State :=
  let b := off / blockBytes
  let e := s.blk b
  let n : Note := { tenant := e.tenant.toNat, addr := saStore s.device off }
  match e.state with
  | .live | .migrating | .sealing =>
    let l := off % blockBytes / 64
    (s.setBlk b { e with poison := if e.poison.contains l then e.poison else e.poison ++ [l] }).flag (ueF e.liveTier) n
  | .sealed =>
    if e.t0 = .held ∨ e.t0 = .sinking then (s.flag F.tierStatus_ueT0 n).copyFailed b .t0
    else if e.t1 = .held ∨ e.t1 = .sinking then (s.flag F.tierStatus_ueT1 n).copyFailed b .t1
    else s
  | _ => s

/-! ### Ends of operations -/

/-- COPY_ON_WRITE_COMPLETE: the new frame holds the payload, every copy is freed, the block is LIVE, and writes resume in
arrival order (R58, R59, R67). -/
def execCopyOnWriteComplete (block : Nat) (s : State) : Host.Outcome State Fault Refusal :=
  let e := s.blk block
  .next (match e.cow with
    | none => s
    | some t =>
      let payload := ((s.image e).map (·.payload)).getD []
      let s := s.setBlk block { e with resv := none, cow := none, refetch := none, waiting := [] }
      let s := ((s.dropCopy block .t0).dropCopy block .t1).unbindImage block
      let s := ((s.opEnd (.promote block .t0) block .aborted).opEnd (.promote block .t1) block .aborted)
      let s := { s with
        mem := (s.mem.clear (block * blockBytes) ((block + 1) * blockBytes)).paste (block * blockBytes) payload }
      let s := s.setBlk block { s.blk block with
        state := .live, liveTier := t, tenant := e.tenant, resv := e.resv, window := false, poison := [] }
      (s.makeReady (e.waiting.map AllocWork.access)).finish)

/-- MIGRATION_COMPLETE: the destination is authoritative, the source frame is freed, a waiting seal starts (R65). -/
def execMigrationComplete (block : Nat) (s : State) : Host.Outcome State Fault Refusal :=
  let e := s.blk block
  .next (if e.state = .migrating then
      let s := (s.uncountFrame e.tenant e.liveTier e.resv).giveFrames e.liveTier 1
      let s := s.setBlk block { e with state := .live, liveTier := e.liveTier.other, resv := none }
      let s := (s.wakeVictim block).opEnd (.migrate block) block .done
      (match e.job with
        | some j => s.beginSeal block j
        | none => s).finish
    else s)

/-- SEAL_IMAGE_CHECKED: the block is SEALED and its copies are set (R62, R65). -/
def execSealImageChecked (block : Nat) (s : State) : Host.Outcome State Fault Refusal :=
  .next (if (s.blk block).state = .sealing then (s.finishSeal block).finish else s)

/-- SEAL_T2_FAIL: the seal ends ABORTED, the block is LIVE again (R65). -/
def execSealT2Fail (block : Nat) (s : State) : Host.Outcome State Fault Refusal :=
  .next (if (s.blk block).state = .sealing then (s.abortSeal block .aborted).finish else s)

/-- SEAL_PAYLOAD_POISON: the payload read meets a poisoned line, or an error that poisons one; the seal ends POISON (R62). -/
def execSealPayloadPoison (block line : Nat) (s : State) : Host.Outcome State Fault Refusal :=
  let e := s.blk block
  .next (if e.state = .sealing then
      let s := if e.poison.contains line then s else s.lineError (block * blockBytes + 64 * line)
      (s.abortSeal block .poison).finish
    else s)

/-- The source of a rising copy's fill: the nearest HELD lower copy, or T2 (R67). -/
def Block.fillSource (e : Block) (t : Tier) : Source := if t = .t0 ∧ e.t1 = .held then .t1 else .t2

/-- A fill fails: the copy is NONE, a failed T1 source too, and the refetch order begins (R67, R105). -/
def State.fillFailed (s : State) (b : Nat) (t : Tier) (why : FillFail) : State :=
  let e := s.blk b
  let src := e.fillSource t
  let s := (s.noteFail b why src).dropCopy b t
  match src with
  | .t1 =>
    let srcs := (s.sources b .t1)
    (s.dropCopy b .t1).beginRefetch b srcs
  | _ => s.beginRefetch b ((s.sources b .t1).filter (· != .t2))

/-- Bytes of a fill: the stored image is read at its source, and the copy is written (R66, R709). -/
def State.telFill (s : State) (e : Block) (t : Tier) : State :=
  let stored := ((s.image e).map fun i => 64 + i.bodyLen).getD 0
  let s := s.tel (match e.fillSource t with
    | .t1 => F.telT1Bytes_count | _ => F.telT2Bytes_count) 0 stored
  s.tel (match t with
    | .t0 => F.telT0Bytes_count | .t1 => F.telT1Bytes_count) 0 (if e.expanded t then blockBytes else stored)

/-- PROMOTION_FILL_COMPLETE: the copy is HELD and its readers resume; a T2 read that failed its inline check is a failed
fill (R67, R621). -/
def execPromotionFillComplete (block : Nat) (tier : Tier) (inlineOk : Bool) (s : State) : Host.Outcome State Fault Refusal :=
  let e := s.blk block
  .next (if e.state = .sealed ∧ e.copy tier = .rising then
      if !inlineOk ∧ e.fillSource tier = .t2 then (s.fillFailed block tier .inline).finish
      else
        let wake := decide (tier = .t0) && e.cow.isNone
        let s := s.telFill e tier
        let s := s.setBlk block { e.setCopy tier .held with waiting := if wake then [] else e.waiting }
        let s := if wake then s.makeReady (e.waiting.map AllocWork.access) else s
        (s.opEnd (.promote block tier) block .done).finish
    else s)

/-- PROMOTION_FILL_FAIL (R67). -/
def execPromotionFillFail (block : Nat) (tier : Tier) (why : FillFail) (s : State) : Host.Outcome State Fault Refusal :=
  let e := s.blk block
  .next (if e.state = .sealed ∧ e.copy tier = .rising then (s.fillFailed block tier why).finish else s)

/-- SINK_READERS_DONE: the last reader of a SINKING copy is done (R67). -/
def execSinkReadersDone (block : Nat) (tier : Tier) (s : State) : Host.Outcome State Fault Refusal :=
  .next (if (s.blk block).copy tier = .sinking then (s.readersDone block tier).finish else s)

/-- Loads that waited are served from the payload; other accesses run again. -/
def State.serveWaiting (s : State) (b : Nat) : State :=
  let e := s.blk b
  let lines (off n : Nat) : List Line := ((s.image e).map fun i => i.lines off n).getD []
  e.waiting.foldl (fun s a => match a.kind with
    | .load n => s.answer a .done 0 (lines a.off n)
    | _ => s.makeReady [.access a]) (s.setBlk b { e with waiting := [] })

/-- The tier of the copy that a refetch restores: the one a PROMOTE asks for, else T0. -/
def State.refetchTier (s : State) (b : Nat) : Tier := if s.tier.op = some (.promote b .t1) then .t1 else .t0

/-- REFETCH_COMPLETE: a source's payload matches PAYLOAD_CRC; it serves what waits and becomes a copy again when space can
be had (R105). -/
def execRefetchComplete (block : Nat) (s : State) : Host.Outcome State Fault Refusal :=
  let e := s.blk block
  .next (match e.refetch with
    | none => s
    | some srcs =>
      let n : Note := { tenant := e.tenant.toNat, addr := saStore s.device (block * blockBytes) }
      let s := match srcs.head? with
        | some .partner => s.flag F.tierStatus_refetchPartner n
        | _ => s.flag F.tierStatus_refetchLocal n
      let s := s.setBlk block { e with refetch := none }
      let s := s.onSec fun x => { x with trailerFailed := x.trailerFailed.filter (· != block) }
      let t := s.refetchTier block
      let s := if e.copy t ≠ .none then s else match s.allocCopy block t false with
        | .frame s => s.setBlk block ((s.blk block).setCopy t .held)
        | .wait s _ => s
        | .quota s => s
      ((s.serveWaiting block).opEnd (.promote block t) block .done).finish)

/-- REFETCH_SOURCE_FAIL: the next source, or QUARANTINED when none is left; a partner's transfer that fails its trailer is
requested once more (R105, R108, R621). -/
def execRefetchSourceFail (block : Nat) (why : FillFail) (s : State) : Host.Outcome State Fault Refusal :=
  .next (match (s.blk block).refetch with
    | some (src :: rest) =>
      let s := s.noteFail block why src
      if src = .partner ∧ why = .inline ∧ !s.sec.trailerFailed.contains block then
        s.onSec fun x => { x with trailerFailed := x.trailerFailed ++ [block] }
      else
        let s := s.onSec fun x => { x with trailerFailed := x.trailerFailed.filter (· != block) }
        ((s.setBlk block { s.blk block with refetch := none }).beginRefetch block rest).finish
    | _ => s)

/-- REFETCH_TIMEOUT: the block is treated as having no replica (R107). -/
def execRefetchTimeout (block : Nat) (s : State) : Host.Outcome State Fault Refusal :=
  .next (match (s.blk block).refetch with
    | none => s
    | some srcs =>
      ((s.setBlk block { s.blk block with refetch := none }).beginRefetch block (srcs.filter (· != .partner))).finish)

/-- DRIVE_LOST: the drive is lost, its free sectors leave TIER_T2_FREE, and a refetch that counted on it loses that source
(R84). -/
def execDriveLost (drive : Nat) (s : State) : Host.Outcome State Fault Refusal :=
  .next (match s.drive drive with
    | none => s
    | some v =>
      if v.lost then s
      else
        let free := v.sectors - (v.used.map (·.2)).sum
        let s := (s.setDrive drive { v with lost := true }).setF F.tierT2Free_t2Free 0 (s.getF F.tierT2Free_t2Free - free)
        let s := s.flag F.tierStatus_driveLost { index := drive }
        (s.tier.blocks.foldl (fun s (b, e) => match e.refetch, s.image e with
          | some srcs, some i =>
            if i.drive = drive ∧ srcs.contains .t2 then
              (s.setBlk b { e with refetch := none }).beginRefetch b (srcs.filter (· != .t2))
            else s
          | _, _ => s) s).finish)

/-! ### Weight streaming (R85 to R95) -/

/-- A die's stream. -/
def State.stream (s : State) (d : Nat) : Option Stream := (s.tier.streams.find? fun e => e.1 == d).map (·.2)

/-- Put a die's stream. -/
def State.setStream (s : State) (d : Nat) (v : Stream) : State := s.onTier fun t => { t with streams := t.streams.put d v }

/-- Is a STREAM step with layers left open on the die (R269)? -/
def State.streamOpen (s : State) (d : Nat) : Bool :=
  s.sched.runs.any fun r => r.2.open_.any fun o => o.kind == .stream && o.die == d && decide (0 < o.layers)

/-- One layer of the die's STREAM step has been delivered. -/
def State.layerDelivered (s : State) (d : Nat) : State :=
  s.onSched fun x => { x with runs := x.runs.map fun r => (r.1, { r.2 with
    open_ := updWhere (fun o => o.kind == .stream && o.die == d) (fun o => { o with layers := o.layers - 1 }) r.2.open_ }) }

/-- Frames a window's copy of a block counts. -/
def State.windowFrames (s : State) (b : Nat) (packed : Bool) : Nat :=
  if packed then poolFrames (((s.image (s.blk b)).map (·.sectors)).getD 0) else 1

/-- A block's T0 copy joins a window: it rises, is counted to the model's owner, and is no victim (R86, R90). -/
def State.joinWindow (s : State) (tn : Tenant) (packed : Bool) (b : Nat) : State :=
  let e := s.blk b
  if e.window ∨ e.state ≠ .sealed then s
  else
    let s := s.addF F.tierResvUsed_t0Used tn.toNat (s.windowFrames b packed)
    let s := if e.t0 = .none then
        match s.startRise b .t0 packed with
        | .frame s => s
        | .wait s _ => s
        | .quota s => s
      else s.cancelSink b .t0
    s.setBlk b { s.blk b with window := true }

/-- A block's T0 copy leaves a window and sinks (R90). -/
def State.leaveWindow (s : State) (tn : Tenant) (packed : Bool) (b : Nat) : State :=
  let e := s.blk b
  if e.window then
    let s := s.setF F.tierResvUsed_t0Used tn.toNat (s.getF F.tierResvUsed_t0Used tn.toNat - s.windowFrames b packed)
    let s := s.setBlk b { e with window := false }
    if e.t0 = .held then
      if e.readers0 = 0 then s.dropCopy b .t0 else s.setBlk b { s.blk b with t0 := .sinking }
    else s
  else s

/-- The blocks of a layer entry. -/
def LayerEntry.blockList (l : LayerEntry) : List Nat := (List.range l.blocks).map (· + l.firstBlock)

/-- The prefetch schedule: the blocks of the next layers rise into T0, as a hint (R93). -/
def State.prefetch (s : State) (v : Stream) : State :=
  ((List.range v.lead).filterMap fun k => v.layers[v.layer + 1 + k]?).foldl (fun s l =>
    l.blockList.foldl (fun s b =>
      let e := s.blk b
      if e.state = .sealed ∧ e.t0 = .none ∧ e.refetch.isNone ∧ e.cow.isNone then
        match s.startRise b .t0 false with
        | .frame s => s
        | .wait s _ => s
        | .quota s => s
      else s) s) s

/-- Is a layer fetched by the prefetch schedule (shared-pool mode, mixture layers)? -/
def State.prefetched (s : State) (l : LayerEntry) : Bool := s.poolMode || l.moe

/-- The current layer is consumed: the window moves on, and the next layer begins (R90). -/
def State.nextLayer (s : State) (d : Nat) (v : Stream) : State :=
  let n := v.layers.length
  let s := if v.window < n ∧ !s.poolMode then
      let s := match v.layers[v.layer]? with
        | some l => if l.moe then s else l.blockList.foldl (fun s b => s.leaveWindow v.tenant l.packed b) s
        | none => s
      match v.layers[(v.layer + v.window) % n]? with
      | some l => if l.moe then s else l.blockList.foldl (fun s b => s.joinWindow v.tenant l.packed b) s
      | none => s
    else s
  (s.setStream d { v with layer := if n = 0 then 0 else (v.layer + 1) % n, filled := [], dealt := 0 }).layerDelivered d

/-- Layers that the prefetch schedule fetches pass at once, until a streamed layer or the step's end. -/
def State.passLayers : Nat → State → Nat → State
  | 0, s, _ => s
  | fuel + 1, s, d =>
    match s.stream d with
    | none => s
    | some v => match v.layers[v.layer]? with
      | none => s
      | some l =>
        if s.streamOpen d ∧ s.prefetched l then passLayers fuel ((s.prefetch v).nextLayer d v) d else s

/-- Chunks of a layer entry's slice. -/
def LayerEntry.chunks (l : LayerEntry) : Nat := l.blocks * blockBytes / max l.sramBytes 1

/-- The receiving cells of a layer entry, in ascending order. -/
def LayerEntry.cells (l : LayerEntry) : List Nat := bitsSet 32 l.cellMask

/-- Cell and half of chunk `k` (R88). -/
def LayerEntry.place (l : LayerEntry) (k : Nat) : Nat × Nat :=
  (l.cells.getD (k % max l.cells.length 1) 0, k / max l.cells.length 1 % 2)

/-- A half receives its chunk and the ready flag counts up (R88). -/
def State.fillHalf (s : State) (d : Nat) (v : Stream) (l : LayerEntry) (cell half : Nat) (bytes : List Byte) : State :=
  let c := 32 * d + cell
  let s := s.onCellAt c fun x => x.engineBytes (l.sramOffset + half * l.sramBytes) bytes
  (s.addFlag c l.flagIndex).setStream d { v with filled := v.filled ++ [(cell, half)], dealt := v.dealt + 1 }

/-- The chunk that is dealt next fits the half, and the half is free. -/
def Stream.mayFill (v : Stream) (l : LayerEntry) (cell half : Nat) : Bool :=
  decide (v.dealt < l.chunks) && l.place v.dealt == (cell, half) && !v.filled.contains (cell, half)

/-- The source of a multicast layer sends the chunk once, to the group (R91). -/
def State.castChunk (s : State) (l : LayerEntry) (off : Nat) (bytes : List Byte) (tn : Tenant) : State :=
  match s.group l.mcastGroup with
  | none => s
  | some g =>
    if g.source = s.device then
      (List.range ((bytes.length + 1023) / 1024)).foldl (fun s k =>
        let part := (bytes.drop (1024 * k)).take 1024
        let data := toLines ((part.length + 63) / 64) part
        let a := BitVec.ofNat 64 (pack [(0, off + 1024 * k), (48, l.mcastGroup), (60, 3)])
        let p := { Packet.make .store 2 s.device l.mcastGroup tn with
          mcast := true, posted := true, lines := data.length, addr := a, data := data, mask := BitVec.allOnes 64 }
        (s.sendPacket p none).2) s
    else s

/-- STREAM_HALF_FILLED: the sequencer has filled a half from the T0 copies of the layer's slice (R88, R91). -/
def execStreamHalfFilled (die cell half : Nat) (s : State) : Host.Outcome State Fault Refusal :=
  .next (match s.stream die with
    | none => s
    | some v => match v.layers[v.layer]? with
      | none => s
      | some l =>
        let off := saOffset (BitVec.ofNat 64 l.src) + v.dealt * l.sramBytes
        let held (b : Nat) : Bool := (s.blk b).state != .sealed || (s.blk b).t0 == .held || (s.blk b).t0 == .sinking
        let source := match s.group l.mcastGroup with
          | some g => g.source == s.device
          | none => false
        if s.streamOpen die && !s.prefetched l && v.mayFill l cell half && (!l.mcast || source) &&
            (blocksOf off l.sramBytes).all fun b => held b && (s.blk b).state != .quarantined then
          let bytes := (List.range l.sramBytes).map fun i => s.peekOff (off + i)
          let s := if l.mcast then s.castChunk l off bytes v.tenant else s
          (s.fillHalf die v l cell half bytes).finish
        else s)

/-- STREAM_HALF_CONSUMED: the half may be refilled; the layer ends with its last half (R88, R90). -/
def execStreamHalfConsumed (die cell half : Nat) (s : State) : Host.Outcome State Fault Refusal :=
  .next (match s.stream die with
    | none => s
    | some v =>
      if v.filled.contains (cell, half) then
        let v := { v with filled := v.filled.filter (· != (cell, half)) }
        match v.layers[v.layer]? with
        | some l =>
          if v.filled.isEmpty ∧ l.chunks ≤ v.dealt then
            ((s.nextLayer die v).passLayers (v.layers.length + 1) die).finish
          else s.setStream die v
        | none => s.setStream die v
      else s)

/-- MCAST_CHUNK_ARRIVED: a member's chunk has arrived in full (R91). -/
def execMcastChunkArrived (die cell half : Nat) (chunk : List Line) (s : State) : Host.Outcome State Fault Refusal :=
  .next (match s.stream die with
    | none => s
    | some v => match v.layers[v.layer]? with
      | none => s
      | some l =>
        if s.streamOpen die && l.mcast && v.mayFill l cell half && chunk.length == l.sramBytes / 64 then
          (s.fillHalf die v l cell half (chunk.flatMap fun x => leBytes 64 x.toNat)).finish
        else s)

/-- ROUTER_PREFETCH: the expert blocks that a router names rise into T0, in ascending expert number; a hint (R94, R95). -/
def execRouterPrefetch (die layer : Nat) (experts : List (Nat × List Nat)) (s : State) : Host.Outcome State Fault Refusal :=
  .next (match s.stream die with
    | none => s
    | some v => match v.layers[layer]? with
      | none => s
      | some l =>
        let sorted := experts.foldl (fun (acc : List (Nat × List Nat)) e =>
          acc.filter (fun x => decide (x.1 ≤ e.1)) ++ [e] ++ acc.filter fun x => decide (e.1 < x.1)) []
        let bs := sorted.flatMap (·.2)
        if l.moe then
          (bs.foldl (fun s b =>
            let e := s.blk b
            if l.holds b ∧ e.state = .sealed ∧ e.t0 = .none ∧ e.refetch.isNone ∧ e.cow.isNone then
              match s.startRise b .t0 false with
              | .frame s => s
              | .wait s _ => s
              | .quota s => s
            else s) s).finish
        else s)

/-! ### TIER_OP_CMD (R116 to R122) -/

/-- Does an address name a block of this device (R116)? -/
def State.opAddrOk (s : State) (a : Word) : Bool :=
  saClass a == 0 && !saReserved a && saDevice a == s.device.toNat && saOffset a % blockBytes == 0

/-- An operation ends with a code that the manual leaves open (assumption 23). -/
def State.opOpen (s : State) (b : Nat) : State :=
  let (v, s) := s.fresh
  s.opResult b (v.toNat % 256)

/-- SEAL (R62, R65). -/
def State.opSeal (s : State) (b : Nat) : State :=
  let elem := s.getF F.tierOpCmd_elem
  if elem = 3 then s.opResult b Code.malformed.num
  else
    let s := s.onTier fun t => { t with op := some (.sealing b) }
    let job : SealJob :=
      { owner := .command, elem := elem, t1Copy := s.getF F.tierOpCmd_t1Copy == 1, kind := 0, version := 0, image := none }
    match s.requestSeal b (s.homeRec (b * blockBytes / 33554432)).owner job with
    | some s => s
    | none => s.opOpen b

/-- IMPORT (R63). -/
def State.opImport (s : State) (b : Nat) : State :=
  let src := s.reg (F.tierOpSrc_all.off 0)
  let first := saOffset src / blockBytes
  let malformed : State := s.opResult b Code.malformed.num
  let liveBlock (k : Nat) : Bool := s.hasBlock (first + k) && (s.blk (first + k)).state == .live
  if !s.opAddrOk src ∨ (s.blk b).state ≠ .empty ∨ !liveBlock 0 then malformed
  else
    let base := saOffset src
    let hdr := s.mem.bytes base 64
    let len := (Sys2Proof.Machine.readHeader hdr).bodyLen
    let reach := (64 + min len 262144 + blockBytes - 1) / blockBytes
    if reach = 2 ∧ !liveBlock 1 then malformed
    else if s.offReady base (64 + min len 262144) = .poison then s.opResult b Code.poison.num
    else match importPayload hdr (s.mem.bytes (base + 64) (min len 262145)) with
      | none => malformed
      | some (h, p) =>
        match s.allocT2 b (imageSectors h.bodyLen) with
        | none => s.opResult b Code.quota.num
        | some (d, st, s) =>
          let img : Image :=
            { drive := d, start := st, sectors := imageSectors h.bodyLen, codec := h.codec, kind := h.kind, elem := h.elem,
              bodyLen := h.bodyLen, payload := Mem.setBytes [] 0 p, sealAddr := BitVec.ofNat 64 h.sealAddr,
              sealWale := BitVec.ofNat 48 h.sealWale, tenant := BitVec.ofNat 8 h.tenant, version := BitVec.ofNat 64 h.version,
              rawTail := h.rawTail, refs := 0 }
          let (i, s) := s.newImage img
          ((s.setBlk b { s.blk b with state := .sealed, tenant := img.tenant }).bindImage b i).opResult b 0

/-- Start a live block towards the other tier; the operation stays BUSY. -/
def State.opMigrate (s : State) (b : Nat) : State :=
  let s := s.onTier fun t => { t with op := some (.migrate b) }
  match s.startMigration b with
  | .frame s => s
  | .wait s v => s.onTier fun x => { x with allocWaits := x.allocWaits ++ [(v, .migrate b)] }
  | .quota s => s.opResult b Code.quota.num

/-- PROMOTE (R65, R67, R122). -/
def State.opPromote (s : State) (b : Nat) : State :=
  let t : Tier := if s.getF F.tierOpCmd_tier = 0 then .t0 else .t1
  let packed := s.getF F.tierOpCmd_packed == 1 && t == .t0
  let e := s.blk b
  match e.state with
  | .live => if e.liveTier = t then s.opResult b 0 else s.opMigrate b
  | .sealed =>
    match e.copy t with
    | .held => s.opResult b 0
    | .sinking => (s.cancelSink b t).opResult b 0
    | .rising => s.onTier fun x => { x with op := some (.promote b t) }
    | .none =>
      let s := s.onTier fun x => { x with op := some (.promote b t) }
      if e.refetch.isSome then s
      else match s.startRise b t packed with
        | .frame s => s
        | .wait s _ => s
        | .quota s => s.opResult b Code.quota.num
  | _ => s.opResult b 0

/-- SINK (R65, R67, R122). -/
def State.opSink (s : State) (b : Nat) : State :=
  let t : Tier := if s.getF F.tierOpCmd_tier = 0 then .t0 else .t1
  let e := s.blk b
  match e.state with
  | .live => if e.liveTier = t then s.opResult b 0 else s.opMigrate b
  | .sealed =>
    if e.copy t = .held then
      if e.readers t = 0 then (s.dropCopy b t).opResult b 0 else (s.setBlk b (e.setCopy t .sinking)).opResult b 0
    else s.opResult b 0
  | _ => s.opResult b 0

/-- A write of TIER_OP_CMD (R117, R118, R122). -/
def State.tierCommand (s : State) (w : Word) : State :=
  if s.getF F.tierOpCmd_busy = 1 then s.flag F.tierStatus_opOverrun
  else
    let off := F.tierOpCmd_op.off 0
    let (w, s) := s.cleanWrite off w
    let s := s.writeReg off w
    let op := s.getF F.tierOpCmd_op
    if op = 0 then s
    else
      let s := s.setF F.tierOpCmd_busy 0 1
      let a := s.reg (F.tierOpAddr_all.off 0)
      let b := saOffset a / blockBytes
      if !s.opAddrOk a then s.opResult b Code.malformed.num
      else if !s.hasBlock b then s.opResult b Code.absent.num
      else if op = 1 then s.opSeal b
      else if op = 2 then s.opImport b
      else if op = 3 then s.opPromote b
      else if op = 4 then s.opSink b
      else if op = 5 then
        if (s.blk b).state = .empty then s.opOpen b else (s.freeBlock b).opResult b 0
      else if op = 6 then s.opResult b 0
      else s.opOpen b

/-- TIER_SEAL. -/
def execTierSeal (w : Word) (s : State) : Host.Outcome State Fault Refusal := .next (s.tierCommand (putBits w 0 4 1)).finish
/-- TIER_IMPORT. -/
def execTierImport (w : Word) (s : State) : Host.Outcome State Fault Refusal := .next (s.tierCommand (putBits w 0 4 2)).finish
/-- TIER_PROMOTE. -/
def execTierPromote (w : Word) (s : State) : Host.Outcome State Fault Refusal := .next (s.tierCommand (putBits w 0 4 3)).finish
/-- TIER_SINK. -/
def execTierSink (w : Word) (s : State) : Host.Outcome State Fault Refusal := .next (s.tierCommand (putBits w 0 4 4)).finish
/-- TIER_FREE. -/
def execTierFree (w : Word) (s : State) : Host.Outcome State Fault Refusal := .next (s.tierCommand (putBits w 0 4 5)).finish
/-- TIER_QUERY. -/
def execTierQuery (w : Word) (s : State) : Host.Outcome State Fault Refusal := .next (s.tierCommand (putBits w 0 4 6)).finish

/-- A write of a register with no effect of its own; a held field comes into force at the next boundary (R10, R11, R738). -/
def State.plainWrite (s : State) (off : Nat) (v : Word) : State :=
  let (v, s) := s.cleanWrite off v
  s.writeReg off v

/-- TIER_MODE_WRITE (R113). -/
def execTierModeWrite (v : Word) (s : State) : Host.Outcome State Fault Refusal := .next (s.plainWrite (F.tierMode_pool.off 0) v)

/-- TIER_RESV_LIMIT_WRITE (R121). -/
def execTierResvLimitWrite (n : Nat) (v : Word) (s : State) : Host.Outcome State Fault Refusal :=
  .next (s.plainWrite (F.tierResvLimit_t0Limit.off n) v)

end Sys2Proof.Machine
end

