-- ==== Sys2Proof/Machine/MoverRows.lean ====
section
/-! DEFINITION. The commands of the movers (R139 to R145, R192 to R198, R438). -/
namespace Sys2Proof.Machine

/-- The STORE offset in the own store that a running GET or ATOM reads next. -/
def State.moverNextOff (s : State) (c ch : Nat) : Option Nat :=
  (s.chan c ch).run.bind fun r =>
    let d := mvDesc r.desc
    match s.lookup (s.cellTenant c) (d.tenantAt r.pos) d.wants true with
    | .stand sa _ => if BitVec.ofNat 9 (saDevice sa) = s.device then some (saOffset sa) else none
    | .fails _ => none

/-- The channel's head descriptor starts when it is of the operation named, or of none (then it ends MALFORMED). `ue`: a
word it reads is uncorrectable, in cell SRAM (R168) or, for GET and ATOM, in the store (R105, R109). -/
def State.moverHead (s : State) (c ch opc : Nat) (ue : Bool) : State :=
  let v := s.chan c ch
  match v.run, v.q.items with
  | none, (_, l) :: _ =>
    let op := dfield l 0 0 8
    let reserved := decide (op < 0x40) || decide (0x44 < op)
    if op ≠ opc ∧ !reserved then s
    else
      let s := s.moverStart c ch
      let going : Bool := match (s.chan c ch).run with
        | some r => r.phase == .running
        | none => false
      if ue && going then
        if opc = 0x40 ∨ opc = 0x44 then
          match s.moverNextOff c ch with
          | some off => (s.lineError off).moverPump c ch
          | none => s.moverPump c ch
        else s.sramUe c
      else s.moverPump c ch
  | _, _ => s

/-- A mover operation of a fitted cell. -/
def State.mvOp (s : State) (c : Nat) (ch : BitVec 3) (opc : Nat) (ue : Bool) : Host.Outcome State Fault Refusal :=
  withUnit (s.code.hasCell c) (.next (s.moverHead c ch.toNat opc ue).finish)

/-- GET. -/
def execMvGet (cell : Nat) (channel : BitVec 3) (ue : Bool) (s : State) : Host.Outcome State Fault Refusal :=
  s.mvOp cell channel 0x40 ue
/-- PUT. -/
def execMvPut (cell : Nat) (channel : BitVec 3) (ue : Bool) (s : State) : Host.Outcome State Fault Refusal :=
  s.mvOp cell channel 0x41 ue
/-- COPY. -/
def execMvCopy (cell : Nat) (channel : BitVec 3) (ue : Bool) (s : State) : Host.Outcome State Fault Refusal :=
  s.mvOp cell channel 0x42 ue
/-- CELL_PUT. -/
def execMvCellPut (cell : Nat) (channel : BitVec 3) (ue : Bool) (s : State) : Host.Outcome State Fault Refusal :=
  s.mvOp cell channel 0x43 ue
/-- ATOM. -/
def execMvAtom (cell : Nat) (channel : BitVec 3) (ue : Bool) (s : State) : Host.Outcome State Fault Refusal :=
  s.mvOp cell channel 0x44 ue

/-- MOVER_DESC_END: the result word goes to DONE_OFF, then the flag is incremented (R196). -/
def execMoverDescEnd (cell : Nat) (channel : BitVec 3) (s : State) : Host.Outcome State Fault Refusal :=
  withUnit (s.code.hasCell cell) (.next (match (s.chan cell channel.toNat).run with
    | some r => if r.phase = .ending then (s.moverFinish cell channel.toNat r).finish else s
    | none => s))

/-- A CELL_PUT packet takes effect at its destination: its lines, then the flag of the last packet (R198, R438). -/
def State.cellPutTake (s : State) (p : Packet) : State :=
  let a := p.addr
  let (die, cell, off, flag) := (fieldOf a 28 2, fieldOf a 23 5, fieldOf a 0 23, fieldOf a 30 16)
  let (code, s) : Code × State :=
    if fieldOf a 47 17 ≠ 0 ∨ off % 64 ≠ 0 then (.malformed, s) else s.cellPutHere p.tenant die cell off p.data
  let s := if code = .done ∧ fieldOf a 46 1 = 1 then s.addFlag (32 * die + cell) flag else s
  if p.posted then s else s.sendReply p code 0 []

end Sys2Proof.Machine
end

