-- ==== Sys2Proof/Machine/HptRows.lean ====
section
/-! DEFINITION. The commands of the host port, host reads and writes apart: recalls, home operations, HPT_CMD, Dynamic
Capacity, commons, IDE (R484 to R532). -/
namespace Sys2Proof.Machine

/-! ### Write-backs and recalls (R494, R499 to R506) -/

/-- Is a Stand Address homed at this device? -/
def State.homedHere (s : State) (sa : Word) : Bool := BitVec.ofNat 9 (saDevice sa) == s.device

/-- HOST_WRITEBACK: applied when the directory records the line as owned by the binding; another device's home is told by
RECALL_ACK and checks it there. -/
def State.hostWriteback (s : State) (b : Nat) (sa : Word) (data : Line) : State :=
  let h : Holder := { dev := s.device, binding := b }
  if !s.bindActive b || !s.ideOk then s
  else if s.homedHere sa then
    let e := s.dirAt (saOffset sa / 64)
    if e.owned && e.holders.any fun g => g.holder == h then s.holderGone h sa (some data) else s.bindError b .denied
  else s.sendMsg (BitVec.ofNat 9 (saDevice sa)) 0 (s.bindTenant b) (.recallAck h sa (some data))

/-- HOST_WRITEBACK. -/
def execHostWriteback (binding : Nat) (sa : Word) (data : Line) (s : State) : Host.Outcome State Fault Refusal :=
  .next (s.hostWriteback binding sa data).finish

/-- Is a recall of a holder's copy of a line called for? -/
def State.recallWanted (s : State) (l : Nat) (h : Holder) : Bool :=
  let e := s.dirAt l
  let off := 64 * l
  (e.waiting.any fun a => (e.conflicts a.kind (s.copyAsked a)).contains h) ||
    (s.hpt.replies.any fun r => r.waits.contains (l, h)) ||
    (match s.hpt.creating with
      | some c => decide (c.first * granuleBytes ≤ off) && decide (off < (c.first + c.granules) * granuleBytes)
      | none => false) ||
    (s.hpt.ranges.any fun r => r.1 == h && decide (saOffset r.2.1 ≤ off) && decide (off < saOffset r.2.1 + r.2.2)) ||
    (s.hpt.dcOps.any fun o => o.phase == .recalling && h == ⟨s.device, o.ext.binding⟩ && (s.dcRanges o).any fun r =>
      s.homedHere r.1 && decide (saOffset r.1 ≤ off) && decide (off < saOffset r.1 + r.2)) ||
    (decide (4194304 ≤ s.hpt.dir.length) && !e.waiting.isEmpty)

/-- RECALL_START: the hold has ended, and the recall that waits for it starts (R501, R502). -/
def State.recallStart (s : State) (l : Nat) (h : Holder) : State :=
  let e := s.dirAt l
  if (e.holders.any fun g => g.holder == h && !g.recalling) && s.recallWanted l h then
    let s := s.setDir l { e with holders := updWhere (fun g => g.holder == h) (fun g => { g with recalling := true }) e.holders }
    s.sendRecall h (saStore s.device (64 * l))
  else s

/-- RECALL_START. -/
def execRecallStart (line : Nat) (holder : Holder) (s : State) : Host.Outcome State Fault Refusal :=
  .next (s.recallStart line holder)

/-- RECALL: BISnpInv to the host; for a range of this home, the sender's binding is recalled here (R509, assumption 21). -/
def State.takeRecall (s : State) (home : DevNo) (b : Nat) (sa : Word) (range : Option Nat) : State :=
  match range with
  | some n =>
    if s.homedHere sa then
      let h : Holder := { dev := home, binding := b }
      (s.onHpt fun p => { p with ranges := p.ranges ++ [(h, sa, n)] }).recallRange h (saOffset sa) n
    else (s.onHpt fun p => { p with snoops := p.snoops ++ [(home, b, sa)] }).emit (.biSnpInv b sa range)
  | none => (s.onHpt fun p => { p with snoops := p.snoops ++ [(home, b, sa)] }).emit (.biSnpInv b sa none)

/-- RECALL. -/
def execRecall (home : DevNo) (binding : Nat) (sa : Word) (range : Option Nat) (s : State) : Host.Outcome State Fault Refusal :=
  .next (s.takeRecall home binding sa range).finish

/-- BIRSPI: the host's answer to an outstanding back-invalidation goes to the home. -/
def State.takeBirspi (s : State) (b : Nat) (sa : Word) (dirty : Option Line) : State :=
  match s.hpt.snoops.find? fun x => x.2.1 == b && x.2.2 == sa with
  | none => s
  | some x =>
    let s := s.onHpt fun p => { p with snoops := p.snoops.erase x }
    let h : Holder := { dev := s.device, binding := b }
    if x.1 = s.device then s.holderGone h sa dirty else s.sendMsg x.1 0 0 (.recallAck h sa dirty)

/-- BIRSPI. -/
def execBirspi (binding : Nat) (sa : Word) (dirty : Option Line) (s : State) : Host.Outcome State Fault Refusal :=
  .next (s.takeBirspi binding sa dirty).finish

/-- RECALL_ACK: the holder leaves the line's entry; for a range of another home, the withdrawal that asked for it goes on. -/
def State.takeRecallAck (s : State) (h : Holder) (sa : Word) (dirty : Option Line) : State :=
  if s.homedHere sa then s.holderGone h sa dirty
  else s.onHpt fun p => { p with
    dcOps := updWhere (fun o => o.ext.binding == h.binding) (fun o => { o with waits := o.waits.erase sa }) p.dcOps }

/-- RECALL_ACK. -/
def execRecallAck (holder : Holder) (sa : Word) (dirty : Option Line) (s : State) : Host.Outcome State Fault Refusal :=
  .next (s.takeRecallAck holder sa dirty).finish

/-- RECALL_TIMEOUT: the home drops the holder, keeps its own copy of the line, and has the binding fenced (R503). -/
def State.recallTimeout (s : State) (l : Nat) (h : Holder) : State :=
  if (s.dirAt l).holders.any fun g => g.holder == h && g.recalling then
    let s := (s.flag F.hptStatus_recallTimeout { index := h.binding, arg := BitVec.ofNat 64 h.dev.toNat,
                                                 addr := saStore s.device (64 * l) }).removeHolder l h
    if h.dev = s.device then s.fenceBinding h.binding else s.sendMsg h.dev 0 0 (.fenced h)
  else s

/-- RECALL_TIMEOUT. -/
def execRecallTimeout (line : Nat) (holder : Holder) (s : State) : Host.Outcome State Fault Refusal :=
  .next (s.recallTimeout line holder).finish

/-- FENCED: the holder's own device fences the binding; another home drops it from every entry. -/
def execFenced (holder : Holder) (s : State) : Host.Outcome State Fault Refusal :=
  .next (if holder.dev = s.device then (if s.bindActive holder.binding then s.fenceBinding holder.binding else s)
    else s.dropHolder holder).finish

/-- COHERENT_RESEND: the request is accepted on a reserved entry of its requester; with both in use it is resent once one
frees (R506). -/
def execCoherentResend (requester : DevNo) (mover : Bool) (request : CohReq) (s : State) : Host.Outcome State Fault Refusal :=
  .next (if s.requester request = (requester, mover) ∧ s.tracked true (requester, mover) < 2 then
      (s.homeAccess { request with reserved := true }).finish
    else s)

/-! ### Home operations (R495 to R497, R507) -/

/-- HOMEOP_ATOM. -/
def execHomeopAtom (binding line : Nat) (data : Line) (s : State) : Host.Outcome State Fault Refusal :=
  .next (s.homeopWrite binding line data true).finish
/-- OPEN. -/
def execOpenView (binding line : Nat) (data : Line) (s : State) : Host.Outcome State Fault Refusal :=
  .next (s.homeopWrite binding line data true).finish
/-- CLOSE. -/
def execCloseView (binding line : Nat) (data : Line) (s : State) : Host.Outcome State Fault Refusal :=
  .next (s.homeopWrite binding line data true).finish
/-- PUBLISH. -/
def execPublish (binding line : Nat) (data : Line) (s : State) : Host.Outcome State Fault Refusal :=
  .next (s.homeopWrite binding line data true).finish

/-- HOMEOP: a request of another device runs at this home; a home in CRUST answers CRUST. -/
def execHomeop (src : DevNo) (tenant : Tenant) (binding line : Nat) (sa staging : Word) (req : Line) (stagingCode : Code)
    (s : State) : Host.Outcome State Fault Refusal :=
  let q : HomeReq :=
    { src := src, tenant := tenant, binding := binding, line := line, sa := sa, staging := staging, req := req
      stagingCode := stagingCode }
  .next (if s.mode = .crust then s.sendHomeReply (q.reply .crust 0 none) else s.runHomeop q).finish

/-- HOMEOP_REPLY. -/
def execHomeopReply (binding line : Nat) (code : Code) (detail : BitVec 8) (result : Option Word) (s : State) :
    Host.Outcome State Fault Refusal :=
  .next (if (s.homeOpLine binding line).busy then
      let s := s.onFab fun x => { x with requests := x.requests.filter fun r => r.issuer != .homeop binding line }
      (s.homeopEnd binding line code detail.toNat result).finish
    else s)

/-! ### HPT_CMD (R486, R487, R528 to R532) -/

/-- HPT_ARG0. -/
def State.hptArg0 (s : State) : Word := s.reg (F.hptArg0_all.off 0)
/-- HPT_ARG1. -/
def State.hptArg1 (s : State) : Word := s.reg (F.hptArg1_all.off 0)

/-- Do the arguments keep the table of R529 for an OP? -/
def State.hptArgsOk (s : State) (op : Nat) : Bool :=
  let a := s.hptArg0
  let b := s.hptArg1
  let only (n : Nat) : Bool := fieldOf a n (64 - n) == 0
  if op = 1 then only 25 && b == 0
  else if op = 2 ∨ op = 3 then only 5 && b == 0
  else if op = 4 ∨ op = 5 then only 35 && fieldOf a 5 3 == 0
  else if op = 6 then
    let n := fieldOf a 14 13
    only 27 && decide (1 ≤ n) && decide (n ≤ 4096) && saClass b == 0 && !saReserved b && s.homedHere b &&
      saOffset b % granuleBytes == 0
  else if op = 7 then only 16 && fieldOf a 14 2 != 3 && b == 0
  else only 6 && b == 0

/-- A command ends with a code that the manual leaves open (assumption 24). -/
def State.hptOpen (s : State) : State :=
  let (v, s) := s.fresh
  s.hptEnd (v.toNat % 256)

/-- BIND (R487). -/
def State.hptBindRun (s : State) : State :=
  let a := s.hptArg0
  let b := fieldOf a 0 5
  if s.getF F.hptBind_state b ≠ 0 then s.hptOpen
  else if fieldOf a 5 8 = 0 ∧ s.getF F.hptBind_mgmtOk b = 0 then s.hptEnd Code.denied.num
  else (((s.setF F.hptBind_state b 1).setF F.hptBind_tenant b (fieldOf a 5 8)).setF F.hptBind_pbrId b (fieldOf a 13 12)).hptEnd 0

/-- UNBIND (R487). -/
def State.hptUnbindRun (s : State) : State :=
  let b := fieldOf s.hptArg0 0 5
  let h : Holder := { dev := s.device, binding := b }
  if (s.hpt.extents.any fun e => e.binding == b) || s.hpt.dir.any fun e => e.2.holders.any fun g => g.holder == h then
    s.hptEnd Code.retry.num
  else (s.setF F.hptBind_state b 0).hptEnd 0

/-- UNFENCE (R503). -/
def State.hptUnfenceRun (s : State) : State :=
  let b := fieldOf s.hptArg0 0 5
  if s.getF F.hptBind_state b = 2 then (s.setF F.hptBind_state b 1).hptEnd 0 else s.hptOpen

/-- The extent that the arguments of DC_ADD and DC_WITHDRAW name. -/
def State.argExtent (s : State) : DcExtent :=
  { binding := fieldOf s.hptArg0 0 5, addr := s.hptArg1.toNat - dcBase, blocks := fieldOf s.hptArg0 8 27 }

/-- Do two extents overlap? -/
def DcExtent.overlaps (e f : DcExtent) : Bool :=
  decide (e.addr < f.addr + f.blocks * granuleBytes) && decide (f.addr < e.addr + e.blocks * granuleBytes)

/-- DC_ADD (R508): the conditions of its table, in order; then the host is asked. -/
def State.hptDcAddRun (s : State) : State :=
  let e := s.argExtent
  let t := s.bindTenant e.binding
  let last := e.addr + e.blocks * granuleBytes - 1
  let covered (g : Nat) : Bool := match s.entryAt t g with
    | some x => x.state == .valid && x.host
    | none => false
  if s.bindActive e.binding = false ∨ s.hptArg1.toNat < dcBase ∨ e.blocks = 0 ∨ e.addr % granuleBytes ≠ 0 ∨ 2 ^ 56 ≤ last ∨
      e.addr / 2 ^ 53 ≠ last / 2 ^ 53 then s.hptEnd Code.malformed.num
  else if !(e.granules.all covered) then s.hptEnd Code.absent.num
  else if s.hpt.extents.any e.overlaps then s.hptEnd Code.malformed.num
  else if 4096 ≤ s.hpt.extents.countP (fun x => x.binding == e.binding) ∨ 65536 ≤ s.hpt.extents.length then
    s.hptEnd Code.quota.num
  else
    let o : DcOp := { ext := e, phase := .adding, command := true, forced := false, keys := [], waits := [] }
    (s.onHpt fun h => { h with dcOps := h.dcOps ++ [o] }).emit (.dcEvent e.binding false s.hptArg1.toNat e.blocks)

/-- DC_WITHDRAW (R509): the host is asked to release the extent. -/
def State.hptDcWithdrawRun (s : State) : State :=
  let e := s.argExtent
  if s.hptArg1.toNat < dcBase ∨ !s.hpt.extents.contains e then s.hptEnd Code.absent.num
  else if s.hpt.dcOps.any fun o => o.ext == e then s.hptOpen
  else
    let o : DcOp := { ext := e, phase := .releasing, command := true, forced := false, keys := [], waits := [] }
    (s.onHpt fun h => { h with dcOps := h.dcOps ++ [o] }).emit (.dcEvent e.binding true s.hptArg1.toNat e.blocks)

/-- COM_CREATE (R511): recalls first. A block that cannot be sealed ends it with the code of its seal. -/
def State.hptComCreateRun (s : State) : State :=
  let a := s.hptArg0
  let n := fieldOf a 0 6
  let first := saOffset s.hptArg1 / granuleBytes
  let k := fieldOf a 14 13
  let bs := (List.range (k * granuleBlocks)).map (· + first * granuleBlocks)
  let other := s.hpt.commons.any fun e => e.1 == n ||
    (decide (e.2.firstBlock < (first + k) * granuleBlocks) && decide (first * granuleBlocks < e.2.firstBlock + e.2.blocks))
  if other then s.hptOpen
  else if s.storeSize < (first + k) * granuleBytes then s.hptEnd Code.absent.num
  else if bs.any fun b => (s.blk b).state = .migrating ∨ (s.blk b).state = .sealing then s.hptEnd Code.retry.num
  else
    let c : Creating := { commons := n, owner := BitVec.ofNat 8 (fieldOf a 6 8), first := first, granules := k, sealing := false }
    ((s.onHpt fun h => { h with creating := some c }).recallWhere (first * granuleBlocks) (k * granuleBlocks) fun _ => true).2

/-- COM_GRANT (R512): at most 16 tenants hold a right. -/
def State.hptComGrantRun (s : State) : State :=
  let a := s.hptArg0
  let t : Tenant := BitVec.ofNat 8 (fieldOf a 6 8)
  let right : Right := if fieldOf a 14 2 = 0 then .none else if fieldOf a 14 2 = 1 then .read else .publish
  match s.commonsAt (fieldOf a 0 6) with
  | none => s.hptOpen
  | some c =>
    let rest := c.rights.filter fun r => r.1 != t
    if right ≠ .none ∧ 16 ≤ rest.length then s.hptOpen
    else (s.setCommons (fieldOf a 0 6) { c with rights := if right = .none then rest else rest ++ [(t, right)] }).hptEnd 0

/-- COM_DESTROY (R520). -/
def State.hptComDestroyRun (s : State) : State :=
  let n := fieldOf s.hptArg0 0 6
  match s.commonsAt n with
  | none => s.hptOpen
  | some c =>
    if c.views.any fun v => v.2.2 != c.latest then s.hptEnd Code.retry.num
    else
      let s := c.versions.foldl (fun s v => s.dropRefs v.images) s
      let s := s.setHomes (c.firstBlock / granuleBlocks) (c.blocks / granuleBlocks) { owner := c.owner, mode := .priv }
      (s.onHpt fun h => { h with commons := h.commons.del n }).hptEnd 0

/-- A write of HPT_CMD; while a command runs it is ignored (R532). -/
def State.hptCommand (s : State) (w : Word) : State :=
  if s.getF F.hptCmd_busy = 1 then s
  else
    let off := F.hptCmd_op.off 0
    let (w, s) := s.cleanWrite off w
    let s := s.writeReg off w
    let op := s.getF F.hptCmd_op
    if op = 0 then s
    else
      let s := s.setF F.hptCmd_busy 0 1
      if 8 < op then s.hptOpen
      else if !s.hptArgsOk op then s.hptEnd Code.malformed.num
      else if op = 1 then s.hptBindRun
      else if op = 2 then s.hptUnbindRun
      else if op = 3 then s.hptUnfenceRun
      else if op = 4 then s.hptDcAddRun
      else if op = 5 then s.hptDcWithdrawRun
      else if op = 6 then s.hptComCreateRun
      else if op = 7 then s.hptComGrantRun
      else s.hptComDestroyRun

/-- BIND. -/
def execBind (w : Word) (s : State) : Host.Outcome State Fault Refusal := .next (s.hptCommand (putBits w 0 4 1)).finish
/-- UNBIND. -/
def execUnbind (w : Word) (s : State) : Host.Outcome State Fault Refusal := .next (s.hptCommand (putBits w 0 4 2)).finish
/-- UNFENCE. -/
def execUnfence (w : Word) (s : State) : Host.Outcome State Fault Refusal := .next (s.hptCommand (putBits w 0 4 3)).finish
/-- DC_ADD. -/
def execDcAdd (w : Word) (s : State) : Host.Outcome State Fault Refusal := .next (s.hptCommand (putBits w 0 4 4)).finish
/-- DC_WITHDRAW. -/
def execDcWithdraw (w : Word) (s : State) : Host.Outcome State Fault Refusal := .next (s.hptCommand (putBits w 0 4 5)).finish
/-- COM_CREATE. -/
def execComCreate (w : Word) (s : State) : Host.Outcome State Fault Refusal := .next (s.hptCommand (putBits w 0 4 6)).finish
/-- COM_GRANT. -/
def execComGrant (w : Word) (s : State) : Host.Outcome State Fault Refusal := .next (s.hptCommand (putBits w 0 4 7)).finish
/-- COM_DESTROY. -/
def execComDestroy (w : Word) (s : State) : Host.Outcome State Fault Refusal := .next (s.hptCommand (putBits w 0 4 8)).finish

/-! ### Dynamic Capacity (R508, R509) -/

/-- An operation leaves the list. -/
def State.dropDcOp (s : State) (o : DcOp) : State := s.onHpt fun h => { h with dcOps := h.dcOps.erase o }

/-- DC_HOST_RESPONSE: the host accepts the extent that was offered, or rejects it. -/
def State.dcResponse (s : State) (accept : Bool) : State :=
  match s.hpt.dcOps.find? fun o => o.phase == .adding with
  | none => s
  | some o =>
    let s := s.dropDcOp o
    if accept then
      let b := o.ext.binding
      let s := s.onHpt fun h => { h with extents := h.extents ++ [o.ext] }
      (s.setF F.hptBind_extents b (s.getF F.hptBind_extents b + 1)).hptEnd 0
    else s.hptEnd Code.denied.num

/-- DC_HOST_RESPONSE. -/
def execDcHostResponse (accept : Bool) (s : State) : Host.Outcome State Fault Refusal := .next (s.dcResponse accept).finish

/-- DC_HOST_RELEASE: the withdrawal goes on to step 2, or begins there. -/
def State.dcRelease (s : State) (b dpa : Nat) : State :=
  match s.hpt.extents.find? fun e => e.binding == b && e.addr + dcBase == dpa with
  | none => s
  | some e =>
    match s.hpt.dcOps.find? fun o => o.ext == e with
    | some o => if o.phase = .releasing then s.dcDrain o else s
    | none =>
      let o : DcOp := { ext := e, phase := .releasing, command := false, forced := false, keys := [], waits := [] }
      (s.onHpt fun h => { h with dcOps := h.dcOps ++ [o] }).dcDrain o

/-- DC_HOST_RELEASE. -/
def execDcHostRelease (binding : Nat) (dpa : BitVec 57) (s : State) : Host.Outcome State Fault Refusal :=
  .next (s.dcRelease binding dpa.toNat).finish

/-- DC_GRACE_EXPIRY: an add ends DEAD; a withdrawal goes on without the host (R508, R509). -/
def State.dcGrace (s : State) : State :=
  match s.hpt.dcOps.find? fun o => o.phase == .adding || (o.phase == .releasing && o.command) with
  | none => s
  | some o =>
    if o.phase = .adding then (s.dropDcOp o).hptEnd Code.dead.num
    else
      let o' := { o with forced := true }
      ((s.setDcOp o o').flag F.hptStatus_dcForced { index := o.ext.binding }).dcDrain o'

/-- DC_GRACE_EXPIRY. -/
def execDcGraceExpiry (s : State) : Host.Outcome State Fault Refusal := .next s.dcGrace.finish

/-! ### Decoders and IDE (R491, R521, R522, R637) -/

/-- DECODER_COMMIT: a decoder over a Dynamic Capacity region needs back-invalidate. -/
def execDecoderCommit (binding decoder region : Nat) (backInvalidate : Bool) (s : State) : Host.Outcome State Fault Refusal :=
  let s := if backInvalidate then s.onHpt fun h => { h with
      decoders := (h.decoders.filter fun d => !(d.1 == binding && d.2.1 == decoder)) ++ [(binding, decoder, region)] }
    else s
  .next (s.emit (.decoder binding decoder backInvalidate))

/-- The HPT_LINK bit of a stream. -/
def ideField : IdeStream → Fld
  | .io => F.hptLink_ideIo
  | .mem => F.hptLink_ideMem

/-- IDE_KM: a finished session of the CXL.io transport sets a stream's key. -/
def execIdeKm (session : Nat) (stream : IdeStream) (key : BitVec 256) (s : State) : Host.Outcome State Fault Refusal :=
  .next (if s.sec.sessions.any fun x => x.id == session && x.transport == .cxl && x.finished then
      (s.onSec fun x => { x with ide := (x.ide.filter fun e => e.1 != stream) ++ [(stream, key, session)] }).setF
        (ideField stream) 0 1
    else s)

/-- IDE_FAIL: the status bit and its fault record; no data of the failed flit takes effect. -/
def execIdeFail (stream : IdeStream) (s : State) : Host.Outcome State Fault Refusal :=
  .next (s.flag F.hptStatus_ideFail { index := if stream = .io then 0 else 1 })

end Sys2Proof.Machine
end

