-- ==== Sys2Proof/Machine/Flags.lean ====
section
/-! DEFINITION. The flag instructions of the engine-issue extension (R200, R207, R227 to R232). -/
namespace Sys2Proof.Machine

/-- A flag operation of the scalar engine on the 8-byte word at an offset below 8 MiB. -/
inductive FlagOp where
  | ld
  | st (v : Word)
  | add (v : Word)
  | max (v : Word)
  | cas (old new : Word)
  | waitge (target : Word)
  deriving DecidableEq, Repr

/-- Does the operation raise the load exceptions (R207)? -/
def FlagOp.isLoad : FlagOp → Bool
  | .ld | .waitge _ => true
  | _ => false

/-- The value a flag operation leaves in the flag. -/
def FlagOp.result (o : FlagOp) (old : Word) : Word :=
  match o with
  | .ld | .waitge _ => old
  | .st v => v
  | .add v => old + v
  | .max v => if old.toNat < v.toNat then v else old
  | .cas cmp new => if old = cmp then new else old

/-- What the operation writes to its destination. -/
def FlagOp.returns (o : FlagOp) (old : Word) : Option Word :=
  match o with
  | .st _ => none
  | _ => some old

/-- Does the operation write the flag? -/
def FlagOp.writes : FlagOp → Bool
  | .ld | .waitge _ => false
  | _ => true

/-- A flag operation on a flag of the cell: it reads and writes with no other operation between (R231); with aq the data
cache is emptied after the read (R228). A WAITGE whose target is not reached stalls. -/
def State.flagAt (s : State) (c off : Nat) (o : FlagOp) (aq : Bool) (rd : XReg) : State :=
  let old := (s.cellAt c).sram.word off
  let wait : Option Word := match o with
    | .waitge t => if t.toNat ≤ old.toNat then none else some t
    | _ => none
  match wait with
  | some t => s.stallCell c (.flagWait off t aq rd)
  | none =>
    let s := if o.writes then s.onCellAt c fun v => v.storeBytes off (leBytes 8 (o.result old).toNat) else s
    let s := if aq then s.acquire c else s
    match o.returns old with
    | some w => s.retire c rd w
    | none => s.retire c 0 0

/-- A flag offset at or above 8 MiB is undefined (R213): the operation traps, acts on some flag of the cell, or waits until
CELL_WAIT_BOUND. Which of them is a free value. -/
def State.flagBeyond (s : State) (c off : Nat) (o : FlagOp) (aq : Bool) (rd : XReg) : State :=
  let (w, s) := s.fresh
  let base := s.flagBase c
  let n := (sramBytes - base) / 8
  if w.toNat % 3 = 0 then s.trap c (if o.isLoad then 5 else 7)
  else if w.toNat % 3 = 1 ∧ 0 < n then s.flagAt c (base + 8 * (w.toNat / 3 % n)) o aq rd
  else s.stallCell c (.flagWait off 0 aq rd)

/-- A flag instruction (R207): a misaligned offset raises the address-misaligned exception. -/
def State.flagInsn (s : State) (c : Nat) (rs1 : XReg) (o : FlagOp) (aq : Bool) (rd : XReg) : State :=
  let off := ((s.cellAt c).xr rs1).toNat
  if sramBytes ≤ off then s.flagBeyond c off o aq rd
  else if off % 8 ≠ 0 then s.trap c (if o.isLoad then 4 else 6)
  else s.flagAt c off o aq rd

/-- An instruction runs on a cell whose scalar engine is free. -/
def State.onScalar (s : State) (c : Nat) (k : State → State) : Host.Outcome State Fault Refusal :=
  withUnit (s.code.hasCell c) (.next (if s.scalarFree c then (k s).finish else s))

/-- FLAG.LD. -/
def execFlagLd (cell : Nat) (aq : Bool) (rd rs1 : XReg) (s : State) : Host.Outcome State Fault Refusal :=
  s.onScalar cell fun s => s.flagInsn cell rs1 .ld aq rd

/-- FLAG.ST. -/
def execFlagSt (cell : Nat) (_rl : Bool) (rs2 rs1 : XReg) (s : State) : Host.Outcome State Fault Refusal :=
  s.onScalar cell fun s => s.flagInsn cell rs1 (.st ((s.cellAt cell).xr rs2)) false 0

/-- FLAG.ADD. -/
def execFlagAdd (cell : Nat) (aq _rl : Bool) (rd rs2 rs1 : XReg) (s : State) : Host.Outcome State Fault Refusal :=
  s.onScalar cell fun s => s.flagInsn cell rs1 (.add ((s.cellAt cell).xr rs2)) aq rd

/-- FLAG.MAX, unsigned. -/
def execFlagMax (cell : Nat) (aq _rl : Bool) (rd rs2 rs1 : XReg) (s : State) : Host.Outcome State Fault Refusal :=
  s.onScalar cell fun s => s.flagInsn cell rs1 (.max ((s.cellAt cell).xr rs2)) aq rd

/-- FLAG.CAS: rd is the comparand and receives the old value. -/
def execFlagCas (cell : Nat) (aq _rl : Bool) (rd rs2 rs1 : XReg) (s : State) : Host.Outcome State Fault Refusal :=
  s.onScalar cell fun s => s.flagInsn cell rs1 (.cas ((s.cellAt cell).xr rd) ((s.cellAt cell).xr rs2)) aq rd

/-- FLAG.WAITGE. -/
def execFlagWaitge (cell : Nat) (aq : Bool) (rd rs2 rs1 : XReg) (s : State) : Host.Outcome State Fault Refusal :=
  s.onScalar cell fun s => s.flagInsn cell rs1 (.waitge ((s.cellAt cell).xr rs2)) aq rd

/-- A flag has reached the target of the cell's FLAG.WAITGE (R232). -/
def State.flagReached (s : State) (c : Nat) : State :=
  match (s.cellAt c).stall with
  | .flagWait off t aq rd =>
    let w := (s.cellAt c).sram.word off
    if inSram off 8 ∧ t.toNat ≤ w.toNat then (if aq then s.acquire c else s).resume c rd w else s
  | .flagOpen t aq rd =>
    let (w, s) := s.fresh
    if t.toNat ≤ w.toNat then (if aq then s.acquire c else s).resume c rd w else s
  | _ => s

/-- FLAG_WAITGE_RESUME. -/
def execFlagWaitgeResume (cell : Nat) (s : State) : Host.Outcome State Fault Refusal :=
  withUnit (s.code.hasCell cell) (.next (s.flagReached cell).finish)

/-- CELL_WAIT_BOUND ends a wait (R206): ENG.WAIT returns ABORTED, FLAG.WAITGE the value it last saw, which at an offset
beyond cell SRAM is a free value. -/
def State.waitEnds (s : State) (c : Nat) : State :=
  let note (s : State) : State := s.flag F.cellStatus_waitTimeout (s.cellNote c)
  match (s.cellAt c).stall with
  | .engWait _ _ rd => note ((s.acquire c).resume c rd (resultWord Code.aborted.num false false 0))
  | .flagWait off _ aq rd =>
    let (w, s) := if inSram off 8 then ((s.cellAt c).sram.word off, s) else s.fresh
    note ((if aq then s.acquire c else s).resume c rd w)
  | .flagOpen _ aq rd =>
    let (w, s) := s.fresh
    note ((if aq then s.acquire c else s).resume c rd w)
  | _ => s

/-- WAIT_TIMEOUT. -/
def execWaitTimeout (cell : Nat) (s : State) : Host.Outcome State Fault Refusal :=
  withUnit (s.code.hasCell cell) (.next (s.waitEnds cell).finish)

end Sys2Proof.Machine
end

