-- ==== Sys2Proof/Machine/Issue.lean ====
section
/-! DEFINITION. The rest of the engine-issue extension (R200 to R208, R230) and the ends of a kernel (R211). -/
namespace Sys2Proof.Machine

/-! ### ISSUE (R202) -/

/-- The descriptor enters its queue and its ticket goes to rd; a stalled ISSUE goes on. -/
def State.enqueueDesc (s : State) (c q : Nat) (d : Line) : Nat × State :=
  let v := s.cellAt c
  let (t, u) := (v.queue q).issue d
  (t, s.setCell c (v.setQueue q u))

/-- ISSUE to queue `q`: a bad offset raises an access fault, a full queue stalls the engine. -/
def State.issueInsn (s : State) (c q : Nat) (rd rs1 : XReg) : State :=
  let v := s.cellAt c
  let off := (v.xr rs1).toNat
  if off % 64 ≠ 0 ∨ sramBytes - 63 ≤ off then s.trap c 5
  else
    let d := v.sram.line off
    if v.queueFull q then s.stallCell c (.issue q rd d)
    else
      let (t, s) := s.enqueueDesc c q d
      s.retire c rd (BitVec.ofNat 64 t)

/-- MX.ISSUE. -/
def execMxIssue (cell : Nat) (rd rs1 : XReg) (s : State) : Host.Outcome State Fault Refusal :=
  s.onScalar cell fun s => s.issueInsn cell 0 rd rs1

/-- VX.ISSUE. -/
def execVxIssue (cell : Nat) (rd rs1 : XReg) (s : State) : Host.Outcome State Fault Refusal :=
  s.onScalar cell fun s => s.issueInsn cell 1 rd rs1

/-- MV.ISSUE. -/
def execMvIssue (cell : Nat) (channel : BitVec 3) (rd rs1 : XReg) (s : State) : Host.Outcome State Fault Refusal :=
  s.onScalar cell fun s => s.issueInsn cell (8 + channel.toNat) rd rs1

/-- A slot has freed: the stalled ISSUE completes. -/
def State.slotFree (s : State) (c : Nat) : State :=
  match (s.cellAt c).stall with
  | .issue q rd d =>
    if (s.cellAt c).queueFull q then s
    else
      let (t, s) := s.enqueueDesc c q d
      s.resume c rd (BitVec.ofNat 64 t)
  | _ => s

/-- ISSUE_SLOT_FREE. -/
def execIssueSlotFree (cell : Nat) (s : State) : Host.Outcome State Fault Refusal :=
  withUnit (s.code.hasCell cell) (.next (s.slotFree cell).finish)

/-! ### ENG.WAIT and ENG.POLL (R205, R228) -/

/-- ENG.WAIT; a reserved queue select is an illegal instruction (R201). -/
def State.waitInsn (s : State) (c q : Nat) (rd rs1 : XReg) : State :=
  let t := ((s.cellAt c).xr rs1).toNat % 65536
  if !queueOk q then s.trap c 2
  else match (s.cellAt c).ticketResult q t with
    | some w => (s.acquire c).retire c rd w
    | none => s.stallCell c (.engWait q t rd)

/-- ENG.WAIT. -/
def execEngWait (cell : Nat) (queue : BitVec 4) (rd rs1 : XReg) (s : State) : Host.Outcome State Fault Refusal :=
  s.onScalar cell fun s => s.waitInsn cell queue.toNat rd rs1

/-- The awaited ticket has ended. -/
def State.ticketEnded (s : State) (c : Nat) : State :=
  match (s.cellAt c).stall with
  | .engWait q t rd => match (s.cellAt c).ticketResult q t with
    | some w => (s.acquire c).resume c rd w
    | none => s
  | _ => s

/-- ENG_WAIT_RESUME. -/
def execEngWaitResume (cell : Nat) (s : State) : Host.Outcome State Fault Refusal :=
  withUnit (s.code.hasCell cell) (.next (s.ticketEnded cell).finish)

/-- ENG.POLL. -/
def State.pollInsn (s : State) (c q : Nat) (rd rs1 : XReg) : State :=
  let t := ((s.cellAt c).xr rs1).toNat % 65536
  if !queueOk q then s.trap c 2
  else match (s.cellAt c).ticketResult q t with
    | some w => (s.acquire c).retire c rd w
    | none => s.retire c rd (BitVec.allOnes 64)

/-- ENG.POLL. -/
def execEngPoll (cell : Nat) (queue : BitVec 4) (rd rs1 : XReg) (s : State) : Host.Outcome State Fault Refusal :=
  s.onScalar cell fun s => s.pollInsn cell queue.toNat rd rs1

/-! ### ENG.REL and ENG.ACQ (R228, R230) -/

/-- ENG.REL: the engine stalls until the descriptors issued before it have ended and the fence is complete. -/
def execEngRel (cell : Nat) (s : State) : Host.Outcome State Fault Refusal :=
  s.onScalar cell fun s => s.stallCell cell (.rel none)

/-- The conditions of the stalled ENG.REL are met. -/
def State.relMet (s : State) (c : Nat) : Bool :=
  match (s.cellAt c).stall with
  | .rel (some id) => (s.cellAt c).quiet && (s.fence id).isNone
  | _ => false

/-- ENG_REL_RETIRE. -/
def execEngRelRetire (cell : Nat) (s : State) : Host.Outcome State Fault Refusal :=
  withUnit (s.code.hasCell cell) (.next (if s.relMet cell then (s.resume cell 0 0).finish else s))

/-- ENG_REL_TIMEOUT: the kernel ends ABORTED and WAIT_TIMEOUT is set. -/
def execEngRelTimeout (cell : Nat) (s : State) : Host.Outcome State Fault Refusal :=
  withUnit (s.code.hasCell cell) (.next (match (s.cellAt cell).stall with
    | .rel _ => ((s.flag F.cellStatus_waitTimeout (s.cellNote cell)).kernelEnd cell .aborted).finish
    | _ => s))

/-- ENG.ACQ. -/
def execEngAcq (cell : Nat) (s : State) : Host.Outcome State Fault Refusal :=
  s.onScalar cell fun s => (s.acquire cell).retire cell 0 0

/-! ### WALE and STIME (R208) -/

/-- WALE.RD. -/
def execWaleRd (cell : Nat) (rd : XReg) (s : State) : Host.Outcome State Fault Refusal :=
  s.onScalar cell fun s => s.retire cell rd (s.wale.setWidth 64)

/-- WALE.WAIT. -/
def State.waleInsn (s : State) (c : Nat) (rd rs1 : XReg) : State :=
  let t := ((s.cellAt c).xr rs1).toNat % 2 ^ 48
  if t ≤ s.wale.toNat then s.retire c rd (s.wale.setWidth 64) else s.stallCell c (.waleWait rd t)

/-- WALE.WAIT. -/
def execWaleWait (cell : Nat) (rd rs1 : XReg) (s : State) : Host.Outcome State Fault Refusal :=
  s.onScalar cell fun s => s.waleInsn cell rd rs1

/-- The wale counter has reached the awaited value. -/
def State.waleReached (s : State) (c : Nat) : State :=
  match (s.cellAt c).stall with
  | .waleWait rd t => if t ≤ s.wale.toNat then s.resume c rd (s.wale.setWidth 64) else s
  | _ => s

/-- WALE_WAIT_RESUME. -/
def execWaleWaitResume (cell : Nat) (s : State) : Host.Outcome State Fault Refusal :=
  withUnit (s.code.hasCell cell) (.next (s.waleReached cell).finish)

/-- STIME.RD. -/
def execStimeRd (cell : Nat) (rd : XReg) (s : State) : Host.Outcome State Fault Refusal :=
  s.onScalar cell fun s => s.retire cell rd s.stime

/-! ### Ends of a kernel (R211) -/

/-- ECALL: with a7 = 0 the kernel ends with the status in a0; with any other it ends as a bad ECALL. -/
def State.ecallInsn (s : State) (c : Nat) : State :=
  let v := s.cellAt c
  if v.xr 17 = 0 then s.kernelEnd c (Code.ofNum (v.xr 10).toNat) else s.trap c 0xFF

/-- ECALL. -/
def execEcall (cell : Nat) (s : State) : Host.Outcome State Fault Refusal := s.onScalar cell fun s => s.ecallInsn cell

/-- KERNEL_TRAP. -/
def execKernelTrap (cell : Nat) (cause : BitVec 8) (s : State) : Host.Outcome State Fault Refusal :=
  s.onScalar cell fun s => s.trap cell cause.toNat

/-- An instruction of the extension, by its encoding. -/
def State.extInsn (s : State) (c : Nat) (i : Ext) : State :=
  let x (r : XReg) : Word := (s.cellAt c).xr r
  match i with
  | .mx rd rs1 => s.issueInsn c 0 rd rs1
  | .vx rd rs1 => s.issueInsn c 1 rd rs1
  | .mv ch rd rs1 => s.issueInsn c (8 + ch.toNat) rd rs1
  | .wait q rd rs1 => s.waitInsn c q.toNat rd rs1
  | .poll q rd rs1 => s.pollInsn c q.toNat rd rs1
  | .flagLd aq rd rs1 => s.flagInsn c rs1 .ld aq rd
  | .flagSt _ rs2 rs1 => s.flagInsn c rs1 (.st (x rs2)) false 0
  | .flagAdd aq _ rd rs2 rs1 => s.flagInsn c rs1 (.add (x rs2)) aq rd
  | .flagMax aq _ rd rs2 rs1 => s.flagInsn c rs1 (.max (x rs2)) aq rd
  | .flagCas aq _ rd rs2 rs1 => s.flagInsn c rs1 (.cas (x rd) (x rs2)) aq rd
  | .flagWaitge aq rd rs2 rs1 => s.flagInsn c rs1 (.waitge (x rs2)) aq rd
  | .rel => s.stallCell c (.rel none)
  | .acq => (s.acquire c).retire c 0 0
  | .waleRd rd => s.retire c rd (s.wale.setWidth 64)
  | .waleWait rd rs1 => s.waleInsn c rd rs1
  | .stimeRd rd => s.retire c rd s.stime

end Sys2Proof.Machine
end

