-- ==== Sys2Proof/Machine/Sched.lean ====
section
/-! DEFINITION. The commands of wales and the static schedule apart from the boundary and FAIL (R251 to R300): SYNC,
readiness, holds, steps of templates. -/
namespace Sys2Proof.Machine

/-! ### Schedule messages (R253 to R258) -/

/-- A schedule message is accepted only in the highest epoch seen; a higher one advances it (R255). -/
def State.acceptEpoch (s : State) (m : SchedMsg) : Option State :=
  let e := s.getF F.schedSync_epoch
  if m.epoch.toNat < e then none
  else if m.epoch.toNat = e then some s
  else some ((s.setF F.schedSync_epoch 0 m.epoch.toNat).flag F.schedStatus_sourceChange)

/-- SYNC_TIMER: a SYNC goes to the parent, every 1 ms (R253). -/
def execSyncTimer (s : State) : Host.Outcome State Fault Refusal :=
  .next (s.sendUp { s.schedMsg kSync with time := s.stime })

/-- SYNC: a child's is answered; the parent's sets offset, error bound and lock (R253, R254). -/
def State.takeSync (s : State) (m : SchedMsg) (offset : BitVec 16) (errorNs : Nat) (locked : Bool) : State :=
  match s.acceptEpoch m with
  | none => s
  | some s =>
    if s.sched.children.contains m.device then s.sendMsg m.device 1 0 (.sched { s.schedMsg kSync with time := s.stime })
    else if s.sched.parent = some m.device then
      let lost := s.getF F.schedSync_locked == 1 && !locked
      let s := ((s.setF F.schedSync_offsetNs 0 offset.toNat).setF F.schedSync_errorNs 0 (min errorNs 1023)).setF
        F.schedSync_locked 0 locked.toNat
      if lost || decide (20 < errorNs) then s.flag F.schedStatus_skew else s
    else s

/-- SYNC. -/
def execSync (m : SchedMsg) (offset : BitVec 16) (errorNs : Nat) (locked : Bool) (s : State) : Host.Outcome State Fault Refusal :=
  .next (s.takeSync m offset errorNs locked)

/-! ### Readiness (R257) -/

/-- Has every step of every track ended? A track without a template is ready at once (R264). -/
def State.stepsEnded (s : State) : Bool :=
  s.sched.runs.all fun e => e.2.failed || (e.2.open_.isEmpty && (e.2.ended || (s.templateAt e.1 s.wale).isNone))

/-- Is a scheduled PUT, CELL_PUT or ATOM still to be acknowledged? -/
def State.scheduledMoves (s : State) : Bool :=
  s.cell.cells.any fun e => e.2.mv.any fun m => match m.2.run with
    | some r => r.sched
    | none => false

/-- The device is ready for its wale, the fence of its posted work apart; in CRUST it always is (R257, R670). -/
def State.workReady (s : State) : Bool :=
  s.mode == .crust ||
    (s.stepsEnded && !s.scheduledMoves && s.map.unacked.isEmpty && s.sched.holds.all fun c => c == causeOverrun)

/-- Is the store-complete fence of the wale's posted work complete (R464)? -/
def State.readyFenced (s : State) : Bool :=
  match s.sched.readyFence with
  | none => false
  | some id => (s.fence id).isNone

/-- COUNT of the device's READY: itself and what its children cover; a sleeping child, a leaf of the tree, counts as ready (R665). -/
def State.readyCount (s : State) : Nat :=
  1 + (s.sched.readyFrom.map (·.2)).sum +
    (s.sched.children.filter fun c => s.pwr.asleep.contains c && !s.sched.readyFrom.any fun r => r.1 == c).length

/-- A ready device that holds READY from every child sends READY up the tree, once a wale; the time source holds it. -/
def State.sendReady (s : State) : State :=
  let all := s.sched.children.all fun c => s.pwr.asleep.contains c || s.sched.readyFrom.any fun r => r.1 == c
  if s.workReady && s.readyFenced && all && !s.sched.sentReady then
    let s := s.unhold causeOverrun
    let s := s.onSched fun x => { x with sentReady := true }
    s.sendUp { s.schedMsg kReady with count := s.readyCount }
  else s

/-- DEVICE_READY: the fence of the posted work is sent first; READY follows once it is complete. -/
def State.becomeReady (s : State) : State :=
  if s.workReady ∧ s.mode ≠ .sleep then
    let s := match s.sched.readyFence with
      | some _ => s
      | none =>
        let (id, _, _, s) := s.startFence .deviceReady [1, 2]
        s.onSched fun x => { x with readyFence := some id }
    s.sendReady
  else s

/-- DEVICE_READY. -/
def execDeviceReady (s : State) : Host.Outcome State Fault Refusal := .next s.becomeReady.finish

/-- A schedule message of the next wale waits for the boundary (R262). -/
def State.holdEarly (s : State) (m : SchedMsg) : State :=
  if m.wale = s.wale + 1 then
    let p := { Packet.make .msg 1 m.device s.device.toNat 0 with mlen := 32, msg := some (.sched m) }
    s.onSched fun x => { x with early := x.early ++ [p] }
  else s

/-- The children that the image's time tree gives this device: the partners behind the outputs of TIME_GROUP. -/
def State.treeChildren (s : State) : List DevNo :=
  match s.weave.running with
  | none => []
  | some w => ((s.group w.stand.timeGroup).map fun g => g.outputs.map fun p => (s.port p).partner).getD []

/-- READY from a child. One that a FAIL took out of the tree, and that is repaired, is a child again. -/
def State.takeReady (s : State) (m : SchedMsg) : State :=
  match s.acceptEpoch m with
  | none => s
  | some s =>
    if (s.sched.children.contains m.device || s.treeChildren.contains m.device) ∧ m.wale = s.wale then
      (s.onSched fun x => { x with
        children := if x.children.contains m.device then x.children else x.children ++ [m.device]
        readyFrom := (x.readyFrom.filter fun r => r.1 != m.device) ++ [(m.device, m.count)] }).sendReady
    else s.holdEarly m

/-- READY. -/
def execReady (m : SchedMsg) (s : State) : Host.Outcome State Fault Refusal := .next (s.takeReady m)

/-- HOLD: it passes up the tree; the time source notes it (R258, R297). -/
def State.takeHold (s : State) (m : SchedMsg) : State :=
  match s.acceptEpoch m with
  | none => s
  | some s =>
    if m.wale = s.wale then
      let s := s.onSched fun x => { x with
        heldFrom := if x.heldFrom.contains m.device then x.heldFrom else x.heldFrom ++ [m.device] }
      if s.isSource then s.noteHold m.cause m.device else s.sendUp m
    else s.holdEarly m

/-- HOLD. -/
def execHold (m : SchedMsg) (s : State) : Host.Outcome State Fault Refusal := .next (s.takeHold m)

/-- HOLD_REPEAT_TIMER: a device that holds says so again, every 10 us (R258). -/
def execHoldRepeatTimer (s : State) : Host.Outcome State Fault Refusal :=
  .next (match s.sched.holds.getLast? with
    | none => s
    | some c => s.sendHold c)

/-- The planned end E of the current wale, in ns of stand time (R259). -/
def State.plannedEnd (s : State) : Nat := s.sched.start.toNat + s.sched.lenUs * 1000

/-- OVERRUN_HOLD: not ready at E − 8 us, with no other cause (R277). -/
def execOverrunHold (s : State) : Host.Outcome State Fault Refusal :=
  .next (if s.plannedEnd ≤ s.stime.toNat + 8000 ∧ !s.sched.sentReady ∧ s.sched.holds = [] ∧ !s.workReady then
      (s.onSched fun x => { x with overrun := true }).holdFor causeOverrun
    else s)

/-- STRETCH_WARN_TIMER: one warning a wale; a device in SLEEP gives none (R280). -/
def execStretchWarnTimer (s : State) : Host.Outcome State Fault Refusal :=
  .next (if s.mode ≠ .sleep ∧ !s.sched.warned ∧
      s.plannedEnd + 1000 * s.act F.schedStretchWarn_warnUs ≤ s.stime.toNat then
      (s.onSched fun x => { x with warned := true }).flag F.schedStatus_stretchWarn
    else s)

/-! ### Steps (R267 to R269) -/

/-- The next step of a track's template in this wale. -/
def State.dueStep (s : State) (t : Nat) : Option (TrackRun × Step) :=
  match s.sched.runs.find? fun e => e.1 == t with
  | none => none
  | some (_, r) =>
    if r.failed || r.ended then none
    else ((s.templateAt t s.wale).bind fun p => p.steps[r.next]?).map fun d => (r, d)

/-- The cells a step names, by number. -/
def Step.cells (d : Step) : List Nat := (bitsSet 32 d.cellMask).map (· + 32 * d.die)

/-- May the step start (R268, R273)? OFF cells are not waited for. -/
def State.mayStart (s : State) (d : Step) : Bool :=
  (s.mode == .service || s.mode == .rest) && !s.sched.holds.contains causeBoundary &&
    decide (s.sched.start.toNat + d.startNs ≤ s.stime.toNat) &&
    (d.cells.all fun c => s.cellRun c == runIdle || s.cellRun c == runOff) &&
    (d.kind != .stream || !(s.sched.runs.any fun e => e.2.open_.any fun o => o.kind == .stream && o.die == d.die))

/-- The step counts as started; with `o` it is open. -/
def State.stepStarted (s : State) (t : Nat) (r : TrackRun) (o : Option OpenStep) : State :=
  s.onSched fun x => { x with runs := x.runs.put t { r with next := r.next + 1, open_ := r.open_ ++ o.toList } }

/-- The open step of a descriptor. -/
def Step.opened (d : Step) (index : Nat) : OpenStep :=
  { index := index, kind := d.kind, die := d.die, cells := d.cells, layers := 0, model := d.argIndex, argSram := d.argSram,
    ran := d.cells, batch := [], status := .done, overrun := false }

/-- The tenant of a track. -/
def State.trackTenant (s : State) (t : Nat) : Tenant := ((s.sched.tracks.find? fun e => e.1 == t).map fun e => e.2.tenant).getD 0

/-- The kernel that a track's step names; an adopted track's is one of the predecessor's (R554, R595). -/
def State.trackKernel (s : State) (t id : Nat) : Option Kernel :=
  let tn := s.trackTenant t
  if t < 16 then s.kernelFor id tn
  else match s.weave.running with
    | none => none
    | some w => (w.predKernels.map (·.entry)).find? fun k => k.id == id && (k.anyTenant || k.tenant == tn)

/-- A non-empty step brings a device in REST back to SERVICE, and counts (R660, R661). -/
def State.stepWorks (s : State) : State := (s.onSched fun x => { x with worked := true }).leaveRest

/-- An adopted step starts only after the own steps of its place in their templates have ended on its cells (R554). -/
def State.ownFirst (s : State) (t i : Nat) (d : Step) : Bool :=
  decide (t < 16) || s.sched.runs.all fun e => decide (16 ≤ e.1) || e.2.failed ||
    ((e.2.open_.all fun o => decide (i < o.index) || o.cells.all fun c => !d.cells.contains c) &&
      (((s.templateAt e.1 s.wale).map (·.steps)).getD []).zipIdx.all fun p =>
        decide (p.2 < e.2.next) || decide (i < p.2) || p.1.cells.all fun c => !d.cells.contains c)

/-- A track's next step, when it is of a kind and may start; an OFF cell is a hardware fault of the track (R268, R278). -/
def State.startStep (s : State) (t : Nat) (kind : StepKind) (k : TrackRun → Step → State → State) : State :=
  match s.dueStep t with
  | none => s
  | some (r, d) =>
    if d.kind ≠ kind ∨ !s.mayStart d ∨ !s.ownFirst t r.next d then s
    else if s.map.failover.isSome ∧ s.ringTrack t then s
    else if d.cells.any fun c => s.cellRun c == runOff then s.trackFault t
    else k r d s

/-- KERNEL: argument blocks are written and the kernel starts on each cell. -/
def State.startKernel (s : State) (t : Nat) (r : TrackRun) (d : Step) : State :=
  let arg := ((s.templateAt t s.wale).map (·.args)).getD []
  let s := s.stepWorks.stepStarted t r (some (d.opened r.next))
  match s.trackKernel t d.kernel with
  | none => s
  | some k => d.cells.foldl (fun s c => s.kernelStart c k d.argSram (some (arg.getD d.argIndex 0)) (some t)) s

/-- STEP_KERNEL. -/
def execStepKernel (track : Nat) (s : State) : Host.Outcome State Fault Refusal :=
  .next (s.startStep track .kernel fun r d s => s.startKernel track r d).finish

/-- Has any model with layers on a die a live context on its ring (R660)? -/
def State.streamHasWork (s : State) (die : Nat) : Bool :=
  match s.weave.running with
  | none => false
  | some w => w.models.any fun m => (m.layers.any fun e => e.1 == die) && s.regions.any fun c => c.live && c.model == m.model

/-- The layer table of a die for a track: the own models', or the predecessor's for an adopted track (R554). -/
def State.layerTable (s : State) (t die : Nat) : List LayerEntry :=
  match s.weave.running with
  | none => []
  | some w => ((if t < 16 then w.models else w.predModels).flatMap (·.layers)).filterMap fun e => if e.1 == die then some e.2 else none

/-- STREAM: the die's sequencer starts at a layer table entry; with no live context the step is empty. -/
def State.startStream (s : State) (t : Nat) (r : TrackRun) (d : Step) : State :=
  match s.stream d.die with
  | none => s.stepStarted t r none
  | some v =>
    if !s.streamHasWork d.die then s.stepStarted t r none
    else
      let o := { d.opened r.next with cells := [], ran := [], layers := d.len }
      let s := s.stepWorks.stepStarted t r (some o)
      (s.setStream d.die { v with layers := s.layerTable t d.die, layer := d.argIndex, filled := [], dealt := 0 }).passLayers (d.len + 1) d.die

/-- STEP_STREAM. -/
def execStepStream (track : Nat) (s : State) : Host.Outcome State Fault Refusal :=
  .next (s.startStep track .stream fun r d s => s.startStream track r d).finish

/-- The device whose track it is: an adopted track is the failed device's (R552, R554). -/
def State.trackDevice (s : State) (t : Nat) : DevNo := if t < 16 then s.device else s.map.adopted.getD s.device

/-- SERVICE: each cell's argument block and slot table are written and the model's kernel starts; with no entry the step is
empty. -/
def State.startService (s : State) (t : Nat) (r : TrackRun) (d : Step) : State :=
  let m := d.argIndex
  let ids := (s.batch m).map Ctx.ident
  if ids.isEmpty then s.stepStarted t r (some { d.opened r.next with cells := [], ran := [] })
  else
    let s := s.stepWorks.stepStarted t r (some { d.opened r.next with batch := ids })
    match s.trackKernel t d.kernel with
    | none => s
    | some k => d.cells.foldl (fun s c => (s.writeBatch (s.trackDevice t) c m d.argSram).kernelStart c k d.argSram none (some t)) s

/-- STEP_SERVICE. -/
def execStepService (track : Nat) (s : State) : Host.Outcome State Fault Refusal :=
  .next (s.startStep track .service fun r d s => s.startService track r d).finish

/-- SEARCH: a slot opens on the cells or on the Sorus die; parts that are queued start. -/
def State.startSearch (s : State) (t : Nat) (r : TrackRun) (d : Step) : State :=
  let die : Option Nat := if d.cellMask = 0 then some (d.die % 2) else none
  let queued := s.srch.parts.any fun e => e.2.state != .answer && (if e.2.hdr.form = 1 then die == some e.2.hdr.die else die.isNone)
  let s := if queued then s.stepWorks else s
  let s := s.stepStarted t r (some (d.opened r.next))
  (s.onSrch fun x => { x with open_ := x.open_.put t die }).startParts

/-- STEP_SEARCH. -/
def execStepSearch (track : Nat) (s : State) : Host.Outcome State Fault Refusal :=
  .next (s.startStep track .search fun r d s => s.startSearch track r d).finish

/-- STEP_END: the template has no further steps in this wale. -/
def execStepEnd (track : Nat) (s : State) : Host.Outcome State Fault Refusal :=
  .next (match s.dueStep track with
    | some (r, d) =>
      if d.kind = .done then
        (s.onSched fun x => { x with runs := x.runs.put track { r with next := r.next + 1, ended := true } }).finish
      else s
    | none => s)

/-- SEARCH_SLOT_END: the slot is closed; contexts keep what they have for the next one (R389). -/
def execSearchSlotEnd (track : Nat) (s : State) : Host.Outcome State Fault Refusal :=
  .next (if s.srch.open_.any fun e => e.1 == track then
      let s := s.onSrch fun x => { x with open_ := x.open_.del track }
      (s.onSched fun x => { x with runs := x.runs.map fun e =>
        if e.1 == track then (e.1, { e.2 with open_ := e.2.open_.filter fun o => o.kind != .search }) else e }).finish
    else s)

/-! ### Writes (R293, R296) -/

/-- SCHED_WALE_LEN_WRITE: NEXT_US, on the time source alone; an unfit length is refused. -/
def State.writeWaleLen (s : State) (v : Word) : State :=
  if !s.isSource then s
  else
    let (v, s) := s.cleanWrite (F.schedWaleLen_nextUs.off 0) v
    let n := fieldOf v 17 17
    if n = 0 then (s.setF F.schedWaleLen_nextUs 0 0).setF F.schedWaleLen_refused 0 0
    else if n < 50 ∨ 100000 < n ∨ n < s.sched.standMinUs then
      (s.setF F.schedWaleLen_nextUs 0 0).setF F.schedWaleLen_refused 0 1
    else (s.setF F.schedWaleLen_nextUs 0 n).setF F.schedWaleLen_refused 0 0

/-- SCHED_WALE_LEN_WRITE. -/
def execSchedWaleLenWrite (v : Word) (s : State) : Host.Outcome State Fault Refusal := .next (s.writeWaleLen v)

/-- SCHED_ADMIT_MAX_WRITE: in force from the next boundary (R738). -/
def execSchedAdmitMaxWrite (v : Word) (s : State) : Host.Outcome State Fault Refusal :=
  .next (s.plainWrite (F.schedAdmitMax_max.off 0) v)

end Sys2Proof.Machine
end

