-- ==== Sys2Proof/Machine/Flow.lean ====
section
/-! DEFINITION. The source's side of flows and requests: replies, delivery reports, resends, dead targets, probes, fences
(R452 to R466, R740). -/
namespace Sys2Proof.Machine

/-- Packets that waited for room go out. -/
def State.unblockAll (s : State) : State := s.unblock s.fab.blocked.length

/-- Mark a device unreachable (R463). -/
def State.markUnreach (s : State) (d : DevNo) : State :=
  let i := d.toNat / 64
  (s.setF F.swcUnreach_map i (s.getF F.swcUnreach_map i ||| 2 ^ (d.toNat % 64))).flag F.swcStatus_unreachable
    { arg := BitVec.ofNat 64 d.toNat }

/-- A fence has one answer more; the last completes it (R466). -/
def State.fenceAnswer (s : State) (id : Nat) (dead : Bool) : State :=
  match s.fence id with
  | none => s
  | some f =>
    if f.waiting ≤ 1 then
      let s := s.onFab fun x => { x with fences := x.fences.del id }
      if f.owner = .deviceReady then s.sendReady else s
    else s.onFab fun x => { x with fences := x.fences.put id { f with waiting := f.waiting - 1, dead := f.dead || dead } }

/-- An engine's access that a request packet carried. -/
def Packet.access (p : Packet) (who : Who) : Access :=
  let kind : AccKind := match p.kind with
    | .load => .load p.lines
    | .atomic => .atom p.atop p.operand p.compare
    | _ => .store p.data p.mask
  { who := who, tenant := p.tenant, off := saOffset p.addr, kind := kind, resv := none }

/-- A request has ended: whoever issued it learns its status and its lines. -/
def State.requestEnds (s : State) (r : Request) (code : Code) (detail : Nat) (data : List Line) : State :=
  match r.issuer with
  | .mover c ch => s.moverGot c ch code data
  | .host b dpa _ => s.hostEnd b dpa code data
  | .homeop b l => s.homeopEnd b l code detail (if code = .done then some ((data.headD 0).extractLsb' 0 64) else none)
  | .fence id =>
    let s := if code = .dead then s
      else
        let mine (f : TxFlow) : Bool := f.flow == r.flow && f.posted == some r.packet.fenced.toNat
        s.onFab fun x => { x with tx := updWhere mine (fun f => { f with posted := none }) x.tx }
    s.fenceAnswer id (code == .dead)
  | .engine _ => s.emit (.access (r.packet.access .engine) code data)
  | .relay p => if p.answered then s.sendReply p code detail data else s
  | .query q => match r.packet.msg with
    | some (.relay m) => if code = .dead then s.relayDead q m else s
    | _ => s
  | .probe | .refetch _ | .other => s

/-- The lines a request's failed end delivers (R461). -/
def Request.ones (r : Request) : List Line :=
  match r.packet.kind with
  | .load => List.replicate r.lines lineOnes
  | .atomic => [lineOnes]
  | _ => []

/-- A member's answer comes in; the last one ends the request (R740). -/
def State.takeAnswer (s : State) (r : Request) (src : DevNo) (code : Code) (detail : Nat) (data : List Line) : State :=
  let r' := { r with waiting := r.waiting.filter (· != src), answers := r.answers ++ [code] }
  let rest := s.fab.requests.filter fun q => q.tag != r.tag
  if r'.waiting.isEmpty then
    (s.onFab fun x => { x with requests := rest }).requestEnds r (joinAnswers r'.answers) detail data
  else s.onFab fun x => { x with requests := updWhere (fun q => q.tag == r.tag) (fun _ => r') x.requests }

/-- Does a RETRY come from a full tracker, and not from a home in REPAIR? MODE of the status word tells (R22, R238, R506). -/
def trackerRetry (p : Packet) : Bool := p.code == .retry && fieldOf p.addr 20 4 != Mode.num .repair

/-- REPLY: the request it answers ends; one that a full tracker turned away is sent again (R506); one that comes late is
counted (R461). -/
def State.takeReply (s : State) (p : Packet) : State :=
  match s.fab.requests.find? fun r => r.tag == p.tag && r.waiting.contains p.src with
  | none => s.addF F.lnkLateReplyCount_count 0 1
  | some r =>
    if trackerRetry p ∧ !r.packet.mcast then
      let s := s.onFab fun x => { x with requests := x.requests.filter fun q => q.tag != r.tag }
      s.launch r.packet (some r.issuer)
    else s.takeAnswer r p.src p.code (fieldOf p.addr 8 8) p.data

/-- REPLY. -/
def execReply (p : Packet) (s : State) : Host.Outcome State Fault Refusal := .next (s.takeReply p).finish

/-- FENCE_DONE: one answer to a fence's FENCE. -/
def State.takeFenceDone (s : State) (p : Packet) : State :=
  match s.fab.requests.find? fun r => r.tag == p.tag && r.waiting.contains p.src with
  | none => s
  | some r => s.takeAnswer r p.src .done 0 []

/-- FENCE_DONE. -/
def execFenceDone (p : Packet) (s : State) : Host.Outcome State Fault Refusal := .next (s.takeFenceDone p).finish

/-- The mirror transfer that a packet carried is acknowledged (R257, R342). -/
def State.mirrorAcked (s : State) (p : Packet) : State :=
  if p.cls ≠ 1 then s
  else match p.msg with
  | some (.mirror _ (.record t seq _ _)) => s.onMap fun m => { m with unacked := m.unacked.erase (some (t, seq)) }
  | some (.mirror _ _) => s.onMap fun m => { m with unacked := m.unacked.erase none }
  | _ => s

/-- Does a report up to `seq` cover number `n`? -/
def covers (seq n : Nat) : Bool := decide ((seq + 65536 - n) % 65536 < 32768)

/-- DELIVERED: packets that every member has covered leave the source replay buffer (R455). -/
def State.takeDelivered (s : State) (src : DevNo) (es : List (FlowId × BitVec 16)) : State :=
  let hit (r : Replay) : Bool := es.any fun e => e.1 == r.flow && covers e.2.toNat r.seq
  let marked := s.fab.replay.map fun r => if hit r then { r with uncovered := r.uncovered.filter (· != src) } else r
  let gone := marked.filter fun r => r.uncovered.isEmpty
  -- the MSG to a group's source has arrived (R391)
  let relayed (q : Request) : Bool := (match q.issuer with
    | .query _ => q.packet.kind == .msg
    | _ => false) && gone.any fun r => r.flow == q.flow && r.seq == q.seq
  let s := s.onFab fun x => { x with
    replay := marked.filter fun r => !r.uncovered.isEmpty, requests := x.requests.filter fun q => !relayed q }
  (gone.foldl (fun s r => s.mirrorAcked r.packet) s).unblockAll

/-- DELIVERED. -/
def execDelivered (src : DevNo) (entries : List (FlowId × BitVec 16)) (s : State) : Host.Outcome State Fault Refusal :=
  .next (s.takeDelivered src entries).finish

/-- Entries in packets of at most 8. -/
def chunks8 : Nat → List (FlowId × BitVec 16) → List (List (FlowId × BitVec 16))
  | 0, _ => []
  | _, [] => []
  | n + 1, l => l.take 8 :: chunks8 n (l.drop 8)

/-- DELIVERED reports to a source: each flow's highest contiguous number (R454). -/
def State.sendDelivered (s : State) (src : DevNo) : State :=
  let fs := s.fab.rx.filter fun f => f.flow.src == src && f.unreported != 0
  let es := fs.map fun f => (f.flow, BitVec.ofNat 16 ((f.expected + 65535) % 65536))
  let s := s.onFab fun x => { x with rx := updWhere (fun f => f.flow.src == src) (fun f => { f with unreported := 0 }) x.rx }
  (chunks8 es.length es).foldl (fun s c => s.sendLoose { Packet.make .delivered 0 s.device src.toNat 0 with entries := c }) s

/-- DELIVERED_TIMER. -/
def execDeliveredTimer (src : DevNo) (s : State) : Host.Outcome State Fault Refusal := .next (s.sendDelivered src)

/-- A kept packet. -/
def State.kept (s : State) (f : FlowId) (seq : Nat) : Option Replay := s.fab.replay.find? fun r => r.flow == f && r.seq == seq

/-- RESEND_TIMER: the packet goes again with RESENT set, a multicast one by unicast to each member that has not covered it
(R456). -/
def State.resend (s : State) (f : FlowId) (seq : Nat) : State :=
  match s.kept f seq with
  | none => s
  | some r =>
    let p := { r.packet with resent := true }
    let s := s.addF F.swcResendCount_count 0 (if f.mcast then r.uncovered.length else 1)
    if f.mcast then
      r.uncovered.foldl (fun s d => s.out1 { p with uni := some d }) (s.flag F.swcStatus_mcastUnicast)
    else
      let port := s.pickPort p.cls p.target r.lastPort
      let mine (q : Replay) : Bool := q.flow == f && q.seq == seq
      let s := s.onFab fun x => { x with replay := updWhere mine (fun q => { q with lastPort := port }) x.replay }
      s.out1 p r.lastPort

/-- RESEND_TIMER. -/
def execResendTimer (flow : FlowId) (seq : BitVec 16) (s : State) : Host.Outcome State Fault Refusal :=
  .next (s.resend flow seq.toNat)

/-- DEAD_TIMEOUT: the request ends DEAD, its packets leave the replay buffer, its target is unreachable (R461, R463,
R740). -/
def State.deadTimeout (s : State) (tag : BitVec 16) : State :=
  match s.fab.requests.find? fun r => r.tag == tag with
  | none => s
  | some r =>
    let s := s.onFab fun x => { x with
      requests := x.requests.filter fun q => q.tag != tag
      replay := x.replay.filter fun k => !(k.flow == r.flow && k.seq == r.seq) }
    let s := s.noteDead (r.waiting.headD 0) r.addr r.packet.tenant
    let s := r.waiting.tail.foldl (fun s d => s.markUnreach d) s
    (s.requestEnds r (joinAnswers (r.answers ++ [.dead])) 0 r.ones).unblockAll

/-- DEAD_TIMEOUT. -/
def execDeadTimeout (tag : BitVec 16) (s : State) : Host.Outcome State Fault Refusal := .next (s.deadTimeout tag).finish

/-- POSTED_LOST_TIMEOUT: a packet that nothing answers is dropped and counts as lost (R462). -/
def State.postedLost (s : State) (f : FlowId) (seq : Nat) : State :=
  match s.kept f seq with
  | none => s
  | some r =>
    if r.packet.answered then s
    else
      let s := s.onFab fun x => { x with replay := x.replay.filter fun k => !(k.flow == f && k.seq == seq) }
      (s.noteLost r.packet).unblockAll

/-- POSTED_LOST_TIMEOUT. -/
def execPostedLostTimeout (flow : FlowId) (seq : BitVec 16) (s : State) : Host.Outcome State Fault Refusal :=
  .next (s.postedLost flow seq.toNat).finish

/-- PROBE_TIMER: an unreachable device is sent the next number of each flow to it (R463). -/
def State.sendProbe (s : State) (d : DevNo) : State :=
  if !s.unreachable d then s
  else
    let es := (s.fab.tx.filter fun t => !t.flow.mcast && t.flow.dst == d.toNat).map fun t => (t.flow, BitVec.ofNat 16 t.next)
    let (tag, s) := s.newTag
    let p := { Packet.make .probe 0 s.device d.toNat 0 with entries := es, tag := tag }
    let r : Request :=
      { tag := tag, issuer := .probe, flow := p.flow, seq := 65536, addr := 0, lines := 0, waiting := [d], answers := [], packet := p
        since := s.stime, woken := false }
    (s.onFab fun x => { x with requests := x.requests ++ [r] }).sendLoose p

/-- PROBE_TIMER. -/
def execProbeTimer (dst : DevNo) (s : State) : Host.Outcome State Fault Refusal := .next (s.sendProbe dst)

/-- The receive side of a flow. -/
def State.rxFlow (s : State) (f : FlowId) : RxFlow :=
  (s.fab.rx.find? fun r => r.flow == f).getD { flow := f, expected := 0, held := [], unreported := 0 }

/-- Put the receive side of a flow. -/
def State.setRx (s : State) (r : RxFlow) : State :=
  s.onFab fun x => { x with rx := (x.rx.filter fun q => q.flow != r.flow) ++ [r] }

/-- PROBE: the flows' held packets go, and their next numbers are taken as expected (R463). -/
def State.takeProbe (s : State) (p : Packet) : State :=
  let s := p.entries.foldl (fun s (f, n) => if f.src = p.src then s.setRx { s.rxFlow f with held := [], expected := n.toNat } else s) s
  s.sendLoose { Packet.make .probeReply 0 s.device p.src.toNat 0 with tag := p.tag }

/-- PROBE. -/
def execProbe (p : Packet) (s : State) : Host.Outcome State Fault Refusal := .next (s.takeProbe p)

/-- PROBE_REPLY: the device is reachable again. -/
def State.takeProbeReply (s : State) (d : DevNo) : State :=
  let i := d.toNat / 64
  let s := s.onFab fun x => { x with requests := x.requests.filter fun r => !(r.issuer == .probe && r.waiting == [d]) }
  s.setF F.swcUnreach_map i (s.getF F.swcUnreach_map i &&& (2 ^ 64 - 1 - 2 ^ (d.toNat % 64)))

/-- PROBE_REPLY. -/
def execProbeReply (src : DevNo) (s : State) : Host.Outcome State Fault Refusal := .next (s.takeProbeReply src)

/-- WAKING: the request's bound starts again, once (R450). -/
def State.takeWaking (s : State) (tag : BitVec 16) : State :=
  s.onFab fun x => { x with
    requests := updWhere (fun r => r.tag == tag && !r.woken) (fun r => { r with woken := true, since := s.stime }) x.requests }

/-- WAKING. -/
def execWaking (_src : DevNo) (tag : BitVec 16) (s : State) : Host.Outcome State Fault Refusal := .next (s.takeWaking tag)

end Sys2Proof.Machine
end

