-- ==== Sys2Proof/Machine/Query.lean ====
section
/-! DEFINITION. The commands of vector search from a query's binding to its record, apart from the landing of its line
(R379 to R401). -/
namespace Sys2Proof.Machine

/-! ### Landing (R382 to R384) -/

/-- The first field of a QUERY line that fails its check, by byte offset (R382). -/
def State.queryCheck (s : State) (t : Tenant) (l : Line) : Option Nat :=
  let f := dfield l
  let k := f 4 0 16
  let live := s.srch.homes.any fun e => e.2.tenant == t && e.2.queryId == lineReq l
  ([ (0x02, f 0 16 16 != 0), (0x04, k == 0 || decide (256 < k)), (0x06, f 6 0 16 == 0), (0x08, live),
     (0x10, f 0x10 0 56 % 64 != 0), (0x17, f 0x17 0 8 != 0), (0x18, f 0x18 0 56 % 64 != 0), (0x1F, f 0x1F 0 8 != 0),
     (0x24, decide (f 0x24 0 16 < k) || decide (4096 < f 0x24 0 16)), (0x26, decide (f 0x26 0 16 < k)),
     (0x28, f 0x28 0 192 != 0) ].find? fun e => e.2).map (·.1)

/-- The first byte of a QCANCEL line that fails its check (R381). -/
def qcancelCheck (l : Line) : Option Nat := firstNonZero l (bytesFrom 1 8 ++ bytesFrom 16 64)

/-- A QUERY that passes R382: the checks of R383, in order. -/
def State.queryBind (s : State) (t : Tenant) (i : Nat) (l : Line) (dead : Bool) : Option (Code × Nat) × State :=
  let f := dfield l
  let no (code : Code) (detail : Nat) : Option (Code × Nat) × State := (some (code, detail), s)
  let k := f 4 0 16
  match s.corpus (f 0 8 6) with
  | none => no .absent 0x10
  | some c =>
    let n := 0xC0 + c.dim
    if c.tenant ≠ t ∧ !c.shared then no .denied 0x10
    else match s.rangeFails t (f 0x10 0 56) n .load with
      | some e => no e 0x11
      | none =>
        let (code, block, s') := s.readLines t (f 0x10 0 56) n fun _ => dead
        if code ≠ .done then no code 0x11
        else match s.rangeFails t (f 0x18 0 56) (resultSize k c.shards.length) .store with
          | some e => no e 0x12
          | none =>
            if (s.aperture t).ringEntries = 0 then no .absent 2
            else match s.freeQuery s.homeDie with
              | none => no .retry 0x10
              | some q =>
                let h : HomeQ :=
                  { state := .fanout, die := s.homeDie, tenant := t, slot := i, corpus := f 0 8 6, widen := f 0 14 2, k := k,
                    nprobe := f 6 0 16, queryId := lineReq l, resultAddr := f 0x18 0 56, deadlineUs := f 0x20 0 32,
                    rerank := f 0x24 0 16, ef := f 0x26 0 16, stamp := s.stime, block := block, round := 0, shards := [],
                    hits := [], scanned := 0, matched := 0, ended := none }
                (none, (s'.addF F.srchQueryCount_count 0 1).fanOut q h (List.range c.shards.length))

/-- A search command lands: its slot never becomes HELD (R382). `act` answers the status to show. -/
def State.landSearch (s : State) (t : Tenant) (i : Nat) (l : Line) (bad : Option Nat)
    (act : State → (Code × Nat) × State) : State :=
  if s.apLines t ≤ i ∨ i = 0 then s.apAbsent t
  else
    let v := s.slot t i
    if v.held then s.apDiscard t i
    else
      let reads (s : State) (e : Code × Nat) (ok : Bool) : State :=
        let s := s.setSlot t i { v with
          line := l, requestId := lineReq l, landWale := s.wale, stamp := s.stime, context := 0,
          discards := if ok then 0 else v.discards, status := s.statusWord t e.1 e.2, doneWale := s.wale }
        s.countReject e.1
      if s.mode = .crust then reads s (.crust, 0) false
      else if s.mode = .repair then reads s (.retry, 1) false
      else match bad with
        | some off => reads s (.malformed, off) false
        | none =>
          let (e, s) := act s.leaveRest
          reads s e (e.1 == .done)

/-- QUERY lands. -/
def State.landQuery (s : State) (t : Tenant) (i : Nat) (l : Line) (dead : Bool) : State :=
  s.landSearch t i l (s.queryCheck t l) fun s => match s.queryBind t i l dead with
    | (some e, s) => (e, s)
    | (none, s) => ((.done, 0x10), s)

/-- QCANCEL lands (R384). -/
def State.landQcancel (s : State) (t : Tenant) (i : Nat) (l : Line) : State :=
  s.landSearch t i l (qcancelCheck l) fun s =>
    match s.srch.homes.find? fun e => e.2.tenant == t && e.2.queryId == lineReq l && e.2.state != .merge with
    | some (q, _) => ((.done, 3), s.queryEnds q .aborted 1)
    | none => ((.absent, 5), s)

/-! ### Parts (R387 to R391) -/

/-- QUERY_RELAY: the group's source multicasts the parts of another home (R391). -/
def State.relayParts (s : State) (m : QueryParts) : State :=
  match s.corpus m.corpus with
  | none => s
  | some c => match s.group c.group with
    | some g => if g.source = s.device ∧ s.mode ≠ .sleep then s.sendGroup c.group 2 m.tenant (.part m) else s
    | none => s

/-- QUERY_RELAY. -/
def execQueryRelay (m : QueryParts) (s : State) : Host.Outcome State Fault Refusal := .next (s.relayParts m).finish

/-- QUERY_PART: a part arrives at one of the slots that the shard list names; it acknowledges, and is bound, queued or
answered. What a slot that holds no shard answers is open. -/
def State.takePart (s : State) (m : QueryParts) (slot : Nat) : State :=
  match s.shardIndex m slot with
  | none => s
  | some shard =>
    let s := s.leaveRest.sendMsg m.home 2 m.tenant (.partAck m.q shard)
    if s.mode = .crust then s.answerNow m shard .crust
    else match s.shardSlot slot with
      | none =>
        let (v, s) := s.fresh
        s.answerNow m shard (Code.ofNum (v.toNat % 14))
      | some v =>
        let die := v.cur.die
        match s.freeQuery die with
        | some i => s.bindPart i m shard slot v
        | none =>
          if 4096 ≤ s.srch.pending.countP fun e => e.1 == die then
            (s.flag F.srchStatus_partQueueFull { tenant := v.cur.tenant.toNat, index := slot }).answerNow m shard .retry
          else s.onSrch fun x => { x with pending := x.pending ++ [(die, m, slot)] }

/-- QUERY_PART. -/
def execQueryPart (m : QueryParts) (shardSlot : Nat) (s : State) : Host.Outcome State Fault Refusal :=
  .next (s.takePart m shardSlot).finish

/-- Change what a waiting home knows of a shard that has not settled. -/
def State.onShard (s : State) (q shard : Nat) (g : HomeQ → ShardNote → State) : State :=
  match s.homeQ q with
  | none => s
  | some h => match h.shards.find? fun e => e.1 == shard with
    | some (_, n) => if h.state = .waiting ∧ n.stand ≠ .settled then g h n else s
    | none => s

/-- Note a shard's standing; it was heard now. -/
def State.noteShard (s : State) (q shard : Nat) (h : HomeQ) (n : ShardNote) (st : ShardStand) : State :=
  s.setHomeQ q { h with shards := h.shards.put shard { n with stand := st, heard := s.stime } }

/-- PART_ACK. -/
def execPartAck (q shard : Nat) (s : State) : Host.Outcome State Fault Refusal :=
  .next (s.onShard q shard fun h n => if n.stand = .sent then s.noteShard q shard h n .acked else s)

/-- PART_PROGRESS. -/
def execPartProgress (q shard : Nat) (s : State) : Host.Outcome State Fault Refusal :=
  .next (s.onShard q shard fun h n => if n.stand = .retry then s else s.noteShard q shard h n .acked)

/-- PART_PROGRESS_TIMER: a part that is not in ANSWER sends a progress message (R391). -/
def execPartProgressTimer (part : Nat) (s : State) : Host.Outcome State Fault Refusal :=
  .next (match s.part part with
    | some p => if p.state = .answer then s else s.sendMsg p.msg.home 2 p.msg.tenant (.partProgress p.msg.q p.shard)
    | none => s)

/-- PART_SILENCE_TIMEOUT: the shard counts as DEAD (R390, R391). -/
def execPartSilenceTimeout (q shard : Nat) (s : State) : Host.Outcome State Fault Refusal :=
  .next (s.onShard q shard fun h n => s.shardDead q h shard n).finish

/-- PART_RESEND_TIMER: a part answered RETRY is sent again, to its device alone (R390). -/
def State.resendPart (s : State) (q shard : Nat) : State :=
  s.onShard q shard fun h n =>
    if n.stand = .retry then
      let s := s.setHomeQ q { h with shards := h.shards.put shard { n with stand := .sent } }
      s.unicastParts h (s.partsOf q h [shard])
    else s

/-- PART_RESEND_TIMER. -/
def execPartResendTimer (q shard : Nat) (s : State) : Host.Outcome State Fault Refusal := .next (s.resendPart q shard)

/-- PART_CANCEL: the part becomes FREE without answering; one in ANSWER answers all the same (R387). -/
def execPartCancel (part : Nat) (s : State) : Host.Outcome State Fault Refusal :=
  .next (match s.part part with
    | some p => if p.state = .answer then s else (s.freePart part).finish
    | none => s)

/-- PART_ANSWER. -/
def execPartAnswer (q shard : Nat) (a : PartAnswer) (s : State) : Host.Outcome State Fault Refusal :=
  .next (s.mergeAnswer q shard a).finish

/-- ANSWER_ACK: the answer is acknowledged, or ended DEAD; the context becomes FREE. -/
def execAnswerAck (part : Nat) (_dead : Bool) (s : State) : Host.Outcome State Fault Refusal :=
  .next (match s.part part with
    | some p => if p.state = .answer then (s.freePart part).finish else s
    | none => s)

/-! ### Memory waits and exact distances (R378, R387) -/

/-- PART_MEMWAIT_END: the part goes on in the state it left. -/
def State.memwaitEnd (s : State) (i : Nat) (poison : Bool) : State :=
  match s.part i with
  | none => s
  | some p =>
    if p.state ≠ .memwait then s
    else if poison then s.partEnds i p .poison
    else if p.left = .rerank then s.setPart i { p with state := .rerank }
    else if p.probes = [] then s.partStart i p
    else s.partScan i { p with state := .scan }

/-- PART_MEMWAIT_END. -/
def execPartMemwaitEnd (part : Nat) (poison : Bool) (s : State) : Host.Outcome State Fault Refusal :=
  .next (s.memwaitEnd part poison).finish

/-- Order of a shard's answer: (D, vector ID). -/
def insertAnswer (e : Word × Int) (l : List (Word × Int)) : List (Word × Int) :=
  let before (a b : Word × Int) : Bool := decide (a.2 < b.2) || (a.2 == b.2 && decide (a.1.toNat < b.1.toNat))
  l.filter (fun x => !before e x) ++ [e] ++ l.filter fun x => before e x

/-- The exact distances of a part's candidates: the first K by (D, vector ID). -/
def State.rerank (s : State) (p : Part) : List (Word × Int) :=
  let one (r : Nat) : Word × Int := (BitVec.ofNat 64 (s.peekNat (p.hdr.base + p.hdr.ids + 8 * r) 8), s.exactDist p.hdr p.msg.block r)
  (p.cands.foldl (fun l c => insertAnswer (one c.2) l) []).take p.msg.k

/-- RERANK_COMPLETE: the part sends its answer. -/
def State.rerankEnd (s : State) (i : Nat) : State :=
  match s.part i with
  | none => s
  | some p =>
    if p.state ≠ .rerank then s
    else
      let rs := p.cands.flatMap fun c =>
        [(p.hdr.base + p.hdr.vectors + p.hdr.dim * c.2, p.hdr.dim), (p.hdr.base + p.hdr.ids + 8 * c.2, 8)]
      s.partReads i p .rerank rs fun s => s.partEnds i { p with results := s.rerank p } .done

/-- RERANK_COMPLETE. -/
def execRerankComplete (part : Nat) (s : State) : Host.Outcome State Fault Refusal := .next (s.rerankEnd part).finish

/-! ### The record (R395, R396) -/

/-- A record lands in a tenant's completion ring: PRODUCED moves on. None while the ring is full or a SEQ before it has
not landed, or where the ring does not translate (R338, R341). A ring that an adopted device left is found through its
mirror, and CONSUMED of it is written by nobody any more (R557). -/
def State.ringWrite (s : State) (k : Nat) (t : Tenant) (seq : Nat) (line : Line) : Option State :=
  let a := s.ringAt k
  let full := decide (k < 256) && decide (a.ringEntries < (seq + 2 ^ 32 - a.consumed) % 2 ^ 32)
  let addr := a.ringBase + 64 * ((seq + 2 ^ 32 - 1) % 2 ^ 32 % max a.ringEntries 1)
  let sa? : Option Word :=
    if k < 256 then match s.lookup t addr .store true with
      | .fails _ => none
      | .stand sa _ => some sa
    else s.map.adopted.bind fun d => (s.mirrorOf d).standOf t addr
  if a.ringEntries = 0 ∨ full ∨ seq ≠ (a.produced + 1) % 2 ^ 32 then none
  else match sa? with
    | none => none
    | some sa =>
      let s := s.onSvc fun x => { x with apertures := x.apertures.put k { a with produced := seq } }
      let s := s.emit (.record t addr [line])
      let d := BitVec.ofNat 9 (saDevice sa)
      if s.servesOwn sa then
        some (s.homeAccess { who := .device, tenant := t, off := saOffset sa, kind := .store [line] (BitVec.allOnes 64), resv := none })
      else if s.map.adopted = some d then
        some (s.setMirror d ((s.mirrorOf d).write (saOffset sa / 64 * 64) [line] (BitVec.allOnes 64)))
      else
        let p := { Packet.make .store 1 s.device d.toNat t with
          lines := 1, addr := sa, data := [line], mask := BitVec.allOnes 64 }
        some (s.sendPacket p (some .other)).2

/-- QUERY_RECORD_WRITE: once the result buffer is written, and the service's records before it, the record lands and the
context becomes FREE; a home whose ring is full stays in MERGE (R387, R396). -/
def State.queryRecordLands (s : State) (q : Nat) : State :=
  match s.homeQ q with
  | none => s
  | some h =>
    if h.state ≠ .merge ∨ s.queryPending q ∨ s.svc.records.any (fun r => r.ring == h.tenant.toNat) ∨ s.mode = .quarantine then s
    else
      let seq := ((s.aperture h.tenant).produced + 1) % 2 ^ 32
      match s.ringWrite h.tenant.toNat h.tenant seq (s.queryRecord q h seq) with
      | none => s
      | some s =>
        let s := if (h.ended.map (·.1)) = some .short then s.addF F.srchShortCount_count 0 1 else s
        let s := (s.onSrch fun x => { x with homes := x.homes.del q }).tel F.telQueries_count h.tenant.toNat 1
        s.dequeueParts s.srch.pending.length

/-- QUERY_RECORD_WRITE. -/
def execQueryRecordWrite (q : Nat) (s : State) : Host.Outcome State Fault Refusal := .next (s.queryRecordLands q).finish

/-- QUERY_DEADLINE: the query ends LATE (R387, R397). -/
def execQueryDeadline (q : Nat) (s : State) : Host.Outcome State Fault Refusal :=
  .next (match s.homeQ q with
    | some h => if windowOver h.stamp s.stime h.deadlineUs then (s.queryEnds q .late 0).finish else s
    | none => s)

end Sys2Proof.Machine
end

