-- ==== Sys2Proof/Machine/Sweep.lean ====
section
/-! DEFINITION. The sweep over the Sorus arrays, their calibration, and the shard commands (R362 to R374, R408 to
R413). -/
namespace Sys2Proof.Machine

/-! ### Compares (R368 to R372) -/

/-- Values of SRCH_ARRAY.STATE (R412). -/
def arrayActive : Nat := 1
/-- CALIBRATING. -/
def arrayCalibrating : Nat := 2
/-- RETIRED. -/
def arrayRetired : Nat := 3

/-- STATE of an array. -/
def State.arrayState (s : State) (a : Nat) : Nat := s.getF F.srchArray_state a

/-- Is every array of a die RETIRED (R374)? -/
def State.allRetired (s : State) (die : Nat) : Bool := (List.range 64).all fun i => s.arrayState (64 * die + i) == arrayRetired

/-- Is the array fitted? -/
def OrderCode.hasArray (c : OrderCode) (a : Nat) : Bool := decide (a < 64 * c.soruses)

/-- τ: the distance of the last entry of a full list, 1,024 otherwise (R370). -/
def threshold (rerank : Nat) (l : List (Int × Nat)) : Int :=
  if l.length < rerank then 1024 else (l.getLast?.map (·.1)).getD 1024

/-- One row of a compare: a row that is eligible and passes the array is inserted by its exact distance (R370). `slack`:
what the row's analogue count may exceed τ by; none where the compare is digital and every row passes. -/
def compareRow (rerank : Nat) (l : List (Int × Nat)) (h : Int) (row : Nat) (slack : Option Int) : List (Int × Nat) :=
  match slack with
  | none => insertCand rerank (h, row) l
  | some d => if h ≤ threshold rerank l + d then insertCand rerank (h, row) l else l

/-- The blocks of a partition: runs of at most 4,096 rows from its first (R368). -/
def blockStarts (first rows : Nat) : List Nat := (List.range ((rows + 4095) / 4096)).map fun k => first + 4096 * k

/-- Has a part been compared with every block that it probes (R369)? -/
def State.swept (s : State) (p : Part) : Bool :=
  p.probes.all fun x => (blockStarts (s.partition p.hdr x).1 (s.partition p.hdr x).2).all fun f => p.compared.contains (x, f)

/-- A part is compared with a block: `dev` is the analogue count's deviation of each row within ±(m − 1), `m` the margin,
none of both where the compare is digital. -/
def State.compareBlock (s : State) (i : Nat) (p : Part) (x first rows : Nat) (dev : List Int) (m : Option Nat) : State :=
  let h := p.hdr
  let rs := h.tombRange ++ [(h.base + h.sketches + 128 * first, 128 * rows), (h.base + h.attrs + 16 * first, 16 * rows)]
  s.partReads i p .scan rs fun s =>
    let es := ((List.range rows).map (· + first)).filter fun r => s.eligible h p.msg.block r
    let slack (r : Nat) : Option Int := m.map fun m =>
      let e : Int := (m : Int) - 1
      (m : Int) - max (-e) (min e (dev.getD (r - first) 0))
    let cands := es.foldl (fun l r => compareRow p.msg.rerank l (s.hamming h p.msg.block r : Int) r (slack r)) p.cands
    let p := { p with
      cands := cands, compared := p.compared ++ [(x, first)], scanned := p.scanned + rows, matched := p.matched + es.length }
    let s := if m.isNone then s.addF F.srchFallbackCount_count 0 1 else s
    s.setPart i (if s.swept p then { p with state := .rerank } else p)

/-- An array goes to the front of its die's calibration order (R372, R373). -/
def State.calFirst (s : State) (a : Nat) : State :=
  let l := s.srch.calOrder.get (a / 64) [0]
  if l.dropLast.contains (a % 64) then s
  else s.onSrch fun x => { x with calOrder := x.calOrder.put (a / 64) (a % 64 :: l) }

/-- SWEEP_BLOCK_LOAD: a block of a partition is in an array, and is compared with every context in SCAN that probes the
partition and has not been compared with it. `refBad`: a reference count lies outside the array's error. -/
def State.sweepBlock (s : State) (a slot x first rows : Nat) (dev : List Int) (refBad : Bool) : State :=
  let die := a / 64
  let digital := s.allRetired die
  let may := digital || (s.arrayState a == arrayActive && !s.srch.blocked.contains a)
  let m : Option Nat := if digital || refBad then none else some (s.getF F.srchArray_margin a)
  let mine (p : Part) : Bool :=
    let (f, n) := s.partition p.hdr x
    p.slot == slot && p.hdr.form == 1 && p.hdr.die == die && p.state == .scan && p.probes.contains x &&
      (blockStarts f n).contains first && rows == min 4096 (f + n - first) && !p.compared.contains (x, first)
  let open_ := s.srch.open_.any fun e => e.2 == some die
  if !may || !open_ then s
  else
    let parts := s.srch.parts.filter fun e => mine e.2
    let bad := refBad && !digital && !parts.isEmpty
    let s := if bad then (s.flag F.srchStatus_refMismatch { index := a }).calFirst a else s
    parts.foldl (fun s (i, p) =>
      let s := if bad then s.addF F.srchRefMismatchCount_count 0 1 else s
      s.compareBlock i p x first rows dev m) s

/-- SWEEP_BLOCK_LOAD. -/
def execSweepBlockLoad (array shardSlot partition firstRow rows : Nat) (dev : List Int) (refBad : Bool) (s : State) :
    Host.Outcome State Fault Refusal :=
  withUnit (s.code.hasArray array) (.next (s.sweepBlock array shardSlot partition firstRow rows dev refBad).finish)

/-! ### Calibration (R373, R374) -/

/-- ARRAY_CALIBRATE: the array that is next in its die's order is calibrated, one at a time. -/
def State.calibrate (s : State) (a : Nat) : State :=
  let die := a / 64
  let l := s.srch.calOrder.get die [0]
  let busy := (List.range 64).any fun i => s.arrayState (64 * die + i) == arrayCalibrating
  if busy ∨ l.head? ≠ some (a % 64) then s
  else
    let next := if l.length ≤ 1 then [(a % 64 + 1) % 64] else l.tail
    (s.onSrch fun x => { x with calOrder := x.calOrder.put die next }).setF F.srchArray_state a arrayCalibrating

/-- ARRAY_CALIBRATE. -/
def execArrayCalibrate (array : Nat) (s : State) : Host.Outcome State Fault Refusal :=
  withUnit (s.code.hasArray array) (.next (s.calibrate array))

/-- ARRAY_TEMP_STEP: an array that has moved by more than TEMP_STEP takes no new compare and goes first. -/
def State.arrayTemp (s : State) (a temp : Nat) : State :=
  let s := s.setF F.srchArray_temp a temp
  let t := s.getF F.srchArray_temp a
  let cal := (s.srch.calAt.get a (0, 0)).2
  if s.act F.srchCal_tempStep < max t cal - min t cal then
    (s.onSrch fun x => { x with blocked := if x.blocked.contains a then x.blocked else x.blocked ++ [a] }).calFirst a
  else s

/-- ARRAY_TEMP_STEP. -/
def execArrayTempStep (array temp : Nat) (s : State) : Host.Outcome State Fault Refusal :=
  withUnit (s.code.hasArray array) (.next (s.arrayTemp array temp))

/-- ARRAY_CALIBRATION_END: the margin is e + 1; above 3 the array is RETIRED, and what MARGIN shows then is open. -/
def State.calibrated (s : State) (a e : Nat) : State :=
  if s.arrayState a ≠ arrayCalibrating then s
  else
    let s := s.setF F.srchArray_error a (min e 15)
    let s := s.onSrch fun x => { x with
      blocked := x.blocked.filter (· != a), calAt := x.calAt.put a (s.stime, s.getF F.srchArray_temp a) }
    if e + 1 ≤ 3 then (s.setF F.srchArray_margin a (e + 1)).setF F.srchArray_state a arrayActive
    else
      let (v, s) := s.fresh
      ((s.setF F.srchArray_margin a (v.toNat % 4)).setF F.srchArray_state a arrayRetired).flag F.srchStatus_arrayRetired
        { index := a, dieType := 3, die := a / 64 }

/-- ARRAY_CALIBRATION_END. -/
def execArrayCalibrationEnd (array e : Nat) (s : State) : Host.Outcome State Fault Refusal :=
  withUnit (s.code.hasArray array) (.next (s.calibrated array e))

/-! ### Shard commands (R359, R362, R363, R408 to R410) -/

/-- The own STORE offset that SRCH_SHARD_ADDR or SRCH_SHARD_TOMB names, with the low bits that must be zero (R408). -/
def State.shardOffset (s : State) (w : Word) (low : Nat) : Option Nat :=
  if saClass w = 0 ∧ !saReserved w ∧ BitVec.ofNat 9 (saDevice w) = s.device ∧ saOffset w % low = 0 then some (saOffset w) else none

/-- The shard that the registers name, if it may be loaded: the header, or the code the command ends with. -/
def State.shardChecked (s : State) (slot dieBit : Nat) : ShardHdr ⊕ Code :=
  let tomb := s.reg (F.srchShardTomb_all.off 0)
  match s.shardOffset (s.reg (F.srchShardAddr_all.off 0)) 262144,
      (if tomb = 0 then some none else (s.shardOffset tomb 64).map some) with
  | some base, some tomb =>
    let die := if s.code.queryDies.1 = 2 then dieBit else 0
    let owner := (s.homeRec (base / granuleBytes)).owner
    let h := s.readHeader base tomb die owner
    if s.offReady base 64 = .poison ∨ (h.form ≠ 3 ∧ s.offReady (base + h.dir) (8 * h.parts) = .poison) then .inr .poison
    else if s.storeSize < base + 64 ∨ s.headerBad slot h then .inr .malformed
    else if !s.servesForm h.form then .inr .absent
    else .inl h
  | _, _ => .inr .malformed

/-- LOAD into an EMPTY slot, or REPLACE. -/
def State.shardInstall (s : State) (i dieBit : Nat) : Code × State :=
  match s.shardChecked i dieBit with
  | .inr code => (code, s)
  | .inl h =>
    match s.holdBlocks h.tenant h.heldBlocks with
    | none => (.quota, s)
    | some s =>
      let v : ShardSlot := match s.shardSlot i with
        | none => { gen := 0, cur := h, degraded := false, heldBlocks := h.heldBlocks, olds := [] }
        | some v => { gen := v.gen + 1, cur := h, degraded := false, heldBlocks := h.heldBlocks,
                      olds := v.olds ++ [(v.gen, v.cur.tenant, v.heldBlocks)] }
      (.done, (s.setShardSlot i v).dropOlds)

/-- UNLOAD. -/
def State.shardRemove (s : State) (i : Nat) : Code × State :=
  match s.shardSlot i with
  | none => (.done, s)
  | some v =>
    if s.srch.parts.any fun p => p.2.slot == i then (.retry, s)
    else (.done, (s.releaseBlocks v.cur.tenant v.heldBlocks).onSrch fun x => { x with slots := x.slots.del i })

/-- A write of SRCH_SHARD_CMD. A reserved OP ends with a code that the manual leaves open (assumption 24). -/
def State.shardCommand (s : State) (w : Word) : State :=
  let off := F.srchShardCmd_op.off 0
  let (w, s) := s.cleanWrite off w
  let s := s.writeReg off w
  let op := s.getF F.srchShardCmd_op
  let i := s.getF F.srchShardCmd_slot
  if op = 0 then s
  else
    let (code, s) : Nat × State :=
      if op = 1 then
        if (s.shardSlot i).isSome then (Code.retry.num, s)
        else
          let (c, s) := s.shardInstall i (s.getF F.srchShardCmd_die)
          (c.num, s)
      else if op = 2 then
        let (c, s) := s.shardRemove i
        (c.num, s)
      else if op = 3 then
        let (c, s) := s.shardInstall i (s.getF F.srchShardCmd_die)
        (c.num, s)
      else
        let (v, s) := s.fresh
        (v.toNat % 256, s)
    s.setF F.srchShardCmd_code 0 code

/-- SHARD_LOAD. -/
def execShardLoad (w : Word) (s : State) : Host.Outcome State Fault Refusal := .next (s.shardCommand (putBits w 8 3 1)).finish
/-- SHARD_UNLOAD. -/
def execShardUnload (w : Word) (s : State) : Host.Outcome State Fault Refusal := .next (s.shardCommand (putBits w 8 3 2)).finish
/-- SHARD_REPLACE. -/
def execShardReplace (w : Word) (s : State) : Host.Outcome State Fault Refusal := .next (s.shardCommand (putBits w 8 3 3)).finish

end Sys2Proof.Machine
end

