-- ==== Sys2Proof/Machine/Link.lean ====
section
/-! DEFINITION. Withy links: training, keepalive, flits and their replay, the handshake, keys (R414 to R433, R638 to R641,
R471). -/
namespace Sys2Proof.Machine

/-! ### Ports and their states (R426) -/

/-- LNK_STATE values (R426). -/
def lkDown : Nat := 0
/-- TRAINING. -/
def lkTraining : Nat := 1
/-- AUTH. -/
def lkAuth : Nat := 2
/-- ACTIVE. -/
def lkActive : Nat := 3
/-- KEEPALIVE. -/
def lkKeepalive : Nat := 4
/-- QUARANTINED. -/
def lkQuarantined : Nat := 5
/-- DISABLED. -/
def lkDisabled : Nat := 6

/-- Set the state. -/
def State.setLink (s : State) (p st : Nat) : State := s.setF F.lnkState_state p st

/-- What a fault record of a port says. -/
def portNote (p : Nat) : Note := { index := p, dieType := 2, die := p / 4 }

/-- A bit of LNK_STATUS[p]. -/
def State.linkFlag (s : State) (f : Fld) (p : Nat) : State := s.flag f (portNote p) p

/-- Packets queued at a port that no longer carries any move to another candidate, in their order; a tree's copies and
those with no candidate are discarded (R449). -/
def State.reroute (s : State) (p : Nat) : State :=
  let q := s.port p
  let s := q.slices.foldl (fun s e => s.owe e.2 e.1) s
  q.outq.foldl (fun s x =>
    if x.mcast && x.uni.isNone then s.dropPacket
    else match s.pickPort x.cls x.target none with
      | some port => s.enqueue port x
      | none => s.dropPacket) (s.setPort p { s.port p with outq := [], slices := [] })

/-- The session of a port is over: sequence numbers, the replay buffer, credits and keys go. A new session begins with all
credits, so nothing is owed for packets that came in before. -/
def State.endSessionOf (s : State) (p : Nat) : State :=
  let s := s.onFab fun x => { x with ports := x.ports.map fun e => (e.1, { e.2 with slices := e.2.slices.filter fun y => y.2 != p }) }
  let q := s.port p
  s.setPort p { Port.fresh with
    partner := q.partner, partnerPort := q.partnerPort, client := q.client, mapped := q.mapped, outq := q.outq, slices := q.slices,
    rrTenant := q.rrTenant, holdoff := q.holdoff, authTimes := q.authTimes, tagFails := q.tagFails }

/-- A port goes to a state that carries no packet; one that left ACTIVE for DOWN says so. -/
def State.linkGone (s : State) (p st : Nat) : State :=
  let q := s.port p
  let was := s.portLive p || (s.linkState p == lkTraining && q.fromActive)
  let s := ((s.endSessionOf p).setLink p st).setF F.lnkCtl_retrain p 0
  let s := if st = lkQuarantined then s else s.setF F.lnkState_width p 0
  let s := if was && st == lkDown then s.linkFlag F.lnkStatus_down p else s
  s.reroute p

/-! ### Flits (R421 to R425) -/

/-- Flits in a port's replay buffer. -/
def Port.replayFlits (q : Port) : Nat := (q.replay.map (·.flits)).sum

/-- A CTRL flit leaves, with the credits that are owed; in KEEPALIVE it has ACK_SEQ and NAK only (R425). -/
def State.sendCtrl (s : State) (p : Nat) (nak : Bool) : State :=
  let q := s.port p
  let live := s.linkState p == lkActive
  let credits := if live then q.owed else []
  let s := if live then s.setPort p { q with owed := List.replicate 8 0 } else s
  (s.sendFlits p 1 none).emit (.ctrl p ((q.rxSeq + 65535) % 65536) nak credits)

/-- Send `n` CTRL flits while the replay buffer has room. -/
def State.sendCtrls (s : State) (p : Nat) : Nat → State
  | 0 => s
  | n + 1 => if (s.port p).replayFlits < 512 then (s.sendCtrl p false).sendCtrls p n else s

/-- Training starts again from ACTIVE or KEEPALIVE: a retrain (R416). -/
def State.retrain (s : State) (p : Nat) : State :=
  let s := s.setPort p { s.port p with trainStep := 1, fromActive := true }
  (s.setLink p lkTraining).addF F.lnkReplayCount_retrains p 1

/-- A flit, or for a tag failure its group, is discarded: NAK; eight for one sequence number retrain the port, and more
than three tag failures in a second quarantine it (R423, R424). -/
def State.flitFails (s : State) (p : Nat) (tag : Bool) : State :=
  let q := s.port p
  let naks := if q.nakSeq = q.rxSeq then q.naks + 1 else 1
  let fails := if tag then (q.tagFails.filter fun t => decide (s.stime.toNat < t.toNat + 1000000000)) ++ [s.stime] else q.tagFails
  let s := s.setPort p { q with naks := naks, nakSeq := q.rxSeq, tagFails := fails }
  if tag && decide (3 < fails.length) then (s.linkFlag F.lnkStatus_tagFail p).linkGone p lkQuarantined
  else
    let s := s.sendCtrl p true
    if 8 ≤ naks then
      let s := s.setPort p { s.port p with naks := 0 }
      (s.linkFlag F.lnkStatus_retrained p).retrain p
    else s

/-- A DATA or CTRL flit arrives: discarded in AUTH and QUARANTINED (R427); checked in ACTIVE and KEEPALIVE (R423). -/
def State.flitIn (s : State) (p : Nat) (check : FlitCheck) (k : State → State) : State :=
  if s.linkState p = lkAuth ∨ s.linkState p = lkQuarantined then s.linkFlag F.lnkStatus_unauthDiscard p
  else if !s.portLive p then s
  else match check with
    | .ok corrected =>
      let q := s.port p
      let s := s.setPort p { q with rxSeq := (q.rxSeq + 1) % 65536, naks := 0 }
      k (s.addF F.lnkFecCount_corrected p corrected)
    | .crc => s.flitFails p false
    | .codeword => (s.addF F.lnkFecCount_uncorrected p 1).flitFails p false
    | .tag => s.flitFails p true

/-- A CTRL flit's content: acknowledged frames leave the replay buffer, a NAK sends the rest again byte for byte, credits
come back (R423, R425, R441). -/
def State.takeCtrl (s : State) (p : Nat) (ack : BitVec 16) (nak : Bool) (credits : List Nat) : State :=
  let q := s.port p
  let left := q.replay.filter fun f => !decide ((ack.toNat + 65536 - (f.seq + f.flits - 1) % 65536) % 65536 < 32768)
  let back := if s.linkState p = lkActive then q.credits.zipIdx.map fun (c, v) => c + credits.getD v 0 else q.credits
  let s := s.setPort p { q with replay := left, credits := back }
  let s := if nak then
      left.foldl (fun s f => match f.packet with
        | some x => s.emit (.packet p x)
        | none => s) (s.addF F.lnkReplayCount_replays p 1)
    else s
  s.drain ((s.port p).outq.length + 1) p

/-- A burst of a sleeping partner's port arrives and checks (R665). -/
def State.burstHeard (s : State) (p : Nat) : State :=
  let d := (s.port p).partner
  if s.pwr.asleep.contains d then s.onMap fun m => { m with heard := (m.heard.filter fun e => e.1 != d) ++ [(d, s.stime)] } else s

/-- CTRL. -/
def execFlitCtrl (port : Nat) (check : FlitCheck) (ackSeq : BitVec 16) (nak : Bool) (credits : List Nat) (s : State) :
    Host.Outcome State Fault Refusal :=
  withUnit (s.code.hasPort port) (.next (s.flitIn port check fun s => (s.takeCtrl port ackSeq nak credits).burstHeard port))

/-- CTRL_FILL_TIMER: with nothing to send, the group is filled with CTRL flits (R422). -/
def execCtrlFillTimer (port : Nat) (s : State) : Host.Outcome State Fault Refusal :=
  withUnit (s.code.hasPort port) (.next
    (if s.linkState port = lkActive then s.sendCtrls port (8 - (s.port port).txFlits % 8) else s))

/-! ### Keepalive (R417, R658) -/

/-- A port enters KEEPALIVE. -/
def State.toKeepalive (s : State) (p : Nat) : State := if s.linkState p = lkActive then s.setLink p lkKeepalive else s

/-- KEEPALIVE_ENTRY: the port allows it, and no packet has crossed it for LINK_IDLE_US. -/
def execKeepaliveEntry (port : Nat) (s : State) : Host.Outcome State Fault Refusal :=
  withUnit (s.code.hasPort port) (.next
    (if s.getF F.lnkCtl_keepaliveOk port = 1 ∧ (s.port port).outq = [] then s.toKeepalive port else s))

/-- KEEPALIVE_BURST_TIMER: 16 CTRL flits on lane 0. -/
def execKeepaliveBurstTimer (port : Nat) (s : State) : Host.Outcome State Fault Refusal :=
  withUnit (s.code.hasPort port) (.next (if s.linkState port = lkKeepalive then s.sendCtrls port 16 else s))

/-- A port leaves KEEPALIVE for ACTIVE, and what waited is sent. -/
def State.keepaliveOver (s : State) (p : Nat) : State :=
  if s.linkState p = lkKeepalive then
    let s := s.setLink p lkActive
    s.drain ((s.port p).outq.length + 1) p
  else s

/-- KEEPALIVE_EXIT. -/
def execKeepaliveExit (port : Nat) (s : State) : Host.Outcome State Fault Refusal :=
  withUnit (s.code.hasPort port) (.next (s.keepaliveOver port))

/-! ### The handshake (R428 to R433, R638) -/

/-- HELLO with a fresh nonce; the port takes part in handshakes only while an accepted image is held (R428). -/
def State.authBegin (s : State) (p : Nat) : State :=
  if s.weave.running.isNone then s
  else
    let n := Config.nonce s.free
    let s : State := { s with free := s.free + 1 }
    (s.setPort p { s.port p with hs := { Handshake.fresh with sentHello := true } }).emit (.hello p n)

/-- Step 5 of training, or a hold-off's end: AUTH. -/
def State.enterAuth (s : State) (p : Nat) : State :=
  (((s.endSessionOf p).setLink p lkAuth).setF F.lnkCtl_retrain p 0).authBegin p

/-- A handshake failed: one bit, QUARANTINED, and a hold-off that doubles up to 64 s (R431, R432). `tell`: FAIL is sent. -/
def State.handshakeFails (s : State) (p : Nat) (mismatch tell : Bool) : State :=
  let s := if tell then s.emit (.authFail p) else s
  let s := s.linkFlag (if mismatch then F.lnkStatus_partnerMismatch else F.lnkStatus_authFail) p
  let fails := s.getF F.lnkState_quarFails p
  let s := s.linkGone p lkQuarantined
  let s := s.addF F.lnkState_quarFails p 1
  s.setPort p { s.port p with holdoff := min 64000 (s.act F.lnkQuarHoldoff_holdoffMs * 2 ^ min fails 16) }

/-- Both DONEs are in: ACTIVE; inside ACTIVE, the new keys at epoch 0 (R430, R641). -/
def State.enterActive (s : State) (p : Nat) : State :=
  let q := s.port p
  let share := q.hs.share.getD 0
  let s := (s.setF F.lnkState_keyEpoch p 0).setF F.lnkState_quarFails p 0
  if s.portLive p then
    s.setPort p { q with hs := .fresh, rxEpoch := 0, peerShare := share, txFlits := 0, rekeyTo := none, holdoff := 0 }
  else
    let s := s.setPort p { q with
      hs := .fresh, rxEpoch := 0, peerShare := share, txFlits := 0, rekeyTo := none, holdoff := 0, txSeq := 0, rxSeq := 0,
      replay := [], credits := List.replicate 8 256, owed := List.replicate 8 0 }
    let s := (((s.setF F.lnkState_partner p (if q.client.isSome then 0 else q.partner.toNat)).setF F.lnkState_partnerPort p
      q.partnerPort).setF F.lnkState_client p q.client.isSome.toNat).setLink p lkActive
    s.drain (q.outq.length + 1) p

/-- An AUTH message arrives: at most 16 a second are taken (R431); `k` runs in AUTH, and in ACTIVE or KEEPALIVE for a
handshake or a REKEY inside the session. -/
def State.authIn (s : State) (p : Nat) (k : State → State) : State :=
  let q := s.port p
  let recent := q.authTimes.filter fun t => decide (s.stime.toNat < t.toNat + 1000000000)
  if 16 ≤ recent.length then s.setPort p { q with authTimes := recent }
  else
    let s := s.setPort p { q with authTimes := recent ++ [s.stime] }
    if s.linkState p = lkAuth ∨ s.portLive p then k s else s

/-- Is a handshake under way at the port? -/
def State.shaking (s : State) (p : Nat) : Bool := (s.port p).hs.sentHello

/-- HELLO: the partner's nonce; the own chain follows. Inside ACTIVE it begins a handshake here too (R641). -/
def State.takeHello (s : State) (p : Nat) (nonce : BitVec 256) : State :=
  let s := if s.portLive p && !s.shaking p then s.authBegin p else s
  if s.shaking p && (s.port p).hs.nonce.isNone then
    let q := s.port p
    (s.setPort p { q with hs := { q.hs with nonce := some nonce } }).emit (.cert p)
  else s

/-- HELLO. -/
def execHello (port : Nat) (nonce : BitVec 256) (s : State) : Host.Outcome State Fault Refusal :=
  withUnit (s.code.hasPort port) (.next (s.authIn port fun s => s.takeHello port nonce))

/-- CERT: the chain is verified; the own PROOF follows with a fresh share. -/
def State.takeCert (s : State) (p : Nat) (c : CertFacts) : State :=
  let q := s.port p
  if !s.shaking p then s
  else
    let s := s.addF F.secPkCount_public 0 c.certs
    if q.hs.nonce.isNone ∨ !c.chainOk ∨ c.revoked then s.handshakeFails p false true
    else
      let share := Config.nonce s.free
      let s : State := { s with free := s.free + 1 }
      let s := s.setPort p { q with hs := { q.hs with cert := some c }, ownShare := share }
      (s.addF F.secPkCount_private 0 1).emit (.proof p share)

/-- CERT. -/
def execCert (port : Nat) (c : CertFacts) (s : State) : Host.Outcome State Fault Refusal :=
  withUnit (s.code.hasPort port) (.next (s.authIn port fun s => s.takeCert port c))

/-- Is the certificate's device the partner that the port map names, or an accelerator's on a client port (R430)? -/
def Port.namesPartner (q : Port) (c : CertFacts) : Bool :=
  q.mapped && (if q.client.isSome then c.accelerator else !c.accelerator && c.device == q.partner)

/-- PROOF: its signature, then the partner's name; the own DONE follows. -/
def State.takeProof (s : State) (p : Nat) (sigOk : Bool) (share : BitVec 256) : State :=
  let q := s.port p
  if !s.shaking p then s
  else
    let s := (s.addF F.secPkCount_public 0 1).addF F.secPkCount_private 0 1
    match q.hs.cert with
    | none => s.handshakeFails p false true
    | some c =>
      if !sigOk then s.handshakeFails p false true
      else if !q.namesPartner c then s.handshakeFails p true true
      else
        let s := s.setPort p { q with hs := { q.hs with share := some share, doneOut := true } }
        let s := s.emit (.authDone p)
        if q.hs.doneIn then s.enterActive p else s

/-- PROOF. -/
def execProof (port : Nat) (sigOk : Bool) (share : BitVec 256) (s : State) : Host.Outcome State Fault Refusal :=
  withUnit (s.code.hasPort port) (.next (s.authIn port fun s => s.takeProof port sigOk share))

/-- DONE: its HMAC over the handshake. -/
def State.takeDone (s : State) (p : Nat) (hmacOk : Bool) : State :=
  let q := s.port p
  if !s.shaking p then s
  else if !hmacOk ∨ q.hs.share.isNone then s.handshakeFails p false true
  else
    let s := s.setPort p { q with hs := { q.hs with doneIn := true } }
    if q.hs.doneOut then s.enterActive p else s

/-- DONE. -/
def execAuthDone (port : Nat) (hmacOk : Bool) (s : State) : Host.Outcome State Fault Refusal :=
  withUnit (s.code.hasPort port) (.next (s.authIn port fun s => s.takeDone port hmacOk))

/-- AUTH_FAIL: the partner ends the handshake. -/
def execAuthFail (port : Nat) (s : State) : Host.Outcome State Fault Refusal :=
  withUnit (s.code.hasPort port) (.next (s.authIn port fun s => if s.shaking port then s.handshakeFails port false false else s))

/-- AUTH_TIMEOUT: the handshake has not ended in DONE from both sides. -/
def execAuthTimeout (port : Nat) (s : State) : Host.Outcome State Fault Refusal :=
  withUnit (s.code.hasPort port) (.next (if s.shaking port then s.handshakeFails port false true else s))

/-- QUARANTINE_HOLDOFF_EXPIRY: a new handshake. -/
def execQuarantineHoldoffExpiry (port : Nat) (s : State) : Host.Outcome State Fault Refusal :=
  withUnit (s.code.hasPort port) (.next (if s.linkState port = lkQuarantined then s.enterAuth port else s))

/-! ### Rekeying (R433, R641) -/

/-- REKEY: the receiver derives the key of the new epoch. -/
def execRekey (port : Nat) (epoch : BitVec 15) (s : State) : Host.Outcome State Fault Refusal :=
  withUnit (s.code.hasPort port) (.next (s.authIn port fun s =>
    if s.portLive port then s.setPort port { s.port port with rxEpoch := epoch.toNat } else s))

/-- The transmitter rekeys its direction; past epoch 32,767 a full handshake runs inside ACTIVE. -/
def State.rekeyOut (s : State) (p : Nat) : State :=
  if !s.portLive p then s
  else
    let e := s.getF F.lnkState_keyEpoch p + 1
    if 32767 < e then (if s.shaking p then s else s.authBegin p)
    else (s.setPort p { s.port p with rekeyTo := some e }).emit (.rekey p e)

/-- REKEY_THRESHOLD. -/
def execRekeyThreshold (port : Nat) (s : State) : Host.Outcome State Fault Refusal :=
  withUnit (s.code.hasPort port) (.next (s.rekeyOut port))

/-! ### Training (R415, R416) -/

/-- LINK_SIGNAL_DETECT: signal on at least 4 lanes. -/
def execLinkSignalDetect (port lanes : Nat) (s : State) : Host.Outcome State Fault Refusal :=
  withUnit (s.code.hasPort port) (.next
    (if s.linkState port = lkDown ∧ s.getF F.lnkCtl_enable port = 1 ∧ 4 ≤ lanes then
      (s.setPort port { s.port port with trainStep := 1, fromActive := false, signalLanes := lanes }).setLink port lkTraining
    else s))

/-- The width that the usable lanes give (R415). -/
def trainedWidth (lanes : BitVec 8) (wideOnly : Bool) : Option Nat :=
  if lanes = 0xFF then some 8
  else if !wideOnly && (lanes &&& 0x0F == 0x0F || lanes &&& 0xF0 == 0xF0) then some 4
  else none

/-- LINK_TRAIN_STEP_DONE: step 3 fixes the width; after step 4 the port enters AUTH, or resumes ACTIVE with the same
session. -/
def State.trainStepDone (s : State) (p : Nat) (lanes : BitVec 8) (same : Bool) : State :=
  let q := s.port p
  if s.linkState p ≠ lkTraining then s
  else if q.trainStep = 2 then
    match trainedWidth lanes (s.getF F.lnkCtl_minWidth p == 1) with
    | none => s.linkGone p lkDown
    | some w =>
      let s := (s.setPort p { q with trainStep := 3 }).setF F.lnkState_width p w
      if w = 4 then s.linkFlag F.lnkStatus_widthDegraded p else s
  else if q.trainStep < 3 then s.setPort p { q with trainStep := q.trainStep + 1 }
  else
    let s := (s.setPort p { q with trainStep := 4 }).setF F.lnkCtl_retrain p 0
    if q.fromActive && same then
      let s := (s.setPort p { s.port p with fromActive := false }).setLink p lkActive
      s.drain (q.outq.length + 1) p
    else if q.fromActive then ((s.linkGone p lkAuth).setF F.lnkState_width p (s.getF F.lnkState_width p)).authBegin p
    else s.enterAuth p

/-- LINK_TRAIN_STEP_DONE. -/
def execLinkTrainStepDone (port : Nat) (lanes : BitVec 8) (sameSession : Bool) (s : State) : Host.Outcome State Fault Refusal :=
  withUnit (s.code.hasPort port) (.next (s.trainStepDone port lanes sameSession))

/-- LINK_TRAIN_TIMEOUT: back to step 1. -/
def execLinkTrainTimeout (port : Nat) (s : State) : Host.Outcome State Fault Refusal :=
  withUnit (s.code.hasPort port) (.next (if s.linkState port = lkTraining then s.linkGone port lkDown else s))

/-! ### LNK_CTL (R471, R475) -/

/-- A write of LNK_CTL[p]. RETRAIN and REAUTH act in ACTIVE and KEEPALIVE; elsewhere what they read is open (R467). -/
def State.lnkCtlWrite (s : State) (p : Nat) (v : Word) : State :=
  let off := F.lnkCtl_enable.off p
  let (v, s) := s.cleanWrite off v
  let s := s.writeReg off (v &&& 7#64)
  let s :=
    if fieldOf v 0 1 = 0 then (if s.linkState p = lkDisabled then s else s.linkGone p lkDisabled)
    else if s.linkState p = lkDisabled then s.setLink p lkDown
    else s
  let s :=
    if fieldOf v 3 1 = 1 then
      if s.portLive p then (s.setF F.lnkCtl_retrain p 1).retrain p
      else
        let (w, s) := s.fresh
        s.setF F.lnkCtl_retrain p (w.toNat % 2)
    else s
  if fieldOf v 4 1 = 1 then
    if s.portLive p then (s.setF F.lnkCtl_reauth p 1).rekeyOut p
    else
      let (w, s) := s.fresh
      s.setF F.lnkCtl_reauth p (w.toNat % 2)
  else s

/-- LNK_ENABLE_WRITE. -/
def execLnkEnableWrite (port : Nat) (v : Word) (s : State) : Host.Outcome State Fault Refusal :=
  withUnit (s.code.hasPort port) (.next (s.lnkCtlWrite port v))

/-- LNK_CTL[p] as it reads, with one W1S bit set and the other clear. -/
def State.lnkCtlBit (s : State) (p bit : Nat) : Word := (s.reg (F.lnkCtl_enable.off p) &&& 7#64) ||| BitVec.ofNat 64 (2 ^ bit)

/-- LINK_RETRAIN. -/
def execLinkRetrain (port : Nat) (s : State) : Host.Outcome State Fault Refusal :=
  withUnit (s.code.hasPort port) (.next (s.lnkCtlWrite port (s.lnkCtlBit port 3)))

/-- LINK_REAUTH. -/
def execLinkReauth (port : Nat) (s : State) : Host.Outcome State Fault Refusal :=
  withUnit (s.code.hasPort port) (.next (s.lnkCtlWrite port (s.lnkCtlBit port 4)))

/-! ### PORT_DOWN (R446, R449) -/

/-- PORT_DOWN: queued packets move or go; packets cut off in transit at this input leave with STOMP set. -/
def State.portDown (s : State) (p : Nat) (cut : List Packet) : State :=
  let cuts := s.getF F.swcFwd_cut p
  let s := s.linkGone p lkDown
  (cut.filter fun x => cuts.testBit x.cls && !x.mcast && (s.port p).client.isNone).foldl (fun s x =>
    ((s.addF F.swcStompCount_count 0 1).flag F.swcStatus_stomp).unicastOut { x with stomp := true }) s

/-- PORT_DOWN. -/
def execPortDown (port : Nat) (cut : List Packet) (s : State) : Host.Outcome State Fault Refusal :=
  withUnit (s.code.hasPort port) (.next (if s.linkState port = lkDisabled then s else (s.portDown port cut).finish))

end Sys2Proof.Machine
end

