-- ==== Sys2Proof/Machine/Svc.lean ====
section
/-! DEFINITION. The commands of the inference service: aperture lines, the admission round of a ring, completion
records, degraded marks; and what the boundary applies of the held lines (R301 to R356). -/
namespace Sys2Proof.Machine

/-! ### The aperture (R302 to R308) -/

/-- A control line is written: accepted when CONSUMED fits and every byte beyond CONSUMED and ACK bits 2:0 is zero (R306,
R308). -/
def State.controlWrite (s : State) (t : Tenant) (l : Line) : State :=
  if s.apLines t = 0 then s.apAbsent t
  else
    let a := s.aperture t
    let consumed := dfield l 0 0 32
    let ack := dfield l 4 0 8
    if a.ringEntries < (a.produced + 2 ^ 32 - consumed) % 2 ^ 32 ∨ 8 ≤ ack ∨ (firstNonZero l (bytesFrom 5 64)).isSome then
      s.apDiscard t 0
    else
      let s := s.setAperture t { a with consumed := consumed }
      let clear (s : State) (bit c : Nat) : State :=
        if ack.testBit bit then s.onSvc fun x => { x with latched := unlatch c (oneTenant t) x.latched } else s
      clear (clear (clear s 0 2) 1 4) 2 7

/-- The tenant's live contexts on this device. -/
def State.liveOf (s : State) (t : Tenant) : Nat := s.svc.ctxs.countP fun e => e.2.live && e.2.tenant == t

/-- The tenant's HELD slots. -/
def Aperture.heldSlots (a : Aperture) : Nat := a.slots.countP fun e => e.2.held

/-- What a read of an aperture line returns (R304, R305). -/
def State.apertureData (s : State) (t : Tenant) (i : Nat) : Line :=
  let a := s.aperture t
  if i = 0 then
    BitVec.ofNat 512 (pack [(0, (s.statusWord t .done 0).toNat), (64, a.produced), (96, a.consumed), (128, a.ringEntries),
      (160, s.liveOf t % 2 ^ 13), (176, a.heldSlots), (192, a.discards)])
  else
    let v := s.slot t i
    BitVec.ofNat 512 (pack [(0, v.status.toNat), (64, v.requestId.toNat), (128, v.context), (141, v.held.toNat),
      (144, v.discards), (160, v.landWale.toNat % 2 ^ 32), (192, if v.held then 0 else v.doneWale.toNat % 2 ^ 32)])

/-- A whole-line write to an aperture (R303, R309): the control line, a search command, or a held command. -/
def State.apertureWrite (s : State) (t : Tenant) (i : Nat) (l : Line) (dead : Bool) : State :=
  let opc := lineOpc l
  if i = 0 then s.controlWrite t l
  else if opc = 0x10 then s.landQuery t i l dead
  else if opc = 0x11 then s.landQcancel t i l
  else if opc = 1 then s.landWith t i l (s.startCheck t l)
  else if opc = 2 ∨ opc = 3 ∨ opc = 4 then s.landWith t i l (otherCheck l)
  else s.landWith t i l (some 0)

/-- START. -/
def execStartTurn (tenant : Tenant) (slot : Nat) (line : Line) (s : State) : Host.Outcome State Fault Refusal :=
  .next (s.apertureWrite tenant slot line false).finish
/-- CANCEL. -/
def execCancel (tenant : Tenant) (slot : Nat) (line : Line) (s : State) : Host.Outcome State Fault Refusal :=
  .next (s.apertureWrite tenant slot line false).finish
/-- DROP. -/
def execDrop (tenant : Tenant) (slot : Nat) (line : Line) (s : State) : Host.Outcome State Fault Refusal :=
  .next (s.apertureWrite tenant slot line false).finish
/-- RING. -/
def execRing (tenant : Tenant) (slot : Nat) (line : Line) (s : State) : Host.Outcome State Fault Refusal :=
  .next (s.apertureWrite tenant slot line false).finish
/-- QUERY. -/
def execQuery (tenant : Tenant) (slot : Nat) (line : Line) (readDead : Bool) (s : State) : Host.Outcome State Fault Refusal :=
  .next (s.apertureWrite tenant slot line readDead).finish
/-- QCANCEL. -/
def execQcancel (tenant : Tenant) (slot : Nat) (line : Line) (s : State) : Host.Outcome State Fault Refusal :=
  .next (s.apertureWrite tenant slot line false).finish

/-- CONTROL_LINE_WRITE. -/
def execControlLineWrite (tenant : Tenant) (line : Line) (s : State) : Host.Outcome State Fault Refusal :=
  .next (s.controlWrite tenant line)

/-- APERTURE_PARTIAL_WRITE: discarded and counted (R302). -/
def execAperturePartialWrite (tenant : Tenant) (slot : Nat) (s : State) : Host.Outcome State Fault Refusal :=
  .next (if s.apLines tenant ≤ slot then s.apAbsent tenant else s.apDiscard tenant slot)

/-- A whole-line read of an aperture line (R302, R304, R305). -/
def State.apertureRead (s : State) (t : Tenant) (i : Nat) : State :=
  if s.apLines t ≤ i then s.apAbsent t else s.emit (.aperture t i (s.apertureData t i))

/-- APERTURE_READ. -/
def execApertureRead (tenant : Tenant) (slot : Nat) (s : State) : Host.Outcome State Fault Refusal :=
  .next (s.apertureRead tenant slot)

/-- ATTENTION_LAPSE: classes 2, 4 and 7 lapse at the 64th boundary for a tenant with no aperture (R308). -/
def State.lapse (s : State) (t : Tenant) : State :=
  if s.apLines t ≠ 0 then s
  else s.onSvc fun x => { x with latched := (x.latched.map fun e =>
    if e.2.1.toNat + 64 ≤ s.wale.toNat then (e.1, e.2.1, e.2.2 &&& ~~~oneTenant t) else e).filter fun e => e.2.2 != 0 }

/-- ATTENTION_LAPSE. -/
def execAttentionLapse (tenant : Tenant) (s : State) : Host.Outcome State Fault Refusal := .next (s.lapse tenant)

/-! ### The admission of a ring (R315, R316) -/

/-- A request of a ring owner. -/
def sameAsk (m : ReserveMsg) (owner : DevNo) (t : Tenant) (r : Word) : Bool := m.owner == owner && m.tenant == t && m.request == r

/-- RESERVE: the peer checks the KV region, and grants while the reservation fits. -/
def State.takeReserve (s : State) (m : ReserveMsg) : State :=
  let reply (s : State) (code : Code) : State := s.sendMsg m.owner 1 m.tenant (.grant m.tenant m.request code) true
  if s.mode ≠ .service ∧ s.mode ≠ .rest ∨ devRing m.owner ≠ devRing s.device then s
  else match s.kvFails m.tenant m.kvAddr (segments m.bound * s.segBytes m.model) with
    | some code => reply s code
    | none =>
      let (r0, r1) := s.reserveFrames m.model m.cls m.bound
      match s.reserve m.tenant r0 r1 with
      | none => reply s .quota
      | some (resv, s) => reply (s.onSvc fun x => { x with grants := x.grants ++ [(m, resv)] }) .done

/-- RESERVE. -/
def execReserve (m : ReserveMsg) (s : State) : Host.Outcome State Fault Refusal := .next (s.takeReserve m).finish

/-- The slot of a ring candidate that waits for its peers. -/
def State.askedSlot (s : State) (t : Tenant) (r : Word) : Option Nat :=
  ((s.heldWith t 1).find? fun e => e.2.asked && e.2.requestId == r).map (·.1)

/-- A context is mirrored, and the commit of step 8 of R271 repeated: for one that the ring's answers bind after it. -/
def State.mirrorBound (s : State) (t : Tenant) (r : Word) : State :=
  match s.svc.ctxs.find? fun e => e.2.live && e.2.tenant == t && e.2.requestId == r with
  | none => s
  | some (n, c) => (s.sendMirror (s.leaseEpoch 2 r) (.ctx n c)).sendMirror 0 (.boundary s.wale)

/-- GRANT: once all peers have granted, the candidate is bound and COMMIT goes out; a refusal withdraws it, as does an answer that
comes after the boundary sequence's 20 us (R271, R316). -/
def State.takeGrant (s : State) (peer : DevNo) (t : Tenant) (r : Word) (code : Code) : State :=
  match s.askedSlot t r with
  | none => s
  | some i =>
    let v := s.slot t i
    if s.sched.start.toNat + 20000 < s.stime.toNat then (s.unask t i).cancelPeers t r
    else if code = .done then
      let granted := v.granted.filter (· != peer) ++ [peer]
      let s := s.setSlot t i { v with granted := granted }
      if !(s.ringPeers.all granted.contains) then s
      else
        let s := s.bindCtx t i
        if (s.slot t i).held then (s.unask t i).cancelPeers t r
        else (s.ringPeers.foldl (fun s p => s.sendMsg p 1 t (.commit t r v.prompt) true) s).mirrorBound t r
    else if code = .absent ∨ code = .denied ∨ code = .revoked then (s.slotEnd t i code 4).cancelPeers t r
    else ((s.unask t i).cancelPeers t r).holdOrQuota t i

/-- GRANT. -/
def execGrant (peer : DevNo) (tenant : Tenant) (request : Word) (code : Code) (s : State) : Host.Outcome State Fault Refusal :=
  .next (s.takeGrant peer tenant request code).finish

/-- The peer's share of a turn. -/
def shareCtx (m : ReserveMsg) (resv : Option Nat) (tokens : List (BitVec 32)) (wale : Wale) (order : Nat) : Ctx :=
  { state := if tokens.length = 1 then .decode else .prefill, tenant := m.tenant, model := m.model, cls := m.cls,
    ringSlot := m.ringSlot, resumed := m.resumed, index := m.index, owner := m.owner, requestId := m.request, seed := 0,
    prompt := tokens, promptAddr := 0, promptDone := 0, maxNew := 0, kvAddr := m.kvAddr, pos := m.kvTokens,
    bound := m.bound, last := tokens.headD 0, emit := 0, topK := m.topK, topP := m.topP, temp := m.temp, greedy := m.greedy, stop := 0,
    keep := m.keep, stamp := 0, deadlineUs := 0, admitWale := wale, order := order, pendingTok := [], sampled := [], salt := 0,
    stalledFrom := .decode, ending := none, ended := false, suppress := 0, resv := resv, sealedSegs := m.kvTokens / 2048 }

/-- COMMIT: the peer binds its share. -/
def State.takeCommit (s : State) (owner : DevNo) (t : Tenant) (r : Word) (tokens : List (BitVec 32)) : State :=
  match s.svc.grants.find? fun g => sameAsk g.1 owner t r with
  | none => s
  | some (m, resv) =>
    let c := shareCtx m resv tokens s.wale s.svc.nextOrder
    let s := s.onSvc fun x => { x with
      grants := x.grants.filter fun g => !sameAsk g.1 owner t r, shares := x.shares ++ [c], nextOrder := x.nextOrder + 1 }
    s.attachRegion c

/-- COMMIT. -/
def execCommit (owner : DevNo) (tenant : Tenant) (request : Word) (tokens : List (BitVec 32)) (s : State) :
    Host.Outcome State Fault Refusal :=
  .next (s.takeCommit owner tenant request tokens).finish

/-- Release a reservation, if one was made. -/
def State.dropResv (s : State) : Option Nat → State
  | some r => s.releaseResv r
  | none => s

/-- RESERVE_CANCEL: the grant is released; a share that is bound ends with it (assumption 16). The owner's adopter acts for it. -/
def State.takeReserveCancel (s : State) (owner : DevNo) (t : Tenant) (r : Word) : State :=
  let gs := s.svc.grants.filter fun g => sameAsk g.1 owner t r
  let acts (d : DevNo) : Bool := d == owner || ((s.fateOf d).map fun f => f.taker == owner).getD false
  let same (c : Ctx) : Bool := acts c.owner && c.tenant == t && c.requestId == r
  let cs := s.svc.shares.filter same
  let s := s.onSvc fun x => { x with
    grants := x.grants.filter fun g => !sameAsk g.1 owner t r, shares := x.shares.filter fun c => !same c }
  let s := gs.foldl (fun s g => s.dropResv g.2) s
  cs.foldl (fun s c =>
    let s := if c.keep then s else s.freeRegion t c.model c.kvAddr c.pos
    s.dropResv c.resv) s

/-- RESERVE_CANCEL. -/
def execReserveCancel (owner : DevNo) (tenant : Tenant) (request : Word) (s : State) : Host.Outcome State Fault Refusal :=
  .next (s.takeReserveCancel owner tenant request).finish

/-! ### Deadlines and records (R341 to R345) -/

/-- A deadline's window has ended at a time: held STARTs return LATE, live requests enter ENDING (R345). -/
def State.deadlines (s : State) (time : Word) (which : Tenant → Word → Bool) : State :=
  let held := s.svc.apertures.flatMap fun a => (a.2.slots.filter fun e => e.2.held && lineOpc e.2.line == 1).map fun e =>
    (BitVec.ofNat 8 a.1, e.1, e.2)
  let s := held.foldl (fun s (t, i, v) =>
    if which t v.requestId && windowOver v.stamp time (dfield v.line 0x34 0 32) then
      let s := s.slotEnd t i .late 0
      if v.asked then s.cancelPeers t v.requestId else s
    else s) s
  s.svc.ctxs.foldl (fun s e =>
    if e.2.live && which e.2.tenant e.2.requestId && windowOver e.2.stamp time e.2.deadlineUs then s.ctxEnd e.1 .late 0
    else s) s

/-- TURN_DEADLINE. -/
def execTurnDeadline (tenant : Tenant) (request : Word) (s : State) : Host.Outcome State Fault Refusal :=
  .next ((s.deadlines s.stime fun t r => t == tenant && r == request).formRecords).finish

/-- A request whose END record has landed: the KV region is freed unless KEEP, here and at the peers (R321). -/
def State.disposeKv (s : State) (c : Ctx) : State :=
  let s := if c.keep then s else s.freeRegion c.tenant c.model c.kvAddr c.pos
  if s.getF F.svcModel_ring c.model = 1 then s.cancelPeers c.tenant c.requestId else s

/-- COMPLETION_RECORD_WRITE: the first record of the context's tenant lands once its mirror is acknowledged and the ring has
room; a ring whose home answers DEAD stalls the request (R320, R341 to R343). -/
def State.recordLands (s : State) (n : Nat) (ringDead : Bool) : State :=
  match s.svc.ctxs.find? fun e => e.1 == n with
  | none => s
  | some (_, c) =>
    match s.svc.records.find? fun r => r.ring == c.ring with
    | none => s
    | some r =>
      if r.ctx ≠ n ∨ s.mode = .quarantine then s
      else if ringDead then
        let s := s.flag F.svcStatus_ringDead { tenant := c.tenant.toNat, index := n % 256 }
        if c.state = .decode then s.setCtx n { c with state := .stalled, stalledFrom := .decode } else s
      else if s.map.unacked.contains (some (c.tenant, r.seq)) then s
      else match s.ringWrite c.ring c.tenant r.seq r.line with
        | none => s
        | some s =>
          let s := (s.onSvc fun x => { x with records := x.records.erase r }).addF F.svcTokenCount_count 0 r.tokens
          let s := s.tel F.telTokens_count r.tenant.toNat r.tokens
          if r.isEnd then s.disposeKv c else s

/-- COMPLETION_RECORD_WRITE. -/
def execCompletionRecordWrite (ctx : Nat) (ringDead : Bool) (s : State) : Host.Outcome State Fault Refusal :=
  .next (s.recordLands ctx ringDead).finish

/-! ### Degraded marks (R355, R356) -/

/-- Is a block of the model's layer tables QUARANTINED? -/
def State.modelQuarantined (s : State) (m : Nat) : Bool :=
  s.tier.blocks.any fun e => e.2.state == .quarantined && (s.blockModels e.1).contains m

/-- The service's facts of a model. -/
def State.modelS (s : State) (m : Nat) : ModelS := s.svc.models.get m { clearing := false, ringLost := false }

/-- Put the service's facts of a model. -/
def State.setModelS (s : State) (m : Nat) (v : ModelS) : State := s.onSvc fun x => { x with models := x.models.put m v }

/-- A write of SVC_MODEL_CMD: CLEAR_DEGRADED waits for the boundary. A reserved OP ends with a code that the manual leaves
open (assumption 24); a write while the command runs leaves MODEL, OP and CODE open (R348). -/
def State.modelCommand (s : State) (w : Word) : State :=
  let off := F.svcModelCmd_op.off 0
  if s.getF F.svcModelCmd_busy = 1 then
    let (v, s) := s.fresh
    ((s.setF F.svcModelCmd_model 0 (v.toNat % 64)).setF F.svcModelCmd_op 0 (v.toNat / 64 % 4)).setF F.svcModelCmd_code 0
      (v.toNat / 256 % 256)
  else
    let (w, s) := s.cleanWrite off w
    let s := s.writeReg off w
    let op := s.getF F.svcModelCmd_op
    let m := s.getF F.svcModelCmd_model
    if op = 0 then s
    else if op = 1 then
      if s.getF F.svcModel_degraded m = 0 then s.setF F.svcModelCmd_code 0 Code.absent.num
      else if s.modelQuarantined m then s.setF F.svcModelCmd_code 0 Code.poison.num
      else (s.setF F.svcModelCmd_busy 0 1).setModelS m { s.modelS m with clearing := true }
    else
      let (v, s) := s.fresh
      s.setF F.svcModelCmd_code 0 (v.toNat % 256)

/-- CLEAR_DEGRADED. -/
def execClearDegraded (w : Word) (s : State) : Host.Outcome State Fault Refusal := .next (s.modelCommand (putBits w 6 2 1))

/-- The boundary clears the marks that wait for it, or refuses them. -/
def State.clearMarks (s : State) : State :=
  s.svc.models.foldl (fun s (m, v) =>
    if v.clearing then
      let s := (s.setModelS m { v with clearing := false }).setF F.svcModelCmd_busy 0 0
      if s.modelQuarantined m then s.setF F.svcModelCmd_code 0 Code.poison.num
      else (s.setF F.svcModel_degraded m 0).setF F.svcModelCmd_code 0 Code.done.num
    else s) s

/-! ### What the boundary applies (R313, R320, R333, R338) -/

/-- A held CANCEL: a held START that was stamped before it, or a live request, of its REQUEST_ID. -/
def State.applyCancel (s : State) (t : Tenant) (i : Nat) : State :=
  let v := s.slot t i
  match (s.heldWith t 1).find? fun e => e.2.requestId == v.requestId && decide (e.2.stamp.toNat ≤ v.stamp.toNat) with
  | some (j, _) => (s.slotEnd t j .aborted 1).slotEnd t i .done 3
  | none =>
    match s.svc.ctxs.find? fun e => e.2.live && e.2.tenant == t && e.2.requestId == v.requestId &&
        decide (e.2.stamp.toNat ≤ v.stamp.toNat) with
    | some (n, _) => (s.ctxEnd n .aborted 1).slotEnd t i .done 3
    | none => s.slotEnd t i .absent 5

/-- A held DROP: the blocks of the region's first tokens are freed, unless a live request uses it. -/
def State.applyDrop (s : State) (t : Tenant) (i : Nat) : State :=
  let l := (s.slot t i).line
  let m := dfield l 1 0 8
  let addr := dfield l 0x28 0 56
  let n := dfield l 0x30 0 32
  let used := s.regions.any fun c => c.live && c.tenant == t && decide (c.kvAddr < addr + segments n * s.segBytes m) &&
    decide (addr < c.kvAddr + s.regionBytes c)
  if 64 ≤ m then s.slotEnd t i .done 3
  else if used then s.slotEnd t i .retry 3 else (s.freeRegion t m addr n).slotEnd t i .done 3

/-- A held RING: the completion ring is set, unless a request or a query of the tenant still writes to the old one. -/
def State.applyRing (s : State) (t : Tenant) (i : Nat) : State :=
  let l := (s.slot t i).line
  if s.svc.ctxs.any (fun e => e.2.live && e.2.tenant == t) || s.srch.homes.any (fun e => e.2.tenant == t) then
    s.slotEnd t i .retry 2
  else
    let s := s.setAperture t { s.aperture t with
      ringBase := dfield l 0x18 0 56, ringEntries := dfield l 0x20 0 32, produced := 0, consumed := 0 }
    s.slotEnd t i .done 3

/-- Is the home of a tenant's ring reachable? -/
def State.ringReachable (s : State) (t : Tenant) : Bool :=
  match s.lookup t (s.aperture t).ringBase .store true with
  | .fails _ => false
  | .stand sa _ => let d := BitVec.ofNat 9 (saDevice sa); d == s.device || !s.unreachable d

/-- Contexts at a boundary: STALLED ones whose tokens fit again go on, and those whose END record has landed become FREE,
with the release of R100 (R320). -/
def State.boundaryCtxs (s : State) : State :=
  let s := s.svc.ctxs.foldl (fun s (n, c) =>
    if c.state = .stalled ∧ s.pendingTokens n c < 64 ∧ s.ringReachable c.tenant then s.setCtx n { c with state := c.stalledFrom }
    else s) s
  s.svc.ctxs.foldl (fun s (n, c) =>
    if c.state = .ending ∧ c.ended ∧ !(s.svc.records.any fun r => r.ctx == n) then
      (s.dropResv c.resv).onSvc fun x => { x with ctxs := x.ctxs.del n }
    else s) s

end Sys2Proof.Machine
end

