-- ==== Sys2Proof/Machine/Map.lean ====
section
/-! DEFINITION. The Thallus map at a keeper and at every device of a ring (R533 to R544, R549 to R557): beats, proposals,
votes, commits, notices, and failover. -/
namespace Sys2Proof.Machine

/-! ### Records -/

/-- Are two records about the same fate, keeper index or lease? A REQUEST lease is named by its tenant and admitting device
too (R535, R571). -/
def MapRec.same (a b : MapRec) : Bool :=
  a.kind == b.kind && (if a.kind = 1 then a.holder == b.holder
    else a.key == b.key && (a.kind != 2 || (a.tenant == b.tenant && a.origin == b.origin)))

/-- The committed record that a record is about. -/
def State.recOf (s : State) (r : MapRec) : Option MapRec := s.map.records.find? r.same

/-- Put a committed record. -/
def State.putRec (s : State) (r : MapRec) : State :=
  s.onMap fun m => { m with records := (m.records.filter fun x => !r.same x) ++ [r] }

/-- The default holder of a lease (R539): the admitting device, or the home device of the Stand Address in KEY. -/
def MapRec.defaultHolder (r : MapRec) : DevNo := if r.kind = 2 then r.origin else BitVec.ofNat 9 (saDevice r.key)

/-- The lease as it stands: until a record exists, the default holder holds it at epoch 0 (R539). -/
def State.current (s : State) (r : MapRec) : MapRec :=
  (s.recOf r).getD { r with state := 0, holder := r.defaultHolder, taker := 0, epoch := 0 }

/-- Is the record a verdict, which commits as soon as two keepers have stored it (R534): FAILED, CRUST or QUARANTINE? -/
def MapRec.verdict (r : MapRec) : Bool := r.kind == 1 && (r.state == 1 || r.state == 2 || r.state == 4)

/-- The devices of this ring but this one. -/
def State.ringOthers (s : State) : List DevNo := ((List.range 8).map (ringDev s.device)).filter (· != s.device)

/-- The latest stand time noted for a device. -/
def lastSeen (l : List (DevNo × Word)) (d : DevNo) : Nat := ((l.find? fun e => e.1 == d).map fun e => e.2.toNat).getD 0

/-- Note a device at the present stand time. -/
def State.seenNow (s : State) (l : List (DevNo × Word)) (d : DevNo) : List (DevNo × Word) :=
  (l.filter fun e => e.1 != d) ++ [(d, s.stime)]

/-! ### Ending scheduled work -/

/-- The kernels of some tracks end with no status to their requests, and the cells' flag regions of 64 KiB are zeroed (R552). -/
def State.endTracks (s : State) (which : Nat → Bool) : State :=
  let cs := s.cell.cells.filter fun e => match e.2.track with
    | some t => which t
    | none => false
  cs.foldl (fun s e =>
    let s := (s.onCellAt e.1 fun v => { v with track := none }).kernelEnd e.1 .aborted
    let b := s.flagBase e.1
    s.onCellAt e.1 fun v => { v with sram := v.sram.clear b (b + 65536) }) s

/-- The device stops its scheduled work, and writes no further record (R549, R561). -/
def State.stopWork (s : State) : State :=
  let s := s.endTracks fun _ => true
  let s := s.onSched fun x => { x with runs := x.runs.map fun e => (e.1, { e.2 with failed := true, open_ := [] }) }
  s.onSvc fun x => { x with records := [] }

/-! ### The end of a MAP command (R571) -/

/-- The command that runs ends: code, record. -/
def State.mapEnd (s : State) (code : Nat) (r : Option MapRec) : State :=
  let (st, h, t, e) := match r with
    | some r => (r.state, r.holder.toNat, r.taker.toNat, r.epoch.toNat)
    | none => (0, 0, 0, 0)
  let s := ((s.setF F.mapResult_code 0 code).setF F.mapResult_state 0 st).setF F.mapResult_holder 0 h
  let s := ((s.setF F.mapResult_taker 0 t).setF F.mapResult_epoch 0 e).setF F.mapCmd_busy 0 0
  s.onMap fun m => { m with cmd := none }

/-- A change or query has its outcome: it is awaited no longer, and a command that waits for it ends (R537, R571). -/
def State.resolved (s : State) (r : MapRec) : State :=
  let s := s.onMap fun m => { m with awaiting := m.awaiting.filter fun x => !x.same r }
  let s := if s.map.awaiting.isEmpty then s.unhold causeBoundary else s
  match s.map.cmd with
  | some c => if c.same r then s.mapEnd Code.done.num (some r) else s
  | none => s

/-! ### Contexts of a lease -/

/-- The context of a REQUEST lease at this device. -/
def State.leaseCtx (s : State) (r : MapRec) : Option (Nat × Ctx) :=
  s.svc.ctxs.find? fun e => e.2.live && e.2.requestId == r.key && e.2.tenant == r.tenant

/-- Stop acting for a request: its context leaves, and what it had formed. -/
def State.dropCtx (s : State) (n : Nat) : State :=
  s.onSvc fun x => { x with ctxs := x.ctxs.del n, records := x.records.filter fun r => r.ctx != n }

/-- Act for a request that another device held: its context is bound here. -/
def State.takeCtx (s : State) (c : Ctx) : State :=
  match s.freeCtx with
  | none => s
  | some n => (s.setCtx n { c with order := s.svc.nextOrder, resv := none }).onSvc fun x => { x with nextOrder := x.nextOrder + 1 }

/-! ### Failover (R551 to R557) -/

/-- The tenants with a REQUEST lease of a device, as this one knows them. -/
def State.leaseTenants (s : State) (d : DevNo) : BitVec 256 :=
  let ts := (s.map.records.filter fun r => r.kind == 2 && r.holder == d).map (·.tenant)
  let us := (s.regions.filter fun c => c.live && c.owner == d).map (·.tenant)
  let vs := ((s.mirrorOf d).ctxs.filter fun e => e.2.live).map fun e => e.2.tenant
  (ts ++ us ++ vs).foldl (fun m t => m ||| oneTenant t) 0

/-- Is the ring lost with a verdict (R556): the adopter is no MEMBER or adopts already, or an adopted track is named? -/
def State.losesRing (s : State) (r : MapRec) : Bool :=
  let others := s.map.records.filter fun x => x.kind == 1 && x.state != 0 && x.holder != r.holder
  r.taker == r.holder || others.any fun x => x.holder == r.taker || (x.taker == r.taker && x.state != 0)

/-- The ring is lost: every ring model's live requests that this device owns end ABORTED, and its STARTs end DEAD. -/
def State.loseRing (s : State) : State :=
  let ms := (List.range 64).filter fun m => s.getF F.svcModel_ring m == 1
  let s := ms.foldl (fun s m => s.setModelS m { s.modelS m with ringLost := true }) s
  let s := s.svc.ctxs.foldl (fun s e => if ms.contains e.2.model && !e.2.resumed then s.ctxEnd e.1 .aborted 4 else s) s
  (s.flag F.mapStatus_ringLost).formRecords

/-- The track numbers of a mask that is 0 for the whole device. -/
def maskTracks (mask : Nat) : List Nat := if mask = 0 then List.range 16 else bitsSet 16 mask

/-- The tenants whose contexts an adopter takes over: all, or those of the tracks named (R551). -/
def State.takesTenant (s : State) (mask : Nat) (t : Tenant) : Bool :=
  mask == 0 || match s.weave.running with
    | none => false
    | some w => w.predTracks.any fun p => mask.testBit p.track && p.tenant == t

/-- The records that a device mirrored in the wale: tenant, SEQ, line (R547, R552). -/
def State.openRecords (s : State) (d : DevNo) : List (Tenant × Nat × Line) :=
  s.map.mirrorOpen.filterMap fun e =>
    if e.1 = d then match e.2 with
      | .record t seq _ (l :: _) => some (t, seq, l)
      | _ => none
    else none

/-- A mirrored context as the adopter binds it: RESUMING; tokens that the wale's records carry are not delivered again (R320,
R342, R553). -/
def resumeCtx (recs : List (Tenant × Nat × Line)) (c : Ctx) : Ctx :=
  let mine := (recs.filter fun e => e.1 == c.tenant && BitVec.ofNat 64 (lineField e.2.2 64 64) == c.requestId).map fun e => e.2.2
  let done := mine.foldl (fun n l => if lineField l 173 1 = 0 then max n (lineField l 192 32 + lineField l 176 4) else n) 0
  let first := c.index - c.pendingTok.length
  { c with
    state := .resuming, stalledFrom := c.state, resumed := true, suppress := done
    pendingTok := c.pendingTok.drop (done - first), ended := c.ended || mine.any fun l => lineField l 173 1 == 1 }

/-- Steps 3 and 4 of R552 at the adopter: the mirror of B(w) is restored, its contexts are bound as RESUMING, and the wale's
records are written again, unchanged. -/
def State.restoreMirror (s : State) (d : DevNo) (mask : Nat) : State :=
  let m := s.mirrorOf d
  let recs := s.openRecords d
  let s := s.onMap fun x => { x with mirrorOpen := x.mirrorOpen.filter fun e => e.1 != d }
  let s := m.rings.foldl (fun s (t, base, n, seq) => s.onSvc fun x => { x with
    apertures := x.apertures.put (256 + t.toNat) { Aperture.fresh with produced := seq, ringBase := base, ringEntries := n } }) s
  let s := m.ctxs.foldl (fun s e => if e.2.live && s.takesTenant mask e.2.tenant then s.takeCtx (resumeCtx recs e.2) else s) s
  recs.foldl (fun s (t, seq, l) =>
    match s.svc.ctxs.find? fun e => e.2.resumed && e.2.tenant == t && e.2.requestId == BitVec.ofNat 64 (lineField l 64 64) with
    | none => s
    | some (n, _) =>
      let r : Record :=
        { ctx := n, tenant := t, ring := 256 + t.toNat, isEnd := lineField l 173 1 == 1, seq := seq, line := l,
          tokens := lineField l 176 4 }
      let a := s.ringAt (256 + t.toNat)
      let addr := a.ringBase + 64 * ((seq + 2 ^ 32 - 1) % 2 ^ 32 % max a.ringEntries 1)
      (s.onSvc fun x => { x with records := x.records ++ [r] }).sendMirror (s.leaseEpoch 2 (BitVec.ofNat 64 (lineField l 64 64)))
        (.record t seq addr [l])) s

/-- The blocks of the predecessor's weight slices that lie in this device's T2 as replicas (R105, R552). -/
def State.replicaBlocks (s : State) : List Nat :=
  match s.weave.running with
  | none => []
  | some w => w.predModels.flatMap fun m =>
    if m.replica = 0 ∨ BitVec.ofNat 9 (saDevice m.replica) ≠ s.device then []
    else (List.range ((m.layers.map fun e => e.2.blocks).sum)).map (· + saOffset m.replica / blockBytes)

/-- The leases that the adopter seizes (R551, R552): the requests it took over, and of a failed device the mirrored granules
it serves. -/
def State.seizeLeases (s : State) (d : DevNo) (state mask : Nat) : State :=
  let s := s.svc.ctxs.foldl (fun s e =>
    if e.2.resumed && e.2.owner == d then
      let r := { MapRec.blank 2 s.device 0 e.2.requestId with tenant := e.2.tenant, origin := d }
      s.propose opSeize { r with epoch := (s.current r).epoch }
    else s) s
  if state = 1 ∧ mask = 0 then
    let gs := ((s.mirrorOf d).frames.map fun b => b * blockBytes / granuleBytes).eraseDups
    gs.foldl (fun s g =>
      let r := { MapRec.blank 3 s.device 0 (saStore d (g * granuleBytes)) with count := 1 }
      s.propose opSeize { r with epoch := (s.current r).epoch }) s
  else s

/-- A verdict that loses no ring: step 2 of R552 everywhere, steps 3 to 5 at the adopter. -/
def State.failOver (s : State) (r : MapRec) : State :=
  let d := r.holder
  let mask := fieldOf r.key 9 16
  let mine := decide (r.taker = s.device)
  let s := s.onMap fun m => { m with
    failover := some { dev := d, tracks := mask, adopter := mine, rehearsal := r.rehearsal, wale := s.wale } }
  let s := s.endTracks fun t => s.ringTrack t
  let anew (e : Nat × TrackRun) : Nat × TrackRun :=
    if s.ringTrack e.1 then (e.1, { e.2 with next := 0, open_ := [], ended := false, served := [] }) else e
  let s := s.onSched fun x => { x with runs := x.runs.map anew, sentReady := false }
  if mine then
    let s := (s.onMap fun m => { m with adopted := some d }).flag F.mapStatus_adopting
    let s := s.restoreMirror d mask
    let s := s.replicaBlocks.foldl (fun s b => if (s.blk b).state = .sealed then s.fillPromote b else s) s
    s.seizeLeases d r.state mask
  else s

/-- Adoption ends as the device is a MEMBER again: the adopted tracks stop, what is left of its requests goes (R562). -/
def State.endAdoption (s : State) : State :=
  let s := s.endTracks fun t => decide (16 ≤ t)
  let s := s.onSched fun x => { x with
    tracks := x.tracks.filter fun e => e.1 < 16, runs := x.runs.filter fun e => e.1 < 16,
    templates := x.templates.filter fun e => e.1 < 65536 }
  let s := s.svc.ctxs.foldl (fun s e => if e.2.resumed then s.dropCtx e.1 else s) s
  let s := s.onSvc fun x => { x with apertures := x.apertures.filter fun e => e.1 < 256 }
  s.onMap fun m => { m with adopted := none, current := false, failover := none }

/-! ### Notices (R537, R544) -/

/-- MAP_FATE[x] shows a device's fate (R574). -/
def State.showFate (s : State) (r : MapRec) (adopted : Bool) : State :=
  if devRing r.holder ≠ devRing s.device then s
  else
    s.setReg (F.mapFate_state.off (devX r.holder)) (BitVec.ofNat 64 (pack [(0, r.state % 8), (3, r.rehearsal.toNat),
      (4, if r.state = 0 then 0 else devX r.taker), (7, adopted.toNat), (8, fieldOf r.key 9 16)]))

/-- The replacement of a keeper: the MEMBER device of lowest x that is no keeper (R538). -/
def State.pickKeeper (s : State) : Option DevNo :=
  ((List.range 8).map (ringDev s.device)).find? fun d => s.inStand d && (s.fateOf d).isNone && !s.keepers.contains d

/-- A keeper that is still one sends the partition to the replacement, as class 3 traffic. -/
def State.replaceKeeper (s : State) (gone : DevNo) : State :=
  match s.keepers.zipIdx.find? fun e => e.1 == gone with
  | none => s
  | some (_, i) =>
    if !s.isKeeper ∨ gone = s.device then s
    else match s.pickKeeper with
      | none => s
      | some d =>
        let s := s.onMap fun m => { m with newKeeper := some (i, d), copying := true }
        s.map.records.foldl (fun s r => s.sendMsg d 3 0 (.notice r)) s

/-- Offers that a verdict resolves (R543): one by or to the judged device is cancelled, and a lease that its taker had not yet
mirrored returns to the giver. -/
def State.resolveOffers (s : State) (d : DevNo) : State :=
  let s := s.onMap fun m => { m with
    records := updWhere (fun r => r.kind != 1 && r.state == 1 && (r.holder == d || r.taker == d))
      (fun r => { r with state := 0, taker := 0 }) m.records
    proposals := m.proposals.filter fun p => !(p.op == opAccept && (p.src == d || p.rec_.holder == d)) }
  let back := s.map.handovers.filter fun h => h.giver && h.accepted && h.other == d
  let s := back.foldl (fun s h => match s.map.records.find? fun r => BitVec.ofNat 8 r.kind == h.kind && r.key == h.key with
    | none => s
    | some r => s.propose opReturn { r with holder := s.device, taker := 0, state := 0 }) s
  s.onMap fun m => { m with handovers := m.handovers.filter fun h => h.other != d || (h.giver && h.accepted) }

/-- A device's fate has changed. -/
def State.takeFate (s : State) (r : MapRec) : State :=
  let d := r.holder
  if r.state = 0 then
    let s := s.showFate r false
    let s := s.onMap fun m => { m with failedNamed := m.failedNamed.filter fun e => e.1 != d, heard := s.seenNow m.heard d }
    let s := if s.map.adopted = some d then s.endAdoption else s
    let s := if r.rehearsal then s.setF F.mapRehearse_active 0 0 else s
    if d = s.device ∧ s.mode = .repair then s.onMap fun m => { m with repairStep := 8 } else s
  else if r.state = 3 then
    let s := s.showFate r true
    if d = s.device then ((if s.mode = .weaving then s.noteStart else s).setMode .repair).onMap fun m => { m with repairStep := 3 } else s
  else
    let lost := s.losesRing r
    let s := (s.showFate r (!lost)).flag F.mapStatus_verdict { index := devX d }
    let s := (s.addF F.mapVerdictCount_count 0 1).latch 2 (s.leaseTenants d)
    let s := (s.resolveOffers d).replaceKeeper d
    if r.state = 4 then (if d = s.device then s.setMode .quarantine else s)
    else if d = s.device then
      if r.rehearsal ∧ s.mode = .quarantine then (s.setMode .repair).onMap fun m => { m with repairStep := 4 } else s
    else if lost then s.loseRing
    else s.failOver r

/-- A keeper index has a new device (R538). -/
def State.takeKeeper (s : State) (r : MapRec) : State :=
  let i := r.key.toNat % 4
  let f := if i = 0 then F.mapRole_keeper0X else if i = 1 then F.mapRole_keeper1X else F.mapRole_keeper2X
  let s := (s.setF f 0 (devX r.taker)).flag F.mapStatus_keeperChange { index := i }
  if r.taker = s.device then (s.setF F.mapRole_keeper 0 1).setF F.mapRole_index 0 i
  else if s.isKeeper ∧ s.getF F.mapRole_index = i then s.setF F.mapRole_keeper 0 0
  else s

/-- The lines of a region that hold anything: of the own store, or of the mirror of the device that is its home. -/
def State.regionLines (s : State) (r : MapRec) : List (Nat × Line) :=
  let d := r.defaultHolder
  let m := if d = s.device then s.mem else (s.mirrorOf d).mem
  let lo := saOffset r.key
  (((m.slice lo (lo + max r.count 1 * granuleBytes)).map fun e => e.1 / 64).eraseDups).map fun i => (lo + 64 * i, m.line (lo + 64 * i))

/-- The giver's class 3 transfer of a lease's state to its taker (step 2 of R541). -/
def State.sendLease (s : State) (r : MapRec) : State :=
  let s := s.sendMsg r.taker 3 0 (.state r.kind r.key)
  let s := if r.kind = 3 then
      (s.regionLines r).foldl (fun s e => s.sendMsg r.taker 3 0 (.mirror r.epoch (.lines e.1 [e.2] (BitVec.allOnes 64)))) s
    else s
  match (if r.kind = 2 then s.leaseCtx r else none) with
  | some (n, c) => s.sendMsg r.taker 3 0 (.mirror r.epoch (.ctx n c))
  | none => s

/-- A context as its new holder binds it: one that comes back from an adopter to the device that admitted it uses that device's
completion ring again, and its records go on to carry RESUMED 1 (R553, R562). -/
def State.homeward (s : State) (c : Ctx) : Ctx :=
  if c.resumed ∧ c.owner = s.device then { c with resumed := false, wasResumed := true } else c

/-- The context of a REQUEST lease as its giver sent it last. -/
def State.sentCtx (s : State) (giver : DevNo) (r : MapRec) : Option Ctx :=
  let mine (c : Ctx) : Bool := c.requestId == r.key && c.tenant == r.tenant
  let sent := s.map.mirrorOpen.filterMap fun e => if e.1 = giver then match e.2 with
      | .ctx _ c => if mine c then some c else none
      | _ => none
    else none
  match sent.getLast? with
  | some c => some c
  | none => ((s.mirrorOf giver).ctxs.find? fun e => mine e.2).map (·.2)

/-- A lease's record has changed (R541 to R544). -/
def State.takeLease (s : State) (r : MapRec) : State :=
  let k := BitVec.ofNat 8 r.kind
  let mine (h : Handover) : Bool := h.kind == k && h.key == r.key
  let h := s.map.handovers.find? mine
  let others := s.map.handovers.filter fun h => !mine h
  if r.state = 1 then
    let e : Handover := { kind := k, key := r.key, other := 0, giver := false, offered := r.commitWale, accepted := false, kept := none }
    if r.holder = s.device then
      let s := s.onMap fun m => { m with handovers := others ++ [{ e with other := r.taker, giver := true }] }
      s.sendLease r
    else if r.taker = s.device then s.onMap fun m => { m with handovers := others ++ [{ e with other := r.holder }] }
    else s
  else if r.holder = s.device then
    match h with
    | some h =>
      let s := s.onMap fun m => { m with handovers := others }
      match h.kept with
      | some (n, c) => s.setCtx n c
      | none =>
        if h.giver ∨ r.kind ≠ 2 then s
        else match s.sentCtx h.other r with
          | some c => s.takeCtx (s.homeward c)
          | none => s
    | none => s
  else
    let c := if r.kind = 2 then s.leaseCtx r else none
    let s := match c with
      | some (n, c) => (s.dropCtx n).sendMsg r.holder 3 0 (.mirror r.epoch (.ctx n c))
      | none => s
    match h with
    | some h =>
      if h.giver then s.onMap fun m => { m with handovers := others ++ [{ h with accepted := true, kept := c }] }
      else s.onMap fun m => { m with handovers := others }
    | none => s

/-- Leases that this device holds for one it has adopted. -/
def State.seizedLeases (s : State) (d : DevNo) : List MapRec :=
  s.map.records.filter fun r => r.holder == s.device && ((r.kind == 2 && r.origin == d) || ((r.kind == 3 || r.kind == 4) && r.defaultHolder == d))

/-- The device in REPAIR has every lease back: the adopter proposes that it is a MEMBER again (step 7 of R562). -/
def State.returnAll (s : State) : State :=
  match s.map.adopted with
  | none => s
  | some d => match s.fateOf d with
    | none => s
    | some f =>
      if s.map.current ∧ (f.state = 3 ∨ f.rehearsal) ∧ (s.seizedLeases d).isEmpty ∧ !(s.map.awaiting.any fun r => r.kind == 1 && r.holder == d) then
        s.propose opFate { fateRec d f.taker 0 0 false with rehearsal := f.rehearsal }
      else s

/-- A committed record reaches a device, by NOTICE, by ANSWER, or at the keeper itself; one with an older epoch is discarded
(R537, R540, R544). -/
def State.takeRecord (s : State) (r : MapRec) : State :=
  let old := s.recOf r
  if (old.map fun o => decide (r.epoch < o.epoch)).getD false then
    s.flag F.mapStatus_epochDiscard { index := r.kind, arg := r.key }
  else if old = some r then s.resolved r
  else
    let s := (s.putRec r).resolved r
    if r.kind = 1 then s.takeFate r else if r.kind = 5 then s.takeKeeper r else (s.takeLease r).returnAll

/-! ### Keepers (R534 to R540, R550) -/

/-- The keepers whose fate is MEMBER. -/
def State.liveKeepers (s : State) : List DevNo := s.keepers.filter fun d => (s.fateOf d).isNone

/-- A record commits (R534, R537): the count, NOTICE to its holder, its taker and its proposer (a fate or a keeper change to
the whole ring), and what it means here. -/
def State.commitRec (s : State) (p : Proposal) : State :=
  let r := { p.rec_ with commitWale := s.wale }
  let dest := if r.kind = 1 ∨ r.kind = 5 then s.ringOthers
    else ([r.holder, r.taker, p.src].filter fun d => d != s.device && devRing d == devRing s.device).eraseDups
  let s := s.onMap fun m => { m with proposals := m.proposals.filter fun q => q.rec_ != p.rec_ }
  let s := s.addF F.mapCommitCount_count 0 1
  let s := dest.foldl (fun s d => s.sendMsg d 0 0 (.notice r)) s
  s.takeRecord r

/-- Have two keepers that are MEMBER stored or voted the change (R534, R538)? -/
def State.twoKeepers (s : State) (p : Proposal) : Bool := decide (2 ≤ (p.stored.filter s.liveKeepers.contains).length)

/-- A verdict that two keepers have stored or voted commits at once. -/
def State.settleVerdict (s : State) (r : MapRec) : State :=
  match s.map.proposals.find? fun p => p.rec_ == r with
  | some p => if r.verdict && s.twoKeepers p then s.commitRec p else s
  | none => s

/-- A keeper notes that a keeper has stored or voted a change. -/
def State.noteStored (s : State) (k : DevNo) (op : Nat) (src : DevNo) (r : MapRec) : State :=
  match s.map.proposals.find? fun p => p.rec_ == r with
  | some _ => s.onMap fun m => { m with
      proposals := updWhere (fun p => p.rec_ == r) (fun p => { p with
        op := if op = 0 then p.op else op, src := if op = 0 then p.src else src
        stored := if p.stored.contains k then p.stored else p.stored ++ [k] }) m.proposals }
  | none => s.onMap fun m => { m with
      proposals := m.proposals ++ [{ op := op, src := src, rec_ := r, stored := [k], wale := s.wale }] }

/-- The record that a proposal would commit, where the proposer may make the change (R539 to R544, R552, R562). -/
def State.outcome (s : State) (op : Nat) (src : DevNo) (r : MapRec) : Option MapRec :=
  let cur := s.current r
  let moved : MapRec := { cur with holder := src, taker := 0, state := 0, epoch := cur.epoch + 1 }
  let member (d : DevNo) : Bool := match s.fateOf d with
    | none => true
    | some f => f.state == 3 || f.rehearsal
  let when (b : Bool) (x : MapRec) : Option MapRec := if b then some x else none
  if op = opCreate then when (r.kind == 2 && src == r.origin) { r with state := 0, holder := src, taker := 0, epoch := 0 }
  else if op = opOffer then
    when (cur.state == 0 && cur.holder == src && devRing src == devRing r.taker && r.taker != src && member r.taker)
      { cur with state := 1, taker := r.taker, count := r.count, tenant := r.tenant, origin := r.origin }
  else if op = opAccept then when (cur.state == 1 && cur.taker == src) moved
  else if op = opWithdraw then when (cur.state == 1 && cur.holder == src) { cur with state := 0, taker := 0 }
  else if op = opSeize then
    when (((s.fateOf cur.holder).map fun f => f.taker == src).getD false) moved
  else if op = opReturn then when ((s.fateOf cur.holder).isSome) moved
  else if op = opFate then when (r.kind == 1 || r.kind == 5) { r with epoch := cur.epoch }
  else none

/-- A keeper stores a proposal and tells the other keepers (R534). A WITHDRAW that arrives before the ACCEPT has committed wins
(R542); one that names an older epoch is discarded (R540). -/
def State.takeProposal (s : State) (op : Nat) (src : DevNo) (r : MapRec) : State :=
  if !s.isKeeper then s
  else if op ≠ opCreate ∧ op ≠ opFate ∧ r.epoch < (s.current r).epoch then
    s.flag F.mapStatus_epochDiscard { index := r.kind, arg := r.key }
  else match s.outcome op src r with
    | none => s
    | some n =>
      let withdrawn := s.map.proposals.any fun p => p.op == opWithdraw && p.rec_.same n
      if op = opAccept ∧ withdrawn then s
      else
        let s := if op = opWithdraw then s.onMap fun m => { m with
            proposals := m.proposals.filter fun p => !(p.op == opAccept && p.rec_.same n) } else s
        let s := s.noteStored s.device op src n
        let s := (s.keepers.filter (· != s.device)).foldl (fun s k => s.sendMsg k 0 0 (.stored n)) s
        s.settleVerdict n

/-- Proposals of a judged device's own and of tenant 0: a FAILED that another device asks for waits until the device has
stopped, as for a FAIL (R550, R551). -/
def State.takeFateProposal (s : State) (src : DevNo) (r : MapRec) : State :=
  if s.isKeeper ∧ r.kind = 1 ∧ r.state = 1 ∧ src ≠ r.holder then
    s.onMap fun m => { m with failedNamed := s.seenNow m.failedNamed r.holder }
  else s.takeProposal opFate src r

/-- Step 5 of R271 at a keeper: changes that two keepers have stored commit, in the order they were stored. -/
def State.commitChanges (s : State) : State :=
  if s.isKeeper then
    s.map.proposals.foldl (fun s p => if s.twoKeepers p && s.map.proposals.contains p then s.commitRec p else s) s
  else s

/-- MAP_ISOLATE_BOUND in ns. -/
def State.isolateNs (s : State) : Nat := 1000 * s.act F.mapIsolateBound_boundUs

/-- The partner of a sleeping device forwards BEAT for it while the keepalive bursts of their link arrive (R665). -/
def State.forwardBeat (s : State) : State :=
  let d := predecessorOf s.device
  let on := s.pwr.asleep.contains d && decide (s.stime.toNat < lastSeen s.map.heard d + s.isolateNs)
  let s := s.setF F.pwrState_sleepingPartner 0 on.toNat
  if on then s.keepers.foldl (fun s k => s.sendMsg k 0 0 (.beat d)) s else s

/-- BEAT_TIMER. -/
def execBeatTimer (s : State) : Host.Outcome State Fault Refusal :=
  .next (if s.mode = .sleep then s
    else (s.keepers.foldl (fun s k => s.sendMsg k 0 0 (.beat s.device)) s).forwardBeat)

/-- BEAT: a device that a FAIL has named is neither heard nor answered. -/
def State.takeBeat (s : State) (src dev : DevNo) : State :=
  if s.isKeeper && !(s.map.failedNamed.any fun e => e.1 == dev) then
    (s.onMap fun m => { m with heard := s.seenNow m.heard dev }).sendMsg src 0 0 .beatAck
  else s

/-- BEAT. -/
def execBeat (src forDev : DevNo) (s : State) : Host.Outcome State Fault Refusal := .next (s.takeBeat src forDev)

/-- BEAT_ACK. -/
def execBeatAck (keeper : DevNo) (s : State) : Host.Outcome State Fault Refusal :=
  .next (if s.keepers.contains keeper then s.onMap fun m => { m with acks := s.seenNow m.acks keeper } else s)

/-- ISOLATE_TIMEOUT: fewer than two keepers have answered within the bound. -/
def State.isolate (s : State) : State :=
  let near := s.keepers.filter fun k => decide (s.stime.toNat < lastSeen s.map.acks k + s.isolateNs)
  if near.length < 2 ∧ (s.mode = .service ∨ s.mode = .rest ∨ s.mode = .repair ∨ s.mode = .crust) then
    ((s.stopWork.onMap fun m => { m with isolated := true }).setMode .quarantine).flag F.mapStatus_isolated
  else s

/-- ISOLATE_TIMEOUT. -/
def execIsolateTimeout (s : State) : Host.Outcome State Fault Refusal := .next s.isolate.finish

/-- VOTE_TIMER: silence for the bound and 100 us, or that long since a FAIL arrived; a keeper votes FAILED (R550). -/
def State.castVote (s : State) (d : DevNo) : State :=
  let past (l : List (DevNo × Word)) : Bool := decide (lastSeen l d + s.isolateNs + 100000 ≤ s.stime.toNat)
  let named := s.map.failedNamed.any fun e => e.1 == d
  if s.isKeeper ∧ d ≠ s.device ∧ !s.pwr.asleep.contains d ∧ devRing d = devRing s.device ∧ s.fateOf d = none ∧ (past s.map.heard || (named && past s.map.failedNamed)) then
    let r := fateRec d (ringDev d (devX d + 1)) 1 0 false
    let s := (s.keepers.filter (· != s.device)).foldl (fun s k => s.sendMsg k 0 0 (.vote r)) s
    (s.noteStored s.device opFate s.device r).settleVerdict r
  else s

/-- VOTE_TIMER. -/
def execVoteTimer (dev : DevNo) (s : State) : Host.Outcome State Fault Refusal := .next (s.castVote dev).finish

/-- PROPOSE_CREATE. -/
def execProposeCreate (src : DevNo) (r : MapRec) (s : State) : Host.Outcome State Fault Refusal := .next (s.takeProposal opCreate src r)
/-- PROPOSE_OFFER. -/
def execProposeOffer (src : DevNo) (r : MapRec) (s : State) : Host.Outcome State Fault Refusal := .next (s.takeProposal opOffer src r)
/-- PROPOSE_ACCEPT. -/
def execProposeAccept (src : DevNo) (r : MapRec) (s : State) : Host.Outcome State Fault Refusal := .next (s.takeProposal opAccept src r)
/-- PROPOSE_WITHDRAW. -/
def execProposeWithdraw (src : DevNo) (r : MapRec) (s : State) : Host.Outcome State Fault Refusal := .next (s.takeProposal opWithdraw src r)
/-- PROPOSE_SEIZE. -/
def execProposeSeize (src : DevNo) (r : MapRec) (s : State) : Host.Outcome State Fault Refusal := .next (s.takeProposal opSeize src r)
/-- PROPOSE_RETURN. -/
def execProposeReturn (src : DevNo) (r : MapRec) (s : State) : Host.Outcome State Fault Refusal := .next (s.takeProposal opReturn src r)
/-- PROPOSE_FATE. -/
def execProposeFate (src : DevNo) (r : MapRec) (s : State) : Host.Outcome State Fault Refusal := .next (s.takeFateProposal src r).finish

/-- A keeper hears of another keeper's store or vote. -/
def State.hearStored (s : State) (k op : DevNo) (r : MapRec) : State :=
  if s.isKeeper ∧ s.keepers.contains k then (s.noteStored k op.toNat r.holder r).settleVerdict r else s

/-- VOTE. -/
def execVote (keeper : DevNo) (r : MapRec) (s : State) : Host.Outcome State Fault Refusal := .next (s.hearStored keeper 7 r).finish
/-- STORED. -/
def execStored (keeper : DevNo) (r : MapRec) (s : State) : Host.Outcome State Fault Refusal := .next (s.hearStored keeper 0 r).finish

/-- KEEPER_COPY_COMPLETE: the replacement becomes a keeper at the next boundary (R538). -/
def State.keeperCopied (s : State) : State :=
  match s.map.newKeeper with
  | some (i, d) =>
    if s.map.copying then
      let r := MapRec.blank 5 d d (BitVec.ofNat 64 i)
      let s := s.onMap fun m => { m with copying := false, newKeeper := none }
      s.propose opFate r |>.noteStored s.device opFate s.device r
    else s
  | none => s

/-- KEEPER_COPY_COMPLETE. -/
def execKeeperCopyComplete (s : State) : Host.Outcome State Fault Refusal := .next s.keeperCopied

/-- FAILOVER_REPLAY_START: the ring-model templates of the wale run again from their first step; the adopter runs the failed
device's too (step 6 of R552, R554). -/
def State.replayStart (s : State) : State :=
  match s.map.failover with
  | none => s
  | some f =>
    let s := s.onMap fun m => { m with failover := none }
    if !f.adopter then s
    else match s.weave.running with
      | none => s
      | some w =>
        let named := maskTracks f.tracks
        let ts := w.predTracks.filter fun t => named.contains t.track
        let run : TrackRun := { next := 0, open_ := [], ended := false, failed := false, served := [], adoptedFrom := some f.dev }
        let s := ts.foldl (fun s t => s.onSched fun x => { x with
          tracks := x.tracks.put (16 + t.track) t, runs := x.runs.put (16 + t.track) run }) s
        w.predTemplates.foldl (fun s t => if named.contains t.track then
          s.onSched fun x => { x with templates := x.templates.put (65536 + t.id) t } else s) s

/-- FAILOVER_REPLAY_START. -/
def execFailoverReplayStart (s : State) : Host.Outcome State Fault Refusal := .next s.replayStart.finish

/-- NOTICE. -/
def execNotice (r : MapRec) (s : State) : Host.Outcome State Fault Refusal := .next (s.takeRecord r).finish

/-- MAP_QUERY: a keeper answers with the committed record. -/
def State.answerQuery (s : State) (src : DevNo) (kind : BitVec 8) (key : Word) : State :=
  if s.isKeeper then
    s.sendMsg src 0 0 (.mapAnswer (s.map.records.find? fun r => r.kind == kind.toNat && r.key == key))
  else s

/-- MAP_QUERY. -/
def execMapQuery (src : DevNo) (kind : BitVec 8) (key : Word) (s : State) : Host.Outcome State Fault Refusal :=
  .next (s.answerQuery src kind key)

/-- ANSWER: the committed record, or none: then the oldest change awaited has not committed, and a LOOKUP finds nothing. -/
def State.takeMapAnswer (s : State) : Option MapRec → State
  | some r => s.takeRecord r
  | none =>
    let s := s.onMap fun m => { m with awaiting := m.awaiting.drop 1 }
    let s := if s.map.awaiting.isEmpty then s.unhold causeBoundary else s
    if s.map.cmd.isSome ∧ s.getF F.mapCmd_op = 1 then s.mapEnd Code.absent.num none else s

/-- ANSWER. -/
def execAnswer (r : Option MapRec) (s : State) : Host.Outcome State Fault Refusal := .next (s.takeMapAnswer r).finish

/-! ### FAIL (R263) -/

/-- The keepers of a device's ring, as the image names them (R533). -/
def State.keepersOf (s : State) (d : DevNo) : List DevNo :=
  match s.weave.running with
  | none => []
  | some w => ((w.keepers.find? fun k => k.ring == devRing d).map fun k => k.keepers.map (ringDev d)).getD []

/-- CHILD_SILENCE_TIMEOUT: neither READY nor HOLD by E + SCHED_READY_BOUND; FAIL goes up the tree and to the child's keepers. -/
def State.childSilent (s : State) (d : DevNo) : State :=
  let heard := s.sched.readyFrom.any (fun r => r.1 == d) || s.sched.heldFrom.contains d
  if s.sched.children.contains d ∧ !heard ∧ !s.pwr.asleep.contains d ∧ s.plannedEnd + 1000 * s.act F.schedReadyBound_boundUs ≤ s.stime.toNat then
    let m := { s.schedMsg kFail with device := d }
    let s := s.flag F.schedStatus_peerFailed { index := devX d, arg := BitVec.ofNat 64 d.toNat }
    let s := s.onSched fun x => { x with children := x.children.filter (· != d), standSize := x.standSize - 1 }
    let s := s.sendUp m
    let s := (s.keepersOf d).foldl (fun s k => s.sendMsg k 1 0 (.sched m)) s
    s.sendReady
  else s

/-- CHILD_SILENCE_TIMEOUT. -/
def execChildSilenceTimeout (child : DevNo) (s : State) : Host.Outcome State Fault Refusal := .next (s.childSilent child).finish

/-- FAIL: it passes up the tree, the time source counts the device out, and a keeper of its ring withholds BEAT_ACK (R550). -/
def State.takeFail (s : State) (m : SchedMsg) : State :=
  match s.acceptEpoch m with
  | none => s
  | some s =>
    if m.wale = s.wale + 1 then s.holdEarly m
    else
    let s := if s.isKeeper ∧ devRing m.device = devRing s.device ∧ s.fateOf m.device = none then
      s.onMap fun x => { x with failedNamed := s.seenNow x.failedNamed m.device } else s
    if s.isSource then
      (s.onSched fun x => { x with standSize := x.standSize - 1, children := x.children.filter (· != m.device) }).sendReady
    else s.sendUp m

/-- FAIL. -/
def execSchedFail (m : SchedMsg) (s : State) : Host.Outcome State Fault Refusal := .next (s.takeFail m).finish

end Sys2Proof.Machine
end

