-- ==== Sys2Proof/Machine/Recovery.lean ====
section
/-! DEFINITION. Handover, mirrors, rehearsal, the MAP commands, repair and admission (R541 to R548, R558 to R575). -/
namespace Sys2Proof.Machine

/-! ### Handover (R541 to R543) -/

/-- A lease record by kind and key, as committed. -/
def State.leaseOf (s : State) (kind : BitVec 8) (key : Word) : Option MapRec :=
  s.map.records.find? fun r => r.kind == kind.toNat && r.key == key && r.kind != 1 && r.kind != 5

/-- OFFER_EXPIRY: an OFFER with no ACCEPT within MAP_OFFER_WALES wales of its commit goes back to HELD at the next boundary. -/
def State.offerExpires (s : State) (kind : BitVec 8) (key : Word) : State :=
  match s.leaseOf kind key with
  | none => s
  | some r =>
    if s.isKeeper ∧ r.state = 1 ∧ r.commitWale.toNat + s.act F.mapOfferWales_wales ≤ s.wale.toNat then
      let n := { r with state := 0, taker := 0 }
      let s := s.flag F.mapStatus_offerExpired { index := r.kind, arg := key, tenant := r.tenant.toNat }
      let s := s.onMap fun m => { m with proposals := m.proposals.filter fun p => !(p.op == opAccept && p.rec_.same n) }
      let s := s.noteStored s.device opWithdraw r.holder n
      (s.keepers.filter (· != s.device)).foldl (fun s k => s.sendMsg k 0 0 (.stored n)) s
    else s

/-- OFFER_EXPIRY. -/
def execOfferExpiry (kind : BitVec 8) (key : Word) (s : State) : Host.Outcome State Fault Refusal := .next (s.offerExpires kind key)

/-- HANDOVER_STATE_COMPLETE: the taker holds the state and proposes ACCEPT. -/
def State.stateComplete (s : State) (kind : BitVec 8) (key : Word) : State :=
  match s.map.handovers.find? fun h => h.kind == kind && h.key == key, s.leaseOf kind key with
  | some h, some r =>
    if !h.giver ∧ !h.accepted ∧ r.state = 1 ∧ r.taker = s.device then
      let s := s.onMap fun m => { m with handovers := updWhere (fun x => x == h) (fun x => { x with accepted := true }) m.handovers }
      s.propose opAccept r
    else s
  | _, _ => s

/-- HANDOVER_STATE_COMPLETE. -/
def execHandoverStateComplete (kind : BitVec 8) (key : Word) (s : State) : Host.Outcome State Fault Refusal :=
  .next (s.stateComplete kind key)

/-- The blocks of a range of own Stand Addresses. -/
def ownBlocks (key : Word) (bytes : Nat) : List Nat := (List.range (bytes / blockBytes)).map (· + saOffset key / blockBytes)

/-- HANDOVER_RELEASE: the giver frees its copy of the state. -/
def State.releaseLease (s : State) (kind : BitVec 8) (key : Word) : State :=
  match s.map.handovers.find? fun h => h.kind == kind && h.key == key && h.giver && h.accepted with
  | none => s
  | some h =>
    let s := s.onMap fun m => { m with handovers := m.handovers.erase h }
    let own := BitVec.ofNat 9 (saDevice key) == s.device
    match h.kept with
    | some (_, c) => if c.resumed then s else s.freeRegion c.tenant c.model c.kvAddr c.pos
    | none =>
      let n := ((s.leaseOf kind key).map (·.count)).getD 1
      let bs := ownBlocks key (if kind = 4 then blockBytes else n * granuleBytes)
      if kind = 2 then s
      else if own then bs.foldl (fun s b => s.freeBlock b) s
      else
        let d := BitVec.ofNat 9 (saDevice key)
        let m := s.mirrorOf d
        s.setMirror d { m with frames := m.frames.filter fun b => !bs.contains b }

/-- HANDOVER_RELEASE. -/
def execHandoverRelease (kind : BitVec 8) (key : Word) (s : State) : Host.Outcome State Fault Refusal :=
  .next (s.releaseLease kind key).finish

/-! ### Mirrors (R545 to R548) -/

/-- The lease a mirror transfer acts on: a record's or context's request, a line's region (R540). -/
def MirrorItem.lease (src : DevNo) : MirrorItem → Option (Nat × Word)
  | .record _ _ _ (l :: _) => some (2, BitVec.ofNat 64 (lineField l 64 64))
  | .ctx _ c => some (2, c.requestId)
  | .lines off _ _ => some (3, saStore src (off / granuleBytes * granuleBytes))
  | _ => none

/-- An item becomes part of the committed mirror. -/
def Mirror.take (m : Mirror) : MirrorItem → Mirror
  | .lines off data mask => m.write off data mask
  | .record .. => m
  | .ring t base n produced => { m with rings := (m.rings.filter fun e => e.1 != t) ++ [(t, base, n, produced)] }
  | .ctx n c => { m with ctxs := (m.ctxs.filter fun e => e.1 != n) ++ if c.live then [(n, c)] else [] }
  | .extents es => { m with extents := es }
  | .homes hs => { m with homes := hs }
  | .atoms l => { m with atoms := l }
  | .boundary _ => m

/-- In REPAIR, what the adopter sends restores the device's own tables and granules (step 4 of R562, R563). -/
def State.restoreItem (s : State) : MirrorItem → State
  | .extents es => s.onXlt fun x => { x with entries := es }
  | .homes hs => s.onXlt fun x => { x with homes := hs.foldl (fun t e => t.put e.1 e.2) [] }
  | .atoms l => s.onCell fun c => { c with atomLog := l }
  | .lines off data mask => s.homeAccess { who := .device, tenant := 0, off := off, kind := .store data mask, resv := none }
  | .ring t base n produced => s.setAperture t { s.aperture t with ringBase := base, ringEntries := n, produced := produced, consumed := produced }
  | _ => s

/-- The region that a handover from a device is bringing here, where it covers a STORE offset (R541). -/
def State.regionComing (s : State) (src : DevNo) (off : Nat) : Option MapRec :=
  s.map.handovers.findSome? fun h =>
    if h.giver ∨ h.other ≠ src ∨ h.kind ≠ 3 then none
    else (s.leaseOf h.kind h.key).filter fun r =>
      decide (saOffset r.key ≤ off) && decide (off < saOffset r.key + max r.count 1 * granuleBytes)

/-- Lines of a region that comes here: into the own store at its home, elsewhere into the copy of its home's store. -/
def State.takeLines (s : State) (r : MapRec) (off : Nat) (data : List Line) (mask : Mask) : State :=
  let d := r.defaultHolder
  if d = s.device then s.homeAccess { who := .device, tenant := 0, off := off, kind := .store data mask, resv := none }
  else s.setMirror d ((s.mirrorOf d).write off data mask)

/-- The live context here of a REQUEST lease that this device holds: the giver's last state of it replaces what it sent before
(R541). -/
def State.heldCtx (s : State) (src : DevNo) (c : Ctx) : Option (Nat × Ctx) :=
  if s.map.records.any fun r => r.kind == 2 && r.key == c.requestId && r.tenant == c.tenant && r.holder == s.device && r.state == 0 then
    s.svc.ctxs.find? fun e => e.2.live && e.2.requestId == c.requestId && e.2.tenant == c.tenant && e.2.owner == c.owner &&
      (c.owner == src || c.owner == s.device)
  else none

/-- MIRROR_TRANSFER: the transfers of a wale are held apart until its boundary's step 8 commits them (R547); one with an older
epoch than the committed record is discarded (R540). -/
def State.takeMirror (s : State) (src : DevNo) (epoch : BitVec 32) (item : MirrorItem) : State :=
  let stale := match item.lease src with
    | none => false
    | some (k, key) => decide (epoch < s.leaseEpoch k key)
  if stale then s.flag F.mapStatus_epochDiscard { index := devX src }
  else
    let adopter := ((s.fateOf s.device).map fun f => f.taker == src).getD false
    let s := if s.mode = .repair ∧ adopter then s.restoreItem item else s
    match item with
    | .boundary _ =>
      let m := s.map.mirrorOpen.foldl (fun m e => if e.1 = src then m.take e.2 else m) (s.mirrorOf src)
      (s.setMirror src m).onMap fun x => { x with mirrorOpen := x.mirrorOpen.filter fun e => e.1 != src }
    | .lines off data mask =>
      match s.regionComing src off with
      | some r => s.takeLines r off data mask
      | none => s.onMap fun x => { x with mirrorOpen := x.mirrorOpen ++ [(src, .lines off data mask)] }
    | .ctx n c =>
      match s.heldCtx src c with
      | some (k, old) => s.setCtx k { s.homeward c with order := old.order, resv := old.resv }
      | none => s.onMap fun x => { x with mirrorOpen := x.mirrorOpen ++ [(src, .ctx n c)] }
    | i => s.onMap fun x => { x with mirrorOpen := x.mirrorOpen ++ [(src, i)] }

/-- MIRROR_TRANSFER. -/
def execMirrorTransfer (src : DevNo) (epoch : BitVec 32) (item : MirrorItem) (s : State) : Host.Outcome State Fault Refusal :=
  .next (s.takeMirror src epoch item).finish

/-! ### Rehearsal (R558 to R561) -/

/-- Is a stand time inside a policy's daily window: half-open, and it may wrap past midnight (R558)? -/
def Policy.daytime (p : Policy) (time : Nat) : Bool :=
  let t := time / 1000000000 % 86400
  if p.dayStart ≤ p.dayEnd then decide (p.dayStart ≤ t) && decide (t < p.dayEnd)
  else decide (p.dayStart ≤ t) || decide (t < p.dayEnd)

/-- The policies that name this ring: when two do, which one applies is open (R565). -/
def State.policy (s : State) : Option Policy × State :=
  match s.weave.running with
  | none => (none, s)
  | some w =>
    let ps := w.policies.filter fun p => p.ring == devRing s.device && p.kinds != 0
    match ps with
    | [] => (none, s)
    | [p] => (some p, s)
    | _ =>
      let (v, s) := s.fresh
      (ps[v.toNat % ps.length]?, s)

/-- The conditions of R560, the daily window apart. -/
def State.mayRehearse (s : State) : Bool :=
  s.getF F.mapRehearse_enable == 1 && decide (3 ≤ s.liveKeepers.length) &&
    ((List.range 8).all fun x => (s.fateOf (ringDev s.device x)).isNone)

/-- The block of a BLOCK_UE rehearsal: the first of layer n mod LAYERS of the first loaded ring model (R559). -/
def State.rehearsalBlock (s : State) (n : Nat) : Option Nat :=
  match s.weave.running with
  | none => none
  | some w => (w.models.find? fun m => s.getF F.svcModel_ring m.model == 1).bind fun m =>
    let die := (m.layers.head?.map (·.1)).getD 0
    let ls := m.layers.filter fun e => e.1 == die
    ls[n % max ls.length 1]?.map fun e => e.2.firstBlock

/-- The injected failure at its victim (R561); a DEVICE rehearsal waits for half the wale. -/
def State.injectHere (s : State) (kind n : Nat) : State :=
  if kind = 1 then
    match s.sched.runs.find? fun e => decide (e.1 < 16) && !e.2.failed with
    | some (t, _) => s.trackFault t true
    | none => s
  else if kind = 2 then s.portDown 0 []
  else if kind = 3 then
    match s.rehearsalBlock n with
    | some b => if (s.blk b).state = .sealed ∧ (s.blk b).t0 = .held then s.copyFailed b .t0 else s
    | none => s
  else s

/-- One rehearsal begins, or is skipped and counted (R559 to R561). -/
def State.rehearse (s : State) (kind n : Nat) (victim : DevNo) (ok : Bool) : State :=
  if !ok then s.addF F.mapRehearsalCount_skipped 0 1
  else
    let s := (s.addF F.mapRehearsalCount_run 0 1).flag F.mapStatus_rehearsal
    let s := (s.setF F.mapRehearse_active 0 1).setF F.mapRehearse_lastKind 0 (2 ^ kind)
    let s := s.onMap fun m => { m with active := some (kind, victim) }
    if victim = s.device then s.injectHere kind n else s

/-- REHEARSAL: rehearsal n of the ring's policy runs in wale ORIGIN + n × PERIOD. -/
def State.policyRehearsal (s : State) : State :=
  let (p, s) := s.policy
  match p with
  | none => s
  | some p =>
    let since := s.wale.toNat - p.origin.toNat
    if s.wale < p.origin ∨ p.period = 0 ∨ since % max p.period 1 ≠ 0 ∨ s.map.active.isSome then s
    else
      let n := since / p.period
      let kinds := bitsSet 4 p.kinds
      let kind := kinds.getD (n % kinds.length) 0
      s.rehearse kind n (ringDev s.device (n % 8)) (s.mayRehearse && p.daytime s.sched.start.toNat)

/-- REHEARSAL. -/
def execRehearsal (s : State) : Host.Outcome State Fault Refusal := .next s.policyRehearsal.finish

/-- An INJECT runs at the boundary (R572): the number of its rehearsal, which BLOCK_UE takes its layer from, is open. -/
def State.runInject (s : State) : State :=
  match s.map.injected with
  | none => s
  | some (k, d) =>
    let (v, s) := s.fresh
    (s.onMap fun m => { m with injected := none }).rehearse k v.toNat d s.mayRehearse

/-- The rehearsed state is restored (R561): the port runs again, the block is refetched, or the judged device is a MEMBER. -/
def State.rehearsalEnds (s : State) : State :=
  match s.map.active with
  | none => s
  | some (k, d) =>
    let past :=
      if k < 2 then (s.fateOf d).isNone && !(s.map.awaiting.any fun r => r.kind == 1) && s.mode != .quarantine && d != s.device ||
        (d == s.device && (s.fateOf d).isNone && s.mode == .service)
      else if d ≠ s.device then true
      else if k = 2 then s.portLive 0
      else !(s.tier.blocks.any fun e => e.2.refetch.isSome)
    if past then (s.onMap fun m => { m with active := none }).setF F.mapRehearse_active 0 0 else s

/-- REHEARSAL_DEVICE_STOP: at half the wale the victim stops, reports itself and enters QUARANTINE without a reset. -/
def State.rehearsalStop (s : State) : State :=
  if s.map.active = some (0, s.device) ∧ (s.mode = .service ∨ s.mode = .rest) ∧
      s.sched.start.toNat + s.sched.lenUs * 500 ≤ s.stime.toNat then
    (s.stopWork.setMode .quarantine).propose opFate (fateRec s.device (partnerOf s.device) 1 0 true)
  else s

/-- REHEARSAL_DEVICE_STOP. -/
def execRehearsalDeviceStop (s : State) : Host.Outcome State Fault Refusal := .next s.rehearsalStop.finish

/-! ### MAP commands (R571, R572, R575) -/

/-- A command ends with a code that the manual leaves open (assumption 24). -/
def State.mapOpen (s : State) : State :=
  let (v, s) := s.fresh
  s.mapEnd (v.toNat % 256) none

/-- The record that MAP_ARG0 and MAP_ARG1 name. -/
def State.mapArg (s : State) : MapRec :=
  let key := s.reg (F.mapArg1_key.off 0)
  let kind := s.getF F.mapArg0_kind
  { MapRec.blank kind (if kind = 1 then BitVec.ofNat 9 (fieldOf key 0 9) else 0) 0 key with
    tenant := BitVec.ofNat 8 (s.getF F.mapArg0_tenant), origin := BitVec.ofNat 9 (s.getF F.mapArg0_origin) }

/-- The device that MAP_ARG0 names. -/
def State.mapDevice (s : State) : DevNo := BitVec.ofNat 9 (s.getF F.mapArg0_device)

/-- A command waits for the outcome of a change that it proposes. -/
def State.mapPropose (s : State) (op : Nat) (r : MapRec) : State := (s.onMap fun m => { m with cmd := some r }).propose op r

/-- LOOKUP: a keeper answers itself; another device asks the keepers. -/
def State.mapLookupRun (s : State) : State :=
  let r := s.mapArg
  if s.isKeeper then
    match s.recOf r with
    | some x => s.mapEnd Code.done.num (some x)
    | none => s.mapEnd Code.absent.num none
  else
    let s := s.onMap fun m => { m with cmd := some r }
    s.keepers.foldl (fun s k => s.sendMsg k 0 0 (.mapQuery r.kind r.key)) s

/-- OFFER: the holder proposes to hand a lease to a device of its ring. Where R541 and R544 allow none, the code is open. -/
def State.mapOfferRun (s : State) : State :=
  let r := s.mapArg
  let cur := s.current r
  if (r.kind = 2 ∨ r.kind = 3 ∨ r.kind = 4) ∧ cur.holder = s.device ∧ cur.state = 0 ∧ s.mapDevice ≠ s.device ∧
      devRing s.mapDevice = devRing s.device then
    s.mapPropose opOffer { cur with taker := s.mapDevice, tenant := r.tenant, origin := r.origin, count := if r.kind = 3 then max cur.count 1 else 0 }
  else s.mapOpen

/-- WITHDRAW: the giver takes back an OFFER. -/
def State.mapWithdrawRun (s : State) : State :=
  let r := s.mapArg
  match s.recOf r with
  | none => s.mapEnd Code.absent.num none
  | some x => if x.state = 1 ∧ x.holder = s.device then s.mapPropose opWithdraw x else s.mapOpen

/-- DECLARE: FAILED for the device, once it has entered QUARANTINE: this device enters it at once, another one is no longer
answered by its keepers (R550, R551). -/
def State.declareRun (s : State) : State :=
  let d := s.mapDevice
  if devRing d ≠ devRing s.device ∨ (s.fateOf d).isSome then s.mapOpen
  else
    let s := if d = s.device then s.stopWork.setMode .quarantine else s
    s.mapPropose opFate (fateRec d (ringDev d (devX d + 1)) 1 0 false)

/-- REPAIR: the fate REPAIR of a judged device. -/
def State.repairRun (s : State) : State :=
  match s.fateOf s.mapDevice with
  | none => s.mapOpen
  | some f => s.mapPropose opFate { fateRec f.holder f.taker 3 0 false with rehearsal := f.rehearsal }

/-- INJECT: RETRY while a rehearsal is in progress. -/
def State.injectRun (s : State) : State :=
  let k := s.getF F.mapArg0_injectKind
  if s.getF F.mapRehearse_active = 1 then s.mapEnd Code.retry.num none
  else if 4 ≤ k then s.mapOpen
  else (s.onMap fun m => { m with injected := some (k, s.mapDevice) }).mapEnd Code.done.num none

/-- A write of MAP_CMD; while a command runs it is ignored (R575). -/
def State.mapCommand (s : State) (w : Word) : State :=
  if s.getF F.mapCmd_busy = 1 then s
  else
    let off := F.mapCmd_op.off 0
    let (w, s) := s.cleanWrite off w
    let s := s.writeReg off w
    let op := s.getF F.mapCmd_op
    if op = 0 then s
    else
      let s := s.setF F.mapCmd_busy 0 1
      if op = 1 then s.mapLookupRun
      else if op = 2 then s.mapOfferRun
      else if op = 3 then s.mapWithdrawRun
      else if op = 4 then s.declareRun
      else if op = 5 then s.repairRun
      else if op = 6 then s.injectRun
      else s.mapOpen

/-- MAP_LOOKUP. -/
def execMapLookup (w : Word) (s : State) : Host.Outcome State Fault Refusal := .next (s.mapCommand (putBits w 0 4 1)).finish
/-- MAP_OFFER. -/
def execMapOffer (w : Word) (s : State) : Host.Outcome State Fault Refusal := .next (s.mapCommand (putBits w 0 4 2)).finish
/-- MAP_WITHDRAW. -/
def execMapWithdraw (w : Word) (s : State) : Host.Outcome State Fault Refusal := .next (s.mapCommand (putBits w 0 4 3)).finish
/-- DECLARE. -/
def execDeclare (w : Word) (s : State) : Host.Outcome State Fault Refusal := .next (s.mapCommand (putBits w 0 4 4)).finish
/-- REPAIR. -/
def execRepair (w : Word) (s : State) : Host.Outcome State Fault Refusal := .next (s.mapCommand (putBits w 0 4 5)).finish
/-- INJECT. -/
def execInject (w : Word) (s : State) : Host.Outcome State Fault Refusal := .next (s.mapCommand (putBits w 0 4 6)).finish

/-! ### Repair and admission (R562 to R564) -/

/-- A repair fails: the fate becomes QUARANTINE, and the adopter keeps every seized lease (R564). -/
def State.repairFails (s : State) : State :=
  let f := (s.fateOf s.device).getD (fateRec s.device (partnerOf s.device) 3 0 false)
  let s := (s.onMap fun m => { m with repairStep := 0 }).flag F.mapStatus_repairFail
  (s.setMode .quarantine).propose opFate { f with state := 4 }

/-- The self-test has written every T0 and T1 frame: what lived only there is gone, sealed blocks keep their stored image
(R239, R562, R563). -/
def State.wipeFrames (s : State) : State :=
  s.tier.blocks.foldl (fun s e =>
    let b := e.1
    if (s.blk b).state = .sealed then (s.dropCopy b .t0).dropCopy b .t1
    else s.freeBlock b) s

/-- REPAIR_SELF_TEST_END: the frames hold nothing, the cells have run the test kernel, the arrays are calibrated; the adopter
is asked for the state. -/
def State.selfTestEnd (s : State) (pass : Bool) : State :=
  if s.mode ≠ .repair ∨ s.map.repairStep ≠ 3 then s
  else if !pass then s.repairFails
  else
    let s := s.wipeFrames
    let s := (List.range s.code.cells).foldl (fun s c => if s.cellRun c = runOff then (s.clearCell c).setF F.cellState_run c runIdle
      else s.clearCell c) s
    let s := s.onSrch fun x => { x with calAt := (List.range (64 * s.code.soruses)).foldl (fun t a => t.put a (s.stime, ((x.calAt.get a (0, 0)).2))) x.calAt, blocked := [] }
    let dest := ((s.fateOf s.device).map (·.taker)).getD (partnerOf s.device)
    (s.onMap fun m => { m with repairStep := 4 }).sendMsg dest 3 0 (.state 4 (BitVec.ofNat 64 s.device.toNat))

/-- REPAIR_SELF_TEST_END. -/
def execRepairSelfTestEnd (pass : Bool) (s : State) : Host.Outcome State Fault Refusal := .next (s.selfTestEnd pass).finish

/-- REPAIR_STATE_CURRENT: the repaired device reports itself current; its adopter offers it every seized lease. `lost`: the
granules outside the mirrored ones that had held live data (R563). -/
def State.stateCurrent (s : State) (lost : List Nat) : State :=
  if s.mode = .repair then
    if s.map.repairStep ≠ 4 then s
    else
      let s := lost.foldl (fun s g => s.flag F.mapStatus_granulesLost
        { addr := saStore s.device (g * granuleBytes), arg := BitVec.ofNat 64 lost.length }) s
      let dest := ((s.fateOf s.device).map (·.taker)).getD (partnerOf s.device)
      (s.onMap fun m => { m with repairStep := 7 }).sendMsg dest 3 0 (.state 7 (BitVec.ofNat 64 s.device.toNat))
  else match s.map.adopted with
    | none => s
    | some d =>
      if (s.fateOf d).any fun f => f.state == 3 || f.rehearsal then
        let s := s.onMap fun m => { m with current := true }
        ((s.seizedLeases d).foldl (fun s r => if r.state = 0 then s.propose opOffer { r with taker := d } else s) s).returnAll
      else s

/-- REPAIR_STATE_CURRENT. -/
def execRepairStateCurrent (lost : List Nat) (s : State) : Host.Outcome State Fault Refusal := .next (s.stateCurrent lost).finish

/-- REPAIR_TIMEOUT: MAP_REPAIR_BOUND covers steps 3 to 7. -/
def execRepairTimeout (s : State) : Host.Outcome State Fault Refusal :=
  .next (if s.mode = .repair ∧ 3 ≤ s.map.repairStep then s.repairFails.finish else s)

end Sys2Proof.Machine
end

