-- ==== Sys2Proof/Machine/Crust.lean ====
section
/-! DEFINITION. Entry into Crust, and what a failed die takes with it (R44, R56, R109, R664, R668 to R671). -/
namespace Sys2Proof.Machine

/-- PWR_STATE.CRUST_CAUSE keeps the first cause; of two in one 50 MHz cycle of the rhizoid, the lower (R655, R668). -/
def State.noteCause (s : State) (cause : Nat) : State :=
  let old := s.getF F.pwrState_crustCause
  if old = 0 then (s.setF F.pwrState_crustCause 0 cause).onPwr fun p => { p with causeAt := s.stime }
  else if s.stime.toNat / 20 = s.pwr.causeAt.toNat / 20 ∧ cause < old then s.setF F.pwrState_crustCause 0 cause
  else s

/-- The PWR_STATUS bit of a cause. -/
def causeBit (cause : Nat) : Option Fld :=
  if cause = 1 then some F.pwrStatus_dieFault
  else if cause = 2 then some F.pwrStatus_thermStage2
  else if cause = 4 then some F.pwrStatus_undervolt
  else none

/-- Every HELD aperture slot ends CRUST (R44). -/
def State.heldCrust (s : State) : State :=
  s.svc.apertures.foldl (fun s e => e.2.slots.foldl (fun s x =>
    if x.2.held ∧ e.1 < 256 then s.slotEnd (BitVec.ofNat 8 e.1) x.1 .crust 0 else s) s) s

/-- Every cluster's clock stops; with `rail`, VDD_CELL goes off and the PLLs with it (R654, R656). -/
def State.stopClusters (s : State) (rail : Bool := true) : State :=
  (List.range (4 * s.code.fronds)).foldl (fun s k =>
    let s := s.setF F.cellCluster_clk k 0
    if rail then s.setF F.cellCluster_pllLocked k 0 else s) s

/-- Steps 2 to 5 of R669: the mode and attention, the fate, queries and held lines. -/
def State.crustSteps (s : State) (cause : Nat) : State :=
  let s := (if s.mode = .weaving then s.noteStart else s).setMode .crust
  let s := if 2 ≤ cause ∧ cause ≤ 4 then s.latch 7 allTenants else s
  let s := s.propose opFate (fateRec s.device (partnerOf s.device) 2 0 false)
  (s.searchCrust.heldCrust).stopClusters

/-- A Crust cause (R668, R669). In SLEEP it is recorded; in QUARANTINE, and before a start has accepted an image, the mode
stays (R238, R578, R603). -/
def State.enterCrust (s : State) (cause : Nat) (n : Note := {}) : State :=
  let s := match causeBit cause with
    | some f => s.flag f n
    | none => s
  let s := s.noteCause cause
  match s.mode with
  | .crust | .quarantine | .slath => s
  | .sleep => s.onPwr fun p => { p with recorded := some (p.recorded.getD cause) }
  | .weaving => if s.weave.running.isNone then s else s.crustSteps cause
  | .service | .rest | .repair => (s.abandonSleep.stopWork).crustSteps cause

/-! ### Failed dies -/

/-- Does the frame of a block in a tier lie on a die (R23, R56)? A streamed block's T0 frame lies on its layer entry's
Frond die; other T0 blocks go over all stacks, two a die, and T1 blocks over all channels, eight a die, by block number. -/
def State.frameOn (s : State) (kind : DieKind) (die b : Nat) : Tier → Bool
  | .t0 => kind == .frond && s.t0Die b == die
  | .t1 => kind == .rand && b % (8 * s.code.rands) / 8 == die

/-- What lay on a failed die is gone: lines of LIVE blocks read POISON, copies of sealed blocks are NONE (R109, R670). -/
def State.loseFrames (s : State) (kind : DieKind) (die : Nat) : State :=
  s.tier.blocks.foldl (fun s e =>
    let b := e.1
    let v := s.blk b
    if v.state = .sealed then
      let s := if s.frameOn kind die b .t0 then s.dropCopy b .t0 else s
      if s.frameOn kind die b .t1 then s.dropCopy b .t1 else s
    else if v.state = .live ∧ s.frameOn kind die b v.liveTier then s.setBlk b { v with poison := List.range 4096 }
    else s) s

/-- The host port's link is lost (R483). -/
def State.hostDown (s : State) : State :=
  ((s.setF F.hptLink_state 0 0).setF F.hptLink_width 0 0).setF F.hptLink_rateGt 0 0

/-- The ports of a Rand die are lost: 0 to 3, or 4 to 7 (R23, R671). -/
def State.randPorts (s : State) (die : Nat) : State :=
  (List.range 4).foldl (fun s p =>
    let p := p + 4 * die
    if s.code.hasPort p then (s.portDown p []).setLink p lkDown else s) s

end Sys2Proof.Machine
end

