-- ==== Sys2Proof/Machine/ImageCheck.lean ====
section
/-! DEFINITION. The checks of a Weave image that its records decide, and how a partial image amends a full one (R53, R89,
R127, R270, R358, R598, R599, R601, R605, R606). What needs the image's bytes, another device's sections or the routes
comes with the image (`ImageFacts.bad`). -/
namespace Sys2Proof.Machine

/-- Does a list name nothing twice? -/
def noRepeat {α : Type} [BEq α] : List α → Bool
  | [] => true
  | a :: l => !l.contains a && noRepeat l

/-- DEVICE.CODE of an ordering code (R598). -/
def OrderCode.num : OrderCode → Nat
  | .oz880 => 0 | .oz440 => 1 | .oz220 => 2

/-- Check 4: the enrolled stand, and this device's ordering code. -/
def WeaveImage.standOk (w : WeaveImage) (standId : Word) (code : OrderCode) : Bool :=
  w.standId == standId && w.device.code == code.num

/-- Are a track's fields in range (R264)? -/
def TrackRec.fieldsOk (t : TrackRec) : Bool :=
  decide (t.track < 16) && t.tenant != 0 && decide (1 ≤ t.cycle.length) && decide (t.cycle.length ≤ 64)

/-- Are a template's fields in range, its last step the only END (R265, R267)? -/
def Template.fieldsOk (t : Template) : Bool :=
  decide (1 ≤ t.id) && decide (t.id ≤ 65535) && decide (t.track < 16) && decide (1 ≤ t.steps.length) &&
    decide (t.steps.length ≤ 256) && decide (50 ≤ t.minWaleUs) && decide (t.minWaleUs ≤ 100000) &&
    (t.steps.getLast?.map fun d => d.kind) == some StepKind.done && t.steps.all fun d => decide (d.die < 4) && d.argSram % 64 == 0

/-- Check 5: every field in range, and R599. -/
def WeaveImage.fieldsOk (w : WeaveImage) (device : DevNo) : Bool :=
  decide (50 ≤ w.stand.waleUs) && decide (w.stand.waleUs ≤ 100000) && noRepeat w.stand.backups &&
    decide (w.stand.backups.length ≤ 3) && noRepeat (w.keepers.map (·.ring)) &&
    (w.keepers.all fun k => decide (k.ring < 64) && k.keepers.length == 3 && noRepeat k.keepers && k.keepers.all fun x => decide (x < 8)) &&
    w.device.device == device && decide (1 ≤ w.device.ctxLimit) && decide (w.device.ctxLimit ≤ 8192) &&
    decide (w.device.storeSize ≤ 2 ^ 47) && noRepeat (w.drives.map fun d => (d.port, d.slot)) &&
    noRepeat (w.ports.map (·.port)) && (w.ports.all fun p => decide (p.port < 8) && decide (p.partnerPort < 8)) &&
    noRepeat (w.routes.map (·.dest)) &&
    (w.routes.all fun r => decide (r.cands.length ≤ 4) && noRepeat (r.cands.map (·.1)) && r.cands.all fun c => decide (c.1 < 8) && decide (c.2 < 4)) &&
    noRepeat (w.groups.map (·.group)) && noRepeat (w.tenants.map (·.tenant)) &&
    (w.tenants.all fun t => decide (t.apertureLines ≤ 4096)) && noRepeat (w.tracks.map (·.track)) && (w.tracks.all TrackRec.fieldsOk) &&
    noRepeat (w.templates.map (·.id)) && (w.templates.all Template.fieldsOk) &&
    (w.kernels.all fun k => decide (1 ≤ k.entry.id) && k.entry.codeOffset % 64 == 0 && k.entry.entry % 2 == 0 && k.entry.stackBytes % 64 == 0) &&
    noRepeat (w.models.map (·.model)) &&
    (w.models.all fun m => decide (m.model < 64) && decide (2 ≤ m.window) && decide (m.window ≤ 1024) && decide (1 ≤ m.lead) && decide (m.lead ≤ 8)) &&
    noRepeat (w.corpora.map (·.1)) &&
    w.corpora.all fun c => decide (c.1 < 64) && c.2.tenant != 0 && c.2.dim % 64 == 0 && decide (64 ≤ c.2.dim) && decide (c.2.dim ≤ 2048) &&
      decide (1 ≤ c.2.shards.length) && decide (c.2.shards.length ≤ 1024)

/-- The cells of a step, as bits of the device's cell mask. -/
def Step.bits (d : Step) : Nat := (d.cellMask % 2 ^ 32) * 2 ^ (32 * d.die)

/-- The cells the image allocates to a tenant (R598). -/
def WeaveImage.cellsOf (w : WeaveImage) (t : Tenant) : Nat := ((w.tenants.find? fun r => r.tenant == t).map (·.cells)).getD 0

/-- The tenant address range of an extent entry. -/
def Extent.range (e : Extent) : Nat × Nat := (e.tgran, e.tgran + if e.size1G then 32 else 1)

/-- R127: entries of one tenant never overlap. -/
def noOverlap : List Extent → Bool
  | [] => true
  | e :: l => (l.all fun f => f.tenant != e.tenant || decide (f.range.2 ≤ e.range.1) || decide (e.range.2 ≤ f.range.1)) && noOverlap l

/-- No bit is set in two of the masks. -/
def disjointMasks : List Nat → Bool
  | [] => true
  | m :: l => (l.all fun k => m &&& k == 0) && disjointMasks l

/-- The tenant of a template: its track's. -/
def templateTenant (ts : List TrackRec) (t : Template) : Option Tenant := (ts.find? fun r => r.track == t.track).map (·.tenant)

/-- Check 6: cells, extents, bindings, client ports, and the predecessor's cells. -/
def WeaveImage.isolated (w : WeaveImage) : Bool :=
  disjointMasks (w.tenants.map (·.cells)) && noOverlap w.extents &&
    (w.bindings.all fun b => fieldOf b.2 2 8 != 0 || fieldOf b.2 22 1 == 1) &&
    (w.ports.all fun p => !p.client || p.clientTenant != 0) &&
    w.predTemplates.all fun t => match templateTenant w.predTracks t with
      | none => true
      | some n => t.steps.all fun d => d.bits &&& w.cellsOf n == d.bits

/-- Is one layer entry well formed (R89)? -/
def LayerEntry.ok (l : LayerEntry) : Bool :=
  let chunk := l.sramBytes * (bitsSet 32 l.cellMask).length
  decide (0 < chunk) && decide (l.sramOffset + 2 * l.sramBytes ≤ 8388608) && l.blocks * blockBytes % chunk == 0 && decide (1 ≤ l.blocks)

/-- Check 7: every layer table, mixture entries apart, which are not streamed. -/
def WeaveImage.layersOk (w : WeaveImage) : Bool :=
  w.models.all fun m => m.layers.all fun e => decide (e.1 < 4) && (e.2.moe || e.2.ok)

/-- Does the list never fall? -/
def rising : List Nat → Bool
  | a :: b :: l => decide (a ≤ b) && rising (b :: l)
  | _ => true

/-- The template of a track at a position of its cycle. -/
def WeaveImage.runsAt (w : WeaveImage) (t : TrackRec) (n : Nat) : Option Template :=
  w.templates.find? fun p => p.id == t.cycle.getD (n % max t.cycle.length 1) 0

/-- The tracks' positions in a wale: every track's cycle runs from its ORIGIN. -/
def TrackRec.posAt (t : TrackRec) (n : Nat) : Nat :=
  (((n : Int) - (t.origin.toNat : Int)) % (max t.cycle.length 1 : Int)).toNat

/-- Do the shares of the templates that run in one wale stay within 256 at every resource (R270)? -/
def WeaveImage.sharesOk (w : WeaveImage) (n : Nat) : Bool :=
  let ts := w.tracks.filterMap fun t => w.runsAt t (t.posAt n)
  decide ((ts.map (·.shareT0)).sum ≤ 256) && decide ((ts.map (·.shareT1)).sum ≤ 256) && decide ((ts.map (·.shareT2)).sum ≤ 256) &&
    (List.range 8).all fun p => decide ((ts.map fun t => t.shareLink.getD p 0).sum ≤ 256)

/-- Check 8: R270 on this device's records, the kernels named, the cycles (R264). -/
def WeaveImage.templatesOk (w : WeaveImage) : Bool :=
  let perTrack := w.tracks.map fun t =>
    ((w.templates.filter fun p => p.track == t.track).flatMap fun p => p.steps.map Step.bits).foldl (· ||| ·) 0
  (w.templates.all fun p => match templateTenant w.tracks p with
    | none => false
    | some n =>
      rising (p.steps.map (·.startNs)) && (p.steps.head?.map fun d => decide (20000 ≤ d.startNs)) == some true &&
        decide (p.minWaleUs ≤ w.stand.waleUs) &&
        p.steps.all fun d => d.bits &&& w.cellsOf n == d.bits &&
          ((d.kind != .kernel && d.kind != .service) || w.kernels.any fun k => k.entry.id == d.kernel && (k.entry.anyTenant || k.entry.tenant == n))) &&
    disjointMasks perTrack &&
    (w.tracks.all fun t => t.cycle.all fun i => i == 0 || w.templates.any fun p => p.id == i && p.track == t.track) &&
    (List.range ((w.tracks.map (·.cycle.length)).foldl Nat.lcm 1)).all w.sharesOk

/-- Check 10: STORE_SIZE (R53), and every kernel's code inside the code region of the cells that may run it. -/
def WeaveImage.capacityOk (w : WeaveImage) : Bool :=
  w.device.storeSize % 33554432 == 0 && decide (w.device.storeSize ≤ 128 * 2 ^ 40) &&
    w.kernels.all fun k => w.tenants.all fun t =>
      !(k.entry.anyTenant || k.entry.tenant == t.tenant) || t.cells == 0 ||
        decide (k.entry.codeOffset + k.entry.codeBytes ≤ 1024 * (t.layout % 2048))

/-- Check 11: R358. -/
def WeaveImage.corporaOk (w : WeaveImage) : Bool :=
  w.corpora.all fun c => noRepeat c.2.shards && c.2.shards.all fun d => w.stand.rings.testBit (d.1.toNat / 8)

/-- The first failing check (R601): its number, with section and offset where the image's bytes say them. -/
def ImageFacts.failing (f : ImageFacts) (standId : Word) (code : OrderCode) (device : DevNo) (counter : Nat) :
    Option (Nat × Option (Nat × Nat)) :=
  let w := f.img
  let own : Option Nat :=
    ([ (3, decide (counter ≤ w.rollback)), (4, w.standOk standId code), (5, w.fieldsOk device), (6, w.isolated), (7, w.layersOk),
       (8, w.templatesOk), (10, w.capacityOk), (11, w.corporaOk) ].find? fun e => !e.2).map (·.1)
  match f.bad, own with
  | none, none => none
  | none, some n => some (n, none)
  | some (n, sec, off), none => some (n, some (sec, off))
  | some (n, sec, off), some m => if n ≤ m then some (n, some (sec, off)) else some (m, none)

/-- The full image as a partial image amends it: every TRACKS, KERNELS, MODELS and CORPORA section of its tenant is
replaced (R605). -/
def WeaveImage.amend (w p : WeaveImage) : WeaveImage :=
  let t := p.tenant
  let old (l : List TrackRec) (k : Nat) : Bool := l.any fun r => r.tenant == t && r.track == k
  { w with
    tracks := (w.tracks.filter fun r => r.tenant != t) ++ p.tracks
    templates := (w.templates.filter fun r => !old w.tracks r.track) ++ p.templates
    kernels := (w.kernels.filter fun k => k.entry.anyTenant || k.entry.tenant != t) ++ p.kernels
    models := (w.models.filter fun m => m.tenant != t) ++ p.models
    corpora := (w.corpora.filter fun c => c.2.tenant != t) ++ p.corpora
    takers := (w.takers.filter fun e => e.1 != t) ++ p.takers
    predTracks := (w.predTracks.filter fun r => r.tenant != t) ++ p.predTracks
    predTemplates := (w.predTemplates.filter fun r => !old w.predTracks r.track) ++ p.predTemplates
    predKernels := (w.predKernels.filter fun k => k.entry.anyTenant || k.entry.tenant != t) ++ p.predKernels
    predModels := (w.predModels.filter fun m => m.tenant != t) ++ p.predModels }

/-- What a device takes of the standing image in Crust (R603): STAND, DEVICE, FABRIC, TENANT and REVOKE. -/
def WeaveImage.crustPart (w : WeaveImage) : WeaveImage :=
  { w with
    tracks := [], templates := [], kernels := [], models := [], corpora := [], policies := [], predTracks := [],
    predTemplates := [], predKernels := [], predModels := [] }

end Sys2Proof.Machine
end

