-- ==== Sys2Proof/Machine/Weave.lean ====
section
/-! DEFINITION. Starts: what they keep, Slath, the image and its checks, the registers and tables it sets, drives and the
seal catalogue, joining and forming the stand (R576 to R591, R601 to R604, R612 to R616, R625, R626, R634). -/
namespace Sys2Proof.Machine

/-! ### What a start keeps (R581, R699, R707) -/

/-- The replay-protected region is written once (R632, R651). -/
def State.rpWrite (s : State) : State := s.addF F.secRpWrites_count 0 1

/-- The drives as this start leaves them, by serial number. -/
def State.shelved (s : State) : List Shelved :=
  let now := s.tier.drives.zipIdx.map fun (d, i) =>
    ({ serial := d.serial, cat := s.weave.cats.get i .fresh, images := (s.tier.images.filter fun e => e.2.drive == i).map (·.2) } : Shelved)
  now ++ s.weave.shelf.filter fun e => !now.any fun n => n.serial == e.serial

/-- Copy fields of another state. -/
def State.keepF (s old : State) (fs : List Fld) : State := fs.foldl (fun s f => s.setF f 0 (old.getF f)) s

/-- What identity, ownership and the pins hold over a start; T_STAGE and TEMP are the monitors' of the rhizoid domain. -/
def keptFields : List Fld :=
  [F.weaveState_active, F.weaveState_standing, F.weaveRollback_counter, F.secFwRollback_counter, F.secState_enrolled,
   F.secState_slot1, F.secOwnerId_id, F.secStandId_id, F.secRpWrites_count, F.mgtFw_active, F.mgtFw_valid, F.pwrStatus_overvolt,
   F.pwrPin_wakeLevel, F.pwrPin_wakeState, F.pwrPin_perstLevel, F.pwrPin_perstState, F.pwrPin_thermLevel, F.pwrPin_thermState,
   F.pwrInput_mv, F.pwrState_stage]

/-- The machine as a start finds it: everything else is at its reset value. A start with power held keeps what the rhizoid
domain holds too: stand time, the fault ring and its numbering, the snapshot number. -/
def State.startBase (s : State) (warm : Bool) : State :=
  let temps := s.regs.filter fun e => decide (0x10100 ≤ e.1) && decide (e.1 < 0x10180)
  let n : State := { State.reset with
    code := s.code, device := (s.sec.slot1.map (·.device)).getD 0, free := s.free, out := s.out, pending := s.pending,
    regs := temps, stime := if warm then s.stime else 0
    tier := { TierS.fresh with nextImage := s.tier.nextImage }
    sched := { SchedS.fresh with savedWale := s.sched.savedWale }
    weave := { WeaveS.fresh with
      slotA := s.weave.slotA, slotB := s.weave.slotB, slotsKnown := s.weave.slotsKnown, shelf := s.shelved,
      catSeq := s.weave.catSeq, powerGood := if warm then s.stime else 0 }
    sec := { SecS.fresh with ownerKey := s.sec.ownerKey, slot1 := s.sec.slot1, nonces := s.sec.nonces }
    pwr := { PwrS.fresh with edges := s.pwr.edges, wakeSpent := s.pwr.wakeSpent }
    mgt := { MgtS.fresh with
      flash := s.mgt.flash, fw0 := s.mgt.fw0, fw1 := s.mgt.fw1, ring := if warm then s.mgt.ring else []
      unlogged := if warm then s.mgt.unlogged else [], telSnaps := if warm then s.mgt.telSnaps else 0 } }
  let n := (n.keepF s keptFields).setF F.mgtId_device 0 n.device.toNat
  if warm then n.keepF s [F.mgtFaultSeq_seq, F.mgtFaultAck_ack] else n

/-! ### The image's registers and tables -/

/-- A bracketed register takes a whole word. -/
def State.initReg (s : State) (f : Fld) (i : Nat) (w : Word) : State :=
  let s := s.setReg (f.off i) w
  { s with inForce := s.inForce.put (f.off i) w }

/-- The DEVICE, TENANT and MODELS sections (R598): limits, apertures, classes, models, cells, extents, homes. -/
def State.loadTenants (s : State) (w : WeaveImage) : State :=
  let s := ((s.initF F.tierStoreSize_size 0 w.device.storeSize).initF F.tierMode_pool 0 w.device.pool.toNat).initF
    F.svcCtxLimit_limit 0 w.device.ctxLimit
  let s := s.setF F.tierResvUsed_t1Used 0 w.device.mirrorFrames
  let s := s.setF F.mapMirror_frames 0 w.device.mirrorFrames
  let s := w.classes.foldl (fun s e => s.initReg F.svcClass_valid e.1 e.2) s
  let s := w.tenants.foldl (fun s t =>
    let n := t.tenant.toNat
    let s := (s.initReg F.tierResvLimit_t0Limit n t.resvLimit).initF F.svcAperture_lines n t.apertureLines
    ((bitsSet 128 t.cells).filter s.code.hasCell).foldl (fun s c =>
      let s := (s.setF F.cellState_tenant c n).setF F.cellState_run c runIdle
      (s.initF F.cellLayout_codeKib c (t.layout % 2048)).initF F.cellLayout_flagBase64k c (t.layout / 2048)) s) s
  s.onXlt fun x => { x with entries := w.extents, homes := w.homes.foldl (fun t e => t.put e.1 e.2) [] }

/-- Kernels and their code, in the code region of every cell that may run them; the predecessor's first. -/
def State.loadKernels (s : State) (w : WeaveImage) : State :=
  let s := s.onCell fun c => { c with kernels := w.kernels.map (·.entry) }
  w.tenants.foldl (fun s t =>
    let ks := (w.predKernels ++ w.kernels).filter fun k => k.entry.anyTenant || k.entry.tenant == t.tenant
    ((bitsSet 128 t.cells).filter s.code.hasCell).foldl (fun s c => ks.foldl (fun s k =>
      s.onCellAt c fun v => { v with sram := v.sram.setBytes k.entry.codeOffset k.code }) s) s) s

/-- Models, their registers, and each die's layer table (R85, R87). -/
def State.loadModels (s : State) (w : WeaveImage) : State :=
  let s := w.models.foldl (fun s m =>
    (((s.initReg F.svcModel_loaded m.model m.word).initReg F.svcModelKv_layers m.model m.kv).initReg F.svcModelTok_vocab m.model
      m.tok).setF F.svcModel_degraded m.model 0) s
  (List.range s.code.fronds).foldl (fun s d =>
    match w.models.filter fun m => m.layers.any fun e => e.1 == d with
    | [] => s.onTier fun t => { t with streams := t.streams.del d }
    | m :: ms =>
      let ls := (m :: ms).flatMap fun m => m.layers.filterMap fun e => if e.1 == d then some e.2 else none
      let v : Stream := { tenant := m.tenant, layers := ls, window := m.window, lead := m.lead, layer := 0, filled := [], dealt := 0 }
      s.setStream d v) s

/-- Corpora (R357, R412). -/
def State.loadCorpora (s : State) (w : WeaveImage) : State :=
  let s := s.onSrch fun x => { x with corpora := w.corpora.foldl (fun t e => t.put e.1 e.2) [] }
  (List.range 64).foldl (fun s k =>
    match w.corpora.find? fun e => e.1 == k with
    | none => s.initReg F.srchCorpus_valid k 0
    | some (_, c) => s.initReg F.srchCorpus_valid k (BitVec.ofNat 64 (pack [(0, 1), (1, c.shared.toNat), (2, c.tenant.toNat), (10, c.group),
        (19, c.shards.length), (30, c.dim)]))) s

/-- The FABRIC section: ports, routes, groups; an enabled port waits for its partner's signal (R416, R428). -/
def State.loadFabric (s : State) (w : WeaveImage) : State :=
  let s := s.onFab fun x => { x with
    routes := w.routes.foldl (fun t r => t.put r.dest.toNat r.cands) []
    groups := w.groups.foldl (fun t g => t.put g.group
      ({ source := g.source, outputs := bitsSet 8 g.outPorts, member := g.member, members := g.members } : McastEntry)) [] }
  let s := (List.range s.code.ports).foldl (fun s p => s.setLink p lkDisabled) s
  (w.ports.filter fun p => s.code.hasPort p.port).foldl (fun s p =>
    let q : Port := { Port.fresh with
      partner := p.partner, partnerPort := p.partnerPort, client := if p.client then some p.clientTenant else none, mapped := true }
    let s := (((s.setPort p.port q).initF F.lnkCtl_enable p.port p.enable.toNat).initF F.lnkCtl_keepaliveOk p.port
      p.keepaliveOk.toNat).initF F.lnkCtl_minWidth p.port p.minWidth.toNat
    (s.initF F.swcFwd_cut p.port p.cut).setLink p.port (if p.enable then lkDown else lkDisabled)) s

/-- The time tree: children sit behind the outputs of TIME_GROUP, the parent toward the time source (R253, R294). -/
def State.loadSchedule (s : State) (w : WeaveImage) : State :=
  let source := decide (w.stand.timeSource = s.device)
  let role := if source then 1 else if w.stand.backups.contains s.device then 2 else 0
  let best := ((w.routes.find? fun r => r.dest == w.stand.timeSource).map (·.cands)).getD []
  let up := best.foldl (fun (a : Option (Nat × Nat)) c => match a with
    | none => some c
    | some b => if c.2 < b.2 ∨ (c.2 = b.2 ∧ c.1 < b.1) then some c else some b) none
  let outs := ((w.groups.find? fun g => g.group == w.stand.timeGroup).map fun g => bitsSet 8 g.outPorts).getD []
  let s := ((s.setF F.schedSync_role 0 role).setF F.schedSync_source 0 w.stand.timeSource.toNat).setF F.schedSync_parentPort 0
    ((up.map (·.1)).getD 0)
  let s := if source then (s.setF F.schedSync_locked 0 1).setF F.schedSync_errorNs 0 0 else s
  let s := s.initF F.schedWaleLen_lenUs 0 w.stand.waleUs
  s.onSched fun x => { x with
    tracks := w.tracks.foldl (fun t r => t.put r.track r) []
    templates := w.templates.foldl (fun t r => t.put r.id r) []
    children := outs.map fun p => (s.port p).partner
    parent := if source then none else up.map fun c => (s.port c.1).partner
    standMinUs := (w.templates.map (·.minWaleUs)).foldl max 50
    backups := w.stand.backups, lenUs := w.stand.waleUs }

/-- Bindings, the keepers of the ring, and whether rehearsals run (R484, R533, R570). -/
def State.loadRoles (s : State) (w : WeaveImage) : State :=
  let s := w.bindings.foldl (fun s e => s.initReg F.hptBind_state e.1 e.2) s
  let s := s.onHpt fun h => { h with ideRequired := w.ideRequired }
  let ks := ((w.keepers.find? fun k => k.ring == devRing s.device).map (·.keepers)).getD []
  let mine := (ks.zipIdx.find? fun e => e.1 == devX s.device).map (·.2)
  let s := (s.setF F.mapRole_keeper 0 mine.isSome.toNat).setF F.mapRole_index 0 (mine.getD 0)
  let s := ((s.setF F.mapRole_keeper0X 0 (ks.getD 0 0)).setF F.mapRole_keeper1X 0 (ks.getD 1 0)).setF F.mapRole_keeper2X 0 (ks.getD 2 0)
  s.initF F.mapRehearse_enable 0 (if w.policies.any fun p => p.ring == devRing s.device && p.kinds != 0 then 1 else 0)

/-- The image is accepted and runs (step 5 of R579). -/
def State.loadImage (s : State) (w : WeaveImage) (slot : Nat) (crust : Bool) : State :=
  let s := s.onWeave fun x => { x with running := some w, phase := .links, drivesLeft := List.range w.drives.length }
  let s := ((s.setF F.weaveImageId_all 0 w.imageId.toNat).setF F.weaveStandDigest_all 0 w.standDigest.toNat).setF F.weaveRollback_image 0
    w.rollback
  let s := (s.setF F.weaveState_running 0 slot).setF F.weaveState_crustImage 0 crust.toNat
  ((((((s.loadTenants w).loadKernels w).loadModels w).loadCorpora w).loadFabric w).loadSchedule w).loadRoles w

/-! ### Drives and the seal catalogue (R82, R84, R579, R585, R586) -/

/-- The T2 limit of R50, in sectors. -/
def OrderCode.t2Limit : OrderCode → Nat
  | .oz880 => 30064771072 | .oz440 => 15032385536 | .oz220 => 15032385536

/-- The listed drives that were found, in ascending (dense port, slot) order. -/
def State.listedDrives (s : State) : List DriveFacts :=
  (List.range 4).flatMap fun p => (List.range 4).filterMap fun k => s.weave.found.find? fun d => d.port == p && d.slot == k

/-- The catalogue entries of a drive that count: those whose ENTRY_CRC holds and that no COMPACT entry retires (R586). -/
def Catalogue.live (c : Catalogue) (bad : List Nat) : List CatEntry :=
  let es := (c.half0 ++ c.half1).filter fun e => !bad.contains e.seq
  let mark := es.foldl (fun (a : Option CatEntry) e =>
    if e.op = 3 then match a with
      | none => some e
      | some m => if m.seq < e.seq then some e else some m
    else a) none
  (match mark with
    | none => es
    | some m => es.filter fun e => decide (m.lba ≤ e.seq % 2 ^ 48)).filter fun e => e.op == 1 || e.op == 2

/-- The entry of highest SEQ of each block. -/
def keptEntries (es : List (Nat × CatEntry)) : List (Nat × CatEntry) :=
  (es.map fun e => e.2.block).eraseDups.filterMap fun b =>
    es.foldl (fun (a : Option (Nat × CatEntry)) e =>
      if e.2.block = b then match a with
        | none => some e
        | some m => if m.2.seq < e.2.seq then some e else some m
      else a) none

/-- A kept BIND makes its block SEALED, bound to the stored image it names. -/
def State.restoreBind (s : State) (d : Nat) (e : CatEntry) (shelf : List (Nat × Shelved)) : State :=
  let known := s.tier.images.find? fun x => x.2.drive == d && x.2.start == e.lba
  let found := (shelf.find? fun x => x.1 == d).bind fun x => x.2.images.find? fun i => i.start == e.lba
  match known, found with
  | some (k, i), _ =>
    (s.setImage k { i with refs := i.refs + 1 }).setBlk e.block { Block.fresh with state := .sealed, tenant := i.tenant, image := some k }
  | none, some i =>
    let (k, s) := s.newImage { i with drive := d, refs := 1 }
    let s := match s.drive d with
      | none => s
      | some v => (s.setDrive d { v with used := useRun e.lba e.sectors v.used }).setF F.tierT2Free_t2Free 0 (s.getF F.tierT2Free_t2Free - e.sectors)
    s.setBlk e.block { Block.fresh with state := .sealed, tenant := i.tenant, image := some k }
  | none, none => s

/-- The first layers of a model on a die that a window holds (R85). -/
def ModelRec.windowLayers (m : ModelRec) (d : Nat) : List LayerEntry :=
  ((m.layers.filterMap fun e => if e.1 == d then some e.2 else none).take m.window).filter fun l => !l.moe

/-- Step 11: the models' windows are promoted. -/
def State.promoteWindows (s : State) (ms : List ModelRec) : State :=
  if s.poolMode then s
  else ms.foldl (fun s m => (List.range s.code.fronds).foldl (fun s d => (m.windowLayers d).foldl (fun s l =>
    l.blockList.foldl (fun s b => s.joinWindow m.tenant l.packed b) s) s) s) s

/-- Steps 7 and 8 end: the drives are mapped and their catalogues read. -/
def State.mapDrives (s : State) : State :=
  let ds := s.listedDrives
  let sum := (ds.map (·.sectors)).sum
  let limit := s.code.t2Limit
  let size (u : Nat) : Nat := if sum ≤ limit then u else u * limit / sum
  let drives := ds.map fun d => ({ port := d.port, slot := d.slot, serial := d.serial, sectors := size d.sectors, lost := false, used := [] } : Drive)
  let total := (drives.map (·.sectors)).sum
  let shelf := ds.zipIdx.filterMap fun (d, i) => (s.weave.shelf.find? fun e => e.serial == d.serial).map fun e => (i, e)
  let cats := shelf.foldl (fun (t : Table Catalogue) e => t.put e.1 e.2.cat) []
  let s := s.onTier fun t => { t with drives := drives, images := [], blocks := [] }
  let s := s.onWeave fun x => { x with
    cats := cats, drivesDone := true, shelf := x.shelf.filter fun e => !ds.any fun d => d.serial == e.serial }
  let s := ((s.setF F.tierT2Cap_t2Sectors 0 total).setF F.tierT2Cap_drives 0 drives.length).setF F.tierT2Free_t2Free 0 total
  let entries := shelf.flatMap fun e => (e.2.cat.live ((ds[e.1]?.map (·.badEntries)).getD [])).map fun c => (e.1, c)
  let s := (keptEntries entries).foldl (fun s e => if e.2.op = 1 then s.restoreBind e.1 e.2 shelf else s) s
  match s.weave.running with
  | none => s
  | some w => if s.mode = .crust then s else s.promoteWindows w.models

/-- Drives report ready: those that the image lists, by port, slot and serial number, are taken. -/
def State.drivesReport (s : State) (ds : List DriveFacts) : State :=
  match s.weave.running with
  | none => s
  | some w =>
    if s.weave.phase = .none ∨ s.weave.drivesDone then s
    else
      let left := s.weave.drivesLeft
      let at_ (i : Nat) : Option DriveFacts := (w.drives[i]?).bind fun r =>
        ds.find? fun d => d.port == r.port && d.slot == r.slot && d.serial == r.serial
      let s := s.onWeave fun x => { x with
        found := x.found ++ left.filterMap at_, drivesLeft := left.filter fun i => (at_ i).isNone }
      if s.weave.drivesLeft.isEmpty then s.mapDrives else s

/-- DRIVES_READY. -/
def execDrivesReady (ds : List DriveFacts) (s : State) : Host.Outcome State Fault Refusal := .next (s.drivesReport ds).finish

/-- DRIVE_READY_TIMEOUT: a listed drive that is not ready within 30 s is lost (R84). -/
def State.driveMissing (s : State) (i : Nat) : State :=
  match s.weave.running.bind fun w => w.drives[i]? with
  | none => s
  | some r =>
    if !s.weave.drivesLeft.contains i ∨ s.weave.drivesDone then s
    else
      let s := s.flag F.tierStatus_driveLost { dieType := 2, die := r.port / 2, arg := BitVec.ofNat 64 (r.port + 4 * r.slot) }
      let s := s.onWeave fun x => { x with drivesLeft := x.drivesLeft.filter (· != i) }
      if s.weave.drivesLeft.isEmpty then s.mapDrives else s

/-- DRIVE_READY_TIMEOUT. -/
def execDriveReadyTimeout (drive : Nat) (s : State) : Host.Outcome State Fault Refusal := .next (s.driveMissing drive).finish

/-- CATALOGUE_COMPACT: the half in use of a drive's catalogue is full. -/
def execCatalogueCompact (drive : Nat) (s : State) : Host.Outcome State Fault Refusal :=
  .next (match s.drive drive with
    | none => s
    | some v => if !v.lost ∧ catHalf ≤ (s.weave.cats.get drive .fresh).log.length then s.compact drive else s)

/-! ### Slath and the image (R578, R579, R582, R601 to R604, R634) -/

/-- The Weave slots as a start finds them: as written, or as they were when the device came. -/
def State.readSlots (s : State) (f : StartFacts) : State :=
  if s.weave.slotsKnown then s else s.onWeave fun x => { x with slotA := f.slotA, slotB := f.slotB, slotsKnown := true }

/-- A Weave slot. -/
def State.slotOf (s : State) (slot : Nat) : Option ImageFacts := if slot = 0 then s.weave.slotA else s.weave.slotB

/-- The first failing check of a slot's image; a slot without one fails check 1. -/
def State.slotFails (s : State) (slot : Nat) : Option (Nat × Option (Nat × Nat)) :=
  match s.slotOf slot with
  | none => some (1, none)
  | some f =>
    if f.img.partialKind then some (1, none)
    else f.failing (BitVec.ofNat 64 (s.getF F.secStandId_id)) s.code s.device (s.getF F.weaveRollback_counter)

/-- WEAVE_RESULT. Where the manual gives a failed check no code, and the place of a failure that the records show is not
told, the fields are free values (assumption 24). -/
def State.weaveResult (s : State) (r : Option (Nat × Option (Nat × Nat))) : State :=
  match r with
  | none => s.setReg (F.weaveResult_code.off 0) 0
  | some (n, place) =>
    let (v, s) := s.fresh
    let (sec, off) := place.getD (fieldOf v 8 12, fieldOf v 20 27)
    s.setReg (F.weaveResult_code.off 0) (BitVec.ofNat 64 (pack [(0, fieldOf v 0 8), (8, n % 16), (12, sec % 4096), (24, off % 2 ^ 27)]))

/-- Slath tries a firmware slot: signature and rollback (R634). -/
def State.tryFirmware (s : State) (slot : Nat) (f : FwFacts) : Bool × State :=
  let valid := s.getF F.mgtFw_valid
  let bit := 2 ^ slot
  if !f.sigOk then (false, s.setF F.mgtFw_valid 0 (valid &&& (3 - bit)))
  else if f.rollback < s.getF F.secFwRollback_counter then
    (false, (s.setF F.mgtFw_valid 0 (valid &&& (3 - bit))).flag F.secStatus_fwRollback)
  else
    let s := ((s.setF F.mgtFw_valid 0 (valid ||| bit)).setF F.mgtFw_running 0 slot).setF F.mgtFw_version 0 f.version
    (true, s.setF F.secFwRollback_image 0 f.rollback)

/-- The memories are trained and the pin is looked at, once an image runs (R582, R675). -/
def State.trained (s : State) (f : StartFacts) : State :=
  if !f.t1Ok then ((s.flag F.weaveStatus_trainT1).setMode .quarantine).onWeave fun x => { x with phase := .none }
  else if !f.t0Ok then (s.flag F.weaveStatus_trainT0).enterCrust 6
  else s

/-- The device stays in WEAVING without an image (R603). -/
def State.noImage (s : State) : State := s.flag F.weaveStatus_noImage

/-- Steps 4 to 6: the active slot's image, or the standing one in Crust. -/
def State.startImage (s : State) (f : StartFacts) : State :=
  if s.sec.ownerKey.isNone then s.noImage
  else
    let s := s.readSlots f
    let active := s.getF F.weaveState_active
    let standing := s.getF F.weaveState_standing
    let s := s.addF F.secPkCount_public 0 1
    match s.slotFails active, s.slotOf active with
    | none, some i =>
      let s := (s.weaveResult none).loadImage i.img active false
      let s := s.trained f
      if s.weave.phase ≠ .none ∧ s.weave.drivesLeft = [] then s.mapDrives else s
    | r, _ =>
      let s := (s.flag F.weaveStatus_rejected).weaveResult (some (r.getD (1, none)))
      if standing = active then s.noImage
      else
        let s := s.addF F.secPkCount_public 0 1
        match s.slotFails standing, s.slotOf standing with
        | none, some i =>
          let s := (s.loadImage i.img.crustPart standing true).flag F.weaveStatus_crustFallback
          let s := if f.t1Ok then s.enterCrust 5 else s
          let s := s.trained f
          if s.weave.phase ≠ .none ∧ s.weave.drivesLeft = [] then s.mapDrives else s
        | _, _ => s.noImage

/-- Steps 1 to 6 of a start. Until an image is accepted every port is in AUTH (R428, R603). -/
def State.runStart (s : State) (f : StartFacts) : State :=
  let s := (List.range s.code.ports).foldl (fun s p => s.setLink p lkAuth) s
  if !f.identityOk then s
  else
    let s := s.setF F.secDeviceId_id 0 (Config.spdmValue 1000 0)
    let first := s.getF F.mgtFw_active
    let facts (slot : Nat) : FwFacts := if slot = 0 then f.fw0 else f.fw1
    let (ok, s) := s.tryFirmware first (facts first)
    let (ok, s) := if ok then (ok, s) else s.tryFirmware (1 - first) (facts (1 - first))
    if !ok then s else (s.setMode .weaving).startImage f

/-- COLD_START: from power-good; while PERST_N is asserted the device stays in reset, and after stage 3 or an overvoltage until the
cause is over (R653, R672, R673). -/
def State.coldStart (s : State) (f : StartFacts) : State :=
  if s.pwr.inReset ∨ ((s.pwr.thermOff ∨ s.pwr.overOff) ∧ !s.pwr.coldDue) then s
  else
    let b := s.startBase false
    let b := if s.pwr.thermOff then b.flag F.pwrStatus_thermStage3 else b
    b.runStart f

/-- COLD_START. -/
def execColdStart (f : StartFacts) (s : State) : Host.Outcome State Fault Refusal := .next (s.coldStart f).finish

/-- WARM_START: a reset with power held, once RESTART, RELEASE or the release of PERST_N has called for one (R580). -/
def State.warmStart (s : State) (f : StartFacts) : State :=
  if !s.weave.restartDue ∨ s.pwr.inReset ∨ s.pwr.dead then s
  else ((s.startBase true).setF F.weaveState_warm 0 1).runStart f

/-- WARM_START. -/
def execWarmStart (f : StartFacts) (s : State) : Host.Outcome State Fault Refusal := .next (s.warmStart f).finish

/-! ### Joining and forming the stand (R587 to R591) -/

/-- PERST_N holds every domain but the rhizoid in reset (R673). -/
def State.holdReset (s : State) : State := (s.startBase true).onPwr fun p => { p with inReset := true }

/-- A start ends: PERST_N's level is sampled (R675). -/
def State.startEnds (s : State) : State :=
  let s := s.onWeave fun x => { x with phase := .none }
  if s.getF F.pwrPin_perstLevel = 1 then s.holdReset else s

/-- STAND_LOCK_TIMEOUT: the start waits at step 10. -/
def execStandLockTimeout (s : State) : Host.Outcome State Fault Refusal :=
  .next (if s.weave.phase = .links ∧ s.getF F.schedSync_locked = 0 then s.flag F.schedStatus_skew else s)

/-- The wale at which this source forms the stand: the largest saved value plus 2^24. What the other members saved is not
told in JOIN, so it is a free value (R252, R587). -/
def State.firstWale (s : State) : Wale × State :=
  if s.weave.joins.all fun j => j.1 == s.device then (s.sched.savedWale + 16777216, s)
  else
    let (v, s) := s.fresh
    (BitVec.ofNat 48 (max s.sched.savedWale.toNat (fieldOf v 0 47) + 16777216), s)

/-- The time source forms the stand: JOIN_ACK to every joined device, then the first BOUNDARY. -/
def State.form (s : State) : State :=
  let (w, s) := s.firstWale
  let time := s.stime + 1000000
  let len := ((s.weave.running.map fun i => i.stand.waleUs).getD 0)
  let s := (s.setF F.schedSync_role 0 1).setF F.schedSync_epoch 0 1
  let s := (s.setF F.schedSync_source 0 s.device.toNat).onWeave fun x => { x with formed := true }
  let s := (s.weave.joins.filter fun j => j.1 != s.device).foldl (fun s j => s.sendMsg j.1 0 0 (.joinAck w time)) s
  let s := s.onSched fun x => { x with
    announced := some { wale := w, time := time, lenUs := len }, standSize := s.weave.joins.length, parent := none }
  s.sendGroup ((s.weave.running.map fun i => i.stand.timeGroup).getD 0) 1 0
    (.sched { s.schedMsg kBoundary with wale := w, time := time, lenUs := len })

/-- The devices of the stand's occupied rings (R30). -/
def WeaveImage.everyDevice (w : WeaveImage) : List DevNo :=
  (bitsSet 64 w.stand.rings).flatMap fun r => (List.range 8).map fun x => BitVec.ofNat 9 (8 * r + x)

/-- The source forms the stand once every device has joined. -/
def State.formIfAll (s : State) : State :=
  match s.weave.running with
  | none => s
  | some w =>
    if s.isSource ∧ !s.weave.formed ∧ w.everyDevice.all (fun d => s.weave.joins.any fun j => j.1 == d) then s.form else s

/-- Step 12: JOIN goes to the time source. -/
def State.sendJoin (s : State) : State :=
  match s.weave.running with
  | none => s
  | some w =>
    if s.weave.phase ≠ .links ∨ !s.weave.drivesDone ∨ s.getF F.schedSync_locked = 0 ∨ !s.windowsHeld then s
    else
      let crust := s.mode == .crust
      let s := s.onWeave fun x => { x with phase := .joined, joinedAt := s.stime }
      if s.isSource then (s.onWeave fun x => { x with joins := x.joins ++ [(s.device, crust)] }).formIfAll
      else
        let s := if s.getF F.schedSync_role = 2 then s.onWeave fun x => { x with joins := x.joins ++ [(s.device, crust)] } else s
        s.sendMsg w.stand.timeSource 0 0 (.join w.standDigest crust)

/-- JOIN_SEND. -/
def execJoinSend (s : State) : Host.Outcome State Fault Refusal := .next s.sendJoin.finish

/-- JOIN at the time source: another stand is refused, a late device is answered with the current wale; a backup holds what it
hears. -/
def State.takeJoin (s : State) (dev : DevNo) (digest : Word) (crust : Bool) : State :=
  match s.weave.running with
  | none => s
  | some w =>
    let held := s.weave.joins.any fun j => j.1 == dev
    let hold : State := if held then s else s.onWeave fun x => { x with joins := x.joins ++ [(dev, crust)] }
    if s.isSource then
      if digest ≠ w.standDigest ∧ !crust then s.sendMsg dev 0 0 .refuse
      else if s.weave.formed then s.sendMsg dev 0 0 (.joinAck s.wale 0)
      else hold.formIfAll
    else if s.getF F.schedSync_role = 2 ∧ (digest = w.standDigest ∨ crust) then hold
    else s

/-- JOIN. -/
def execJoin (dev : DevNo) (digest : Word) (crust : Bool) (s : State) : Host.Outcome State Fault Refusal :=
  .next (s.takeJoin dev digest crust).finish

/-- JOIN_ACK: at formation the first boundary is known; later the device takes the wale and waits for REPAIR (R583, R589). -/
def State.takeJoinAck (s : State) (wale : Wale) (time : Word) : State :=
  if s.weave.phase ≠ .joined then s
  else if time = 0 then ({ s with wale := wale } : State).startEnds
  else
    let len := ((s.weave.running.map fun i => i.stand.waleUs).getD 0)
    s.onSched fun x => { x with announced := some { wale := wale, time := time, lenUs := len } }

/-- JOIN_ACK. -/
def execJoinAck (wale : Wale) (time : Word) (s : State) : Host.Outcome State Fault Refusal := .next (s.takeJoinAck wale time)

/-- REFUSE. -/
def execRefuse (s : State) : Host.Outcome State Fault Refusal :=
  .next (if s.weave.phase = .joined ∧ s.sched.announced.isNone then
      ((s.setMode .quarantine).flag F.weaveStatus_standMismatch).startEnds
    else s)

/-- FORM_BOUND_EXPIRY: the source forms the stand with the devices that joined; with no JOIN_ACK, the first backup that is up
does. -/
def State.formBound (s : State) : State :=
  let past := decide (s.weave.joinedAt.toNat + s.act F.weaveFormBound_boundS * 1000000000 ≤ s.stime.toNat)
  if s.weave.phase ≠ .joined ∨ s.weave.formed ∨ !past ∨ s.sched.announced.isSome then s
  else if s.isSource then s.form
  else
    let first := s.sched.backups.find? fun d => d == s.device || !s.unreachable d
    if s.getF F.schedSync_role = 2 ∧ first = some s.device then s.form else s

/-- FORM_BOUND_EXPIRY. -/
def execFormBoundExpiry (s : State) : Host.Outcome State Fault Refusal := .next s.formBound.finish

/-- Entry into SERVICE: the standing slot and both rollback counters are settled; THERM_N held down enters CRUST instead (R577,
R604, R634, R675). -/
def State.enterService (s : State) : State :=
  let s := if s.mode = .weaving then s.noteStart else s
  if s.getF F.pwrPin_thermLevel = 1 then s.crustSteps 3 |>.noteCause 3
  else
    let img := s.getF F.weaveRollback_image
    let fw := s.getF F.secFwRollback_image
    let new := s.getF F.weaveState_standing ≠ s.getF F.weaveState_running ∨ s.getF F.weaveRollback_counter < img ∨
      s.getF F.secFwRollback_counter < fw
    let s := s.setF F.weaveState_standing 0 (s.getF F.weaveState_running)
    let s := (s.setF F.weaveRollback_counter 0 (max img (s.getF F.weaveRollback_counter))).setF F.secFwRollback_counter 0
      (max fw (s.getF F.secFwRollback_counter))
    (if new then s.rpWrite else s).setMode .service

end Sys2Proof.Machine
end

