-- ==== Sys2Proof/Machine/Reload.lean ====
section
/-! DEFINITION. The WEAVE commands, and partial reloads (R605 to R610, R614, R615, R617). -/
namespace Sys2Proof.Machine

/-! ### Coordination (R607) -/

/-- RELOAD_READY at the time source. -/
def execReloadReady (dev : DevNo) (partialId : Word) (s : State) : Host.Outcome State Fault Refusal :=
  .next (if s.isSource ∧ !s.weave.reloadReady.contains (dev, partialId) then
      s.onWeave fun w => { w with reloadReady := w.reloadReady ++ [(dev, partialId)] }
    else s)

/-- RELOAD_GO: the stage takes effect at the boundary named. -/
def execReloadGo (partialId : Word) (wale : Wale) (s : State) : Host.Outcome State Fault Refusal :=
  .next (match s.weave.staged with
    | some p => if p.imageId = partialId then s.onWeave fun w => { w with reloadGo := some (partialId, wale) } else s
    | none => s)

/-- The blocks of the windows of some models (R85, R608). -/
def State.windowBlocks (s : State) (ms : List ModelRec) : List (Tenant × Bool × Nat) :=
  ms.flatMap fun m => (List.range s.code.fronds).flatMap fun d => (m.windowLayers d).flatMap fun l =>
    l.blockList.map fun b => (m.tenant, l.packed, b)

/-- Window frames of models are released, those that other models' windows hold apart. -/
def State.releaseWindows (s : State) (ms keep : List ModelRec) : State :=
  let kept := (s.windowBlocks keep).map fun e => e.2.2
  (ms.flatMap fun m => m.layers.flatMap fun e => e.2.blockList.map fun b => (m.tenant, e.2.packed, b)).foldl (fun s e =>
    if kept.contains e.2.2 then s else s.leaveWindow e.1 e.2.1 e.2.2) s

/-- The models of a partial image that are new or changed (R606). -/
def newModels (w p : WeaveImage) : List ModelRec := p.models.filter fun m => !w.models.contains m

/-- A stage is dropped: the windows promoted for it are released. -/
def State.dropStage (s : State) : State :=
  match s.weave.running, s.weave.staged with
  | some w, some p =>
    let s := s.onWeave fun x => { x with staged := none, readySent := false, reloadGo := none }
    (s.releaseWindows (newModels w p) w.models).setF F.weaveState_staged 0 0
  | _, _ => s

/-- RELOAD_ABANDON: a device that has not staged the image drops nothing. -/
def execReloadAbandon (partialId : Word) (s : State) : Host.Outcome State Fault Refusal :=
  .next (match s.weave.staged with
    | some p => if p.imageId = partialId then (s.dropStage.flag F.weaveStatus_reloadAbandoned).finish else s
    | none => s)

/-- What the time source sends immediately before the BOUNDARY that begins a partial image's EFFECTIVE_WALE: RELOAD_GO when every
device of the reload set is ready, else RELOAD_ABANDON. -/
def State.sendReload (s : State) (wale : Wale) : State :=
  match s.weave.running, s.weave.staged with
  | some w, some p =>
    if p.effective = wale then
      let set := ((w.takers ++ p.takers).filter fun e => e.1 == p.tenant).map (·.2)
      let go := set.all fun d => s.weave.reloadReady.contains (d, p.imageId)
      let s := s.onWeave fun x => { x with reloadReady := x.reloadReady.filter fun e => e.2 != p.imageId }
      let s := s.sendGroup w.stand.timeGroup 1 0 (if go then .reloadGo p.imageId wale else .reloadAbandon p.imageId)
      if go then s.onWeave fun x => { x with reloadGo := some (p.imageId, wale) }
      else s.dropStage.flag F.weaveStatus_reloadAbandoned
    else s
  | _, _ => s

/-- Registers of models that are gone. -/
def State.unloadModels (s : State) (ms : List ModelRec) : State :=
  ms.foldl (fun s m => ((s.initReg F.svcModel_loaded m.model 0).initReg F.svcModelKv_layers m.model 0).initReg F.svcModelTok_vocab m.model 0) s

/-- Step 3 of R271: the staged partial image takes effect (R608). -/
def State.applyReload (s : State) : State :=
  match s.weave.running, s.weave.staged, s.weave.reloadGo with
  | some w, some p, some (id, wale) =>
    if id ≠ p.imageId ∨ wale ≠ s.wale then s
    else
      let n := w.amend p
      let gone := w.models.filter fun m => !n.models.contains m
      let s := s.svc.ctxs.foldl (fun s e =>
        if gone.any fun m => m.model == e.2.model then s.ctxEnd e.1 .aborted 5 else s) s
      let s := s.releaseWindows gone n.models
      let s := s.onWeave fun x => { x with running := some n, staged := none, readySent := false, reloadGo := none }
      let s := s.unloadModels (gone.filter fun m => !n.models.any fun k => k.model == m.model)
      let s := ((s.loadKernels n).loadModels n).loadCorpora n
      let s := s.onSched fun x => { x with
        tracks := (n.tracks.foldl (fun t r => t.put r.track r) (x.tracks.filter fun e => 16 ≤ e.1))
        templates := (n.templates.foldl (fun t r => t.put r.id r) (x.templates.filter fun e => 65536 ≤ e.1))
        standMinUs := (n.templates.map (·.minWaleUs)).foldl max 50 }
      let s := s.onSec fun x => { x with chain := x.chain ++ [p.imageId] }
      let s := (s.addF F.weaveState_partials 0 1).setF F.weaveState_staged 0 0
      (s.flag F.weaveStatus_reloadApplied).leaveRest.formRecords
  | _, _, _ => s

/-! ### WEAVE_CMD (R615) -/

/-- A command ends: its code and, for a check, which one failed. -/
def State.weaveEnd (s : State) (code : Nat) : State :=
  (s.setReg (F.weaveResult_code.off 0) (BitVec.ofNat 64 code)).setF F.weaveCmd_busy 0 0

/-- A command ends with a code that the manual leaves open (assumption 24). -/
def State.weaveOpen (s : State) : State :=
  let (v, s) := s.fresh
  s.weaveEnd (v.toNat % 256)

/-- Does WEAVE_ARG obey its rule: a STORE-class address of this device with bits 5:0 zero (R614)? -/
def State.weaveArgOk (s : State) : Bool :=
  let a := s.reg (F.weaveArg_all.off 0)
  saClass a == 0 && !saReserved a && saDevice a == s.device.toNat && saOffset a % 64 == 0

/-- WRITE_SLOT: checks 1 to 3, then the slot is written and read back. -/
def State.writeSlot (s : State) (slot : Nat) (f : ImageFacts) : State :=
  if !s.weaveArgOk then s.weaveEnd Code.malformed.num
  else if s.weave.running.isSome ∧ s.getF F.weaveState_running = slot then s.weaveEnd Code.denied.num
  else
    let s := s.addF F.secPkCount_public 0 1
    let early : Option (Nat × Option (Nat × Nat)) :=
      if f.img.partialKind then some (1, none)
      else match f.bad with
        | some (n, sec, off) => if n ≤ 2 then some (n, some (sec, off))
          else if f.img.rollback < s.getF F.weaveRollback_counter then some (3, none) else none
        | none => if f.img.rollback < s.getF F.weaveRollback_counter then some (3, none) else none
    match early with
    | some r => ((s.weaveResult (some r)).setF F.weaveCmd_busy 0 0).flag F.weaveStatus_slotWriteFail
    | none =>
      let s := s.onWeave fun w => if slot = 0 then { w with slotA := some f, slotsKnown := true } else { w with slotB := some f, slotsKnown := true }
      s.weaveEnd Code.done.num

/-- A stage is refused (R606). -/
def State.stageRefused (s : State) : State := (s.setF F.weaveCmd_busy 0 0).flag F.weaveStatus_stageRefused

/-- Frames that the windows of new and changed models charge to the tenant. -/
def State.stageFrames (s : State) (ms : List ModelRec) : Nat :=
  if s.poolMode then 0
  else (((s.windowBlocks ms).filter fun e => !(s.blk e.2.2).window && (s.blk e.2.2).state == .sealed).map fun e => s.windowFrames e.2.2 e.2.1).sum

/-- STAGE: the checks run on the running image as the partial one would amend it; then the windows of new and changed models
are promoted. -/
def State.stage (s : State) (f : ImageFacts) : State :=
  match s.weave.running with
  | none => s.weaveOpen
  | some w =>
    if !s.weaveArgOk then s.weaveEnd Code.malformed.num
    else if s.weave.staged.isSome then s.weaveOpen
    else
      let p := f.img
      let s := s.addF F.secPkCount_public 0 1
      let amended : ImageFacts := { img := { (w.amend p) with rollback := p.rollback }, bad := f.bad }
      let base : Option (Nat × Option (Nat × Nat)) :=
        if !p.partialKind ∨ p.tenant = 0 then some (1, none) else if p.baseId ≠ w.imageId then some (0, none) else none
      let failed := (amended.failing (BitVec.ofNat 64 (s.getF F.secStandId_id)) s.code s.device (s.getF F.weaveRollback_counter)).or base
      match failed with
      | some r => (s.weaveResult (some r)).stageRefused
      | none =>
        let ms := newModels w p
        let tn := p.tenant.toNat
        if s.getF F.tierResvUsed_t0Used tn + s.stageFrames ms ≤ s.act F.tierResvLimit_t0Limit tn ∨ s.poolMode then
          (s.onWeave fun x => { x with staged := some p, readySent := false }).promoteWindows ms
        else (s.weaveEnd Code.quota.num).stageRefused

/-- ABANDON. -/
def State.abandonStage (s : State) : State :=
  if s.weave.staged.isNone then s.weaveOpen
  else if s.weave.readySent then s.weaveEnd Code.retry.num
  else s.dropStage.weaveEnd Code.done.num

/-- A write of WEAVE_CMD; while a command runs it is ignored (R617). The image at WEAVE_ARG comes with a WRITE_SLOT or a STAGE. -/
def State.weaveCommand (s : State) (w : Word) (f : Option ImageFacts) : State :=
  if s.getF F.weaveCmd_busy = 1 then s
  else
    let off := F.weaveCmd_op.off 0
    let (w, s) := s.cleanWrite off w
    let s := s.writeReg off w
    let op := s.getF F.weaveCmd_op
    let slot := s.getF F.weaveCmd_slot
    if op = 0 then s
    else
      let s := s.setF F.weaveCmd_busy 0 1
      match op, f with
      | 1, some f => s.writeSlot slot f
      | 2, _ => ((s.setF F.weaveState_active 0 slot).rpWrite).weaveEnd Code.done.num
      | 3, _ => (s.weaveEnd Code.done.num).onWeave fun x => { x with restartDue := true }
      | 4, some f => s.stage f
      | 5, _ => s.abandonStage
      | _, _ => s.weaveOpen

/-- WRITE_SLOT. -/
def execWriteSlot (w : Word) (img : ImageFacts) (s : State) : Host.Outcome State Fault Refusal :=
  .next (s.weaveCommand (putBits w 0 3 1) (some img)).finish
/-- ACTIVATE. -/
def execActivate (w : Word) (s : State) : Host.Outcome State Fault Refusal := .next (s.weaveCommand (putBits w 0 3 2) none).finish
/-- RESTART. -/
def execRestart (w : Word) (s : State) : Host.Outcome State Fault Refusal := .next (s.weaveCommand (putBits w 0 3 3) none).finish
/-- STAGE. -/
def execStage (w : Word) (img : ImageFacts) (s : State) : Host.Outcome State Fault Refusal :=
  .next (s.weaveCommand (putBits w 0 3 4) (some img)).finish
/-- ABANDON. -/
def execAbandon (w : Word) (s : State) : Host.Outcome State Fault Refusal := .next (s.weaveCommand (putBits w 0 3 5) none).finish

end Sys2Proof.Machine
end

