-- ==== Sys2Proof/Machine/Transport.lean ====
section
/-! DEFINITION. Management traffic: when the management processor takes a request (R686 to R688, R691), and the SPDM
sessions with the host-port streams they keyed (R635, R637). -/
namespace Sys2Proof.Machine

/-- Does a transport reach the management processor, for a firmware update or for anything else (R688)? PERST_N and a lost input
hold the processor itself; SLEEP leaves I3C, where an update is a wake cause. -/
def State.mgmtServed (s : State) (t : Transport) (update : Bool) : Bool :=
  !s.pwr.inReset && !s.pwr.dead &&
  match t with
  | .i3c => match s.mode with
    | .slath => update
    | _ => true
  | .cxl =>
    s.getF F.hptLink_state == 2 && s.getF F.pwrState_shadow == 0 &&
    match s.mode with
    | .slath | .sleep => false
    | .weaving | .quarantine => s.weave.running.isSome
    | .service | .rest | .repair | .crust => true

/-- The MCTP request queue has 64 entries, the telemetry queue 32; a full one answers busy (R691). -/
def State.mgmtRequest (s : State) (t : Transport) (update : Bool) (body : State → Answer × State) : State :=
  if !s.mgmtServed t update then s
  else if 64 ≤ s.mgt.qMctp then s.emit (.mgmt t .busy)
  else
    let (a, s) := body (s.onMgt fun m => { m with qMctp := m.qMctp + 1 })
    s.emit (.mgmt t a)

/-- The open sessions change; a stream whose session has ended stops until new keys are set. -/
def State.setSessions (s : State) (l : List Session) : State :=
  let kept := s.sec.ide.filter fun e => l.any fun x => x.id == e.2.2
  let gone (i : IdeStream) : Bool := !kept.any fun e => e.1 == i
  let s := s.onSec fun x => { x with sessions := l, ide := kept }
  let s := if gone .io then s.setF F.hptLink_ideIo 0 0 else s
  let s := if gone .mem then s.setF F.hptLink_ideMem 0 0 else s
  s.setF F.secState_sessions 0 l.length

/-- The management processor starts afresh, or its shadow takes over: the queues and every SPDM session are lost (R686, R694). -/
def State.mgmtRestarts (s : State) : State :=
  let s := s.onMgt fun m => { m with qExc := 0, qMctp := 0, qTel := 0 }
  (s.setSessions []).onSec fun x => { x with i3c := .idle, cxl := .idle, releaseNonce := none }

end Sys2Proof.Machine
end

