-- ==== Sys2Proof/Machine/Pwr.lean ====
section
/-! DEFINITION. The input, cluster clocks, sleep, die faults, thermal stages, sideband pins (R652 to R684). -/
namespace Sys2Proof.Machine

/-! ### The input (R653) -/

/-- The rails are down, VDD_RHZ apart: what they fed is lost, as a reset loses it. -/
def State.powerLost (s : State) : State := s.startBase true

/-- INPUT_UNDERVOLT. -/
def execInputUndervolt (mv : Nat) (s : State) : Host.Outcome State Fault Refusal :=
  .next (if s.pwr.dead then s
    else
      let s := s.setF F.pwrInput_mv 0 mv
      if mv < 40000 then (s.enterCrust 4).finish else s)

/-- INPUT_COLLAPSE: every rail is off, VDD_RHZ included, until the next power-good. -/
def execInputCollapse (mv : Nat) (s : State) : Host.Outcome State Fault Refusal :=
  .next (if mv < 36000 then
      ((s.startBase false).setF F.pwrInput_mv 0 mv).onPwr fun p => { p with dead := true }
    else s)

/-- INPUT_OVERVOLT: OVERVOLT survives the cold start that follows. -/
def execInputOvervolt (mv : Nat) (s : State) : Host.Outcome State Fault Refusal :=
  .next (if 56000 < mv ∧ !s.pwr.dead then
      let hot := s.pwr.thermOff
      (((s.flag F.pwrStatus_overvolt).powerLost).setF F.pwrInput_mv 0 mv).onPwr fun p => { p with overOff := true, thermOff := hot }
    else s)

/-- OVERVOLT_RECOVERY: the cold start may begin. -/
def execOvervoltRecovery (mv : Nat) (s : State) : Host.Outcome State Fault Refusal :=
  .next (if s.pwr.overOff ∧ 40000 ≤ mv ∧ mv ≤ 56000 then
      (s.setF F.pwrInput_mv 0 mv).onPwr fun p => { p with coldDue := true }
    else s)

/-! ### Cluster clocks (R656, R657) -/

/-- Does the device have the cluster? -/
def OrderCode.hasCluster (c : OrderCode) (k : Nat) : Bool := decide (k < 4 * c.fronds)

/-- Does a step name a cell of the cluster? -/
def Step.inCluster (d : Step) (k : Nat) : Bool := d.cells.any fun c => c / 8 == k

/-- Steps of the current wale that have not started, and steps of later wales whose planned start lies within `ns` from now, as
if no wale were stretched. -/
def State.plannedSteps (s : State) (ns : Nat) : List Step :=
  let len := max 1 (s.sched.lenUs * 1000)
  let now := s.sched.runs.flatMap fun e =>
    if e.2.failed || e.2.ended then [] else (((s.templateAt e.1 s.wale).map (·.steps)).getD []).drop e.2.next
  let later := (List.range (ns / len + 2)).flatMap fun i => s.sched.tracks.flatMap fun t =>
    (((s.templateAt t.1 (s.wale + BitVec.ofNat 48 (i + 1))).map (·.steps)).getD []).filter fun d =>
      decide (s.sched.start.toNat + len * (i + 1) + d.startNs ≤ s.stime.toNat + ns)
  now ++ later

/-- CLUSTER_CLOCK_STOP. -/
def execClusterClockStop (cluster : Nat) (s : State) : Host.Outcome State Fault Refusal :=
  withUnit (s.code.hasCluster cluster) (.next
    (let idle := (List.range 8).all fun i =>
        let r := s.cellRun (8 * cluster + i)
        r == runIdle || r == runUnallocated || r == runOff
      if s.getF F.cellCluster_clk cluster = 2 ∧ idle ∧ !(s.plannedSteps 100000).any (fun d => d.inCluster cluster) then
        s.setF F.cellCluster_clk cluster 0
      else s))

/-- CLUSTER_PLL_STOP. -/
def execClusterPllStop (cluster : Nat) (s : State) : Host.Outcome State Fault Refusal :=
  withUnit (s.code.hasCluster cluster) (.next
    (if s.getF F.cellCluster_clk cluster = 0 then s.setF F.cellCluster_pllLocked cluster 0 else s))

/-- CLUSTER_CLOCK_START: in the modes whose work runs on cells. -/
def execClusterClockStart (cluster : Nat) (s : State) : Host.Outcome State Fault Refusal :=
  withUnit (s.code.hasCluster cluster) (.next
    (if s.getF F.cellCluster_clk cluster = 0 ∧ (s.mode = .service ∨ s.mode = .rest) then s.setF F.cellCluster_clk cluster 1 else s))

/-- CLUSTER_CLOCK_RUNNING. -/
def execClusterClockRunning (cluster : Nat) (s : State) : Host.Outcome State Fault Refusal :=
  withUnit (s.code.hasCluster cluster) (.next
    (if s.getF F.cellCluster_clk cluster = 1 then (s.setF F.cellCluster_clk cluster 2).setF F.cellCluster_pllLocked cluster 1 else s))

/-! ### Falling asleep (R662 to R665) -/

/-- The conditions of the sleep sequence, in the order of the table. -/
def State.sleepRefused (s : State) : Option Code :=
  if s.act F.pwrPolicy_sleepOk = 0 then some .denied
  else if s.getF F.mapRole_keeper = 1 ∨ s.getF F.schedSync_role ≠ 0 ∨ s.sched.children ≠ [] then some .denied
  else if s.mode ≠ .rest ∨ s.map.adopted.isSome ∨ s.map.failover.any (·.adopter) then some .retry
  else if s.pwr.asleep.contains (partnerOf s.device) then some .retry
  else if s.getF F.pwrPin_wakeLevel = 1 ∧ !s.pwr.wakeSpent then some .retry
  else none

/-- Step 1: ASLEEP goes to the time source. -/
def State.startSleep (s : State) (command : Bool) : State :=
  (s.onPwr fun p => { p with seq := .falling command }).sendMsg s.timeSource 0 0 (.asleep s.device s.wale)

/-- ASLEEP: the time source multicasts it, every device marks the sender. -/
def State.takeAsleep (s : State) (dev : DevNo) (wale : Wale) : State :=
  if dev = s.device ∨ s.pwr.asleep.contains dev then s
  else
    let s := s.onPwr fun p => { p with asleep := p.asleep ++ [dev] }
    let s := if s.isSource then
        s.sendGroup ((s.weave.running.map fun i => i.stand.timeGroup).getD 0) 0 0 (.asleep dev wale)
      else s
    if dev = predecessorOf s.device then
      (s.onMap fun m => { m with heard := s.seenNow m.heard dev }).setF F.pwrState_sleepingPartner 0 1
    else s

/-- ASLEEP. -/
def execAsleep (dev : DevNo) (wale : Wale) (s : State) : Host.Outcome State Fault Refusal := .next (s.takeAsleep dev wale)

/-- AWAKE: the mark goes, and what was held is sent in order. -/
def State.takeAwake (s : State) (dev : DevNo) (wale : Wale) : State :=
  if dev = s.device ∨ !s.pwr.asleep.contains dev then s
  else
    let mine := s.pwr.holds.filter fun h => h.packet.target == dev
    let s := s.onPwr fun p => { p with
      asleep := p.asleep.filter (· != dev), wakeSent := p.wakeSent.filter (· != dev)
      holds := p.holds.filter fun h => h.packet.target != dev }
    let s := s.onMap fun m => { m with heard := s.seenNow m.heard dev }
    let s := if dev = predecessorOf s.device then s.setF F.pwrState_sleepingPartner 0 0 else s
    let s := if s.isSource then
        s.sendGroup ((s.weave.running.map fun i => i.stand.timeGroup).getD 0) 0 0 (.awake dev wale)
      else s
    mine.foldl (fun s h => (s.sendPacket h.packet h.issuer).2) s

/-- AWAKE. -/
def execAwake (dev : DevNo) (wale : Wale) (s : State) : Host.Outcome State Fault Refusal := .next (s.takeAwake dev wale).finish

/-- Steps 3 and 4: ports to KEEPALIVE, rails 0, 4, 5 and 6 off, mode SLEEP; a command ends DONE. -/
def State.fallAsleep (s : State) : State :=
  match s.pwr.seq with
  | .falling command =>
    let s := (List.range s.code.ports).foldl (fun s p => s.toKeepalive p) s
    let s := (s.onPwr fun p => { p with seq := .none, restWales := 0 }).setMode .sleep
    let s := ((s.stopClusters).setF F.schedSync_locked 0 0).addF F.pwrSleepCount_sleeps 0 1
    if command then s.pwrEnd Code.done.num else s
  | _ => s

/-- SLEEP_QUIET. -/
def execSleepQuiet (s : State) : Host.Outcome State Fault Refusal := .next s.fallAsleep

/-- SLEEP_QUIET_TIMEOUT. -/
def execSleepQuietTimeout (s : State) : Host.Outcome State Fault Refusal := .next s.abandonSleep

/-! ### Waking (R666, R667) -/

/-- The arrays of the Sorus dies are to be calibrated anew before they compare, in ascending order (R373, step 5 of R666). -/
def State.arraysCold (s : State) : State :=
  ((List.range (64 * s.code.soruses)).reverse.filter fun a => s.arrayState a == arrayActive).foldl (fun s a =>
    (s.onSrch fun x => { x with blocked := if x.blocked.contains a then x.blocked else x.blocked ++ [a] }).calFirst a) s

/-- A wake begins: rails, ports, memories, then the relocking of stand time. -/
def State.startWake (s : State) (command : Bool) : State :=
  match s.mode, s.pwr.seq with
  | .sleep, .none =>
    let s := s.onPwr fun p => { p with seq := .waking command }
    ((List.range s.code.ports).foldl (fun s p => s.keepaliveOver p) s).arraysCold
  | .sleep, .waking c => s.onPwr fun p => { p with seq := .waking (c || command) }
  | _, _ => s

/-- SLEEP_WAKE: a cause in SLEEP; WAKE_N also abandons a sequence that has not reached step 4. -/
def execSleepWake (cause : WakeCause) (s : State) : Host.Outcome State Fault Refusal :=
  .next (if s.mode = .sleep then s.startWake false else if cause = .wakeN then s.abandonSleep else s)

/-- WAKE. -/
def execWake (dev : DevNo) (s : State) : Host.Outcome State Fault Refusal :=
  .next (if dev ≠ s.device then s else if s.mode = .sleep then s.startWake false else s.abandonSleep)

/-- Does step 5 still wait for an array of a working Sorus die? -/
def State.arraysWait (s : State) : Bool :=
  (List.range (64 * s.code.soruses)).any fun a => !s.pwr.failed.contains (.sorus, a / 64) &&
    (s.arrayState a == arrayCalibrating || (s.srch.blocked.contains a && s.arrayState a == arrayActive))

/-- Step 6, after steps 4 and 5: AWAKE through the time source; REST, or CRUST for a cause recorded in SLEEP. -/
def State.wakeEnds (s : State) : State :=
  match s.mode, s.pwr.seq with
  | .sleep, .waking command =>
    if s.arraysWait then s else
    let s := ((s.onPwr fun p => { p with seq := .none }).setF F.schedSync_locked 0 1).addF F.pwrSleepCount_wakes 0 1
    let s := s.sendMsg s.timeSource 0 0 (.awake s.device s.wale)
    let s := match s.pwr.recorded with
      | some c => (s.onPwr fun p => { p with recorded := none }).crustSteps c
      | none => s.setMode .rest
    if command then s.pwrEnd Code.done.num else s
  | _, _ => s

/-- WAKE_SEQUENCE_END. -/
def execWakeSequenceEnd (s : State) : Host.Outcome State Fault Refusal := .next s.wakeEnds.finish

/-- WAKE_TIMEOUT. -/
def execWakeTimeout (s : State) : Host.Outcome State Fault Refusal :=
  .next (match s.pwr.seq with
    | .waking _ => s.flag F.pwrStatus_wakeTimeout
    | _ => s)

/-- WAKE_BOUND_EXPIRY: a packet held over its bound ends DEAD; with nothing more held, the wake counts as no longer in progress. -/
def State.wakeBound (s : State) (dst : DevNo) (tag : BitVec 16) : State :=
  match s.pwr.holds.find? fun h => h.packet.target == dst && h.packet.tag == tag with
  | none => s
  | some h =>
    let s := s.onPwr fun p => { p with holds := p.holds.erase h }
    let s := if s.pwr.holds.any fun k => k.packet.target == dst then s
      else s.onPwr fun p => { p with wakeSent := p.wakeSent.filter (· != dst) }
    if h.packet.posted then s.noteLost h.packet
    else
      let s := if h.packet.answered then s.noteDead dst h.packet.addr h.packet.tenant else s
      match h.issuer with
      | none => s
      | some i =>
        let r : Request :=
          { tag := tag, issuer := i, flow := h.packet.flow, seq := 0, addr := h.packet.addr, lines := h.packet.lines
            waiting := [dst], answers := [], packet := h.packet, since := s.stime, woken := false }
        s.requestEnds r .dead 0 r.ones

/-- WAKE_BOUND_EXPIRY. -/
def execWakeBoundExpiry (dst : DevNo) (tag : BitVec 16) (s : State) : Host.Outcome State Fault Refusal :=
  .next (s.wakeBound dst tag).finish

/-- SLEEP_WALE_TICK: once per nominal wale length. -/
def execSleepWaleTick (s : State) : Host.Outcome State Fault Refusal :=
  .next (if s.mode = .sleep then { s with wale := s.wale + 1 } else s)

/-! ### PWR_CMD (R681, R684) -/

/-- PWR_CMD SLEEP. -/
def State.sleepCommand (s : State) : State :=
  match s.sleepRefused with
  | some c => s.pwrEnd c.num
  | none => match s.pwr.seq with
    | .none => s.startSleep true
    -- the policy has started the sequence already
    | _ => s.onPwr fun p => { p with seq := .falling true }

/-- A write of PWR_CMD; while BUSY it is ignored. A reserved OP, and a WAKE of a device that does not sleep, end with a code left open
(assumption 24). -/
def State.pwrCommand (s : State) (w : Word) : State :=
  if s.getF F.pwrCmd_busy = 1 then s
  else
    let (w, s) := s.cleanWrite (F.pwrCmd_op.off 0) w
    let s := s.writeReg (F.pwrCmd_op.off 0) w
    let op := s.getF F.pwrCmd_op
    if op = 0 then s
    else
      let s := s.setF F.pwrCmd_busy 0 1
      if op = 1 then s.sleepCommand
      else if op = 2 ∧ s.mode = .sleep then s.startWake true
      else
        let (v, s) := s.fresh
        s.pwrEnd (v.toNat % 256)

/-- PWR_SLEEP. -/
def execPwrSleep (w : Word) (s : State) : Host.Outcome State Fault Refusal := .next (s.pwrCommand (putBits w 0 2 1))
/-- PWR_WAKE. -/
def execPwrWake (w : Word) (s : State) : Host.Outcome State Fault Refusal := .next (s.pwrCommand (putBits w 0 2 2))

/-- PWR_POLICY_WRITE. -/
def execPwrPolicyWrite (v : Word) (s : State) : Host.Outcome State Fault Refusal := .next (s.plainWrite (F.pwrPolicy_restWales.off 0) v)
/-- PWR_WAKE_BOUND_WRITE. -/
def execPwrWakeBoundWrite (v : Word) (s : State) : Host.Outcome State Fault Refusal := .next (s.plainWrite (F.pwrWakeBound_boundMs.off 0) v)

/-! ### Die faults (R668, R670, R671) -/

/-- Is the die fitted? -/
def OrderCode.hasDie (c : OrderCode) (k : DieKind) (d : Nat) : Bool :=
  match k with
  | .frond => decide (d < c.fronds)
  | .rand => decide (d < c.rands)
  | .sorus => decide (d < c.soruses)

/-- DIE_TYPE of R699. -/
def DieKind.num : DieKind → Nat
  | .frond => 1 | .rand => 2 | .sorus => 3

/-- Rand die 1 takes over (R671, R686). -/
def State.takeover (s : State) : State :=
  let s := ((s.randPorts 0).hostDown).mgmtRestarts
  ((s.setF F.pwrState_shadow 0 1).setF F.mapRole_engineDie 0 1).flag F.pwrStatus_shadowTakeover { dieType := 2, die := 0 }

/-- An uncorrectable fault of a die: its frames are lost, and the device enters Crust; where no Rand die is left to serve it, QUARANTINE. -/
def State.dieFault (s : State) (k : DieKind) (d : Nat) : State :=
  if s.pwr.failed.contains (k, d) ∨ s.pwr.dead then s
  else
    let n : Note := { dieType := k.num, die := d }
    let s := s.onPwr fun p => { p with failed := p.failed ++ [(k, d)] }
    let s := s.loseFrames k d
    let left := (List.range s.code.rands).any fun r => !s.pwr.failed.contains (.rand, r)
    if k = .rand ∧ !left then ((s.flag F.pwrStatus_dieFault n).stopWork).setMode .quarantine
    else
      let s := if k = .rand then (if d = 0 then s.takeover else s.randPorts d) else s
      s.enterCrust 1 n

/-- DIE_FAULT. -/
def execDieFault (kind : DieKind) (die : Nat) (s : State) : Host.Outcome State Fault Refusal :=
  withUnit (s.code.hasDie kind die) (.next (s.dieFault kind die).finish)

/-! ### Thermal stages (R672, R683) -/

/-- The threshold of a stage for a sensor, in 0.25 degrees. -/
def stageAt (sensor stage : Nat) : Nat := (if sensor < 8 then 340 else 300) + 40 * stage

/-- Is the sensor fitted? -/
def State.hasSensor (s : State) (i : Nat) : Bool := fitted s.code 0x10100 16 i

/-- A sensor's reading and stage. -/
def State.setTemp (s : State) (i temp stage : Nat) : State :=
  ((s.setF F.pwrTemp_temp i temp).setF F.pwrTemp_stage i stage).setF F.pwrTemp_valid i 1

/-- Die type and number of a sensor. -/
def sensorNote (i : Nat) : Note :=
  if i < 4 then { index := i, dieType := 1, die := i }
  else if i < 6 then { index := i, dieType := 2, die := i - 4 }
  else if i < 8 then { index := i, dieType := 3, die := i - 6 }
  else { index := i, dieType := 1, die := (i - 8) / 2 }

/-- A sensor crosses the threshold of a stage. -/
def State.thermal (s : State) (i level temp : Nat) : State :=
  if s.pwr.dead ∨ s.pwr.thermOff ∨ s.pwr.overOff ∨ level = 0 ∨ 3 < level ∨ temp < stageAt i level then s
  else
    let s := s.setTemp i temp (max (min level 2) (s.getF F.pwrTemp_stage i))
    let s := s.setF F.pwrState_stage 0 (max (min level 2) (s.getF F.pwrState_stage))
    if level = 1 then (s.flag F.pwrStatus_thermStage1 (sensorNote i)).latch 7 allTenants
    else if level = 2 then s.enterCrust 2 (sensorNote i)
    else s.powerLost.onPwr fun p => { p with thermOff := true }

/-- THERMAL_STAGE. -/
def execThermalStage (sensor level temp : Nat) (s : State) : Host.Outcome State Fault Refusal :=
  withUnit (s.hasSensor sensor) (.next (s.thermal sensor level temp).finish)

/-- The stage that remains when every sensor reads as given: each is to be 5 degrees below the threshold of a stage that clears. -/
def State.stageLeft (s : State) (temps : List Nat) : Nat :=
  let below (stage : Nat) : Bool := temps.zipIdx.all fun (t, i) => !s.hasSensor i || decide (t + 20 ≤ stageAt i stage)
  let now := s.getF F.pwrState_stage
  if below 1 then 0 else if now = 2 ∧ below 2 then 1 else now

/-- THERMAL_STAGE_CLEAR. -/
def State.thermalClear (s : State) (temps : List Nat) : State :=
  if s.pwr.dead ∨ temps.length ≠ 16 then s
  else
    let left := s.stageLeft temps
    let s := temps.zipIdx.foldl (fun s e =>
      if s.hasSensor e.2 then s.setTemp e.2 e.1 (min left (s.getF F.pwrTemp_stage e.2)) else s) s
    s.setF F.pwrState_stage 0 left

/-- THERMAL_STAGE_CLEAR. -/
def execThermalStageClear (temps : List Nat) (s : State) : Host.Outcome State Fault Refusal := .next (s.thermalClear temps)

/-- THERMAL_COOLDOWN_RESTART: the cold start may begin. -/
def execThermalCooldownRestart (s : State) : Host.Outcome State Fault Refusal :=
  .next (if s.pwr.thermOff then s.onPwr fun p => { p with coldDue := true } else s)

/-! ### Sideband pins (R673 to R675) -/

/-- The level and the filter state of a pin. -/
def Pin.fields : Pin → Fld × Fld
  | .wake => (F.pwrPin_wakeLevel, F.pwrPin_wakeState)
  | .perst => (F.pwrPin_perstLevel, F.pwrPin_perstState)
  | .therm => (F.pwrPin_thermLevel, F.pwrPin_thermState)

/-- The pin's index in fault records and tables. -/
def Pin.num : Pin → Nat
  | .wake => 0 | .perst => 1 | .therm => 2

/-- What an accepted level does: WAKE_N wakes or abandons a sleep sequence, THERM_N is a Crust cause, PERST_N holds the device in reset
unless a start runs, and its release calls for a start. -/
def State.pinActs (s : State) (p : Pin) (level : Bool) : State :=
  match p, level with
  | .wake, true => if s.mode = .sleep then s.startWake false else s.abandonSleep
  | .wake, false => s.onPwr fun x => { x with wakeSpent := false }
  | .therm, true => s.enterCrust 3
  | .therm, false => s
  | .perst, true => if s.weave.phase = .none then s.holdReset else s
  | .perst, false =>
    if s.pwr.inReset then
      (s.onPwr fun x => { x with inReset := false }).onWeave fun w => { w with restartDue := true }
    else s

/-- An edge passes the glitch filter: counted, accepted, acted on. More than 16 in a second mark the pin CHATTER, which holds this
level. -/
def State.pinEdge (s : State) (p : Pin) (level : Bool) : State :=
  let (lf, sf) := p.fields
  if s.pwr.dead ∨ s.getF sf = 1 ∨ s.getF lf = level.toNat then s
  else
    let es := ((s.pwr.edges.get p.num []).filter fun e => decide (s.stime.toNat < e.toNat + 1000000000)) ++ [s.stime]
    let s := s.onPwr fun x => { x with edges := x.edges.put p.num es }
    let s := (s.setF lf 0 level.toNat).setF sf 0 0
    let s := s.pinActs p level
    if 16 < es.length then (s.setF sf 0 1).flag F.pwrStatus_pinChatter { index := p.num } else s

/-- THERM_N_ASSERT. -/
def execThermNAssert (s : State) : Host.Outcome State Fault Refusal := .next (s.pinEdge .therm true).finish
/-- WAKE_N_ASSERT. -/
def execWakeNAssert (s : State) : Host.Outcome State Fault Refusal := .next (s.pinEdge .wake true)
/-- PERST_N_ASSERT. -/
def execPerstNAssert (s : State) : Host.Outcome State Fault Refusal := .next (s.pinEdge .perst true)
/-- PERST_N_RELEASE. -/
def execPerstNRelease (s : State) : Host.Outcome State Fault Refusal := .next (s.pinEdge .perst false)
/-- WAKE_N_RELEASE. -/
def execWakeNRelease (s : State) : Host.Outcome State Fault Refusal := .next (s.pinEdge .wake false)
/-- THERM_N_RELEASE. -/
def execThermNRelease (s : State) : Host.Outcome State Fault Refusal := .next (s.pinEdge .therm false)

/-- PIN_CHATTER_QUIET: the mark goes, and the present level is accepted once. -/
def execPinChatterQuiet (pin : Pin) (level : Bool) (s : State) : Host.Outcome State Fault Refusal :=
  .next (if s.getF pin.fields.2 = 1 then
      (((s.setF pin.fields.2 0 0).onPwr fun x => { x with edges := x.edges.del pin.num }).pinEdge pin level).finish
    else s)

/-- PIN_HELD: one event for an assertion of over 10 s; WAKE_N then blocks SLEEP no more until it is released. -/
def execPinHeld (pin : Pin) (s : State) : Host.Outcome State Fault Refusal :=
  .next (if s.getF pin.fields.1 = 1 ∧ s.getF pin.fields.2 = 0 then
      let s := (s.setF pin.fields.2 0 2).flag F.pwrStatus_pinHeld { index := pin.num }
      if pin = .wake then s.onPwr fun x => { x with wakeSpent := true } else s
    else s)

end Sys2Proof.Machine
end

