-- ==== Sys2Proof/Machine/Mgt.lean ====
section
/-! DEFINITION. The management processor's protocols, windows and watchdog, the firmware update, the TEL snapshot, the host link
(R685 to R695, R701, R706 to R710). -/
namespace Sys2Proof.Machine

/-! ### PLDM (R687) -/

/-- PLDM_BASE: the discovery commands SetTID, GetTID, GetPLDMVersion, GetPLDMTypes, GetPLDMCommands. -/
def execPldmBase (t : Transport) (command : BitVec 8) (s : State) : Host.Outcome State Fault Refusal :=
  .next (s.mgmtRequest t false fun s => (if 1 ≤ command.toNat ∧ command.toNat ≤ 5 then .ok else .error, s))

/-- PLDM_FILE_READ: whole records of the flash fault log. -/
def execPldmFileRead (t : Transport) (offset length : Nat) (s : State) : Host.Outcome State Fault Refusal :=
  .next (s.mgmtRequest t false fun s => (.records ((s.mgt.flash.drop (offset / 64)).take (length / 64)), s))

/-! ### Firmware update (R689, R690) -/

/-- A firmware slot. -/
def State.fwSlot (s : State) (slot : Nat) : FwSlot := if slot = 0 then s.mgt.fw0 else s.mgt.fw1

/-- Replace a firmware slot. -/
def State.setFwSlot (s : State) (slot : Nat) (v : FwSlot) : State :=
  s.onMgt fun m => if slot = 0 then { m with fw0 := v } else { m with fw1 := v }

/-- MGT_FW.UPDATE values. -/
def updIdle : Nat := 0
/-- RECEIVING. -/
def updReceiving : Nat := 1
/-- STAGED. -/
def updStaged : Nat := 3
/-- FAILED. -/
def updFailed : Nat := 4

/-- The slot that an update writes. -/
def State.updateSlot (s : State) : Nat := 1 - s.getF F.mgtFw_running

/-- The written slot is verified. -/
def State.fwVerify (s : State) (f : FwFacts) : Answer × State :=
  let slot := s.updateSlot
  let bit := 2 ^ slot
  let valid := s.getF F.mgtFw_valid
  let s := s.addF F.secPkCount_public 0 1
  if f.sigOk ∧ s.getF F.secFwRollback_counter ≤ f.rollback then
    let s := s.setFwSlot slot { s.fwSlot slot with version := f.version, counter := f.rollback, valid := true }
    (.ok, ((s.setF F.mgtFw_valid 0 (valid ||| bit)).setF F.mgtFw_update 0 updStaged).flag F.mgtStatus_fwStaged)
  else
    let s := if f.sigOk then s.flag F.secStatus_fwRollback else s
    (.error, (s.setF F.mgtFw_valid 0 (valid &&& (3 - bit))).setF F.mgtFw_update 0 updFailed)

/-- A transfer is written to the slot; the last one brings the verification. -/
def State.fwTransfer (s : State) (offset bytes : Nat) (last : Option FwFacts) : Answer × State :=
  if 16777216 < offset + bytes then (.error, s)
  else
    let slot := s.updateSlot
    let old := if s.getF F.mgtFw_update = updReceiving then (s.fwSlot slot).written else 0
    let s := (s.setFwSlot slot { FwSlot.fresh with written := max old (offset + bytes) }).setF F.mgtFw_update 0 updReceiving
    match last with
    | none => (.ok, s)
    | some f => s.fwVerify f

/-- In SLEEP the first request of an update wakes the device before any answer (R688). -/
def State.updateRequest (s : State) (t : Transport) (body : State → Answer × State) : State :=
  if s.mode = .sleep then (if t = .i3c then s.startWake false else s) else s.mgmtRequest t true body

/-- PLDM_FW_TRANSFER. -/
def execPldmFwTransfer (t : Transport) (offset bytes : Nat) (last : Option FwFacts) (s : State) : Host.Outcome State Fault Refusal :=
  .next (s.updateRequest t fun s => s.fwTransfer offset bytes last)

/-- ACTIVATE_FIRMWARE: the updated slot runs from the next start. -/
def execActivateFirmware (t : Transport) (s : State) : Host.Outcome State Fault Refusal :=
  .next (s.updateRequest t fun s =>
    if s.getF F.mgtFw_update = updStaged then (.ok, s.setF F.mgtFw_active 0 s.updateSlot) else (.error, s))

/-- An update that is not activated is abandoned when the management processor restarts. -/
def State.abandonUpdate (s : State) : State :=
  let u := s.getF F.mgtFw_update
  if u = updReceiving ∨ u = 2 ∨ (u = updStaged ∧ s.getF F.mgtFw_active = s.getF F.mgtFw_running) then s.setF F.mgtFw_update 0 updIdle else s

/-! ### Windows, heartbeat, watchdog (R691 to R694, R701) -/

/-- Is the management processor's domain powered and out of reset? -/
def State.mgmtRuns (s : State) : Bool := !s.pwr.dead && !s.pwr.inReset

/-- Records of the flash log: 223 MiB of 64 bytes. -/
def flashRecords : Nat := 3653632

/-- Deferred logging copies the records of the ring in SEQ order. -/
def State.logRecords (s : State) : State :=
  let rs := s.mgt.unlogged.filterMap fun q => (s.mgt.ring.find? fun e => e.2.seq == q).map (·.2)
  s.onMgt fun m =>
    let all := m.flash ++ rs
    { m with flash := all.drop (all.length - flashRecords), unlogged := [] }

/-- A 10 ms window ends: its queues have been served, what was not shed has been done, and the demand decides what is shed next. -/
def State.windowEnds (s : State) (demand : Nat) : State :=
  let s := if s.mgt.shedTel then s.addF F.mgtShed_telemetry 0 1 else s
  let s := if s.mgt.shedLog then s.addF F.mgtShed_log 0 1 else s.logRecords
  let s := s.onMgt fun m => { m with qExc := 0, qMctp := 0, qTel := 0 }
  if 100 < demand then
    if !s.mgt.shedTel then (s.onMgt fun m => { m with shedTel := true }).flag F.mgtStatus_shedTelemetry
    else if !s.mgt.shedLog then (s.onMgt fun m => { m with shedLog := true }).flag F.mgtStatus_shedLog
    else s
  else if demand ≤ 90 then
    if s.mgt.shedLog then s.onMgt fun m => { m with shedLog := false }
    else s.onMgt fun m => { m with shedTel := false }
  else s

/-- MGT_WINDOW. -/
def execMgtWindow (demandPercent : Nat) (s : State) : Host.Outcome State Fault Refusal :=
  .next (if s.mgmtRuns then s.windowEnds demandPercent else s)

/-- MGT_HEARTBEAT_TICK. -/
def execMgtHeartbeatTick (s : State) : Host.Outcome State Fault Refusal :=
  .next (if s.mgmtRuns then
      (s.setF F.mgtHeartbeat_count 0 (s.getF F.mgtHeartbeat_count + 1)).onMgt fun m => { m with stallMs := 0 }
    else s)

/-- MP_STALL_WATCHDOG: another 100 ms without a change. -/
def execMpStallWatchdog (s : State) : Host.Outcome State Fault Refusal :=
  .next (if s.mgmtRuns then (s.onMgt fun m => { m with stallMs := m.stallMs + 100 }).flag F.mgtStatus_mpStall else s)

/-- MP_RESTART: the queues, the sessions and an update not activated are lost; ring, snapshots and registers stay. -/
def execMpRestart (s : State) : Host.Outcome State Fault Refusal :=
  .next (if s.mgmtRuns ∧ s.act F.mgtWatchdog_restartMs ≤ s.mgt.stallMs then
      let s := (s.mgmtRestarts.abandonUpdate).onMgt fun m => { m with stallMs := 0 }
      s.flag F.mgtStatus_mpRestart
    else s)

/-- MGT_FAULT_ACK_WRITE: a value ahead of SEQ leaves ACK, and so whether class 3 is shown, open (R710). -/
def State.ackWrite (s : State) (v : Word) : State :=
  let (v, s) := s.cleanWrite (F.mgtFaultAck_ack.off 0) v
  let a := fieldOf v 0 32
  let ahead := (a + 2 ^ 32 - s.getF F.mgtFaultSeq_seq) % 2 ^ 32
  if 1 ≤ ahead ∧ ahead ≤ 2 ^ 31 - 1 then
    let (x, s) := s.fresh
    s.setF F.mgtFaultAck_ack 0 (fieldOf x 0 32)
  else s.setF F.mgtFaultAck_ack 0 a

/-- MGT_FAULT_ACK_WRITE. -/
def execMgtFaultAckWrite (v : Word) (s : State) : Host.Outcome State Fault Refusal := .next (s.ackWrite v)

/-! ### TEL (R707, R709) -/

/-- Is the offset a TEL counter? -/
def telCounter (off : Nat) : Bool := decide (F.telT0Bytes_count.base ≤ off) && decide (off < F.telFrameWales_count.base + 8 * 256)

/-- INTERVAL as written; 0 lies outside its range and acts as 1. -/
def State.telWritten (s : State) : Nat := max 1 (s.getF F.telCtl_interval)

/-- The snapshot: every counter takes the count of the window that ends; cell cycles and energy are the silicon's own. -/
def State.snapshot (s : State) : State :=
  if s.wale.toNat % s.mgt.telInterval ≠ 0 ∨ s.wale = s.mgt.telStart then s
  else
    let counts := s.mgt.telOpen
    let (cycles, s) := s.fresh
    let (joules, s) := s.fresh
    let s : State := { s with regs := counts.foldl (fun t e => t.put e.1 (BitVec.ofNat 64 (min e.2 (2 ^ 64 - 1)))) (s.regs.filter fun e => !telCounter e.1) }
    let s := (s.setReg (F.telCellCycles_count.off 0) cycles).setReg (F.telEnergyJ_count.off 0) joules
    let n := nextSeq s.mgt.telSnaps
    let s := ((s.setF F.telSnapSeq_seq 0 n).setF F.telSnapWale_wale 0 s.mgt.telStart.toNat).setF F.telSnapNs_count 0
      (s.sched.start.toNat - s.mgt.telStartNs.toNat)
    s.onMgt fun m => { m with
      telOpen := [], telStart := s.wale, telStartNs := s.sched.start, telSnaps := n, telInterval := s.telWritten }

/-- TEL_SNAPSHOT. -/
def execTelSnapshot (s : State) : Host.Outcome State Fault Refusal := .next s.snapshot

/-- TEL_CTL_WRITE: INTERVAL takes effect at the next snapshot. -/
def execTelCtlWrite (v : Word) (s : State) : Host.Outcome State Fault Refusal := .next (s.plainWrite (F.telCtl_interval.off 0) v)

/-! ### The host link and the endpoint (R483, R687) -/

/-- HOST_LINK_DOWN. -/
def execHostLinkDown (s : State) : Host.Outcome State Fault Refusal := .next s.hostDown

/-- HOST_LINK_TRAINED: x16, x8 or x4 at 64 GT/s; a host port lost with its die does not train. -/
def execHostLinkTrained (width : Nat) (pbr : Bool) (s : State) : Host.Outcome State Fault Refusal :=
  .next (if (width = 16 ∨ width = 8 ∨ width = 4) ∧ s.mgmtRuns ∧ s.getF F.pwrState_shadow = 0 then
      (((s.setF F.hptLink_state 0 2).setF F.hptLink_width 0 width).setF F.hptLink_rateGt 0 64).setF F.hptLink_pbr 0 pbr.toNat
    else s)

/-- ENDPOINT_ID_ASSIGNMENT. -/
def execEndpointIdAssignment (eid : BitVec 8) (s : State) : Host.Outcome State Fault Refusal :=
  .next (if s.mgmtRuns then s.setF F.mgtId_mctpEid 0 eid.toNat else s)

end Sys2Proof.Machine
end

