-- ==== Sys2Proof/Machine/Sec.lean ====
section
/-! DEFINITION. Scan jobs, SPDM, enrolment and release (R620, R622 to R624, R627 to R631, R635 to R637, R646 to R651). -/
namespace Sys2Proof.Machine

/-! ### Scan jobs -/

/-- The range of a scan job, and why it ends at once: a start or a length outside its rule, a range beyond the store. -/
def State.scanRange (s : State) (u : Nat) : Nat × Nat × Option Code :=
  let a := s.reg (F.chkScanAddr_addr.off u)
  let n := s.getF F.chkScanLen_length u
  let ok := saClass a == 0 && !saReserved a && saDevice a == s.device.toNat && saOffset a % 64 == 0 && decide (1 ≤ n) && decide (n ≤ 2 ^ 40)
  let beyond := decide (s.storeSize < saOffset a + n)
  (saOffset a, n, if !ok then some .malformed else if beyond then some .absent else none)

/-- A scan job ends. -/
def State.scanEnd (s : State) (u code pos : Nat) : State :=
  ((s.setF F.chkScanCmd_busy u 0).setF F.chkScanCmd_code u code).setF F.chkScanPos_pos u pos

/-- The lines of a range that lie in a block: STORE offset of the first, and how many. -/
def scanLines (off n b : Nat) : Nat × Nat :=
  let lo := max (off / 64) (4096 * b)
  let hi := min ((off + n + 63) / 64) (4096 * (b + 1))
  (64 * lo, hi - lo)

/-- The job loads each line as tenant 0, block by block. -/
def State.scanLoads (s : State) (off n : Nat) : State :=
  (blocksOf off n).foldl (fun s b =>
    let (at_, k) := scanLines off n b
    s.homeAccess { who := .device, tenant := 0, off := at_, kind := .load k, resv := none }) s

/-- A write of CHK_SCAN_CMD: it starts a job; while one runs it is ignored. A reserved OP ends with a code left open (assumption
24). -/
def State.scanCommand (s : State) (u : Nat) (w : Word) : State :=
  if !fitted s.code F.chkScanCmd_op.base 4 u then s
  else if s.getF F.chkScanCmd_busy u = 1 then s.flag F.chkStatus_scanOverrun { index := u }
  else
    let (w, s) := s.cleanWrite (F.chkScanCmd_op.off u) w
    let s := s.writeReg (F.chkScanCmd_op.off u) w
    let op := s.getF F.chkScanCmd_op u
    if op = 0 then s
    else if op = 3 then
      let (v, s) := s.fresh
      s.scanEnd u (v.toNat % 256) 0
    else
      match s.scanRange u with
      | (_, _, some c) => s.scanEnd u c.num 0
      | (off, n, none) => (s.setF F.chkScanCmd_busy u 1).scanLoads off n

/-- SCAN_CRC64. -/
def execScanCrc64 (u : Nat) (w : Word) (s : State) : Host.Outcome State Fault Refusal :=
  withUnit (decide (u < 4)) (.next (s.scanCommand u (putBits w 0 2 1)).finish)

/-- SCAN_CRC32C. -/
def execScanCrc32c (u : Nat) (w : Word) (s : State) : Host.Outcome State Fault Refusal :=
  withUnit (decide (u < 4)) (.next (s.scanCommand u (putBits w 0 2 2)).finish)

/-- The offset, from the start of the range, of the first line that reads POISON. -/
def State.scanPoison (s : State) (off n : Nat) : Option Nat :=
  (blocksOf off n).findSome? fun b =>
    let e := s.blk b
    let (at_, k) := scanLines off n b
    let bad (l : Nat) : Bool := decide (at_ / 64 ≤ 4096 * b + l) && decide (4096 * b + l < at_ / 64 + k)
    if e.state = .quarantined then some (at_ - off)
    else if e.state = .live ∨ e.state = .migrating ∨ e.state = .sealing then
      ((List.range 4096).find? fun l => bad l && e.poison.contains l).map fun l => blockBytes * b + 64 * l - off
    else none

/-- A job ends once each of its loads has been served: with its CRC over the bytes, or at the first POISON line. -/
def State.scanJobEnd (s : State) (u : Nat) : State :=
  let (off, n, _) := s.scanRange u
  let waits := s.waitingAccesses.any fun a => a.who == .device && a.tenant == 0 && decide (off / 64 ≤ a.off / 64) && decide (a.off < off + n)
  if s.getF F.chkScanCmd_busy u = 0 ∨ waits then s
  else match s.scanPoison off n with
    | some p => (s.scanEnd u Code.poison.num p).flag F.chkStatus_scanPoison { index := u }
    | none =>
      let bytes := (List.range n).map fun i => s.peekOff (off + i)
      let crc := if s.getF F.chkScanCmd_op u = 1 then (crc64 bytes).toNat else (crc32c bytes).toNat
      (s.setF F.chkScanResult_crc u crc).scanEnd u Code.done.num n

/-- SCAN_JOB_END. -/
def execScanJobEnd (u : Nat) (s : State) : Host.Outcome State Fault Refusal :=
  withUnit (decide (u < 4)) (.next (s.scanJobEnd u).finish)

/-! ### SPDM: the negotiation of a transport -/

/-- How far a transport's negotiation is. -/
def State.spdmStage (s : State) : Transport → SpdmStage
  | .i3c => s.sec.i3c
  | .cxl => s.sec.cxl

/-- Set it. -/
def State.setStage (s : State) (t : Transport) (g : SpdmStage) : State :=
  s.onSec fun x => match t with
    | .i3c => { x with i3c := g }
    | .cxl => { x with cxl := g }

/-- An SPDM request. -/
def State.spdm (s : State) (t : Transport) (body : State → Answer × State) : State := s.mgmtRequest t false body

/-- One private-key or `n` public-key operations (R642, R651). -/
def State.privateOp (s : State) : State := s.addF F.secPkCount_private 0 1
/-- Public-key operations. -/
def State.publicOps (s : State) (n : Nat) : State := s.addF F.secPkCount_public 0 n

/-- GET_VERSION: SPDM 1.2; the negotiation begins anew. -/
def execGetVersion (t : Transport) (s : State) : Host.Outcome State Fault Refusal :=
  .next (s.spdm t fun s => (.value 0x12, s.setStage t .version))

/-- GET_CAPABILITIES. -/
def execGetCapabilities (t : Transport) (s : State) : Host.Outcome State Fault Refusal :=
  .next (s.spdm t fun s =>
    if s.spdmStage t = .version then (.value (Config.spdmValue 0 0 |> BitVec.ofNat 64), s.setStage t .capabilities) else (.error, s))

/-- NEGOTIATE_ALGORITHMS: RSASSA-PSS 4096, SHA-512, FFDHE4096, AES-256-GCM are what there is. -/
def execNegotiateAlgorithms (t : Transport) (s : State) : Host.Outcome State Fault Refusal :=
  .next (s.spdm t fun s => if s.spdmStage t = .capabilities then (.ok, s.setStage t .negotiated) else (.error, s))

/-- A request that needs the negotiation to be over. -/
def State.spdmAfter (s : State) (t : Transport) (body : State → Answer × State) : State :=
  s.spdm t fun s => if s.spdmStage t = .negotiated then body s else (.error, s)

/-! ### Certificates and measurements -/

/-- The number that names the chain in a slot: the vendor chain, or the owner chain (R627). -/
def State.chainValue (s : State) (slot : Nat) : Option Nat :=
  if slot = 0 then some (Config.spdmValue 1 0)
  else if slot = 1 then s.sec.slot1.map fun c => Config.spdmValue 1 (1 + c.root)
  else none

/-- GET_DIGESTS: the digest of each slot that holds a chain. -/
def execGetDigests (t : Transport) (s : State) : Host.Outcome State Fault Refusal :=
  .next (s.spdmAfter t fun s => (.values ([0, 1].filterMap s.chainValue), s))

/-- GET_CERTIFICATE: a portion of the chain of a slot. -/
def execGetCertificate (t : Transport) (slot offset length : Nat) (s : State) : Host.Outcome State Fault Refusal :=
  .next (s.spdmAfter t fun s => match s.chainValue slot with
    | none => (.error, s)
    | some c => (.values [c, offset, length], s))

/-- A fresh nonce of the device. -/
def State.nonce (s : State) : BitVec 256 × State :=
  (Config.nonce s.sec.nonces, s.onSec fun x => { x with nonces := x.nonces + 1 })

/-- CHALLENGE: signed with the device key over the nonces. -/
def execChallenge (t : Transport) (slot : Nat) (_nonce : BitVec 256) (s : State) : Host.Outcome State Fault Refusal :=
  .next (s.spdmAfter t fun s =>
    if (s.chainValue slot).isNone then (.error, s)
    else
      let (n, s) := s.privateOp.nonce
      (.nonce n, s))

/-- What a measurement block is a digest of (R636): the ROM, the running firmware, the full image, the partial chain, the library of
the running image, the state record. -/
def State.measured (s : State) (i : Nat) : Nat :=
  match i with
  | 2 => s.getF F.mgtFw_version
  | 3 => s.getF F.weaveImageId_all
  | 4 => s.sec.chain.foldl (fun a p => Config.spdmValue 104 (a * 2 ^ 64 + p.toNat)) 0
  | 5 => s.getF F.weaveImageId_all * 2 ^ 16 + s.sec.chain.length
  | 6 => pack [(0, s.mode.num), (8, s.getF F.secFwRollback_counter), (40, s.getF F.weaveRollback_counter), (72, s.getF F.secStandId_id),
      (136, s.getF F.secState_enrolled), (137, s.getF F.hptLink_ideIo), (138, s.getF F.hptLink_ideMem)]
  | _ => 0

/-- GET_MEASUREMENTS: index 0 asks how many blocks there are, 255 for all, 1 to 6 for one; the answer is signed. -/
def execGetMeasurements (t : Transport) (index : Nat) (_nonce : BitVec 256) (s : State) : Host.Outcome State Fault Refusal :=
  .next (s.spdmAfter t fun s =>
    let block (i : Nat) : Nat := Config.spdmValue (100 + i) (s.measured i)
    let s' := s.privateOp
    if index = 0 then (.value 6, s')
    else if index = 255 then (.values ((List.range 6).map fun i => block (i + 1)), s')
    else if index ≤ 6 then (.values [block index], s')
    else (.error, s))

/-! ### Secure sessions -/

/-- The session of a number on a transport. -/
def State.session (s : State) (t : Transport) (id : Nat) : Option Session :=
  s.sec.sessions.find? fun x => x.id == id && x.transport == t

/-- KEY_EXCHANGE: the responder signs; four sessions at once. -/
def execKeyExchange (t : Transport) (_share : Nat) (s : State) : Host.Outcome State Fault Refusal :=
  .next (s.spdmAfter t fun s =>
    if 4 ≤ s.sec.sessions.length then (.error, s)
    else
      let id := s.sec.nextSession
      let s := (s.privateOp).onSec fun x => { x with nextSession := x.nextSession + 1 }
      (.value (BitVec.ofNat 64 id), s.setSessions (s.sec.sessions ++ [{ id := id, transport := t, finished := false, updates := 0 }])))

/-- FINISH: the requester's HMAC completes the session, or ends it. -/
def execFinish (t : Transport) (session : Nat) (ok : Bool) (s : State) : Host.Outcome State Fault Refusal :=
  .next (s.spdmAfter t fun s => match s.session t session with
    | none => (.error, s)
    | some x =>
      if x.finished then (.error, s)
      else if ok then (.ok, s.setSessions (updWhere (fun y => y.id == session) (fun y => { y with finished := true }) s.sec.sessions))
      else (.error, s.setSessions (s.sec.sessions.filter fun y => y.id != session)))

/-- A request inside a finished session. -/
def State.inSession (s : State) (t : Transport) (session : Nat) (body : State → Answer × State) : State :=
  s.spdmAfter t fun s => if (s.session t session).any (·.finished) then body s else (.error, s)

/-- KEY_UPDATE. -/
def execKeyUpdate (t : Transport) (session : Nat) (s : State) : Host.Outcome State Fault Refusal :=
  .next (s.inSession t session fun s =>
    (.ok, s.setSessions (updWhere (fun y => y.id == session) (fun y => { y with updates := y.updates + 1 }) s.sec.sessions)))

/-- HEARTBEAT. -/
def execHeartbeat (t : Transport) (session : Nat) (s : State) : Host.Outcome State Fault Refusal :=
  .next (s.inSession t session fun s => (.ok, s))

/-- END_SESSION: the streams that the session keyed stop. -/
def execEndSession (t : Transport) (session : Nat) (s : State) : Host.Outcome State Fault Refusal :=
  .next (s.inSession t session fun s => (.ok, s.setSessions (s.sec.sessions.filter fun y => y.id != session)))

/-! ### Ownership -/

/-- GET_CSR: a request signed with the device key. -/
def execGetCsr (t : Transport) (session : Nat) (s : State) : Host.Outcome State Fault Refusal :=
  .next (s.inSession t session fun s => (.value (BitVec.ofNat 64 (Config.spdmValue 2 0)), s.privateOp))

/-- A SET_CERTIFICATE or RELEASE is refused. -/
def State.spdmRefused (s : State) : State := s.flag F.secStatus_spdmRefused

/-- The owner chain takes effect: owner key, enrolled stand, slot 1. -/
def State.enrol (s : State) (c : ChainFacts) : State :=
  let s := (s.onSec fun x => { x with ownerKey := some c.root, slot1 := some c }).rpWrite
  let s := ((s.setF F.secOwnerId_id 0 c.rootId.toNat).setF F.secStandId_id 0 c.standId.toNat).setF F.secState_slot1 0 1
  if s.getF F.secState_enrolled = 1 then s else (s.setF F.secState_enrolled 0 1).flag F.secStatus_enrolled

/-- SET_CERTIFICATE: slot 1 alone, inside a session; an enrolled device keeps its root and its stand. -/
def State.setCertificate (s : State) (t : Transport) (session slot : Nat) (c : ChainFacts) (rpOk : Bool) : Answer × State :=
  if slot ≠ 1 ∨ !(s.session t session).any (·.finished) then (.error, s.spdmRefused)
  else
    let s := s.publicOps c.certs
    let same : Bool := match s.sec.ownerKey with
      | none => true
      | some k => k == c.root && c.standId.toNat == s.getF F.secStandId_id
    if !c.ok ∨ 4 < c.certs ∨ !same then (.error, s.spdmRefused)
    else if !rpOk then (.error, s.flag F.secStatus_rpWriteFail)
    else (.ok, s.enrol c)

/-- SET_CERTIFICATE. -/
def execSetCertificate (t : Transport) (session slot : Nat) (c : ChainFacts) (rpOk : Bool) (s : State) : Host.Outcome State Fault Refusal :=
  .next (s.spdmAfter t fun s => s.setCertificate t session slot c rpOk)

/-- What RELEASE erases and clears; the rollback counters stay, and a start follows. -/
def State.disown (s : State) : State :=
  let s := s.onWeave fun w => { w with slotA := none, slotB := none, slotsKnown := true, restartDue := true }
  let s := s.onMgt fun m => { m with flash := [] }
  let s := (s.onSec fun x => { x with ownerKey := none, slot1 := none, releaseNonce := none }).rpWrite
  ((s.setF F.secOwnerId_id 0 0).setF F.secStandId_id 0 0).setF F.secState_enrolled 0 0 |>.setF F.secState_slot1 0 0

/-- RELEASE: signed by the owner key over the nonce of the previous response; any other is refused and learns a new nonce. -/
def State.runRelease (s : State) (t : Transport) (session : Nat) (sigOk : Bool) (nonce : BitVec 256) (rpOk : Bool) : Answer × State :=
  let refused (s : State) : Answer × State :=
    let (n, s) := s.nonce
    (.nonce n, (s.onSec fun x => { x with releaseNonce := some n }).spdmRefused)
  if !(s.session t session).any (·.finished) then (.error, s.spdmRefused)
  else if s.sec.ownerKey.isNone then refused s
  else
    let s := s.publicOps 1
    if !sigOk ∨ s.sec.releaseNonce ≠ some nonce then refused s
    else if !rpOk then (.error, s.flag F.secStatus_rpWriteFail)
    else (.ok, s.disown)

/-- RELEASE. -/
def execRelease (t : Transport) (session : Nat) (sigOk : Bool) (nonce : BitVec 256) (rpOk : Bool) (s : State) :
    Host.Outcome State Fault Refusal :=
  .next (s.spdmAfter t fun s => s.runRelease t session sigOk nonce rpOk)

end Sys2Proof.Machine
end

