-- ==== Sys2Proof/Machine/Xlt.lean ====
section
/-! DEFINITION. The commands of extents and translation (R123 to R163): ends of walks and fill records, the edits of
XLT_EDIT_CMD, and the drain of a withdrawn entry. -/
namespace Sys2Proof.Machine

/-! ### Extent entries as words (R126) -/

/-- Word 0 of an entry. -/
def Extent.word0 (e : Extent) : Word :=
  BitVec.ofNat 64 (pack [(0, match e.state with | .valid => 1 | .revoking => 2), (2, e.size1G.toNat), (3, e.rd.toNat),
    (4, e.wr.toNat), (5, e.at_.toNat), (6, e.mover.toNat), (7, e.host.toNat), (8, e.tenant.toNat), (25, e.tgran)])

/-- The entry that words 0 and 1 spell, as INSERT takes it. -/
def extentOf (w0 w1 : Word) : Extent :=
  { state := .valid, size1G := w0.getLsbD 2, rd := w0.getLsbD 3, wr := w0.getLsbD 4, at_ := w0.getLsbD 5,
    mover := w0.getLsbD 6, host := w0.getLsbD 7, tenant := BitVec.ofNat 8 (fieldOf w0 8 8), tgran := fieldOf w0 25 31,
    stand := w1 }

/-- Do two entries cover a common tenant address (R127)? -/
def Extent.overlaps (a b : Extent) : Bool :=
  a.tenant == b.tenant && (if a.size1G || b.size1G then a.tgran / 32 == b.tgran / 32 else a.tgran == b.tgran)

/-- The checks of INSERT (R149). -/
def State.insertOk (s : State) (w0 w1 : Word) : Bool :=
  let e := extentOf w0 w1
  fieldOf w0 0 2 == 1 && fieldOf w0 16 9 == 0 && fieldOf w0 56 8 == 0 &&
    (!e.size1G || e.tgran % 32 == 0) && saOffset w1 % e.bytes == 0 && saClass w1 == 0 && !saReserved w1 &&
    s.inStand (BitVec.ofNat 9 (saDevice w1)) && !s.xlt.entries.any fun x => x.overlaps e

/-- XLT_CAP.ENTRIES: the most entries the map holds (R126). -/
def mapLimit : Nat := 4194304

/-! ### Walks (R134 to R136) -/

/-- Does the walk's end wake this mover with an error? The code of the failed lookup, or none when it goes on. -/
def State.walkCode (s : State) (tn : Tenant) (g c ch : Nat) : Option Code :=
  match (s.chan c ch).run with
  | none => none
  | some r => match lookupIn (s.entryAt tn g) (g * granuleBytes) (mvDesc r.desc).wants true with
    | .fails code => some code
    | .stand _ _ => none

/-- TRANSLATION_WALK_END: the caches are filled from a VALID entry, and the joined movers resume in arrival order; an
uncorrectable error ends their lookups POISON (R157). -/
def execTranslationWalkEnd (die : Nat) (tenant : Tenant) (granule : Nat) (ue : Bool) (s : State) :
    Host.Outcome State Fault Refusal :=
  .next (match s.xlt.walks.find? fun w => w.die == die && w.tenant == tenant && w.granule == granule with
    | none => s
    | some w =>
      let s := s.onXlt fun x => { x with walks := x.walks.erase w }
      if ue then
        let s := s.flag F.xltStatus_walkUe { tenant := tenant.toNat, addr := BitVec.ofNat 64 (granule * granuleBytes) }
        (w.waiting.foldl (fun s m => s.moverFail m.1 m.2 .poison) s).finish
      else
        let s : State := match s.entryAt tenant granule with
          | some e => if e.state = .valid then s.fillCaches die e.key (w.waiting.map (·.1)) else s
          | none => s
        (w.waiting.foldl (fun s m => match s.walkCode tenant granule m.1 m.2 with
          | some code => s.moverFail m.1 m.2 code
          | none => s.moverResume m.1 m.2) s).finish)

/-! ### Fill records (R143, R144, R152) -/

/-- Take a mover's access out of the queues it waits in. -/
def State.dropPending (s : State) (c ch : Nat) : State :=
  let mine (a : Access) : Bool := a.who == .mover c ch
  let s := s.onTier fun t => { t with
    blocks := t.blocks.map fun e => (e.1, { e.2 with waiting := e.2.waiting.filter fun a => !mine a })
    allocWaits := t.allocWaits.filter fun w => match w.2 with
      | .access a => !mine a
      | _ => true }
  s.onHpt fun h => { h with dir := h.dir.map fun e => (e.1, { e.2 with waiting := e.2.waiting.filter fun a => !mine a }) }

/-- Did the mover's block fail the way the fill record ended (R143)? -/
def State.fillFailedFor (s : State) (o : FillOutcome) (c ch : Nat) : Bool :=
  match s.moverBlock c ch with
  | none => false
  | some b => match o with
    | .held => false
    | .poison => (s.blk b).state == .quarantined
    | .quota => !s.moverReads b && (s.blk b).t0 == .none && (s.blk b).t1 == .none
    | .dead => !s.moverReads b || (s.blk b).cow.isSome

/-- A mover that waited on a fill record: it ends with the failure of its block, or goes on; a line whose entry is
REVOKING is translated again (R152). -/
def State.fillResume (s : State) (o : FillOutcome) (tn : Tenant) (g c ch : Nat) : State :=
  if s.fillFailedFor o c ch then (s.dropPending c ch).moverFail c ch o.code
  else
    let gone : Bool := match s.entryAt tn g with
      | some e => e.state == .revoking
      | none => true
    (if gone then s.dropPending c ch else s).moverResume c ch

/-- FILL_RECORD_END. -/
def execFillRecordEnd (die record : Nat) (outcome : FillOutcome) (s : State) : Host.Outcome State Fault Refusal :=
  .next (match s.xlt.fills.find? fun f => f.die == die && f.id == record with
    | none => s
    | some f =>
      if s.fillEnds f outcome then
        let s := s.onXlt fun x => { x with fills := x.fills.erase f }
        let s := if outcome = .held then s
          else s.flag F.xltStatus_fillFailed
            { tenant := f.tenant.toNat, dieType := 1, die := die, addr := BitVec.ofNat 64 (f.granule * granuleBytes) }
        let s := s.serveFillWaits (s.xlt.fillWaits.length + 1) die
        (f.waiting.foldl (fun s m => s.fillResume outcome f.tenant f.granule m.1 m.2) s).finish
      else s)

/-! ### XLT_EDIT_CMD (R148 to R160) -/

/-- INSERT (R149). -/
def State.xltInsertRun (s : State) : State :=
  let w0 := s.reg (F.xltEditW0_all.off 0)
  let w1 := s.reg (F.xltEditW1_all.off 0)
  if !s.insertOk w0 w1 then s.xltEnd .malformed 0
  else if mapLimit ≤ s.xlt.entries.length then s.xltEnd .quota 0
  else (s.onXlt fun x => { x with entries := x.entries ++ [extentOf w0 w1] }).xltEnd .done 0

/-- The entry that REVOKE and LOOKUP act on (R159). -/
def State.editEntry (s : State) : Option Extent :=
  let w0 := s.reg (F.xltEditW0_all.off 0)
  s.entryAt (BitVec.ofNat 8 (fieldOf w0 8 8)) (fieldOf w0 25 31)

/-- STATE of an entry. -/
def EState.num : EState → Nat
  | .valid => 1 | .revoking => 2

/-- REVOKE, steps 1 and 2 (R150): BUSY stays 1 until the drain ends. -/
def State.xltRevokeRun (s : State) : State :=
  match s.editEntry with
  | none => s.xltEnd .absent 0
  | some e =>
    let s := (s.setF F.xltEditResult_state 0 e.state.num).setF F.xltEditResult_aborted 0 0
    (s.onXlt fun x => { x with revoking := some e.key }).startRevoke e.key

/-- LOOKUP (R159). -/
def State.xltLookupRun (s : State) : State :=
  match s.editEntry with
  | none => s.xltEnd .absent 0
  | some e =>
    ((s.setReg (F.xltEditW0_all.off 0) e.word0).setReg (F.xltEditW1_all.off 0) e.stand).xltEnd .done e.state.num

/-- SET_HOME (R159). -/
def State.xltSetHomeRun (s : State) : State :=
  let w0 := s.reg (F.xltEditW0_all.off 0)
  let w1 := s.reg (F.xltEditW1_all.off 0)
  let mode := fieldOf w0 8 2
  let addrOk := saClass w1 == 0 && !saReserved w1 && saDevice w1 == s.device.toNat && saOffset w1 % granuleBytes == 0
  if !addrOk || mode == 3 || fieldOf w0 10 54 != 0 then s.xltEnd .malformed 0
  else if s.storeSize ≤ saOffset w1 then s.xltEnd .absent 0
  else
    let m : HomeMode := if mode = 0 then .none else if mode = 1 then .priv else .commons
    let r : HomeRec := { owner := BitVec.ofNat 8 (fieldOf w0 0 8), mode := m }
    (s.onXlt fun x => { x with homes := x.homes.put (saOffset w1 / granuleBytes) r }).xltEnd .done 0

/-- A write of an edit register while BUSY is ignored and sets EDIT_OVERRUN (R154). -/
def State.xltBusy (s : State) : Bool := s.getF F.xltEditCmd_busy == 1

/-- A write of XLT_EDIT_CMD (R160). A reserved OP ends with a code that the manual leaves open (assumption 24). -/
def State.xltCommand (s : State) (w : Word) : State :=
  if s.xltBusy then s.flag F.xltStatus_editOverrun
  else
    let off := F.xltEditCmd_op.off 0
    let (w, s) := s.cleanWrite off w
    let s := s.writeReg off w
    let op := s.getF F.xltEditCmd_op
    if op = 0 then s
    else
      let s := s.setF F.xltEditCmd_busy 0 1
      if op = 1 then s.xltInsertRun
      else if op = 2 then s.xltRevokeRun
      else if op = 3 then s.xltLookupRun
      else if op = 4 then s.xltSetHomeRun
      else
        let (v, s) := s.fresh
        (s.setF F.xltEditCmd_busy 0 0).setF F.xltEditResult_code 0 (v.toNat % 256)

/-- XLT_INSERT. -/
def execXltInsert (w : Word) (s : State) : Host.Outcome State Fault Refusal := .next (s.xltCommand (putBits w 0 3 1)).finish
/-- XLT_REVOKE. -/
def execXltRevoke (w : Word) (s : State) : Host.Outcome State Fault Refusal := .next (s.xltCommand (putBits w 0 3 2)).finish
/-- XLT_LOOKUP. -/
def execXltLookup (w : Word) (s : State) : Host.Outcome State Fault Refusal := .next (s.xltCommand (putBits w 0 3 3)).finish
/-- XLT_SET_HOME. -/
def execXltSetHome (w : Word) (s : State) : Host.Outcome State Fault Refusal := .next (s.xltCommand (putBits w 0 3 4)).finish

/-! ### The drain (R150, R509) -/

/-- The keys a withdrawal of Dynamic Capacity drains have nothing in flight. -/
def State.dcDrained (s : State) (o : DcOp) : Bool := o.phase == .draining && !o.keys.any s.inFlight

/-- REVOKE_DRAIN_END: accesses translated through a withdrawn entry have completed. -/
def execRevokeDrainEnd (s : State) : Host.Outcome State Fault Refusal :=
  let s := match s.xlt.revoking with
    | some k => if s.inFlight k then s else s.revokeDone
    | none => s
  .next (s.hpt.dcOps.foldl (fun s o => if s.dcDrained o then s.dcRecall o else s) s).finish

/-- REVOKE_DRAIN_TIMEOUT: accesses still in flight after XLT_REVOKE_BOUND end ABORTED. -/
def execRevokeDrainTimeout (s : State) : Host.Outcome State Fault Refusal :=
  let s := match s.xlt.revoking with
    | some k =>
      let (n, s) := s.abortThrough k
      (s.addF F.xltEditResult_aborted 0 n).revokeDone
    | none => s
  .next (s.hpt.dcOps.foldl (fun s o =>
    if o.phase = .draining then (o.keys.foldl (fun s k => (s.abortThrough k).2) s).dcRecall o else s) s).finish

end Sys2Proof.Machine
end

