-- ==== Sys2Proof/Machine/Registers.lean ====
section
/-! DEFINITION. The register space: what a register reads as, the registers that show other state, what a write does, and the
commands that reach registers as such (R9 to R12, R24, R697, R698, R738). -/
namespace Sys2Proof.Machine

/-! ### Registers that show other state -/

/-- A word with fields replaced. -/
def withFields (w : Word) (l : List (Fld × Nat)) : Word := l.foldl (fun w e => putBits w e.1.lo e.1.width e.2) w

/-- A count that saturates in a field's width. -/
def Fld.sat (f : Fld) (n : Nat) : Nat := min n (2 ^ f.width - 1)

/-- The words of a fault record (R699). -/
def FaultRec.word (r : FaultRec) (w : Nat) : Word :=
  match w with
  | 0 => BitVec.ofNat 64 (pack [(0, r.seq), (32, r.block), (36, r.bit), (42, r.dieType), (44, r.die), (48, r.tenant), (56, r.index)])
  | 1 => BitVec.ofNat 64 (pack [(0, r.wale.toNat), (48, r.count)])
  | 2 => r.stime
  | 3 => r.addr
  | 4 => r.status
  | 5 => r.arg
  | _ => 0

/-- Is ALERT_N asserted (R673)? -/
def State.alertDriven (s : State) : Bool :=
  decide (1 ≤ s.getF F.pwrState_stage) || s.pendingClass 0 6 || s.pendingClass 0 7

/-- Is a rail up (R653, R654, R672)? -/
def State.railOn (s : State) (r : Nat) : Bool :=
  if s.pwr.dead then false
  else if r = 7 then true
  else if s.pwr.thermOff || s.pwr.overOff then false
  else
    let off : List Mode :=
      if r = 0 then [.rest, .sleep, .crust] else if r = 4 then [.sleep, .crust] else if r = 5 ∨ r = 6 then [.sleep] else []
    !off.contains s.mode

/-- Are a layer's T0 copies HELD? -/
def State.layerHeld (s : State) (l : LayerEntry) : Bool := l.blockList.all fun b => (s.blk b).t0 == .held

/-- TIER_STREAM[d] (R120): a die with no STREAM step open is IDLE. -/
def State.streamView (s : State) (d : Nat) (w : Word) : Word :=
  match s.stream d with
  | none => w
  | some v =>
    let open_ := s.sched.runs.any fun e => e.2.open_.any fun o => o.kind == .stream && o.die == d
    let cur := v.layers[v.layer]?
    let refetch := (cur.map fun l => s.tier.blocks.any fun b => b.2.refetch.isSome && l.holds b.1).getD false
    let stalled := s.cell.cells.any fun e => dieOf e.1 == d && s.streamWait e.1 e.2
    let ahead := ((v.layers.drop (v.layer + 1)).take v.window).takeWhile s.layerHeld
    withFields w [(F.tierStream_layer, v.layer), (F.tierStream_window, v.window), (F.tierStream_readyAhead, ahead.length),
      (F.tierStream_state, if !open_ then 0 else if refetch then 4 else if stalled then 3 else 1),
      (F.tierStream_packed, ((cur.map (·.packed)).getD false).toNat)]

/-- SCHED_TRACK[t] (R299). -/
def State.trackView (s : State) (t : Nat) (w : Word) : Word :=
  match s.sched.tracks.find? fun e => e.1 == t with
  | none => w
  | some (_, r) =>
    let pos := (((s.wale.toNat : Int) - (r.origin.toNat : Int)) % (r.cycle.length : Int)).toNat
    let run := (s.sched.runs.find? fun e => e.1 == t).map (·.2)
    let next := (run.map (·.next)).getD 0
    let state := match run with
      | none => 0
      | some x =>
        if x.failed then 4
        else if x.open_.isEmpty ∧ (x.ended ∨ (s.templateAt t s.wale).isNone) then 2
        else if s.sched.holds ≠ [] then 3
        else if x.next = 0 then 0 else 1
    withFields w [(F.schedTrack_tenant, r.tenant.toNat), (F.schedTrack_active, 1), (F.schedTrack_template, r.cycle.getD pos 0),
      (F.schedTrack_cyclePos, pos), (F.schedTrack_step, next - 1), (F.schedTrack_state, state)]

/-- SRCH_SHARD[s] (R412). -/
def State.shardView (s : State) (i : Nat) (w : Word) : Word :=
  match s.srch.slots.find? fun e => e.1 == i with
  | none => w
  | some (_, v) =>
    let users (p : Nat → Bool) : Nat := s.srch.parts.countP fun e => e.2.slot == i && p e.2.gen
    withFields w [(F.srchShard_state, if v.degraded then 2 else 1), (F.srchShard_form, v.cur.form), (F.srchShard_die, v.cur.die),
      (F.srchShard_tenant, v.cur.tenant.toNat), (F.srchShard_users, users (· == v.gen)), (F.srchShard_oldUsers, users (· != v.gen))]

/-- HPT_COM[c] (R530): VIEWS counts the views of a version other than the latest. -/
def State.commonsView (s : State) (c : Nat) (w : Word) : Word :=
  match s.commonsAt c with
  | none => w
  | some v => withFields w [(F.hptCom_valid, 1), (F.hptCom_owner, v.owner.toNat), (F.hptCom_granules, v.blocks / granuleBlocks),
      (F.hptCom_live, v.versions.length), (F.hptCom_views, v.views.countP fun x => x.2.2 != v.latest)]

/-- SVC_CTX[c] (R354). -/
def State.ctxView (s : State) (n : Nat) (w : Word) : Word :=
  match s.svc.ctxs.find? fun e => e.1 == n with
  | none => w
  | some (_, c) => withFields w [(F.svcCtx_state, c.state.num), (F.svcCtx_tenant, c.tenant.toNat), (F.svcCtx_model, c.model),
      (F.svcCtx_ringSlot, c.ringSlot), (F.svcCtx_resumed, (c.resumed || c.wasResumed).toNat), (F.svcCtx_index, c.index)]

/-- MAP_MIRROR (R570). -/
def State.mirrorView (s : State) (w : Word) : Word :=
  withFields w [(F.mapMirror_used, (s.map.mirrors.map fun e => e.2.frames.length).sum),
    (F.mapMirror_contexts, (s.map.mirrors.map fun e => e.2.ctxs.length).sum)]

/-- The state registers of the schedule. -/
def State.schedView (s : State) (base i : Nat) (w : Word) : Word :=
  if base = F.schedWale_wale.base then withFields w [(F.schedWale_wale, s.wale.toNat)]
  else if base = F.schedStime_stime.base then s.stime
  else if base = F.schedHold_localCause.base then withFields w [(F.schedHold_localCause, s.sched.holds.getLast?.getD 0)]
  else if base = F.schedTrack_tenant.base then s.trackView i w
  else w

/-- The state registers of the service and the search. -/
def State.serviceView (s : State) (base i : Nat) (w : Word) : Word :=
  let held (p : Nat → Bool) : Nat := ((s.svc.apertures.filter fun e => p e.1).map fun e => e.2.heldSlots).sum
  if base = F.svcCtxUsed_live.base then
    withFields w [(F.svcCtxUsed_live, s.svc.ctxs.countP fun e => e.2.live), (F.svcCtxUsed_held, held (· < 256))]
  else if base = F.svcAperture_lines.base then
    withFields w [(F.svcAperture_held, held (· == i)), (F.svcAperture_live, s.liveOf (BitVec.ofNat 8 i))]
  else if base = F.svcCtx_state.base then s.ctxView i w
  else if base = F.srchCtxUsed_home.base then
    withFields w [(F.srchCtxUsed_home, s.srch.homes.length), (F.srchCtxUsed_part, s.srch.parts.length),
      (F.srchCtxUsed_pending, s.srch.pending.length)]
  else if base = F.srchArray_state.base then
    withFields w [(F.srchArray_calAgeUs,
      F.srchArray_calAgeUs.sat ((s.stime.toNat - (s.srch.calAt.get i (0, 0)).1.toNat) / 1000))]
  else if base = F.srchShard_state.base then s.shardView i w
  else w

/-- The state registers of the fabric, the host port and the map. -/
def State.fabricView (s : State) (base i : Nat) (w : Word) : Word :=
  if base = F.swcReplayUsed_kib.base then withFields w [(F.swcReplayUsed_kib, s.replayBytes / 1024)]
  else if base = F.swcReseqUsed_slots.base then
    withFields w [(F.swcReseqUsed_slots, (s.fab.rx.map fun f => f.held.length).sum)]
  else if base = F.swcOut_usedKib.base then
    withFields w [(F.swcOut_usedKib, s.queued i / 1024), (F.swcOut_sharedFreeKib, (s.sharedBytes - (s.port i).sharedUsed) / 1024)]
  else if base = F.hptDirUsed_used.base then withFields w [(F.hptDirUsed_used, s.hpt.dir.length)]
  else if base = F.hptCom_valid.base then s.commonsView i w
  else if base = F.hptComVer_latest.base then
    match s.commonsAt i with
    | some v => BitVec.ofNat 64 v.latest
    | none => w
  else if base = F.mapMirror_used.base then s.mirrorView w
  else w

/-- The state registers of the management and power blocks, the tiers and translation. -/
def State.deviceView (s : State) (base i : Nat) (w : Word) : Word :=
  if base = F.mgtFault_word.base then
    match s.mgt.ring.find? fun e => e.1 == i / 8 with
    | some (_, r) => r.word (i % 8)
    | none => w
  else if base = F.pwrState_mode.base then withFields w [(F.pwrState_mode, s.mode.num)]
  else if base = F.pwrPin_wakeLevel.base then withFields w [(F.pwrPin_alertDriven, s.alertDriven.toNat)]
  else if base = F.pwrRail_mv.base then withFields w [(F.pwrRail_on, (s.railOn i).toNat)]
  else if base = F.tierStream_layer.base then s.streamView i w
  else if base = F.xltUsed_used.base then withFields w [(F.xltUsed_used, s.xlt.entries.length)]
  else if base = F.xltFillOpen_open.base then
    withFields w [(F.xltFillOpen_open, s.xlt.fills.countP fun f => f.die == i),
      (F.xltFillOpen_waiting, s.xlt.fillWaits.countP fun f => f.die == i)]
  else w

/-- What the silicon measures is a free value at each read: input current and power, energy, rail voltages and currents. -/
def State.analogue (s : State) (base : Nat) (w : Word) : Word × State :=
  let some_ (l : List Fld) : Word × State :=
    let (v, s) := s.fresh
    (l.foldl (fun w f => putBits w f.lo f.width (fieldOf v f.lo f.width)) w, s)
  if base = F.pwrInput_mv.base then some_ [F.pwrInput_ca, F.pwrInput_watts]
  else if base = F.pwrEnergy_joules.base then some_ [F.pwrEnergy_joules]
  else if base = F.pwrRail_mv.base then some_ [F.pwrRail_mv, F.pwrRail_amps]
  else (w, s)

/-- The word of the register at an offset; zero where none lies, and for an instance that is not fitted (R24, R697). -/
def State.regValue (s : State) (off : Nat) : Word × State :=
  match regAt off with
  | none => (0, s)
  | some d =>
    let i := (off - d.base) / d.stride
    if !fitted s.code d.base d.count i then (0, s)
    else
      let w := s.fabricView d.base i (s.serviceView d.base i (s.schedView d.base i (s.deviceView d.base i (s.reg off))))
      s.analogue d.base w

/-! ### Reads (R10, R698) -/

/-- The fields that an 8-byte read leaves as zero. -/
def RegDesc.cleared (d : RegDesc) (w : Word) : Word :=
  d.fields.foldl (fun w f => if f.acc = .rc then putBits w f.lo f.width 0 else w) w

/-- An 8-byte read: the value, and then RC fields are clear. -/
def State.readReg (s : State) (off : Nat) : Word × State :=
  let (v, s) := s.regValue off
  match regAt off with
  | some d => if d.fields.any fun f => f.acc == .rc then (v, s.setReg off (d.cleared (s.reg off))) else (v, s)
  | none => (v, s)

/-- REGISTER_READ_CLEAR. -/
def execRegisterReadClear (off : RegOff) (s : State) : Host.Outcome State Fault Refusal :=
  let (v, s) := s.readReg off.toNat
  .next (s.emit (.reg off.toNat v))

/-! ### Writes (R10, R11, R738) -/

/-- Does a register belong to a field's array? The instance, if so. -/
def Fld.instOf (f : Fld) (off : Nat) : Option Nat :=
  if f.base ≤ off ∧ off < f.base + f.stride * f.count ∧ (off - f.base) % f.stride = 0 then some ((off - f.base) / f.stride) else none

/-- Argument registers are ignored while their command runs; for the scan units and the extent edits that is an overrun. -/
def State.argWrite (s : State) (off : Nat) (v : Word) : State :=
  let at_ (f : Fld) : Bool := off == f.base
  if (at_ F.hptArg0_all || at_ F.hptArg1_all) && s.getF F.hptCmd_busy == 1 then s
  else if (at_ F.mapArg0_kind || at_ F.mapArg1_key) && s.getF F.mapCmd_busy == 1 then s
  else if at_ F.weaveArg_all && s.getF F.weaveCmd_busy == 1 then s
  else if (at_ F.xltEditW0_all || at_ F.xltEditW1_all) && s.xltBusy then s.flag F.xltStatus_editOverrun
  else match (F.chkScanAddr_addr.instOf off).or (F.chkScanLen_length.instOf off) with
    | some u => if s.getF F.chkScanCmd_busy u = 1 then s.flag F.chkStatus_scanOverrun { index := u } else s.plainWrite off v
    | none => s.plainWrite off v

/-- An 8-byte write: a command register starts its command, any other follows its access types. An image that WEAVE_CMD needs comes
with its own commands. -/
def State.writeRegister (s : State) (off : Nat) (v : Word) : State :=
  if off = F.tierOpCmd_op.base then s.tierCommand v
  else if off = F.xltEditCmd_op.base then s.xltCommand v
  else if off = F.srchShardCmd_slot.base then s.shardCommand v
  else if off = F.svcModelCmd_model.base then s.modelCommand v
  else if off = F.hptCmd_op.base then s.hptCommand v
  else if off = F.mapCmd_op.base then s.mapCommand v
  else if off = F.weaveCmd_op.base then s.weaveCommand v none
  else if off = F.pwrCmd_op.base then s.pwrCommand v
  else if off = F.mgtFaultAck_ack.base then s.ackWrite v
  else if off = F.schedWaleLen_lenUs.base then s.writeWaleLen v
  else match F.lnkCtl_enable.instOf off, F.chkScanCmd_op.instOf off with
    | some p, _ => if s.code.hasPort p then s.lnkCtlWrite p v else s
    | none, some u => s.scanCommand u v
    | none, none => s.argWrite off v

/-- REGISTER_WRITE. -/
def execRegisterWrite (off : RegOff) (v : Word) (s : State) : Host.Outcome State Fault Refusal := .next (s.writeRegister off.toNat v).finish

/-- A write of fewer than 8 bytes is discarded (R698). -/
def State.narrowWrite (s : State) : State := (s.addF F.mgtRegDiscard_count 0 1).flag F.mgtStatus_regWidth

/-- REGISTER_PARTIAL_WRITE. -/
def execRegisterPartialWrite (_off : RegOff) (_bytes : Nat) (s : State) : Host.Outcome State Fault Refusal := .next s.narrowWrite

/-! ### Register access over MCTP, sensors (R687, R691, R692) -/

/-- Register access is served from WEAVING onwards; over CXL.io it wakes a sleeping device (R667, R688). -/
def State.mgmtRegister (s : State) (t : Transport) (body : State → Answer × State) : State :=
  if t = .cxl ∧ s.mode = .sleep ∧ s.getF F.hptLink_state = 2 then s.startWake false
  else if s.mode = .slath then s
  else s.mgmtRequest t false body

/-- REG_READ. -/
def execRegRead (t : Transport) (off : RegOff) (s : State) : Host.Outcome State Fault Refusal :=
  .next (s.mgmtRegister t fun s =>
    let (v, s) := s.readReg off.toNat
    (.value v, s)).finish

/-- REG_WRITE. -/
def execRegWrite (t : Transport) (off : RegOff) (v : Word) (s : State) : Host.Outcome State Fault Refusal :=
  .next (s.mgmtRegister t fun s => (.ok, s.writeRegister off.toNat v)).finish

/-- The values of a PLDM sensor. Its numbers are the model's own (assumption 26): input voltage, current and power 0 to 2,
temperatures 3 to 18, rails 19 to 26, the state sensors of mode and thermal stage 27 and 28. -/
def State.sensor (s : State) (n : Nat) : Option (List Nat × State) :=
  let word (off : Nat) (f : Fld) : List Nat × State :=
    let (v, s) := s.regValue off
    ([fieldOf v f.lo f.width], s)
  if n = 0 then some (word (F.pwrInput_mv.off 0) F.pwrInput_mv)
  else if n = 1 then some (word (F.pwrInput_mv.off 0) F.pwrInput_ca)
  else if n = 2 then some (word (F.pwrInput_mv.off 0) F.pwrInput_watts)
  else if n < 19 then some (word (F.pwrTemp_temp.off (n - 3)) F.pwrTemp_temp)
  else if n < 27 then some (word (F.pwrRail_mv.off (n - 19)) F.pwrRail_mv)
  else if n = 27 then some ([s.mode.num], s)
  else if n = 28 then some ([s.getF F.pwrState_stage], s)
  else none

/-- PLDM_SENSOR_READ: a full telemetry queue, and a processor that sheds telemetry, answer ERROR_NOT_READY. -/
def execPldmSensorRead (t : Transport) (sensor : Nat) (s : State) : Host.Outcome State Fault Refusal :=
  .next (if !s.mgmtServed t false then s
    else if s.mgt.shedTel ∨ 32 ≤ s.mgt.qTel then s.emit (.mgmt t .busy)
    else
      let s := s.onMgt fun m => { m with qTel := m.qTel + 1 }
      match s.sensor sensor with
      | some (v, s) => s.emit (.mgmt t (.values v))
      | none => s.emit (.mgmt t .error))

end Sys2Proof.Machine
end

