-- ==== Sys2Proof/Machine/Arrive.lean ====
section
/-! DEFINITION. Accesses by their Stand Address, packets at the switch and at the resequencer, and the host's reads and writes
(R35, R434 to R443, R453, R454, R458, R488, R492, R698). -/
namespace Sys2Proof.Machine

/-! ### Accesses by the class of their address (R35) -/

/-- An access that is not one to the own store ends. -/
def State.saEnd (s : State) (a : Access) (code : Code) (data : List Line) : State :=
  match a.who with
  | .fabric p => if p.answered then s.sendReply p code 0 data else s
  | .host b dpa _ => s.hostEnd b dpa code data
  | .engine => s.emit (.access a code data)
  | _ => s

/-- It ends with a code other than DONE. -/
def State.saRefuse (s : State) (a : Access) (code : Code) : State := s.saEnd a code a.ones

/-- Is the access a store? -/
def AccKind.isStore : AccKind → Bool
  | .store .. => true
  | _ => false

/-- Is it an atomic? -/
def AccKind.isAtom : AccKind → Bool
  | .atom .. => true
  | _ => false

/-- An APERTURE access (R35, R301, R302): OFFSET names the tenant and the line. -/
def State.apertureAccess (s : State) (a : Access) : State :=
  let t := a.tenant
  let i := a.off % 0x40000 / 64
  if a.off / 0x40000 ≠ t.toNat then s.saRefuse a .denied
  else if s.apLines t < i + a.lineCount then s.saRefuse a .absent
  else match a.kind with
    | .load n => s.saEnd a .done ((List.range n).map fun k => s.apertureData t (i + k))
    | .store data mask =>
      (data.zipIdx.foldl (fun s (l, k) =>
        if mask = BitVec.allOnes 64 then s.apertureWrite t (i + k) l false else s.apDiscard t (i + k)) s).saEnd a .done []
    | .atom .. => s.saRefuse a (if s.mode = .crust then .crust else .malformed)

/-- A REGISTER access (R35, R698): one line, the register at its place in the line, the other bytes zero; it wakes a sleeping
device (R667). -/
def State.registerAccess (s : State) (a : Access) : State :=
  let lane := a.off % 64
  if a.tenant ≠ 0 then s.saRefuse a .denied
  else if 0x1000000 ≤ a.off ∨ lane % 8 ≠ 0 ∨ a.lineCount ≠ 1 then s.saRefuse a .malformed
  else
    let s := if s.mode = .sleep then s.startWake false else s
    match a.kind with
    | .load _ =>
      let (v, s) := s.readReg a.off
      s.saEnd a .done [BitVec.ofNat 512 (v.toNat * 2 ^ (8 * lane))]
    | .store data mask =>
      let s :=
        if mask.extractLsb' lane 8 = 0xFF#8 then s.writeRegister a.off ((data.headD 0).extractLsb' (8 * lane) 64) else s.narrowWrite
      s.saEnd a .done []
    | .atom .. => s.saRefuse a (if s.mode = .crust then .crust else .malformed)

/-- A granule of the adopted device is mirrored here. -/
def Mirror.covers (m : Mirror) (g : Nat) : Bool := m.frames.any fun b => b * blockBytes / granuleBytes == g

/-- A STORE access to the device that this one has adopted (R555): served from the mirror, with the home checks of R131; outside
the mirrored granules it ends DEAD. A region whose lease this device took over is served the same way (R539, R541); its record
names the owning tenant. -/
def State.adoptedAccess (s : State) (d : DevNo) (lease : Option MapRec) (a : Access) : State :=
  let m := s.mirrorOf d
  let g := a.off / granuleBytes
  let home := ((m.homes.find? fun e => e.1 == g).map (·.2)).getD
    { owner := ((lease.map (·.tenant)).getD 0), mode := if lease.isSome then .priv else .none }
  let base := a.off / 64 * 64
  if !m.covers g && lease.isNone then s.saRefuse a .dead
  else if a.tenant ≠ 0 ∧ home.mode = .none then s.saRefuse a .absent
  else if a.tenant ≠ 0 ∧ a.tenant ≠ home.owner then s.saRefuse a .denied
  else match a.kind with
    | .load n => s.saEnd a .done ((List.range n).map fun k => m.mem.line (base + 64 * k))
    | .store data mask => ((s.setMirror d (m.write base data mask)).tellTaker d base data mask).saEnd a .done []
    | .atom op operand compare =>
      let old := m.mem.word a.off
      let i := a.off % 64 / 8
      let line := BitVec.ofNat 512 ((atomResult op old operand compare).toNat * 2 ^ (64 * i))
      let mask := BitVec.ofNat 64 (255 * 2 ^ (8 * i))
      let put : Mirror := m.write base [line] mask
      match s.accessWork a with
      | none => ((s.setMirror d put).tellTaker d base [line] mask).saEnd a .done [old.setWidth 512]
      | some (src, w) =>
        let same (l : AtomLog) : Bool :=
          l.src == src && l.waleLo == w.waleLo && l.cell == w.cell && l.channel == w.channel && l.ticket == w.ticket
        match m.atoms.find? same with
        | some l => s.saEnd a .done [l.old.setWidth 512]
        | none =>
          let l : AtomLog := { src := src, waleLo := w.waleLo, cell := w.cell, channel := w.channel, ticket := w.ticket, old := old }
          ((s.setMirror d { put with atoms := m.atoms ++ [l] }).tellTaker d base [line] mask).saEnd a .done [old.setWidth 512]

/-- The request packet of an access that goes to another device, or to a group (R35, R437, R460). -/
def State.saPacket (s : State) (a : Access) (sa : Word) (dst : Nat) (mcast : Bool) : Packet :=
  let base := Packet.make .load 2 s.device dst a.tenant
  let p := { base with addr := sa, lines := a.lineCount, mcast := mcast }
  match a.kind with
  | .load _ => p
  | .store data mask =>
    { p with kind := .store, data := data, mask := mask, posted := match a.who with
      | .fabric q => !q.answered
      | _ => false }
  | .atom op operand compare => { p with kind := .atomic, lines := 0, atop := op, operand := operand, compare := compare }

/-- The access is forwarded; the tenant stays (R35, R37). -/
def State.saForward (s : State) (a : Access) (sa : Word) (dst : Nat) (mcast : Bool) : State :=
  let p := s.saPacket a sa dst mcast
  if !mcast ∧ (s.redirect p).dst = s.device.toNat then s.saRefuse a .dead
  else
    let (tag, s) := s.newTag
    let iss : Option Issuer := match a.who with
      | .fabric q => if q.answered then some (.relay q) else none
      | .host b dpa ask => some (.host b dpa ask)
      | _ => some (.engine a.tenant)
    match s.sendPacket { p with tag := tag } iss with
    | (.sent, s) => s
    | (.dead, s) => s.saRefuse a .dead

/-- Did the access come in a multicast packet? -/
def Who.mcast : Who → Bool
  | .fabric p => p.mcast
  | _ => false

/-- Did it come in a packet? -/
def Who.packet : Who → Bool
  | .fabric _ => true
  | _ => false

/-- An access by its Stand Address (R35, R451, R458, R591); a store to a group that another device is the source of goes through
that device (assumption 90). -/
def State.saAccess (s : State) (who : Who) (t : Tenant) (sa : Word) (kind : AccKind) : State :=
  let a : Access := { who := who, tenant := t, off := saOffset sa, kind := kind, resv := none }
  let c := saClass sa
  let d := BitVec.ofNat 9 (saDevice sa)
  if (s.mode = .slath ∨ s.mode = .weaving ∨ s.mode = .quarantine) ∧ who.packet then s
  else if 4 ≤ c ∨ saReserved sa then s.saRefuse a .malformed
  else if (kind.isAtom && a.off % 8 != 0) ∨ (!kind.isAtom && c != 2 && decide (1024 < a.off % 1024 / 64 * 64 + 64 * a.lineCount)) then
    s.saRefuse a .malformed
  else if c = 3 then
    if !kind.isStore then s.saRefuse a .malformed
    else if who.mcast then s.homeAccess a
    else match s.group (saDevice sa) with
      | none => s.saRefuse a .malformed
      | some g => if g.source = s.device then s.saForward a sa (saDevice sa) true else s.saForward a sa g.source.toNat false
  else if !s.inStand d then s.saRefuse a .absent
  else if d ≠ s.device then
    let lease := (s.regionRec sa).filter fun r => r.holder == s.device
    if c = 0 ∧ (s.map.adopted = some d ∨ lease.isSome) then s.adoptedAccess d lease a
    else if kind.isAtom && who.packet then s.saRefuse a .malformed
    else s.saForward a sa d.toNat false
  else if c = 0 then if s.servesOwn sa ∨ s.mode = .repair then s.homeAccess a else s.saForward a sa d.toNat false
  else if c = 1 then s.apertureAccess a
  else s.registerAccess a

/-- An uncorrectable error shows on the line of an own STORE address that the access reaches (R105, R109). -/
def State.saError (s : State) (t : Tenant) (sa : Word) (ue : Bool) : State :=
  if ue ∧ saClass sa = 0 ∧ !saReserved sa ∧ saDevice sa = s.device.toNat ∧ (s.homeCheck t (saOffset sa)).isNone then
    s.lineError (saOffset sa)
  else s

/-- STORE_READ. -/
def execStoreRead (tenant : Tenant) (sa : Word) (ue : Bool) (s : State) : Host.Outcome State Fault Refusal :=
  .next ((s.saError tenant sa ue).saAccess .engine tenant sa (.load 1)).finish

/-- STORE_WRITE. -/
def execStoreWrite (tenant : Tenant) (sa : Word) (data : Line) (mask : Mask) (ue : Bool) (s : State) :
    Host.Outcome State Fault Refusal :=
  .next ((s.saError tenant sa ue).saAccess .engine tenant sa (.store [data] mask)).finish

/-! ### Delivery (R453, R454, R458, R465) -/

/-- Does a group carry the multicast chunks of a layer that a stream sequencer delivers (R91)? -/
def State.streamGroup (s : State) (g : Nat) : Bool :=
  s.tier.streams.any fun e => e.2.layers.any fun l => l.mcast && l.mcastGroup == g

/-- A packet that the resequencer delivers takes effect; a schedule-class one of the next wale waits for the boundary (R262). A message, and a part of a multicast chunk, goes to the block that takes it
(assumption 8). -/
def State.deliver (s : State) (p : Packet) : State :=
  let next : Bool := match p.work with
    | some w => p.cls == 1 && w.waleLo == (s.wale + 1).setWidth 32
    | none => false
  if next then s.onSched fun x => { x with early := x.early ++ [p] }
  else match p.kind with
  | .load => s.saAccess (.fabric p) p.tenant p.addr (.load p.lines)
  | .store =>
    if p.mcast && s.streamGroup p.dst then s.emit (.packet 8 p) else s.saAccess (.fabric p) p.tenant p.addr (.store p.data p.mask)
  | .atomic => s.saAccess (.fabric p) p.tenant p.addr (.atom p.atop p.operand p.compare)
  | .cellPut => s.cellPutTake p
  | .fence => s.onFab fun x => { x with fencesIn := x.fencesIn ++ [p] }
  | .msg => s.emit (.packet 8 p)
  | _ => s

/-- The flow's next number is delivered: it counts as not yet reported. -/
def RxFlow.advance (r : RxFlow) : RxFlow := { r with expected := (r.expected + 1) % 65536, unreported := r.unreported + 1 }

/-- Held packets of a flow that are now the next expected are delivered. -/
def State.deliverHeld : Nat → FlowId → State → State
  | 0, _, s => s
  | fuel + 1, f, s =>
    let r := s.rxFlow f
    match r.held.find? fun p => p.flowSeq.toNat == r.expected with
    | none => s
    | some p => deliverHeld fuel f ((s.setRx { r.advance with held := r.held.erase p }).deliver p)

/-- Slots of the resequencer's pool in use. -/
def State.reseqUsed (s : State) : Nat := (s.fab.rx.map fun f => f.held.length).sum

/-- A packet of a flow reaches the resequencer. After 64 packets of a flow it is reported. -/
def State.eject (s : State) (p : Packet) : State :=
  let f := p.flow
  let r := s.rxFlow f
  let n := (p.flowSeq.toNat + 65536 - r.expected) % 65536
  let s :=
    if n = 0 then ((s.setRx r.advance).deliver p).deliverHeld r.held.length f
    else if 32768 ≤ n then (s.setRx { r with unreported := max r.unreported 1 }).dropPacket
    else if 1023 < n ∨ (r.held.any fun q => q.flowSeq == p.flowSeq) then s.dropPacket
    else if 16384 ≤ s.reseqUsed then (s.flag F.swcStatus_reseqFull).dropPacket
    else s.setRx { r with held := r.held ++ [p] }
  if 64 ≤ (s.rxFlow f).unreported then s.sendDelivered p.src else s

/-- A packet for this device leaves the switch at the ejection output. Those in no flow are acted on at once (R452). -/
def State.arrive (s : State) (p : Packet) : State :=
  match p.kind with
  | .reply => s.takeReply p
  | .fenceDone => s.takeFenceDone p
  | .delivered => s.takeDelivered p.src p.entries
  | .probe => s.takeProbe p
  | .probeReply => s.takeProbeReply p.src
  | .waking => s.takeWaking p.tag
  | .reserved _ => s
  | _ => s.eject p

/-! ### Ingress (R434, R440) -/

/-- The defects that a receiver discards a packet for (R440). -/
def Packet.badForm (p : Packet) : Bool :=
  let linesBad := p.lines == 0 || decide (16 < p.lines)
  let bad : Bool := match p.kind with
    | .reserved _ => true
    | .load => linesBad
    | .store | .cellPut => linesBad || p.data.length != p.lines
    | .msg => decide (p.mlen < 32) || decide (1024 < p.mlen)
    | .fence => p.mlen != 8
    | _ => false
  bad || decide (3 < p.cls) ||
    (p.mcast && p.kind != .store && p.kind != .msg && !(p.kind == .fence && p.uni.isSome)) || (p.uni.isSome && !p.mcast)

/-- A kind that a client accelerator may send (R434). -/
def PacketKind.fromClient : PacketKind → Bool
  | .load | .store | .atomic | .fence | .reply | .delivered => true
  | _ => false

/-- A well-formed packet is routed: copied along its tree, ejected here, or sent on (R443, R447, R451). -/
def State.route (s : State) (inp : Option Nat) (p : Packet) : State :=
  if p.mcast && p.uni.isNone then
    match s.group p.dst with
    | none =>
      let s := s.oweIn inp p
      if p.answered then s.sendReply p .malformed 0 [] else s.dropPacket
    | some e =>
      let s := s.mcastOut p inp
      if e.member && p.src != s.device then s.eject p else s
  else if p.target = s.device then (s.oweIn inp p).arrive p
  else s.out1 p none inp

/-- A packet comes in at a port. -/
def State.packetIn (s : State) (port : Nat) (p : Packet) : State :=
  let s := s.tel F.telLinkRx_count port (p.bytes - 32)
  let client := (s.port port).client
  let bad := p.badForm || (client.isSome && !p.kind.fromClient)
  if p.stomp then ((s.owe port p).dropPacket).linkFlag F.lnkStatus_stompRx port
  else if bad then ((s.owe port p).dropPacket).linkFlag F.lnkStatus_malformedPkt port
  else match client with
    | some t => s.route (some port) { p with tenant := t, src := s.device, hops := 0 }
    | none => s.route (some port) p

/-- DATA: a flit arrives; the packets that it completes go to the switch. -/
def execFlitData (port : Nat) (check : FlitCheck) (ps : List Packet) (s : State) : Host.Outcome State Fault Refusal :=
  withUnit (s.code.hasPort port) (.next (s.flitIn port check fun s => ps.foldl (fun s p => s.packetIn port p) s).finish)

/-- PACKET_FORWARD. -/
def execPacketForward (inPort : Nat) (p : Packet) (s : State) : Host.Outcome State Fault Refusal :=
  withUnit (s.code.hasPort inPort) (.next (if s.portLive inPort then s.packetIn inPort p else s).finish)

/-- A packet of a flow at the ejection output. -/
def State.received (s : State) (p : Packet) : State := if p.stomp || p.badForm then s.dropPacket else s.eject p

/-- LOAD. -/
def execLoad (p : Packet) (s : State) : Host.Outcome State Fault Refusal := .next (s.received { p with kind := .load }).finish
/-- STORE. -/
def execStore (p : Packet) (s : State) : Host.Outcome State Fault Refusal := .next (s.received { p with kind := .store }).finish
/-- ATOMIC. -/
def execAtomic (p : Packet) (s : State) : Host.Outcome State Fault Refusal := .next (s.received { p with kind := .atomic }).finish
/-- FENCE. -/
def execFence (p : Packet) (s : State) : Host.Outcome State Fault Refusal := .next (s.received { p with kind := .fence }).finish
/-- CELL_PUT_RECEIVE. -/
def execCellPutReceive (p : Packet) (s : State) : Host.Outcome State Fault Refusal :=
  .next (s.received { p with kind := .cellPut }).finish

/-! ### Host accesses (R485, R488, R492, R493, R521) -/

/-- A host access that no ACTIVE binding names, or that comes before the IDE streams: poison or a discard, counted; its code is open
(assumption 24). -/
def State.hostTurned (s : State) (b dpa : Nat) (isLoad : Bool) : State :=
  let (w, s) := s.fresh
  let c := w.toNat % 2 ^ F.hptBindErr_lastCode.width
  (((s.setF F.hptBindErr_lastCode b c).addF F.hptBindErr_count b 1).flag F.hptStatus_hostErr
    { index := b, status := BitVec.ofNat 64 c }).emit (.host b dpa true (if isLoad then [lineOnes] else []))

/-- An access to the windows partition (R488, R490): whole aperture lines and home-operation lines, registers for tenant 0. -/
def State.windowAccess (s : State) (b dpa : Nat) (kind : AccKind) : State :=
  let t := s.bindTenant b
  let a : Access := { who := .host b dpa .none, tenant := t, off := dpa, kind := kind, resv := none }
  if dpa < 0x40000 then s.apertureAccess { a with off := t.toNat * 0x40000 + dpa }
  else if dpa < 0x50000 then
    let l := (dpa - 0x40000) / 64
    match kind with
    | .store data mask => (s.homeopWrite b l (data.headD 0) (mask == BitVec.allOnes 64)).hostEnd b dpa .done []
    | _ => s.hostEnd b dpa .done [(s.homeOpLine b l).data]
  else if 0x200000000 ≤ dpa then
    let r := dpa - 0x200000000
    if t ≠ 0 then s.saRefuse a .denied
    else s.saAccess a.who t (BitVec.ofNat 64 (pack [(0, r % 0x1000000), (48, r / 0x1000000), (60, 2)])) kind
  else s.saRefuse a .absent

/-- A host access (R485, R492, R521). -/
def State.hostAccess (s : State) (b dpa : Nat) (kind : AccKind) (ask : CopyAsk) : State :=
  if !s.bindActive b || !s.ideOk then s.hostTurned b dpa (!kind.isStore)
  else if dpa < dcBase then s.windowAccess b dpa kind
  else s.dcAccess b dpa kind ask

/-- HOST_READ: `ue` an uncorrectable error on the line read. -/
def execHostRead (binding : Nat) (dpa : BitVec 57) (ask : CopyAsk) (ue : Bool) (s : State) : Host.Outcome State Fault Refusal :=
  let s := if ue ∧ dcBase ≤ dpa.toNat ∧ s.bindActive binding ∧ s.ideOk ∧ s.dcHolds binding (dpa.toNat - dcBase) then
      match s.ownOffset (s.bindTenant binding) (dpa.toNat - dcBase) with
      | some off => s.lineError off
      | none => s
    else s
  .next (s.hostAccess binding dpa.toNat (.load 1) ask).finish

/-- HOST_WRITE. -/
def execHostWrite (binding : Nat) (dpa : BitVec 57) (data : Line) (mask : Mask) (s : State) : Host.Outcome State Fault Refusal :=
  .next (s.hostAccess binding dpa.toNat (.store [data] mask) .none).finish

end Sys2Proof.Machine
end

