-- ==== Sys2Proof/Machine/Boundary.lean ====
section
/-! DEFINITION. Announcing a wale boundary, and the boundary sequence (R259 to R262, R271 to R277, R313 to R318, R330, R345, R545,
R660 to R662). -/
namespace Sys2Proof.Machine

/-! ### Announcing (R259, R277, R293, R607) -/

/-- BOUNDARY for the next wale goes to every device: TIME = max(E, now + 8 us); a non-zero NEXT_US is its length. -/
def State.announce (s : State) : State :=
  let w := s.wale + 1
  let time := BitVec.ofNat 64 (max s.plannedEnd (s.stime.toNat + 8000))
  let next := s.getF F.schedWaleLen_nextUs
  let len := if next = 0 then s.sched.lenUs else next
  let s := (s.sendReload w).setF F.schedWaleLen_nextUs 0 0
  let s := s.onSched fun x => { x with announced := some { wale := w, time := time, lenUs := len }, sentBoundary := true }
  s.sendGroup ((s.weave.running.map fun i => i.stand.timeGroup).getD 0) 1 0
    (.sched { s.schedMsg kBoundary with wale := w, time := time, lenUs := len })

/-- The time source has a boundary still to announce. -/
def State.mayAnnounce (s : State) : Bool :=
  s.isSource && s.mode != .slath && s.mode != .sleep && !s.sched.sentBoundary && s.sched.announced.isNone

/-- BOUNDARY_ANNOUNCE: READY covers every device of the stand, and E − 8 us has come. -/
def execBoundaryAnnounce (s : State) : Host.Outcome State Fault Refusal :=
  .next (if s.mayAnnounce && s.sched.sentReady && decide (s.sched.standSize ≤ s.readyCount) &&
      decide (s.plannedEnd ≤ s.stime.toNat + 8000) then s.announce.finish else s)

/-- OVERRUN_GRACE_EXPIRY: the time source announces the boundary without the overrunning tracks. -/
def execOverrunGraceExpiry (s : State) : Host.Outcome State Fault Refusal :=
  .next (if s.mayAnnounce && decide (s.plannedEnd + 1000 * s.act F.schedOverrunGrace_graceUs ≤ s.stime.toNat) &&
      s.sched.holds.all (· == causeOverrun) then s.announce.finish else s)

/-! ### The wale that ends (R259, R277, R298) -/

/-- The stretch of the wale that ends. -/
def State.noteStretch (s : State) (time : Word) : State :=
  let n := time.toNat - s.plannedEnd
  let s := s.setF F.schedLastStretch_stretchNs 0 (min n (2 ^ 40 - 1))
  if n = 0 then s
  else
    (((s.flag F.schedStatus_stretched).addF F.schedStretchCount_count 0 1).addF F.schedStretchTotal_count 0 (n / 1000)).tel
      F.telStretchNs_count 0 n

/-- Kernels that overrun end ABORTED, and the requests that their SERVICE steps served end ABORTED with DETAIL 2 (R277). -/
def State.endOverrun (s : State) : State :=
  let late := s.sched.runs.flatMap fun e => if e.2.failed then [] else e.2.open_.filter fun o => !o.cells.isEmpty && o.kind != .search
  let s := s.onSrch fun x => { x with open_ := [] }
  if late.isEmpty then s
  else
    let served := late.flatMap (·.batch)
    let cs := (s.cell.cells.filter fun e => e.2.track.isSome).map (·.1)
    let s := cs.foldl (fun s c => (s.onCellAt c fun v => { v with track := none }).kernelEnd c .aborted) s
    let s := s.svc.ctxs.foldl (fun s e => if e.2.live && served.contains e.2.ident then s.ctxEnd e.1 .aborted 2 else s) s
    (s.flag F.schedStatus_stepAborted).formRecords

/-- T0_USED and T1_USED of each tenant are summed over the wales of the window (R709). -/
def State.countFrames (s : State) : State :=
  (List.range 256).foldl (fun s t =>
    let n := s.getF F.tierResvUsed_t0Used t + s.getF F.tierResvUsed_t1Used t
    if n = 0 then s else s.tel F.telFrameWales_count t n) s

/-! ### Steps 1 to 6 (R271) -/

/-- Step 1: the counter, the atomic log of the wale before the last, and the number saved at every 2^24th wale (R242, R252). -/
def State.nextCounter (s : State) (w : Wale) : State :=
  let s := ({ s with wale := w } : State).onCell fun c => { c with atomLog := c.atomLog.filter fun l => l.waleLo == (w - 1).setWidth 32 }
  if w.toNat % 16777216 = 0 then (s.onSched fun x => { x with savedWale := w }).rpWrite else s

/-- Step 4: reservations are released. A context that becomes FREE leaves the mirror too. -/
def State.releaseEnded (s : State) : List (Nat × Ctx) × State :=
  let t := s.boundaryCtxs
  (s.svc.ctxs.filter fun e => !t.svc.ctxs.any fun x => x.1 == e.1, t)

/-- Step 5: keepers commit; a device whose proposals have no NOTICE yet holds, and asks (R537). -/
def State.commitStep (s : State) : State :=
  let s := s.commitChanges
  if s.map.awaiting.isEmpty then s
  else s.map.awaiting.foldl (fun s r => s.keepers.foldl (fun s k => s.sendMsg k 0 0 (.mapQuery r.kind r.key)) s) (s.holdFor causeBoundary)

/-- Step 6 for a repaired device: it enters SERVICE, and every track may run again (R278, R562). -/
def State.repairOver (s : State) : State :=
  if s.mode = .repair ∧ s.map.repairStep = 8 then
    let s := s.onMap fun m => { m with repairStep := 0, isolated := false }
    (s.onSched fun x => { x with runs := x.runs.map fun e => (e.1, { e.2 with failed := false }) }).enterService
  else s

/-- The first boundary of a stand: a joined device enters SERVICE, and a keeper votes for the devices that it has never heard
(R588, R589). -/
def State.formedStep (s : State) : State :=
  let s := if s.mode = .crust then s else s.enterService
  let silent := ((List.range 8).map (ringDev s.device)).filter fun d => s.inStand d && !s.map.heard.any fun e => e.1 == d
  (silent.foldl (fun s d => s.castVote d) s).startEnds

/-! ### Step 7: admission (R272, R313 to R316, R345) -/

/-- A list in ascending order of a key; equal keys keep their order. -/
def sortedBy {α : Type} (key : α → Nat) (l : List α) : List α :=
  l.foldl (fun acc x => acc.filter (fun y => decide (key y ≤ key x)) ++ [x] ++ acc.filter fun y => decide (key x < key y)) []

/-- The held lines stamped before the boundary, in arrival order: by stamp, then by slot Stand Address. -/
def State.heldLines (s : State) (time : Word) : List (Tenant × Nat × Slot) :=
  let all := s.svc.apertures.flatMap fun a => (a.2.slots.filter fun e => e.2.held && decide (e.2.stamp < time)).map fun e =>
    ((BitVec.ofNat 8 a.1, e.1, e.2) : Tenant × Nat × Slot)
  sortedBy (fun e => e.2.2.stamp.toNat * 2 ^ 32 + e.1.toNat * 0x40000 + 64 * e.2.1) all

/-- Ring candidates that the last boundary's round left without all answers stay HELD and are withdrawn (R316). -/
def State.dropRound (s : State) : State :=
  let asked := s.svc.apertures.flatMap fun a => (a.2.slots.filter fun e => e.2.held && e.2.asked).map fun e =>
    ((BitVec.ofNat 8 a.1, e.1, e.2.requestId) : Tenant × Nat × Word)
  asked.foldl (fun s e => (s.unask e.1 e.2.1).cancelPeers e.1 e.2.2) s

/-- Step 7: CANCELs first, then DROPs and RINGs, then STARTs, of the lines that the limit takes. -/
def State.admitStep (s : State) (time : Word) : State :=
  let s := s.onPwr fun p => { p with holds := p.holds.filter fun h => !h.boundary }
  let s := (s.dropRound.deadlines time fun _ _ => true).formRecords
  let all := s.heldLines time
  let max := s.act F.schedAdmitMax_max
  let s := if max < all.length then s.flag F.schedStatus_admitDeferred else s
  let batch := all.take max
  let still (s : State) (e : Tenant × Nat × Slot) (opc : Nat) : Bool := (s.slot e.1 e.2.1).held && lineOpc e.2.2.line == opc
  let s := batch.foldl (fun s e => if still s e 2 then s.applyCancel e.1 e.2.1 else s) s
  let s := batch.foldl (fun s e =>
    if still s e 3 then s.applyDrop e.1 e.2.1 else if still s e 4 then s.applyRing e.1 e.2.1 else s) s
  (batch.foldl (fun s e => if still s e 1 then s.admitStart e.1 e.2.1 time else s) s).formRecords

/-! ### Step 8: KV segments and the mirror commit (R330, R545) -/

/-- Segments that ended in the wale are sealed, here and for the requests of other ring devices (R330). -/
def State.sealStep (s : State) : State :=
  let s := s.svc.ctxs.foldl (fun s e => if e.2.live && !e.2.resumed then
    (s.sealSegments e.1 e.2).setCtx e.1 { e.2 with sealedSegs := e.2.pos / 2048 } else s) s
  let s := s.svc.shares.foldl (fun s c => s.sealSegments 8192 c) s
  s.onSvc fun x => { x with shares := x.shares.map fun c => { c with sealedSegs := c.pos / 2048 } }

/-- The state that step 8 mirrors: contexts, those that are gone, the tables, the atomic log, the rings; then the commit. -/
def State.mirrorStep (s : State) (gone : List (Nat × Ctx)) : State :=
  let ctxs := (s.svc.ctxs.filter fun e => e.2.live) ++ gone.map fun e => (e.1, { e.2 with state := .free })
  let s := ctxs.foldl (fun s e => s.sendMirror (s.leaseEpoch 2 e.2.requestId) (.ctx e.1 e.2)) s
  let s := (((s.sendMirror 0 (.extents s.xlt.entries)).sendMirror 0 (.homes s.xlt.homes)).sendMirror 0 (.atoms s.cell.atomLog))
  let rings := s.svc.apertures.filter fun a => a.1 < 256 && a.2.ringEntries != 0
  let s := rings.foldl (fun s a => s.sendMirror 0 (.ring (BitVec.ofNat 8 a.1) a.2.ringBase a.2.ringEntries a.2.produced)) s
  s.sendMirror 0 (.boundary s.wale)

/-! ### The new wale (R261, R264, R268) -/

/-- RESUMING contexts take the mirrored state's successor, once the replay has reached the boundary (R320). -/
def State.resumedGoOn (s : State) : State :=
  if s.map.failover.isSome then s
  else
    let step (e : Nat × Ctx) : Nat × Ctx := if e.2.state = .resuming then (e.1, { e.2 with state := e.2.stalledFrom }) else e
    s.onSvc fun x => { x with ctxs := x.ctxs.map step }

/-- A track at the start of a wale: FAILED lasts. -/
def State.freshRun (s : State) (t : Nat) : TrackRun :=
  { next := 0, open_ := [], ended := false, served := []
    failed := ((s.sched.runs.find? fun e => e.1 == t).map fun e => e.2.failed).getD false
    adoptedFrom := if t < 16 then none else s.map.adopted }

/-- Step 9: the tracks of the new wale. -/
def State.newWale (s : State) (a : Announced) : State :=
  let s := ((s.setF F.schedWaleLen_lenUs 0 a.lenUs).setF F.schedHold_standCause 0 0).setF F.schedHold_holder 0 0
  let runs := s.sched.tracks.map fun e => (e.1, s.freshRun e.1)
  s.onSched fun x => { x with
    runs := runs, start := a.time, lenUs := a.lenUs, readyFrom := [], heldFrom := [], holds := x.holds.filter (· == causeBoundary)
    sentReady := false, sentBoundary := false, announced := none, warned := false, overrun := false, readyFence := none
    worked := false, advanced := [] }

/-- Packets of the wale that came before its boundary take effect (R262). -/
def State.takeEarly (s : State) : State :=
  let ps := s.sched.early
  ps.foldl (fun s p => match p.msg with
    | some (.sched m) => if m.kind = kReady then s.takeReady m else if m.kind = kHold then s.takeHold m else s.takeFail m
    | _ => s.deliver p) (s.onSched fun x => { x with early := [] })

/-- REST and SLEEP by policy (R660, R662); `worked`: something kept the device busy in the wale that ends. -/
def State.powerPolicy (s : State) (worked : Bool) : State :=
  if s.mode = .service then
    let n := if worked || s.busyNow then 0 else s.pwr.idleWales + 1
    let s := s.onPwr fun p => { p with idleWales := n }
    let due := s.act F.pwrPolicy_restWales
    if due ≠ 0 ∧ due ≤ n then ((s.setMode .rest).onPwr fun p => { p with idleWales := 0, restWales := 0 }).stopClusters else s
  else if s.mode = .rest then
    let s := s.onPwr fun p => { p with restWales := p.restWales + 1 }
    let due := s.act F.pwrPolicy_sleepWales
    if due ≠ 0 ∧ due ≤ s.pwr.restWales ∧ s.pwr.seq = .none ∧ s.sleepRefused = none then s.startSleep false else s
  else s

/-- MGT_STATUS.FW_STAGED is set again while an update is STAGED (R705). -/
def State.stagedAgain (s : State) : State :=
  if s.getF F.mgtFw_update = updStaged then s.flag F.mgtStatus_fwStaged else s

/-- The boundary sequence of a device that takes part (R271). `ended`: when it has ended; past 20 us it is an overrun (R273). -/
def State.sequence (s : State) (a : Announced) (ended : Nat) : State :=
  let forming := s.weave.phase = .joined
  let worked := s.sched.worked
  let s := if forming then s else (s.noteStretch a.time).endOverrun
  let s := (s.countFrames).nextCounter a.wale
  let s := s.applyHeld.clearMarks
  let s := s.applyReload
  let (gone, s) := s.releaseEnded
  let s := (s.commitStep).repairOver
  let s := if forming then s.formedStep else s
  let serving := s.mode = .service ∨ s.mode = .rest
  let s := if serving then ((s.admitStep a.time).sealStep).mirrorStep gone else s
  let s := (s.resumedGoOn.newWale a).takeEarly
  let s := if a.time.toNat + 20000 < ended then
      let s := (s.flag F.schedStatus_boundaryOverrun).holdFor causeBoundary
      if s.map.awaiting.isEmpty then s.unhold causeBoundary else s
    else s
  (((s.powerPolicy worked).runInject).rehearsalEnds).stagedAgain

/-- A device that has stopped, or waits for its repair, keeps the counter only. -/
def State.countOnly (s : State) (a : Announced) : State := ((s.nextCounter a.wale).applyHeld).newWale a

/-- A device in SLEEP advances the counter once a nominal wale length (R667). -/
def State.sleepCount (s : State) : State :=
  if s.plannedEnd ≤ s.stime.toNat then
    (s.nextCounter (s.wale + 1)).onSched fun x => { x with start := BitVec.ofNat 64 s.plannedEnd, announced := none }
  else s

/-- The announced boundary comes. -/
def State.crossBoundary (s : State) (a : Announced) (ended : Nat) : State :=
  if s.mode = .quarantine ∨ (s.mode = .weaving ∧ s.weave.phase ≠ .joined) then s.countOnly a else (s.sequence a ended).finish

/-- WALE_BOUNDARY: stand time has reached the announced TIME. -/
def State.waleBoundary (s : State) (ended : Nat) : State :=
  if s.mode = .slath then s
  else if s.mode = .sleep then s.sleepCount
  else match s.sched.announced with
    | none => s
    | some a => if s.stime < a.time then s else s.crossBoundary a ended

/-- WALE_BOUNDARY. -/
def execWaleBoundary (fact : BoundaryFacts) (s : State) : Host.Outcome State Fault Refusal := .next (s.waleBoundary fact.ended.toNat)

/-- BOUNDARY: the next boundary is known; one that comes late begins the wale on arrival (R261). -/
def State.takeBoundary (s : State) (m : SchedMsg) : State :=
  match s.acceptEpoch m with
  | none => s
  | some s =>
    let first := s.mode == .weaving || (s.mode == .crust && s.weave.phase == .joined)
    if s.mode = .slath ∨ s.mode = .sleep ∨ (m.wale ≠ s.wale + 1 ∧ !first) then s
    else
      let a : Announced := { wale := m.wale, time := m.time, lenUs := m.lenUs }
      let s := s.onSched fun x => { x with announced := some a }
      if m.time < s.stime then (s.flag F.schedStatus_boundaryLate).crossBoundary a s.stime.toNat else s

/-- BOUNDARY. -/
def execBoundary (m : SchedMsg) (s : State) : Host.Outcome State Fault Refusal := .next (s.takeBoundary m)

end Sys2Proof.Machine
end

