-- ==== Sys2Proof/Machine/Matrix.lean ====
section
/-! DEFINITION. The matrix engine (R171 to R183, R204). -/
namespace Sys2Proof.Machine

/-- A free integer of 104 bits and more. -/
def State.freshInt (s : State) : Int × State :=
  let (a, s) := s.fresh
  let (b, s) := s.fresh
  (signedNat 128 (a.toNat + b.toNat * 2 ^ 64), s)

/-- A cleared accumulator element (R166). -/
def AccElem.zero : AccElem := { sum := 0, ovf := false, nan := false, wild := false, fp32 := 0 }

/-- One product's share: units of 2^-50, a NaN input, a magnitude of 2^53 or more (R172, R175, R176). -/
structure Product where
  units : Int
  nan : Bool
  wild : Bool

/-- A product with its two scale bytes, truncated toward zero to a multiple of 2^-50. -/
def productOf (a b : Num) (sa sb : Nat) : Product :=
  if sa = 255 ∨ sb = 255 then { units := 0, nan := true, wild := false }
  else match a, b with
    | .fin n1 m1 e1, .fin n2 m2 e2 =>
      let k : Int := e1 + e2 + (sa : Int) + (sb : Int) - 254 + 50
      let mag := if 0 ≤ k then (m1 * m2) <<< k.toNat else (m1 * m2) >>> (-k).toNat
      if 2 ^ 103 ≤ mag then { units := 0, nan := false, wild := true }
      else { units := if n1 != n2 then -(mag : Int) else (mag : Int), nan := false, wild := false }
    | _, _ => { units := 0, nan := true, wild := false }

/-- Scale byte of an operand's element: 2^0 without scales (R170). -/
def scaleByte (m : Mem) (scaled : Bool) (off row kb k : Nat) : Nat :=
  if scaled then (m.byte (off + row * kb + k / 32)).toNat else 127

/-- The element of the exact path: the starting content and every product (R173, R176). -/
def MatDesc.exactElem (d : MatDesc) (mem : Mem) (i j : Nat) (c0 : AccElem) : AccElem :=
  (List.range d.k).foldl (fun acc k =>
    let a := elemNum d.afmt (elemAt mem (d.aOff + i * d.aStride) d.afmt k)
    let b := elemNum d.bfmt (elemAt mem (d.bOff + j * d.bStride) d.bfmt k)
    let p := productOf a b (scaleByte mem d.ascl d.aScl i d.kb k) (scaleByte mem d.bscl d.bScl j d.kb k)
    { acc with sum := acc.sum + p.units, nan := acc.nan || p.nan, wild := acc.wild || p.wild }) c0

/-- The element of the BF16 path: products rounded to FP32, groups of 16 by a tree of four levels, groups in ascending
order (R179). -/
def MatDesc.bf16Elem (d : MatDesc) (mem : Mem) (i j : Nat) (c0 : AccElem) : AccElem :=
  let prod (k : Nat) : Nat :=
    mul32 (bf16to32 (elemAt mem (d.aOff + i * d.aStride) 4 k)) (bf16to32 (elemAt mem (d.bOff + j * d.bStride) 4 k))
  let group (g : Nat) : Nat := (tree add32 4 ((List.range 16).map fun x => prod (16 * g + x))).headD 0
  { c0 with fp32 := BitVec.ofNat 32 ((List.range (d.k / 16)).foldl (fun acc g => add32 acc (group g)) c0.fp32.toNat) }

/-- The starting content of an element (R182). A CONTINUE that repeats the shape of the previous operation, or follows none,
keeps what the accumulator holds. -/
def MatDesc.startElem (d : MatDesc) (v : Cell) (i j : Nat) : AccElem :=
  if d.acc = 0 then .zero
  else if d.acc = 1 then v.acc.get (64 * i + j) .zero
  else
    let off := d.accOff + i * d.cStride + j * d.imgBytes
    if d.bf16 then { AccElem.zero with fp32 := BitVec.ofNat 32 (leNat (v.sram.bytes off 4)) }
    else
      let w := wideOf (leNat (v.sram.bytes off 16))
      { AccElem.zero with sum := w.w, ovf := w.ovf, nan := w.nan }

/-- Does CONTINUE follow an operation of another shape or format pair (R182, R213)? -/
def MatDesc.strays (d : MatDesc) (v : Cell) : Bool :=
  d.acc == 1 && (match v.accShape with
    | none => false
    | some h => h != { m := d.m, n := d.n, afmt := d.afmt, bfmt := d.bfmt })

/-- An element whose content is open. -/
def State.freshElem (s : State) : AccElem × State :=
  let (x, s) := s.freshInt
  let (w, s) := s.fresh
  ({ sum := signedNat 96 (lowBits 96 x), ovf := w.getLsbD 0, nan := w.getLsbD 1, wild := false, fp32 := w.extractLsb' 32 32 }, s)

/-- An element's value after the operation: what an unbounded product contributed is open (R175). -/
def State.matElem (s : State) (d : MatDesc) (v : Cell) (i j : Nat) : AccElem × State :=
  let (c0, s) := if d.strays v then s.freshElem else (d.startElem v i j, s)
  if d.bf16 then (d.bf16Elem v.sram i j c0, s)
  else
    let e := d.exactElem v.sram i j { c0 with wild := false }
    if e.wild then
      let (x, s) := s.freshInt
      ({ e with sum := e.sum + x }, s)
    else ({ e with wild := c0.wild }, s)

/-- The write-out check (R174): whether it finds an overflow; beyond the guarded range that is open (R175). -/
def State.writeCheck (s : State) (e : AccElem) : Bool × State :=
  if e.wild ∨ e.sum < -(2 ^ 103 : Nat) ∨ (2 ^ 103 : Nat) ≤ e.sum then
    let (w, s) := s.fresh
    (w.getLsbD 0, s)
  else (decide (e.sum < -(2 ^ 95 : Nat)) || decide ((2 ^ 95 : Nat) ≤ e.sum), s)

/-- Format code of an OUT value. -/
def outFmtCode : Nat → Nat
  | 2 => 6 | 3 => 4 | 4 => 0 | 5 => 1 | _ => 7

/-- The bytes an element is written out as (R178, R179). -/
def MatDesc.outElem (d : MatDesc) (e : AccElem) : List Byte :=
  let w := signedNat 96 (lowBits 96 e.sum)
  let v :=
    if d.out = 1 then ({ w := w, ovf := e.ovf, nan := e.nan } : Wide).bits
    else if d.bf16 then
      if d.out = 2 then e.fp32.toNat
      else if d.out = 3 then fp32toBf16 e.fp32.toNat
      else (floatFmt (outFmtCode d.out)).small d.sat (fmtFP32.decode e.fp32.toNat)
    else windowOut (outFmtCode d.out) d.sat w e.nan
  leBytes (outBytes d.out) v

/-- All elements of the operation, in row-major order, with the overflow each one's write-out check found. -/
def State.matElems (s : State) (d : MatDesc) (v : Cell) : List (Nat × Nat × AccElem × Bool) × State :=
  let ij := (List.range d.m).flatMap fun i => (List.range d.n).map fun j => (i, j)
  ij.foldl (fun acc p =>
    let (e, s) := acc.2.matElem d v p.1 p.2
    if d.out = 0 ∨ d.bf16 then (acc.1 ++ [(p.1, p.2, e, false)], s)
    else
      let (past, s) := s.writeCheck e
      (acc.1 ++ [(p.1, p.2, { e with ovf := e.ovf || past }, past)], s)) ([], s)

/-- A well-formed matrix operation: accumulator, output, status, result word, flag. -/
def State.matRun (s : State) (c t : Nat) (d : MatDesc) : State :=
  let v := s.cellAt c
  let (es, s) := s.matElems d v
  let s := s.onCellAt c fun v => { v with
    acc := es.foldl (fun a e => a.put (64 * e.1 + e.2.1) e.2.2.1) v.acc
    accShape := some { m := d.m, n := d.n, afmt := d.afmt, bfmt := d.bfmt } }
  let s := if d.out = 0 then s
    else s.onCellAt c fun v => (List.range d.m).foldl (fun v i =>
      v.engineBytes (d.cOff + i * d.cStride) ((es.filter fun e => e.1 == i).flatMap fun e => d.outElem e.2.2.1)) v
  let s := if es.any fun e => e.2.2.2 then (s.flag F.cellStatus_ovf (s.cellNote c)).addF F.cellOvfCount_count 0 1 else s
  let w := resultWord 0 (d.out != 0 && !d.bf16 && es.any fun e => e.2.2.1.ovf) (!d.bf16 && es.any fun e => e.2.2.1.nan) 0
  let s := s.onCellAt c fun v => { v with mq := ({ v.mq with items := v.mq.items.drop 1 } : Queue).finish t w }
  if d.flagEn then s.addFlag c d.flag else s

/-- The matrix queue's head descriptor runs; a MALFORMED one changes nothing. -/
def State.matHead (s : State) (c : Nat) (ue : Bool) : State :=
  match (s.cellAt c).mq.items with
  | [] => s
  | (t, l) :: _ =>
    let d := matDesc l
    if d.malformed then
      (s.noteMalformed c).onCellAt c fun v => { v with
        mq := ({ v.mq with items := v.mq.items.drop 1 } : Queue).finish t (resultWord Code.malformed.num false false 0) }
    else if ue then s.sramUe c
    else s.matRun c t d

/-- MMA; `ue`: a word of cell SRAM that it reads is uncorrectable (R168). -/
def execMma (cell : Nat) (ue : Bool) (s : State) : Host.Outcome State Fault Refusal :=
  withUnit (s.code.hasCell cell) (.next (s.matHead cell ue).finish)

end Sys2Proof.Machine
end

