-- ==== Sys2Proof/Machine/Rv.lean ====
section
/-! DEFINITION. The ordinary RV64GC instructions of the scalar engine (R199): encodings, integer and floating-point
arithmetic. PRESUMED (assumption 25): the manual names the ratified RISC-V instruction set and does not repeat it. -/
namespace Sys2Proof.Machine

/-! ### Compressed encodings -/

/-- Bits of an instruction. -/
def ib (w lo n : Nat) : Nat := (w >>> lo) % 2 ^ n

/-- R type. -/
def encR (f7 rs2 rs1 f3 rd op : Nat) : Nat := pack [(0, op), (7, rd), (12, f3), (15, rs1), (20, rs2), (25, f7)]
/-- I type. -/
def encI (imm rs1 f3 rd op : Nat) : Nat := pack [(0, op), (7, rd), (12, f3), (15, rs1), (20, imm % 4096)]
/-- S type. -/
def encS (imm rs2 rs1 f3 op : Nat) : Nat :=
  pack [(0, op), (7, imm % 32), (12, f3), (15, rs1), (20, rs2), (25, imm / 32 % 128)]
/-- B type. -/
def encB (imm rs2 rs1 f3 : Nat) : Nat :=
  pack [(0, 0x63), (7, ib imm 11 1), (8, ib imm 1 4), (12, f3), (15, rs1), (20, rs2), (25, ib imm 5 6), (31, ib imm 12 1)]
/-- J type. -/
def encJ (imm rd : Nat) : Nat :=
  pack [(0, 0x6F), (7, rd), (12, ib imm 12 8), (20, ib imm 11 1), (21, ib imm 1 10), (31, ib imm 20 1)]

/-- Extend the sign of `n` bits to a number of 64 bits. -/
def sext (n v : Nat) : Nat := lowBits 64 (signedNat n (v % 2 ^ n))

/-- Quadrant 0 of the compressed encodings: the 32-bit instruction it stands for. -/
def expandC0 (h : Nat) : Option Nat :=
  let rd := 8 + ib h 2 3
  let rs1 := 8 + ib h 7 3
  let offW := ib h 10 3 * 8 + ib h 6 1 * 4 + ib h 5 1 * 64
  let offD := ib h 10 3 * 8 + ib h 5 2 * 64
  match ib h 13 3 with
  | 0 =>
    let imm := ib h 11 2 * 16 + ib h 7 4 * 64 + ib h 6 1 * 4 + ib h 5 1 * 8
    if imm = 0 then none else some (encI imm 2 0 rd 0x13)
  | 1 => some (encI offD rs1 3 rd 0x07)
  | 2 => some (encI offW rs1 2 rd 0x03)
  | 3 => some (encI offD rs1 3 rd 0x03)
  | 5 => some (encS offD rd rs1 3 0x27)
  | 6 => some (encS offW rd rs1 2 0x23)
  | 7 => some (encS offD rd rs1 3 0x23)
  | _ => none

/-- Quadrant 1. -/
def expandC1 (h : Nat) : Option Nat :=
  let rd := ib h 7 5
  let rdc := 8 + ib h 7 3
  let rs2c := 8 + ib h 2 3
  let u6 := ib h 12 1 * 32 + ib h 2 5
  let imm := sext 6 u6
  let jmp := sext 12 (ib h 12 1 * 2048 + ib h 11 1 * 16 + ib h 9 2 * 256 + ib h 8 1 * 1024 + ib h 7 1 * 64 + ib h 6 1 * 128 +
    ib h 3 3 * 2 + ib h 2 1 * 32)
  let br := sext 9 (ib h 12 1 * 256 + ib h 10 2 * 8 + ib h 5 2 * 64 + ib h 3 2 * 2 + ib h 2 1 * 32)
  match ib h 13 3 with
  | 0 => some (encI imm rd 0 rd 0x13)
  | 1 => if rd = 0 then none else some (encI imm rd 0 rd 0x1B)
  | 2 => some (encI imm 0 0 rd 0x13)
  | 3 =>
    if rd = 2 then
      let a := sext 10 (ib h 12 1 * 512 + ib h 6 1 * 16 + ib h 5 1 * 64 + ib h 3 2 * 128 + ib h 2 1 * 32)
      if a = 0 then none else some (encI a 2 0 2 0x13)
    else if u6 = 0 then none
    else some (pack [(0, 0x37), (7, rd), (12, imm % 2 ^ 20)])
  | 4 =>
    match ib h 10 2 with
    | 0 => some (encI u6 rdc 5 rdc 0x13)
    | 1 => some (encI (u6 + 0x400) rdc 5 rdc 0x13)
    | 2 => some (encI imm rdc 7 rdc 0x13)
    | _ =>
      match ib h 12 1, ib h 5 2 with
      | 0, 0 => some (encR 0x20 rs2c rdc 0 rdc 0x33)
      | 0, 1 => some (encR 0 rs2c rdc 4 rdc 0x33)
      | 0, 2 => some (encR 0 rs2c rdc 6 rdc 0x33)
      | 0, 3 => some (encR 0 rs2c rdc 7 rdc 0x33)
      | 1, 0 => some (encR 0x20 rs2c rdc 0 rdc 0x3B)
      | 1, 1 => some (encR 0 rs2c rdc 0 rdc 0x3B)
      | _, _ => none
  | 5 => some (encJ jmp 0)
  | 6 => some (encB br 0 rdc 0)
  | _ => some (encB br 0 rdc 1)

/-- Quadrant 2. -/
def expandC2 (h : Nat) : Option Nat :=
  let rd := ib h 7 5
  let rs2 := ib h 2 5
  let offW := ib h 12 1 * 32 + ib h 4 3 * 4 + ib h 2 2 * 64
  let offD := ib h 12 1 * 32 + ib h 5 2 * 8 + ib h 2 3 * 64
  let stD := ib h 10 3 * 8 + ib h 7 3 * 64
  let stW := ib h 9 4 * 4 + ib h 7 2 * 64
  match ib h 13 3 with
  | 0 => some (encI (ib h 12 1 * 32 + rs2) rd 1 rd 0x13)
  | 1 => some (encI offD 2 3 rd 0x07)
  | 2 => if rd = 0 then none else some (encI offW 2 2 rd 0x03)
  | 3 => if rd = 0 then none else some (encI offD 2 3 rd 0x03)
  | 4 =>
    if ib h 12 1 = 0 then
      if rs2 = 0 then (if rd = 0 then none else some (encI 0 rd 0 0 0x67)) else some (encR 0 rs2 0 0 rd 0x33)
    else if rs2 = 0 then (if rd = 0 then some 0x00100073 else some (encI 0 rd 0 1 0x67))
    else some (encR 0 rs2 rd 0 rd 0x33)
  | 5 => some (encS stD rs2 2 3 0x27)
  | 6 => some (encS stW rs2 2 2 0x23)
  | _ => some (encS stD rs2 2 3 0x23)

/-- The 32-bit instruction of a compressed one; none is an illegal instruction. -/
def expandC (h : Nat) : Option Nat :=
  match h % 4 with
  | 0 => expandC0 h
  | 1 => expandC1 h
  | _ => expandC2 h

/-! ### Integer arithmetic -/

/-- A 32-bit result, sign-extended. -/
def w32 (v : Nat) : Word := BitVec.ofNat 64 (sext 32 v)

/-- Operations of OP and OP-IMM with funct7 0 (or 0x20 for `alt`). -/
def aluOp (f3 : Nat) (alt : Bool) (a b : Word) : Word :=
  match f3 with
  | 0 => if alt then a - b else a + b
  | 1 => a <<< (b.toNat % 64)
  | 2 => if a.slt b then 1 else 0
  | 3 => if a.ult b then 1 else 0
  | 4 => a ^^^ b
  | 5 => if alt then a.sshiftRight (b.toNat % 64) else a >>> (b.toNat % 64)
  | 6 => a ||| b
  | _ => a &&& b

/-- Operations of OP-32 and OP-IMM-32; none is illegal. -/
def aluOp32 (f3 : Nat) (alt : Bool) (a b : Word) : Option Word :=
  let x : BitVec 32 := a.setWidth 32
  let k := b.toNat % 32
  match f3 with
  | 0 => some ((if alt then x - b.setWidth 32 else x + b.setWidth 32).signExtend 64)
  | 1 => some ((x <<< k).signExtend 64)
  | 5 => some ((if alt then x.sshiftRight k else x >>> k).signExtend 64)
  | _ => none

/-- M extension on `n` bits: the corners of division as RISC-V gives them. -/
def mulDiv (n f3 : Nat) (a b : Nat) : Nat :=
  let sa := signedNat n a
  let sb := signedNat n b
  match f3 with
  | 0 => lowBits n (sa * sb)
  | 1 => lowBits n ((sa * sb).fdiv (2 ^ n : Nat))
  | 2 => lowBits n ((sa * (b : Int)).fdiv (2 ^ n : Nat))
  | 3 => a * b / 2 ^ n
  | 4 => if b = 0 then 2 ^ n - 1 else lowBits n (sa.tdiv sb)
  | 5 => if b = 0 then 2 ^ n - 1 else a / b
  | 6 => if b = 0 then a else lowBits n (sa.tmod sb)
  | _ => if b = 0 then a else a % b

/-- A branch's condition; none is illegal. -/
def branchTaken (f3 : Nat) (a b : Word) : Option Bool :=
  match f3 with
  | 0 => some (a == b)
  | 1 => some (a != b)
  | 4 => some (a.slt b)
  | 5 => some (!a.slt b)
  | 6 => some (a.ult b)
  | 7 => some (!a.ult b)
  | _ => none

/-- An AMO's value written, on `n` bits; none is illegal. -/
def amoResult (n f5 old v : Nat) : Option Nat :=
  let lt := decide (signedNat n old < signedNat n v)
  match f5 with
  | 0x01 => some v
  | 0x00 => some ((old + v) % 2 ^ n)
  | 0x04 => some (old ^^^ v)
  | 0x0C => some (old &&& v)
  | 0x08 => some (old ||| v)
  | 0x10 => some (if lt then old else v)
  | 0x14 => some (if lt then v else old)
  | 0x18 => some (if old < v then old else v)
  | 0x1C => some (if old < v then v else old)
  | _ => none

/-! ### Floating point -/

/-- The format of the fmt field. -/
def rvFmt (fmt : Nat) : FpFmt := if fmt = 0 then fmtFP32 else fmtFP64

/-- The value of a register in a format: a single that is not NaN-boxed is the canonical NaN. -/
def unbox (fmt : Nat) (w : Word) : Nat :=
  if fmt = 0 then (if w.toNat / 2 ^ 32 = 2 ^ 32 - 1 then w.toNat % 2 ^ 32 else fmtFP32.qnan) else w.toNat

/-- A result in a register, NaN-boxed. -/
def box (fmt v : Nat) : Word := BitVec.ofNat 64 (if fmt = 0 then v + (2 ^ 32 - 1) * 2 ^ 32 else v)

/-- A signalling NaN. -/
def FpFmt.snan (f : FpFmt) (v : Nat) : Bool :=
  let mag := v % 2 ^ (f.bits - 1)
  decide (f.top < mag) && !v.testBit (f.prec - 2)

/-- Is the code a NaN? -/
def FpFmt.isNan (f : FpFmt) (v : Nat) : Bool := decide (f.top < v % 2 ^ (f.bits - 1))

/-- NV for signalling operands. -/
def nvOf (f : FpFmt) (vs : List Nat) : FFlags := if vs.any f.snan then 16 else 0

/-- Round a number and add the flag of an invalid operation. -/
def FpFmt.finish (f : FpFmt) (rm : Round) (r : Num × Bool) (nv : FFlags) (sticky : Bool := false) : Nat × FFlags :=
  let (v, fl) := f.encode rm r.1 sticky
  (v, fl ||| nv ||| (if r.2 then 16 else 0))

/-- Sum. -/
def fpAdd (f : FpFmt) (rm : Round) (a b : Nat) : Nat × FFlags :=
  f.finish rm ((f.decode a).add (f.decode b) (rm == .rdn)) (nvOf f [a, b])

/-- Negate a code. -/
def FpFmt.negate (f : FpFmt) (a : Nat) : Nat := a ^^^ 2 ^ (f.bits - 1)

/-- Product. -/
def fpMul (f : FpFmt) (rm : Round) (a b : Nat) : Nat × FFlags := f.finish rm ((f.decode a).mul (f.decode b)) (nvOf f [a, b])

/-- Fused a × b + c, with the product or the addend negated. -/
def fpFma (f : FpFmt) (rm : Round) (a b c : Nat) (negProd negAdd : Bool) : Nat × FFlags :=
  let p := (f.decode a).mul (f.decode b)
  let p1 := if negProd then p.1.neg else p.1
  let d := f.decode c
  let r := p1.add (if negAdd then d.neg else d) (rm == .rdn)
  f.finish rm (r.1, p.2 || r.2) (nvOf f [a, b, c])

/-- Quotient. -/
def fpDiv (f : FpFmt) (rm : Round) (a b : Nat) : Nat × FFlags :=
  let nv := nvOf f [a, b]
  match f.decode a, f.decode b with
  | .nan, _ => (f.qnan, nv)
  | _, .nan => (f.qnan, nv)
  | .inf _, .inf _ => (f.qnan, 16)
  | .inf x, .fin y _ _ => (f.signed (x != y) f.top, 0)
  | .fin x _ _, .inf y => (f.signed (x != y) 0, 0)
  | .fin x m e, .fin y n g =>
    if n = 0 then (if m = 0 then (f.qnan, 16) else (f.signed (x != y) f.top, 8))
    else
      let (q, sticky) := divFin x m e y n g
      f.finish rm (q, false) 0 sticky

/-- Square root. -/
def fpSqrt (f : FpFmt) (rm : Round) (a : Nat) : Nat × FFlags :=
  match f.decode a with
  | .nan => (f.qnan, nvOf f [a])
  | .inf neg => if neg then (f.qnan, 16) else (f.top, 0)
  | .fin neg m e =>
    if m = 0 then (a, 0)
    else if neg then (f.qnan, 16)
    else
      let (r, sticky) := sqrtFin m e
      f.finish rm (r, false) 0 sticky

/-- Minimum or maximum: a NaN operand gives the other one; −0 lies below +0. -/
def fpMinMax (f : FpFmt) (isMax : Bool) (a b : Nat) : Nat × FFlags :=
  let nv := nvOf f [a, b]
  let v :=
    if f.isNan a ∧ f.isNan b then f.qnan
    else if f.isNan a then b
    else if f.isNan b then a
    else
      let k := (f.decode a).cmp (f.decode b)
      let less := decide (k < 0) || (k == 0 && (f.decode a).sign && !(f.decode b).sign)
      if less != isMax then a else b
  (v, nv)

/-- FLE, FLT, FEQ by funct3 0, 1, 2. -/
def fpCompare (f : FpFmt) (f3 a b : Nat) : Nat × FFlags :=
  if f.isNan a ∨ f.isNan b then (0, if f3 = 2 then nvOf f [a, b] else 16)
  else
    let k := (f.decode a).cmp (f.decode b)
    ((match f3 with
      | 0 => decide (k ≤ 0)
      | 1 => decide (k < 0)
      | _ => decide (k = 0)).toNat, 0)

/-- FCLASS. -/
def fpClass (f : FpFmt) (a : Nat) : Nat :=
  let neg := a.testBit (f.bits - 1)
  let mag := a % 2 ^ (f.bits - 1)
  if f.snan a then 0x100 else if f.isNan a then 0x200
  else if mag = f.top then (if neg then 1 else 0x80)
  else if mag = 0 then (if neg then 8 else 0x10)
  else if mag < 2 ^ (f.prec - 1) then (if neg then 4 else 0x20)
  else if neg then 2 else 0x40

/-- Conversion to an integer of `n` bits. -/
def fpToInt (f : FpFmt) (rm : Round) (n : Nat) (signed : Bool) (a : Nat) : Nat × FFlags :=
  let lo : Int := if signed then -(2 ^ (n - 1) : Nat) else 0
  let hi : Int := if signed then (2 ^ (n - 1) : Nat) - 1 else (2 ^ n : Nat) - 1
  match f.decode a with
  | .nan => (lowBits n hi, 16)
  | .inf neg => (lowBits n (if neg then lo else hi), 16)
  | x =>
    let (v, ix) := x.toInt rm
    if v < lo then (lowBits n lo, 16) else if hi < v then (lowBits n hi, 16) else (lowBits n v, if ix then 1 else 0)

/-- Conversion from an integer. -/
def intToFp (f : FpFmt) (rm : Round) (v : Int) : Nat × FFlags := f.encode rm (numOf v 0 false)

/-- The rounding mode of an rm field under fcsr; none is illegal. -/
def roundMode (rm fcsr : Nat) : Option Round :=
  match (if rm = 7 then fcsr / 32 % 8 else rm) with
  | 0 => some .rne
  | 1 => some .rtz
  | 2 => some .rdn
  | 3 => some .rup
  | 4 => some .rmm
  | _ => none

/-- What an OP-FP instruction writes. -/
inductive FpOut where
  | x (w : Word) (fl : FFlags)
  | f (w : Word) (fl : FFlags)
  deriving DecidableEq, Repr

/-- A floating-point result in a format. -/
def FpOut.ofF (fmt : Nat) (r : Nat × FFlags) : FpOut := .f (box fmt r.1) r.2

/-- OP-FP: funct5, fmt, rs2 field, rm field, operands; none is illegal. -/
def opFp (f5 fmt rs2 rm fcsr : Nat) (wa wb xa : Word) : Option FpOut :=
  let f := rvFmt fmt
  let a := unbox fmt wa
  let b := unbox fmt wb
  let sgn (neg : Bool) : FpOut := .f (box fmt (f.signed neg (a % 2 ^ (f.bits - 1)))) 0
  let rounded (k : Round → FpOut) : Option FpOut := (roundMode rm fcsr).map k
  match f5 with
  | 0x00 => rounded fun r => .ofF fmt (fpAdd f r a b)
  | 0x01 => rounded fun r => .ofF fmt
      (let v := fpAdd f r a (f.negate b); (v.1, (v.2 ||| nvOf f [a, b])))
  | 0x02 => rounded fun r => .ofF fmt (fpMul f r a b)
  | 0x03 => rounded fun r => .ofF fmt (fpDiv f r a b)
  | 0x0B => if rs2 = 0 then rounded fun r => .ofF fmt (fpSqrt f r a) else none
  | 0x04 =>
    let sa := a.testBit (f.bits - 1)
    let sb := b.testBit (f.bits - 1)
    (match rm with
      | 0 => some (sgn sb)
      | 1 => some (sgn !sb)
      | 2 => some (sgn (sa != sb))
      | _ => none)
  | 0x05 => if rm < 2 then some (.ofF fmt (fpMinMax f (rm == 1) a b)) else none
  | 0x14 => if rm < 3 then (let r := fpCompare f rm a b; some (.x (BitVec.ofNat 64 r.1) r.2)) else none
  | 0x08 =>
    if rs2 < 2 ∧ rs2 ≠ fmt then
      let g := rvFmt rs2
      let v := unbox rs2 wa
      rounded fun r => .ofF fmt (f.finish r (g.decode v, false) (nvOf g [v]))
    else none
  | 0x18 =>
    if rs2 < 4 then
      let n := if rs2 < 2 then 32 else 64
      rounded fun r => (let v := fpToInt f r n (rs2 % 2 == 0) a; .x (BitVec.ofNat 64 (sext n v.1)) v.2)
    else none
  | 0x1A =>
    if rs2 < 4 then
      let n := if rs2 < 2 then 32 else 64
      let v : Int := if rs2 % 2 = 0 then signedNat n (xa.toNat % 2 ^ n) else (xa.toNat % 2 ^ n : Nat)
      rounded fun r => .ofF fmt (intToFp f r v)
    else none
  | 0x1C =>
    if rs2 ≠ 0 then none
    else if rm = 0 then some (.x (BitVec.ofNat 64 (if fmt = 0 then sext 32 wa.toNat else wa.toNat)) 0)
    else if rm = 1 then some (.x (BitVec.ofNat 64 (fpClass f a)) 0)
    else none
  | 0x1E => if rs2 = 0 ∧ rm = 0 then some (.f (box fmt (xa.toNat % 2 ^ f.bits)) 0) else none
  | _ => none

end Sys2Proof.Machine
end

