-- ==== Sys2Proof/Machine/Scalar.lean ====
section
/-! DEFINITION. The scalar engine: instruction fetch and data accesses through its caches, and one instruction at the pc
(R199, R221, R223, R226, R250). -/
namespace Sys2Proof.Machine

/-! ### Caches (R223, R226) -/

/-- A line through the scalar data cache: a stale cached copy may be what is returned, or the line may have left the cache
before; which of them is a free value. -/
def State.dataLine (s : State) (c l : Nat) : Line × State :=
  let v := s.cellAt c
  let m := v.sram.line (64 * l)
  let fill (s : State) : State := s.onCellAt c fun v => { v with dcache := v.dcache.put l m }
  match v.dcache.find? fun e => e.1 == l with
  | none => (m, fill s)
  | some (_, old) =>
    if old = m then (m, s)
    else
      let (w, s) := s.fresh
      if w.getLsbD 0 then (old, s) else (m, fill s)

/-- A line through the instruction cache, in the same way: old or new bytes of the line until FENCE.I. -/
def State.codeLine (s : State) (c l : Nat) : Line × State :=
  let v := s.cellAt c
  let m := v.sram.line (64 * l)
  let fill (s : State) : State := s.onCellAt c fun v => { v with icache := v.icache.put l m }
  match v.icache.find? fun e => e.1 == l with
  | none => (m, fill s)
  | some (_, old) =>
    if old = m then (m, s)
    else
      let (w, s) := s.fresh
      if w.getLsbD 0 then (old, s) else (m, fill s)

/-- The halfword at an even address below 8 MiB. -/
def State.fetchHalf (s : State) (c a : Nat) : Nat × State :=
  let (l, s) := s.codeLine c (a / 64)
  (lineField l (8 * (a % 64)) 16, s)

/-- `n` bytes of data from an address, as a number: one access, or two when it crosses a line boundary (R199). -/
def State.loadData (s : State) (c a n : Nat) : Nat × State :=
  let (l, s) := s.dataLine c (a / 64)
  let k := min n (64 - a % 64)
  let lo := lineField l (8 * (a % 64)) (8 * k)
  if k = n then (lo, s)
  else
    let (m, s) := s.dataLine c (a / 64 + 1)
    (lo + lineField m 0 (8 * (n - k)) * 2 ^ (8 * k), s)

/-! ### Register access -/

/-- A floating-point register. -/
def Cell.fr (v : Cell) (r : Nat) : Word := v.f.get r 0

/-- Write a floating-point register and accrue flags. -/
def Cell.setFr (v : Cell) (r : Nat) (w : Word) : Cell := { v with f := v.f.set r w 0 }

/-- Accrue exception flags. -/
def Cell.accrue (v : Cell) (fl : FFlags) : Cell := { v with fcsr := v.fcsr ||| fl }

/-- An ordinary instruction retires: rd, and the pc past it. -/
def State.rvRetire (s : State) (c len : Nat) (rd : XReg) (w : Word) : State :=
  s.onCellAt c fun v => { v.setX rd w with pc := v.pc + BitVec.ofNat 64 len }

/-- It retires with a floating-point result. -/
def State.rvRetireF (s : State) (c len rd : Nat) (w : Word) (fl : FFlags) : State :=
  s.onCellAt c fun v => { (v.setFr rd w).accrue fl with pc := v.pc + BitVec.ofNat 64 len }

/-- It goes to a target. -/
def State.rvJump (s : State) (c : Nat) (rd : XReg) (link target : Word) : State :=
  s.onCellAt c fun v => { v.setX rd link with pc := target }

/-! ### Groups of instructions -/

/-- A load: bytes, sign, destination. -/
def State.rvLoad (s : State) (c len : Nat) (a : Word) (f3 : Nat) (rd : XReg) : State :=
  let n := 2 ^ (f3 % 4)
  if f3 = 7 then s.trap c 2
  else if !inSram a.toNat n then s.trap c 5
  else
    let (v, s) := s.loadData c a.toNat n
    s.rvRetire c len rd (BitVec.ofNat 64 (if f3 < 4 then sext (8 * n) v else v))

/-- A store of `n` bytes. -/
def State.rvStore (s : State) (c len : Nat) (a : Word) (n v : Nat) : State :=
  if !inSram a.toNat n then s.trap c 7
  else (s.onCellAt c fun x => x.storeBytes a.toNat (leBytes n v)).rvRetire c len 0 0

/-- LR, SC and the AMOs act on cell SRAM itself. An SC succeeds when it names the address of the reservation that still
stands. -/
def State.rvAmo (s : State) (c : Nat) (w : Nat) : State :=
  let f3 := ib w 12 3
  let f5 := ib w 27 5
  let n := 2 ^ f3
  let rd : XReg := BitVec.ofNat 5 (ib w 7 5)
  let v := s.cellAt c
  let a := (v.xr (BitVec.ofNat 5 (ib w 15 5))).toNat
  let x := (v.xr (BitVec.ofNat 5 (ib w 20 5))).toNat % 2 ^ (8 * n)
  if f3 ≠ 2 ∧ f3 ≠ 3 then s.trap c 2
  else if f5 = 2 then
    if ib w 20 5 ≠ 0 then s.trap c 2
    else if a % n ≠ 0 then s.trap c 4
    else if !inSram a n then s.trap c 5
    else
      let old := leNat (v.sram.bytes a n)
      (s.onCellAt c fun v => { v with reservation := some a }).rvRetire c 4 rd (BitVec.ofNat 64 (sext (8 * n) old))
  else if f5 = 3 then
    if a % n ≠ 0 then s.trap c 6
    else if !inSram a n then s.trap c 7
    else
      let ok := v.reservation == some a
      let s := if ok then s.onCellAt c fun v => v.storeBytes a (leBytes n x) else s
      (s.onCellAt c fun v => { v with reservation := none }).rvRetire c 4 rd (if ok then 0 else 1)
  else
    let old := if inSram a n then leNat (v.sram.bytes a n) else 0
    match amoResult (8 * n) f5 old x with
    | none => s.trap c 2
    | some r =>
      if a % n ≠ 0 then s.trap c 6
      else if !inSram a n then s.trap c 7
      else (s.onCellAt c fun v => v.storeBytes a (leBytes n r)).rvRetire c 4 rd (BitVec.ofNat 64 (sext (8 * n) old))

/-- A CSR of U-mode: fflags, frm, fcsr, and time, which reads stand time; none is illegal. -/
def State.csrRead (s : State) (c n : Nat) : Option Nat :=
  let f := (s.cellAt c).fcsr
  if n = 1 then some (f % 32) else if n = 2 then some (f / 32 % 8) else if n = 3 then some (f % 256)
  else if n = 0xC01 then some s.stime.toNat
  else none

/-- Write a CSR. -/
def State.csrWrite (s : State) (c n v : Nat) : State :=
  s.onCellAt c fun x => { x with fcsr :=
    if n = 1 then x.fcsr / 32 * 32 + v % 32 else if n = 2 then x.fcsr % 32 + v % 8 * 32 else v % 256 }

/-- SYSTEM: ECALL, EBREAK and the CSR instructions; every other is illegal in U-mode. -/
def State.rvSystem (s : State) (c len w : Nat) : State :=
  let f3 := ib w 12 3
  let rd : XReg := BitVec.ofNat 5 (ib w 7 5)
  let r1 := ib w 15 5
  let n := ib w 20 12
  if f3 = 0 then
    if w = 0x73 then s.ecallInsn c else if w = 0x00100073 then s.trap c 3 else s.trap c 2
  else if f3 = 4 then s.trap c 2
  else
    let src := if f3 < 4 then ((s.cellAt c).xr (BitVec.ofNat 5 r1)).toNat else r1
    let writes := f3 % 4 == 1 || r1 != 0
    match s.csrRead c n with
    | none => s.trap c 2
    | some old =>
      if writes && n == 0xC01 then s.trap c 2
      else
        let new := match f3 % 4 with
          | 1 => src
          | 2 => old ||| src
          | _ => old &&& (2 ^ 64 - 1 - src)
        let s := if writes then s.csrWrite c n new else s
        s.rvRetire c len rd (BitVec.ofNat 64 old)

/-- OP-FP and the fused multiply-adds. -/
def State.rvFp (s : State) (c w : Nat) : State :=
  let v := s.cellAt c
  let fmt := ib w 25 2
  let rd := ib w 7 5
  let rm := ib w 12 3
  let op := ib w 0 7
  if 2 ≤ fmt then s.trap c 2
  else if op = 0x53 then
    match opFp (ib w 27 5) fmt (ib w 20 5) rm v.fcsr (v.fr (ib w 15 5)) (v.fr (ib w 20 5)) (v.xr (BitVec.ofNat 5 (ib w 15 5))) with
    | none => s.trap c 2
    | some (.f r fl) => s.rvRetireF c 4 rd r fl
    | some (.x r fl) => (s.onCellAt c fun v => v.accrue fl).rvRetire c 4 (BitVec.ofNat 5 rd) r
  else match roundMode rm v.fcsr with
    | none => s.trap c 2
    | some r =>
      let f := rvFmt fmt
      let x (k : Nat) : Nat := unbox fmt (v.fr k)
      -- 43 MADD, 47 MSUB, 4B NMSUB, 4F NMADD
      let res := fpFma f r (x (ib w 15 5)) (x (ib w 20 5)) (x (ib w 27 5)) (op == 0x4B || op == 0x4F) (op == 0x47 || op == 0x4F)
      s.rvRetireF c 4 rd (box fmt res.1) res.2

/-- OP and OP-32, with the M extension. -/
def State.rvOp (s : State) (c len w : Nat) : State :=
  let v := s.cellAt c
  let rd : XReg := BitVec.ofNat 5 (ib w 7 5)
  let a := v.xr (BitVec.ofNat 5 (ib w 15 5))
  let b := v.xr (BitVec.ofNat 5 (ib w 20 5))
  let f3 := ib w 12 3
  let f7 := ib w 25 7
  let word := ib w 0 7 == 0x3B
  let r : Option Word :=
    if f7 = 1 then
      if word then
        if 1 ≤ f3 ∧ f3 ≤ 3 then none else some (w32 (mulDiv 32 f3 (a.toNat % 2 ^ 32) (b.toNat % 2 ^ 32)))
      else some (BitVec.ofNat 64 (mulDiv 64 f3 a.toNat b.toNat))
    else if f7 = 0 ∨ (f7 = 0x20 ∧ (f3 = 0 ∨ f3 = 5)) then
      if word then aluOp32 f3 (f7 == 0x20) a b else some (aluOp f3 (f7 == 0x20) a b)
    else none
  match r with
  | none => s.trap c 2
  | some x => s.rvRetire c len rd x

/-- OP-IMM and OP-IMM-32. -/
def State.rvOpImm (s : State) (c len w : Nat) : State :=
  let v := s.cellAt c
  let rd : XReg := BitVec.ofNat 5 (ib w 7 5)
  let a := v.xr (BitVec.ofNat 5 (ib w 15 5))
  let imm := BitVec.ofNat 64 (sext 12 (ib w 20 12))
  let f3 := ib w 12 3
  let word := ib w 0 7 == 0x1B
  let high := if word then ib w 25 7 else ib w 26 6 * 2
  let shift := f3 == 1 || f3 == 5
  let r : Option Word :=
    if shift && (high != 0 && !(high == 0x20 && f3 == 5)) then none
    else if word then aluOp32 f3 (f3 == 5 && high == 0x20) a imm
    else some (aluOp f3 (f3 == 5 && high == 0x20) a imm)
  match r with
  | none => s.trap c 2
  | some x => s.rvRetire c len rd x

/-- One ordinary instruction, or one of the extension, given as 32 bits; `len` is its length in memory. -/
def State.rvInsn (s : State) (c w len : Nat) : State :=
  let v := s.cellAt c
  let rdn := ib w 7 5
  let rd : XReg := BitVec.ofNat 5 rdn
  let x1 := v.xr (BitVec.ofNat 5 (ib w 15 5))
  let x2 := v.xr (BitVec.ofNat 5 (ib w 20 5))
  let f3 := ib w 12 3
  let immI := BitVec.ofNat 64 (sext 12 (ib w 20 12))
  let immS := BitVec.ofNat 64 (sext 12 (ib w 25 7 * 32 + rdn))
  let immU := BitVec.ofNat 64 (sext 32 (ib w 12 20 * 4096))
  let link := v.pc + BitVec.ofNat 64 len
  match ib w 0 7 with
  | 0x37 => s.rvRetire c len rd immU
  | 0x17 => s.rvRetire c len rd (v.pc + immU)
  | 0x6F =>
    let off := sext 21 (ib w 21 10 * 2 + ib w 20 1 * 2048 + ib w 12 8 * 4096 + ib w 31 1 * 2 ^ 20)
    s.rvJump c rd link (v.pc + BitVec.ofNat 64 off)
  | 0x67 => if f3 = 0 then s.rvJump c rd link ((x1 + immI) &&& ~~~1) else s.trap c 2
  | 0x63 =>
    let off := sext 13 (ib w 8 4 * 2 + ib w 25 6 * 32 + ib w 7 1 * 2048 + ib w 31 1 * 4096)
    (match branchTaken f3 x1 x2 with
      | none => s.trap c 2
      | some true => s.rvJump c 0 0 (v.pc + BitVec.ofNat 64 off)
      | some false => s.rvRetire c len 0 0)
  | 0x03 => s.rvLoad c len (x1 + immI) f3 rd
  | 0x23 => if f3 < 4 then s.rvStore c len (x1 + immS) (2 ^ f3) x2.toNat else s.trap c 2
  | 0x07 =>
    let a := x1 + immI
    let n := 2 ^ f3
    if f3 ≠ 2 ∧ f3 ≠ 3 then s.trap c 2
    else if !inSram a.toNat n then s.trap c 5
    else
      let (d, s) := s.loadData c a.toNat n
      s.rvRetireF c len rdn (box (f3 - 2) d) 0
  | 0x27 =>
    if f3 ≠ 2 ∧ f3 ≠ 3 then s.trap c 2 else s.rvStore c len (x1 + immS) (2 ^ f3) (v.fr (ib w 20 5)).toNat
  | 0x13 => s.rvOpImm c len w
  | 0x1B => s.rvOpImm c len w
  | 0x33 => s.rvOp c len w
  | 0x3B => s.rvOp c len w
  | 0x0F =>
    if f3 = 0 then s.rvRetire c len 0 0
    else if f3 = 1 then (s.onCellAt c fun v => { v with icache := [] }).rvRetire c len 0 0
    else s.trap c 2
  | 0x73 => s.rvSystem c len w
  | 0x2F => s.rvAmo c w
  | 0x53 => s.rvFp c w
  | 0x43 => s.rvFp c w
  | 0x47 => s.rvFp c w
  | 0x4B => s.rvFp c w
  | 0x4F => s.rvFp c w
  | _ => match decodeExt (BitVec.ofNat 32 w) with
    | some i => s.extInsn c i
    | none => s.trap c 2

/-- Fetch at the pc and run; a fetch at or above 8 MiB raises an access fault. -/
def State.scalarStep (s : State) (c : Nat) : State :=
  let a := (s.cellAt c).pc.toNat
  if sramBytes ≤ a + 1 then s.trap c 1
  else
    let (h, s) := s.fetchHalf c a
    if h % 4 ≠ 3 then
      match expandC h with
      | none => s.trap c 2
      | some w => s.rvInsn c w 2
    else if sramBytes ≤ a + 3 then s.trap c 1
    else
      let (g, s) := s.fetchHalf c (a + 2)
      s.rvInsn c (h + 65536 * g) 4

/-- SCALAR_INSTRUCTION; `ue`: a word of cell SRAM that it reads is uncorrectable (R168). -/
def execScalarInstruction (cell : Nat) (ue : Bool) (s : State) : Host.Outcome State Fault Refusal :=
  s.onScalar cell fun s => if ue then s.sramUe cell else s.scalarStep cell

end Sys2Proof.Machine
end

