-- ==== Sys2Proof/Machine/Vector.lean ====
section
/-! DEFINITION. The vector engine (R185 to R191). -/
namespace Sys2Proof.Machine

/-! ### Operands -/

/-- Element `i` of a source as its code. -/
def VecDesc.src (d : VecDesc) (m : Mem) (off i : Nat) : Nat := elemAt m off d.stype i

/-- Element `i` of the first source as FP32. -/
def VecDesc.f1 (d : VecDesc) (m : Mem) (i : Nat) : Nat :=
  if d.stype = 4 then bf16to32 (d.src m d.src1 i) else d.src m d.src1 i

/-- Element `i` of the second operand as its code: a vector, the immediate, or element 0 of SRC2. -/
def VecDesc.code2 (d : VecDesc) (m : Mem) (i : Nat) : Nat :=
  if d.bcast = 1 then d.imm else d.src m d.src2 (if d.bcast = 2 then 0 else i)

/-- Element `i` of the second operand as FP32; the immediate is FP32 already. -/
def VecDesc.f2 (d : VecDesc) (m : Mem) (i : Nat) : Nat :=
  if d.stype = 4 ∧ d.bcast ≠ 1 then bf16to32 (d.code2 m i) else d.code2 m i

/-- Element `i` of FMA's third operand as FP32. -/
def VecDesc.f3 (d : VecDesc) (m : Mem) (i : Nat) : Nat :=
  if d.stype = 4 then bf16to32 (d.src m d.src3 i) else d.src m d.src3 i

/-- An FP32 result in the result's format: rounded once to BF16; a NaN is canonical. -/
def VecDesc.fpOut (d : VecDesc) (r : Nat) : Nat :=
  if d.stype = 4 then fp32toBf16 r else if isNan32 r then fmtFP32.qnan else r

/-! ### Results -/

/-- Element-wise FP32 and BF16 arithmetic. -/
def VecDesc.fpElem (d : VecDesc) (m : Mem) (i : Nat) : Nat :=
  let a := d.f1 m i
  d.fpOut (match d.opc with
    | 0x20 => add32 a (d.f2 m i)
    | 0x21 => sub32 a (d.f2 m i)
    | 0x22 => mul32 a (d.f2 m i)
    | 0x23 => fma32 a (d.f2 m i) (d.f3 m i)
    | 0x24 => max32 a (d.f2 m i)
    | 0x25 => min32 a (d.f2 m i)
    | op => fp32Special op a)

/-- Element-wise INT32 arithmetic. -/
def VecDesc.intElem (d : VecDesc) (m : Mem) (i : Nat) : Nat :=
  let a := signedNat 32 (d.src m d.src1 i)
  let b := signedNat 32 (d.code2 m i)
  lowBits 32 (match d.opc with
    | 0x20 => a + b
    | 0x21 => a - b
    | 0x22 => a * b
    | 0x24 => max a b
    | _ => min a b)

/-- WADD: the sum modulo 2^96, flags ORed, and whether the exact sum leaves the window (R175). -/
def VecDesc.wide (d : VecDesc) (m : Mem) (i : Nat) : Wide × Bool :=
  let a := wideOf (d.src m d.src1 i)
  let b := wideOf (d.code2 m i)
  let x := a.w + b.w
  ({ w := signedNat 96 (lowBits 96 x), ovf := a.ovf || b.ovf, nan := a.nan || b.nan },
    decide (x < -(2 ^ 95 : Nat)) || decide ((2 ^ 95 : Nat) ≤ x))

/-- Number of element `i` of the first source. -/
def VecDesc.num1 (d : VecDesc) (m : Mem) (i : Nat) : Num := elemNum d.stype (d.src m d.src1 i)

/-- Is the number a NaN or an infinity? -/
def Num.special : Num → Bool
  | .fin .. => false
  | _ => true

/-- The floor of log2 of a number's magnitude. -/
def Num.exp : Num → Int
  | .fin _ m e => e + bitLen m - 1
  | _ => 0

/-- Is the number zero? -/
def Num.isZero : Num → Bool
  | .fin _ m _ => m == 0
  | _ => false

/-- The scale byte of a block (R189). -/
def blockScale (xs : List Num) : Nat :=
  if xs.any Num.special then 0xFF
  else match (xs.filter fun x => !x.isZero).map Num.exp with
    | [] => 0x7F
    | e :: r => (max (-127) (min (r.foldl max e - 2) 127) + 127).toNat

/-- A number over 2^(scale − 127). -/
def Num.unscale (x : Num) (scale : Nat) : Num :=
  match x with
  | .fin n m e => .fin n m (e - ((scale : Int) - 127))
  | x => x

/-- QMX: the scales and the codes (R189). -/
def VecDesc.qmx (d : VecDesc) (m : Mem) : List Nat × List Nat :=
  let blocks := (List.range (d.count / 32)).map fun b => (List.range 32).map fun i => d.num1 m (32 * b + i)
  let scales := blocks.map blockScale
  (scales, (blocks.zip scales).flatMap fun e =>
    e.1.map fun x => if e.2 = 0xFF then 0 else fmtE2M1.small true (x.unscale e.2))

/-- DQMX of one element. -/
def VecDesc.dqmx (d : VecDesc) (m : Mem) (i : Nat) : Nat :=
  let scale := (m.byte (d.scl + i / 32)).toNat
  let f := floatFmt d.dtype
  if scale = 255 then f.qnan
  else match fmtE2M1.decode (d.src m d.src1 i) with
    | .fin n x e => f.near (.fin n x (e + (scale : Int) - 127))
    | _ => f.qnan

/-- The result's codes; an overflow of WADD leaves its flag open. -/
def State.vecResult (s : State) (d : VecDesc) (m : Mem) : List Nat × State :=
  let is_ := List.range d.count
  let all (g : Nat → Nat) : List Nat × State := (is_.map g, s)
  match d.opc with
  | 0x2A => all fun i => cvt d.stype d.dtype d.sat (d.src m d.src1 i)
  | 0x2B => ((d.qmx m).2, s)
  | 0x2C => all (d.dqmx m)
  | 0x2D => ([d.fpOut (reduce64 add32 (is_.map (d.f1 m)))], s)
  | 0x2E => ([d.fpOut (reduce64 max32 (is_.map (d.f1 m)))], s)
  | 0x2F => is_.foldl (fun acc i =>
      let (w, past) := d.wide m i
      if past then
        let (r, s) := acc.2.fresh
        (acc.1 ++ [({ w with ovf := w.ovf || r.getLsbD 0 } : Wide).bits], s)
      else (acc.1 ++ [w.bits], acc.2)) ([], s)
  | 0x30 => ([argmax32 (is_.map (d.f1 m))], s)
  | _ => if d.stype = 7 then all (d.intElem m) else all (d.fpElem m)

/-- Codes as bytes; two 4-bit codes share one, and an odd last one keeps the other nibble. -/
def codeBytes (fmt : Nat) (m : Mem) (dst : Nat) (cs : List Nat) : List Byte :=
  if elemBits fmt = 4 then
    (List.range ((cs.length + 1) / 2)).map fun k =>
      let hi := if 2 * k + 1 < cs.length then cs.getD (2 * k + 1) 0 else (m.byte (dst + k)).toNat / 16
      BitVec.ofNat 8 (cs.getD (2 * k) 0 % 16 + 16 * hi)
  else cs.flatMap fun c => leBytes (elemBits fmt / 8) c

/-- Free bytes. -/
def State.freshBytes (s : State) : Nat → List Byte × State
  | 0 => ([], s)
  | n + 1 =>
    let (w, s) := s.fresh
    let (r, s) := s.freshBytes n
    (w.setWidth 8 :: r, s)

/-- A well-formed vector operation: every source is read first; a DST that overlaps a source in part holds free bytes
(R191, R213). -/
def State.vecRun (s : State) (c t : Nat) (d : VecDesc) : State :=
  let m := (s.cellAt c).sram
  let (bs, s) : List Byte × State :=
    if d.overlaps then s.freshBytes d.dest.2
    else
      let (cs, s) := s.vecResult d m
      (codeBytes d.outFmt m d.dst cs, s)
  let s := s.onCellAt c fun v => v.engineBytes d.dst bs
  let s := if d.opc = 0x2B then s.onCellAt c fun v => v.engineBytes d.scl ((d.qmx m).1.map fun x => BitVec.ofNat 8 x) else s
  let s := s.onCellAt c fun v => { v with
    vq := ({ v.vq with items := v.vq.items.drop 1 } : Queue).finish t (resultWord 0 false false 0) }
  if d.flagEn then s.addFlag c d.flag else s

/-- The vector queue's head runs when it is of the operation named, or of none (then it ends MALFORMED). -/
def State.vecHead (s : State) (c opc : Nat) (ue : Bool) : State :=
  match (s.cellAt c).vq.items with
  | [] => s
  | (t, l) :: _ =>
    let d := vecDesc l
    let reserved := decide (d.opc < 0x20) || decide (0x30 < d.opc)
    if d.opc ≠ opc ∧ !reserved then s
    else if reserved || d.malformed then
      (s.noteMalformed c).onCellAt c fun v => { v with
        vq := ({ v.vq with items := v.vq.items.drop 1 } : Queue).finish t (resultWord Code.malformed.num false false 0) }
    else if ue then s.sramUe c
    else s.vecRun c t d

/-- A vector operation of a fitted cell. -/
def State.vecOp (s : State) (c opc : Nat) (ue : Bool) : Host.Outcome State Fault Refusal :=
  withUnit (s.code.hasCell c) (.next (s.vecHead c opc ue).finish)

/-- ADD. -/
def execVAdd (cell : Nat) (ue : Bool) (s : State) : Host.Outcome State Fault Refusal := s.vecOp cell 0x20 ue
/-- SUB. -/
def execVSub (cell : Nat) (ue : Bool) (s : State) : Host.Outcome State Fault Refusal := s.vecOp cell 0x21 ue
/-- MUL. -/
def execVMul (cell : Nat) (ue : Bool) (s : State) : Host.Outcome State Fault Refusal := s.vecOp cell 0x22 ue
/-- FMA. -/
def execVFma (cell : Nat) (ue : Bool) (s : State) : Host.Outcome State Fault Refusal := s.vecOp cell 0x23 ue
/-- MAX. -/
def execVMax (cell : Nat) (ue : Bool) (s : State) : Host.Outcome State Fault Refusal := s.vecOp cell 0x24 ue
/-- MIN. -/
def execVMin (cell : Nat) (ue : Bool) (s : State) : Host.Outcome State Fault Refusal := s.vecOp cell 0x25 ue
/-- EXP. -/
def execVExp (cell : Nat) (ue : Bool) (s : State) : Host.Outcome State Fault Refusal := s.vecOp cell 0x26 ue
/-- LOG. -/
def execVLog (cell : Nat) (ue : Bool) (s : State) : Host.Outcome State Fault Refusal := s.vecOp cell 0x27 ue
/-- RSQRT. -/
def execVRsqrt (cell : Nat) (ue : Bool) (s : State) : Host.Outcome State Fault Refusal := s.vecOp cell 0x28 ue
/-- RCP. -/
def execVRcp (cell : Nat) (ue : Bool) (s : State) : Host.Outcome State Fault Refusal := s.vecOp cell 0x29 ue
/-- CVT. -/
def execVCvt (cell : Nat) (ue : Bool) (s : State) : Host.Outcome State Fault Refusal := s.vecOp cell 0x2A ue
/-- QMX. -/
def execVQmx (cell : Nat) (ue : Bool) (s : State) : Host.Outcome State Fault Refusal := s.vecOp cell 0x2B ue
/-- DQMX. -/
def execVDqmx (cell : Nat) (ue : Bool) (s : State) : Host.Outcome State Fault Refusal := s.vecOp cell 0x2C ue
/-- RSUM. -/
def execVRsum (cell : Nat) (ue : Bool) (s : State) : Host.Outcome State Fault Refusal := s.vecOp cell 0x2D ue
/-- RMAX. -/
def execVRmax (cell : Nat) (ue : Bool) (s : State) : Host.Outcome State Fault Refusal := s.vecOp cell 0x2E ue
/-- WADD. -/
def execVWadd (cell : Nat) (ue : Bool) (s : State) : Host.Outcome State Fault Refusal := s.vecOp cell 0x2F ue
/-- ARGMAX. -/
def execVArgmax (cell : Nat) (ue : Bool) (s : State) : Host.Outcome State Fault Refusal := s.vecOp cell 0x30 ue

end Sys2Proof.Machine
end

