-- ==== Sys2Proof/Machine/Dispatch.lean ====
section
/-! DEFINITION. One arm per command. -/
namespace Sys2Proof.Machine

/-- The command's effect on everything but the queue. -/
def exec (i : Instr) (s : State) : Host.Outcome State Fault Refusal :=
  match i with
  | .registerWrite off v => Sys2Proof.Machine.execRegisterWrite off v s
  | .registerReadClear off => Sys2Proof.Machine.execRegisterReadClear off s
  | .registerPartialWrite off bytes => Sys2Proof.Machine.execRegisterPartialWrite off bytes s
  | .storeRead tenant sa ue => Sys2Proof.Machine.execStoreRead tenant sa ue s
  | .storeWrite tenant sa data mask ue => Sys2Proof.Machine.execStoreWrite tenant sa data mask ue s
  | .copyOnWriteComplete block => Sys2Proof.Machine.execCopyOnWriteComplete block s
  | .migrationComplete block => Sys2Proof.Machine.execMigrationComplete block s
  | .sealImageChecked block => Sys2Proof.Machine.execSealImageChecked block s
  | .sealT2Fail block => Sys2Proof.Machine.execSealT2Fail block s
  | .sealPayloadPoison block line => Sys2Proof.Machine.execSealPayloadPoison block line s
  | .promotionFillComplete block tier inlineOk => Sys2Proof.Machine.execPromotionFillComplete block tier inlineOk s
  | .promotionFillFail block tier why => Sys2Proof.Machine.execPromotionFillFail block tier why s
  | .sinkReadersDone block tier => Sys2Proof.Machine.execSinkReadersDone block tier s
  | .refetchComplete block => Sys2Proof.Machine.execRefetchComplete block s
  | .refetchSourceFail block why => Sys2Proof.Machine.execRefetchSourceFail block why s
  | .refetchTimeout block => Sys2Proof.Machine.execRefetchTimeout block s
  | .driveLost drive => Sys2Proof.Machine.execDriveLost drive s
  | .streamHalfFilled die cell half => Sys2Proof.Machine.execStreamHalfFilled die cell half s
  | .streamHalfConsumed die cell half => Sys2Proof.Machine.execStreamHalfConsumed die cell half s
  | .mcastChunkArrived die cell half chunk => Sys2Proof.Machine.execMcastChunkArrived die cell half chunk s
  | .routerPrefetch die layer experts => Sys2Proof.Machine.execRouterPrefetch die layer experts s
  | .tierSeal w => Sys2Proof.Machine.execTierSeal w s
  | .tierImport w => Sys2Proof.Machine.execTierImport w s
  | .tierPromote w => Sys2Proof.Machine.execTierPromote w s
  | .tierSink w => Sys2Proof.Machine.execTierSink w s
  | .tierFree w => Sys2Proof.Machine.execTierFree w s
  | .tierQuery w => Sys2Proof.Machine.execTierQuery w s
  | .tierModeWrite v => Sys2Proof.Machine.execTierModeWrite v s
  | .tierResvLimitWrite n v => Sys2Proof.Machine.execTierResvLimitWrite n v s
  | .translationWalkEnd die tenant granule ue => Sys2Proof.Machine.execTranslationWalkEnd die tenant granule ue s
  | .fillRecordEnd die record outcome => Sys2Proof.Machine.execFillRecordEnd die record outcome s
  | .xltInsert w => Sys2Proof.Machine.execXltInsert w s
  | .xltRevoke w => Sys2Proof.Machine.execXltRevoke w s
  | .revokeDrainEnd => Sys2Proof.Machine.execRevokeDrainEnd s
  | .revokeDrainTimeout => Sys2Proof.Machine.execRevokeDrainTimeout s
  | .xltLookup w => Sys2Proof.Machine.execXltLookup w s
  | .xltSetHome w => Sys2Proof.Machine.execXltSetHome w s
  | .scalarInstruction cell ue => Sys2Proof.Machine.execScalarInstruction cell ue s
  | .mxIssue cell rd rs1 => Sys2Proof.Machine.execMxIssue cell rd rs1 s
  | .vxIssue cell rd rs1 => Sys2Proof.Machine.execVxIssue cell rd rs1 s
  | .mvIssue cell channel rd rs1 => Sys2Proof.Machine.execMvIssue cell channel rd rs1 s
  | .issueSlotFree cell => Sys2Proof.Machine.execIssueSlotFree cell s
  | .engWait cell queue rd rs1 => Sys2Proof.Machine.execEngWait cell queue rd rs1 s
  | .engWaitResume cell => Sys2Proof.Machine.execEngWaitResume cell s
  | .engPoll cell queue rd rs1 => Sys2Proof.Machine.execEngPoll cell queue rd rs1 s
  | .flagLd cell aq rd rs1 => Sys2Proof.Machine.execFlagLd cell aq rd rs1 s
  | .flagSt cell rl rs2 rs1 => Sys2Proof.Machine.execFlagSt cell rl rs2 rs1 s
  | .flagAdd cell aq rl rd rs2 rs1 => Sys2Proof.Machine.execFlagAdd cell aq rl rd rs2 rs1 s
  | .flagMax cell aq rl rd rs2 rs1 => Sys2Proof.Machine.execFlagMax cell aq rl rd rs2 rs1 s
  | .flagCas cell aq rl rd rs2 rs1 => Sys2Proof.Machine.execFlagCas cell aq rl rd rs2 rs1 s
  | .flagWaitge cell aq rd rs2 rs1 => Sys2Proof.Machine.execFlagWaitge cell aq rd rs2 rs1 s
  | .flagWaitgeResume cell => Sys2Proof.Machine.execFlagWaitgeResume cell s
  | .waitTimeout cell => Sys2Proof.Machine.execWaitTimeout cell s
  | .engRel cell => Sys2Proof.Machine.execEngRel cell s
  | .engRelRetire cell => Sys2Proof.Machine.execEngRelRetire cell s
  | .engRelTimeout cell => Sys2Proof.Machine.execEngRelTimeout cell s
  | .engAcq cell => Sys2Proof.Machine.execEngAcq cell s
  | .waleRd cell rd => Sys2Proof.Machine.execWaleRd cell rd s
  | .waleWait cell rd rs1 => Sys2Proof.Machine.execWaleWait cell rd rs1 s
  | .waleWaitResume cell => Sys2Proof.Machine.execWaleWaitResume cell s
  | .stimeRd cell rd => Sys2Proof.Machine.execStimeRd cell rd s
  | .ecall cell => Sys2Proof.Machine.execEcall cell s
  | .kernelTrap cell cause => Sys2Proof.Machine.execKernelTrap cell cause s
  | .mma cell ue => Sys2Proof.Machine.execMma cell ue s
  | .vAdd cell ue => Sys2Proof.Machine.execVAdd cell ue s
  | .vSub cell ue => Sys2Proof.Machine.execVSub cell ue s
  | .vMul cell ue => Sys2Proof.Machine.execVMul cell ue s
  | .vFma cell ue => Sys2Proof.Machine.execVFma cell ue s
  | .vMax cell ue => Sys2Proof.Machine.execVMax cell ue s
  | .vMin cell ue => Sys2Proof.Machine.execVMin cell ue s
  | .vExp cell ue => Sys2Proof.Machine.execVExp cell ue s
  | .vLog cell ue => Sys2Proof.Machine.execVLog cell ue s
  | .vRsqrt cell ue => Sys2Proof.Machine.execVRsqrt cell ue s
  | .vRcp cell ue => Sys2Proof.Machine.execVRcp cell ue s
  | .vCvt cell ue => Sys2Proof.Machine.execVCvt cell ue s
  | .vQmx cell ue => Sys2Proof.Machine.execVQmx cell ue s
  | .vDqmx cell ue => Sys2Proof.Machine.execVDqmx cell ue s
  | .vRsum cell ue => Sys2Proof.Machine.execVRsum cell ue s
  | .vRmax cell ue => Sys2Proof.Machine.execVRmax cell ue s
  | .vWadd cell ue => Sys2Proof.Machine.execVWadd cell ue s
  | .vArgmax cell ue => Sys2Proof.Machine.execVArgmax cell ue s
  | .mvGet cell channel ue => Sys2Proof.Machine.execMvGet cell channel ue s
  | .mvPut cell channel ue => Sys2Proof.Machine.execMvPut cell channel ue s
  | .mvCopy cell channel ue => Sys2Proof.Machine.execMvCopy cell channel ue s
  | .mvCellPut cell channel ue => Sys2Proof.Machine.execMvCellPut cell channel ue s
  | .mvAtom cell channel ue => Sys2Proof.Machine.execMvAtom cell channel ue s
  | .moverDescEnd cell channel => Sys2Proof.Machine.execMoverDescEnd cell channel s
  | .cellPutReceive p => Sys2Proof.Machine.execCellPutReceive p s
  | .syncTimer => Sys2Proof.Machine.execSyncTimer s
  | .sync m offset errorNs locked => Sys2Proof.Machine.execSync m offset errorNs locked s
  | .deviceReady => Sys2Proof.Machine.execDeviceReady s
  | .ready m => Sys2Proof.Machine.execReady m s
  | .hold m => Sys2Proof.Machine.execHold m s
  | .holdRepeatTimer => Sys2Proof.Machine.execHoldRepeatTimer s
  | .boundaryAnnounce => Sys2Proof.Machine.execBoundaryAnnounce s
  | .boundary m => Sys2Proof.Machine.execBoundary m s
  | .waleBoundary fact => Sys2Proof.Machine.execWaleBoundary fact s
  | .childSilenceTimeout child => Sys2Proof.Machine.execChildSilenceTimeout child s
  | .schedFail m => Sys2Proof.Machine.execSchedFail m s
  | .stepKernel track => Sys2Proof.Machine.execStepKernel track s
  | .stepStream track => Sys2Proof.Machine.execStepStream track s
  | .stepService track => Sys2Proof.Machine.execStepService track s
  | .stepSearch track => Sys2Proof.Machine.execStepSearch track s
  | .stepEnd track => Sys2Proof.Machine.execStepEnd track s
  | .searchSlotEnd track => Sys2Proof.Machine.execSearchSlotEnd track s
  | .overrunHold => Sys2Proof.Machine.execOverrunHold s
  | .overrunGraceExpiry => Sys2Proof.Machine.execOverrunGraceExpiry s
  | .stretchWarnTimer => Sys2Proof.Machine.execStretchWarnTimer s
  | .schedWaleLenWrite v => Sys2Proof.Machine.execSchedWaleLenWrite v s
  | .schedAdmitMaxWrite v => Sys2Proof.Machine.execSchedAdmitMaxWrite v s
  | .startTurn tenant slot line => Sys2Proof.Machine.execStartTurn tenant slot line s
  | .cancel tenant slot line => Sys2Proof.Machine.execCancel tenant slot line s
  | .drop tenant slot line => Sys2Proof.Machine.execDrop tenant slot line s
  | .ring tenant slot line => Sys2Proof.Machine.execRing tenant slot line s
  | .aperturePartialWrite tenant slot => Sys2Proof.Machine.execAperturePartialWrite tenant slot s
  | .apertureRead tenant slot => Sys2Proof.Machine.execApertureRead tenant slot s
  | .controlLineWrite tenant line => Sys2Proof.Machine.execControlLineWrite tenant line s
  | .attentionLapse tenant => Sys2Proof.Machine.execAttentionLapse tenant s
  | .reserve m => Sys2Proof.Machine.execReserve m s
  | .grant peer tenant request code => Sys2Proof.Machine.execGrant peer tenant request code s
  | .commit owner tenant request tokens => Sys2Proof.Machine.execCommit owner tenant request tokens s
  | .reserveCancel owner tenant request => Sys2Proof.Machine.execReserveCancel owner tenant request s
  | .turnDeadline tenant request => Sys2Proof.Machine.execTurnDeadline tenant request s
  | .completionRecordWrite ctx ringDead => Sys2Proof.Machine.execCompletionRecordWrite ctx ringDead s
  | .clearDegraded w => Sys2Proof.Machine.execClearDegraded w s
  | .query tenant slot line readDead => Sys2Proof.Machine.execQuery tenant slot line readDead s
  | .qcancel tenant slot line => Sys2Proof.Machine.execQcancel tenant slot line s
  | .queryRelay m => Sys2Proof.Machine.execQueryRelay m s
  | .queryPart m shardSlot => Sys2Proof.Machine.execQueryPart m shardSlot s
  | .partAck q shard => Sys2Proof.Machine.execPartAck q shard s
  | .partProgressTimer part => Sys2Proof.Machine.execPartProgressTimer part s
  | .partProgress q shard => Sys2Proof.Machine.execPartProgress q shard s
  | .partSilenceTimeout q shard => Sys2Proof.Machine.execPartSilenceTimeout q shard s
  | .partResendTimer q shard => Sys2Proof.Machine.execPartResendTimer q shard s
  | .partCancel part => Sys2Proof.Machine.execPartCancel part s
  | .partAnswer q shard a => Sys2Proof.Machine.execPartAnswer q shard a s
  | .answerAck part dead => Sys2Proof.Machine.execAnswerAck part dead s
  | .queryRecordWrite q => Sys2Proof.Machine.execQueryRecordWrite q s
  | .queryDeadline q => Sys2Proof.Machine.execQueryDeadline q s
  | .sweepBlockLoad array shardSlot partition firstRow rows dev refBad => Sys2Proof.Machine.execSweepBlockLoad array shardSlot partition firstRow rows dev refBad s
  | .rerankComplete part => Sys2Proof.Machine.execRerankComplete part s
  | .partMemwaitEnd part poison => Sys2Proof.Machine.execPartMemwaitEnd part poison s
  | .arrayCalibrate array => Sys2Proof.Machine.execArrayCalibrate array s
  | .arrayTempStep array temp => Sys2Proof.Machine.execArrayTempStep array temp s
  | .arrayCalibrationEnd array e => Sys2Proof.Machine.execArrayCalibrationEnd array e s
  | .shardLoad w => Sys2Proof.Machine.execShardLoad w s
  | .shardUnload w => Sys2Proof.Machine.execShardUnload w s
  | .shardReplace w => Sys2Proof.Machine.execShardReplace w s
  | .linkSignalDetect port lanes => Sys2Proof.Machine.execLinkSignalDetect port lanes s
  | .linkTrainStepDone port lanes sameSession => Sys2Proof.Machine.execLinkTrainStepDone port lanes sameSession s
  | .linkTrainTimeout port => Sys2Proof.Machine.execLinkTrainTimeout port s
  | .linkRetrain port => Sys2Proof.Machine.execLinkRetrain port s
  | .linkReauth port => Sys2Proof.Machine.execLinkReauth port s
  | .lnkEnableWrite port v => Sys2Proof.Machine.execLnkEnableWrite port v s
  | .keepaliveEntry port => Sys2Proof.Machine.execKeepaliveEntry port s
  | .keepaliveBurstTimer port => Sys2Proof.Machine.execKeepaliveBurstTimer port s
  | .keepaliveExit port => Sys2Proof.Machine.execKeepaliveExit port s
  | .flitData port check ps => Sys2Proof.Machine.execFlitData port check ps s
  | .flitCtrl port check ackSeq nak credits => Sys2Proof.Machine.execFlitCtrl port check ackSeq nak credits s
  | .ctrlFillTimer port => Sys2Proof.Machine.execCtrlFillTimer port s
  | .hello port nonce => Sys2Proof.Machine.execHello port nonce s
  | .cert port c => Sys2Proof.Machine.execCert port c s
  | .proof port sigOk share => Sys2Proof.Machine.execProof port sigOk share s
  | .authDone port hmacOk => Sys2Proof.Machine.execAuthDone port hmacOk s
  | .authFail port => Sys2Proof.Machine.execAuthFail port s
  | .rekey port epoch => Sys2Proof.Machine.execRekey port epoch s
  | .authTimeout port => Sys2Proof.Machine.execAuthTimeout port s
  | .quarantineHoldoffExpiry port => Sys2Proof.Machine.execQuarantineHoldoffExpiry port s
  | .rekeyThreshold port => Sys2Proof.Machine.execRekeyThreshold port s
  | .packetForward inPort p => Sys2Proof.Machine.execPacketForward inPort p s
  | .load p => Sys2Proof.Machine.execLoad p s
  | .store p => Sys2Proof.Machine.execStore p s
  | .atomic p => Sys2Proof.Machine.execAtomic p s
  | .fence p => Sys2Proof.Machine.execFence p s
  | .reply p => Sys2Proof.Machine.execReply p s
  | .fenceDone p => Sys2Proof.Machine.execFenceDone p s
  | .delivered src entries => Sys2Proof.Machine.execDelivered src entries s
  | .probe p => Sys2Proof.Machine.execProbe p s
  | .probeReply src => Sys2Proof.Machine.execProbeReply src s
  | .waking src tag => Sys2Proof.Machine.execWaking src tag s
  | .portDown port cut => Sys2Proof.Machine.execPortDown port cut s
  | .deliveredTimer src => Sys2Proof.Machine.execDeliveredTimer src s
  | .resendTimer flow seq => Sys2Proof.Machine.execResendTimer flow seq s
  | .deadTimeout tag => Sys2Proof.Machine.execDeadTimeout tag s
  | .postedLostTimeout flow seq => Sys2Proof.Machine.execPostedLostTimeout flow seq s
  | .probeTimer dst => Sys2Proof.Machine.execProbeTimer dst s
  | .hostRead binding dpa ask ue => Sys2Proof.Machine.execHostRead binding dpa ask ue s
  | .hostWrite binding dpa data mask => Sys2Proof.Machine.execHostWrite binding dpa data mask s
  | .hostWriteback binding sa data => Sys2Proof.Machine.execHostWriteback binding sa data s
  | .recallStart line holder => Sys2Proof.Machine.execRecallStart line holder s
  | .recall home binding sa range => Sys2Proof.Machine.execRecall home binding sa range s
  | .birspi binding sa dirty => Sys2Proof.Machine.execBirspi binding sa dirty s
  | .recallAck holder sa dirty => Sys2Proof.Machine.execRecallAck holder sa dirty s
  | .recallTimeout line holder => Sys2Proof.Machine.execRecallTimeout line holder s
  | .fenced holder => Sys2Proof.Machine.execFenced holder s
  | .coherentResend requester mover request => Sys2Proof.Machine.execCoherentResend requester mover request s
  | .homeopAtom binding line data => Sys2Proof.Machine.execHomeopAtom binding line data s
  | .openView binding line data => Sys2Proof.Machine.execOpenView binding line data s
  | .closeView binding line data => Sys2Proof.Machine.execCloseView binding line data s
  | .publish binding line data => Sys2Proof.Machine.execPublish binding line data s
  | .homeop src tenant binding line sa staging req stagingCode => Sys2Proof.Machine.execHomeop src tenant binding line sa staging req stagingCode s
  | .homeopReply binding line code detail result => Sys2Proof.Machine.execHomeopReply binding line code detail result s
  | .bind w => Sys2Proof.Machine.execBind w s
  | .unbind w => Sys2Proof.Machine.execUnbind w s
  | .unfence w => Sys2Proof.Machine.execUnfence w s
  | .dcAdd w => Sys2Proof.Machine.execDcAdd w s
  | .dcWithdraw w => Sys2Proof.Machine.execDcWithdraw w s
  | .dcHostResponse accept => Sys2Proof.Machine.execDcHostResponse accept s
  | .dcHostRelease binding dpa => Sys2Proof.Machine.execDcHostRelease binding dpa s
  | .dcGraceExpiry => Sys2Proof.Machine.execDcGraceExpiry s
  | .comCreate w => Sys2Proof.Machine.execComCreate w s
  | .comGrant w => Sys2Proof.Machine.execComGrant w s
  | .comDestroy w => Sys2Proof.Machine.execComDestroy w s
  | .decoderCommit binding decoder region backInvalidate => Sys2Proof.Machine.execDecoderCommit binding decoder region backInvalidate s
  | .ideKm session stream key => Sys2Proof.Machine.execIdeKm session stream key s
  | .ideFail stream => Sys2Proof.Machine.execIdeFail stream s
  | .beatTimer => Sys2Proof.Machine.execBeatTimer s
  | .beat src forDev => Sys2Proof.Machine.execBeat src forDev s
  | .beatAck keeper => Sys2Proof.Machine.execBeatAck keeper s
  | .isolateTimeout => Sys2Proof.Machine.execIsolateTimeout s
  | .voteTimer dev => Sys2Proof.Machine.execVoteTimer dev s
  | .proposeCreate src r => Sys2Proof.Machine.execProposeCreate src r s
  | .proposeOffer src r => Sys2Proof.Machine.execProposeOffer src r s
  | .proposeAccept src r => Sys2Proof.Machine.execProposeAccept src r s
  | .proposeWithdraw src r => Sys2Proof.Machine.execProposeWithdraw src r s
  | .proposeSeize src r => Sys2Proof.Machine.execProposeSeize src r s
  | .proposeReturn src r => Sys2Proof.Machine.execProposeReturn src r s
  | .proposeFate src r => Sys2Proof.Machine.execProposeFate src r s
  | .vote keeper r => Sys2Proof.Machine.execVote keeper r s
  | .stored keeper r => Sys2Proof.Machine.execStored keeper r s
  | .keeperCopyComplete => Sys2Proof.Machine.execKeeperCopyComplete s
  | .failoverReplayStart => Sys2Proof.Machine.execFailoverReplayStart s
  | .notice r => Sys2Proof.Machine.execNotice r s
  | .mapQuery src kind key => Sys2Proof.Machine.execMapQuery src kind key s
  | .answer r => Sys2Proof.Machine.execAnswer r s
  | .offerExpiry kind key => Sys2Proof.Machine.execOfferExpiry kind key s
  | .handoverStateComplete kind key => Sys2Proof.Machine.execHandoverStateComplete kind key s
  | .handoverRelease kind key => Sys2Proof.Machine.execHandoverRelease kind key s
  | .mirrorTransfer src epoch item => Sys2Proof.Machine.execMirrorTransfer src epoch item s
  | .rehearsal => Sys2Proof.Machine.execRehearsal s
  | .rehearsalDeviceStop => Sys2Proof.Machine.execRehearsalDeviceStop s
  | .mapLookup w => Sys2Proof.Machine.execMapLookup w s
  | .mapOffer w => Sys2Proof.Machine.execMapOffer w s
  | .mapWithdraw w => Sys2Proof.Machine.execMapWithdraw w s
  | .declare w => Sys2Proof.Machine.execDeclare w s
  | .repair w => Sys2Proof.Machine.execRepair w s
  | .inject w => Sys2Proof.Machine.execInject w s
  | .repairSelfTestEnd pass => Sys2Proof.Machine.execRepairSelfTestEnd pass s
  | .repairStateCurrent lost => Sys2Proof.Machine.execRepairStateCurrent lost s
  | .repairTimeout => Sys2Proof.Machine.execRepairTimeout s
  | .coldStart f => Sys2Proof.Machine.execColdStart f s
  | .drivesReady ds => Sys2Proof.Machine.execDrivesReady ds s
  | .driveReadyTimeout drive => Sys2Proof.Machine.execDriveReadyTimeout drive s
  | .standLockTimeout => Sys2Proof.Machine.execStandLockTimeout s
  | .joinSend => Sys2Proof.Machine.execJoinSend s
  | .join dev digest crust => Sys2Proof.Machine.execJoin dev digest crust s
  | .joinAck wale time => Sys2Proof.Machine.execJoinAck wale time s
  | .refuse => Sys2Proof.Machine.execRefuse s
  | .formBoundExpiry => Sys2Proof.Machine.execFormBoundExpiry s
  | .warmStart f => Sys2Proof.Machine.execWarmStart f s
  | .catalogueCompact drive => Sys2Proof.Machine.execCatalogueCompact drive s
  | .reloadReady dev partialId => Sys2Proof.Machine.execReloadReady dev partialId s
  | .reloadGo partialId wale => Sys2Proof.Machine.execReloadGo partialId wale s
  | .reloadAbandon partialId => Sys2Proof.Machine.execReloadAbandon partialId s
  | .writeSlot w img => Sys2Proof.Machine.execWriteSlot w img s
  | .activate w => Sys2Proof.Machine.execActivate w s
  | .restart w => Sys2Proof.Machine.execRestart w s
  | .stage w img => Sys2Proof.Machine.execStage w img s
  | .abandon w => Sys2Proof.Machine.execAbandon w s
  | .scanCrc64 u w => Sys2Proof.Machine.execScanCrc64 u w s
  | .scanCrc32c u w => Sys2Proof.Machine.execScanCrc32c u w s
  | .scanJobEnd u => Sys2Proof.Machine.execScanJobEnd u s
  | .getVersion t => Sys2Proof.Machine.execGetVersion t s
  | .getCapabilities t => Sys2Proof.Machine.execGetCapabilities t s
  | .negotiateAlgorithms t => Sys2Proof.Machine.execNegotiateAlgorithms t s
  | .getDigests t => Sys2Proof.Machine.execGetDigests t s
  | .getCertificate t slot offset length => Sys2Proof.Machine.execGetCertificate t slot offset length s
  | .challenge t slot nonce => Sys2Proof.Machine.execChallenge t slot nonce s
  | .getMeasurements t index nonce => Sys2Proof.Machine.execGetMeasurements t index nonce s
  | .keyExchange t share => Sys2Proof.Machine.execKeyExchange t share s
  | .finish t session ok => Sys2Proof.Machine.execFinish t session ok s
  | .keyUpdate t session => Sys2Proof.Machine.execKeyUpdate t session s
  | .heartbeat t session => Sys2Proof.Machine.execHeartbeat t session s
  | .endSession t session => Sys2Proof.Machine.execEndSession t session s
  | .getCsr t session => Sys2Proof.Machine.execGetCsr t session s
  | .setCertificate t session slot c rpOk => Sys2Proof.Machine.execSetCertificate t session slot c rpOk s
  | .release t session sigOk nonce rpOk => Sys2Proof.Machine.execRelease t session sigOk nonce rpOk s
  | .inputUndervolt mv => Sys2Proof.Machine.execInputUndervolt mv s
  | .inputCollapse mv => Sys2Proof.Machine.execInputCollapse mv s
  | .inputOvervolt mv => Sys2Proof.Machine.execInputOvervolt mv s
  | .overvoltRecovery mv => Sys2Proof.Machine.execOvervoltRecovery mv s
  | .clusterClockStop cluster => Sys2Proof.Machine.execClusterClockStop cluster s
  | .clusterPllStop cluster => Sys2Proof.Machine.execClusterPllStop cluster s
  | .clusterClockStart cluster => Sys2Proof.Machine.execClusterClockStart cluster s
  | .clusterClockRunning cluster => Sys2Proof.Machine.execClusterClockRunning cluster s
  | .pwrSleep w => Sys2Proof.Machine.execPwrSleep w s
  | .pwrWake w => Sys2Proof.Machine.execPwrWake w s
  | .asleep dev wale => Sys2Proof.Machine.execAsleep dev wale s
  | .awake dev wale => Sys2Proof.Machine.execAwake dev wale s
  | .wake dev => Sys2Proof.Machine.execWake dev s
  | .sleepQuiet => Sys2Proof.Machine.execSleepQuiet s
  | .sleepQuietTimeout => Sys2Proof.Machine.execSleepQuietTimeout s
  | .sleepWake cause => Sys2Proof.Machine.execSleepWake cause s
  | .wakeSequenceEnd => Sys2Proof.Machine.execWakeSequenceEnd s
  | .wakeTimeout => Sys2Proof.Machine.execWakeTimeout s
  | .wakeBoundExpiry dst tag => Sys2Proof.Machine.execWakeBoundExpiry dst tag s
  | .sleepWaleTick => Sys2Proof.Machine.execSleepWaleTick s
  | .dieFault kind die => Sys2Proof.Machine.execDieFault kind die s
  | .thermalStage sensor level temp => Sys2Proof.Machine.execThermalStage sensor level temp s
  | .thermalStageClear temps => Sys2Proof.Machine.execThermalStageClear temps s
  | .thermalCooldownRestart => Sys2Proof.Machine.execThermalCooldownRestart s
  | .thermNAssert => Sys2Proof.Machine.execThermNAssert s
  | .wakeNAssert => Sys2Proof.Machine.execWakeNAssert s
  | .pinChatterQuiet pin level => Sys2Proof.Machine.execPinChatterQuiet pin level s
  | .pinHeld pin => Sys2Proof.Machine.execPinHeld pin s
  | .perstNAssert => Sys2Proof.Machine.execPerstNAssert s
  | .perstNRelease => Sys2Proof.Machine.execPerstNRelease s
  | .pwrPolicyWrite v => Sys2Proof.Machine.execPwrPolicyWrite v s
  | .pwrWakeBoundWrite v => Sys2Proof.Machine.execPwrWakeBoundWrite v s
  | .pldmBase t command => Sys2Proof.Machine.execPldmBase t command s
  | .pldmSensorRead t sensor => Sys2Proof.Machine.execPldmSensorRead t sensor s
  | .pldmFwTransfer t offset bytes last => Sys2Proof.Machine.execPldmFwTransfer t offset bytes last s
  | .activateFirmware t => Sys2Proof.Machine.execActivateFirmware t s
  | .pldmFileRead t offset length => Sys2Proof.Machine.execPldmFileRead t offset length s
  | .regRead t off => Sys2Proof.Machine.execRegRead t off s
  | .regWrite t off v => Sys2Proof.Machine.execRegWrite t off v s
  | .mgtWindow demandPercent => Sys2Proof.Machine.execMgtWindow demandPercent s
  | .mgtHeartbeatTick => Sys2Proof.Machine.execMgtHeartbeatTick s
  | .mpStallWatchdog => Sys2Proof.Machine.execMpStallWatchdog s
  | .mpRestart => Sys2Proof.Machine.execMpRestart s
  | .mgtFaultAckWrite v => Sys2Proof.Machine.execMgtFaultAckWrite v s
  | .telSnapshot => Sys2Proof.Machine.execTelSnapshot s
  | .telCtlWrite v => Sys2Proof.Machine.execTelCtlWrite v s
  | .wakeNRelease => Sys2Proof.Machine.execWakeNRelease s
  | .thermNRelease => Sys2Proof.Machine.execThermNRelease s
  | .hostLinkDown => Sys2Proof.Machine.execHostLinkDown s
  | .hostLinkTrained width pbr => Sys2Proof.Machine.execHostLinkTrained width pbr s
  | .endpointIdAssignment eid => Sys2Proof.Machine.execEndpointIdAssignment eid s

end Sys2Proof.Machine
end

