-- ==== Sys2Proof/Safety.lean ====
section
/-! DEFINITION. What a safe step is, and the conditions that the statements name. -/
namespace Sys2Proof.Machine

/-- The command completes on the state. -/
def Completes (c : Instr) (s : State) : Prop := ∃ t, exec c s = .next t

/-- A register whose writes start no command and give no command its argument. -/
def plainOffset (off : Nat) : Bool :=
  !([F.tierOpCmd_op, F.xltEditCmd_op, F.srchShardCmd_slot, F.svcModelCmd_model, F.hptCmd_op, F.mapCmd_op, F.weaveCmd_op,
      F.pwrCmd_op, F.mgtFaultAck_ack, F.schedWaleLen_lenUs, F.hptArg0_all, F.hptArg1_all, F.mapArg0_kind, F.mapArg1_key,
      F.weaveArg_all, F.xltEditW0_all, F.xltEditW1_all].any fun f => f.base == off) &&
    (F.lnkCtl_enable.instOf off).isNone && (F.chkScanCmd_op.instOf off).isNone &&
    (F.chkScanAddr_addr.instOf off).isNone && (F.chkScanLen_length.instOf off).isNone

/-- The word sets no reserved bit of the register. -/
def RegDesc.clean (d : RegDesc) (v : Word) : Prop := v &&& ~~~(BitVec.ofNat 64 d.fieldMask) = 0

/-- The register lies on a die or port that the ordering code fits. -/
def State.fits (s : State) (d : RegDesc) (off : Nat) : Bool := fitted s.code d.base d.count ((off - d.base) / d.stride)

/-- The registers whose read is a measurement of the silicon. -/
def analogueBase (base : Nat) : Bool :=
  base == F.pwrInput_mv.base || base == F.pwrEnergy_joules.base || base == F.pwrRail_mv.base

/-- Nothing in the device is under way: no mover runs, no cell waits, no step is open, nothing is staged, held, recalled or
adopted. -/
def State.quiet (s : State) : Bool :=
  s.tier.ready.isEmpty && s.tier.events.isEmpty && s.fab.fencesIn.isEmpty && s.sched.runs.isEmpty && s.sched.holds.isEmpty &&
    s.cell.cells.all (fun e => e.2.mv.all (fun m => m.2.run.isNone) && e.2.stall == .none && e.2.track.isNone) &&
    s.tier.blocks.all (fun e => e.2.refetch.isNone) && s.weave.staged.isNone && !s.busyNow &&
    s.map.failover.isNone && s.map.adopted.isNone && s.map.active.isNone &&
    s.hpt.creating.isNone && s.hpt.replies.isEmpty && s.hpt.dcOps.isEmpty && s.hpt.ranges.isEmpty

/-- A write of a command register that starts its command: the register is fitted, the word sets no reserved bit, no command
runs. -/
def State.cmdReady (s : State) (d : RegDesc) (cmd busy : Fld) (i : Nat) (w : Word) : Prop :=
  regAt (cmd.off i) = some d ∧ d.clean w ∧ s.fits d (cmd.off i) = true ∧ s.getF busy i ≠ 1

/-- The state in which the command has been written. -/
def State.cmdWritten (s : State) (d : RegDesc) (cmd : Fld) (i : Nat) (w : Word) : State :=
  s.setReg (cmd.off i) (d.written (s.reg (cmd.off i)) w)

/-- The state in which the command has been written and runs. -/
def State.cmdTaken (s : State) (d : RegDesc) (cmd busy : Fld) (i : Nat) (w : Word) : State :=
  (s.cmdWritten d cmd i w).setF busy i 1

/-- A line of the own store that a tenant may access, with no copy of it anywhere and no commons over it. -/
def State.servesHere (s : State) (t : Tenant) (off : Nat) : Prop :=
  s.mode = .service ∧ off % 64 = 0 ∧ off < 2 ^ 47 ∧ off + 64 ≤ s.storeSize ∧ s.inStand s.device = true ∧
    s.homeCheck t off = none ∧ (s.homeRec (off / 33554432)).mode ≠ .commons ∧ s.dirAt (off / 64) = { owned := false, holders := [], waiting := [] } ∧
    s.commonsOf (off / blockBytes) = none

/-- An engine's access to one line of the own store. -/
def engineAccess (t : Tenant) (off : Nat) (kind : AccKind) : Access :=
  { who := .engine, tenant := t, off := off, kind := kind, resv := none }

end Sys2Proof.Machine
end

