-- ==== Sys2Proof/Certificates/Slice0/Obligations.lean ====
section
/-! DEFINITION. The statements. Each says what commands do to the state, as the rules of spec/ give it, or which forms of them the block
does not take; the notes of each name the rules. -/

open Sys2Proof Sys2Proof.Machine

/-! ### The block as a machine -/

/-- A step with a command at the front of the queue is exec of that command on the queue's rest. The model's choice (log entry 6): on an
empty queue a step lets one nanosecond of stand time pass and changes nothing else; and a word of the table spells no command, the
table giving no row any bits. -/
def Obligations.StepRunsFront : Prop :=
  (∀ (c : Instr) (q : List Instr) (s : State), step { s with pending := c :: q } = exec c { s with pending := q }) ∧
  ((∀ s : State, s.pending = [] → step s = .next { s with stime := s.stime + 1 }) ∧
   (∀ (s : State) (n w : Nat), decodeTableWord n w = none ∧ s.withFetchWord n w = s))

/-- Right after reset the device is in SLATH, no wale has been counted, no register is written, no command waits; every register holds
its reset value, and the fields below hold the numbers of their tables. -/
def Obligations.ResetState : Prop :=
  State.reset.mode = .slath ∧ State.reset.pending = [] ∧ State.reset.mem.wf = true ∧
  (∀ off, State.reset.reg off = resetWord State.reset.code off) ∧
  (∀ n, n < 8 → State.reset.getF F.lnkState_state n = 0) ∧
  State.reset.getF F.tierMode_sealT1Copy = 1 ∧ State.reset.getF F.tierMode_ageShift = 4 ∧
  State.reset.getF F.tierRefetchBound_boundUs = 20000 ∧ State.reset.getF F.tierOpCmd_elem = 1 ∧
  State.reset.getF F.schedReadyBound_boundUs = 200 ∧ State.reset.getF F.schedOverrunGrace_graceUs = 100 ∧
  State.reset.getF F.schedAdmitMax_max = 512

/-- With nothing under way in the device, the end of a command does nothing more: `finish` leaves such a state as it is. -/
def Obligations.FinishOfQuiet : Prop :=
 ∀ s : State, s.quiet = true → s.finish = s

/-! ### Registers -/

/-- A write of a register that starts no command: every field takes the value its access type gives it; a write that sets a reserved bit
leaves the fields of that one register a free value (R11, log entry 3); where no register lies, and on a die or port that is not
fitted, the write is ignored. Nothing but that register and the count of free values changes before the command's end. -/
def Obligations.RegisterWriteCompletes : Prop :=
  ∀ (off : RegOff) (v : Word) (s : State), plainOffset off.toNat = true →
    (∀ d, regAt off.toNat = some d → d.clean v →
      exec (.registerWrite off v) s = .next (State.finish
        (if s.fits d off.toNat then s.setReg off.toNat (d.written (s.reg off.toNat) v) else s))) ∧
    (∀ d, regAt off.toNat = some d → ¬ d.clean v →
      exec (.registerWrite off v) s = .next (State.finish
        (if s.fits d off.toNat then
          State.setReg { s with free := s.free + 1 } off.toNat
            (d.written (s.reg off.toNat) (Config.freeWord s.free &&& BitVec.ofNat 64 d.fieldMask))
        else { s with free := s.free + 1 }))) ∧
    (regAt off.toNat = none → exec (.registerWrite off v) s = .next s.finish)

/-- The access types of R10, for every register of the device and all words. A read returns the value of the RW, W1C and W1S fields and
clears the RC fields after it; a write leaves RO and RC fields, sets RW fields, and clears W1C and sets W1S fields by the ones
written. A read of an offset at which no register lies returns zero, and a write to it is ignored (R697): neither changes any
register, memory or other part of the device. -/
def Obligations.AccessTypesOfFields : Prop :=
  ((∀ (off : Nat) (d : RegDesc), regAt off = some d → ∀ f ∈ d.fields, ∀ old new : Word,
     fieldOf (d.written old new) f.lo f.width =
       match f.acc with
       | .ro | .rc => fieldOf old f.lo f.width
       | .rw => fieldOf new f.lo f.width
       | .w1c => fieldOf old f.lo f.width &&& (2 ^ f.width - 1 - fieldOf new f.lo f.width)
       | .w1s => fieldOf old f.lo f.width ||| fieldOf new f.lo f.width) ∧
   (∀ (off : RegOff) (d : RegDesc) (s : State), regAt off.toNat = some d → s.fits d off.toNat = true →
     ∃ (w : Word) (t : State), exec (.registerReadClear off) s = .next t ∧ t.out = s.out ++ [.reg off.toNat w] ∧
       (∀ f ∈ d.fields, f.acc = .rw ∨ f.acc = .w1c ∨ f.acc = .w1s →
         fieldOf w f.lo f.width = fieldOf (s.reg off.toNat) f.lo f.width ∧
         fieldOf (t.reg off.toNat) f.lo f.width = fieldOf (s.reg off.toNat) f.lo f.width) ∧
       (∀ f ∈ d.fields, f.acc = .rc → fieldOf w f.lo f.width = fieldOf (s.reg off.toNat) f.lo f.width ∧
         fieldOf (t.reg off.toNat) f.lo f.width = 0))) ∧
  (∀ (off : RegOff) (v : Word) (s : State), regAt off.toNat = none →
     exec (.registerReadClear off) s = .next { s with out := s.out ++ [.reg off.toNat 0] } ∧
     exec (.registerWrite off v) s = .next s.finish)

/-- An 8-byte read answers the register's value and then clears its RC fields and nothing else; where no register lies, and on a die or
port that is not fitted, it answers zero. A write of fewer bytes is discarded: it is counted, raises REG_WIDTH, and changes no other
register, no memory and no other part of the device but the fault records. -/
def Obligations.RegisterReadCompletes : Prop :=
  (∀ (off : RegOff) (d : RegDesc) (s : State), regAt off.toNat = some d → analogueBase d.base = false →
    ∃ t, exec (.registerReadClear off) s = .next t ∧ t.out = s.out ++ [.reg off.toNat (s.regValue off.toNat).1] ∧
      (s.fits d off.toNat = false → (s.regValue off.toNat).1 = 0) ∧
      t.regs = (if d.fields.any (fun f => f.acc == .rc) then (s.setReg off.toNat (d.cleared (s.reg off.toNat))).regs else s.regs) ∧
      t = { s with regs := t.regs, out := t.out }) ∧
  (∀ (off : RegOff) (s : State), regAt off.toNat = none →
    exec (.registerReadClear off) s = .next (s.emit (.reg off.toNat 0))) ∧
  (∀ (off : RegOff) (n : Nat) (s : State), ∃ t, exec (.registerPartialWrite off n) s = .next t ∧
    t = { s with regs := t.regs, mgt := t.mgt } ∧
    t = (s.addF F.mgtRegDiscard_count 0 1).flag F.mgtStatus_regWidth)

/-- The registers whose writes wait for the boundary, and TEL_CTL: a write with no reserved bit is what a read returns, and the values
in force stay until the boundary (step 2 of its sequence brings them into force). SCHED_WALE_LEN.NEXT_US takes a length on the time
source alone: a length outside 50 to 100,000 us or below what the templates of the stand fit is refused and leaves NEXT_US 0.
MGT_FAULT_ACK takes the value written unless it is ahead of SEQ. -/
def Obligations.NamedWritesComplete : Prop :=
  ((∀ (v : Word) (s : State) (e : Instr × Nat × RegDesc),
     (e.1, e.2.1) ∈ [(Instr.tierModeWrite v, F.tierMode_pool.off 0), (.schedAdmitMaxWrite v, F.schedAdmitMax_max.off 0),
       (.pwrPolicyWrite v, F.pwrPolicy_restWales.off 0), (.pwrWakeBoundWrite v, F.pwrWakeBound_boundMs.off 0),
       (.telCtlWrite v, F.telCtl_interval.off 0)] →
     regAt e.2.1 = some e.2.2 → s.fits e.2.2 e.2.1 = true → e.2.2.clean v →
     ∃ t, exec e.1 s = .next t ∧ t = s.setReg e.2.1 (e.2.2.written (s.reg e.2.1) v) ∧ t.inForce = s.inForce) ∧
   (∀ (v : Word) (n : Nat) (d : RegDesc) (s : State), n < 256 → regAt (F.tierResvLimit_t0Limit.off n) = some d → d.clean v →
     ∃ t, exec (.tierResvLimitWrite n v) s = .next t ∧
       t = s.setReg (F.tierResvLimit_t0Limit.off n) (d.written (s.reg (F.tierResvLimit_t0Limit.off n)) v) ∧
       t.inForce = s.inForce) ∧
   (∀ s : State, s.applyHeld.inForce = s.regs ∧ s.applyHeld = { s with inForce := s.applyHeld.inForce })) ∧
  ((∀ (v : Word) (d : RegDesc) (s : State), regAt (F.schedWaleLen_nextUs.off 0) = some d → d.clean v → s.isSource = true →
     (50 ≤ fieldOf v 17 17 → fieldOf v 17 17 ≤ 100000 → s.sched.standMinUs ≤ fieldOf v 17 17 →
       exec (.schedWaleLenWrite v) s =
         .next ((s.setF F.schedWaleLen_nextUs 0 (fieldOf v 17 17)).setF F.schedWaleLen_refused 0 0)) ∧
     (fieldOf v 17 17 ≠ 0 → fieldOf v 17 17 < 50 ∨ 100000 < fieldOf v 17 17 ∨ fieldOf v 17 17 < s.sched.standMinUs →
       exec (.schedWaleLenWrite v) s =
         .next ((s.setF F.schedWaleLen_nextUs 0 0).setF F.schedWaleLen_refused 0 1))) ∧
   (∀ (v : Word) (s : State), s.isSource = false → exec (.schedWaleLenWrite v) s = .next s) ∧
   (∀ (v : Word) (d : RegDesc) (s : State), regAt (F.mgtFaultAck_ack.off 0) = some d → d.clean v →
     let ahead := (fieldOf v 0 32 + 2 ^ 32 - s.getF F.mgtFaultSeq_seq) % 2 ^ 32
     ahead = 0 ∨ 2 ^ 31 ≤ ahead →
       exec (.mgtFaultAckWrite v) s = .next (s.setF F.mgtFaultAck_ack 0 (fieldOf v 0 32))))

/-! ### The store and its tiers -/

/-- STORE_READ of a line of the own store (R64, R109, R233): an EMPTY block reads as zeros and keeps no frame; a LIVE, MIGRATING or
SEALING one is served from its frame; a poisoned line ends POISON with all ones; a SEALED one from its HELD T0 copy; a QUARANTINED
one ends POISON. Each answer is one entry of what the device sends; memory is as before. -/
def Obligations.StoreReadCompletes : Prop :=
  ∀ (t : Tenant) (off : Nat) (s : State), s.servesHere t off →
    let sa := saStore s.device off
    let b := off / blockBytes
    let a := engineAccess t off (.load 1)
    ((s.blk b).state = .empty →
      exec (.storeRead t sa false) s = .next (State.finish (s.emit (.access a .done [0])))) ∧
    ((s.blk b).state = .quarantined →
      exec (.storeRead t sa false) s = .next (State.finish (s.emit (.access a .poison [lineOnes])))) ∧
    ((s.blk b).state = .live ∨ (s.blk b).state = .migrating ∨ (s.blk b).state = .sealing →
      s.dieFailed b (s.blk b).liveTier = false →
      let u := (s.setBlk b { s.blk b with lastWale := s.wale }).telServed a (s.blk b).liveTier 64
      u.mem = s.mem ∧
      exec (.storeRead t sa false) s = .next (State.finish
        (if (s.blk b).poison.contains (off % blockBytes / 64) then u.emit (.access a .poison [lineOnes])
         else u.emit (.access a .done [s.mem.line off])))) ∧
    ((s.blk b).state = .sealed → (s.blk b).t0 = .held → s.dieFailed b .t0 = false → ∀ i, s.image (s.blk b) = some i →
      exec (.storeRead t sa false) s = .next (State.finish
        ((((s.setBlk b { s.blk b with lastWale := s.wale }).telServed a .t0 64)).emit (.access a .done (i.lines off 1)))))

/-- STORE_WRITE of a line of a LIVE or MIGRATING block of the own store that is not mirrored (R64, R109): the bytes the mask enables
take the data, every other byte of memory is as before, a whole line clears the line's poison; a partial write of a poisoned line
ends POISON and has no effect. -/
def Obligations.StoreWriteCompletes : Prop :=
  ∀ (t : Tenant) (off : Nat) (data : Line) (mask : Mask) (s : State), s.servesHere t off →
    (s.blk (off / blockBytes)).state = .live ∨ (s.blk (off / blockBytes)).state = .migrating →
    let a := engineAccess t off (.store [data] mask)
    let ix := off % blockBytes / 64
    ((s.blk (off / blockBytes)).poison.contains ix = true → mask ≠ BitVec.allOnes 64 →
      exec (.storeWrite t (saStore s.device off) data mask false) s = .next (State.finish (s.emit (.access a .poison [])))) ∧
    ((s.blk (off / blockBytes)).poison.contains ix = false ∨ mask = BitVec.allOnes 64 → s.mirrored (off / 33554432) = false →
      ∃ u : State, exec (.storeWrite t (saStore s.device off) data mask false) s = .next (State.finish u) ∧
        u.mem = s.mem.setLine off data mask ∧ (∀ x, x < off ∨ off + 64 ≤ x → u.mem.byte x = s.mem.byte x) ∧
        u.out = s.out ++ [.access a .done []] ∧ u.regs = s.regs ∧
        (mask = BitVec.allOnes 64 → (u.blk (off / blockBytes)).poison.contains ix = false))

/-- The ends of work on a block (R58, R59, R65, R67): a copy-on-write leaves the block LIVE with its payload; a migration leaves it LIVE
in the other tier with the source frame free; a seal that is checked leaves it SEALED; a failed or poisoned one LIVE again, its
sectors freed and its bytes as before. Copies of a sealed block (R67, R72, R105 to R108): a fill that completes leaves the copy
HELD; one that fails leaves it NONE and the refetch order begins with the sources below; a SINKING copy whose last reader is done
becomes NONE; a refetch that completes ends; one whose source fails goes on to the next, and without another the block is
QUARANTINED with its bytes unreadable; at the bound the partner is no source. -/
def Obligations.BlockAndCopyWorkEnds : Prop :=
  ((∀ (b : Nat) (t : Tier) (i : Image) (s : State), (s.blk b).cow = some t → s.image (s.blk b) = some i →
     ∃ u : State, exec (.copyOnWriteComplete b) s = .next (State.finish u) ∧
       (u.blk b).state = .live ∧ (u.blk b).liveTier = t ∧ (u.blk b).cow = none ∧ (u.blk b).poison = [] ∧ (u.blk b).waiting = [] ∧
       u.mem = (s.mem.clear (b * blockBytes) ((b + 1) * blockBytes)).paste (b * blockBytes) i.payload) ∧
   (∀ (b : Nat) (s : State), (s.blk b).state = .migrating → (s.blk b).job = none →
     ∃ u : State, exec (.migrationComplete b) s = .next (State.finish u) ∧
       (u.blk b).state = .live ∧ (u.blk b).liveTier = (s.blk b).liveTier.other ∧ u.mem = s.mem) ∧
   (∀ (b k : Nat) (j : SealJob) (i : Image) (s : State), (s.blk b).state = .sealing → (s.blk b).job = some j → j.image = some k →
     s.imageAt k = some i →
     ∃ u : State, exec (.sealImageChecked b) s = .next (State.finish u) ∧ u = s.finishSeal b ∧
       u.mem = s.mem.clear (b * blockBytes) ((b + 1) * blockBytes)) ∧
   (∀ (b k : Nat) (j : SealJob) (i : Image) (s : State), (s.blk b).state = .sealing → (s.blk b).job = some j → j.image = some k →
     s.imageAt k = some i →
     ∃ u : State, exec (.sealT2Fail b) s = .next (State.finish u) ∧
       (u.blk b).state = .live ∧ (u.blk b).job = none ∧ (u.blk b).poison = (s.blk b).poison ∧ u.imageAt k = none ∧ u.mem = s.mem) ∧
   (∀ (b k line : Nat) (j : SealJob) (i : Image) (s : State), (s.blk b).state = .sealing → (s.blk b).job = some j →
     j.image = some k → s.imageAt k = some i → (s.blk b).poison.contains line = true →
     ∃ u : State, exec (.sealPayloadPoison b line) s = .next (State.finish u) ∧
       (u.blk b).state = .live ∧ (u.blk b).job = none ∧ (u.blk b).poison = (s.blk b).poison ∧ u.imageAt k = none ∧ u.mem = s.mem)) ∧
  ((∀ (b : Nat) (t : Tier) (s : State), (s.blk b).state = .sealed → (s.blk b).copy t = .rising →
     ∃ u : State, exec (.promotionFillComplete b t true) s = .next (State.finish u) ∧ (u.blk b).copy t = .held ∧
       (u.blk b).state = .sealed ∧ u.mem = s.mem) ∧
   (∀ (b : Nat) (t : Tier) (why : FillFail) (s : State), (s.blk b).state = .sealed → (s.blk b).copy t = .rising →
     exec (.promotionFillFail b t why) s = .next (State.finish (s.fillFailed b t why)) ∧ ((s.fillFailed b t why).blk b).copy t = .none) ∧
   (∀ (b : Nat) (t : Tier) (s : State), (s.blk b).copy t = .sinking →
     ∃ u : State, exec (.sinkReadersDone b t) s = .next (State.finish u) ∧ (u.blk b).copy t = .none ∧ (u.blk b).readers t = 0 ∧ u.mem = s.mem) ∧
   (∀ (b : Nat) (srcs : List Source) (s : State), (s.blk b).refetch = some srcs → (s.blk b).t0 ≠ .none → s.tier.op = none →
     (s.blk b).waiting = [] →
     ∃ u : State, exec (.refetchComplete b) s = .next (State.finish u) ∧ (u.blk b).refetch = none ∧ (u.blk b).t0 = (s.blk b).t0 ∧
       (u.blk b).state = (s.blk b).state ∧ u.mem = s.mem) ∧
   (∀ (b : Nat) (next : Source) (rest : List Source) (why : FillFail) (s : State),
     (s.blk b).refetch = some (.t2 :: next :: rest) →
     ∃ u : State, exec (.refetchSourceFail b why) s = .next (State.finish u) ∧ (u.blk b).refetch = some (next :: rest) ∧
       (u.blk b).state = (s.blk b).state ∧ u.mem = s.mem) ∧
   (∀ (b : Nat) (why : FillFail) (s : State), (s.blk b).refetch = some [.t2] →
     ∃ u : State, exec (.refetchSourceFail b why) s = .next (State.finish u) ∧ (u.blk b).state = .quarantined ∧
       (u.blk b).refetch = none ∧ (u.blk b).waiting = [] ∧ u.mem = s.mem) ∧
   (∀ (b : Nat) (s : State), (s.blk b).refetch = some [.partner] →
     ∃ u : State, exec (.refetchTimeout b) s = .next (State.finish u) ∧ (u.blk b).state = .quarantined ∧ u.mem = s.mem) ∧
   (∀ (b : Nat) (rest : List Source) (s : State), (s.blk b).refetch = some (.t2 :: rest) →
     ∃ u : State, exec (.refetchTimeout b) s = .next (State.finish u) ∧
       (u.blk b).refetch = some (.t2 :: rest.filter (· != .partner)) ∧ (u.blk b).state = (s.blk b).state ∧ u.mem = s.mem))

/-- Drives and streams (R84, R88, R91, R94): a drive that stops answering is lost, sets DRIVE_LOST, and its free sectors leave T2_FREE;
the next chunk of a streamed layer fills its half, the ready flag of its cell counts up, and the count of chunks dealt with it; a
consumed half is free again; a multicast member's chunk fills the half likewise; experts that a router names begin to rise. -/
def Obligations.StreamsAndDrives : Prop :=
  (∀ (d : Nat) (v : Drive) (s : State), s.drive d = some v → v.lost = false → (∀ e ∈ s.tier.blocks, e.2.refetch = none) →
    ∃ u : State, exec (.driveLost d) s = .next (State.finish u) ∧ u.drive d = some { v with lost := true } ∧ u.getF F.tierStatus_driveLost = 1 ∧
      u.getF F.tierT2Free_t2Free =
        (s.getF F.tierT2Free_t2Free - (v.sectors - (v.used.map (·.2)).sum)) % 2 ^ 36 ∧ u.mem = s.mem) ∧
  (∀ (die cell half : Nat) (v : Stream) (l : LayerEntry) (s : State), s.stream die = some v → v.layers[v.layer]? = some l →
    s.streamOpen die = true → s.prefetched l = false → v.mayFill l cell half = true → l.mcast = false →
    (∀ b, (s.blk b).state ≠ .sealed ∧ (s.blk b).state ≠ .quarantined ∨ (s.blk b).state = .sealed ∧ (s.blk b).t0 = .held) →
    let bytes := (List.range l.sramBytes).map fun i => s.peekOff (saOffset (BitVec.ofNat 64 l.src) + v.dealt * l.sramBytes + i)
    exec (.streamHalfFilled die cell half) s = .next (State.finish (s.fillHalf die v l cell half bytes)) ∧
    (s.fillHalf die v l cell half bytes).mem = s.mem ∧
    ((s.fillHalf die v l cell half bytes).stream die).map (fun x => (x.filled, x.dealt)) =
      some (v.filled ++ [(cell, half)], v.dealt + 1)) ∧
  (∀ (die cell half : Nat) (v : Stream) (l : LayerEntry) (s : State), s.stream die = some v → v.layers[v.layer]? = some l →
    v.filled.contains (cell, half) = true → v.dealt < l.chunks →
    exec (.streamHalfConsumed die cell half) s =
      .next (s.setStream die { v with filled := v.filled.filter (· != (cell, half)) })) ∧
  (∀ (die cell half : Nat) (chunk : List Line) (v : Stream) (l : LayerEntry) (s : State), s.stream die = some v →
    v.layers[v.layer]? = some l → s.streamOpen die = true → l.mcast = true → v.mayFill l cell half = true →
    chunk.length = l.sramBytes / 64 →
    exec (.mcastChunkArrived die cell half chunk) s =
      .next (State.finish (s.fillHalf die v l cell half (chunk.flatMap fun x => leBytes 64 x.toNat)))) ∧
  (∀ (die layer e b : Nat) (v : Stream) (l : LayerEntry) (u s : State), s.stream die = some v → v.layers[layer]? = some l →
    l.moe = true → l.holds b = true → (s.blk b).state = .sealed → (s.blk b).t0 = .none → (s.blk b).refetch = none →
    (s.blk b).cow = none → s.alloc .t0 = .frame u →
    exec (.routerPrefetch die layer [(e, [b])]) s =
      .next (State.finish (u.setBlk b { (u.blk b).setCopy .t0 .rising with t0Packed := false })))

/-- A write of TIER_OP_CMD that starts an operation (R116 to R118, R122): with BUSY 1 it is ignored and sets OP_OVERRUN; an address that
is no block address of this device ends MALFORMED, one at or above the store size ABSENT, and else the operation named by the row
runs on the block of TIER_OP_ADDR: SEAL, IMPORT, PROMOTE, SINK, FREE of a block that holds something, QUERY. What the operations do
to their block (R54, R62, R65, R67): SEAL of a LIVE block with sectors free leaves it SEALING; PROMOTE of a SEALED block without a
T0 copy, with a frame free, leaves the copy RISING; SINK of a HELD copy without readers leaves it NONE; PROMOTE and SINK of a block
that is neither LIVE nor SEALED change no block (R122); FREE of a LIVE block leaves it EMPTY, and its bytes read as zero; IMPORT of
a good image into an EMPTY block leaves it SEALED. Memory elsewhere is as before. -/
def Obligations.TierCommandsComplete : Prop :=
  (∀ (d : RegDesc) (w : Word) (s : State) (c : Instr × Nat),
     c ∈ [(Instr.tierSeal w, 1), (.tierImport w, 2), (.tierPromote w, 3), (.tierSink w, 4), (.tierFree w, 5), (.tierQuery w, 6)] →
     (s.getF F.tierOpCmd_busy = 1 → exec c.1 s = .next (State.finish (s.flag F.tierStatus_opOverrun))) ∧
     (s.cmdReady d F.tierOpCmd_op F.tierOpCmd_busy 0 (putBits w 0 4 c.2) →
       let u := s.cmdTaken d F.tierOpCmd_op F.tierOpCmd_busy 0 (putBits w 0 4 c.2)
       let a := s.reg (F.tierOpAddr_all.off 0)
       let b := saOffset a / blockBytes
       (s.opAddrOk a = false → exec c.1 s = .next (State.finish (u.opResult b Code.malformed.num))) ∧
       (s.opAddrOk a = true → s.hasBlock b = false → exec c.1 s = .next (State.finish (u.opResult b Code.absent.num))) ∧
       (s.opAddrOk a = true → s.hasBlock b = true → (s.blk b).state ≠ .empty ∨ c.2 ≠ 5 →
         exec c.1 s = .next (State.finish (match c.2 with
           | 1 => u.opSeal b
           | 2 => u.opImport b
           | 3 => u.opPromote b
           | 4 => u.opSink b
           | 5 => (u.freeBlock b).opResult b 0
           | _ => u.opResult b 0))))) ∧
  ((∀ (b k : Nat) (u s : State), s.getF F.tierOpCmd_elem ≠ 3 → (s.blk b).state = .live →
     (s.onTier fun t => { t with op := some (.sealing b) }).makeImage b (s.blockMem b) (s.getF F.tierOpCmd_elem) 0 (s.blk b).tenant 0 =
       some (k, u) →
     ((s.opSeal b).blk b).state = .sealing ∧ (s.opSeal b).mem = s.mem) ∧
   (∀ (b : Nat) (u s : State), s.getF F.tierOpCmd_tier = 0 → s.getF F.tierOpCmd_packed = 0 → (s.blk b).state = .sealed →
     (s.blk b).t0 = .none → (s.blk b).refetch = none →
     (s.onTier fun x => { x with op := some (.promote b .t0) }).alloc .t0 = .frame u →
     ((s.opPromote b).blk b).t0 = .rising ∧ (s.opPromote b).mem = u.mem) ∧
   (∀ (b : Nat) (s : State), s.getF F.tierOpCmd_tier = 0 → (s.blk b).state = .sealed → (s.blk b).t0 = .held → (s.blk b).readers0 = 0 →
     ((s.opSink b).blk b).t0 = .none ∧ (s.opSink b).mem = s.mem) ∧
   (∀ (b : Nat) (s : State), (s.blk b).state ≠ .live → (s.blk b).state ≠ .sealed →
     s.opPromote b = s.opResult b 0 ∧ s.opSink b = s.opResult b 0) ∧
   (∀ (b : Nat) (s : State), (s.blk b).state = .live → (s.blk b).job = none →
     ((s.freeBlock b).blk b).state = .empty ∧ (s.freeBlock b).mem = s.mem.clear (b * blockBytes) ((b + 1) * blockBytes)) ∧
   (∀ (b : Nat) (h : ImageHeader) (p : List Byte) (d st : Nat) (u s : State),
     let src := s.reg (F.tierOpSrc_all.off 0)
     let hdr := s.mem.bytes (saOffset src) 64
     let len := (Sys2Proof.Machine.readHeader hdr).bodyLen
     s.opAddrOk src = true → (s.blk b).state = .empty → s.hasBlock (saOffset src / blockBytes) = true →
     (s.blk (saOffset src / blockBytes)).state = .live → 64 + len ≤ blockBytes →
     s.offReady (saOffset src) (64 + len) ≠ .poison →
     importPayload hdr (s.mem.bytes (saOffset src + 64) len) = some (h, p) →
     s.allocT2 b (imageSectors h.bodyLen) = some (d, st, u) →
     ((s.opImport b).blk b).state = .sealed ∧ (s.opImport b).mem = u.mem))

/-! ### Extents and translation -/

/-- A write of XLT_EDIT_CMD that starts an edit (R149, R150, R154, R159, R160): while BUSY it is ignored and sets EDIT_OVERRUN. INSERT
of an entry that passes its checks adds it, one that fails them ends MALFORMED, and QUOTA when the map is full; REVOKE and LOOKUP of
a granule without an entry end ABSENT; LOOKUP puts the entry into the words; SET_HOME sets the home record of its granule. -/
def Obligations.XltEditsComplete : Prop :=
  ∀ (d : RegDesc) (w : Word) (s : State),
    (∀ c ∈ [Instr.xltInsert w, .xltRevoke w, .xltLookup w, .xltSetHome w], s.getF F.xltEditCmd_busy = 1 →
      exec c s = .next (State.finish (s.flag F.xltStatus_editOverrun))) ∧
    (let w0 := s.reg (F.xltEditW0_all.off 0)
     let w1 := s.reg (F.xltEditW1_all.off 0)
     let u (n : Nat) : State := s.cmdTaken d F.xltEditCmd_op F.xltEditCmd_busy 0 (putBits w 0 3 n)
     (s.cmdReady d F.xltEditCmd_op F.xltEditCmd_busy 0 (putBits w 0 3 1) →
      (s.insertOk w0 w1 = false → exec (.xltInsert w) s = .next (State.finish ((u 1).xltEnd .malformed 0))) ∧
      (s.insertOk w0 w1 = true → mapLimit ≤ s.xlt.entries.length →
        exec (.xltInsert w) s = .next (State.finish ((u 1).xltEnd .quota 0))) ∧
      (s.insertOk w0 w1 = true → s.xlt.entries.length < mapLimit →
        exec (.xltInsert w) s = .next (State.finish
          (((u 1).onXlt fun x => { x with entries := x.entries ++ [extentOf w0 w1] }).xltEnd .done 0)))) ∧
     (s.cmdReady d F.xltEditCmd_op F.xltEditCmd_busy 0 (putBits w 0 3 2) →
      (s.editEntry = none → exec (.xltRevoke w) s = .next (State.finish ((u 2).xltEnd .absent 0))) ∧
      (∀ e, s.editEntry = some e → exec (.xltRevoke w) s = .next (State.finish
        (((((u 2).setF F.xltEditResult_state 0 e.state.num).setF F.xltEditResult_aborted 0 0).onXlt fun x =>
          { x with revoking := some e.key }).startRevoke e.key)))) ∧
     (s.cmdReady d F.xltEditCmd_op F.xltEditCmd_busy 0 (putBits w 0 3 3) →
      (s.editEntry = none → exec (.xltLookup w) s = .next (State.finish ((u 3).xltEnd .absent 0))) ∧
      (∀ e, s.editEntry = some e → exec (.xltLookup w) s = .next (State.finish
        ((((u 3).setReg (F.xltEditW0_all.off 0) e.word0).setReg (F.xltEditW1_all.off 0) e.stand).xltEnd .done e.state.num)))) ∧
     (s.cmdReady d F.xltEditCmd_op F.xltEditCmd_busy 0 (putBits w 0 3 4) →
      (saClass w1 ≠ 0 ∨ saReserved w1 = true ∨ saDevice w1 ≠ s.device.toNat ∨ saOffset w1 % granuleBytes ≠ 0 ∨
          fieldOf w0 8 2 = 3 ∨ fieldOf w0 10 54 ≠ 0 →
        exec (.xltSetHome w) s = .next (State.finish ((u 4).xltEnd .malformed 0))) ∧
      (saClass w1 = 0 → saReserved w1 = false → saDevice w1 = s.device.toNat → saOffset w1 % granuleBytes = 0 →
          fieldOf w0 10 54 = 0 →
        (fieldOf w0 8 2 ≠ 3 → s.storeSize ≤ saOffset w1 →
          exec (.xltSetHome w) s = .next (State.finish ((u 4).xltEnd .absent 0))) ∧
        (∀ (m : HomeMode) (n : Nat), (m, n) ∈ [(HomeMode.none, 0), (.priv, 1), (.commons, 2)] → fieldOf w0 8 2 = n →
          saOffset w1 < s.storeSize →
          exec (.xltSetHome w) s = .next (State.finish (((u 4).onXlt fun x => { x with
            homes := x.homes.put (saOffset w1 / granuleBytes) { owner := BitVec.ofNat 8 (fieldOf w0 0 8), mode := m } }).xltEnd
              .done 0))))))

/-- INSERT keeps the entries of a tenant apart, and the map within its size (R127, R149). Once a withdrawal has begun, no lookup finds
the entry any more (R150, R153): it ends REVOKED where the entry lies, and no translation cache holds it. -/
def Obligations.EditsKeepTheMap : Prop :=
  (∀ (d : RegDesc) (w : Word) (s u : State),
     s.cmdReady d F.xltEditCmd_op F.xltEditCmd_busy 0 (putBits w 0 3 1) →
     u = s.xltCommand (putBits w 0 3 1) →
     s.xlt.entries.length ≤ 4194304 → s.xlt.entries.Pairwise (fun a b => a.overlaps b = false) →
     u.xlt.entries.length ≤ 4194304 ∧ u.xlt.entries.Pairwise (fun a b => a.overlaps b = false) ∧
     (u.xlt.entries = s.xlt.entries ∨ ∃ e, u.xlt.entries = s.xlt.entries ++ [e] ∧ e.state = .valid) ∧
     u.xlt.homes = s.xlt.homes ∧ u.mem = s.mem) ∧
  (∀ (k : XKey) (s : State), (∀ e ∈ s.svc.ctxs, e.2.live = false) → s.srch.homes = [] →
     (∀ (t : Tenant) (g : Nat) (e : Extent) (addr : Nat) (want : Wants) (mover : Bool), s.entryAt t g = some e → e.key = k →
       lookupIn ((s.startRevoke k).entryAt t g) addr want mover = .fails .revoked) ∧
     (∀ c, k ∉ (s.startRevoke k).xlt.bufs.get c []) ∧ (∀ c, k ∉ (s.startRevoke k).xlt.l2.get c []) ∧
     k ∉ (s.startRevoke k).xlt.hostCache ∧ (s.startRevoke k).mem = s.mem ∧ (s.startRevoke k).regs = s.regs)

/-- The end of a drain (R150, R151, R509): with nothing in flight, or at its bound after ending what is, the entry is INVALID and the
edit DONE; with accesses in flight the end of the drain has not come. A withdrawal of Dynamic Capacity goes on to its recalls. -/
def Obligations.DrainsEnd : Prop :=
  (∀ (k : XKey) (s : State), s.xlt.revoking = some k → s.hpt.dcOps = [] →
    (s.inFlight k = true → exec .revokeDrainEnd s = .next s.finish) ∧
    (s.inFlight k = false → exec .revokeDrainEnd s = .next (State.finish s.revokeDone)) ∧
    (exec .revokeDrainTimeout s = .next (State.finish
      (((s.abortThrough k).2.addF F.xltEditResult_aborted 0 (s.abortThrough k).1).revokeDone))) ∧
    s.revokeDone.xlt.revoking = none ∧ (∀ e ∈ s.revokeDone.xlt.entries, e.key ≠ k) ∧
    (∀ e ∈ s.xlt.entries, e.key ≠ k → e ∈ s.revokeDone.xlt.entries) ∧
    s.revokeDone.getF F.xltEditCmd_busy = 0 ∧ s.revokeDone.getF F.xltEditResult_code = 0 ∧ s.revokeDone.mem = s.mem) ∧
  (∀ (o : DcOp) (s : State), s.xlt.revoking = none → s.hpt.dcOps = [o] → o.phase = .draining → o.keys.any s.inFlight = false →
    exec .revokeDrainEnd s = .next (State.finish (s.dcRecall o)) ∧
    (o.keys = [] → exec .revokeDrainTimeout s = .next (State.finish (s.dcRecall o)))) ∧
  (∀ s : State, s.xlt.revoking = none → s.hpt.dcOps = [] →
    exec .revokeDrainEnd s = .next s.finish ∧ exec .revokeDrainTimeout s = .next s.finish)

/-- The end of a walk (R135, R136, R157): an uncorrectable error sets WALK_UE and every mover that joined ends POISON; without an entry
they end ABSENT, in a REVOKING one REVOKED; a VALID entry fills the die's second level and the buffers of the cells, and the movers
it serves go on in the order they came. -/
def Obligations.WalksEnd : Prop :=
  ∀ (die g : Nat) (t : Tenant) (w : Walk) (s : State),
    (s.xlt.walks.find? fun w => w.die == die && w.tenant == t && w.granule == g) = some w →
    (∀ (code : Code) (ue : Bool),
      ue = true ∧ code = .poison ∨
        ue = false ∧ s.entryAt t g = none ∧ code = .absent ∨
        ue = false ∧ (∃ e, s.entryAt t g = some e ∧ e.state = .revoking) ∧ code = .revoked →
      ∃ u : State, exec (.translationWalkEnd die t g ue) s = .next (State.finish u) ∧ u.xlt.walks = s.xlt.walks.erase w ∧
        (ue = true → u.getF F.xltStatus_walkUe = 1) ∧ u.mem = s.mem ∧
        ∀ m ∈ w.waiting, ∀ r, (s.chan m.1 m.2).run = some r → r.phase = .walk → (u.chan m.1 m.2).run = some (r.ends code)) ∧
    (∀ e, s.entryAt t g = some e → e.state = .valid →
      let v := (s.onXlt fun x => { x with walks := x.walks.erase w }).fillCaches die e.key (w.waiting.map (·.1))
      exec (.translationWalkEnd die t g false) s = .next (State.finish
        (w.waiting.foldl (fun s m => match s.walkCode t g m.1 m.2 with
          | some code => s.moverFail m.1 m.2 code
          | none => s.moverResume m.1 m.2) v)) ∧
      (∀ m ∈ w.waiting, (v.xltHit m.1 t g).1 = true))

/-- The end of a fill record (R143, R144, R152): it is HELD when every block it names can be read; one that ends otherwise sets
FILL_FAILED, and the movers whose block failed end with its code. The record is free again. -/
def Obligations.FillRecordsEnd : Prop :=
  ∀ (die record : Nat) (o : FillOutcome) (f : FillRec) (s : State),
    (s.xlt.fills.find? fun f => f.die == die && f.id == record) = some f → (∀ w ∈ s.xlt.fillWaits, w.die ≠ die) →
    (s.fillEnds f o = false → exec (.fillRecordEnd die record o) s = .next s) ∧
    (s.fillEnds f o = true → o = .held → exec (.fillRecordEnd die record o) s = .next (State.finish
      (f.waiting.foldl (fun s m => s.fillResume o f.tenant f.granule m.1 m.2)
        (s.onXlt fun x => { x with fills := x.fills.erase f })))) ∧
    (s.fillEnds f o = true → o ≠ .held → ∀ m r, f.waiting = [m] → s.fillFailedFor o m.1 m.2 = true →
      (s.chan m.1 m.2).run = some r → r.phase = .fill →
      ∃ u : State, exec (.fillRecordEnd die record o) s = .next (State.finish u) ∧ u.xlt.fills = s.xlt.fills.erase f ∧
        u.getF F.xltStatus_fillFailed = 1 ∧ (u.chan m.1 m.2).run = some (r.ends o.code) ∧ u.mem = s.mem)

/-! ### Cells: the scalar engine -/

/-- What the operations that end an instruction leave (R165, R202, R211, R219): a retired one writes its destination, x0 excepted, and
moves the pc on by 4; a stalled one shows WAITING; a resumed one has retired and shows RUNNING; a kernel that ends leaves the cell
IDLE with no kernel, nothing queued and every running descriptor without a ticket; a trap records its cause, the pc and the kernel
and ends it ABORTED. No other cell changes, no memory of the store, and no SRAM. -/
def Obligations.ScalarEndings : Prop :=
  (∀ (c : Nat) (rd : XReg) (w : Word) (s : State),
    let u := s.retire c rd w
    (u.cellAt c).xr rd = (if rd = 0 then 0 else w) ∧ (∀ r, r ≠ rd → (u.cellAt c).xr r = (s.cellAt c).xr r) ∧
    (u.cellAt c).pc = (s.cellAt c).pc + 4 ∧ u.cellAt c = { s.cellAt c with x := (u.cellAt c).x, pc := (u.cellAt c).pc } ∧
    (∀ k, k ≠ c → u.cellAt k = s.cellAt k) ∧ u = { s with cell := u.cell }) ∧
  (∀ (c : Nat) (k : Stall) (s : State),
    let u := s.stallCell c k
    (u.cellAt c) = { s.cellAt c with stall := k } ∧ u.cellRun c = 3 ∧ (∀ j, j ≠ c → u.cellAt j = s.cellAt j) ∧
    u = { s with cell := u.cell, regs := u.regs }) ∧
  (∀ (c : Nat) (rd : XReg) (w : Word) (s : State),
    let u := s.resume c rd w
    u.cellAt c = { (s.retire c rd w).cellAt c with stall := .none } ∧ u.cellRun c = 2 ∧
    (∀ j, j ≠ c → u.cellAt j = s.cellAt j) ∧ u = { s with cell := u.cell, regs := u.regs }) ∧
  (∀ (c : Nat) (code : Code) (s : State),
    let u := s.kernelEnd c code
    u.cellRun c = 1 ∧ u.getF F.cellState_kernel c = 0 ∧ u.getF F.cellState_priv c = 0 ∧ u.cellTenant c = s.cellTenant c ∧
    (u.cellAt c).stall = .none ∧ (u.cellAt c).mq.items = [] ∧ (u.cellAt c).vq.items = [] ∧
    (∀ e ∈ (u.cellAt c).mv, e.2.q.items = [] ∧ ∀ r, e.2.run = some r → r.orphan = true) ∧
    (u.cellAt c).sram = (s.cellAt c).sram ∧ (u.cellAt c).acc = (s.cellAt c).acc ∧
    (∀ j, j ≠ c → u.cellAt j = s.cellAt j) ∧ u = { s with cell := u.cell, regs := u.regs, sched := u.sched }) ∧
  (∀ (c cause : Nat) (s : State), c < 128 →
    let u := s.trap c cause
    fieldOf (u.reg (F.cellLastTrap_cause.off c)) 0 8 = cause % 256 ∧
    fieldOf (u.reg (F.cellLastTrap_cause.off c)) 8 23 = (s.cellAt c).pc.toNat % 2 ^ 23 ∧
    fieldOf (u.reg (F.cellLastTrap_cause.off c)) 31 16 = s.getF F.cellState_kernel c ∧
    u.getF F.cellTrapCount_count = min (s.getF F.cellTrapCount_count + 1) (2 ^ F.cellTrapCount_count.width - 1) ∧
    u.getF F.cellStatus_trap = 1 ∧ u.cellRun c = 1 ∧ (u.cellAt c).sram = (s.cellAt c).sram ∧ u.mem = s.mem)

/-- Commands of a cell's scalar engine: on a cell that is not fitted they fault, and while no kernel runs or the engine is stalled they
change nothing. A kernel ends by ECALL with a7 = 0 and the status in a0; with another a7, and by any exception, it traps (R211). -/
def Obligations.BusyEnginesAndKernelEnds : Prop :=
  (∀ (c : Nat) (aq rl : Bool) (rd rs1 rs2 : XReg) (ch : BitVec 3) (q : BitVec 4) (cause : BitVec 8) (s : State),
     ∀ i ∈ [Instr.scalarInstruction c aq, .mxIssue c rd rs1, .vxIssue c rd rs1, .mvIssue c ch rd rs1, .engWait c q rd rs1,
       .engPoll c q rd rs1, .flagLd c aq rd rs1, .flagSt c rl rs2 rs1, .flagAdd c aq rl rd rs2 rs1, .flagMax c aq rl rd rs2 rs1,
       .flagCas c aq rl rd rs2 rs1, .flagWaitge c aq rd rs2 rs1, .engRel c, .engAcq c, .waleRd c rd, .waleWait c rd rs1,
       .stimeRd c rd, .ecall c, .kernelTrap c cause],
       (s.code.hasCell c = false → exec i s = .fault .noSuchUnit) ∧
       (s.code.hasCell c = true → s.scalarFree c = false → exec i s = .next s)) ∧
  (∀ (c : Nat) (s : State), s.code.hasCell c = true → s.scalarFree c = true →
     ((s.cellAt c).xr 17 = 0 →
       exec (.ecall c) s = .next (State.finish (s.kernelEnd c (Code.ofNum ((s.cellAt c).xr 10).toNat)))) ∧
     ((s.cellAt c).xr 17 ≠ 0 → exec (.ecall c) s = .next (State.finish (s.trap c 0xFF))) ∧
     (∀ cause, exec (.kernelTrap c cause) s = .next (State.finish (s.trap c cause.toNat))))

/-- ISSUE (R202): the descriptor at rs1 enters its queue with the next ticket, which goes to rd; to a full queue the engine stalls until
a slot frees; an offset that is not 64-byte aligned or beyond cell SRAM raises a load access fault. -/
def Obligations.IssueCompletes : Prop :=
  (∀ (c : Nat) (rd rs1 : XReg) (s : State), s.code.hasCell c = true → s.scalarFree c = true → ∀ (i : Instr) (q : Nat),
    (i, q) ∈ [(Instr.mxIssue c rd rs1, 0), (.vxIssue c rd rs1, 1), (.mvIssue c 0 rd rs1, 8), (.mvIssue c 1 rd rs1, 9),
      (.mvIssue c 2 rd rs1, 10), (.mvIssue c 3 rd rs1, 11), (.mvIssue c 4 rd rs1, 12), (.mvIssue c 5 rd rs1, 13),
      (.mvIssue c 6 rd rs1, 14), (.mvIssue c 7 rd rs1, 15)] →
    let off := ((s.cellAt c).xr rs1).toNat
    (off % 64 ≠ 0 ∨ 8388608 < off + 64 → exec i s = .next (State.finish (s.trap c 5))) ∧
    (off % 64 = 0 → off + 64 ≤ 8388608 → (s.cellAt c).queueFull q = true →
      exec i s = .next (State.finish (s.stallCell c (.issue q rd ((s.cellAt c).sram.line off))))) ∧
    (off % 64 = 0 → off + 64 ≤ 8388608 → (s.cellAt c).queueFull q = false →
      ∃ u : State, exec i s = .next (State.finish u) ∧
        ((u.cellAt c).queue q).items = ((s.cellAt c).queue q).items ++ [(((s.cellAt c).queue q).next, (s.cellAt c).sram.line off)] ∧
        ((u.cellAt c).queue q).next = (((s.cellAt c).queue q).next + 1) % 65536 ∧
        (∀ j ∈ [0, 1, 8, 9, 10, 11, 12, 13, 14, 15], j ≠ q → (u.cellAt c).queue j = (s.cellAt c).queue j) ∧
        (u.cellAt c).xr rd = (if rd = 0 then 0 else BitVec.ofNat 64 ((s.cellAt c).queue q).next) ∧
        (u.cellAt c).pc = (s.cellAt c).pc + 4 ∧ (u.cellAt c).sram = (s.cellAt c).sram ∧ u.mem = s.mem ∧ u.regs = s.regs)) ∧
  (∀ (c q : Nat) (rd : XReg) (l : Line) (s : State), s.code.hasCell c = true → (s.cellAt c).stall = .issue q rd l →
    ((s.cellAt c).queueFull q = true → exec (.issueSlotFree c) s = .next s.finish) ∧
    ((s.cellAt c).queueFull q = false → ∃ u : State, exec (.issueSlotFree c) s = .next (State.finish u) ∧
      ((u.cellAt c).queue q).items = ((s.cellAt c).queue q).items ++ [(((s.cellAt c).queue q).next, l)] ∧
      (u.cellAt c).stall = .none ∧ u.cellRun c = 2 ∧
      (u.cellAt c).xr rd = (if rd = 0 then 0 else BitVec.ofNat 64 ((s.cellAt c).queue q).next) ∧ u.mem = s.mem))

/-- ENG.WAIT and ENG.POLL (R201, R205, R206): a reserved queue select is an illegal instruction; of a ticket that has ended both return
the result word and empty the data cache; of one that has not, WAIT stalls until it ends or the bound, and POLL returns all ones; at
the bound WAIT returns ABORTED and WAIT_TIMEOUT is set. ENG.REL, ENG.ACQ, WALE.RD, WALE.WAIT and STIME.RD (R208, R228, R230): REL
stalls, retires once every descriptor has ended and its fence is done, and at the bound ends the kernel ABORTED; ACQ empties the
data cache; WALE.RD and STIME.RD return the wale and the stand time; WALE.WAIT retires with the wale once it has been reached. -/
def Obligations.WaitsAndReleasesComplete : Prop :=
  ((∀ (c : Nat) (q : BitVec 4) (rd rs1 : XReg) (s : State), s.code.hasCell c = true → s.scalarFree c = true →
     let t := ((s.cellAt c).xr rs1).toNat % 65536
     (1 < q.toNat → q.toNat < 8 → exec (.engWait c q rd rs1) s = .next (State.finish (s.trap c 2)) ∧
       exec (.engPoll c q rd rs1) s = .next (State.finish (s.trap c 2))) ∧
     (q.toNat ≤ 1 ∨ 8 ≤ q.toNat →
       (∀ w, (s.cellAt c).ticketResult q.toNat t = some w →
         exec (.engWait c q rd rs1) s = .next (State.finish ((s.acquire c).retire c rd w)) ∧
         exec (.engPoll c q rd rs1) s = .next (State.finish ((s.acquire c).retire c rd w))) ∧
       ((s.cellAt c).ticketResult q.toNat t = none →
         exec (.engWait c q rd rs1) s = .next (State.finish (s.stallCell c (.engWait q.toNat t rd))) ∧
         exec (.engPoll c q rd rs1) s = .next (State.finish (s.retire c rd (BitVec.allOnes 64)))))) ∧
   (∀ (c q t : Nat) (rd : XReg) (s : State), s.code.hasCell c = true → (s.cellAt c).stall = .engWait q t rd →
     (∀ w, (s.cellAt c).ticketResult q t = some w →
       exec (.engWaitResume c) s = .next (State.finish ((s.acquire c).resume c rd w))) ∧
     ((s.cellAt c).ticketResult q t = none → exec (.engWaitResume c) s = .next s.finish) ∧
     (∃ u : State, exec (.waitTimeout c) s = .next (State.finish u) ∧ (u.cellAt c).stall = .none ∧
       fieldOf ((u.cellAt c).xr rd) 0 8 = (if rd = 0 then 0 else Code.aborted.num) ∧ u.getF F.cellStatus_waitTimeout = 1 ∧ u.mem = s.mem)) ∧
   (∀ (c : Nat) (s : State), (s.acquire c).cellAt c = { s.cellAt c with dcache := [] })) ∧
  ((∀ (c : Nat) (rd rs1 : XReg) (s : State), s.code.hasCell c = true → s.scalarFree c = true →
     exec (.engRel c) s = .next (State.finish (s.stallCell c (.rel none))) ∧
     exec (.engAcq c) s = .next (State.finish ((s.acquire c).retire c 0 0)) ∧
     exec (.waleRd c rd) s = .next (State.finish (s.retire c rd (s.wale.setWidth 64))) ∧
     exec (.stimeRd c rd) s = .next (State.finish (s.retire c rd s.stime)) ∧
     (((s.cellAt c).xr rs1).toNat % 2 ^ 48 ≤ s.wale.toNat →
       exec (.waleWait c rd rs1) s = .next (State.finish (s.retire c rd (s.wale.setWidth 64)))) ∧
     (s.wale.toNat < ((s.cellAt c).xr rs1).toNat % 2 ^ 48 →
       exec (.waleWait c rd rs1) s =
         .next (State.finish (s.stallCell c (.waleWait rd (((s.cellAt c).xr rs1).toNat % 2 ^ 48)))))) ∧
   (∀ (c : Nat) (s : State), s.code.hasCell c = true →
     (∀ id, (s.cellAt c).stall = .rel (some id) →
       ((s.cellAt c).quiet = true → s.fence id = none → exec (.engRelRetire c) s = .next (State.finish (s.resume c 0 0))) ∧
       ((s.cellAt c).quiet = false ∨ s.fence id ≠ none → exec (.engRelRetire c) s = .next s)) ∧
     (∀ f, (s.cellAt c).stall = .rel f →
       exec (.engRelTimeout c) s = .next (State.finish ((s.flag F.cellStatus_waitTimeout (s.cellNote c)).kernelEnd c .aborted))) ∧
     (∀ rd t, (s.cellAt c).stall = .waleWait rd t →
       (t ≤ s.wale.toNat → exec (.waleWaitResume c) s = .next (State.finish (s.resume c rd (s.wale.setWidth 64)))) ∧
       (s.wale.toNat < t → exec (.waleWaitResume c) s = .next s.finish))))

/-- Flag instructions on an aligned flag of the cell (R207, R228, R231): LD returns the flag; ST stores rs2; ADD, MAX (unsigned) and CAS
return the old value and store the sum, the greater, or rs2 where the flag equals rd; no other byte of the cell's SRAM changes; aq
empties the data cache. A misaligned offset raises the misaligned exception of a load or a store. FLAG.WAITGE (R206, R207, R232): a
flag that has reached the target is returned at once; below it the engine stalls; when the flag reaches it the wait ends with the
value, and at the bound with the value last seen and WAIT_TIMEOUT. -/
def Obligations.FlagsComplete : Prop :=
  (∀ (c : Nat) (aq rl : Bool) (rd rs1 rs2 : XReg) (s : State), s.code.hasCell c = true → s.scalarFree c = true →
     let v := s.cellAt c
     let off := (v.xr rs1).toNat
     let old := v.sram.word off
     let x := v.xr rs2
     ∀ (i : Instr) (acq : Bool) (dest : XReg) (new : Word),
       (i, acq, dest, new) ∈ [(Instr.flagLd c aq rd rs1, aq, rd, old), (.flagSt c rl rs2 rs1, false, 0, x),
         (.flagAdd c aq rl rd rs2 rs1, aq, rd, old + x), (.flagMax c aq rl rd rs2 rs1, aq, rd, if old.toNat < x.toNat then x else old),
         (.flagCas c aq rl rd rs2 rs1, aq, rd, if old = v.xr rd then x else old)] →
       (off % 8 = 0 → off < 8388608 →
         ∃ u : State, exec i s = .next (State.finish u) ∧ (u.cellAt c).sram.word off = new ∧
           (∀ a, a < off ∨ off + 8 ≤ a → (u.cellAt c).sram.byte a = v.sram.byte a) ∧
           (u.cellAt c).xr dest = (if dest = 0 then 0 else old) ∧ (∀ r, r ≠ dest → (u.cellAt c).xr r = v.xr r) ∧
           (u.cellAt c).pc = v.pc + 4 ∧ (acq = true → (u.cellAt c).dcache = []) ∧ (u.cellAt c).stall = .none ∧
           (∀ k, k ≠ c → u.cellAt k = s.cellAt k) ∧ u = { s with cell := u.cell }) ∧
       (off % 8 ≠ 0 → off < 8388608 → exec i s = .next (State.finish (s.trap c (if i = .flagLd c aq rd rs1 then 4 else 6))))) ∧
  ((∀ (c : Nat) (aq : Bool) (rd rs1 rs2 : XReg) (s : State), s.code.hasCell c = true → s.scalarFree c = true →
     let v := s.cellAt c
     let off := (v.xr rs1).toNat
     let t := v.xr rs2
     off < 8388608 →
     (off % 8 ≠ 0 → exec (.flagWaitge c aq rd rs2 rs1) s = .next (State.finish (s.trap c 4))) ∧
     (off % 8 = 0 → t.toNat ≤ (v.sram.word off).toNat →
       exec (.flagWaitge c aq rd rs2 rs1) s = .next (State.finish
         ((if aq then s.acquire c else s).retire c rd (v.sram.word off)))) ∧
     (off % 8 = 0 → (v.sram.word off).toNat < t.toNat →
       exec (.flagWaitge c aq rd rs2 rs1) s = .next (State.finish (s.stallCell c (.flagWait off t aq rd))))) ∧
   (∀ (c off : Nat) (t : Word) (aq : Bool) (rd : XReg) (s : State), s.code.hasCell c = true →
     (s.cellAt c).stall = .flagWait off t aq rd → off + 8 ≤ 8388608 →
     let w := (s.cellAt c).sram.word off
     let u := (if aq then s.acquire c else s).resume c rd w
     (t.toNat ≤ w.toNat → exec (.flagWaitgeResume c) s = .next (State.finish u)) ∧
     (w.toNat < t.toNat → exec (.flagWaitgeResume c) s = .next s.finish) ∧
     exec (.waitTimeout c) s = .next (State.finish (u.flag F.cellStatus_waitTimeout (u.cellNote c)))))

/-- SCALAR_INSTRUCTION (R168, R199, R223, R226): with no cached line over the pc, the instruction there runs: an ADDI or ADD writes its
destination and moves the pc on by 4; an unencoded word is an illegal instruction; a fetch at or above 8 MiB is an access fault; an
uncorrectable word ends the kernel POISON with SRAM_UE. -/
def Obligations.ScalarInstructionCompletes : Prop :=
  ∀ (c : Nat) (s : State), s.code.hasCell c = true → s.scalarFree c = true →
    let v := s.cellAt c
    let a := v.pc.toNat
    (8388607 ≤ a → exec (.scalarInstruction c false) s = .next (State.finish (s.trap c 1))) ∧
    (a % 4 = 0 → a < 8388608 → v.icache = [] →
      let w := leNat (v.sram.bytes a 4)
      let rd : XReg := BitVec.ofNat 5 (w >>> 7 % 32)
      let x := v.xr (BitVec.ofNat 5 (w >>> 15 % 32))
      let y := v.xr (BitVec.ofNat 5 (w >>> 20 % 32))
      (w % 128 = 0x13 → w >>> 12 % 8 = 0 →
        ∃ u : State, exec (.scalarInstruction c false) s = .next (State.finish u) ∧
          (u.cellAt c).xr rd = (if rd = 0 then (0 : Word) else x + (BitVec.ofNat 12 (w >>> 20)).signExtend 64) ∧
          (∀ r, r ≠ rd → (u.cellAt c).xr r = v.xr r) ∧ (u.cellAt c).pc = v.pc + 4 ∧ (u.cellAt c).sram = v.sram ∧ u.mem = s.mem) ∧
      (w % 128 = 0x33 → w >>> 12 % 8 = 0 → w >>> 25 = 0 →
        ∃ u : State, exec (.scalarInstruction c false) s = .next (State.finish u) ∧
          (u.cellAt c).xr rd = (if rd = 0 then 0 else x + y) ∧
          (∀ r, r ≠ rd → (u.cellAt c).xr r = v.xr r) ∧ (u.cellAt c).pc = v.pc + 4 ∧ (u.cellAt c).sram = v.sram ∧ u.mem = s.mem) ∧
      (w = 0 → ∃ u : State, exec (.scalarInstruction c false) s = .next (State.finish u) ∧ u.cellRun c = 1 ∧
        fieldOf (u.reg (F.cellLastTrap_cause.off c)) 0 8 = 2)) ∧
    exec (.scalarInstruction c true) s = .next (State.finish (s.sramUe c)) ∧
    (v.track = none → (s.sramUe c).cellRun c = 1 ∧ (s.sramUe c).getF F.cellStatus_sramUe = 1 ∧ (s.sramUe c).mem = s.mem)

/-! ### Cells: the matrix and vector engines -/

/-- Matrix and vector commands on a cell that is not fitted fault; with an empty queue, and a vector command whose head is another
operation, they leave the engine as it is; a MALFORMED head ends with that status, sets DESC_MALFORMED and changes no SRAM and no
accumulator (R183, R191, R216); an uncorrectable word ends the kernel POISON (R168). -/
def Obligations.EngineHeads : Prop :=
  ∀ (c : Nat) (s : State),
    (∀ (i : Instr) (q : Nat), (i, q) ∈ [(Instr.mma c false, 0), (.vAdd c false, 1), (.vSub c false, 1), (.vMul c false, 1),
        (.vFma c false, 1), (.vMax c false, 1), (.vMin c false, 1), (.vExp c false, 1), (.vLog c false, 1), (.vRsqrt c false, 1),
        (.vRcp c false, 1), (.vCvt c false, 1), (.vQmx c false, 1), (.vDqmx c false, 1), (.vRsum c false, 1), (.vRmax c false, 1),
        (.vWadd c false, 1), (.vArgmax c false, 1)] →
      (s.code.hasCell c = false → exec i s = .fault .noSuchUnit) ∧
      (s.code.hasCell c = true → ((s.cellAt c).queue q).items = [] → exec i s = .next s.finish) ∧
      (∀ (t : Nat) (l : Line) (rest : List (Nat × Line)), s.code.hasCell c = true → ((s.cellAt c).queue q).items = (t, l) :: rest →
        (q = 0 ∧ (matDesc l).malformed = true ∨ q = 1 ∧ ((vecDesc l).opc < 0x20 ∨ 0x30 < (vecDesc l).opc)) →
        ∃ u : State, exec i s = .next (State.finish u) ∧ ((u.cellAt c).queue q).items = rest ∧
          (∃ w, (t, w) ∈ ((u.cellAt c).queue q).ended ∧ fieldOf w 0 8 = Code.malformed.num) ∧
          u.getF F.cellStatus_descMalformed = 1 ∧ (u.cellAt c).sram = (s.cellAt c).sram ∧ (u.cellAt c).acc = (s.cellAt c).acc ∧
          u.mem = s.mem)) ∧
    (∀ (t : Nat) (l : Line) (rest : List (Nat × Line)), s.code.hasCell c = true → (s.cellAt c).mq.items = (t, l) :: rest →
      (matDesc l).malformed = false → exec (.mma c true) s = .next (State.finish (s.sramUe c))) ∧
    (∀ (t : Nat) (l : Line) (rest : List (Nat × Line)), s.code.hasCell c = true → (s.cellAt c).vq.items = (t, l) :: rest →
      (vecDesc l).malformed = false → (vecDesc l).opc = 0x20 → exec (.vAdd c true) s = .next (State.finish (s.sramUe c)))

/-- MMA (R171, R173, R182, R204): the head runs, the accumulator holds an element for each row and column, the shape is noted, and the
ticket ends DONE. With unscaled INT8 operands, ACC CLEAR and no output an element is the exact sum of the products, in units of
2^-50; nothing in cell SRAM changes unless a flag is asked for. -/
def Obligations.MatrixCompletes : Prop :=
  ∀ (c t : Nat) (l : Line) (rest : List (Nat × Line)) (s : State), s.code.hasCell c = true →
    (s.cellAt c).mq.items = (t, l) :: rest → (matDesc l).malformed = false →
    ∃ u : State, exec (.mma c false) s = .next (State.finish u) ∧ (u.cellAt c).mq.items = rest ∧
      (∃ w, (t, w) ∈ (u.cellAt c).mq.ended ∧ fieldOf w 0 8 = 0) ∧
      (u.cellAt c).accShape = some { m := (matDesc l).m, n := (matDesc l).n, afmt := (matDesc l).afmt, bfmt := (matDesc l).bfmt } ∧
      ((matDesc l).out = 0 → (matDesc l).flagEn = false → (u.cellAt c).sram = (s.cellAt c).sram) ∧ u.mem = s.mem ∧
      ((matDesc l).afmt = 3 → (matDesc l).bfmt = 3 → (matDesc l).ascl = false → (matDesc l).bscl = false → (matDesc l).acc = 0 →
        (matDesc l).out = 0 → ∀ i j, i < (matDesc l).m → j < (matDesc l).n →
          let e := (u.cellAt c).acc.get (64 * i + j) .zero
          e.nan = false ∧ e.ovf = false ∧
          e.sum = 2 ^ 50 * (((List.range (32 * (matDesc l).kb)).map fun k =>
            (((s.cellAt c).sram.byte ((matDesc l).aOff + i * (matDesc l).aStride + k)).toInt *
              ((s.cellAt c).sram.byte ((matDesc l).bOff + j * (matDesc l).bStride + k)).toInt : Int)).sum))

/-- The vector commands (R186, R191, R204): the head of their operation runs; DST holds the results' codes, every other byte of the
cell's SRAM is as before (QMX writes its scales as well), and the ticket ends DONE. -/
def Obligations.VectorCompletes : Prop :=
  ∀ (c t : Nat) (l : Line) (rest : List (Nat × Line)) (s : State), s.code.hasCell c = true →
    (s.cellAt c).vq.items = (t, l) :: rest → (vecDesc l).malformed = false → (vecDesc l).overlaps = false →
    (vecDesc l).flagEn = false → ∀ (i : Instr) (opc : Nat),
    (i, opc) ∈ [(Instr.vAdd c false, 0x20), (.vSub c false, 0x21), (.vMul c false, 0x22), (.vFma c false, 0x23), (.vMax c false, 0x24),
      (.vMin c false, 0x25), (.vExp c false, 0x26), (.vLog c false, 0x27), (.vRsqrt c false, 0x28), (.vRcp c false, 0x29),
      (.vCvt c false, 0x2A), (.vQmx c false, 0x2B), (.vDqmx c false, 0x2C), (.vRsum c false, 0x2D), (.vRmax c false, 0x2E),
      (.vWadd c false, 0x2F), (.vArgmax c false, 0x30)] →
    ((vecDesc l).opc ≠ opc → exec i s = .next s.finish) ∧
    ((vecDesc l).opc = opc →
      let d := vecDesc l
      let m := (s.cellAt c).sram
      ∃ u : State, exec i s = .next (State.finish u) ∧ (u.cellAt c).vq.items = rest ∧
        (∃ w, (t, w) ∈ (u.cellAt c).vq.ended ∧ fieldOf w 0 8 = 0) ∧
        ((s.vecResult d m).1.length = d.outCount) ∧
        (opc ≠ 0x2B → (u.cellAt c).sram.bytes d.dst d.dest.2 = codeBytes d.outFmt m d.dst (s.vecResult d m).1) ∧
        (∀ a, a < d.dst ∨ d.dst + d.dest.2 ≤ a → opc ≠ 0x2B ∨ a < d.scl ∨ d.scl + d.count / 32 ≤ a →
          (u.cellAt c).sram.byte a = m.byte a) ∧
        (u.cellAt c).acc = (s.cellAt c).acc ∧ u.mem = s.mem ∧ u.regs = s.regs)

/-- Integer and reduction results of the vector engine (R186): with STYPE INT32 each element of ADD, SUB and MUL is the sum, difference
or product modulo 2^32, of MAX and MIN the greater or lesser of two signed numbers; a reduction and ARGMAX leave one code. -/
def Obligations.VectorArithmetic : Prop :=
  ∀ (d : VecDesc) (m : Mem) (s : State), d.stype = 7 →
    (∀ (opc : Nat) (f : Int → Int → Int), (opc, f) = (0x20, (· + ·)) ∨ (opc, f) = (0x21, (· - ·)) ∨ (opc, f) = (0x22, (· * ·)) →
      d.opc = opc → s.vecResult d m = ((List.range d.count).map fun i =>
        (f (signedNat 32 (elemAt m d.src1 7 i)) (signedNat 32 (if d.bcast = 1 then d.imm else elemAt m d.src2 7 (if d.bcast = 2 then 0 else i))) %
          (2 ^ 32 : Nat)).toNat, s)) ∧
    (d.opc = 0x24 → d.bcast = 0 → ∀ i, i < d.count →
      let a := signedNat 32 (elemAt m d.src1 7 i)
      let b := signedNat 32 (elemAt m d.src2 7 i)
      (s.vecResult d m).1.getD i 0 = ((if a < b then b else a) % (2 ^ 32 : Nat)).toNat) ∧
    (d.opc = 0x25 → d.bcast = 0 → ∀ i, i < d.count →
      let a := signedNat 32 (elemAt m d.src1 7 i)
      let b := signedNat 32 (elemAt m d.src2 7 i)
      (s.vecResult d m).1.getD i 0 = ((if b < a then b else a) % (2 ^ 32 : Nat)).toNat)

/-! ### Cells: the movers -/

/-- A mover command starts the head of its channel, of its own operation or of none, and runs it as far as it goes (R140, R193, R195);
the descriptor has left the queue. A MALFORMED one is to end so; COPY moves its lines and is to end DONE; a GET, PUT or ATOM whose
translation is in no cache opens or joins a walk; one whose lookup fails is to end with its code. -/
def Obligations.MoversComplete : Prop :=
  ∀ (c t : Nat) (ch : BitVec 3) (l : Line) (rest : List (Nat × Line)) (s : State), s.code.hasCell c = true →
    (s.chan c ch.toNat).run = none → (s.chan c ch.toNat).q.items = (t, l) :: rest → ∀ (i : Instr) (opc : Nat),
    (i, opc) ∈ [(Instr.mvGet c ch false, 0x40), (.mvPut c ch false, 0x41), (.mvCopy c ch false, 0x42), (.mvCellPut c ch false, 0x43),
      (.mvAtom c ch false, 0x44)] →
    let d := mvDesc l
    let v := s.moverStart c ch.toNat
    let bad := d.malformed (decide (ch.toNat < 4)) || (decide (4 ≤ ch.toNat) && s.getF F.cellState_priv c == 0)
    (d.opc ≠ opc → 0x40 ≤ d.opc → d.opc ≤ 0x44 → exec i s = .next s.finish) ∧
    (d.opc = opc → exec i s = .next (State.finish (v.moverPump c ch.toNat)) ∧ (v.chan c ch.toNat).q.items = rest) ∧
    (d.opc = opc ∨ d.opc < 0x40 ∨ 0x44 < d.opc → bad = true →
      ∃ (u : State) (r : MvRun), exec i s = .next (State.finish u) ∧ (u.chan c ch.toNat).run = some r ∧ r.ticket = t ∧ r.code = .malformed ∧
        r.phase = .ending ∧ r.moved = 0 ∧ (u.cellAt c).sram = (s.cellAt c).sram ∧ u.mem = s.mem) ∧
    (d.opc = opc → opc = 0x42 → bad = false →
      ∃ (u : State) (r : MvRun), exec i s = .next (State.finish u) ∧ (u.chan c ch.toNat).run = some r ∧ r.ticket = t ∧ r.code = .done ∧
        r.phase = .ending ∧ r.moved = d.lines ∧ u.mem = s.mem ∧
        (d.lines = 1 → (s.cellAt c).stall = .none →
          (u.cellAt c).sram.line (d.operand % 2 ^ 23) = (s.cellAt c).sram.line d.sramOff)) ∧
    (d.opc = opc → opc ≠ 0x42 → opc ≠ 0x43 → bad = false →
      let g := granuleOf d.addr
      let tn := s.cellTenant c
      ((s.xltHit c tn g).1 = false →
        ∃ (u : State) (r : MvRun), exec i s = .next (State.finish u) ∧ (u.chan c ch.toNat).run = some r ∧ r.phase = .walk ∧
          (∃ w ∈ u.xlt.walks, w.die = c / 32 ∧ w.tenant = tn ∧ w.granule = g ∧ (c, ch.toNat) ∈ w.waiting) ∧ u.mem = s.mem) ∧
      ((s.xltHit c tn g).1 = true → ∀ code, s.lookup tn d.addr d.wants true = .fails code →
        ∃ (u : State) (r : MvRun), exec i s = .next (State.finish u) ∧ (u.chan c ch.toNat).run = some r ∧ r.phase = .ending ∧ r.code = code ∧
          r.moved = 0 ∧ u.mem = s.mem))

/-- MOVER_DESC_END (R196, R204): a descriptor whose ending is decided writes its result word to DONE_OFF, increments its flag, and its
ticket ends with the word; the channel is free. One that still runs goes on. CELL_PUT at its destination (R198, R438): to a cell of
the packet's tenant its lines are written, then the flag of a last packet is incremented; a cell of another tenant, or of none, is
DENIED, and an address outside the device's cells MALFORMED, and nothing is written; a packet that is not posted is answered with
the code. -/
def Obligations.MoverEndsAndCellPuts : Prop :=
  (∀ (c : Nat) (ch : BitVec 3) (r : MvRun) (s : State), s.code.hasCell c = true → (s.chan c ch.toNat).run = some r →
     (r.phase ≠ .ending → exec (.moverDescEnd c ch) s = .next s) ∧
     (r.phase = .ending →
       let d := mvDesc r.desc
       let w := resultWord r.code.num false false r.moved
       ∃ u : State, exec (.moverDescEnd c ch) s = .next (State.finish u) ∧ (u.chan c ch.toNat).run = none ∧
         (u.chan c ch.toNat).q.items = (s.chan c ch.toNat).q.items ∧
         (r.orphan = false → (r.ticket, w) ∈ (u.chan c ch.toNat).q.ended) ∧
         (r.orphan = true → (u.chan c ch.toNat).q = (s.chan c ch.toNat).q) ∧
         (r.code = .malformed → u.getF F.cellStatus_descMalformed = 1) ∧
         (d.doneOff % 8 = 0 → d.flagEn = false → (u.cellAt c).sram.word d.doneOff = w ∧
           ∀ a, a < d.doneOff ∨ d.doneOff + 8 ≤ a → (u.cellAt c).sram.byte a = (s.cellAt c).sram.byte a) ∧
         (d.doneOff % 8 = 0 → d.flagEn = true → let f := s.flagBase c + 8 * d.flag
           f + 8 ≤ sramBytes → d.doneOff + 8 ≤ f ∨ f + 8 ≤ d.doneOff → r.code ≠ .malformed →
           (u.cellAt c).sram.word d.doneOff = w ∧ (u.cellAt c).sram.word f = (s.cellAt c).sram.word f + 1) ∧
         (d.doneOff % 8 ≠ 0 → (u.cellAt c).sram = (s.cellAt c).sram) ∧ u.mem = s.mem)) ∧
  ((∀ (p : Packet) (s : State), p.stomp = false → ({ p with kind := .cellPut } : Packet).badForm = false →
     p.work = none → (p.flowSeq.toNat + 65536 - (s.rxFlow p.flow).expected) % 65536 = 0 → (s.rxFlow p.flow).held = [] →
     (s.rxFlow p.flow).unreported < 63 → s.mode = .service →
     exec (.cellPutReceive p) s = .next (State.finish
       ((s.setRx (s.rxFlow p.flow).advance).cellPutTake { p with kind := .cellPut }))) ∧
   (∀ (p : Packet) (l : Line) (s : State), p.data = [l] → p.posted = true → fieldOf p.addr 47 17 = 0 →
     let c := 32 * fieldOf p.addr 28 2 + fieldOf p.addr 23 5
     let off := fieldOf p.addr 0 23
     off % 64 = 0 → fieldOf p.addr 28 2 < s.code.fronds →
     (s.cellRun c = 0 ∨ s.cellTenant c ≠ p.tenant → s.cellPutTake p = s) ∧
     (s.cellRun c ≠ 0 → s.cellTenant c = p.tenant → fieldOf p.addr 46 1 = 0 →
       ((s.cellPutTake p).cellAt c).sram.line off = l ∧
       (∀ a, a < off ∨ off + 64 ≤ a → ((s.cellPutTake p).cellAt c).sram.byte a = (s.cellAt c).sram.byte a) ∧
       (∀ k, k ≠ c → (s.cellPutTake p).cellAt k = s.cellAt k) ∧ s.cellPutTake p = { s with cell := (s.cellPutTake p).cell })) ∧
   (∀ (p : Packet) (s : State), p.posted = true → s.code.fronds ≤ fieldOf p.addr 28 2 ∨ fieldOf p.addr 47 17 ≠ 0 ∨
     fieldOf p.addr 0 23 % 64 ≠ 0 → s.cellPutTake p = s))

/-! ### Wales and the static schedule -/

/-- The epoch rule (R255): a schedule message of a lower epoch than the highest seen changes nothing; one of a higher epoch advances
EPOCH and sets SOURCE_CHANGE; one of the present epoch is accepted as it is. SYNC (R253, R254): the timer sends one to the parent; a
child's is answered with the stand time; the parent's sets the offset, the error bound and the lock, and SKEW when the bound passes
20 ns or the lock is lost; any other is ignored. -/
def Obligations.EpochsAndSync : Prop :=
  (∀ (m : SchedMsg) (off : BitVec 16) (err : Nat) (locked : Bool) (s : State),
     (m.epoch.toNat < s.getF F.schedSync_epoch →
       exec (.sync m off err locked) s = .next s ∧ exec (.ready m) s = .next s ∧ exec (.hold m) s = .next s ∧
       exec (.boundary m) s = .next s ∧ exec (.schedFail m) s = .next s.finish) ∧
     (m.epoch.toNat = s.getF F.schedSync_epoch → s.acceptEpoch m = some s) ∧
     (s.getF F.schedSync_epoch < m.epoch.toNat → ∃ u : State, s.acceptEpoch m = some u ∧ u.getF F.schedSync_epoch = m.epoch.toNat ∧
       u.getF F.schedStatus_sourceChange = 1 ∧ u.wale = s.wale ∧ u.sched = s.sched ∧ u.mem = s.mem)) ∧
  ((∀ s : State, exec .syncTimer s = .next (match s.sched.parent with
     | none => s
     | some p => s.sendMsg p 1 0 (.sched { s.schedMsg kSync with time := s.stime }))) ∧
   (∀ (m : SchedMsg) (off : BitVec 16) (err : Nat) (locked : Bool) (s : State), m.epoch.toNat = s.getF F.schedSync_epoch →
     (s.sched.children.contains m.device = true →
       exec (.sync m off err locked) s = .next (s.sendMsg m.device 1 0 (.sched { s.schedMsg kSync with time := s.stime }))) ∧
     (s.sched.children.contains m.device = false → s.sched.parent = some m.device →
       ∃ u : State, exec (.sync m off err locked) s = .next u ∧ u.getF F.schedSync_offsetNs = off.toNat ∧
         u.getF F.schedSync_errorNs = min err 1023 ∧ u.getF F.schedSync_locked = locked.toNat ∧
         (20 < err ∨ (s.getF F.schedSync_locked = 1 ∧ locked = false) → u.getF F.schedStatus_skew = 1) ∧
         (err ≤ 20 → s.getF F.schedSync_locked ≠ 1 ∨ locked = true → u = { s with regs := u.regs }) ∧ u.sched = s.sched ∧ u.mem = s.mem) ∧
     (s.sched.children.contains m.device = false → s.sched.parent ≠ some m.device →
       exec (.sync m off err locked) s = .next s)))

/-- Readiness (R257, R262): a device whose work has ended and whose fence is complete sends READY up once, counting itself and its
subtree; a child's READY is noted for this wale, and one of the next wale waits for the boundary. Holds (R258, R277, R280, R297):
the time source notes the cause and the holder of a HOLD, another device passes it up; the repeat timer says the latest cause again;
a device that is late with no other cause holds with OVERRUN; the stretch warning comes once a wale. -/
def Obligations.ReadinessAndHolds : Prop :=
  ((∀ s : State, s.workReady = false ∨ s.mode = .sleep → exec .deviceReady s = .next s.finish) ∧
   (∀ (id : Nat) (s : State), s.workReady = true → s.mode ≠ .sleep → s.sched.readyFence = some id → s.fence id = none →
     (∀ c ∈ s.sched.children, c ∈ s.pwr.asleep ∨ ∃ n, (c, n) ∈ s.sched.readyFrom) → s.sched.sentReady = false →
     let u := (s.unhold causeOverrun).onSched fun x => { x with sentReady := true }
     exec .deviceReady s = .next (State.finish (u.sendUp { u.schedMsg kReady with count := u.readyCount }))) ∧
   (∀ s : State, s.workReady = true → s.mode ≠ .sleep → s.sched.readyFence = none →
     ∃ u : State, exec .deviceReady s = .next (State.finish u) ∧ u = s.becomeReady ∧ u.sched.readyFence ≠ none) ∧
   (∀ (m : SchedMsg) (s : State), m.epoch.toNat = s.getF F.schedSync_epoch → m.wale = s.wale →
     s.sched.children.contains m.device = true →
     ∃ u : State, exec (.ready m) s = .next u ∧ (m.device, m.count) ∈ u.sched.readyFrom ∧ u.sched.children = s.sched.children ∧
       (∀ e ∈ s.sched.readyFrom, e.1 ≠ m.device → e ∈ u.sched.readyFrom) ∧ u.mem = s.mem) ∧
   (∀ (m : SchedMsg) (s : State), m.epoch.toNat = s.getF F.schedSync_epoch → m.wale = s.wale + 1 →
     ∃ u : State, exec (.ready m) s = .next u ∧ exec (.hold m) s = .next u ∧ u.sched.early.length = s.sched.early.length + 1 ∧
       u = s.onSched fun x => { x with early := u.sched.early })) ∧
  ((∀ (m : SchedMsg) (s : State), m.epoch.toNat = s.getF F.schedSync_epoch → m.wale = s.wale → m.cause < 8 →
     (s.isSource = true → ∃ u : State, exec (.hold m) s = .next u ∧ u.getF F.schedHold_standCause = m.cause ∧
       u.getF F.schedHold_holder = m.device.toNat ∧ m.device ∈ u.sched.heldFrom ∧ u.out = s.out ∧ u.mem = s.mem) ∧
     (s.isSource = false → ∃ u : State, exec (.hold m) s = .next (u.sendUp m) ∧ m.device ∈ u.sched.heldFrom ∧
       u = s.onSched fun x => { x with heldFrom := u.sched.heldFrom })) ∧
   (∀ s : State, s.sched.holds = [] → exec .holdRepeatTimer s = .next s) ∧
   (∀ (c : Nat) (rest : List Nat) (s : State), s.sched.holds = rest ++ [c] → exec .holdRepeatTimer s = .next (s.sendHold c)) ∧
   (∀ s : State,
     (s.plannedEnd ≤ s.stime.toNat + 8000 → s.sched.sentReady = false → s.sched.holds = [] → s.workReady = false →
       ∃ u : State, exec .overrunHold s = .next u ∧ u.sched.holds = [causeOverrun] ∧ u.sched.overrun = true ∧ u.mem = s.mem) ∧
     (s.stime.toNat + 8000 < s.plannedEnd ∨ s.sched.sentReady = true ∨ s.sched.holds ≠ [] ∨ s.workReady = true →
       exec .overrunHold s = .next s)) ∧
   (∀ s : State,
     (s.mode ≠ .sleep → s.sched.warned = false → s.plannedEnd + 1000 * s.act F.schedStretchWarn_warnUs ≤ s.stime.toNat →
       ∃ u : State, exec .stretchWarnTimer s = .next u ∧ u.getF F.schedStatus_stretchWarn = 1 ∧ u.sched.warned = true ∧ u.mem = s.mem) ∧
     (s.mode = .sleep ∨ s.sched.warned = true → exec .stretchWarnTimer s = .next s)))

/-- Announcing a boundary (R259, R277, R293): the time source that holds READY of every device announces, from E − 8 us on, the next
wale at the later of E and 8 us from now, of the nominal length or of NEXT_US where it is not zero, which is then 0; it announces
without the overrunning devices once the grace has passed. -/
def Obligations.AnnouncingCompletes : Prop :=
  (∀ s : State, s.mayAnnounce = true →
    (s.sched.sentReady = true → s.sched.standSize ≤ s.readyCount → s.plannedEnd ≤ s.stime.toNat + 8000 →
      exec .boundaryAnnounce s = .next (State.finish s.announce)) ∧
    (s.sched.sentReady = false ∨ s.readyCount < s.sched.standSize ∨ s.stime.toNat + 8000 < s.plannedEnd →
      exec .boundaryAnnounce s = .next s) ∧
    (s.plannedEnd + 1000 * s.act F.schedOverrunGrace_graceUs ≤ s.stime.toNat → (∀ c ∈ s.sched.holds, c = 7) →
      exec .overrunGraceExpiry s = .next (State.finish s.announce))) ∧
  (∀ s : State, s.mayAnnounce = false → exec .boundaryAnnounce s = .next s ∧ exec .overrunGraceExpiry s = .next s) ∧
  (∀ s : State, (s.announce).sched.announced = some
      { wale := s.wale + 1, time := BitVec.ofNat 64 (max s.plannedEnd (s.stime.toNat + 8000)),
        lenUs := if s.getF F.schedWaleLen_nextUs = 0 then s.sched.lenUs else s.getF F.schedWaleLen_nextUs } ∧
    (s.announce).sched.sentBoundary = true ∧ (s.announce).wale = s.wale)

/-- BOUNDARY and WALE_BOUNDARY (R252, R261, R271, R667): a BOUNDARY for the next wale is announced; one that is late sets BOUNDARY_LATE
and begins the wale at once; before its time nothing happens; at its time a device in QUARANTINE keeps the counter only, and one
that takes part runs the sequence of the boundary. -/
def Obligations.BoundaryCompletes : Prop :=
  (∀ (m : SchedMsg) (s : State), m.epoch.toNat = s.getF F.schedSync_epoch → m.wale = s.wale + 1 → s.mode ≠ .slath → s.mode ≠ .sleep →
    let a : Announced := { wale := m.wale, time := m.time, lenUs := m.lenUs }
    let u := s.onSched fun x => { x with announced := some a }
    (s.stime.toNat ≤ m.time.toNat → exec (.boundary m) s = .next u) ∧
    (m.time.toNat < s.stime.toNat →
      exec (.boundary m) s = .next ((u.flag F.schedStatus_boundaryLate).crossBoundary a s.stime.toNat))) ∧
  (∀ (f : BoundaryFacts) (a : Announced) (s : State), s.sched.announced = some a → s.mode ≠ .slath → s.mode ≠ .sleep →
    (s.stime.toNat < a.time.toNat → exec (.waleBoundary f) s = .next s) ∧
    (a.time.toNat ≤ s.stime.toNat → s.mode = .quarantine → ∃ u : State, exec (.waleBoundary f) s = .next u ∧ u.wale = a.wale ∧
      u.sched.start = a.time ∧ u.sched.lenUs = a.lenUs ∧ u.sched.announced = none ∧ u.sched.sentReady = false ∧
      (a.wale.toNat % 16777216 ≠ 0 → u.inForce = s.regs) ∧
      u.mode = .quarantine ∧ u.mem = s.mem) ∧
    (a.time.toNat ≤ s.stime.toNat → s.mode = .service ∨ s.mode = .rest ∨ s.mode = .crust ∨ s.mode = .repair →
      exec (.waleBoundary f) s = .next (State.finish (s.sequence a f.ended.toNat)))) ∧
  (∀ (f : BoundaryFacts) (s : State), s.mode = .slath → exec (.waleBoundary f) s = .next s) ∧
  (∀ (f : BoundaryFacts) (s : State), s.mode = .sleep →
    (s.stime.toNat < s.plannedEnd → exec (.waleBoundary f) s = .next s) ∧
    (s.plannedEnd ≤ s.stime.toNat → ∃ u : State, exec (.waleBoundary f) s = .next u ∧ u.wale = s.wale + 1 ∧
      u.sched.start = BitVec.ofNat 64 s.plannedEnd ∧ u.mode = .sleep ∧ u.mem = s.mem)) ∧
  (∀ (a : Announced) (s : State), (s.newWale a).sched.start = a.time ∧ (s.newWale a).sched.lenUs = a.lenUs ∧
    (s.newWale a).sched.holds = s.sched.holds.filter (· == 5) ∧ (s.newWale a).sched.worked = false ∧ (s.newWale a).wale = s.wale ∧
    (s.newWale a).sched.runs.map (·.1) = s.sched.tracks.map (·.1) ∧ (∀ e ∈ (s.newWale a).sched.runs, e.2.next = 0 ∧ e.2.open_ = []))

/-- FAIL (R263, R550): a child that is silent past its bound is counted out, PEER_FAILED is set and FAIL goes up and to the child's
keepers; the time source counts a failed device out, another passes the FAIL up, and a keeper of its ring notes it. -/
def Obligations.FailuresComplete : Prop :=
  (∀ (d : DevNo) (s : State), s.sched.children.contains d = true → (∀ n, (d, n) ∉ s.sched.readyFrom) → s.sched.heldFrom.contains d = false →
    s.pwr.asleep.contains d = false →
    (s.plannedEnd + 1000 * s.act F.schedReadyBound_boundUs ≤ s.stime.toNat →
      ∃ u : State, exec (.childSilenceTimeout d) s = .next (State.finish u) ∧ u = s.childSilent d ∧ d ∉ u.sched.children ∧
        u.sched.standSize = s.sched.standSize - 1 ∧ u.mem = s.mem) ∧
    (s.stime.toNat < s.plannedEnd + 1000 * s.act F.schedReadyBound_boundUs → exec (.childSilenceTimeout d) s = .next s.finish)) ∧
  (∀ (d : DevNo) (s : State), s.sched.children.contains d = false ∨ s.sched.heldFrom.contains d = true ∨ s.pwr.asleep.contains d = true →
    exec (.childSilenceTimeout d) s = .next s.finish) ∧
  (∀ (m : SchedMsg) (s : State), m.epoch.toNat = s.getF F.schedSync_epoch → m.wale = s.wale →
    (s.isKeeper = false → s.isSource = false → exec (.schedFail m) s = .next (State.finish (s.sendUp m))) ∧
    (s.isKeeper = true → devRing m.device = devRing s.device → s.fateOf m.device = none → s.isSource = false →
      ∃ u : State, exec (.schedFail m) s = .next (State.finish (u.sendUp m)) ∧ (m.device, s.stime) ∈ u.map.failedNamed ∧
        u = s.onMap fun x => { x with failedNamed := u.map.failedNamed }) ∧
    (s.isKeeper = false → s.isSource = true →
      exec (.schedFail m) s = .next (State.finish (State.sendReady (s.onSched fun x => { x with
        standSize := x.standSize - 1, children := x.children.filter (· != m.device) })))))

/-- The steps of templates (R264, R267 to R269): a step that is not due, of another kind, or may not start yet changes nothing; a KERNEL
step starts its kernel on its cells and is open; STREAM, SERVICE and SEARCH steps start likewise; END ends the template; the end of
a search slot closes it. An OFF cell of the step is a hardware fault of the track (R278). -/
def Obligations.StepsComplete : Prop :=
  (∀ (t : Nat) (s : State) (e : Instr × StepKind),
    e ∈ [(Instr.stepKernel t, StepKind.kernel), (.stepStream t, .stream), (.stepService t, .service), (.stepSearch t, .search)] →
    (s.dueStep t = none → exec e.1 s = .next s.finish) ∧
    (∀ r d, s.dueStep t = some (r, d) →
      (d.kind ≠ e.2 ∨ s.mayStart d = false ∨ s.ownFirst t r.next d = false → exec e.1 s = .next s.finish) ∧
      (d.kind = e.2 → s.mayStart d = true → s.ownFirst t r.next d = true → s.map.failover = none →
        (d.cells.any fun c => s.cellRun c == runOff) = true → exec e.1 s = .next (State.finish (s.trackFault t))) ∧
      (d.kind = e.2 → s.mayStart d = true → s.ownFirst t r.next d = true → s.map.failover = none →
        (d.cells.any fun c => s.cellRun c == runOff) = false →
        exec e.1 s = .next (State.finish (match e.2 with
          | .kernel => s.startKernel t r d
          | .stream => s.startStream t r d
          | .service => s.startService t r d
          | _ => s.startSearch t r d))))) ∧
  (∀ (t : Nat) (r : TrackRun) (d : Step) (k : Kernel) (s : State), s.trackKernel t d.kernel = some k → d.cells = [32 * d.die] →
    d.die < 4 → s.mode = .service → s.cellRun (32 * d.die) = 1 →
    let u := s.startKernel t r d
    u.cellRun (32 * d.die) = 2 ∧ u.getF F.cellState_kernel (32 * d.die) = k.id % 65536 ∧
    (u.cellAt (32 * d.die)).pc = BitVec.ofNat 64 (k.codeOffset + k.entry) ∧ (u.cellAt (32 * d.die)).acc = [] ∧
    (u.cellAt (32 * d.die)).track = some t ∧ u.mem = s.mem) ∧
  (∀ (t : Nat) (r : TrackRun) (d : Step) (s : State), s.dueStep t = some (r, d) →
    (d.kind = .done → ∃ u : State, exec (.stepEnd t) s = .next (State.finish u) ∧
      u = s.onSched fun x => { x with runs := x.runs.put t { r with next := r.next + 1, ended := true } }) ∧
    (d.kind ≠ .done → exec (.stepEnd t) s = .next s)) ∧
  (∀ (t : Nat) (s : State),
    (s.srch.open_.any (fun e => e.1 == t) = true → ∃ u : State, exec (.searchSlotEnd t) s = .next (State.finish u) ∧
      (∀ e ∈ u.srch.open_, e.1 ≠ t) ∧ (∀ e ∈ u.sched.runs, e.1 = t → ∀ o ∈ e.2.open_, o.kind ≠ .search) ∧ u.mem = s.mem ∧
      u.regs = s.regs) ∧
    (s.srch.open_.any (fun e => e.1 == t) = false → exec (.searchSlotEnd t) s = .next s))

/-! ### The inference service -/

/-- START, CANCEL, DROP and RING land at an aperture line (R302, R303, R309 to R312): one that fits no line is answered ABSENT; a HELD
slot discards the write; CRUST answers CRUST and REPAIR RETRY; the first field that fails its check answers MALFORMED with its
offset; a good one leaves the slot HELD with its line, REQUEST_ID, landing wale and stamp and DONE 1, and a device in REST is in
SERVICE again. No memory changes. -/
def Obligations.HeldCommandsLand : Prop :=
  ∀ (t : Tenant) (i : Nat) (l : Line) (s : State) (e : Instr × Nat × Option Nat),
    e ∈ [(Instr.startTurn t i l, 1, s.startCheck t l), (.cancel t i l, 2, otherCheck l), (.drop t i l, 3, otherCheck l),
      (.ring t i l, 4, otherCheck l)] → lineOpc l = e.2.1 → 0 < i →
    (s.apLines t ≤ i → exec e.1 s = .next (State.finish (s.emit (.status t (s.statusWord t .absent 0))))) ∧
    (i < s.apLines t → (s.slot t i).held = true → ∃ u : State, exec e.1 s = .next (State.finish u) ∧
      u.slot t i = { s.slot t i with discards := min ((s.slot t i).discards + 1) 255 } ∧ u.getF F.svcStatus_discard = 1 ∧
      u.mem = s.mem ∧ u.out = s.out) ∧
    (i < s.apLines t → (s.slot t i).held = false → ∀ code detail, (s.mode = .crust ∧ code = Code.crust ∧ detail = 0) ∨
        (s.mode = .repair ∧ code = Code.retry ∧ detail = 1) ∨
        (s.mode ≠ .crust ∧ s.mode ≠ .repair ∧ code = Code.malformed ∧ e.2.2 = some detail) →
      ∃ u : State, exec e.1 s = .next (State.finish u) ∧ (u.slot t i).held = false ∧ (u.slot t i).status = s.statusWord t code detail ∧
        (u.slot t i).requestId = lineReq l ∧ (u.slot t i).doneWale = s.wale ∧
        u = { s with regs := u.regs, svc := u.svc } ∧ (∀ n : Tenant, n ≠ t → u.aperture n = s.aperture n)) ∧
    (i < s.apLines t → (s.slot t i).held = false → s.mode = .service ∨ s.mode = .rest → e.2.2 = none →
      ∃ u : State, exec e.1 s = .next (State.finish u) ∧ (u.slot t i).held = true ∧ (u.slot t i).line = l ∧
        (u.slot t i).requestId = lineReq l ∧ (u.slot t i).status = s.statusWord t .done 1 ∧ (u.slot t i).landWale = s.wale ∧
        (u.slot t i).stamp = s.stime ∧ (∀ k, k ≠ i → u.slot t k = s.slot t k) ∧ u.mode = .service ∧ u.mem = s.mem ∧
        (s.mode = .service → u = { s with svc := u.svc }))

/-- The aperture's other accesses (R302, R304 to R308): a partial write is discarded and counted; a read answers the line; a good
control line takes CONSUMED and ends classes 2, 4 and 7 as ACK says, a bad one is discarded; classes that have been pending for 64
wales lapse for a tenant with no aperture. -/
def Obligations.ApertureAccessesComplete : Prop :=
  (∀ (t : Tenant) (i : Nat) (s : State),
    (s.apLines t ≤ i → exec (.aperturePartialWrite t i) s = .next (s.emit (.status t (s.statusWord t .absent 0))) ∧
      exec (.apertureRead t i) s = .next (s.emit (.status t (s.statusWord t .absent 0)))) ∧
    (i < s.apLines t → exec (.apertureRead t i) s = .next (s.emit (.aperture t i (s.apertureData t i)))) ∧
    (i < s.apLines t → 0 < i → ∃ u : State, exec (.aperturePartialWrite t i) s = .next u ∧
      u.slot t i = { s.slot t i with discards := min ((s.slot t i).discards + 1) 255 } ∧
      u.getF F.svcStatus_discard = 1 ∧ u.mem = s.mem) ∧
    (0 < i → 0 < s.apLines t → dfield (s.apertureData t i) 0 0 64 = (s.slot t i).status.toNat)) ∧
  (∀ (t : Tenant) (l : Line) (s : State), s.apLines t ≠ 0 →
    let a := s.aperture t
    let bad := a.ringEntries < (a.produced + 2 ^ 32 - dfield l 0 0 32) % 2 ^ 32 ∨ 8 ≤ dfield l 4 0 8 ∨
      (firstNonZero l (bytesFrom 5 64)).isSome = true
    (bad → ∃ u : State, exec (.controlLineWrite t l) s = .next u ∧ u.aperture t = { a with discards := min (a.discards + 1) 255 } ∧
      u.svc.latched = s.svc.latched ∧ u.getF F.svcStatus_discard = 1 ∧ u.mem = s.mem) ∧
    (¬ bad → ∃ u : State, exec (.controlLineWrite t l) s = .next u ∧ u.aperture t = { a with consumed := dfield l 0 0 32 } ∧
      u = { s with svc := u.svc } ∧
      (∀ e ∈ [(0, 2), (1, 4), (2, 7)], (dfield l 4 0 8).testBit e.1 = true → u.isLatched e.2 t = false))) ∧
  (∀ (t : Tenant) (s : State), (s.apLines t ≠ 0 → exec (.attentionLapse t) s = .next s) ∧
    (s.apLines t = 0 → ∃ u : State, exec (.attentionLapse t) s = .next u ∧ u = s.onSvc (fun x => { x with latched := u.svc.latched }) ∧
      (∀ e ∈ u.svc.latched, e.2.1.toNat + 64 ≤ s.wale.toNat → e.2.2 &&& oneTenant t = 0) ∧
      (∀ e ∈ s.svc.latched, s.wale.toNat < e.2.1.toNat + 64 → e.2.2 ≠ 0 → e ∈ u.svc.latched)))

/-- The admission of a ring (R315, R316): RESERVE is answered by what the check of the KV region finds, QUOTA where the reservation does
not fit and DONE where it is made; GRANT is noted, or ends the candidate; COMMIT binds the share; RESERVE_CANCEL takes grant and
share away. What no candidate asked for, or no grant stands for, changes nothing. -/
def Obligations.RingAdmissionCompletes : Prop :=
  (∀ (m : ReserveMsg) (s : State),
    ((s.mode ≠ .service ∧ s.mode ≠ .rest) ∨ devRing m.owner ≠ devRing s.device → exec (.reserve m) s = .next s.finish) ∧
    (s.mode = .service ∨ s.mode = .rest → devRing m.owner = devRing s.device →
      let kv := s.kvFails m.tenant m.kvAddr (segments m.bound * s.segBytes m.model)
      let fit := s.reserve m.tenant (s.reserveFrames m.model m.cls m.bound).1 (s.reserveFrames m.model m.cls m.bound).2
      (∀ code, kv = some code →
        exec (.reserve m) s = .next (State.finish (s.sendMsg m.owner 1 m.tenant (.grant m.tenant m.request code) true))) ∧
      (kv = none → fit = none →
        exec (.reserve m) s = .next (State.finish (s.sendMsg m.owner 1 m.tenant (.grant m.tenant m.request .quota) true))) ∧
      (∀ r u, kv = none → fit = some (r, u) →
        exec (.reserve m) s = .next (State.finish ((u.onSvc fun x => { x with grants := x.grants ++ [(m, r)] }).sendMsg m.owner 1
          m.tenant (.grant m.tenant m.request .done) true))))) ∧
  (∀ (p : DevNo) (t : Tenant) (r : Word) (code : Code) (s : State),
    (s.askedSlot t r = none → exec (.grant p t r code) s = .next s.finish) ∧
    (∀ i, s.askedSlot t r = some i → s.stime.toNat ≤ s.sched.start.toNat + 20000 →
      (code = .done → (s.ringPeers.all fun d => (s.slot t i).granted.contains d || d == p) = false →
        ∃ u : State, exec (.grant p t r code) s = .next (State.finish u) ∧ (u.slot t i).held = (s.slot t i).held ∧
          (u.slot t i).granted = (s.slot t i).granted.filter (· != p) ++ [p] ∧ u = { s with svc := u.svc }) ∧
      (code = .absent ∨ code = .denied ∨ code = .revoked → (s.slot t i).resv = none →
        ∃ u : State, exec (.grant p t r code) s = .next (State.finish (u.cancelPeers t r)) ∧ (u.slot t i).held = false ∧
          (u.slot t i).status = s.statusWord t code 4 ∧ u.mem = s.mem))) ∧
  (∀ (o : DevNo) (t : Tenant) (r : Word) (ts : List (BitVec 32)) (s : State),
    (s.svc.grants.find? (fun g => sameAsk g.1 o t r) = none → exec (.commit o t r ts) s = .next s.finish) ∧
    (∀ m v, s.svc.grants.find? (fun g => sameAsk g.1 o t r) = some (m, v) →
      ∃ u : State, exec (.commit o t r ts) s = .next (State.finish (u.attachRegion (shareCtx m v ts s.wale s.svc.nextOrder))) ∧
        u.svc.shares = s.svc.shares ++ [shareCtx m v ts s.wale s.svc.nextOrder] ∧
        (∀ g ∈ u.svc.grants, sameAsk g.1 o t r = false) ∧ u = { s with svc := u.svc })) ∧
  (∀ (o : DevNo) (t : Tenant) (r : Word) (s : State),
    ((∀ g ∈ s.svc.grants, sameAsk g.1 o t r = false) → (∀ c ∈ s.svc.shares, c.tenant ≠ t ∨ c.requestId ≠ r) →
      exec (.reserveCancel o t r) s = .next s.finish) ∧
    (∀ m, s.svc.grants = [(m, none)] → sameAsk m o t r = true → s.svc.shares = [] →
      ∃ u : State, exec (.reserveCancel o t r) s = .next (State.finish u) ∧ u.svc.grants = [] ∧ u = { s with svc := u.svc }))

/-- Deadlines, completion records and degraded marks (R320, R341 to R345, R348, R356): at a deadline the live request enters ENDING with
LATE; a record lands in its ring once its SEQ is next, the ring has room and the mirror is acknowledged, and PRODUCED is then its
SEQ; a ring whose home is dead sets RING_DEAD and stalls the request; CLEAR_DEGRADED answers ABSENT for a model that is not
degraded, POISON while a block of it is QUARANTINED, and waits for the boundary otherwise. -/
def Obligations.DeadlinesRecordsAndMarks : Prop :=
  (∀ (t : Tenant) (r : Word) (n : Nat) (c : Ctx) (s : State), s.svc.apertures = [] → s.svc.ctxs = [(n, c)] → c.tenant = t →
    c.requestId = r →
    (c.state = .prefill ∨ c.state = .decode ∨ c.state = .stalled ∨ c.state = .resuming → windowOver c.stamp s.stime c.deadlineUs = true →
      ∃ u : State, exec (.turnDeadline t r) s = .next (State.finish (u.formRecords)) ∧
        u.svc.ctxs = [(n, { c with state := .ending, ending := some (.late, 0) })] ∧ u.getF F.svcStatus_lateEnd = 1 ∧ u.mem = s.mem) ∧
    (windowOver c.stamp s.stime c.deadlineUs = false → exec (.turnDeadline t r) s = .next (State.finish s.formRecords))) ∧
  (∀ (t : Tenant) (r : Word) (i : Nat) (v : Slot) (s : State), s.svc.ctxs = [] →
    s.svc.apertures = [(t.toNat, { Aperture.fresh with slots := [(i, v)] })] → v.held = true → lineOpc v.line = 1 → v.requestId = r →
    v.asked = false → v.resv = none → windowOver v.stamp s.stime (dfield v.line 0x34 0 32) = true →
    ∃ u : State, exec (.turnDeadline t r) s = .next (State.finish u.formRecords) ∧ (u.slot t i).held = false ∧
      (u.slot t i).status = s.statusWord t .late 0 ∧ u.getF F.svcStatus_lateEnd = 1 ∧ u.mem = s.mem) ∧
  (∀ (n : Nat) (c : Ctx) (r : Record) (dead : Bool) (s : State), s.svc.ctxs.find? (fun e => e.1 == n) = some (n, c) →
    s.svc.records.find? (fun x => x.ring == c.ring) = some r → r.ctx = n → s.mode ≠ .quarantine →
    (dead = true → ∃ u : State, exec (.completionRecordWrite n dead) s = .next (State.finish u) ∧ u.getF F.svcStatus_ringDead = 1 ∧
      u.svc.records = s.svc.records ∧ u.mem = s.mem ∧
      (c.state = .decode → (u.svc.ctxs.get n c).state = .stalled)) ∧
    (dead = false → s.map.unacked.contains (some (c.tenant, r.seq)) = true →
      exec (.completionRecordWrite n dead) s = .next s.finish) ∧
    (dead = false → s.map.unacked.contains (some (c.tenant, r.seq)) = false → s.ringWrite c.ring c.tenant r.seq r.line = none →
      exec (.completionRecordWrite n dead) s = .next s.finish) ∧
    (∀ u, dead = false → s.map.unacked.contains (some (c.tenant, r.seq)) = false → r.isEnd = false →
      s.ringWrite c.ring c.tenant r.seq r.line = some u →
      ∃ v, exec (.completionRecordWrite n dead) s = .next (State.finish v) ∧ v.svc.records = u.svc.records.erase r ∧
        v.mem = u.mem ∧ v.out = u.out ∧ v.svc.apertures = u.svc.apertures)) ∧
  (∀ (k : Nat) (t : Tenant) (q : Nat) (l : Line) (s u : State), s.ringWrite k t q l = some u →
    q = ((s.ringAt k).produced + 1) % 2 ^ 32 ∧ (s.ringAt k).ringEntries ≠ 0 ∧
      (k < 256 → (q + 2 ^ 32 - (s.ringAt k).consumed) % 2 ^ 32 ≤ (s.ringAt k).ringEntries)) ∧
  (∀ (w : Word) (d : RegDesc) (s : State), regAt (F.svcModelCmd_op.off 0) = some d → d.clean (putBits w 6 2 1) →
    s.getF F.svcModelCmd_busy ≠ 1 →
    let u := s.cmdWritten d F.svcModelCmd_op 0 (putBits w 6 2 1)
    let m := fieldOf w 0 6
    u.getF F.svcModelCmd_model = m ∧
    (u.getF F.svcModel_degraded m = 0 → exec (.clearDegraded w) s = .next (u.setF F.svcModelCmd_code 0 Code.absent.num)) ∧
    (u.getF F.svcModel_degraded m ≠ 0 → u.modelQuarantined m = true →
      exec (.clearDegraded w) s = .next (u.setF F.svcModelCmd_code 0 Code.poison.num)) ∧
    (u.getF F.svcModel_degraded m ≠ 0 → u.modelQuarantined m = false →
      ∃ v, exec (.clearDegraded w) s = .next v ∧ v.getF F.svcModelCmd_busy = 1 ∧ (v.modelS m).clearing = true ∧ v.mem = s.mem))

/-! ### Vector search -/

/-- Queries (R382 to R384, R387, R395 to R397): a QUERY or QCANCEL lands at a line that is not HELD and leaves it FREE with the status
of the landing: MALFORMED with the first bad offset; the code of the first check of R383 that fails; DONE 16 with the query bound. A
QCANCEL ends the live query of its identifier and answers DONE 3, or ABSENT 5 where there is none. A query whose deadline has passed
enters MERGE with LATE; its record lands once its buffer is written and the ring has room, and the context is free. Parts (R378,
R386 to R391): a part that arrives at a shard slot the list names is acknowledged and bound, QUEUED; acknowledgement and progress
are noted at the home with the time; a silent shard settles DEAD and sets SHARD_DEAD; a RETRY part is sent again; a part that is
cancelled or whose answer is acknowledged is free; a wait on memory ends into the state it left or in POISON; the exact distances
end a part with its answer. What names no part or a part in another state changes nothing. -/
def Obligations.QueriesAndParts : Prop :=
  ((∀ (t : Tenant) (i : Nat) (l : Line) (dead : Bool) (s : State), 0 < i → i < s.apLines t → (s.slot t i).held = false →
     s.mode = .service →
     (lineOpc l = 0x10 →
       (∀ off, s.queryCheck t l = some off → ∃ u : State, exec (.query t i l dead) s = .next (State.finish u) ∧ (u.slot t i).held = false ∧
         (u.slot t i).status = s.statusWord t .malformed off ∧ u.srch = s.srch ∧ u.mem = s.mem) ∧
       (∀ code detail v, s.queryCheck t l = none → s.queryBind t i l dead = (some (code, detail), v) →
         ∃ u : State, exec (.query t i l dead) s = .next (State.finish u) ∧ v = s ∧ (u.slot t i).held = false ∧
           (u.slot t i).status = s.statusWord t code detail ∧ u.srch = s.srch ∧ u.mem = s.mem) ∧
       (∀ v, s.queryCheck t l = none → s.queryBind t i l dead = (none, v) →
         ∃ u : State, exec (.query t i l dead) s = .next (State.finish u) ∧ (u.slot t i).held = false ∧
           (u.slot t i).status = v.statusWord t .done 0x10 ∧ (u.slot t i).requestId = lineReq l ∧ u.srch = v.srch)) ∧
     (lineOpc l = 0x11 → qcancelCheck l = none →
       (∀ q h, s.srch.homes.find? (fun e => e.2.tenant == t && e.2.queryId == lineReq l && e.2.state != .merge) = some (q, h) →
         ∃ u : State, exec (.qcancel t i l) s = .next (State.finish u) ∧ (u.slot t i).held = false ∧
           (u.slot t i).status = (s.queryEnds q .aborted 1).statusWord t .done 3 ∧ u.srch = (s.queryEnds q .aborted 1).srch) ∧
       (s.srch.homes.find? (fun e => e.2.tenant == t && e.2.queryId == lineReq l && e.2.state != .merge) = none →
         ∃ u : State, exec (.qcancel t i l) s = .next (State.finish u) ∧ (u.slot t i).held = false ∧
           (u.slot t i).status = s.statusWord t .absent 5 ∧ u.srch = s.srch ∧ u.mem = s.mem))) ∧
   (∀ (q : Nat) (h : HomeQ) (s : State), s.homeQ q = some h →
     (windowOver h.stamp s.stime h.deadlineUs = true → exec (.queryDeadline q) s = .next (State.finish (s.queryEnds q .late 0))) ∧
     (windowOver h.stamp s.stime h.deadlineUs = false → exec (.queryDeadline q) s = .next s) ∧
     (h.state ≠ .merge ∨ s.queryPending q = true ∨ s.mode = .quarantine →
       exec (.queryRecordWrite q) s = .next s.finish) ∧
     (∀ u, h.state = .merge → s.queryPending q = false → s.svc.records = [] → s.mode ≠ .quarantine →
       s.ringWrite h.tenant.toNat h.tenant (((s.aperture h.tenant).produced + 1) % 2 ^ 32)
         (s.queryRecord q h (((s.aperture h.tenant).produced + 1) % 2 ^ 32)) = some u → u.srch.pending = [] →
       ∃ v, exec (.queryRecordWrite q) s = .next (State.finish v) ∧ v.srch.homes = u.srch.homes.del q ∧ v.mem = u.mem ∧
         v.out = u.out ∧ v.svc = u.svc)) ∧
   (∀ (q : Nat) (code : Code) (d : Nat) (h : HomeQ) (s : State), s.homeQ q = some h → h.state = .merge →
     s.queryEnds q code d = s) ∧
   (∀ (q : Nat) (s : State), s.homeQ q = none → exec (.queryDeadline q) s = .next s ∧ exec (.queryRecordWrite q) s = .next s.finish)) ∧
  ((∀ (m : QueryParts) (slot : Nat) (s : State),
     (s.shardIndex m slot = none → exec (.queryPart m slot) s = .next s.finish) ∧
     (∀ shard, s.shardIndex m slot = some shard → s.mode = .service →
       let a := s.sendMsg m.home 2 m.tenant (.partAck m.q shard)
       (∀ v i, a.shardSlot slot = some v → v.degraded = false → a.searchOpen v.cur = false → a.freeQuery v.cur.die = some i →
         ∃ u : State, exec (.queryPart m slot) s = .next (State.finish u) ∧ u.out = a.out ∧ u.mem = a.mem ∧
           ∃ p, u.part i = some p ∧ p.state = .queued ∧ p.msg = m ∧ p.shard = shard ∧ p.slot = slot ∧ p.hdr = v.cur) ∧
       (∀ v, a.shardSlot slot = some v → a.freeQuery v.cur.die = none → (a.srch.pending.countP fun e => e.1 == v.cur.die) < 4096 →
         exec (.queryPart m slot) s = .next (State.finish
           (a.onSrch fun x => { x with pending := x.pending ++ [(v.cur.die, m, slot)] }))))) ∧
   (∀ (m : QueryParts) (s : State),
     (s.corpus m.corpus = none → exec (.queryRelay m) s = .next s.finish) ∧
     (∀ c g, s.corpus m.corpus = some c → s.group c.group = some g →
       exec (.queryRelay m) s = .next (State.finish
         (if g.source = s.device ∧ s.mode ≠ .sleep then s.sendGroup c.group 2 m.tenant (.part m) else s)))) ∧
   (∀ (q shard : Nat) (s : State),
     (s.homeQ q = none → exec (.partAck q shard) s = .next s ∧ exec (.partProgress q shard) s = .next s ∧
       exec (.partResendTimer q shard) s = .next s ∧ exec (.partSilenceTimeout q shard) s = .next s.finish) ∧
     (∀ h k n, s.homeQ q = some h → h.shards.find? (fun e => e.1 == shard) = some (k, n) → h.state = .waiting →
       (n.stand = .sent → ∃ u : State, exec (.partAck q shard) s = .next u ∧ exec (.partProgress q shard) s = .next u ∧
         u.homeQ q = some { h with shards := h.shards.put shard { n with stand := .acked, heard := s.stime } } ∧
         u = s.onSrch fun x => { x with homes := u.srch.homes }) ∧
       (n.stand = .retry → exec (.partAck q shard) s = .next s ∧ exec (.partProgress q shard) s = .next s ∧
         ∃ u : State, exec (.partResendTimer q shard) s = .next (u.unicastParts h (s.partsOf q h [shard])) ∧
           u.homeQ q = some { h with shards := h.shards.put shard { n with stand := .sent } }) ∧
       (n.stand = .settled → exec (.partAck q shard) s = .next s ∧ exec (.partSilenceTimeout q shard) s = .next s.finish) ∧
       (n.stand ≠ .settled → ∃ u : State, exec (.partSilenceTimeout q shard) s = .next (State.finish
           (u.querySettled q { h with shards := h.shards.put shard { n with stand := .settled, code := some .dead } })) ∧
         u.getF F.srchStatus_shardDead = 1 ∧ u.mem = s.mem))) ∧
   (∀ (i : Nat) (dead poison : Bool) (s : State), s.part i = none →
     exec (.partCancel i) s = .next s ∧ exec (.answerAck i dead) s = .next s ∧ exec (.partProgressTimer i) s = .next s ∧
     exec (.partMemwaitEnd i poison) s = .next s.finish ∧ exec (.rerankComplete i) s = .next s.finish) ∧
   (∀ (i : Nat) (dead poison : Bool) (p : Part) (s : State), s.part i = some p →
     (p.state = .answer → exec (.partCancel i) s = .next s ∧ exec (.partProgressTimer i) s = .next s ∧
       exec (.answerAck i dead) s = .next (State.finish (s.freePart i))) ∧
     (p.state ≠ .answer → exec (.answerAck i dead) s = .next s ∧ exec (.partCancel i) s = .next (State.finish (s.freePart i)) ∧
       exec (.partProgressTimer i) s = .next (s.sendMsg p.msg.home 2 p.msg.tenant (.partProgress p.msg.q p.shard))) ∧
     (p.state ≠ .memwait → exec (.partMemwaitEnd i poison) s = .next s.finish) ∧
     (p.state = .memwait → exec (.partMemwaitEnd i true) s = .next (State.finish (s.partEnds i p .poison)) ∧
       (p.left = .rerank → exec (.partMemwaitEnd i false) s = .next (State.finish (s.setPart i { p with state := .rerank })))) ∧
     (p.state = .rerank → p.cands = [] →
       exec (.rerankComplete i) s = .next (State.finish (s.partEnds i { p with results := [] } .done))) ∧
     (p.state ≠ .rerank → exec (.rerankComplete i) s = .next s.finish) ∧
     (s.srch.pending = [] → (s.freePart i).part i = none ∧ (s.freePart i).mem = s.mem)) ∧
   (∀ (q shard : Nat) (a : PartAnswer) (s : State), s.homeQ q = none →
     exec (.partAnswer q shard a) s = .next (State.finish (if a.code = .retry then s else s.sendMsg a.src 2 0 (.answerAck q shard)))) ∧
   (∀ (q shard k : Nat) (a : PartAnswer) (h : HomeQ) (n : ShardNote) (s : State), s.homeQ q = some h → h.state = .waiting →
     h.shards.find? (fun e => e.1 == shard) = some (k, n) → n.stand ≠ .settled → windowOver h.stamp s.stime h.deadlineUs = false →
     a.code = .retry →
     exec (.partAnswer q shard a) s = .next (State.finish
       (s.setHomeQ q { h with shards := h.shards.put shard { n with stand := .retry } }))))

/-- The Sorus arrays and the shard slots (R362, R363, R368 to R374, R408 to R410): an array the ordering code does not fit is not there;
the array next in its die's order is calibrated, one of a die at a time; the end makes it ACTIVE with margin e + 1, or RETIRED where
that is above 3; a temperature step is shown, and one of more than TEMP_STEP takes the array out; a block that no open slot or no
part of the array asks for changes nothing; LOAD of a slot that holds a shard ends RETRY, UNLOAD of one a part uses ends RETRY. -/
def Obligations.ArraysAndShards : Prop :=
  (∀ (a x y z w e temp : Nat) (dev : List Int) (bad : Bool) (s : State), s.code.hasArray a = false →
    exec (.sweepBlockLoad a x y z w dev bad) s = .fault .noSuchUnit ∧ exec (.arrayCalibrate a) s = .fault .noSuchUnit ∧
    exec (.arrayTempStep a temp) s = .fault .noSuchUnit ∧ exec (.arrayCalibrationEnd a e) s = .fault .noSuchUnit) ∧
  (∀ (a slot x first rows : Nat) (dev : List Int) (bad : Bool) (s : State), s.code.hasArray a = true →
    (s.srch.open_.any (fun e => e.2 == some (a / 64)) = false ∨ (s.allRetired (a / 64) = false ∧ s.arrayState a ≠ 1) →
      exec (.sweepBlockLoad a slot x first rows dev bad) s = .next s.finish) ∧
    (s.srch.parts = [] → exec (.sweepBlockLoad a slot x first rows dev bad) s = .next s.finish)) ∧
  (∀ (a e temp : Nat) (s : State), s.code.hasArray a = true →
    ((∀ k, k < 64 → s.arrayState (64 * (a / 64) + k) ≠ 2) → (s.srch.calOrder.get (a / 64) [0]).head? = some (a % 64) →
      ∃ u : State, exec (.arrayCalibrate a) s = .next u ∧ u.arrayState a = 2 ∧ u.mem = s.mem ∧ u.out = s.out ∧
        (∀ b, b < 128 → b ≠ a → u.arrayState b = s.arrayState b)) ∧
    ((s.srch.calOrder.get (a / 64) [0]).head? ≠ some (a % 64) → exec (.arrayCalibrate a) s = .next s) ∧
    (s.arrayState a ≠ 2 → exec (.arrayCalibrationEnd a e) s = .next s) ∧
    (s.arrayState a = 2 → e + 1 ≤ 3 → ∃ u : State, exec (.arrayCalibrationEnd a e) s = .next u ∧ u.arrayState a = 1 ∧
      u.getF F.srchArray_margin a = e + 1 ∧ u.getF F.srchArray_error a = e ∧ u.srch.blocked.contains a = false ∧ u.mem = s.mem) ∧
    (s.arrayState a = 2 → 3 < e + 1 → ∃ u : State, exec (.arrayCalibrationEnd a e) s = .next u ∧ u.arrayState a = 3 ∧
      u.getF F.srchStatus_arrayRetired = 1 ∧ u.mem = s.mem) ∧
    (∃ u : State, exec (.arrayTempStep a temp) s = .next u ∧ u.getF F.srchArray_temp a = temp % 1024 ∧ u.mem = s.mem ∧
      (let t := temp % 1024
       let cal := (s.srch.calAt.get a (0, 0)).2
       s.act F.srchCal_tempStep < max t cal - min t cal → u.srch.blocked.contains a = true))) ∧
  (∀ (w : Word) (n : Nat) (d : RegDesc) (c : Word → Instr) (s : State),
    (c, n) ∈ [(Instr.shardLoad, 1), (.shardUnload, 2), (.shardReplace, 3)] → regAt (F.srchShardCmd_op.off 0) = some d →
    d.clean (putBits w 8 3 n) →
    let u := s.cmdWritten d F.srchShardCmd_op 0 (putBits w 8 3 n)
    let i := fieldOf w 0 8
    u.getF F.srchShardCmd_slot = i ∧
    (n = 1 → (u.shardSlot i).isSome = true → exec (c w) s = .next (State.finish (u.setF F.srchShardCmd_code 0 Code.retry.num))) ∧
    (∀ code v, (n = 1 ∧ u.shardSlot i = none) ∨ n = 3 → u.shardInstall i (u.getF F.srchShardCmd_die) = (code, v) →
      exec (c w) s = .next (State.finish (v.setF F.srchShardCmd_code 0 code.num))) ∧
    (n = 2 → u.shardSlot i = none → exec (c w) s = .next (State.finish (u.setF F.srchShardCmd_code 0 Code.done.num))) ∧
    (∀ v, n = 2 → u.shardSlot i = some v → s.srch.parts.any (fun p => p.2.slot == i) = true →
      exec (c w) s = .next (State.finish (u.setF F.srchShardCmd_code 0 Code.retry.num))) ∧
    (∀ v, n = 2 → u.shardSlot i = some v → s.srch.parts.any (fun p => p.2.slot == i) = false →
      ∃ x, exec (c w) s = .next (State.finish x) ∧ x.srch.slots = s.srch.slots.del i ∧ x.mem = s.mem))

/-! ### Links -/

/-- The links' own states (R415 to R417, R422, R426, R449, R471): a port the ordering code does not fit is not there. Signal on 4 lanes
starts training; its steps follow each other, step 3 fixes the width, and the last leads to AUTH, or back to ACTIVE in the same
session; a step that does not end leads to DOWN. KEEPALIVE is entered from ACTIVE with nothing queued and left for ACTIVE. A port
without ENABLE is DISABLED; RETRAIN trains an active port again; REAUTH, and the threshold, announce the next key epoch. -/
def Obligations.LinksTrain : Prop :=
  (∀ (p n : Nat) (l : BitVec 8) (b : Bool) (v : Word) (ps : List Packet) (s : State), s.code.hasPort p = false →
    ∀ c ∈ [Instr.linkSignalDetect p n, .linkTrainStepDone p l b, .linkTrainTimeout p, .linkRetrain p, .linkReauth p,
      .lnkEnableWrite p v, .keepaliveEntry p, .keepaliveBurstTimer p, .keepaliveExit p, .ctrlFillTimer p, .rekeyThreshold p,
      .portDown p ps, .authFail p, .authTimeout p, .quarantineHoldoffExpiry p, .authDone p b],
      exec c s = .fault .noSuchUnit) ∧
  (∀ (p lanes : Nat) (s : State), s.code.hasPort p = true →
    (s.linkState p = 0 → s.getF F.lnkCtl_enable p = 1 → 4 ≤ lanes → ∃ u : State, exec (.linkSignalDetect p lanes) s = .next u ∧
      u.linkState p = 1 ∧ (u.port p).trainStep = 1 ∧ (u.port p).fromActive = false ∧ u.mem = s.mem ∧ u.out = s.out) ∧
    (s.linkState p ≠ 0 ∨ s.getF F.lnkCtl_enable p ≠ 1 ∨ lanes < 4 → exec (.linkSignalDetect p lanes) s = .next s)) ∧
  (∀ (p : Nat) (l : BitVec 8) (same : Bool) (s : State), s.code.hasPort p = true →
    (s.linkState p ≠ 1 → exec (.linkTrainStepDone p l same) s = .next s ∧ exec (.linkTrainTimeout p) s = .next s) ∧
    (s.linkState p = 1 → exec (.linkTrainTimeout p) s = .next (s.linkGone p 0) ∧
      ((s.port p).trainStep < 2 → exec (.linkTrainStepDone p l same) s =
        .next (s.setPort p { s.port p with trainStep := (s.port p).trainStep + 1 })) ∧
      ((s.port p).trainStep = 2 → trainedWidth l (s.getF F.lnkCtl_minWidth p == 1) = none →
        exec (.linkTrainStepDone p l same) s = .next (s.linkGone p 0)) ∧
      (∀ w, (s.port p).trainStep = 2 → trainedWidth l (s.getF F.lnkCtl_minWidth p == 1) = some w →
        ∃ u : State, exec (.linkTrainStepDone p l same) s = .next u ∧ u.getF F.lnkState_width p = w ∧ (u.port p).trainStep = 3 ∧
          u.linkState p = 1 ∧ (w = 4 → u.getF F.lnkStatus_widthDegraded p = 1)) ∧
      ((s.port p).trainStep = 3 → (s.port p).fromActive = false →
        ∃ u : State, exec (.linkTrainStepDone p l same) s = .next u ∧ u.linkState p = 2 ∧ u.getF F.lnkCtl_retrain p = 0 ∧
          u.out = (if s.weave.running.isNone then s.out else s.out ++ [.hello p (Config.nonce s.free)])) ∧
      ((s.port p).trainStep = 3 → (s.port p).fromActive = true → same = true → (s.port p).outq = [] →
        ∃ u : State, exec (.linkTrainStepDone p l same) s = .next u ∧ u.linkState p = 3 ∧ (u.port p).fromActive = false ∧
          (u.port p).txSeq = (s.port p).txSeq ∧ (u.port p).replay = (s.port p).replay ∧ u.out = s.out))) ∧
  (∀ (p : Nat) (l : BitVec 8), trainedWidth 255 true = some 8 ∧ trainedWidth 15 false = some 4 ∧ trainedWidth 240 false = some 4 ∧
    trainedWidth 15 true = none ∧ (trainedWidth l false = some p → p = 8 ∨ p = 4)) ∧
  (∀ (p : Nat) (s : State), s.code.hasPort p = true →
    (exec (.keepaliveEntry p) s = .next
      (if s.getF F.lnkCtl_keepaliveOk p = 1 ∧ (s.port p).outq = [] ∧ s.linkState p = 3 then s.setF F.lnkState_state p 4 else s)) ∧
    (exec (.keepaliveBurstTimer p) s = .next (if s.linkState p = 4 then s.sendCtrls p 16 else s)) ∧
    (exec (.ctrlFillTimer p) s = .next (if s.linkState p = 3 then s.sendCtrls p (8 - (s.port p).txFlits % 8) else s)) ∧
    (s.linkState p ≠ 4 → exec (.keepaliveExit p) s = .next s) ∧
    (s.linkState p = 4 → (s.port p).outq = [] → exec (.keepaliveExit p) s = .next (s.setF F.lnkState_state p 3)) ∧
    (s.linkState p = 6 → ∀ cut, exec (.portDown p cut) s = .next s) ∧
    (s.linkState p ≠ 6 → (s.port p).outq = [] → (s.port p).slices = [] → ∃ u : State, exec (.portDown p []) s = .next (State.finish u) ∧
      u.linkState p = 0 ∧ (u.port p).replay = [] ∧ (s.linkState p = 3 ∨ s.linkState p = 4 → u.getF F.lnkStatus_down p = 1) ∧
      u.mem = s.mem ∧ u.out = s.out)) ∧
  (∀ (p : Nat) (v : Word) (d : RegDesc) (s : State), s.code.hasPort p = true → regAt (F.lnkCtl_enable.off p) = some d → d.clean v →
    fieldOf v 3 2 = 0 →
    let w := s.setReg (F.lnkCtl_enable.off p) (d.written (s.reg (F.lnkCtl_enable.off p)) (v &&& 7#64))
    (fieldOf v 0 1 = 0 → s.linkState p ≠ 6 → exec (.lnkEnableWrite p v) s = .next (w.linkGone p 6)) ∧
    (fieldOf v 0 1 = 0 → s.linkState p = 6 → exec (.lnkEnableWrite p v) s = .next w) ∧
    (fieldOf v 0 1 = 1 → s.linkState p = 6 → exec (.lnkEnableWrite p v) s = .next (w.setF F.lnkState_state p 0)) ∧
    (fieldOf v 0 1 = 1 → s.linkState p ≠ 6 → exec (.lnkEnableWrite p v) s = .next w)) ∧
  (∀ (p : Nat) (s : State), s.code.hasPort p = true → s.linkState p = 3 ∨ s.linkState p = 4 →
    (s.getF F.lnkCtl_enable p = 1 →
      (∃ u : State, exec (.linkRetrain p) s = .next u ∧ u.linkState p = 1 ∧ (u.port p).trainStep = 1 ∧ (u.port p).fromActive = true ∧
        u.getF F.lnkCtl_retrain p = 1 ∧ u.out = s.out) ∧
      (s.getF F.lnkState_keyEpoch p < 32767 → ∃ u : State, exec (.linkReauth p) s = .next u ∧ u.getF F.lnkCtl_reauth p = 1 ∧
        (u.port p).rekeyTo = some (s.getF F.lnkState_keyEpoch p + 1) ∧ u.linkState p = s.linkState p ∧
        u.out = s.out ++ [.rekey p (s.getF F.lnkState_keyEpoch p + 1)])) ∧
    (s.getF F.lnkState_keyEpoch p < 32767 → ∃ u : State, exec (.rekeyThreshold p) s = .next u ∧
        (u.port p).rekeyTo = some (s.getF F.lnkState_keyEpoch p + 1) ∧ u.regs = s.regs ∧
        u.out = s.out ++ [.rekey p (s.getF F.lnkState_keyEpoch p + 1)])) ∧
  (∀ (p : Nat) (s : State), s.code.hasPort p = true → s.linkState p ≠ 3 → s.linkState p ≠ 4 → exec (.rekeyThreshold p) s = .next s)

/-- Flits and the handshake (R423 to R425, R428 to R433, R638 to R641): in AUTH and QUARANTINED flits are discarded with UNAUTH_DISCARD;
a checked one moves the receive number on, a failed one goes the way of R424; a CTRL's acknowledged frames leave the replay buffer.
HELLO, CERT, PROOF and DONE follow each other, each answered by the next; whatever fails its check, the partner's FAIL or the bound
ends the handshake with FAIL, its bit and QUARANTINED; the end of the hold-off begins a new one; at most 16 messages a second count. -/
def Obligations.FlitsAndHandshake : Prop :=
  (∀ (p : Nat) (k : FlitCheck) (a : BitVec 16) (nak : Bool) (cr : List Nat) (ps : List Packet) (x : Packet) (nonce share : BitVec 256)
    (c : CertFacts) (ok : Bool) (e : BitVec 15) (s : State), s.code.hasPort p = false →
    ∀ i ∈ [Instr.flitCtrl p k a nak cr, .flitData p k ps, .packetForward p x, .hello p nonce, .cert p c, .proof p ok share, .rekey p e],
      exec i s = .fault .noSuchUnit) ∧
  (∀ (p : Nat) (k : FlitCheck) (a : BitVec 16) (nak : Bool) (cr : List Nat) (ps : List Packet) (x : Packet) (s : State),
    s.code.hasPort p = true →
    (s.linkState p = 2 ∨ s.linkState p = 5 → ∃ u : State, exec (.flitCtrl p k a nak cr) s = .next u ∧
      exec (.flitData p k ps) s = .next u.finish ∧ u.getF F.lnkStatus_unauthDiscard p = 1 ∧ u.fab = s.fab ∧ u.mem = s.mem) ∧
    (s.portLive p = false → s.linkState p ≠ 2 → s.linkState p ≠ 5 → exec (.flitCtrl p k a nak cr) s = .next s ∧
      exec (.flitData p k ps) s = .next s.finish ∧ exec (.packetForward p x) s = .next s.finish) ∧
    (s.portLive p = true →
      exec (.packetForward p x) s = .next (State.finish (s.packetIn p x)) ∧
      (k = .crc → exec (.flitCtrl p k a nak cr) s = .next (s.flitFails p false)) ∧
      (k = .tag → exec (.flitData p k ps) s = .next (State.finish (s.flitFails p true))) ∧
      (k = .ok 0 → s.linkState p = 3 → (s.port p).outq = [] → s.pwr.asleep = [] →
        ∃ u : State, exec (.flitCtrl p k a false []) s = .next u ∧ (u.port p).rxSeq = ((s.port p).rxSeq + 1) % 65536 ∧
          (u.port p).credits = (s.port p).credits ∧ (u.port p).replay = (s.port p).replay.filter (fun f =>
            !decide ((a.toNat + 65536 - (f.seq + f.flits - 1) % 65536) % 65536 < 32768)) ∧ u.out = s.out) ∧
      (k = .ok 0 → ∃ u : State, exec (.flitData p k []) s = .next (State.finish u) ∧ (u.port p).rxSeq = ((s.port p).rxSeq + 1) % 65536 ∧
        (u.port p).naks = 0 ∧ u.out = s.out ∧ u.mem = s.mem))) ∧
  (∀ (p : Nat) (x : Packet) (s : State), p < 24 → x.stomp = true ∨ (x.stomp = false ∧ x.badForm = true) →
    ∃ u : State, s.packetIn p x = u ∧ u.out = s.out ∧ u.mem = s.mem ∧
      (x.stomp = true → u.getF F.lnkStatus_stompRx p = 1) ∧ (x.stomp = false → u.getF F.lnkStatus_malformedPkt p = 1)) ∧
  (∀ (p : Nat) (nonce share : BitVec 256) (c : CertFacts) (ok : Bool) (e : BitVec 15) (s : State), s.code.hasPort p = true →
    let q := s.port p
    let recent := q.authTimes.filter fun t => decide (s.stime.toNat < t.toNat + 1000000000)
    let v := s.setPort p { q with authTimes := recent ++ [s.stime] }
    (16 ≤ recent.length → ∀ i ∈ [Instr.hello p nonce, .cert p c, .proof p ok share, .authDone p ok, .authFail p, .rekey p e],
      exec i s = .next (s.setPort p { q with authTimes := recent })) ∧
    (recent.length < 16 → s.linkState p = 2 → q.hs.sentHello = false →
      ∀ i ∈ [Instr.hello p nonce, .cert p c, .proof p ok share, .authDone p ok, .authFail p, .rekey p e], exec i s = .next v) ∧
    (recent.length < 16 → s.linkState p = 3 ∨ s.linkState p = 4 → ∃ u : State, exec (.rekey p e) s = .next u ∧
      (u.port p).rxEpoch = e.toNat ∧ u.regs = s.regs ∧ u.out = s.out) ∧
    (recent.length < 16 → s.linkState p = 2 → q.hs.sentHello = true →
      (q.hs.nonce = none → ∃ u : State, exec (.hello p nonce) s = .next u ∧ (u.port p).hs = { q.hs with nonce := some nonce } ∧
        u.out = s.out ++ [.cert p] ∧ u.regs = s.regs) ∧
      (q.hs.nonce ≠ none → c.chainOk = true → c.revoked = false → ∃ u : State, exec (.cert p c) s = .next u ∧
        (u.port p).hs = { q.hs with cert := some c } ∧ (u.port p).ownShare = Config.nonce s.free ∧
        u.out = s.out ++ [.proof p (Config.nonce s.free)] ∧ u.linkState p = 2) ∧
      (q.hs.nonce = none ∨ c.chainOk = false ∨ c.revoked = true →
        exec (.cert p c) s = .next (State.handshakeFails (v.addF F.secPkCount_public 0 c.certs) p false true)) ∧
      (∀ d, q.hs.cert = some d → ok = true → q.namesPartner d = true → q.hs.doneIn = false →
        ∃ u : State, exec (.proof p ok share) s = .next u ∧ (u.port p).hs = { q.hs with share := some share, doneOut := true } ∧
          u.out = s.out ++ [.authDone p] ∧ u.linkState p = 2) ∧
      (∀ d, q.hs.cert = some d → ok = true → q.namesPartner d = false →
        exec (.proof p ok share) s = .next (State.handshakeFails
          (State.addF (v.addF F.secPkCount_public 0 1) F.secPkCount_private 0 1) p true true)) ∧
      (ok = true → q.hs.share ≠ none → q.hs.doneOut = false → ∃ u : State, exec (.authDone p ok) s = .next u ∧
        (u.port p).hs = { q.hs with doneIn := true } ∧ u.out = s.out ∧ u.linkState p = 2) ∧
      (ok = true → q.hs.share ≠ none → q.hs.doneOut = true → q.outq = [] → ∃ u : State, exec (.authDone p ok) s = .next u ∧
        u.linkState p = 3 ∧ (u.port p).hs = Handshake.fresh ∧ u.getF F.lnkState_keyEpoch p = 0 ∧
        (u.port p).credits = List.replicate 8 256 ∧ u.out = s.out) ∧
      (ok = false → exec (.authDone p ok) s = .next (v.handshakeFails p false true)) ∧
      exec (.authFail p) s = .next (v.handshakeFails p false false))) ∧
  (∀ (p : Nat) (s : State), s.code.hasPort p = true →
    ((s.port p).hs.sentHello = true → exec (.authTimeout p) s = .next (s.handshakeFails p false true)) ∧
    ((s.port p).hs.sentHello = false → exec (.authTimeout p) s = .next s) ∧
    (s.linkState p ≠ 5 → exec (.quarantineHoldoffExpiry p) s = .next s) ∧
    (s.linkState p = 5 → ∃ u : State, exec (.quarantineHoldoffExpiry p) s = .next u ∧ u.linkState p = 2 ∧
      u.out = (if s.weave.running.isNone then s.out else s.out ++ [.hello p (Config.nonce s.free)]))) ∧
  (∀ (p : Nat) (tell : Bool) (s : State), p < 24 → (s.port p).outq = [] → (s.port p).slices = [] →
    let u := s.handshakeFails p false tell
    u.linkState p = 5 ∧ u.getF F.lnkStatus_authFail p = 1 ∧ (u.port p).hs = Handshake.fresh ∧ u.mem = s.mem ∧
    u.out = (if tell then s.out ++ [.authFail p] else s.out))

/-- Flows and requests (R452 to R466): a packet of a flow that is the next expected is delivered, a late or double one is not; a REPLY
ends its request, one that no request waits for is counted; DELIVERED frees what every member has covered; a packet is sent again
with RESENT; a request past its bound ends DEAD and its target is unreachable until it answers a probe. -/
def Obligations.FlowsComplete : Prop :=
  (∀ (p : Packet) (s : State) (e : Instr × Packet),
    e ∈ [(Instr.load p, { p with kind := .load }), (.store p, { p with kind := .store }), (.atomic p, { p with kind := .atomic }),
      (.fence p, { p with kind := .fence })] →
    let n := (p.flowSeq.toNat + 65536 - (s.rxFlow p.flow).expected) % 65536
    (e.2.stomp = true ∨ e.2.badForm = true → exec e.1 s = .next (State.finish s.dropPacket)) ∧
    (e.2.stomp = false → e.2.badForm = false →
      (n = 0 → (s.rxFlow p.flow).held = [] →
        let u := (s.setRx (s.rxFlow p.flow).advance).deliver e.2
        exec e.1 s = .next (State.finish (if 64 ≤ (u.rxFlow p.flow).unreported then u.sendDelivered p.src else u))) ∧
      (n = 0 → e.1 = .fence p → p.work = none → (s.rxFlow p.flow).held = [] → (s.rxFlow p.flow).unreported < 63 →
        ∃ u : State, exec e.1 s = .next (State.finish u) ∧ u.fab.fencesIn = s.fab.fencesIn ++ [e.2] ∧ u.mem = s.mem ∧ u.out = s.out) ∧
      (0 < n → n ≤ 1023 → (s.rxFlow p.flow).held = [] → s.reseqUsed < 16384 → (s.rxFlow p.flow).unreported < 64 →
        ∃ u : State, exec e.1 s = .next (State.finish u) ∧ (u.rxFlow p.flow).held = [e.2] ∧
          (u.rxFlow p.flow).expected = (s.rxFlow p.flow).expected ∧ u.mem = s.mem ∧ u.out = s.out) ∧
      (32768 ≤ n → (s.rxFlow p.flow).unreported < 64 → ∃ u : State, exec e.1 s = .next (State.finish u) ∧
        (u.rxFlow p.flow).expected = (s.rxFlow p.flow).expected ∧ 0 < (u.rxFlow p.flow).unreported ∧ u.mem = s.mem ∧ u.out = s.out))) ∧
  (∀ (p : Packet) (s : State),
    ((∀ r ∈ s.fab.requests, r.tag ≠ p.tag) → exec (.reply p) s = .next (State.finish (s.addF F.lnkLateReplyCount_count 0 1)) ∧
      exec (.fenceDone p) s = .next s.finish) ∧
    (∀ r, s.fab.requests = [r] → r.tag = p.tag → r.waiting = [p.src] → r.answers = [] →
      (trackerRetry p = false → exec (.reply p) s = .next (State.finish
        ((s.onFab fun x => { x with requests := [] }).requestEnds r (joinAnswers [p.code]) (fieldOf p.addr 8 8) p.data))) ∧
      exec (.fenceDone p) s = .next (State.finish
        ((s.onFab fun x => { x with requests := [] }).requestEnds r (joinAnswers [.done]) 0 [])))) ∧
  (∀ (src : DevNo) (es : List (FlowId × BitVec 16)) (s : State), s.fab.blocked = [] →
    ∃ u : State, exec (.delivered src es) s = .next (State.finish u) ∧ u.out = s.out ∧ u.mem = s.mem ∧ u.regs = s.regs ∧
      (∀ r ∈ u.fab.replay, r.uncovered ≠ [] ∧
        ((es.any fun e => e.1 == r.flow && covers e.2.toNat r.seq) = true → src ∉ r.uncovered)) ∧
      (∀ r ∈ s.fab.replay, r.uncovered ≠ [] → (es.any fun e => e.1 == r.flow && covers e.2.toNat r.seq) = false → r ∈ u.fab.replay)) ∧
  (∀ (src : DevNo) (s : State), (∀ f ∈ s.fab.rx, f.flow.src = src → f.unreported = 0) → exec (.deliveredTimer src) s = .next s) ∧
  (∀ (src : DevNo) (f : RxFlow) (s : State), s.fab.rx = [f] → f.flow.src = src → f.unreported ≠ 0 →
    exec (.deliveredTimer src) s = .next ((s.onFab fun x => { x with rx := [{ f with unreported := 0 }] }).sendLoose
      { Packet.make .delivered 0 s.device src.toNat 0 with entries := [(f.flow, BitVec.ofNat 16 ((f.expected + 65535) % 65536))] })) ∧
  (∀ (f : FlowId) (q : BitVec 16) (s : State),
    (s.kept f q.toNat = none → exec (.resendTimer f q) s = .next s ∧ exec (.postedLostTimeout f q) s = .next s.finish) ∧
    (∀ r, s.kept f q.toNat = some r →
      (f.mcast = false → ∃ u : State, exec (.resendTimer f q) s = .next (u.out1 { r.packet with resent := true } r.lastPort) ∧
        u.mem = s.mem ∧ u.out = s.out) ∧
      (r.packet.answered = true → exec (.postedLostTimeout f q) s = .next s.finish) ∧
      (r.packet.answered = false → s.fab.blocked = [] → ∃ u : State, exec (.postedLostTimeout f q) s = .next (State.finish u) ∧
        u.getF F.swcStatus_postedLost = 1 ∧ u.kept f q.toNat = none ∧ u.out = s.out ∧ u.mem = s.mem))) ∧
  (∀ (tag : BitVec 16) (s : State),
    ((∀ r ∈ s.fab.requests, r.tag ≠ tag) → exec (.deadTimeout tag) s = .next s.finish) ∧
    (∀ r d, s.fab.requests = [r] → r.tag = tag → r.waiting = [d] → r.issuer = .other → s.fab.blocked = [] →
      ∃ u : State, exec (.deadTimeout tag) s = .next (State.finish u) ∧ u.fab.requests = [] ∧ u.kept r.flow r.seq = none ∧
        u.unreachable d = true ∧ u.getF F.swcStatus_reqDead = 1 ∧ u.getF F.swcStatus_unreachable = 1 ∧ u.mem = s.mem ∧ u.out = s.out)) ∧
  (∀ (d : DevNo) (s : State),
    (s.unreachable d = false → exec (.probeTimer d) s = .next s) ∧
    (s.unreachable d = true → ∃ (u : State) (x : Packet), exec (.probeTimer d) s = .next (u.sendLoose x) ∧ x.kind = .probe ∧
      x.target = d ∧ x.tag = s.fab.nextTag ∧ u.fab.requests.length = s.fab.requests.length + 1 ∧ u.mem = s.mem ∧ u.out = s.out) ∧
    (∃ u : State, exec (.probeReply d) s = .next u ∧ u.unreachable d = false ∧ (∀ e : DevNo, e ≠ d → u.unreachable e = s.unreachable e) ∧
      u.mem = s.mem ∧ u.out = s.out)) ∧
  (∀ (p : Packet) (f : FlowId) (n : BitVec 16) (s : State), p.entries = [(f, n)] → f.src = p.src →
    ∃ u : State, exec (.probe p) s = .next (u.sendLoose { Packet.make .probeReply 0 s.device p.src.toNat 0 with tag := p.tag }) ∧
      (u.rxFlow f).expected = n.toNat ∧ (u.rxFlow f).held = [] ∧ u.mem = s.mem ∧ u.out = s.out) ∧
  (∀ (d : DevNo) (tag : BitVec 16) (s : State), ∃ u : State, exec (.waking d tag) s = .next u ∧
    u = s.onFab (fun x => { x with requests := u.fab.requests }) ∧ u.fab.requests.map (·.tag) = s.fab.requests.map (·.tag) ∧
    (∀ r ∈ u.fab.requests, r.tag = tag → r.woken = true) ∧ (∀ r ∈ s.fab.requests, r.tag = tag → r.woken = true → r ∈ u.fab.requests))

/-! ### The host port -/

/-- Host accesses, recalls and home operations (R492 to R497, R502 to R507, R513, R516): an access that no ACTIVE binding names, or
before the IDE streams, is poison or a discard and counted; outside the binding's extents it ends ABSENT; what the translation
refuses ends with its code. A write-back from one that does not own the line is DENIED. A recall becomes a back-invalidation, its
answer goes to the home that asked, and a recall past its bound drops the holder. A home-operation line takes a request only when
idle and answers with its code. -/
def Obligations.HostAccessesComplete : Prop :=
  (∀ (b : Nat) (dpa : BitVec 57) (ask : CopyAsk) (ue : Bool) (data : Line) (m : Mask) (s : State), b < 32 →
    (s.bindActive b = false ∨ s.ideOk = false →
      (∃ u : State, exec (.hostRead b dpa ask ue) s = .next (State.finish u) ∧ u.out = s.out ++ [.host b dpa.toNat true [lineOnes]] ∧
        u.getF F.hptStatus_hostErr = 1 ∧ u.mem = s.mem) ∧
      (∃ u : State, exec (.hostWrite b dpa data m) s = .next (State.finish u) ∧ u.out = s.out ++ [.host b dpa.toNat true []] ∧
        u.getF F.hptStatus_hostErr = 1 ∧ u.mem = s.mem)) ∧
    (s.bindActive b = true → s.ideOk = true → 0x400000000 ≤ dpa.toNat →
      let a := dpa.toNat - 0x400000000
      let t := s.bindTenant b
      (s.dcHolds b a = false → exec (.hostRead b dpa ask ue) s = .next (State.finish (s.hostEnd b dpa.toNat .absent [lineOnes])) ∧
        exec (.hostWrite b dpa data m) s = .next (State.finish (s.hostEnd b dpa.toNat .absent []))) ∧
      (∀ code, s.dcHolds b a = true → s.lookup t a .load false = .fails code →
        exec (.hostRead b dpa ask false) s = .next (State.finish (s.hostEnd b dpa.toNat code [lineOnes]))) ∧
      (∀ code, s.dcHolds b a = true → s.lookup t a .store false = .fails code →
        exec (.hostWrite b dpa data m) s = .next (State.finish (s.hostEnd b dpa.toNat code []))) ∧
      (∀ sa k, s.dcHolds b a = true → s.lookup t a .store false = .stand sa k → s.servesOwn sa = true →
        ∃ u : State, u = s.onXlt (fun x => { x with hostCache := u.xlt.hostCache }) ∧
          exec (.hostWrite b dpa data m) s = .next (State.finish (u.homeAccess
            { who := .host b dpa.toNat .none, tenant := t, off := saOffset sa, kind := .store [data] m, resv := u.kvResv t a })))) ∧
    (s.bindActive b = true → s.ideOk = true → 0x40000 ≤ dpa.toNat → dpa.toNat < 0x50000 →
      exec (.hostRead b dpa ask ue) s = .next (State.finish
        (s.hostEnd b dpa.toNat .done [(s.homeOpLine b ((dpa.toNat - 0x40000) / 64)).data])))) ∧
  (∀ (b : Nat) (sa : Word) (data : Line) (s : State),
    (s.bindActive b = false ∨ s.ideOk = false → exec (.hostWriteback b sa data) s = .next s.finish) ∧
    (s.bindActive b = true → s.ideOk = true → s.homedHere sa = true → (s.dirAt (saOffset sa / 64)).owned = false →
      exec (.hostWriteback b sa data) s = .next (State.finish (s.bindError b .denied))) ∧
    (s.bindActive b = true → s.ideOk = true → s.homedHere sa = true → (s.dirAt (saOffset sa / 64)).owned = true →
      ((s.dirAt (saOffset sa / 64)).holders.any fun g => g.holder == ⟨s.device, b⟩) = true →
      exec (.hostWriteback b sa data) s = .next (State.finish
        ((s.applyDirty (64 * (saOffset sa / 64)) data).removeHolder (saOffset sa / 64) ⟨s.device, b⟩)))) ∧
  (∀ (l : Nat) (h : Holder) (s : State),
    (((s.dirAt l).holders.any fun g => g.holder == h && !g.recalling) = false ∨ s.recallWanted l h = false →
      exec (.recallStart l h) s = .next s) ∧
    (((s.dirAt l).holders.any fun g => g.holder == h && !g.recalling) = true → s.recallWanted l h = true → h.dev = s.device →
      ∃ u : State, exec (.recallStart l h) s = .next u ∧ u.out = s.out ++ [.biSnpInv h.binding (saStore s.device (64 * l)) none] ∧
        (∀ g ∈ (u.dirAt l).holders, g.holder = h → g.recalling = true) ∧ (u.dirAt l).owned = (s.dirAt l).owned ∧ u.mem = s.mem) ∧
    (((s.dirAt l).holders.any fun g => g.holder == h && g.recalling) = false → exec (.recallTimeout l h) s = .next s.finish) ∧
    (((s.dirAt l).holders.any fun g => g.holder == h && g.recalling) = true → h.dev ≠ s.device →
      ∃ u : State, exec (.recallTimeout l h) s = .next (State.finish (u.sendMsg h.dev 0 0 (.fenced h))) ∧
        (∀ g ∈ (u.dirAt l).holders, g.holder ≠ h) ∧ u.getF F.hptStatus_recallTimeout = 1 ∧ u.mem = s.mem ∧ u.out = s.out)) ∧
  (∀ (home : DevNo) (b : Nat) (sa : Word) (dirty : Option Line) (s : State),
    (exec (.recall home b sa none) s = .next (State.finish
      ((s.onHpt fun p => { p with snoops := p.snoops ++ [(home, b, sa)] }).emit (.biSnpInv b sa none)))) ∧
    ((∀ x ∈ s.hpt.snoops, x.2.1 ≠ b ∨ x.2.2 ≠ sa) → exec (.birspi b sa dirty) s = .next s.finish) ∧
    (∀ d, s.hpt.snoops = [(d, b, sa)] → d ≠ s.device → exec (.birspi b sa dirty) s = .next (State.finish
      ((s.onHpt fun p => { p with snoops := [] }).sendMsg d 0 0 (.recallAck ⟨s.device, b⟩ sa dirty)))) ∧
    (∀ h : Holder, s.homedHere sa = true → exec (.recallAck h sa dirty) s = .next (State.finish (s.holderGone h sa dirty)) ∧
      (((s.dirAt (saOffset sa / 64)).holders.any fun g => g.holder == h) = false → s.holderGone h sa dirty = s) ∧
      (((s.dirAt (saOffset sa / 64)).holders.any fun g => g.holder == h) = true → dirty = none →
        s.holderGone h sa dirty = s.removeHolder (saOffset sa / 64) h ∧
        (∀ g ∈ ((s.removeHolder (saOffset sa / 64) h).dirAt (saOffset sa / 64)).holders, g.holder ≠ h)))) ∧
  (∀ (h : Holder) (s : State),
    (h.dev = s.device → s.bindActive h.binding = false → exec (.fenced h) s = .next s.finish) ∧
    (h.dev ≠ s.device → exec (.fenced h) s = .next (State.finish (s.dropHolder h))) ∧
    (h.dev = s.device → h.binding < 32 → s.bindActive h.binding = true → s.otherDevices = [] → s.hpt.dir = [] →
      ∃ u : State, exec (.fenced h) s = .next (State.finish u) ∧ u.getF F.hptBind_state h.binding = 2 ∧
        u.getF F.hptStatus_fenced = 1 ∧ (∀ x ∈ u.hpt.snoops, x.2.1 ≠ h.binding) ∧ u.mem = s.mem)) ∧
  (∀ (d : DevNo) (m : Bool) (r : CohReq) (s : State),
    (s.requester r = (d, m) → s.tracked true (d, m) < 2 →
      exec (.coherentResend d m r) s = .next (State.finish (s.homeAccess { r with reserved := true }))) ∧
    (s.requester r ≠ (d, m) ∨ 2 ≤ s.tracked true (d, m) → exec (.coherentResend d m r) s = .next s)) ∧
  (∀ (b l : Nat) (req : Line) (s : State) (i : Instr),
    i ∈ [Instr.homeopAtom b l req, .openView b l req, .closeView b l req, .publish b l req] →
    (s.bindActive b = false ∨ s.ideOk = false → exec i s = .next s.finish) ∧
    (s.bindActive b = true → s.ideOk = true → (s.homeOpLine b l).busy = true → ∃ u : State, exec i s = .next (State.finish u) ∧
      u.homeOpLine b l = { s.homeOpLine b l with discards := min ((s.homeOpLine b l).discards + 1) 255 } ∧
      u.getF F.hptStatus_discard = 1 ∧ u.mem = s.mem) ∧
    (s.bindActive b = true → s.ideOk = true → (s.homeOpLine b l).busy = false →
      let v := s.setHomeOpLine b l { s.homeOpLine b l with
        request := req, busy := true, discards := 0, seq := (s.homeOpLine b l).seq + 1 }
      (∀ code detail, (s.mode = .crust ∧ code = Code.crust ∧ detail = 0) ∨
        (s.mode ≠ .crust ∧ homeopCheck req = some detail ∧ code = Code.malformed) ∨
        (s.mode ≠ .crust ∧ homeopCheck req = none ∧ detail = 0 ∧
          s.lookup (s.bindTenant b) (dfield req 8 0 56) (if lineOpc req = 1 then .atom else .load) false = .fails code) →
        exec i s = .next (State.finish (v.homeopEnd b l code detail none))) ∧
      (∀ sa k, s.mode ≠ .crust → homeopCheck req = none → lineOpc req = 1 →
        s.lookup (s.bindTenant b) (dfield req 8 0 56) .atom false = .stand sa k → s.servesOwn sa = true →
        exec i s = .next (State.finish (v.homeAccess
          { who := .homeop b l, tenant := s.bindTenant b, off := saOffset sa,
            kind := .atom (dfield req 0 8 2) (BitVec.ofNat 64 (dfield req 0x10 0 64)) (BitVec.ofNat 64 (dfield req 0x18 0 64)),
            resv := v.kvResv (s.bindTenant b) (dfield req 8 0 56) }))) ∧
      (∀ sa k, s.mode ≠ .crust → homeopCheck req = none → lineOpc req = 2 ∨ lineOpc req = 3 →
        s.lookup (s.bindTenant b) (dfield req 8 0 56) .load false = .stand sa k → BitVec.ofNat 9 (saDevice sa) = s.device →
        exec i s = .next (State.finish (v.runHomeop
          { src := s.device, tenant := s.bindTenant b, binding := b, line := l, sa := sa, staging := 0, req := req,
            stagingCode := .done }))))) ∧
  (∀ (b l : Nat) (code : Code) (detail : BitVec 8) (w : Word) (s : State),
    ((s.homeOpLine b l).busy = false → exec (.homeopReply b l code detail (some w)) s = .next s) ∧
    ((s.homeOpLine b l).busy = true → ∃ u : State, exec (.homeopReply b l code detail (some w)) s = .next (State.finish u) ∧
      u.homeOpLine b l = { s.homeOpLine b l with
        status := s.statusWord (s.bindTenant b) code detail.toNat, result := w, busy := false } ∧
      (∀ r ∈ u.fab.requests, r.issuer ≠ .homeop b l) ∧
      u = { s with hpt := u.hpt, fab := { s.fab with requests := u.fab.requests } })) ∧
  (∀ (d : DevNo) (t : Tenant) (b l : Nat) (sa stg : Word) (req : Line) (sc : Code) (s : State),
    let q : HomeReq := { src := d, tenant := t, binding := b, line := l, sa := sa, staging := stg, req := req, stagingCode := sc }
    (s.mode = .crust → exec (.homeop d t b l sa stg req sc) s = .next (State.finish (s.sendHomeReply (q.reply .crust 0 none)))) ∧
    (s.mode ≠ .crust → s.hpt.commons = [] →
      exec (.homeop d t b l sa stg req sc) s = .next (State.finish (s.sendHomeReply (q.reply .absent 1 none)))) ∧
    (∀ n c, s.mode ≠ .crust → s.hpt.commons = [(n, c)] → c.firstBlock ≤ saOffset sa / blockBytes →
      saOffset sa / blockBytes < c.firstBlock + c.blocks →
      (t ≠ 0 → c.right t = .none →
        exec (.homeop d t b l sa stg req sc) s = .next (State.finish (s.sendHomeReply (q.reply .denied 1 none)))) ∧
      (t = 0 ∨ c.right t ≠ .none →
        (lineOpc req = 2 → dfield req 0x10 0 64 = 0 → c.live c.latest = true → c.views = [] →
          exec (.homeop d t b l sa stg req sc) s = .next (State.finish (s.setView n c q (some c.latest)))) ∧
        (lineOpc req = 3 → exec (.homeop d t b l sa stg req sc) s = .next (State.finish (s.setView n c q none))) ∧
        (lineOpc req = 4 → c.right t ≠ .publish →
          exec (.homeop d t b l sa stg req sc) s = .next (State.finish (s.sendHomeReply (q.reply .denied 1 none)))))))

/-- The commands of HPT_CMD and what ends them (R486, R487, R503, R508 to R512, R520, R528 to R532): a write while one runs is ignored;
bad arguments end MALFORMED; BIND makes an unbound binding ACTIVE with its tenant; UNBIND answers RETRY while the binding has an
extent or a copy and unbinds it otherwise; UNFENCE makes a FENCED one ACTIVE; the Dynamic Capacity commands ask the host, and its
answer, its release or the grace ends them; the commons commands run as their tables say. -/
def Obligations.HostCommandsComplete : Prop :=
  (∀ (c : Word → Instr) (n : Nat) (w : Word) (d : RegDesc) (s : State),
    (c, n) ∈ [(Instr.bind, 1), (.unbind, 2), (.unfence, 3), (.dcAdd, 4), (.dcWithdraw, 5), (.comCreate, 6), (.comGrant, 7),
      (.comDestroy, 8)] →
    (s.getF F.hptCmd_busy = 1 → exec (c w) s = .next s.finish) ∧
    (s.cmdReady d F.hptCmd_op F.hptCmd_busy 0 (putBits w 0 4 n) →
      let v := s.cmdTaken d F.hptCmd_op F.hptCmd_busy 0 (putBits w 0 4 n)
      (v.hptArgsOk n = false → exec (c w) s = .next (State.finish (v.hptEnd Code.malformed.num))) ∧
      (v.hptArgsOk n = true → exec (c w) s = .next (State.finish (match n with
        | 1 => v.hptBindRun
        | 2 => v.hptUnbindRun
        | 3 => v.hptUnfenceRun
        | 4 => v.hptDcAddRun
        | 5 => v.hptDcWithdrawRun
        | 6 => v.hptComCreateRun
        | 7 => v.hptComGrantRun
        | _ => v.hptComDestroyRun))))) ∧
  (∀ s : State, let b := fieldOf s.hptArg0 0 5
    (s.getF F.hptBind_state b = 0 → fieldOf s.hptArg0 5 8 ≠ 0 →
      s.hptBindRun.getF F.hptBind_state b = 1 ∧ s.hptBindRun.getF F.hptBind_tenant b = fieldOf s.hptArg0 5 8 ∧
      s.hptBindRun.getF F.hptBind_pbrId b = fieldOf s.hptArg0 13 12 ∧ s.hptBindRun.getF F.hptCmd_busy = 0 ∧
      s.hptBindRun.getF F.hptResult_code = 0 ∧ s.hptBindRun = { s with regs := s.hptBindRun.regs }) ∧
    (s.getF F.hptBind_state b = 0 → fieldOf s.hptArg0 5 8 = 0 → s.getF F.hptBind_mgmtOk b = 0 →
      s.hptBindRun = s.hptEnd Code.denied.num) ∧
    (s.hpt.extents = [] → s.hpt.dir = [] → s.hptUnbindRun.getF F.hptBind_state b = 0 ∧ s.hptUnbindRun.getF F.hptResult_code = 0 ∧
      s.hptUnbindRun = { s with regs := s.hptUnbindRun.regs }) ∧
    ((s.hpt.extents.any fun e => e.binding == b) = true → s.hptUnbindRun = s.hptEnd Code.retry.num) ∧
    (s.getF F.hptBind_state b = 2 → s.hptUnfenceRun.getF F.hptBind_state b = 1 ∧ s.hptUnfenceRun.getF F.hptResult_code = 0)) ∧
  (∀ s : State, let e := s.argExtent
    (s.bindActive e.binding = false ∨ s.hptArg1.toNat < 0x400000000 ∨ e.blocks = 0 ∨ e.addr % granuleBytes ≠ 0 →
      s.hptDcAddRun = s.hptEnd Code.malformed.num) ∧
    (s.hptArg1.toNat < 0x400000000 ∨ s.hpt.extents.contains e = false → s.hptDcWithdrawRun = s.hptEnd Code.absent.num) ∧
    (0x400000000 ≤ s.hptArg1.toNat → s.hpt.extents.contains e = true → s.hpt.dcOps = [] →
      s.hptDcWithdrawRun.out = s.out ++ [.dcEvent e.binding true s.hptArg1.toNat e.blocks] ∧
      s.hptDcWithdrawRun.hpt.extents = s.hpt.extents ∧ s.hptDcWithdrawRun.regs = s.regs)) ∧
  (∀ (c : Commons) (s : State), s.commonsAt (fieldOf s.hptArg0 0 6) = some c →
    (fieldOf s.hptArg0 14 2 = 1 → BitVec.ofNat 8 (fieldOf s.hptArg0 6 8) ≠ c.owner → (c.rights.filter fun r => r.1 != BitVec.ofNat 8 (fieldOf s.hptArg0 6 8)).length < 16 →
      ∃ x, s.hptComGrantRun.commonsAt (fieldOf s.hptArg0 0 6) = some x ∧ x.right (BitVec.ofNat 8 (fieldOf s.hptArg0 6 8)) = .read ∧
        x.versions = c.versions ∧ x.views = c.views ∧ s.hptComGrantRun.getF F.hptResult_code = 0) ∧
    ((c.views.any fun v => v.2.2 != c.latest) = true → s.hptComDestroyRun = s.hptEnd Code.retry.num) ∧
    ((c.views.any fun v => v.2.2 != c.latest) = false →
      s.hptComDestroyRun.commonsAt (fieldOf s.hptArg0 0 6) = none ∧ s.hptComDestroyRun.getF F.hptResult_code = 0 ∧
      s.hptComDestroyRun.mem = s.mem)) ∧
  (∀ (accept : Bool) (s : State),
    (s.hpt.dcOps = [] → exec (.dcHostResponse accept) s = .next s.finish ∧ exec .dcGraceExpiry s = .next s.finish) ∧
    (∀ o, s.hpt.dcOps = [o] → o.phase = .adding → o.ext.binding < 32 → s.getF F.hptBind_extents o.ext.binding < 4096 →
      (∃ u : State, exec (.dcHostResponse true) s = .next (State.finish u) ∧ u.hpt.extents = s.hpt.extents ++ [o.ext] ∧ u.hpt.dcOps = [] ∧
        u.getF F.hptBind_extents o.ext.binding = s.getF F.hptBind_extents o.ext.binding + 1 ∧ u.getF F.hptCmd_busy = 0 ∧
        u.getF F.hptResult_code = 0 ∧ u.mem = s.mem) ∧
      (∃ u : State, exec (.dcHostResponse false) s = .next (State.finish u) ∧ u.hpt.extents = s.hpt.extents ∧ u.hpt.dcOps = [] ∧
        u.getF F.hptResult_code = Code.denied.num ∧ u.mem = s.mem) ∧
      (∃ u : State, exec .dcGraceExpiry s = .next (State.finish u) ∧ u.hpt.dcOps = [] ∧ u.hpt.extents = s.hpt.extents ∧
        u.getF F.hptResult_code = Code.dead.num)) ∧
    (∀ o, s.hpt.dcOps = [o] → o.phase = .releasing → o.command = true →
      ∃ u : State, exec .dcGraceExpiry s = .next (State.finish (u.dcDrain { o with forced := true })) ∧
        u.hpt.dcOps = [{ o with forced := true }] ∧ u.getF F.hptStatus_dcForced = 1 ∧ u.mem = s.mem)) ∧
  (∀ (b : Nat) (dpa : BitVec 57) (s : State),
    (s.hpt.extents = [] → exec (.dcHostRelease b dpa) s = .next s.finish) ∧
    (∀ e, s.hpt.extents = [e] → e.binding = b → e.addr + 0x400000000 = dpa.toNat →
      (s.hpt.dcOps = [] → ∃ (u : State) (o : DcOp), exec (.dcHostRelease b dpa) s = .next (State.finish (u.dcDrain o)) ∧ o.ext = e ∧
        o.command = false ∧ u = s.onHpt (fun h => { h with dcOps := [o] })) ∧
      (∀ o, s.hpt.dcOps = [o] → o.ext = e → o.phase = .releasing →
        exec (.dcHostRelease b dpa) s = .next (State.finish (s.dcDrain o))))) ∧
  (∀ (b d r : Nat) (bi : Bool) (s : State), ∃ u : State, exec (.decoderCommit b d r bi) s = .next u ∧ u.out = s.out ++ [.decoder b d bi] ∧
    (bi = true → (b, d, r) ∈ u.hpt.decoders) ∧ (bi = false → u.hpt = s.hpt) ∧ u.regs = s.regs ∧ u.mem = s.mem) ∧
  (∀ (n : Nat) (i : IdeStream) (k : BitVec 256) (s : State),
    ((s.sec.sessions.any fun x => x.id == n && x.transport == .cxl && x.finished) = true →
      ∃ u : State, exec (.ideKm n i k) s = .next u ∧ (i, k, n) ∈ u.sec.ide ∧ u.getF (ideField i) = 1 ∧
        (∀ e ∈ s.sec.ide, e.1 ≠ i → e ∈ u.sec.ide) ∧ u.mem = s.mem) ∧
    ((s.sec.sessions.any fun x => x.id == n && x.transport == .cxl && x.finished) = false → exec (.ideKm n i k) s = .next s) ∧
    (∃ u : State, exec (.ideFail i) s = .next u ∧ u.getF F.hptStatus_ideFail = 1 ∧ u.mem = s.mem ∧ u.out = s.out ∧ u.sec = s.sec))

/-! ### The Thallus map and recovery -/

/-- The map at keepers and devices (R533 to R540, R549, R550): beats are sent to the keepers and answered by them, unless a FAIL has
named the device; a device that fewer than two keepers answer enters QUARANTINE; a keeper stores a proposal that its proposer may
make and tells the others, and discards one with an older epoch; two keepers commit a verdict; a record that arrives replaces the
one known, unless its epoch is older. -/
def Obligations.MapCommandsComplete : Prop :=
  (∀ s : State, (s.mode = .sleep → exec .beatTimer s = .next s) ∧
    (s.mode ≠ .sleep → exec .beatTimer s = .next
      (State.forwardBeat (s.keepers.foldl (fun u k => u.sendMsg k 0 0 (.beat s.device)) s)))) ∧
  (∀ (src d : DevNo) (s : State),
    (s.isKeeper = false ∨ (s.map.failedNamed.any fun e => e.1 == d) = true → exec (.beat src d) s = .next s) ∧
    (s.isKeeper = true → (s.map.failedNamed.any fun e => e.1 == d) = false →
      ∃ u : State, exec (.beat src d) s = .next (u.sendMsg src 0 0 .beatAck) ∧ lastSeen u.map.heard d = s.stime.toNat ∧
        (∀ e, e ≠ d → lastSeen u.map.heard e = lastSeen s.map.heard e) ∧ u = s.onMap fun m => { m with heard := u.map.heard }) ∧
    (s.keepers.contains d = false → exec (.beatAck d) s = .next s) ∧
    (s.keepers.contains d = true → ∃ u : State, exec (.beatAck d) s = .next u ∧ lastSeen u.map.acks d = s.stime.toNat ∧
      u = s.onMap fun m => { m with acks := u.map.acks })) ∧
  (∀ s : State, let near := s.keepers.filter fun k => decide (s.stime.toNat < lastSeen s.map.acks k + s.isolateNs)
    (2 ≤ near.length → exec .isolateTimeout s = .next s.finish) ∧
    (near.length < 2 → s.mode = .service ∨ s.mode = .rest ∨ s.mode = .repair ∨ s.mode = .crust →
      ∃ u : State, exec .isolateTimeout s = .next (State.finish u) ∧ u.mode = .quarantine ∧ u.map.isolated = true ∧
        u.getF F.mapStatus_isolated = 1 ∧ u.svc.records = [] ∧ (∀ e ∈ u.sched.runs, e.2.failed = true))) ∧
  (∀ (d : DevNo) (s : State),
    (s.isKeeper = false ∨ d = s.device ∨ devRing d ≠ devRing s.device ∨ s.fateOf d ≠ none →
      exec (.voteTimer d) s = .next s.finish) ∧
    (s.isKeeper = true → d ≠ s.device → s.pwr.asleep.contains d = false → devRing d = devRing s.device → s.fateOf d = none →
      lastSeen s.map.heard d + s.isolateNs + 100000 ≤ s.stime.toNat →
      let r := fateRec d (ringDev d (devX d + 1)) 1 0 false
      exec (.voteTimer d) s = .next (State.finish (State.settleVerdict (State.noteStored
        ((s.keepers.filter (· != s.device)).foldl (fun u k => u.sendMsg k 0 0 (.vote r)) s) s.device opFate s.device r) r)))) ∧
  (∀ (src : DevNo) (r : MapRec) (s : State) (e : Instr × Nat),
    e ∈ [(Instr.proposeCreate src r, opCreate), (.proposeOffer src r, opOffer), (.proposeAccept src r, opAccept),
      (.proposeWithdraw src r, opWithdraw), (.proposeSeize src r, opSeize), (.proposeReturn src r, opReturn)] →
    (s.isKeeper = false → exec e.1 s = .next s) ∧
    (s.isKeeper = true → e.2 ≠ opCreate → r.epoch < (s.current r).epoch →
      ∃ u : State, exec e.1 s = .next u ∧ u.getF F.mapStatus_epochDiscard = 1 ∧ u.map = s.map ∧ u.out = s.out) ∧
    (s.isKeeper = true → e.2 = opCreate ∨ ¬ r.epoch < (s.current r).epoch → s.outcome e.2 src r = none → exec e.1 s = .next s) ∧
    (∀ n, s.isKeeper = true → e.2 = opCreate ∨ ¬ r.epoch < (s.current r).epoch → s.outcome e.2 src r = some n → s.map.proposals = [] →
      ∃ u : State, exec e.1 s = .next (State.settleVerdict
          ((s.keepers.filter (· != s.device)).foldl (fun x k => x.sendMsg k 0 0 (.stored n)) u) n) ∧
        u.map.proposals = [{ op := e.2, src := src, rec_ := n, stored := [s.device], wale := s.wale }] ∧
        u = s.onMap fun m => { m with proposals := u.map.proposals })) ∧
  (∀ (src : DevNo) (r n : MapRec) (s : State),
    (s.outcome opAccept src r = some n → (s.current r).state = 1 ∧ (s.current r).taker = src ∧ n.holder = src ∧ n.state = 0 ∧
      n.epoch = (s.current r).epoch + 1) ∧
    (s.outcome opOffer src r = some n → (s.current r).state = 0 ∧ (s.current r).holder = src ∧ n.state = 1 ∧ n.taker = r.taker ∧
      n.epoch = (s.current r).epoch ∧ devRing r.taker = devRing src) ∧
    (s.outcome opWithdraw src r = some n → (s.current r).state = 1 ∧ (s.current r).holder = src ∧ n.state = 0 ∧
      n.epoch = (s.current r).epoch) ∧
    (s.outcome opSeize src r = some n → s.fateOf (s.current r).holder ≠ none ∧ n.holder = src ∧
      n.epoch = (s.current r).epoch + 1)) ∧
  (∀ (src : DevNo) (r : MapRec) (s : State),
    (s.isKeeper = false → exec (.proposeFate src r) s = .next s.finish) ∧
    (s.isKeeper = true → r.kind = 1 → r.state = 1 → src ≠ r.holder → ∃ u : State, exec (.proposeFate src r) s = .next (State.finish u) ∧
      lastSeen u.map.failedNamed r.holder = s.stime.toNat ∧ u = s.onMap fun m => { m with failedNamed := u.map.failedNamed }) ∧
    (s.isKeeper = false ∨ s.keepers.contains src = false →
      exec (.vote src r) s = .next s.finish ∧ exec (.stored src r) s = .next s.finish) ∧
    (s.isKeeper = true → s.keepers.contains src = true →
      exec (.vote src r) s = .next (State.finish ((s.noteStored src 7 r.holder r).settleVerdict r)) ∧
      exec (.stored src r) s = .next (State.finish ((s.noteStored src 0 r.holder r).settleVerdict r)))) ∧
  (∀ (r : MapRec) (p : Proposal) (s : State), s.map.proposals.find? (fun q => q.rec_ == r) = some p →
    (r.verdict = false ∨ s.twoKeepers p = false → s.settleVerdict r = s) ∧
    (r.verdict = true → s.twoKeepers p = true → s.settleVerdict r = s.commitRec p)) ∧
  (∀ s : State,
    (s.map.newKeeper = none ∨ s.map.copying = false → exec .keeperCopyComplete s = .next s) ∧
    (∀ i d, s.map.newKeeper = some (i, d) → s.map.copying = true → ∃ u : State,
      exec .keeperCopyComplete s = .next (State.noteStored (u.propose opFate (MapRec.blank 5 d d (BitVec.ofNat 64 i))) s.device opFate
        s.device (MapRec.blank 5 d d (BitVec.ofNat 64 i))) ∧ u = s.onMap (fun m => { m with copying := false, newKeeper := none })) ∧
    (s.map.failover = none → exec .failoverReplayStart s = .next s.finish) ∧
    (∀ f, s.map.failover = some f → f.adopter = false →
      exec .failoverReplayStart s = .next (State.finish (s.onMap fun m => { m with failover := none }))) ∧
    (∀ f w, s.map.failover = some f → f.adopter = true → s.weave.running = some w →
      ∃ u : State, exec .failoverReplayStart s = .next (State.finish u) ∧ u.map.failover = none ∧ u.mem = s.mem ∧ u.regs = s.regs ∧
        (∀ t ∈ w.predTracks, t.track ∈ maskTracks f.tracks → u.sched.tracks.any (fun e => e.1 == 16 + t.track) = true))) ∧
  (∀ (r : MapRec) (s : State),
    exec (.notice r) s = .next (State.finish (s.takeRecord r)) ∧ exec (.answer (some r)) s = .next (State.finish (s.takeRecord r)) ∧
    (∀ o, s.recOf r = some o → r.epoch < o.epoch → (s.takeRecord r).getF F.mapStatus_epochDiscard = 1 ∧
      (s.takeRecord r).map.records = s.map.records ∧ (s.takeRecord r).out = s.out) ∧
    (s.recOf r = none → (r.kind = 2 ∨ r.kind = 3 ∨ r.kind = 4) → r.state = 1 → r.holder ≠ s.device → r.taker ≠ s.device →
      s.map.adopted = none → s.takeRecord r = (s.putRec r).resolved r) ∧
    (s.putRec r).recOf r = some r ∧ (∀ x ∈ s.map.records, r.same x = false → x ∈ (s.putRec r).map.records)) ∧
  (∀ (src : DevNo) (k : BitVec 8) (key : Word) (s : State),
    (s.isKeeper = false → exec (.mapQuery src k key) s = .next s) ∧
    (s.isKeeper = true → exec (.mapQuery src k key) s = .next (s.sendMsg src 0 0
      (.mapAnswer (s.map.records.find? fun r => r.kind == k.toNat && r.key == key))))) ∧
  (∀ s : State, s.map.cmd = none → 2 ≤ s.map.awaiting.length →
    exec (.answer none) s = .next (State.finish (s.onMap fun m => { m with awaiting := m.awaiting.drop 1 })))

/-- Handover, mirrors, rehearsal, MAP commands and repair (R540 to R548, R558 to R564, R571, R572, R575). -/
def Obligations.RecoveryComplete : Prop :=
  (∀ (k : BitVec 8) (key : Word) (s : State),
    (s.leaseOf k key = none → exec (.offerExpiry k key) s = .next s ∧ exec (.handoverStateComplete k key) s = .next s) ∧
    (∀ r, s.leaseOf k key = some r →
      (s.isKeeper = false ∨ r.state ≠ 1 ∨ s.wale.toNat < r.commitWale.toNat + s.act F.mapOfferWales_wales →
        exec (.offerExpiry k key) s = .next s) ∧
      (s.isKeeper = true → r.state = 1 → r.commitWale.toNat + s.act F.mapOfferWales_wales ≤ s.wale.toNat → s.map.proposals = [] →
        ∃ u : State, exec (.offerExpiry k key) s = .next ((s.keepers.filter (· != s.device)).foldl
            (fun x d => x.sendMsg d 0 0 (.stored { r with state := 0, taker := 0 })) u) ∧
          u.getF F.mapStatus_offerExpired = 1 ∧ u.map.proposals =
            [{ op := opWithdraw, src := r.holder, rec_ := { r with state := 0, taker := 0 }, stored := [s.device], wale := s.wale }] ∧ u.out = s.out) ∧
      (∀ h, s.map.handovers = [h] → h.kind = k → h.key = key → h.giver = false → h.accepted = false → r.state = 1 →
        r.taker = s.device → ∃ u : State, exec (.handoverStateComplete k key) s = .next (u.propose opAccept r) ∧
          u = s.onMap (fun m => { m with handovers := [{ h with accepted := true }] }))) ∧
    ((∀ h ∈ s.map.handovers, h.kind ≠ k ∨ h.key ≠ key ∨ h.giver = false ∨ h.accepted = false) →
      exec (.handoverRelease k key) s = .next s.finish) ∧
    (∀ h, s.map.handovers = [h] → h.kind = k → h.key = key → h.giver = true → h.accepted = true → h.kept = none → k = 2 →
      exec (.handoverRelease k key) s = .next (State.finish (s.onMap fun m => { m with handovers := [] })))) ∧
  (∀ (src : DevNo) (ep : BitVec 32) (i : MirrorItem) (s : State),
    (∀ k key, i.lease src = some (k, key) → ep < s.leaseEpoch k key → ∃ u : State, exec (.mirrorTransfer src ep i) s = .next (State.finish u) ∧
      u.getF F.mapStatus_epochDiscard = 1 ∧ u.map = s.map ∧ u.mem = s.mem) ∧
    (i.lease src = none ∨ (∃ k key, i.lease src = some (k, key) ∧ ¬ ep < s.leaseEpoch k key) → s.mode = .service →
      s.map.handovers = [] → s.svc.ctxs = [] →
      ((∀ w, i ≠ .boundary w) → exec (.mirrorTransfer src ep i) s = .next (State.finish
        (s.onMap fun x => { x with mirrorOpen := x.mirrorOpen ++ [(src, i)] }))) ∧
      (∀ w j, i = .boundary w → s.map.mirrorOpen = [(src, j)] → ∃ u : State, exec (.mirrorTransfer src ep i) s = .next (State.finish u) ∧
        u.mirrorOf src = (s.mirrorOf src).take j ∧ u.map.mirrorOpen = [] ∧ u.mem = s.mem))) ∧
  (∀ s : State,
    (s.weave.running = none → exec .rehearsal s = .next s.finish) ∧
    (∀ w p, s.weave.running = some w → w.policies.filter (fun x => x.ring == devRing s.device && x.kinds != 0) = [p] →
      (s.wale < p.origin ∨ p.period = 0 ∨ (s.wale.toNat - p.origin.toNat) % max p.period 1 ≠ 0 ∨ s.map.active ≠ none →
        exec .rehearsal s = .next s.finish) ∧
      (¬ s.wale < p.origin → p.period ≠ 0 → (s.wale.toNat - p.origin.toNat) % max p.period 1 = 0 → s.map.active = none →
        s.mayRehearse = false ∨ p.daytime s.sched.start.toNat = false →
        exec .rehearsal s = .next (State.finish (s.addF F.mapRehearsalCount_skipped 0 1)))) ∧
    (∀ (k n : Nat) (v : DevNo), v ≠ s.device → k < 4 → (s.rehearse k n v true).map.active = some (k, v) ∧
      (s.rehearse k n v true).getF F.mapStatus_rehearsal = 1 ∧ (s.rehearse k n v true).getF F.mapRehearse_active = 1 ∧
      (s.rehearse k n v true).mem = s.mem) ∧
    (s.map.active = some (0, s.device) → s.mode = .service ∨ s.mode = .rest →
      s.sched.start.toNat + s.sched.lenUs * 500 ≤ s.stime.toNat →
      exec .rehearsalDeviceStop s = .next (State.finish ((s.stopWork.setMode .quarantine).propose opFate
        (fateRec s.device (partnerOf s.device) 1 0 true)))) ∧
    (s.map.active ≠ some (0, s.device) ∨ s.stime.toNat < s.sched.start.toNat + s.sched.lenUs * 500 →
      exec .rehearsalDeviceStop s = .next s.finish)) ∧
  (∀ (c : Word → Instr) (n : Nat) (w : Word) (d : RegDesc) (s : State),
    (c, n) ∈ [(Instr.mapLookup, 1), (.mapOffer, 2), (.mapWithdraw, 3), (.declare, 4), (.repair, 5), (.inject, 6)] →
    (s.getF F.mapCmd_busy = 1 → exec (c w) s = .next s.finish) ∧
    (s.cmdReady d F.mapCmd_op F.mapCmd_busy 0 (putBits w 0 4 n) →
      let v := s.cmdTaken d F.mapCmd_op F.mapCmd_busy 0 (putBits w 0 4 n)
      exec (c w) s = .next (State.finish (match n with
        | 1 => v.mapLookupRun
        | 2 => v.mapOfferRun
        | 3 => v.mapWithdrawRun
        | 4 => v.declareRun
        | 5 => v.repairRun
        | _ => v.injectRun)))) ∧
  (∀ s : State,
    (∀ x, s.isKeeper = true → s.recOf s.mapArg = some x → s.mapLookupRun = s.mapEnd 0 (some x)) ∧
    (s.isKeeper = true → s.recOf s.mapArg = none → s.mapLookupRun = s.mapEnd Code.absent.num none) ∧
    (s.recOf s.mapArg = none → s.mapWithdrawRun = s.mapEnd Code.absent.num none) ∧
    (∀ x, s.recOf s.mapArg = some x → x.state = 1 → x.holder = s.device →
      s.mapWithdrawRun = (s.onMap fun m => { m with cmd := some x }).propose opWithdraw x) ∧
    (devRing s.mapDevice = devRing s.device → s.fateOf s.mapDevice = none → s.mapDevice ≠ s.device →
      s.declareRun = (s.onMap fun m => { m with cmd := some (fateRec s.mapDevice (ringDev s.mapDevice (devX s.mapDevice + 1)) 1 0 false) }).propose
        opFate (fateRec s.mapDevice (ringDev s.mapDevice (devX s.mapDevice + 1)) 1 0 false)) ∧
    (s.getF F.mapRehearse_active = 1 → s.injectRun = s.mapEnd Code.retry.num none) ∧
    (s.getF F.mapRehearse_active ≠ 1 → s.getF F.mapArg0_injectKind < 4 → s.injectRun.map.injected =
      some (s.getF F.mapArg0_injectKind, s.mapDevice) ∧ s.injectRun.getF F.mapResult_code = 0 ∧ s.injectRun.getF F.mapCmd_busy = 0) ∧
    (∀ (code : Nat) (r : Option MapRec), code < 256 → (s.mapEnd code r).getF F.mapResult_code = code ∧
      (s.mapEnd code r).getF F.mapCmd_busy = 0 ∧ (s.mapEnd code r).map.cmd = none ∧ (s.mapEnd code r).mem = s.mem)) ∧
  (∀ (pass : Bool) (lost : List Nat) (s : State),
    (s.mode ≠ .repair ∨ s.map.repairStep ≠ 3 → exec (.repairSelfTestEnd pass) s = .next s.finish) ∧
    (s.mode ≠ .repair ∨ s.map.repairStep < 3 → exec .repairTimeout s = .next s) ∧
    (s.mode = .repair → 3 ≤ s.map.repairStep → exec .repairTimeout s = .next s.repairFails.finish ∧
      ∃ (u : State) (f : MapRec), s.repairFails = u.propose opFate f ∧ f.state = 4 ∧ u.mode = .quarantine ∧ u.map.repairStep = 0 ∧
        u.getF F.mapStatus_repairFail = 1 ∧ u.mem = s.mem) ∧
    (s.mode = .repair → s.map.repairStep = 3 → exec (.repairSelfTestEnd false) s = .next s.repairFails.finish ∧
      ∃ (u : State) (d : DevNo), exec (.repairSelfTestEnd true) s =
          .next (State.finish (u.sendMsg d 3 0 (.state 4 (BitVec.ofNat 64 s.device.toNat)))) ∧ u.map.repairStep = 4 ∧
        u.srch.blocked = []) ∧
    (s.mode = .repair → s.map.repairStep ≠ 4 → exec (.repairStateCurrent lost) s = .next s.finish) ∧
    (s.mode = .repair → s.map.repairStep = 4 → ∃ (u : State) (d : DevNo), exec (.repairStateCurrent lost) s =
        .next (State.finish (u.sendMsg d 3 0 (.state 7 (BitVec.ofNat 64 s.device.toNat)))) ∧ u.map.repairStep = 7 ∧
      (lost ≠ [] → u.getF F.mapStatus_granulesLost = 1) ∧ u.mem = s.mem ∧ u.mode = .repair) ∧
    (s.mode ≠ .repair → s.map.adopted = none → exec (.repairStateCurrent lost) s = .next s.finish))

/-! ### Starts, the stand and reloads -/

/-- Starts, joining and reloads (R578 to R580, R587 to R591, R601 to R610, R614 to R617): no start runs while PERST_N holds the device;
a cold start begins at stand time 0 with the memory empty, and a warm one, once called for, keeps the stand time; without an owner
key the device stays in WEAVING with NO_IMAGE; a drive that is not ready is lost; the time source forms the stand, answers a late
JOIN and refuses one of another stand; RELOAD messages are taken for the image that is staged alone; WEAVE_CMD runs one command at a
time. -/
def Obligations.StartsAndReloadsComplete : Prop :=
  (∀ (f : StartFacts) (s : State),
    (s.pwr.inReset = true ∨ ((s.pwr.thermOff = true ∨ s.pwr.overOff = true) ∧ s.pwr.coldDue = false) →
      exec (.coldStart f) s = .next s.finish) ∧
    (s.weave.restartDue = false ∨ s.pwr.inReset = true ∨ s.pwr.dead = true → exec (.warmStart f) s = .next s.finish) ∧
    (s.pwr.inReset = false → s.pwr.thermOff = false → s.pwr.overOff = false →
      let b := s.startBase false
      b.mem = [] ∧ b.stime = 0 ∧ b.mode = .slath ∧ b.pending = s.pending ∧ b.sched.savedWale = s.sched.savedWale ∧
      b.sec.ownerKey = s.sec.ownerKey ∧ b.code = s.code ∧
      (f.identityOk = false → exec (.coldStart f) s =
        .next (State.finish ((List.range s.code.ports).foldl (fun x p => x.setLink p 2) b))) ∧
      (f.identityOk = true → f.fw0.sigOk = true → b.getF F.mgtFw_active = 0 → b.getF F.secFwRollback_counter ≤ f.fw0.rollback →
        s.sec.ownerKey = none → ∃ u : State, exec (.coldStart f) s = .next (State.finish u) ∧ u.mode = .weaving ∧
          u.getF F.weaveStatus_noImage = 1 ∧ u.getF F.mgtFw_running = 0 ∧ u.mem = [] ∧ u.weave.running = none)) ∧
    (s.weave.restartDue = true → s.pwr.inReset = false → s.pwr.dead = false → f.identityOk = false →
      ∃ u : State, exec (.warmStart f) s = .next (State.finish u) ∧ u.mem = [] ∧ u.stime = s.stime ∧ u.mode = .slath ∧
        u.getF F.weaveState_warm = 1 ∧ u.mgt.ring = s.mgt.ring)) ∧
  (∀ (ds : List DriveFacts) (i : Nat) (s : State),
    (s.weave.running = none ∨ s.weave.phase = .none ∨ s.weave.drivesDone = true → exec (.drivesReady ds) s = .next s.finish) ∧
    (s.weave.drivesLeft ≠ [] → exec (.drivesReady []) s = .next s.finish) ∧
    (∀ (w : WeaveImage) (r : DriveRec) (d : DriveFacts), s.weave.running = some w → s.weave.phase ≠ .none → s.weave.drivesDone = false →
      s.weave.drivesLeft = [i] → w.drives[i]? = some r → d.port = r.port → d.slot = r.slot → d.serial = r.serial →
      exec (.drivesReady [d]) s = .next (State.finish
        (State.mapDrives (s.onWeave fun x => { x with found := x.found ++ [d], drivesLeft := [] })))) ∧
    (s.weave.running = none ∨ s.weave.drivesLeft.contains i = false ∨ s.weave.drivesDone = true →
      exec (.driveReadyTimeout i) s = .next s.finish) ∧
    (∀ (w : WeaveImage) (r : DriveRec) (j : Nat), s.weave.running = some w → w.drives[i]? = some r → s.weave.drivesDone = false →
      s.weave.drivesLeft = [i, j] → j ≠ i → ∃ u : State, exec (.driveReadyTimeout i) s = .next (State.finish u) ∧
        u.getF F.tierStatus_driveLost = 1 ∧ u.weave.drivesLeft = [j] ∧ u.tier = s.tier ∧ u.mem = s.mem) ∧
    (s.drive i = none → exec (.catalogueCompact i) s = .next s.finish) ∧
    (∀ v, s.drive i = some v → v.lost = false → catHalf ≤ (s.weave.cats.get i .fresh).log.length →
      exec (.catalogueCompact i) s = .next (State.finish (s.compact i)))) ∧
  (∀ s : State,
    (s.weave.phase = .links → s.getF F.schedSync_locked = 0 → ∃ u : State, exec .standLockTimeout s = .next u ∧
      u.getF F.schedStatus_skew = 1 ∧ u.weave = s.weave ∧ u.mem = s.mem) ∧
    (s.weave.phase ≠ .links ∨ s.getF F.schedSync_locked ≠ 0 → exec .standLockTimeout s = .next s) ∧
    (s.weave.running = none ∨ s.weave.phase ≠ .links ∨ s.weave.drivesDone = false ∨ s.getF F.schedSync_locked = 0 ∨
      s.windowsHeld = false → exec .joinSend s = .next s.finish) ∧
    (∀ w, s.weave.running = some w → s.weave.phase = .links → s.weave.drivesDone = true → s.getF F.schedSync_locked ≠ 0 →
      s.windowsHeld = true → s.isSource = false → s.getF F.schedSync_role ≠ 2 → exec .joinSend s = .next (State.finish
        ((s.onWeave fun x => { x with phase := .joined, joinedAt := s.stime }).sendMsg w.stand.timeSource 0 0
          (.join w.standDigest (s.mode == .crust))))) ∧
    (s.weave.phase = .joined → s.sched.announced = none → s.getF F.pwrPin_perstLevel = 0 → ∃ u : State, exec .refuse s = .next u ∧
      u.mode = .quarantine ∧ u.getF F.weaveStatus_standMismatch = 1 ∧ u.weave.phase = .none ∧ u.mem = s.mem) ∧
    (s.weave.phase ≠ .joined ∨ s.sched.announced ≠ none → exec .refuse s = .next s) ∧
    (s.weave.phase ≠ .joined ∨ s.weave.formed = true ∨ s.sched.announced ≠ none ∨
      s.stime.toNat < s.weave.joinedAt.toNat + s.act F.weaveFormBound_boundS * 1000000000 →
      exec .formBoundExpiry s = .next s.finish) ∧
    (s.weave.phase = .joined → s.weave.formed = false → s.sched.announced = none → s.isSource = true →
      s.weave.joinedAt.toNat + s.act F.weaveFormBound_boundS * 1000000000 ≤ s.stime.toNat →
      exec .formBoundExpiry s = .next s.form.finish) ∧
    ((∀ j ∈ s.weave.joins, j.1 = s.device) → ∃ (u : State) (g : Nat) (m : Msg), s.form = u.sendGroup g 1 0 m ∧
      u.sched.announced = some { wale := s.sched.savedWale + 16777216, time := s.stime + 1000000,
                                 lenUs := (s.weave.running.map fun i => i.stand.waleUs).getD 0 } ∧
      u.getF F.schedSync_role = 1 ∧ u.getF F.schedSync_epoch = 1 ∧ u.sched.standSize = s.weave.joins.length ∧ u.mem = s.mem)) ∧
  (∀ (d : DevNo) (dig : Word) (cr : Bool) (s : State),
    (s.weave.running = none → exec (.join d dig cr) s = .next s.finish) ∧
    (∀ w, s.weave.running = some w → s.isSource = true →
      (dig ≠ w.standDigest → cr = false → exec (.join d dig cr) s = .next (State.finish (s.sendMsg d 0 0 .refuse))) ∧
      (dig = w.standDigest ∨ cr = true →
        (s.weave.formed = true → exec (.join d dig cr) s = .next (State.finish (s.sendMsg d 0 0 (.joinAck s.wale 0)))) ∧
        (s.weave.formed = false → s.weave.joins.any (fun j => j.1 == d) = false → exec (.join d dig cr) s = .next
          (State.finish (State.formIfAll (s.onWeave fun x => { x with joins := x.joins ++ [(d, cr)] }))))))) ∧
  (∀ (w : Wale) (t : Word) (s : State),
    (s.weave.phase ≠ .joined → exec (.joinAck w t) s = .next s) ∧
    (s.weave.phase = .joined → t = 0 → s.getF F.pwrPin_perstLevel = 0 → ∃ u : State, exec (.joinAck w t) s = .next u ∧ u.wale = w ∧
      u.weave.phase = .none ∧ u.mode = s.mode ∧ u.mem = s.mem) ∧
    (s.weave.phase = .joined → t ≠ 0 → ∃ u : State, exec (.joinAck w t) s = .next u ∧ u.wale = s.wale ∧
      (u.sched.announced.map (·.wale)) = some w ∧ (u.sched.announced.map (·.time)) = some t ∧
      u = s.onSched fun x => { x with announced := u.sched.announced })) ∧
  (∀ (d : DevNo) (id : Word) (w : Wale) (s : State),
    (s.isSource = true → s.weave.reloadReady.contains (d, id) = false → exec (.reloadReady d id) s = .next
      (s.onWeave fun x => { x with reloadReady := x.reloadReady ++ [(d, id)] })) ∧
    (s.isSource = false ∨ s.weave.reloadReady.contains (d, id) = true → exec (.reloadReady d id) s = .next s) ∧
    (s.weave.staged = none → exec (.reloadGo id w) s = .next s ∧ exec (.reloadAbandon id) s = .next s) ∧
    (∀ p, s.weave.staged = some p →
      (p.imageId ≠ id → exec (.reloadGo id w) s = .next s ∧ exec (.reloadAbandon id) s = .next s) ∧
      (p.imageId = id → exec (.reloadGo id w) s = .next (s.onWeave fun x => { x with reloadGo := some (id, w) }) ∧
        exec (.reloadAbandon id) s = .next (State.finish (s.dropStage.flag F.weaveStatus_reloadAbandoned))))) ∧
  (∀ (c : Word → Instr) (n : Nat) (f : ImageFacts) (w : Word) (d : RegDesc) (s : State),
    (c, n) ∈ [((fun x => Instr.writeSlot x f), 1), (.activate, 2), (.restart, 3), ((fun x => .stage x f), 4), (.abandon, 5)] →
    (s.getF F.weaveCmd_busy = 1 → exec (c w) s = .next s.finish) ∧
    (s.cmdReady d F.weaveCmd_op F.weaveCmd_busy 0 (putBits w 0 3 n) →
      let v := s.cmdTaken d F.weaveCmd_op F.weaveCmd_busy 0 (putBits w 0 3 n)
      let slot := v.getF F.weaveCmd_slot
      (n = 1 → exec (c w) s = .next (State.finish (v.writeSlot slot f))) ∧
      (n = 2 → ∃ u : State, exec (c w) s = .next (State.finish u) ∧ u.getF F.weaveState_active = slot ∧ u.getF F.weaveCmd_busy = 0 ∧
        u.getF F.weaveResult_code = 0 ∧ u = { s with regs := u.regs }) ∧
      (n = 3 → ∃ u : State, exec (c w) s = .next (State.finish u) ∧ u.weave.restartDue = true ∧ u.getF F.weaveCmd_busy = 0 ∧
        u.getF F.weaveResult_code = 0 ∧ u.mode = s.mode ∧ u.mem = s.mem) ∧
      (n = 4 → exec (c w) s = .next (State.finish (v.stage f))) ∧
      (n = 5 → exec (c w) s = .next (State.finish v.abandonStage)))) ∧
  (∀ (slot : Nat) (f : ImageFacts) (s : State),
    (s.weaveArgOk = false → s.writeSlot slot f = s.weaveEnd Code.malformed.num) ∧
    (s.weaveArgOk = true → s.weave.running ≠ none → s.getF F.weaveState_running = slot →
      s.writeSlot slot f = s.weaveEnd Code.denied.num) ∧
    (s.weaveArgOk = true → s.weave.running = none → f.img.partialKind = false → f.bad = none →
      s.getF F.weaveRollback_counter ≤ f.img.rollback → slot < 2 → (s.writeSlot slot f).slotOf slot = some f ∧
        (s.writeSlot slot f).slotOf (1 - slot) = s.slotOf (1 - slot) ∧ (s.writeSlot slot f).getF F.weaveCmd_busy = 0 ∧
        (s.writeSlot slot f).getF F.weaveResult_code = 0 ∧ (s.writeSlot slot f).mem = s.mem) ∧
    (s.weave.staged = none → s.abandonStage = s.weaveOpen ∧ s.weaveOpen.getF F.weaveCmd_busy = 0) ∧
    (s.weave.staged ≠ none → s.weave.readySent = true → s.abandonStage = s.weaveEnd Code.retry.num) ∧
    (s.weave.staged ≠ none → s.weave.readySent = false → s.abandonStage = s.dropStage.weaveEnd 0))

/-! ### Integrity, security and ownership -/

/-- Scan jobs (R620, R622 to R624): CHK has four units; a write while a job runs sets SCAN_OVERRUN; a range outside its rule ends
MALFORMED, one beyond the store ABSENT, each at position 0; a job that starts is busy until its loads are served, and then ends DONE
with the CRC of its bytes, or POISON at the first line that reads so. -/
def Obligations.ScanJobsComplete : Prop :=
  (∀ (u n : Nat) (w : Word) (d : RegDesc) (c : Nat → Word → Instr) (s : State),
    (c, n) ∈ [(Instr.scanCrc64, 1), (.scanCrc32c, 2)] →
    (4 ≤ u → exec (c u w) s = .fault .noSuchUnit ∧ exec (.scanJobEnd u) s = .fault .noSuchUnit) ∧
    (u < 4 → fitted s.code F.chkScanCmd_op.base 4 u = false → exec (c u w) s = .next s.finish) ∧
    (u < 4 → fitted s.code F.chkScanCmd_op.base 4 u = true →
      (s.getF F.chkScanCmd_busy u = 1 → ∃ v, exec (c u w) s = .next (State.finish v) ∧ v.getF F.chkStatus_scanOverrun = 1 ∧
        v.tier = s.tier ∧ v.mem = s.mem) ∧
      (s.getF F.chkScanCmd_busy u ≠ 1 → regAt (F.chkScanCmd_op.off u) = some d → d.clean (putBits w 0 2 n) →
        let v := s.cmdWritten d F.chkScanCmd_op u (putBits w 0 2 n)
        (∀ o k code, v.scanRange u = (o, k, some code) → ∃ x, exec (c u w) s = .next (State.finish x) ∧
          x.getF F.chkScanCmd_busy u = 0 ∧ x.getF F.chkScanCmd_code u = code.num ∧ x.getF F.chkScanPos_pos u = 0 ∧
          x = { s with regs := x.regs }) ∧
        (∀ o k, v.scanRange u = (o, k, none) →
          exec (c u w) s = .next (State.finish ((v.setF F.chkScanCmd_busy u 1).scanLoads o k))))) ∧
    (u < 4 → s.getF F.chkScanCmd_busy u = 0 → exec (.scanJobEnd u) s = .next s.finish)) ∧
  (∀ (u o k : Nat) (s : State), u < 4 → s.getF F.chkScanCmd_busy u = 1 → s.scanRange u = (o, k, none) → s.waitingAccesses = [] →
    (∀ p, s.scanPoison o k = some p → p < 2 ^ 40 → ∃ v, exec (.scanJobEnd u) s = .next (State.finish v) ∧
      v.getF F.chkScanCmd_busy u = 0 ∧ v.getF F.chkScanCmd_code u = Code.poison.num ∧ v.getF F.chkScanPos_pos u = p ∧
      v.getF F.chkStatus_scanPoison = 1 ∧ v.mem = s.mem) ∧
    (s.scanPoison o k = none → s.getF F.chkScanCmd_op u = 1 → ∃ v, exec (.scanJobEnd u) s = .next (State.finish v) ∧
      v.getF F.chkScanCmd_busy u = 0 ∧ v.getF F.chkScanCmd_code u = 0 ∧
      v.getF F.chkScanResult_crc u = (crc64 ((List.range k).map fun i => s.peekOff (o + i))).toNat ∧ v = { s with regs := v.regs }) ∧
    (s.scanPoison o k = none → s.getF F.chkScanCmd_op u = 2 → ∃ v, exec (.scanJobEnd u) s = .next (State.finish v) ∧
      v.getF F.chkScanResult_crc u = (crc32c ((List.range k).map fun i => s.peekOff (o + i))).toNat ∧ v = { s with regs := v.regs })) ∧
  (∀ (u : Nat) (s : State), s.scanRange u = (saOffset (s.reg (F.chkScanAddr_addr.off u)), s.getF F.chkScanLen_length u,
      (s.scanRange u).2.2) ∧
    (saOffset (s.reg (F.chkScanAddr_addr.off u)) % 64 ≠ 0 ∨ s.getF F.chkScanLen_length u = 0 →
      (s.scanRange u).2.2 = some .malformed) ∧
    ((s.scanRange u).2.2 ≠ some .malformed →
      s.storeSize < saOffset (s.reg (F.chkScanAddr_addr.off u)) + s.getF F.chkScanLen_length u →
      (s.scanRange u).2.2 = some .absent))

/-- SPDM, enrolment and release (R627 to R631, R635 to R637, R688, R691): a request is answered where the processor serves its
transport, with BUSY when the queue is full; the negotiation runs version, capabilities, algorithms, and what needs it answers an
error before; what needs a finished session answers an error without one; at most four sessions are open; SET_CERTIFICATE takes slot
1 alone and enrols the device; RELEASE, signed over the last nonce, disowns it. -/
def Obligations.SpdmCompletes : Prop :=
  (∀ (t : Transport) (id i o l k : Nat) (n : BitVec 256) (ok rp : Bool) (c : ChainFacts) (s : State) (r : Instr),
    r ∈ [Instr.getVersion t, .getCapabilities t, .negotiateAlgorithms t, .getDigests t, .getCertificate t i o l, .challenge t i n,
      .getMeasurements t i n, .keyExchange t k, .finish t id ok, .keyUpdate t id, .heartbeat t id, .endSession t id, .getCsr t id,
      .setCertificate t id i c rp, .release t id ok n rp] →
    (s.mgmtServed t false = false → exec r s = .next s) ∧
    (s.mgmtServed t false = true → 64 ≤ s.mgt.qMctp → exec r s = .next (s.emit (.mgmt t .busy))) ∧
    (s.mgmtServed t false = true → s.mgt.qMctp < 64 → s.spdmStage t ≠ .negotiated → r ≠ .getVersion t → r ≠ .getCapabilities t →
      r ≠ .negotiateAlgorithms t →
      exec r s = .next ((s.onMgt fun m => { m with qMctp := m.qMctp + 1 }).emit (.mgmt t .error))) ∧
    (s.mgmtServed t false = true → s.mgt.qMctp < 64 → s.spdmStage t = .negotiated → ((s.session t id).any (·.finished)) = false →
      r = .keyUpdate t id ∨ r = .heartbeat t id ∨ r = .endSession t id ∨ r = .getCsr t id →
      exec r s = .next ((s.onMgt fun m => { m with qMctp := m.qMctp + 1 }).emit (.mgmt t .error)))) ∧
  (∀ (t : Transport) (s : State), s.mgmtServed t false = true → s.mgt.qMctp < 64 →
    let v := s.onMgt fun m => { m with qMctp := m.qMctp + 1 }
    exec (.getVersion t) s = .next ((v.setStage t .version).emit (.mgmt t (.value 0x12))) ∧
    (s.spdmStage t = .version → ∃ w, exec (.getCapabilities t) s = .next ((v.setStage t .capabilities).emit (.mgmt t (.value w)))) ∧
    (s.spdmStage t ≠ .version → exec (.getCapabilities t) s = .next (v.emit (.mgmt t .error))) ∧
    (s.spdmStage t = .capabilities → exec (.negotiateAlgorithms t) s = .next ((v.setStage t .negotiated).emit (.mgmt t .ok))) ∧
    (s.spdmStage t ≠ .capabilities → exec (.negotiateAlgorithms t) s = .next (v.emit (.mgmt t .error)))) ∧
  (∀ (t : Transport) (id i o l k : Nat) (n : BitVec 256) (s : State), s.mgmtServed t false = true → s.mgt.qMctp < 64 →
    s.spdmStage t = .negotiated →
    let v := s.onMgt fun m => { m with qMctp := m.qMctp + 1 }
    exec (.getDigests t) s = .next (v.emit (.mgmt t (.values ([0, 1].filterMap s.chainValue)))) ∧
    (s.chainValue i = none → exec (.getCertificate t i o l) s = .next (v.emit (.mgmt t .error)) ∧
      exec (.challenge t i n) s = .next (v.emit (.mgmt t .error))) ∧
    (∀ c, s.chainValue i = some c → exec (.getCertificate t i o l) s = .next (v.emit (.mgmt t (.values [c, o, l]))) ∧
      ∃ u : State, exec (.challenge t i n) s = .next u ∧ u.out = s.out ++ [.mgmt t (.nonce (Config.nonce s.sec.nonces))] ∧
        u.sec.nonces = s.sec.nonces + 1 ∧ u.mem = s.mem) ∧
    (exec (.getMeasurements t 0 n) s = .next ((v.addF F.secPkCount_private 0 1).emit (.mgmt t (.value 6)))) ∧
    (1 ≤ i → i ≤ 6 → ∃ b, exec (.getMeasurements t i n) s = .next ((v.addF F.secPkCount_private 0 1).emit (.mgmt t (.values [b])))) ∧
    (4 ≤ s.sec.sessions.length → exec (.keyExchange t k) s = .next (v.emit (.mgmt t .error))) ∧
    (s.sec.sessions.length < 4 → ∃ u : State, exec (.keyExchange t k) s = .next u ∧
      u.out = s.out ++ [.mgmt t (.value (BitVec.ofNat 64 s.sec.nextSession))] ∧
      u.sec.sessions = s.sec.sessions ++ [{ id := s.sec.nextSession, transport := t, finished := false, updates := 0 }] ∧
      u.getF F.secState_sessions = s.sec.sessions.length + 1 ∧ u.mem = s.mem) ∧
    (s.session t id = none → exec (.finish t id true) s = .next (v.emit (.mgmt t .error))) ∧
    (∀ x, s.session t id = some x → x.finished = false →
      (∃ u : State, exec (.finish t id true) s = .next u ∧ u.out = s.out ++ [.mgmt t .ok] ∧
        (∀ y ∈ u.sec.sessions, y.id = id → y.finished = true) ∧ u.sec.sessions.length = s.sec.sessions.length ∧ u.mem = s.mem) ∧
      (∃ u : State, exec (.finish t id false) s = .next u ∧ u.out = s.out ++ [.mgmt t .error] ∧
        (∀ y ∈ u.sec.sessions, y.id ≠ id) ∧ u.mem = s.mem)) ∧
    (∀ x, s.session t id = some x → x.finished = true →
      exec (.heartbeat t id) s = .next (v.emit (.mgmt t .ok)) ∧
      (∃ w, exec (.getCsr t id) s = .next ((v.addF F.secPkCount_private 0 1).emit (.mgmt t (.value w)))) ∧
      (∃ u : State, exec (.keyUpdate t id) s = .next u ∧ u.out = s.out ++ [.mgmt t .ok] ∧
        u.sec.sessions.map (·.id) = s.sec.sessions.map (·.id) ∧ u.mem = s.mem) ∧
      (∃ u : State, exec (.endSession t id) s = .next u ∧ u.out = s.out ++ [.mgmt t .ok] ∧
        (∀ y ∈ u.sec.sessions, y.id ≠ id) ∧ (∀ e ∈ u.sec.ide, e.2.2 ≠ id) ∧ u.mem = s.mem))) ∧
  (∀ (t : Transport) (id i : Nat) (c : ChainFacts) (rp : Bool) (s : State), s.mgmtServed t false = true → s.mgt.qMctp < 64 →
    s.spdmStage t = .negotiated →
    (i ≠ 1 ∨ ((s.session t id).any (·.finished)) = false → ∃ u : State, exec (.setCertificate t id i c rp) s = .next u ∧
      u.out = s.out ++ [.mgmt t .error] ∧ u.getF F.secStatus_spdmRefused = 1 ∧ u.sec = s.sec ∧ u.mem = s.mem) ∧
    (i = 1 → ((s.session t id).any (·.finished)) = true → c.ok = true → c.certs ≤ 4 → s.sec.ownerKey = none → rp = true →
      ∃ u : State, exec (.setCertificate t id i c rp) s = .next u ∧ u.out = s.out ++ [.mgmt t .ok] ∧ u.sec.ownerKey = some c.root ∧
        u.sec.slot1 = some c ∧ u.getF F.secState_enrolled = 1 ∧ u.getF F.secState_slot1 = 1 ∧
        u.getF F.secStandId_id = c.standId.toNat ∧ u.mem = s.mem) ∧
    (i = 1 → ((s.session t id).any (·.finished)) = true → c.ok = false ∨ 4 < c.certs → ∃ u : State,
      exec (.setCertificate t id i c rp) s = .next u ∧ u.out = s.out ++ [.mgmt t .error] ∧ u.sec = s.sec ∧
        u.getF F.secStatus_spdmRefused = 1)) ∧
  (∀ (t : Transport) (id : Nat) (n : BitVec 256) (s : State), s.mgmtServed t false = true → s.mgt.qMctp < 64 →
    s.spdmStage t = .negotiated → ((s.session t id).any (·.finished)) = true → s.sec.ownerKey ≠ none →
    (s.sec.releaseNonce = some n → ∃ u : State, exec (.release t id true n true) s = .next u ∧ u.out = s.out ++ [.mgmt t .ok] ∧
      u.sec.ownerKey = none ∧ u.sec.slot1 = none ∧ u.weave.slotA = none ∧ u.weave.slotB = none ∧ u.weave.restartDue = true ∧
      u.mgt.flash = [] ∧ u.getF F.secState_enrolled = 0 ∧ u.getF F.secStandId_id = 0 ∧ u.getF F.secOwnerId_id = 0) ∧
    (s.sec.releaseNonce ≠ some n → ∃ u : State, exec (.release t id true n true) s = .next u ∧
      u.out = s.out ++ [.mgmt t (.nonce (Config.nonce s.sec.nonces))] ∧ u.sec.releaseNonce = some (Config.nonce s.sec.nonces) ∧
      u.sec.ownerKey = s.sec.ownerKey ∧ u.getF F.secStatus_spdmRefused = 1))

/-! ### Power, clocks, sleep and pins -/

/-- The input and the cluster clocks (R653, R656, R657): an undervoltage is a Crust cause; a collapse and an overvoltage end everything
that power held, until the input allows a cold start; a cluster's clock stops where nothing needs it, its PLL after it, and both
come back. -/
def Obligations.InputAndClocksComplete : Prop :=
  (∀ (mv : Nat) (s : State),
    (s.pwr.dead = true → exec (.inputUndervolt mv) s = .next s) ∧
    (s.pwr.dead = false → 40000 ≤ mv → exec (.inputUndervolt mv) s = .next (s.setF F.pwrInput_mv 0 mv)) ∧
    (s.pwr.dead = false → mv < 40000 → s.mode = .service ∨ s.mode = .rest ∨ s.mode = .repair →
      ∃ u : State, exec (.inputUndervolt mv) s = .next (State.finish u) ∧ u.mode = .crust ∧ u.getF F.pwrStatus_undervolt = 1 ∧
        u.getF F.pwrInput_mv = mv ∧ (s.getF F.pwrState_crustCause = 0 → u.getF F.pwrState_crustCause = 4)) ∧
    (36000 ≤ mv → exec (.inputCollapse mv) s = .next s) ∧
    (mv < 36000 → ∃ u : State, exec (.inputCollapse mv) s = .next u ∧ u.pwr.dead = true ∧ u.mem = [] ∧ u.getF F.pwrInput_mv = mv ∧
      u.sec.ownerKey = s.sec.ownerKey ∧ u.sched.savedWale = s.sched.savedWale) ∧
    (mv ≤ 56000 ∨ s.pwr.dead = true → exec (.inputOvervolt mv) s = .next s) ∧
    (56000 < mv → mv < 65536 → s.pwr.dead = false → ∃ u : State, exec (.inputOvervolt mv) s = .next u ∧ u.pwr.overOff = true ∧ u.mem = [] ∧
      u.getF F.pwrStatus_overvolt = 1 ∧ u.getF F.pwrInput_mv = mv ∧ u.stime = s.stime) ∧
    (s.pwr.overOff = true → 40000 ≤ mv → mv ≤ 56000 → exec (.overvoltRecovery mv) s =
      .next ((s.setF F.pwrInput_mv 0 mv).onPwr fun p => { p with coldDue := true })) ∧
    (s.pwr.overOff = false ∨ mv < 40000 ∨ 56000 < mv → exec (.overvoltRecovery mv) s = .next s)) ∧
  (∀ (k : Nat) (s : State),
    (s.code.hasCluster k = false → exec (.clusterClockStop k) s = .fault .noSuchUnit ∧ exec (.clusterPllStop k) s = .fault .noSuchUnit ∧
      exec (.clusterClockStart k) s = .fault .noSuchUnit ∧ exec (.clusterClockRunning k) s = .fault .noSuchUnit) ∧
    (s.code.hasCluster k = true →
      (s.getF F.cellCluster_clk k = 2 → (∀ i < 8, s.cellRun (8 * k + i) = runIdle ∨ s.cellRun (8 * k + i) = runUnallocated) →
        (∀ d ∈ s.plannedSteps 100000, d.inCluster k = false) →
        exec (.clusterClockStop k) s = .next (s.setF F.cellCluster_clk k 0)) ∧
      (s.getF F.cellCluster_clk k ≠ 2 ∨ (∃ d ∈ s.plannedSteps 100000, d.inCluster k = true) → exec (.clusterClockStop k) s = .next s) ∧
      (s.getF F.cellCluster_clk k = 0 → exec (.clusterPllStop k) s = .next (s.setF F.cellCluster_pllLocked k 0)) ∧
      (s.getF F.cellCluster_clk k ≠ 0 → exec (.clusterPllStop k) s = .next s ∧ exec (.clusterClockStart k) s = .next s) ∧
      (s.getF F.cellCluster_clk k = 0 → s.mode = .service ∨ s.mode = .rest →
        exec (.clusterClockStart k) s = .next (s.setF F.cellCluster_clk k 1)) ∧
      (s.mode ≠ .service → s.mode ≠ .rest → exec (.clusterClockStart k) s = .next s) ∧
      (s.getF F.cellCluster_clk k = 1 → exec (.clusterClockRunning k) s =
        .next ((s.setF F.cellCluster_clk k 2).setF F.cellCluster_pllLocked k 1)) ∧
      (s.getF F.cellCluster_clk k ≠ 1 → exec (.clusterClockRunning k) s = .next s)))

/-- Falling asleep and waking (R661 to R667, R681, R684): PWR_CMD SLEEP ends at once with the code of the first condition that fails,
and otherwise announces ASLEEP; quiet ends it DONE in SLEEP; a timeout or a cause abandons it; a wake ends in REST, or in CRUST for
a cause recorded in between; a device marked asleep gets what was held for it once it is AWAKE, and a hold over its bound is lost. -/
def Obligations.SleepCompletes : Prop :=
  (∀ (w : Word) (d : RegDesc) (s : State),
    (s.getF F.pwrCmd_busy = 1 → exec (.pwrSleep w) s = .next s ∧ exec (.pwrWake w) s = .next s) ∧
    (s.cmdReady d F.pwrCmd_op F.pwrCmd_busy 0 (putBits w 0 2 1) →
      let v := s.cmdTaken d F.pwrCmd_op F.pwrCmd_busy 0 (putBits w 0 2 1)
      v.sleepRefused = s.sleepRefused ∧
      (∀ c, s.sleepRefused = some c → ∃ u : State, exec (.pwrSleep w) s = .next u ∧ u.getF F.pwrCmd_busy = 0 ∧
        u.getF F.pwrCmd_code = c.num ∧ u = { s with regs := u.regs }) ∧
      (s.sleepRefused = none → s.pwr.seq = .none → exec (.pwrSleep w) s = .next
        (State.sendMsg (v.onPwr fun p => { p with seq := .falling true }) v.timeSource 0 0 (.asleep v.device v.wale))) ∧
      (s.sleepRefused = none → s.pwr.seq ≠ .none → exec (.pwrSleep w) s = .next (v.onPwr fun p => { p with seq := .falling true }))) ∧
    (s.cmdReady d F.pwrCmd_op F.pwrCmd_busy 0 (putBits w 0 2 2) →
      (s.mode = .sleep → s.pwr.seq = .none → ∃ u : State, exec (.pwrWake w) s = .next u ∧ u.pwr.seq = .waking true ∧ u.mode = .sleep ∧
        u.getF F.pwrCmd_busy = 1 ∧ u.mem = s.mem) ∧
      (s.mode ≠ .sleep → ∃ u : State, exec (.pwrWake w) s = .next u ∧ u.getF F.pwrCmd_busy = 0 ∧
        u = { s with regs := u.regs, free := s.free + 1 }))) ∧
  (∀ s : State,
    (s.act F.pwrPolicy_sleepOk = 0 → s.sleepRefused = some .denied) ∧
    (s.sched.children ≠ [] ∨ s.getF F.mapRole_keeper = 1 ∨ s.isSource = true → s.sleepRefused = some .denied) ∧
    (s.mode ≠ .rest → s.sleepRefused ≠ none) ∧
    (s.pwr.asleep.contains (partnerOf s.device) = true → s.sleepRefused ≠ none)) ∧
  (∀ s : State,
    (∀ c, s.pwr.seq = .falling c →
      (∃ u : State, exec .sleepQuiet s = .next u ∧ u.mode = .sleep ∧ u.pwr.seq = .none ∧ u.getF F.schedSync_locked = 0 ∧
        (∀ k, s.code.hasCluster k = true → u.getF F.cellCluster_clk k = 0 ∧ u.getF F.cellCluster_pllLocked k = 0) ∧
        (c = true → u.getF F.pwrCmd_busy = 0 ∧ u.getF F.pwrCmd_code = 0) ∧ u.mem = s.mem ∧ u.sched = s.sched) ∧
      (∃ u : State, exec .sleepQuietTimeout s = .next u ∧ u.mode = s.mode ∧ u.pwr.seq = .none ∧ u.pwr.restWales = 0 ∧
        u.getF F.pwrStatus_sleepAbandoned = 1 ∧ u.mem = s.mem)) ∧
    ((∀ c, s.pwr.seq ≠ .falling c) → exec .sleepQuiet s = .next s ∧ exec .sleepQuietTimeout s = .next s) ∧
    (s.arraysWait = true → exec .wakeSequenceEnd s = .next s.finish) ∧
    (∀ c, s.mode = .sleep → s.pwr.seq = .waking c → s.arraysWait = false →
      (s.pwr.recorded = none → ∃ u : State, exec .wakeSequenceEnd s = .next (State.finish u) ∧ u.mode = .rest ∧ u.pwr.seq = .none ∧
        u.getF F.schedSync_locked = 1 ∧ (c = true → u.getF F.pwrCmd_busy = 0 ∧ u.getF F.pwrCmd_code = 0) ∧ u.mem = s.mem) ∧
      (s.pwr.recorded ≠ none → ∃ u : State, exec .wakeSequenceEnd s = .next (State.finish u) ∧ u.mode = .crust ∧ u.pwr.recorded = none ∧
        u.pwr.seq = .none)) ∧
    ((s.mode ≠ .sleep ∨ ∀ c, s.pwr.seq ≠ .waking c) → exec .wakeSequenceEnd s = .next s.finish) ∧
    (∀ c, s.pwr.seq = .waking c → exec .wakeTimeout s = .next (s.flag F.pwrStatus_wakeTimeout)) ∧
    ((∀ c, s.pwr.seq ≠ .waking c) → exec .wakeTimeout s = .next s) ∧
    (s.mode = .sleep → exec .sleepWaleTick s = .next { s with wale := s.wale + 1 }) ∧
    (s.mode ≠ .sleep → exec .sleepWaleTick s = .next s)) ∧
  (∀ (x : WakeCause) (e : DevNo) (s : State),
    (s.mode = .sleep → s.pwr.seq = .none → ∃ u : State, exec (.sleepWake x) s = .next u ∧ exec (.wake s.device) s = .next u ∧
      u.pwr.seq = .waking false ∧ u.mode = .sleep ∧ u.mem = s.mem) ∧
    (s.mode = .sleep → ∀ c, s.pwr.seq = .waking c → ∃ u : State, exec (.sleepWake x) s = .next u ∧ exec (.wake s.device) s = .next u ∧
      u.pwr.seq = .waking c ∧ u = s.onPwr fun p => { p with seq := .waking c }) ∧
    (s.mode ≠ .sleep → x ≠ .wakeN → exec (.sleepWake x) s = .next s) ∧
    (s.mode ≠ .sleep → exec (.sleepWake .wakeN) s = .next s.abandonSleep ∧ exec (.wake s.device) s = .next s.abandonSleep) ∧
    (e ≠ s.device → exec (.wake e) s = .next s)) ∧
  (∀ (e : DevNo) (n : Wale) (s : State),
    (e = s.device ∨ s.pwr.asleep.contains e = true → exec (.asleep e n) s = .next s) ∧
    (e ≠ s.device → s.pwr.asleep.contains e = false → e ≠ predecessorOf s.device →
      let u := s.onPwr fun p => { p with asleep := p.asleep ++ [e] }
      (s.isSource = false → exec (.asleep e n) s = .next u) ∧
      (s.isSource = true → exec (.asleep e n) s = .next
        (u.sendGroup ((s.weave.running.map fun i => i.stand.timeGroup).getD 0) 0 0 (.asleep e n)))) ∧
    (e ≠ s.device → s.pwr.asleep.contains e = false → e = predecessorOf s.device → s.isSource = false →
      ∃ u : State, exec (.asleep e n) s = .next u ∧ u.pwr.asleep = s.pwr.asleep ++ [e] ∧ u.getF F.pwrState_sleepingPartner = 1 ∧
        lastSeen u.map.heard e = s.stime.toNat ∧ u.mem = s.mem ∧ u.mode = s.mode) ∧
    (e = s.device ∨ s.pwr.asleep.contains e = false → exec (.awake e n) s = .next s.finish) ∧
    (e ≠ s.device → s.pwr.asleep.contains e = true → s.isSource = false → ∃ u : State, exec (.awake e n) s = .next (State.finish
        ((s.pwr.holds.filter fun h => h.packet.target == e).foldl (fun x h => (x.sendPacket h.packet h.issuer).2) u)) ∧
      u.pwr.asleep = s.pwr.asleep.filter (· != e) ∧ u.pwr.wakeSent = s.pwr.wakeSent.filter (· != e) ∧
      u.pwr.holds = s.pwr.holds.filter (fun h => h.packet.target != e) ∧ lastSeen u.map.heard e = s.stime.toNat ∧ u.mem = s.mem)) ∧
  (∀ (e : DevNo) (tag : BitVec 16) (s : State),
    ((∀ h ∈ s.pwr.holds, h.packet.target ≠ e ∨ h.packet.tag ≠ tag) → exec (.wakeBoundExpiry e tag) s = .next s.finish) ∧
    (∀ h, (s.pwr.holds.find? fun h => h.packet.target == e && h.packet.tag == tag) = some h →
      h.packet.posted = true ∨ h.issuer = none → ∃ u : State, exec (.wakeBoundExpiry e tag) s = .next (State.finish u) ∧
        u.pwr.holds = s.pwr.holds.erase h ∧ u.mem = s.mem ∧ (h.packet.posted = true → u.getF F.swcStatus_postedLost = 1)))

/-- Die faults and thermal stages (R668, R670 to R672): a die's failure is a Crust cause and its frames are lost; the last Rand die's
puts the device into QUARANTINE, and Rand die 1 takes over from die 0; stage 1 raises attention alone, stage 2 enters Crust, stage 3
removes the rails; a stage clears when every sensor is 5 degrees below it. -/
def Obligations.DieAndThermalComplete : Prop :=
  (∀ (k : DieKind) (d : Nat) (s : State),
    (s.code.hasDie k d = false → exec (.dieFault k d) s = .fault .noSuchUnit) ∧
    (s.code.hasDie k d = true → (k, d) ∈ s.pwr.failed ∨ s.pwr.dead = true → exec (.dieFault k d) s = .next s.finish) ∧
    (s.code.hasDie k d = true → (k, d) ∉ s.pwr.failed → s.pwr.dead = false → s.mode = .service ∨ s.mode = .rest →
      (k ≠ .rand ∨ (∃ r, r ≠ d ∧ s.code.hasDie .rand r = true ∧ (DieKind.rand, r) ∉ s.pwr.failed) →
        ∃ u : State, exec (.dieFault k d) s = .next (State.finish u) ∧ u.mode = .crust ∧ (k, d) ∈ u.pwr.failed ∧
          u.getF F.pwrStatus_dieFault = 1 ∧ (s.getF F.pwrState_crustCause = 0 → u.getF F.pwrState_crustCause = 1) ∧
          (k = .rand → d = 0 → u.getF F.pwrState_shadow = 1 ∧ u.getF F.mapRole_engineDie = 1 ∧
            u.getF F.pwrStatus_shadowTakeover = 1 ∧ u.sec.sessions = [] ∧ u.getF F.hptLink_state = 0)) ∧
      (k = .rand → (∀ r, r ≠ d → s.code.hasDie .rand r = true → (DieKind.rand, r) ∈ s.pwr.failed) →
        ∃ u : State, exec (.dieFault k d) s = .next (State.finish u) ∧ u.mode = .quarantine ∧ (k, d) ∈ u.pwr.failed ∧
          u.getF F.pwrStatus_dieFault = 1 ∧ u.svc.records = []))) ∧
  (∀ (k : DieKind) (d b : Nat) (s : State), (s.blk b).state = .live →
    (s.frameOn k d b (s.blk b).liveTier = true → ((s.loseFrames k d).blk b).poison = List.range 4096) ∧
    (s.frameOn k d b (s.blk b).liveTier = false → (s.loseFrames k d).blk b = s.blk b)) ∧
  (∀ (i n temp : Nat) (s : State),
    (s.hasSensor i = false → exec (.thermalStage i n temp) s = .fault .noSuchUnit) ∧
    (s.hasSensor i = true →
      (s.pwr.dead = true ∨ s.pwr.thermOff = true ∨ s.pwr.overOff = true ∨ n = 0 ∨ 3 < n ∨ temp < stageAt i n →
        exec (.thermalStage i n temp) s = .next s.finish) ∧
      (s.pwr.dead = false → s.pwr.thermOff = false → s.pwr.overOff = false → stageAt i n ≤ temp → temp < 1024 →
        (n = 1 → ∃ u : State, exec (.thermalStage i n temp) s = .next (State.finish u) ∧ u.getF F.pwrStatus_thermStage1 = 1 ∧
          u.getF F.pwrTemp_temp i = temp ∧ 1 ≤ u.getF F.pwrTemp_stage i ∧ 1 ≤ u.getF F.pwrState_stage ∧
          (∀ t, u.isLatched 7 t = true) ∧ u.mode = s.mode ∧ u.mem = s.mem ∧ u.sched = s.sched) ∧
        (n = 2 → s.mode = .service ∨ s.mode = .rest → ∃ u : State, exec (.thermalStage i n temp) s = .next (State.finish u) ∧
          u.mode = .crust ∧ u.getF F.pwrStatus_thermStage2 = 1 ∧ u.getF F.pwrTemp_temp i = temp ∧
          (s.getF F.pwrState_crustCause = 0 → u.getF F.pwrState_crustCause = 2)) ∧
        (n = 3 → ∃ u : State, exec (.thermalStage i n temp) s = .next (State.finish u) ∧ u.pwr.thermOff = true ∧ u.mem = [] ∧
          u.stime = s.stime)))) ∧
  (∀ (l : List Nat) (s : State),
    (s.pwr.dead = true ∨ l.length ≠ 16 → exec (.thermalStageClear l) s = .next s) ∧
    (s.pwr.dead = false → l.length = 16 → ∃ u : State, exec (.thermalStageClear l) s = .next u ∧
      u.getF F.pwrState_stage = s.stageLeft l ∧ (s.getF F.pwrState_stage ≤ 2 → s.stageLeft l ≤ s.getF F.pwrState_stage) ∧
      ((∀ i t, l[i]? = some t → s.hasSensor i = true → t + 20 ≤ stageAt i 1) → u.getF F.pwrState_stage = 0) ∧
      u = { s with regs := u.regs })) ∧
  (∀ s : State, (s.pwr.thermOff = true → exec .thermalCooldownRestart s = .next (s.onPwr fun p => { p with coldDue := true })) ∧
    (s.pwr.thermOff = false → exec .thermalCooldownRestart s = .next s))

/-- The sideband pins (R673 to R675): an edge to the level a pin has, on a chattering pin or without power changes nothing; WAKE_N wakes
or abandons a sleep sequence, THERM_N enters Crust, PERST_N holds the device in reset and its release calls for a start; the 17th
edge in a second marks CHATTER, which holds until quiet accepts the present level; ten seconds held are one event. -/
def Obligations.PinsComplete : Prop :=
  (∀ (c : Instr) (p : Pin) (l : Bool) (s : State),
    (c, p, l) ∈ [(Instr.wakeNAssert, Pin.wake, true), (.wakeNRelease, .wake, false), (.perstNAssert, .perst, true),
      (.perstNRelease, .perst, false), (.thermNRelease, .therm, false)] →
    (s.pwr.dead = true ∨ s.getF p.fields.2 = 1 ∨ s.getF p.fields.1 = l.toNat → exec c s = .next s) ∧
    (s.pwr.dead = false → s.getF p.fields.2 ≠ 1 → s.getF p.fields.1 ≠ l.toNat →
      let es := (s.pwr.edges.get p.num []).filter fun e => decide (s.stime.toNat < e.toNat + 1000000000)
      (∃ u : State, exec c s = .next u ∧ u.getF p.fields.1 = l.toNat ∧ u.pwr.edges.get p.num [] = es ++ [s.stime] ∧ u.code = s.code) ∧
      (es.length < 16 → ∃ u : State, exec c s = .next u ∧ u.getF p.fields.2 = 0) ∧
      (16 ≤ es.length → ∃ u : State, exec c s = .next u ∧ u.getF p.fields.2 = 1 ∧ u.getF F.pwrStatus_pinChatter = 1))) ∧
  (∀ s : State,
    (s.pwr.dead = true ∨ s.getF F.pwrPin_thermState = 1 ∨ s.getF F.pwrPin_thermLevel = 1 → exec .thermNAssert s = .next s.finish) ∧
    (s.pwr.dead = false → s.getF F.pwrPin_thermState ≠ 1 → s.getF F.pwrPin_thermLevel ≠ 1 → s.mode = .service ∨ s.mode = .rest →
      ∃ u : State, exec .thermNAssert s = .next (State.finish u) ∧ u.mode = .crust ∧ u.getF F.pwrPin_thermLevel = 1 ∧
        (s.getF F.pwrState_crustCause = 0 → u.getF F.pwrState_crustCause = 3)) ∧
    (s.pwr.dead = false → s.getF F.pwrPin_wakeState ≠ 1 → s.getF F.pwrPin_wakeLevel ≠ 1 → s.mode = .sleep → s.pwr.seq = .none →
      ∃ u : State, exec .wakeNAssert s = .next u ∧ u.pwr.seq = .waking false ∧ u.mem = s.mem) ∧
    (s.pwr.dead = false → s.getF F.pwrPin_wakeState ≠ 1 → s.getF F.pwrPin_wakeLevel ≠ 0 →
      ∃ u : State, exec .wakeNRelease s = .next u ∧ u.pwr.wakeSpent = false ∧ u.mode = s.mode ∧ u.mem = s.mem) ∧
    (s.pwr.dead = false → s.getF F.pwrPin_perstState ≠ 1 → s.getF F.pwrPin_perstLevel ≠ 1 →
      (s.weave.phase = .none → ∃ u : State, exec .perstNAssert s = .next u ∧ u.pwr.inReset = true ∧ u.mem = [] ∧ u.mode = .slath ∧
        u.stime = s.stime) ∧
      (s.weave.phase ≠ .none → ∃ u : State, exec .perstNAssert s = .next u ∧ u.pwr.inReset = s.pwr.inReset ∧ u.mem = s.mem ∧
        u.mode = s.mode)) ∧
    (s.pwr.dead = false → s.getF F.pwrPin_perstState ≠ 1 → s.getF F.pwrPin_perstLevel ≠ 0 →
      (s.pwr.inReset = true → ∃ u : State, exec .perstNRelease s = .next u ∧ u.pwr.inReset = false ∧ u.weave.restartDue = true ∧
        u.mem = s.mem) ∧
      (s.pwr.inReset = false → ∃ u : State, exec .perstNRelease s = .next u ∧ u.weave = s.weave ∧ u.mem = s.mem))) ∧
  (∀ (p : Pin) (l : Bool) (s : State),
    (s.getF p.fields.2 ≠ 1 → exec (.pinChatterQuiet p l) s = .next s) ∧
    (s.getF p.fields.2 = 1 → ∃ u : State, exec (.pinChatterQuiet p l) s = .next (State.finish (u.pinEdge p l)) ∧
      u.getF p.fields.2 = 0 ∧ u.pwr.edges.get p.num [] = [] ∧ u.mem = s.mem ∧ u.mode = s.mode) ∧
    (s.getF p.fields.1 ≠ 1 ∨ s.getF p.fields.2 ≠ 0 → exec (.pinHeld p) s = .next s) ∧
    (s.getF p.fields.1 = 1 → s.getF p.fields.2 = 0 → ∃ u : State, exec (.pinHeld p) s = .next u ∧ u.getF p.fields.2 = 2 ∧
      u.getF F.pwrStatus_pinHeld = 1 ∧ (p = .wake → u.pwr.wakeSpent = true) ∧ u.mem = s.mem ∧ u.mode = s.mode))

/-! ### Management -/

/-- Management requests (R687 to R692): a request whose transport the mode does not serve is not answered, one over a full queue is
answered busy; base discovery, the fault log, sensors, firmware transfers, activation and register accesses answer as the rules say;
a transfer is written to the slot that does not run, and only a verified one can be activated. -/
def Obligations.ManagementRequestsComplete : Prop :=
  (∀ (t : Transport) (c : BitVec 8) (o l : Nat) (s : State),
    (s.mgmtServed t false = false → exec (.pldmBase t c) s = .next s ∧ exec (.pldmFileRead t o l) s = .next s ∧
      exec (.pldmSensorRead t o) s = .next s) ∧
    (s.mgmtServed t false = true → 64 ≤ s.mgt.qMctp → exec (.pldmBase t c) s = .next (s.emit (.mgmt t .busy)) ∧
      exec (.pldmFileRead t o l) s = .next (s.emit (.mgmt t .busy))) ∧
    (s.mgmtServed t false = true → s.mgt.qMctp < 64 →
      let v := s.onMgt fun m => { m with qMctp := m.qMctp + 1 }
      (1 ≤ c.toNat → c.toNat ≤ 5 → exec (.pldmBase t c) s = .next (v.emit (.mgmt t .ok))) ∧
      (c.toNat = 0 ∨ 5 < c.toNat → exec (.pldmBase t c) s = .next (v.emit (.mgmt t .error))) ∧
      exec (.pldmFileRead t o l) s = .next (v.emit (.mgmt t (.records ((s.mgt.flash.drop (o / 64)).take (l / 64)))))) ∧
    (s.mgmtServed t false = true → s.mgt.shedTel = true ∨ 32 ≤ s.mgt.qTel →
      exec (.pldmSensorRead t o) s = .next (s.emit (.mgmt t .busy))) ∧
    (s.mgmtServed t false = true → s.mgt.shedTel = false → s.mgt.qTel < 32 →
      let v := s.onMgt fun m => { m with qTel := m.qTel + 1 }
      (o ≤ 2 ∨ 19 ≤ o ∧ o ≤ 26 → ∃ (u : State) (n : Nat), exec (.pldmSensorRead t o) s = .next (State.emit u (.mgmt t (.values [n]))) ∧
        u = { v with free := u.free }) ∧
      (3 ≤ o → o ≤ 18 → s.code = .oz880 → exec (.pldmSensorRead t o) s =
        .next (v.emit (.mgmt t (.values [s.getF F.pwrTemp_temp (o - 3)])))) ∧
      (o = 27 → exec (.pldmSensorRead t o) s = .next (v.emit (.mgmt t (.values [s.mode.num])))) ∧
      (o = 28 → exec (.pldmSensorRead t o) s = .next (v.emit (.mgmt t (.values [s.getF F.pwrState_stage])))) ∧
      (28 < o → exec (.pldmSensorRead t o) s = .next (v.emit (.mgmt t .error))))) ∧
  (∀ (t : Transport) (o : RegOff) (x : Word) (s : State),
    (t = .cxl → s.mode = .sleep → s.getF F.hptLink_state = 2 → exec (.regRead t o) s = .next (State.finish (s.startWake false)) ∧
      exec (.regWrite t o x) s = .next (State.finish (s.startWake false))) ∧
    (s.mode = .slath → exec (.regRead t o) s = .next s.finish ∧ exec (.regWrite t o x) s = .next s.finish) ∧
    (s.mode ≠ .slath → s.mgmtServed t false = true → s.mgt.qMctp < 64 →
      let v := s.onMgt fun m => { m with qMctp := m.qMctp + 1 }
      exec (.regRead t o) s = .next (State.finish ((v.readReg o.toNat).2.emit (.mgmt t (.value (v.readReg o.toNat).1)))) ∧
      exec (.regWrite t o x) s = .next (State.finish ((v.writeRegister o.toNat x).emit (.mgmt t .ok)))) ∧
    (s.mode ≠ .slath → s.mgmtServed t false = true → 64 ≤ s.mgt.qMctp →
      exec (.regRead t o) s = .next (State.finish (s.emit (.mgmt t .busy))) ∧
      exec (.regWrite t o x) s = .next (State.finish (s.emit (.mgmt t .busy))))) ∧
  (∀ (t : Transport) (o n : Nat) (f : FwFacts) (s : State) (c : Instr),
    c ∈ [Instr.activateFirmware t, .pldmFwTransfer t o n none, .pldmFwTransfer t o n (some f)] →
    (s.mode = .sleep → t = .i3c → exec c s = .next (s.startWake false)) ∧
    (s.mode = .sleep → t = .cxl → exec c s = .next s) ∧
    (s.mode ≠ .sleep → s.mgmtServed t true = false → exec c s = .next s) ∧
    (s.mode ≠ .sleep → s.mgmtServed t true = true → 64 ≤ s.mgt.qMctp → exec c s = .next (s.emit (.mgmt t .busy)))) ∧
  (∀ (t : Transport) (o n : Nat) (f : FwFacts) (s : State), s.mode ≠ .sleep → s.mgmtServed t true = true → s.mgt.qMctp < 64 →
    let v := s.onMgt fun m => { m with qMctp := m.qMctp + 1 }
    let k := s.updateSlot
    (16777216 < o + n → exec (.pldmFwTransfer t o n none) s = .next (v.emit (.mgmt t .error))) ∧
    (o + n ≤ 16777216 → (∃ u : State, exec (.pldmFwTransfer t o n none) s = .next u ∧ u.out = s.out ++ [.mgmt t .ok] ∧
        u.getF F.mgtFw_update = updReceiving ∧ u.fwSlot (1 - k) = s.fwSlot (1 - k) ∧ (u.fwSlot k).valid = false ∧
        (s.getF F.mgtFw_update ≠ updReceiving → (u.fwSlot k).written = o + n) ∧
        (s.getF F.mgtFw_update = updReceiving → (u.fwSlot k).written = max (s.fwSlot k).written (o + n)) ∧ u.mem = s.mem) ∧
      (f.sigOk = true → s.getF F.secFwRollback_counter ≤ f.rollback → ∃ u : State, exec (.pldmFwTransfer t o n (some f)) s = .next u ∧
        u.out = s.out ++ [.mgmt t .ok] ∧ u.getF F.mgtFw_update = updStaged ∧ u.getF F.mgtStatus_fwStaged = 1 ∧
        u.fwSlot (1 - k) = s.fwSlot (1 - k) ∧ (u.fwSlot k).valid = true ∧ (u.fwSlot k).version = f.version ∧
        u.getF F.mgtFw_active = s.getF F.mgtFw_active ∧ u.mem = s.mem) ∧
      (f.sigOk = false ∨ f.rollback < s.getF F.secFwRollback_counter → ∃ u : State,
        exec (.pldmFwTransfer t o n (some f)) s = .next u ∧ u.out = s.out ++ [.mgmt t .error] ∧
        u.getF F.mgtFw_update = updFailed ∧ u.fwSlot (1 - k) = s.fwSlot (1 - k) ∧ (u.fwSlot k).valid = false ∧ u.mem = s.mem)) ∧
    (s.getF F.mgtFw_update = updStaged → exec (.activateFirmware t) s =
      .next ((v.setF F.mgtFw_active 0 k).emit (.mgmt t .ok))) ∧
    (s.getF F.mgtFw_update ≠ updStaged → exec (.activateFirmware t) s = .next (v.emit (.mgmt t .error))))

/-- The management processor, TEL and the host link (R483, R687, R691 to R694, R701, R707, R709): nothing happens while the processor
has no power; a window over its time sheds telemetry first and logging second, and resumes logging first; the heartbeat ends a
stall, the watchdog reports one, and a restart at its bound loses queues and sessions alone; a snapshot replaces every counter at
its wale. -/
def Obligations.ManagementProcessorCompletes : Prop :=
  (∀ (n : Nat) (e : BitVec 8) (s : State),
    (s.mgmtRuns = false → exec (.mgtWindow n) s = .next s ∧ exec .mgtHeartbeatTick s = .next s ∧ exec .mpStallWatchdog s = .next s ∧
      exec .mpRestart s = .next s ∧ exec (.endpointIdAssignment e) s = .next s) ∧
    (s.mgmtRuns = true → (∃ u : State, exec (.mgtWindow n) s = .next u ∧ u.mgt.qMctp = 0 ∧ u.mgt.qTel = 0 ∧ u.mem = s.mem ∧ u.mode = s.mode ∧
        (100 < n → u.mgt.shedTel = true ∧ u.mgt.shedLog = (s.mgt.shedTel || s.mgt.shedLog)) ∧
        (90 < n → n ≤ 100 → u.mgt.shedTel = s.mgt.shedTel ∧ u.mgt.shedLog = s.mgt.shedLog) ∧
        (n ≤ 90 → u.mgt.shedLog = false ∧ (s.mgt.shedLog = false → u.mgt.shedTel = false) ∧
          (s.mgt.shedLog = true → u.mgt.shedTel = s.mgt.shedTel)) ∧
        (s.mgt.shedLog = true → u.mgt.flash = s.mgt.flash ∧ u.getF F.mgtShed_log =
          min (s.getF F.mgtShed_log + 1) (2 ^ F.mgtShed_log.width - 1)) ∧
        (s.mgt.shedLog = false → s.mgt.flash.length + s.mgt.unlogged.length ≤ flashRecords →
          u.mgt.flash = s.mgt.flash ++ s.mgt.unlogged.filterMap
            fun q => (s.mgt.ring.find? fun r => r.2.seq == q).map (·.2))) ∧
      exec .mgtHeartbeatTick s = .next
        ((s.setF F.mgtHeartbeat_count 0 (s.getF F.mgtHeartbeat_count + 1)).onMgt fun m => { m with stallMs := 0 }) ∧
      exec .mpStallWatchdog s = .next (State.flag (s.onMgt fun m => { m with stallMs := m.stallMs + 100 }) F.mgtStatus_mpStall) ∧
      exec (.endpointIdAssignment e) s = .next (s.setF F.mgtId_mctpEid 0 e.toNat) ∧
      (s.mgt.stallMs < s.act F.mgtWatchdog_restartMs → exec .mpRestart s = .next s) ∧
      (s.act F.mgtWatchdog_restartMs ≤ s.mgt.stallMs → ∃ u : State, exec .mpRestart s = .next u ∧ u.mgt.stallMs = 0 ∧ u.mgt.qMctp = 0 ∧
        u.mgt.qTel = 0 ∧ u.sec.sessions = [] ∧ u.getF F.mgtStatus_mpRestart = 1 ∧ u.mgt.flash = s.mgt.flash ∧
        u.mgt.telSnaps = s.mgt.telSnaps ∧ u.getF F.mgtFw_update ≠ updReceiving ∧ u.mem = s.mem ∧ u.mode = s.mode))) ∧
  (∀ s : State,
    (s.wale.toNat % s.mgt.telInterval ≠ 0 ∨ s.wale = s.mgt.telStart → exec .telSnapshot s = .next s) ∧
    (s.wale.toNat % s.mgt.telInterval = 0 → s.wale ≠ s.mgt.telStart → ∃ u : State, exec .telSnapshot s = .next u ∧
      u.getF F.telSnapSeq_seq = nextSeq s.mgt.telSnaps % 2 ^ F.telSnapSeq_seq.width ∧
      u.getF F.telSnapWale_wale = s.mgt.telStart.toNat ∧ u.mgt.telOpen = [] ∧
      u.mgt.telStart = s.wale ∧ u.mgt.telSnaps = nextSeq s.mgt.telSnaps ∧ u.mem = s.mem ∧ u.mode = s.mode ∧
      (∀ off c, s.mgt.telOpen = [(off, c)] → telCounter off = true → off ≠ F.telCellCycles_count.off 0 →
        off ≠ F.telEnergyJ_count.off 0 → u.reg off = BitVec.ofNat 64 (min c (2 ^ 64 - 1)))) ∧
    (∃ u : State, exec .hostLinkDown s = .next u ∧ u.getF F.hptLink_state = 0 ∧ u.getF F.hptLink_width = 0 ∧ u = { s with regs := u.regs })) ∧
  (∀ (w : Nat) (pbr : Bool) (s : State),
    (w ∉ [16, 8, 4] ∨ s.mgmtRuns = false ∨ s.getF F.pwrState_shadow ≠ 0 → exec (.hostLinkTrained w pbr) s = .next s) ∧
    (w ∈ [16, 8, 4] → s.mgmtRuns = true → s.getF F.pwrState_shadow = 0 → ∃ u : State, exec (.hostLinkTrained w pbr) s = .next u ∧
      u.getF F.hptLink_state = 2 ∧ u.getF F.hptLink_width = w ∧ u.getF F.hptLink_rateGt = 64 ∧ u.getF F.hptLink_pbr = pbr.toNat ∧
      u = { s with regs := u.regs }))

/-- Fault records (R700) and the attention of the management block (R695, R702). An occurrence with the block, bit, index and tenant of
the newest record, within 1 ms of its stand time, adds 1 to that record's count, which saturates, and writes no new record. Class 3
is pending for tenant 0 exactly while SEQ and ACK differ, class 6 while MP_STALL or FW_STAGED is 1, and ALERT_N follows class 6. -/
def Obligations.FaultRecordsAndAttention : Prop :=
  (∀ (b i : Nat) (n : Note) (r : FaultRec) (s : State), let q := s.getF F.mgtFaultSeq_seq
    q ≠ 0 → (s.mgt.ring.find? fun e => e.1 == q % 512) = some (q % 512, r) → r.seq = q →
    r.block = b → r.bit = i → r.index = n.index → r.tenant = n.tenant → s.stime.toNat < r.stime.toNat + 1000000 →
    ∃ u : State, s.raise b i n = u ∧ u.mgt.ring.get (q % 512) r = { r with count := min (r.count + 1) 65535 } ∧
      (∀ k, k ≠ q % 512 → u.mgt.ring.get k r = s.mgt.ring.get k r) ∧ u.getF F.mgtFaultSeq_seq = q ∧
      u = { s with mgt := { s.mgt with ring := u.mgt.ring } }) ∧
  (∀ s : State,
    s.pendingClass 0 3 = decide (s.getF F.mgtFaultSeq_seq ≠ s.getF F.mgtFaultAck_ack) ∧
    (s.pendingClass 0 6 = true ↔ s.getF F.mgtStatus_mpStall = 1 ∨ s.getF F.mgtStatus_fwStaged = 1) ∧
    (s.pendingClass 0 6 = true → s.alertDriven = true) ∧
    (∀ t : Tenant, t ≠ 0 → s.pendingClass t 3 = false ∧ s.pendingClass t 6 = false))

/-! ### Every step -/

/-- The memory keeps its canonical form over every step, whatever the command: addresses strictly rising, no entry at the value an
unlisted byte reads as. -/
def Obligations.StepKeepsMemoryCanonical : Prop :=
  ∀ s t : State, s.mem.wf = true → step s = .next t → t.mem.wf = true

/-- A step takes the command at the front of the queue and no other, and none puts a command into it or changes which chip the device
is: the queue is what the outside world sends, the ordering code what was built. -/
def Obligations.StepTakesOneCommand : Prop :=
  ∀ (s t : State), step s = .next t → t.pending = s.pending.tail ∧ t.code = s.code
end

