-- ==== Sys2Proof/Laws/State.lean ====
section
/-! SUPPORT. What each named update of the state leaves in each of its fields: one lemma per field per update, true by definition. -/
namespace Sys2Proof.Machine

variable (s : State)

section onTier
variable (g : TierS → TierS)
@[simp] theorem State.onTier_code : (s.onTier g).code = s.code := rfl
@[simp] theorem State.onTier_device : (s.onTier g).device = s.device := rfl
@[simp] theorem State.onTier_mode : (s.onTier g).mode = s.mode := rfl
@[simp] theorem State.onTier_wale : (s.onTier g).wale = s.wale := rfl
@[simp] theorem State.onTier_stime : (s.onTier g).stime = s.stime := rfl
@[simp] theorem State.onTier_free : (s.onTier g).free = s.free := rfl
@[simp] theorem State.onTier_regs : (s.onTier g).regs = s.regs := rfl
@[simp] theorem State.onTier_inForce : (s.onTier g).inForce = s.inForce := rfl
@[simp] theorem State.onTier_mem : (s.onTier g).mem = s.mem := rfl
@[simp] theorem State.onTier_tier : (s.onTier g).tier = g s.tier := rfl
@[simp] theorem State.onTier_xlt : (s.onTier g).xlt = s.xlt := rfl
@[simp] theorem State.onTier_cell : (s.onTier g).cell = s.cell := rfl
@[simp] theorem State.onTier_sched : (s.onTier g).sched = s.sched := rfl
@[simp] theorem State.onTier_svc : (s.onTier g).svc = s.svc := rfl
@[simp] theorem State.onTier_srch : (s.onTier g).srch = s.srch := rfl
@[simp] theorem State.onTier_fab : (s.onTier g).fab = s.fab := rfl
@[simp] theorem State.onTier_hpt : (s.onTier g).hpt = s.hpt := rfl
@[simp] theorem State.onTier_map : (s.onTier g).map = s.map := rfl
@[simp] theorem State.onTier_weave : (s.onTier g).weave = s.weave := rfl
@[simp] theorem State.onTier_sec : (s.onTier g).sec = s.sec := rfl
@[simp] theorem State.onTier_pwr : (s.onTier g).pwr = s.pwr := rfl
@[simp] theorem State.onTier_mgt : (s.onTier g).mgt = s.mgt := rfl
@[simp] theorem State.onTier_out : (s.onTier g).out = s.out := rfl
@[simp] theorem State.onTier_pending : (s.onTier g).pending = s.pending := rfl
end onTier

section onXlt
variable (g : XltS → XltS)
@[simp] theorem State.onXlt_code : (s.onXlt g).code = s.code := rfl
@[simp] theorem State.onXlt_device : (s.onXlt g).device = s.device := rfl
@[simp] theorem State.onXlt_mode : (s.onXlt g).mode = s.mode := rfl
@[simp] theorem State.onXlt_wale : (s.onXlt g).wale = s.wale := rfl
@[simp] theorem State.onXlt_stime : (s.onXlt g).stime = s.stime := rfl
@[simp] theorem State.onXlt_free : (s.onXlt g).free = s.free := rfl
@[simp] theorem State.onXlt_regs : (s.onXlt g).regs = s.regs := rfl
@[simp] theorem State.onXlt_inForce : (s.onXlt g).inForce = s.inForce := rfl
@[simp] theorem State.onXlt_mem : (s.onXlt g).mem = s.mem := rfl
@[simp] theorem State.onXlt_tier : (s.onXlt g).tier = s.tier := rfl
@[simp] theorem State.onXlt_xlt : (s.onXlt g).xlt = g s.xlt := rfl
@[simp] theorem State.onXlt_cell : (s.onXlt g).cell = s.cell := rfl
@[simp] theorem State.onXlt_sched : (s.onXlt g).sched = s.sched := rfl
@[simp] theorem State.onXlt_svc : (s.onXlt g).svc = s.svc := rfl
@[simp] theorem State.onXlt_srch : (s.onXlt g).srch = s.srch := rfl
@[simp] theorem State.onXlt_fab : (s.onXlt g).fab = s.fab := rfl
@[simp] theorem State.onXlt_hpt : (s.onXlt g).hpt = s.hpt := rfl
@[simp] theorem State.onXlt_map : (s.onXlt g).map = s.map := rfl
@[simp] theorem State.onXlt_weave : (s.onXlt g).weave = s.weave := rfl
@[simp] theorem State.onXlt_sec : (s.onXlt g).sec = s.sec := rfl
@[simp] theorem State.onXlt_pwr : (s.onXlt g).pwr = s.pwr := rfl
@[simp] theorem State.onXlt_mgt : (s.onXlt g).mgt = s.mgt := rfl
@[simp] theorem State.onXlt_out : (s.onXlt g).out = s.out := rfl
@[simp] theorem State.onXlt_pending : (s.onXlt g).pending = s.pending := rfl
end onXlt

section onCell
variable (g : CellS → CellS)
@[simp] theorem State.onCell_code : (s.onCell g).code = s.code := rfl
@[simp] theorem State.onCell_device : (s.onCell g).device = s.device := rfl
@[simp] theorem State.onCell_mode : (s.onCell g).mode = s.mode := rfl
@[simp] theorem State.onCell_wale : (s.onCell g).wale = s.wale := rfl
@[simp] theorem State.onCell_stime : (s.onCell g).stime = s.stime := rfl
@[simp] theorem State.onCell_free : (s.onCell g).free = s.free := rfl
@[simp] theorem State.onCell_regs : (s.onCell g).regs = s.regs := rfl
@[simp] theorem State.onCell_inForce : (s.onCell g).inForce = s.inForce := rfl
@[simp] theorem State.onCell_mem : (s.onCell g).mem = s.mem := rfl
@[simp] theorem State.onCell_tier : (s.onCell g).tier = s.tier := rfl
@[simp] theorem State.onCell_xlt : (s.onCell g).xlt = s.xlt := rfl
@[simp] theorem State.onCell_cell : (s.onCell g).cell = g s.cell := rfl
@[simp] theorem State.onCell_sched : (s.onCell g).sched = s.sched := rfl
@[simp] theorem State.onCell_svc : (s.onCell g).svc = s.svc := rfl
@[simp] theorem State.onCell_srch : (s.onCell g).srch = s.srch := rfl
@[simp] theorem State.onCell_fab : (s.onCell g).fab = s.fab := rfl
@[simp] theorem State.onCell_hpt : (s.onCell g).hpt = s.hpt := rfl
@[simp] theorem State.onCell_map : (s.onCell g).map = s.map := rfl
@[simp] theorem State.onCell_weave : (s.onCell g).weave = s.weave := rfl
@[simp] theorem State.onCell_sec : (s.onCell g).sec = s.sec := rfl
@[simp] theorem State.onCell_pwr : (s.onCell g).pwr = s.pwr := rfl
@[simp] theorem State.onCell_mgt : (s.onCell g).mgt = s.mgt := rfl
@[simp] theorem State.onCell_out : (s.onCell g).out = s.out := rfl
@[simp] theorem State.onCell_pending : (s.onCell g).pending = s.pending := rfl
end onCell

section onSched
variable (g : SchedS → SchedS)
@[simp] theorem State.onSched_code : (s.onSched g).code = s.code := rfl
@[simp] theorem State.onSched_device : (s.onSched g).device = s.device := rfl
@[simp] theorem State.onSched_mode : (s.onSched g).mode = s.mode := rfl
@[simp] theorem State.onSched_wale : (s.onSched g).wale = s.wale := rfl
@[simp] theorem State.onSched_stime : (s.onSched g).stime = s.stime := rfl
@[simp] theorem State.onSched_free : (s.onSched g).free = s.free := rfl
@[simp] theorem State.onSched_regs : (s.onSched g).regs = s.regs := rfl
@[simp] theorem State.onSched_inForce : (s.onSched g).inForce = s.inForce := rfl
@[simp] theorem State.onSched_mem : (s.onSched g).mem = s.mem := rfl
@[simp] theorem State.onSched_tier : (s.onSched g).tier = s.tier := rfl
@[simp] theorem State.onSched_xlt : (s.onSched g).xlt = s.xlt := rfl
@[simp] theorem State.onSched_cell : (s.onSched g).cell = s.cell := rfl
@[simp] theorem State.onSched_sched : (s.onSched g).sched = g s.sched := rfl
@[simp] theorem State.onSched_svc : (s.onSched g).svc = s.svc := rfl
@[simp] theorem State.onSched_srch : (s.onSched g).srch = s.srch := rfl
@[simp] theorem State.onSched_fab : (s.onSched g).fab = s.fab := rfl
@[simp] theorem State.onSched_hpt : (s.onSched g).hpt = s.hpt := rfl
@[simp] theorem State.onSched_map : (s.onSched g).map = s.map := rfl
@[simp] theorem State.onSched_weave : (s.onSched g).weave = s.weave := rfl
@[simp] theorem State.onSched_sec : (s.onSched g).sec = s.sec := rfl
@[simp] theorem State.onSched_pwr : (s.onSched g).pwr = s.pwr := rfl
@[simp] theorem State.onSched_mgt : (s.onSched g).mgt = s.mgt := rfl
@[simp] theorem State.onSched_out : (s.onSched g).out = s.out := rfl
@[simp] theorem State.onSched_pending : (s.onSched g).pending = s.pending := rfl
end onSched

section onSvc
variable (g : SvcS → SvcS)
@[simp] theorem State.onSvc_code : (s.onSvc g).code = s.code := rfl
@[simp] theorem State.onSvc_device : (s.onSvc g).device = s.device := rfl
@[simp] theorem State.onSvc_mode : (s.onSvc g).mode = s.mode := rfl
@[simp] theorem State.onSvc_wale : (s.onSvc g).wale = s.wale := rfl
@[simp] theorem State.onSvc_stime : (s.onSvc g).stime = s.stime := rfl
@[simp] theorem State.onSvc_free : (s.onSvc g).free = s.free := rfl
@[simp] theorem State.onSvc_regs : (s.onSvc g).regs = s.regs := rfl
@[simp] theorem State.onSvc_inForce : (s.onSvc g).inForce = s.inForce := rfl
@[simp] theorem State.onSvc_mem : (s.onSvc g).mem = s.mem := rfl
@[simp] theorem State.onSvc_tier : (s.onSvc g).tier = s.tier := rfl
@[simp] theorem State.onSvc_xlt : (s.onSvc g).xlt = s.xlt := rfl
@[simp] theorem State.onSvc_cell : (s.onSvc g).cell = s.cell := rfl
@[simp] theorem State.onSvc_sched : (s.onSvc g).sched = s.sched := rfl
@[simp] theorem State.onSvc_svc : (s.onSvc g).svc = g s.svc := rfl
@[simp] theorem State.onSvc_srch : (s.onSvc g).srch = s.srch := rfl
@[simp] theorem State.onSvc_fab : (s.onSvc g).fab = s.fab := rfl
@[simp] theorem State.onSvc_hpt : (s.onSvc g).hpt = s.hpt := rfl
@[simp] theorem State.onSvc_map : (s.onSvc g).map = s.map := rfl
@[simp] theorem State.onSvc_weave : (s.onSvc g).weave = s.weave := rfl
@[simp] theorem State.onSvc_sec : (s.onSvc g).sec = s.sec := rfl
@[simp] theorem State.onSvc_pwr : (s.onSvc g).pwr = s.pwr := rfl
@[simp] theorem State.onSvc_mgt : (s.onSvc g).mgt = s.mgt := rfl
@[simp] theorem State.onSvc_out : (s.onSvc g).out = s.out := rfl
@[simp] theorem State.onSvc_pending : (s.onSvc g).pending = s.pending := rfl
end onSvc

section onSrch
variable (g : SrchS → SrchS)
@[simp] theorem State.onSrch_code : (s.onSrch g).code = s.code := rfl
@[simp] theorem State.onSrch_device : (s.onSrch g).device = s.device := rfl
@[simp] theorem State.onSrch_mode : (s.onSrch g).mode = s.mode := rfl
@[simp] theorem State.onSrch_wale : (s.onSrch g).wale = s.wale := rfl
@[simp] theorem State.onSrch_stime : (s.onSrch g).stime = s.stime := rfl
@[simp] theorem State.onSrch_free : (s.onSrch g).free = s.free := rfl
@[simp] theorem State.onSrch_regs : (s.onSrch g).regs = s.regs := rfl
@[simp] theorem State.onSrch_inForce : (s.onSrch g).inForce = s.inForce := rfl
@[simp] theorem State.onSrch_mem : (s.onSrch g).mem = s.mem := rfl
@[simp] theorem State.onSrch_tier : (s.onSrch g).tier = s.tier := rfl
@[simp] theorem State.onSrch_xlt : (s.onSrch g).xlt = s.xlt := rfl
@[simp] theorem State.onSrch_cell : (s.onSrch g).cell = s.cell := rfl
@[simp] theorem State.onSrch_sched : (s.onSrch g).sched = s.sched := rfl
@[simp] theorem State.onSrch_svc : (s.onSrch g).svc = s.svc := rfl
@[simp] theorem State.onSrch_srch : (s.onSrch g).srch = g s.srch := rfl
@[simp] theorem State.onSrch_fab : (s.onSrch g).fab = s.fab := rfl
@[simp] theorem State.onSrch_hpt : (s.onSrch g).hpt = s.hpt := rfl
@[simp] theorem State.onSrch_map : (s.onSrch g).map = s.map := rfl
@[simp] theorem State.onSrch_weave : (s.onSrch g).weave = s.weave := rfl
@[simp] theorem State.onSrch_sec : (s.onSrch g).sec = s.sec := rfl
@[simp] theorem State.onSrch_pwr : (s.onSrch g).pwr = s.pwr := rfl
@[simp] theorem State.onSrch_mgt : (s.onSrch g).mgt = s.mgt := rfl
@[simp] theorem State.onSrch_out : (s.onSrch g).out = s.out := rfl
@[simp] theorem State.onSrch_pending : (s.onSrch g).pending = s.pending := rfl
end onSrch

section onFab
variable (g : FabS → FabS)
@[simp] theorem State.onFab_code : (s.onFab g).code = s.code := rfl
@[simp] theorem State.onFab_device : (s.onFab g).device = s.device := rfl
@[simp] theorem State.onFab_mode : (s.onFab g).mode = s.mode := rfl
@[simp] theorem State.onFab_wale : (s.onFab g).wale = s.wale := rfl
@[simp] theorem State.onFab_stime : (s.onFab g).stime = s.stime := rfl
@[simp] theorem State.onFab_free : (s.onFab g).free = s.free := rfl
@[simp] theorem State.onFab_regs : (s.onFab g).regs = s.regs := rfl
@[simp] theorem State.onFab_inForce : (s.onFab g).inForce = s.inForce := rfl
@[simp] theorem State.onFab_mem : (s.onFab g).mem = s.mem := rfl
@[simp] theorem State.onFab_tier : (s.onFab g).tier = s.tier := rfl
@[simp] theorem State.onFab_xlt : (s.onFab g).xlt = s.xlt := rfl
@[simp] theorem State.onFab_cell : (s.onFab g).cell = s.cell := rfl
@[simp] theorem State.onFab_sched : (s.onFab g).sched = s.sched := rfl
@[simp] theorem State.onFab_svc : (s.onFab g).svc = s.svc := rfl
@[simp] theorem State.onFab_srch : (s.onFab g).srch = s.srch := rfl
@[simp] theorem State.onFab_fab : (s.onFab g).fab = g s.fab := rfl
@[simp] theorem State.onFab_hpt : (s.onFab g).hpt = s.hpt := rfl
@[simp] theorem State.onFab_map : (s.onFab g).map = s.map := rfl
@[simp] theorem State.onFab_weave : (s.onFab g).weave = s.weave := rfl
@[simp] theorem State.onFab_sec : (s.onFab g).sec = s.sec := rfl
@[simp] theorem State.onFab_pwr : (s.onFab g).pwr = s.pwr := rfl
@[simp] theorem State.onFab_mgt : (s.onFab g).mgt = s.mgt := rfl
@[simp] theorem State.onFab_out : (s.onFab g).out = s.out := rfl
@[simp] theorem State.onFab_pending : (s.onFab g).pending = s.pending := rfl
end onFab

section onHpt
variable (g : HptS → HptS)
@[simp] theorem State.onHpt_code : (s.onHpt g).code = s.code := rfl
@[simp] theorem State.onHpt_device : (s.onHpt g).device = s.device := rfl
@[simp] theorem State.onHpt_mode : (s.onHpt g).mode = s.mode := rfl
@[simp] theorem State.onHpt_wale : (s.onHpt g).wale = s.wale := rfl
@[simp] theorem State.onHpt_stime : (s.onHpt g).stime = s.stime := rfl
@[simp] theorem State.onHpt_free : (s.onHpt g).free = s.free := rfl
@[simp] theorem State.onHpt_regs : (s.onHpt g).regs = s.regs := rfl
@[simp] theorem State.onHpt_inForce : (s.onHpt g).inForce = s.inForce := rfl
@[simp] theorem State.onHpt_mem : (s.onHpt g).mem = s.mem := rfl
@[simp] theorem State.onHpt_tier : (s.onHpt g).tier = s.tier := rfl
@[simp] theorem State.onHpt_xlt : (s.onHpt g).xlt = s.xlt := rfl
@[simp] theorem State.onHpt_cell : (s.onHpt g).cell = s.cell := rfl
@[simp] theorem State.onHpt_sched : (s.onHpt g).sched = s.sched := rfl
@[simp] theorem State.onHpt_svc : (s.onHpt g).svc = s.svc := rfl
@[simp] theorem State.onHpt_srch : (s.onHpt g).srch = s.srch := rfl
@[simp] theorem State.onHpt_fab : (s.onHpt g).fab = s.fab := rfl
@[simp] theorem State.onHpt_hpt : (s.onHpt g).hpt = g s.hpt := rfl
@[simp] theorem State.onHpt_map : (s.onHpt g).map = s.map := rfl
@[simp] theorem State.onHpt_weave : (s.onHpt g).weave = s.weave := rfl
@[simp] theorem State.onHpt_sec : (s.onHpt g).sec = s.sec := rfl
@[simp] theorem State.onHpt_pwr : (s.onHpt g).pwr = s.pwr := rfl
@[simp] theorem State.onHpt_mgt : (s.onHpt g).mgt = s.mgt := rfl
@[simp] theorem State.onHpt_out : (s.onHpt g).out = s.out := rfl
@[simp] theorem State.onHpt_pending : (s.onHpt g).pending = s.pending := rfl
end onHpt

section onMap
variable (g : MapS → MapS)
@[simp] theorem State.onMap_code : (s.onMap g).code = s.code := rfl
@[simp] theorem State.onMap_device : (s.onMap g).device = s.device := rfl
@[simp] theorem State.onMap_mode : (s.onMap g).mode = s.mode := rfl
@[simp] theorem State.onMap_wale : (s.onMap g).wale = s.wale := rfl
@[simp] theorem State.onMap_stime : (s.onMap g).stime = s.stime := rfl
@[simp] theorem State.onMap_free : (s.onMap g).free = s.free := rfl
@[simp] theorem State.onMap_regs : (s.onMap g).regs = s.regs := rfl
@[simp] theorem State.onMap_inForce : (s.onMap g).inForce = s.inForce := rfl
@[simp] theorem State.onMap_mem : (s.onMap g).mem = s.mem := rfl
@[simp] theorem State.onMap_tier : (s.onMap g).tier = s.tier := rfl
@[simp] theorem State.onMap_xlt : (s.onMap g).xlt = s.xlt := rfl
@[simp] theorem State.onMap_cell : (s.onMap g).cell = s.cell := rfl
@[simp] theorem State.onMap_sched : (s.onMap g).sched = s.sched := rfl
@[simp] theorem State.onMap_svc : (s.onMap g).svc = s.svc := rfl
@[simp] theorem State.onMap_srch : (s.onMap g).srch = s.srch := rfl
@[simp] theorem State.onMap_fab : (s.onMap g).fab = s.fab := rfl
@[simp] theorem State.onMap_hpt : (s.onMap g).hpt = s.hpt := rfl
@[simp] theorem State.onMap_map : (s.onMap g).map = g s.map := rfl
@[simp] theorem State.onMap_weave : (s.onMap g).weave = s.weave := rfl
@[simp] theorem State.onMap_sec : (s.onMap g).sec = s.sec := rfl
@[simp] theorem State.onMap_pwr : (s.onMap g).pwr = s.pwr := rfl
@[simp] theorem State.onMap_mgt : (s.onMap g).mgt = s.mgt := rfl
@[simp] theorem State.onMap_out : (s.onMap g).out = s.out := rfl
@[simp] theorem State.onMap_pending : (s.onMap g).pending = s.pending := rfl
end onMap

section onWeave
variable (g : WeaveS → WeaveS)
@[simp] theorem State.onWeave_code : (s.onWeave g).code = s.code := rfl
@[simp] theorem State.onWeave_device : (s.onWeave g).device = s.device := rfl
@[simp] theorem State.onWeave_mode : (s.onWeave g).mode = s.mode := rfl
@[simp] theorem State.onWeave_wale : (s.onWeave g).wale = s.wale := rfl
@[simp] theorem State.onWeave_stime : (s.onWeave g).stime = s.stime := rfl
@[simp] theorem State.onWeave_free : (s.onWeave g).free = s.free := rfl
@[simp] theorem State.onWeave_regs : (s.onWeave g).regs = s.regs := rfl
@[simp] theorem State.onWeave_inForce : (s.onWeave g).inForce = s.inForce := rfl
@[simp] theorem State.onWeave_mem : (s.onWeave g).mem = s.mem := rfl
@[simp] theorem State.onWeave_tier : (s.onWeave g).tier = s.tier := rfl
@[simp] theorem State.onWeave_xlt : (s.onWeave g).xlt = s.xlt := rfl
@[simp] theorem State.onWeave_cell : (s.onWeave g).cell = s.cell := rfl
@[simp] theorem State.onWeave_sched : (s.onWeave g).sched = s.sched := rfl
@[simp] theorem State.onWeave_svc : (s.onWeave g).svc = s.svc := rfl
@[simp] theorem State.onWeave_srch : (s.onWeave g).srch = s.srch := rfl
@[simp] theorem State.onWeave_fab : (s.onWeave g).fab = s.fab := rfl
@[simp] theorem State.onWeave_hpt : (s.onWeave g).hpt = s.hpt := rfl
@[simp] theorem State.onWeave_map : (s.onWeave g).map = s.map := rfl
@[simp] theorem State.onWeave_weave : (s.onWeave g).weave = g s.weave := rfl
@[simp] theorem State.onWeave_sec : (s.onWeave g).sec = s.sec := rfl
@[simp] theorem State.onWeave_pwr : (s.onWeave g).pwr = s.pwr := rfl
@[simp] theorem State.onWeave_mgt : (s.onWeave g).mgt = s.mgt := rfl
@[simp] theorem State.onWeave_out : (s.onWeave g).out = s.out := rfl
@[simp] theorem State.onWeave_pending : (s.onWeave g).pending = s.pending := rfl
end onWeave

section onSec
variable (g : SecS → SecS)
@[simp] theorem State.onSec_code : (s.onSec g).code = s.code := rfl
@[simp] theorem State.onSec_device : (s.onSec g).device = s.device := rfl
@[simp] theorem State.onSec_mode : (s.onSec g).mode = s.mode := rfl
@[simp] theorem State.onSec_wale : (s.onSec g).wale = s.wale := rfl
@[simp] theorem State.onSec_stime : (s.onSec g).stime = s.stime := rfl
@[simp] theorem State.onSec_free : (s.onSec g).free = s.free := rfl
@[simp] theorem State.onSec_regs : (s.onSec g).regs = s.regs := rfl
@[simp] theorem State.onSec_inForce : (s.onSec g).inForce = s.inForce := rfl
@[simp] theorem State.onSec_mem : (s.onSec g).mem = s.mem := rfl
@[simp] theorem State.onSec_tier : (s.onSec g).tier = s.tier := rfl
@[simp] theorem State.onSec_xlt : (s.onSec g).xlt = s.xlt := rfl
@[simp] theorem State.onSec_cell : (s.onSec g).cell = s.cell := rfl
@[simp] theorem State.onSec_sched : (s.onSec g).sched = s.sched := rfl
@[simp] theorem State.onSec_svc : (s.onSec g).svc = s.svc := rfl
@[simp] theorem State.onSec_srch : (s.onSec g).srch = s.srch := rfl
@[simp] theorem State.onSec_fab : (s.onSec g).fab = s.fab := rfl
@[simp] theorem State.onSec_hpt : (s.onSec g).hpt = s.hpt := rfl
@[simp] theorem State.onSec_map : (s.onSec g).map = s.map := rfl
@[simp] theorem State.onSec_weave : (s.onSec g).weave = s.weave := rfl
@[simp] theorem State.onSec_sec : (s.onSec g).sec = g s.sec := rfl
@[simp] theorem State.onSec_pwr : (s.onSec g).pwr = s.pwr := rfl
@[simp] theorem State.onSec_mgt : (s.onSec g).mgt = s.mgt := rfl
@[simp] theorem State.onSec_out : (s.onSec g).out = s.out := rfl
@[simp] theorem State.onSec_pending : (s.onSec g).pending = s.pending := rfl
end onSec

section onPwr
variable (g : PwrS → PwrS)
@[simp] theorem State.onPwr_code : (s.onPwr g).code = s.code := rfl
@[simp] theorem State.onPwr_device : (s.onPwr g).device = s.device := rfl
@[simp] theorem State.onPwr_mode : (s.onPwr g).mode = s.mode := rfl
@[simp] theorem State.onPwr_wale : (s.onPwr g).wale = s.wale := rfl
@[simp] theorem State.onPwr_stime : (s.onPwr g).stime = s.stime := rfl
@[simp] theorem State.onPwr_free : (s.onPwr g).free = s.free := rfl
@[simp] theorem State.onPwr_regs : (s.onPwr g).regs = s.regs := rfl
@[simp] theorem State.onPwr_inForce : (s.onPwr g).inForce = s.inForce := rfl
@[simp] theorem State.onPwr_mem : (s.onPwr g).mem = s.mem := rfl
@[simp] theorem State.onPwr_tier : (s.onPwr g).tier = s.tier := rfl
@[simp] theorem State.onPwr_xlt : (s.onPwr g).xlt = s.xlt := rfl
@[simp] theorem State.onPwr_cell : (s.onPwr g).cell = s.cell := rfl
@[simp] theorem State.onPwr_sched : (s.onPwr g).sched = s.sched := rfl
@[simp] theorem State.onPwr_svc : (s.onPwr g).svc = s.svc := rfl
@[simp] theorem State.onPwr_srch : (s.onPwr g).srch = s.srch := rfl
@[simp] theorem State.onPwr_fab : (s.onPwr g).fab = s.fab := rfl
@[simp] theorem State.onPwr_hpt : (s.onPwr g).hpt = s.hpt := rfl
@[simp] theorem State.onPwr_map : (s.onPwr g).map = s.map := rfl
@[simp] theorem State.onPwr_weave : (s.onPwr g).weave = s.weave := rfl
@[simp] theorem State.onPwr_sec : (s.onPwr g).sec = s.sec := rfl
@[simp] theorem State.onPwr_pwr : (s.onPwr g).pwr = g s.pwr := rfl
@[simp] theorem State.onPwr_mgt : (s.onPwr g).mgt = s.mgt := rfl
@[simp] theorem State.onPwr_out : (s.onPwr g).out = s.out := rfl
@[simp] theorem State.onPwr_pending : (s.onPwr g).pending = s.pending := rfl
end onPwr

section onMgt
variable (g : MgtS → MgtS)
@[simp] theorem State.onMgt_code : (s.onMgt g).code = s.code := rfl
@[simp] theorem State.onMgt_device : (s.onMgt g).device = s.device := rfl
@[simp] theorem State.onMgt_mode : (s.onMgt g).mode = s.mode := rfl
@[simp] theorem State.onMgt_wale : (s.onMgt g).wale = s.wale := rfl
@[simp] theorem State.onMgt_stime : (s.onMgt g).stime = s.stime := rfl
@[simp] theorem State.onMgt_free : (s.onMgt g).free = s.free := rfl
@[simp] theorem State.onMgt_regs : (s.onMgt g).regs = s.regs := rfl
@[simp] theorem State.onMgt_inForce : (s.onMgt g).inForce = s.inForce := rfl
@[simp] theorem State.onMgt_mem : (s.onMgt g).mem = s.mem := rfl
@[simp] theorem State.onMgt_tier : (s.onMgt g).tier = s.tier := rfl
@[simp] theorem State.onMgt_xlt : (s.onMgt g).xlt = s.xlt := rfl
@[simp] theorem State.onMgt_cell : (s.onMgt g).cell = s.cell := rfl
@[simp] theorem State.onMgt_sched : (s.onMgt g).sched = s.sched := rfl
@[simp] theorem State.onMgt_svc : (s.onMgt g).svc = s.svc := rfl
@[simp] theorem State.onMgt_srch : (s.onMgt g).srch = s.srch := rfl
@[simp] theorem State.onMgt_fab : (s.onMgt g).fab = s.fab := rfl
@[simp] theorem State.onMgt_hpt : (s.onMgt g).hpt = s.hpt := rfl
@[simp] theorem State.onMgt_map : (s.onMgt g).map = s.map := rfl
@[simp] theorem State.onMgt_weave : (s.onMgt g).weave = s.weave := rfl
@[simp] theorem State.onMgt_sec : (s.onMgt g).sec = s.sec := rfl
@[simp] theorem State.onMgt_pwr : (s.onMgt g).pwr = s.pwr := rfl
@[simp] theorem State.onMgt_mgt : (s.onMgt g).mgt = g s.mgt := rfl
@[simp] theorem State.onMgt_out : (s.onMgt g).out = s.out := rfl
@[simp] theorem State.onMgt_pending : (s.onMgt g).pending = s.pending := rfl
end onMgt

section setReg
variable (off : Nat) (w : Word)
@[simp] theorem State.setReg_code : (s.setReg off w).code = s.code := rfl
@[simp] theorem State.setReg_device : (s.setReg off w).device = s.device := rfl
@[simp] theorem State.setReg_mode : (s.setReg off w).mode = s.mode := rfl
@[simp] theorem State.setReg_wale : (s.setReg off w).wale = s.wale := rfl
@[simp] theorem State.setReg_stime : (s.setReg off w).stime = s.stime := rfl
@[simp] theorem State.setReg_free : (s.setReg off w).free = s.free := rfl
@[simp] theorem State.setReg_inForce : (s.setReg off w).inForce = s.inForce := rfl
@[simp] theorem State.setReg_mem : (s.setReg off w).mem = s.mem := rfl
@[simp] theorem State.setReg_tier : (s.setReg off w).tier = s.tier := rfl
@[simp] theorem State.setReg_xlt : (s.setReg off w).xlt = s.xlt := rfl
@[simp] theorem State.setReg_cell : (s.setReg off w).cell = s.cell := rfl
@[simp] theorem State.setReg_sched : (s.setReg off w).sched = s.sched := rfl
@[simp] theorem State.setReg_svc : (s.setReg off w).svc = s.svc := rfl
@[simp] theorem State.setReg_srch : (s.setReg off w).srch = s.srch := rfl
@[simp] theorem State.setReg_fab : (s.setReg off w).fab = s.fab := rfl
@[simp] theorem State.setReg_hpt : (s.setReg off w).hpt = s.hpt := rfl
@[simp] theorem State.setReg_map : (s.setReg off w).map = s.map := rfl
@[simp] theorem State.setReg_weave : (s.setReg off w).weave = s.weave := rfl
@[simp] theorem State.setReg_sec : (s.setReg off w).sec = s.sec := rfl
@[simp] theorem State.setReg_pwr : (s.setReg off w).pwr = s.pwr := rfl
@[simp] theorem State.setReg_mgt : (s.setReg off w).mgt = s.mgt := rfl
@[simp] theorem State.setReg_out : (s.setReg off w).out = s.out := rfl
@[simp] theorem State.setReg_pending : (s.setReg off w).pending = s.pending := rfl
end setReg

section setF
variable (f : Fld) (i v : Nat)
@[simp] theorem State.setF_code : (s.setF f i v).code = s.code := rfl
@[simp] theorem State.setF_device : (s.setF f i v).device = s.device := rfl
@[simp] theorem State.setF_mode : (s.setF f i v).mode = s.mode := rfl
@[simp] theorem State.setF_wale : (s.setF f i v).wale = s.wale := rfl
@[simp] theorem State.setF_stime : (s.setF f i v).stime = s.stime := rfl
@[simp] theorem State.setF_free : (s.setF f i v).free = s.free := rfl
@[simp] theorem State.setF_inForce : (s.setF f i v).inForce = s.inForce := rfl
@[simp] theorem State.setF_mem : (s.setF f i v).mem = s.mem := rfl
@[simp] theorem State.setF_tier : (s.setF f i v).tier = s.tier := rfl
@[simp] theorem State.setF_xlt : (s.setF f i v).xlt = s.xlt := rfl
@[simp] theorem State.setF_cell : (s.setF f i v).cell = s.cell := rfl
@[simp] theorem State.setF_sched : (s.setF f i v).sched = s.sched := rfl
@[simp] theorem State.setF_svc : (s.setF f i v).svc = s.svc := rfl
@[simp] theorem State.setF_srch : (s.setF f i v).srch = s.srch := rfl
@[simp] theorem State.setF_fab : (s.setF f i v).fab = s.fab := rfl
@[simp] theorem State.setF_hpt : (s.setF f i v).hpt = s.hpt := rfl
@[simp] theorem State.setF_map : (s.setF f i v).map = s.map := rfl
@[simp] theorem State.setF_weave : (s.setF f i v).weave = s.weave := rfl
@[simp] theorem State.setF_sec : (s.setF f i v).sec = s.sec := rfl
@[simp] theorem State.setF_pwr : (s.setF f i v).pwr = s.pwr := rfl
@[simp] theorem State.setF_mgt : (s.setF f i v).mgt = s.mgt := rfl
@[simp] theorem State.setF_out : (s.setF f i v).out = s.out := rfl
@[simp] theorem State.setF_pending : (s.setF f i v).pending = s.pending := rfl
end setF

section addF
variable (f : Fld) (i n : Nat)
@[simp] theorem State.addF_code : (s.addF f i n).code = s.code := rfl
@[simp] theorem State.addF_device : (s.addF f i n).device = s.device := rfl
@[simp] theorem State.addF_mode : (s.addF f i n).mode = s.mode := rfl
@[simp] theorem State.addF_wale : (s.addF f i n).wale = s.wale := rfl
@[simp] theorem State.addF_stime : (s.addF f i n).stime = s.stime := rfl
@[simp] theorem State.addF_free : (s.addF f i n).free = s.free := rfl
@[simp] theorem State.addF_inForce : (s.addF f i n).inForce = s.inForce := rfl
@[simp] theorem State.addF_mem : (s.addF f i n).mem = s.mem := rfl
@[simp] theorem State.addF_tier : (s.addF f i n).tier = s.tier := rfl
@[simp] theorem State.addF_xlt : (s.addF f i n).xlt = s.xlt := rfl
@[simp] theorem State.addF_cell : (s.addF f i n).cell = s.cell := rfl
@[simp] theorem State.addF_sched : (s.addF f i n).sched = s.sched := rfl
@[simp] theorem State.addF_svc : (s.addF f i n).svc = s.svc := rfl
@[simp] theorem State.addF_srch : (s.addF f i n).srch = s.srch := rfl
@[simp] theorem State.addF_fab : (s.addF f i n).fab = s.fab := rfl
@[simp] theorem State.addF_hpt : (s.addF f i n).hpt = s.hpt := rfl
@[simp] theorem State.addF_map : (s.addF f i n).map = s.map := rfl
@[simp] theorem State.addF_weave : (s.addF f i n).weave = s.weave := rfl
@[simp] theorem State.addF_sec : (s.addF f i n).sec = s.sec := rfl
@[simp] theorem State.addF_pwr : (s.addF f i n).pwr = s.pwr := rfl
@[simp] theorem State.addF_mgt : (s.addF f i n).mgt = s.mgt := rfl
@[simp] theorem State.addF_out : (s.addF f i n).out = s.out := rfl
@[simp] theorem State.addF_pending : (s.addF f i n).pending = s.pending := rfl
end addF

section initF
variable (f : Fld) (i v : Nat)
@[simp] theorem State.initF_code : (s.initF f i v).code = s.code := rfl
@[simp] theorem State.initF_device : (s.initF f i v).device = s.device := rfl
@[simp] theorem State.initF_mode : (s.initF f i v).mode = s.mode := rfl
@[simp] theorem State.initF_wale : (s.initF f i v).wale = s.wale := rfl
@[simp] theorem State.initF_stime : (s.initF f i v).stime = s.stime := rfl
@[simp] theorem State.initF_free : (s.initF f i v).free = s.free := rfl
@[simp] theorem State.initF_mem : (s.initF f i v).mem = s.mem := rfl
@[simp] theorem State.initF_tier : (s.initF f i v).tier = s.tier := rfl
@[simp] theorem State.initF_xlt : (s.initF f i v).xlt = s.xlt := rfl
@[simp] theorem State.initF_cell : (s.initF f i v).cell = s.cell := rfl
@[simp] theorem State.initF_sched : (s.initF f i v).sched = s.sched := rfl
@[simp] theorem State.initF_svc : (s.initF f i v).svc = s.svc := rfl
@[simp] theorem State.initF_srch : (s.initF f i v).srch = s.srch := rfl
@[simp] theorem State.initF_fab : (s.initF f i v).fab = s.fab := rfl
@[simp] theorem State.initF_hpt : (s.initF f i v).hpt = s.hpt := rfl
@[simp] theorem State.initF_map : (s.initF f i v).map = s.map := rfl
@[simp] theorem State.initF_weave : (s.initF f i v).weave = s.weave := rfl
@[simp] theorem State.initF_sec : (s.initF f i v).sec = s.sec := rfl
@[simp] theorem State.initF_pwr : (s.initF f i v).pwr = s.pwr := rfl
@[simp] theorem State.initF_mgt : (s.initF f i v).mgt = s.mgt := rfl
@[simp] theorem State.initF_out : (s.initF f i v).out = s.out := rfl
@[simp] theorem State.initF_pending : (s.initF f i v).pending = s.pending := rfl
end initF

section emit
variable (o : Out)
@[simp] theorem State.emit_code : (s.emit o).code = s.code := rfl
@[simp] theorem State.emit_device : (s.emit o).device = s.device := rfl
@[simp] theorem State.emit_mode : (s.emit o).mode = s.mode := rfl
@[simp] theorem State.emit_wale : (s.emit o).wale = s.wale := rfl
@[simp] theorem State.emit_stime : (s.emit o).stime = s.stime := rfl
@[simp] theorem State.emit_free : (s.emit o).free = s.free := rfl
@[simp] theorem State.emit_regs : (s.emit o).regs = s.regs := rfl
@[simp] theorem State.emit_inForce : (s.emit o).inForce = s.inForce := rfl
@[simp] theorem State.emit_mem : (s.emit o).mem = s.mem := rfl
@[simp] theorem State.emit_tier : (s.emit o).tier = s.tier := rfl
@[simp] theorem State.emit_xlt : (s.emit o).xlt = s.xlt := rfl
@[simp] theorem State.emit_cell : (s.emit o).cell = s.cell := rfl
@[simp] theorem State.emit_sched : (s.emit o).sched = s.sched := rfl
@[simp] theorem State.emit_svc : (s.emit o).svc = s.svc := rfl
@[simp] theorem State.emit_srch : (s.emit o).srch = s.srch := rfl
@[simp] theorem State.emit_fab : (s.emit o).fab = s.fab := rfl
@[simp] theorem State.emit_hpt : (s.emit o).hpt = s.hpt := rfl
@[simp] theorem State.emit_map : (s.emit o).map = s.map := rfl
@[simp] theorem State.emit_weave : (s.emit o).weave = s.weave := rfl
@[simp] theorem State.emit_sec : (s.emit o).sec = s.sec := rfl
@[simp] theorem State.emit_pwr : (s.emit o).pwr = s.pwr := rfl
@[simp] theorem State.emit_mgt : (s.emit o).mgt = s.mgt := rfl
@[simp] theorem State.emit_pending : (s.emit o).pending = s.pending := rfl
end emit

section applyHeld
@[simp] theorem State.applyHeld_code : s.applyHeld.code = s.code := rfl
@[simp] theorem State.applyHeld_device : s.applyHeld.device = s.device := rfl
@[simp] theorem State.applyHeld_mode : s.applyHeld.mode = s.mode := rfl
@[simp] theorem State.applyHeld_wale : s.applyHeld.wale = s.wale := rfl
@[simp] theorem State.applyHeld_stime : s.applyHeld.stime = s.stime := rfl
@[simp] theorem State.applyHeld_free : s.applyHeld.free = s.free := rfl
@[simp] theorem State.applyHeld_regs : s.applyHeld.regs = s.regs := rfl
@[simp] theorem State.applyHeld_mem : s.applyHeld.mem = s.mem := rfl
@[simp] theorem State.applyHeld_tier : s.applyHeld.tier = s.tier := rfl
@[simp] theorem State.applyHeld_xlt : s.applyHeld.xlt = s.xlt := rfl
@[simp] theorem State.applyHeld_cell : s.applyHeld.cell = s.cell := rfl
@[simp] theorem State.applyHeld_sched : s.applyHeld.sched = s.sched := rfl
@[simp] theorem State.applyHeld_svc : s.applyHeld.svc = s.svc := rfl
@[simp] theorem State.applyHeld_srch : s.applyHeld.srch = s.srch := rfl
@[simp] theorem State.applyHeld_fab : s.applyHeld.fab = s.fab := rfl
@[simp] theorem State.applyHeld_hpt : s.applyHeld.hpt = s.hpt := rfl
@[simp] theorem State.applyHeld_map : s.applyHeld.map = s.map := rfl
@[simp] theorem State.applyHeld_weave : s.applyHeld.weave = s.weave := rfl
@[simp] theorem State.applyHeld_sec : s.applyHeld.sec = s.sec := rfl
@[simp] theorem State.applyHeld_pwr : s.applyHeld.pwr = s.pwr := rfl
@[simp] theorem State.applyHeld_mgt : s.applyHeld.mgt = s.mgt := rfl
@[simp] theorem State.applyHeld_out : s.applyHeld.out = s.out := rfl
@[simp] theorem State.applyHeld_pending : s.applyHeld.pending = s.pending := rfl
end applyHeld

section latch
variable (c : Nat) (ts : BitVec 256)
@[simp] theorem State.latch_code : (s.latch c ts).code = s.code := rfl
@[simp] theorem State.latch_device : (s.latch c ts).device = s.device := rfl
@[simp] theorem State.latch_mode : (s.latch c ts).mode = s.mode := rfl
@[simp] theorem State.latch_wale : (s.latch c ts).wale = s.wale := rfl
@[simp] theorem State.latch_stime : (s.latch c ts).stime = s.stime := rfl
@[simp] theorem State.latch_free : (s.latch c ts).free = s.free := rfl
@[simp] theorem State.latch_regs : (s.latch c ts).regs = s.regs := rfl
@[simp] theorem State.latch_inForce : (s.latch c ts).inForce = s.inForce := rfl
@[simp] theorem State.latch_mem : (s.latch c ts).mem = s.mem := rfl
@[simp] theorem State.latch_tier : (s.latch c ts).tier = s.tier := rfl
@[simp] theorem State.latch_xlt : (s.latch c ts).xlt = s.xlt := rfl
@[simp] theorem State.latch_cell : (s.latch c ts).cell = s.cell := rfl
@[simp] theorem State.latch_sched : (s.latch c ts).sched = s.sched := rfl
@[simp] theorem State.latch_srch : (s.latch c ts).srch = s.srch := rfl
@[simp] theorem State.latch_fab : (s.latch c ts).fab = s.fab := rfl
@[simp] theorem State.latch_hpt : (s.latch c ts).hpt = s.hpt := rfl
@[simp] theorem State.latch_map : (s.latch c ts).map = s.map := rfl
@[simp] theorem State.latch_weave : (s.latch c ts).weave = s.weave := rfl
@[simp] theorem State.latch_sec : (s.latch c ts).sec = s.sec := rfl
@[simp] theorem State.latch_pwr : (s.latch c ts).pwr = s.pwr := rfl
@[simp] theorem State.latch_mgt : (s.latch c ts).mgt = s.mgt := rfl
@[simp] theorem State.latch_out : (s.latch c ts).out = s.out := rfl
@[simp] theorem State.latch_pending : (s.latch c ts).pending = s.pending := rfl
end latch

@[simp] theorem State.emit_out (o : Out) : (s.emit o).out = s.out ++ [o] := rfl
@[simp] theorem State.applyHeld_inForce : s.applyHeld.inForce = s.regs := rfl
@[simp] theorem State.fresh_fst : s.fresh.1 = Config.freeWord s.free := rfl
@[simp] theorem State.fresh_snd : s.fresh.2 = { s with free := s.free + 1 } := rfl

end Sys2Proof.Machine
end

