-- ==== Sys2Proof/Laws/Table.lean ====
section
/-! SUPPORT. The sparse table and the memory made of it: read after write, and the canonical form kept by every
operation. -/
namespace Sys2Proof

namespace Table
variable {α : Type}

@[simp] theorem get_put_same (t : Table α) (k : Nat) (v d : α) : (put t k v).get k d = v := by
  induction t with
  | nil => simp [put, get]
  | cons e r ih =>
    obtain ⟨k', v'⟩ := e
    unfold put
    split
    · simp [get]
    · split
      · simp [get]
      · next h => simp [get, Ne.symm h, ih]

theorem get_put_other (t : Table α) {k j : Nat} (v d : α) (h : j ≠ k) : (put t k v).get j d = t.get j d := by
  induction t with
  | nil => simp [put, get, h.symm]
  | cons e r ih =>
    obtain ⟨k', v'⟩ := e
    unfold put
    split
    · simp [get, h.symm]
    · split
      · next h2 => subst h2; simp [get, h.symm]
      · simp [get, ih]

@[simp] theorem get_del_same (t : Table α) (k : Nat) (d : α) : (del t k).get k d = d := by
  induction t with
  | nil => simp [del, get]
  | cons e r ih =>
    obtain ⟨k', v'⟩ := e
    unfold del
    split
    · exact ih
    · next h => simp [get, h, ih]

theorem get_del_other (t : Table α) {k j : Nat} (d : α) (h : j ≠ k) : (del t k).get j d = t.get j d := by
  induction t with
  | nil => simp [del, get]
  | cons e r ih =>
    obtain ⟨k', v'⟩ := e
    unfold del
    split
    · next h2 => subst h2; simp [get, h.symm, ih]
    · simp [get, ih]

variable [DecidableEq α]

@[simp] theorem get_set_same (t : Table α) (k : Nat) (v d : α) : (set t k v d).get k d = v := by
  unfold set
  split
  · next h => simp [h]
  · simp

theorem get_set_other (t : Table α) {k j : Nat} (v d : α) (h : j ≠ k) : (set t k v d).get j d = t.get j d := by
  unfold set
  split
  · exact get_del_other t d h
  · exact get_put_other t v d h

theorem wfFrom_mono (d : α) {lo lo' : Nat} (t : Table α) (h : lo' ≤ lo) (w : wfFrom d lo t = true) : wfFrom d lo' t = true := by
  cases t with
  | nil => rfl
  | cons e r =>
    obtain ⟨k, v⟩ := e
    simp only [wfFrom, Bool.and_eq_true, decide_eq_true_eq] at w ⊢
    exact ⟨⟨by omega, w.1.2⟩, w.2⟩

theorem wfFrom_del (d : α) (t : Table α) (k : Nat) : ∀ lo, wfFrom d lo t = true → wfFrom d lo (del t k) = true := by
  induction t with
  | nil => intro lo h; exact h
  | cons e r ih =>
    obtain ⟨k', v'⟩ := e
    intro lo h
    simp only [wfFrom, Bool.and_eq_true, decide_eq_true_eq] at h
    unfold del
    split
    · exact ih lo (wfFrom_mono d r (by omega) h.2)
    · simp only [wfFrom, Bool.and_eq_true, decide_eq_true_eq]
      exact ⟨h.1, ih _ h.2⟩

theorem wfFrom_put (d : α) (t : Table α) (k : Nat) (v : α) (hv : v ≠ d) :
    ∀ lo, lo ≤ k → wfFrom d lo t = true → wfFrom d lo (put t k v) = true := by
  induction t with
  | nil => intro lo hk _; simp [put, wfFrom, hk, hv]
  | cons e r ih =>
    obtain ⟨k', v'⟩ := e
    intro lo hk h
    simp only [wfFrom, Bool.and_eq_true, decide_eq_true_eq] at h
    unfold put
    split
    · next hlt => simp [wfFrom, hk, hv, h.1.2, h.2, Nat.succ_le_of_lt hlt]
    · split
      · next _ heq => subst heq; simp [wfFrom, hk, hv, h.2]
      · simp only [wfFrom, Bool.and_eq_true, decide_eq_true_eq]
        exact ⟨h.1, ih _ (by omega) h.2⟩

/-- A write keeps the canonical form. -/
theorem wf_set (t : Table α) (k : Nat) (v d : α) (h : wf t d = true) : wf (set t k v d) d = true := by
  unfold set
  split
  · exact wfFrom_del d t k 0 h
  · next hv => exact wfFrom_put d t k v hv 0 (Nat.zero_le k) h

theorem wfFrom_filter (d : α) (p : Nat × α → Bool) (t : Table α) : ∀ lo, wfFrom d lo t = true → wfFrom d lo (t.filter p) = true := by
  induction t with
  | nil => intro lo h; exact h
  | cons e r ih =>
    obtain ⟨k, v⟩ := e
    intro lo h
    simp only [wfFrom, Bool.and_eq_true, decide_eq_true_eq] at h
    rw [List.filter_cons]
    split
    · simp only [wfFrom, Bool.and_eq_true, decide_eq_true_eq]
      exact ⟨h.1, ih _ h.2⟩
    · exact ih lo (wfFrom_mono d r (by omega) h.2)

end Table

/-! ### Memory -/

@[simp] theorem Mem.byte_setByte_same (m : Mem) (a : Nat) (v : Byte) : (m.setByte a v).byte a = v :=
  Table.get_set_same m a v 0

theorem Mem.byte_setByte_other (m : Mem) {a b : Nat} (v : Byte) (h : b ≠ a) : (m.setByte a v).byte b = m.byte b :=
  Table.get_set_other m v 0 h

theorem Mem.wf_nil : Mem.wf [] = true := rfl

theorem Mem.wf_setByte (m : Mem) (a : Nat) (v : Byte) (h : m.wf = true) : (m.setByte a v).wf = true :=
  Table.wf_set m a v 0 h

theorem Mem.wf_foldl {β : Type} (f : Mem → β → Mem) (hf : ∀ m b, m.wf = true → (f m b).wf = true) (l : List β) :
    ∀ m : Mem, m.wf = true → (l.foldl f m).wf = true := by
  induction l with
  | nil => intro m h; exact h
  | cons b r ih => intro m h; exact ih _ (hf m b h)

theorem Mem.wf_setBytes (bs : List Byte) : ∀ (m : Mem) (a : Nat), m.wf = true → (m.setBytes a bs).wf = true := by
  induction bs with
  | nil => intro m a h; exact h
  | cons b r ih => intro m a h; exact ih _ _ (m.wf_setByte a b h)

theorem Mem.wf_clear (m : Mem) (lo hi : Nat) (h : m.wf = true) : (m.clear lo hi).wf = true :=
  Table.wfFrom_filter 0 _ m 0 h

theorem Mem.wf_paste (m : Mem) (lo : Nat) (p : Mem) (h : m.wf = true) : (m.paste lo p).wf = true :=
  Mem.wf_foldl _ (fun m _ hm => m.wf_setByte _ _ hm) p m h

theorem Mem.wf_setLine (m : Mem) (a : Nat) (d : Line) (mask : Mask) (h : m.wf = true) : (m.setLine a d mask).wf = true := by
  refine Mem.wf_foldl _ (fun m i hm => ?_) _ m h
  split
  · exact m.wf_setByte _ _ hm
  · exact hm

/-- Bytes outside those that a line write enables are as before. -/
theorem Mem.byte_setLine_other (d : Line) (mask : Mask) (m : Mem) (a b : Nat) (h : b < a ∨ a + 64 ≤ b) :
    (m.setLine a d mask).byte b = m.byte b := by
  have key : ∀ (l : List Nat) (m : Mem), (∀ i ∈ l, i < 64) →
      (l.foldl (fun acc i => if mask.getLsbD i then acc.setByte (a + i) (d.extractLsb' (8 * i) 8) else acc) m).byte b = m.byte b := by
    intro l
    induction l with
    | nil => intro m _; rfl
    | cons i r ih =>
      intro m hl
      have hi : i < 64 := hl i (List.mem_cons_self ..)
      simp only [List.foldl_cons]
      rw [ih _ (fun j hj => hl j (List.mem_cons_of_mem _ hj))]
      split
      · exact m.byte_setByte_other _ (by omega)
      · rfl
  exact key _ m (fun i hi => List.mem_range.mp hi)

theorem Mem.byte_setBytes_other (bs : List Byte) :
    ∀ (m : Mem) (a b : Nat), b < a ∨ a + bs.length ≤ b → (m.setBytes a bs).byte b = m.byte b := by
  induction bs with
  | nil => intro m a b _; rfl
  | cons v r ih =>
    intro m a b h
    simp only [List.length_cons] at h
    unfold Mem.setBytes
    rw [ih _ _ _ (by omega), m.byte_setByte_other _ (by omega)]

end Sys2Proof
end

