-- ==== Sys2Proof/Laws/Regs.lean ====
section
/-! SUPPORT. Register fields: what is read after a field has been set, and what raising a status bit, latching attention
and changing the mode leave as it was. -/
namespace Sys2Proof.Machine

/-! ### Bits of a word -/

theorem putBits_toNat (w : Word) (lo n v : Nat) (h : lo + n ≤ 64) :
    (putBits w lo n v).toNat = w.toNat % 2 ^ lo + (v % 2 ^ n) * 2 ^ lo + (w.toNat / 2 ^ (lo + n)) * 2 ^ (lo + n) := by
  unfold putBits
  rw [BitVec.toNat_ofNat]
  apply Nat.mod_eq_of_lt
  have hw := w.isLt
  have h1 : w.toNat % 2 ^ lo < 2 ^ lo := Nat.mod_lt _ (Nat.two_pow_pos lo)
  have h2 : v % 2 ^ n < 2 ^ n := Nat.mod_lt _ (Nat.two_pow_pos n)
  have hp : 2 ^ (lo + n) = 2 ^ n * 2 ^ lo := by rw [Nat.add_comm, Nat.pow_add]
  have h3 : (v % 2 ^ n) * 2 ^ lo + 2 ^ lo ≤ 2 ^ (lo + n) := by
    rw [hp]
    calc (v % 2 ^ n) * 2 ^ lo + 2 ^ lo = (v % 2 ^ n + 1) * 2 ^ lo := by ring
      _ ≤ 2 ^ n * 2 ^ lo := Nat.mul_le_mul_right _ h2
  have h4 : w.toNat / 2 ^ (lo + n) < 2 ^ (64 - (lo + n)) := by
    rw [Nat.div_lt_iff_lt_mul (Nat.two_pow_pos _), ← Nat.pow_add]
    have : 64 - (lo + n) + (lo + n) = 64 := by omega
    rw [this]; exact hw
  have h5 : (w.toNat / 2 ^ (lo + n)) * 2 ^ (lo + n) + 2 ^ (lo + n) ≤ 2 ^ 64 := by
    calc (w.toNat / 2 ^ (lo + n)) * 2 ^ (lo + n) + 2 ^ (lo + n)
        = (w.toNat / 2 ^ (lo + n) + 1) * 2 ^ (lo + n) := by ring
      _ ≤ 2 ^ (64 - (lo + n)) * 2 ^ (lo + n) := Nat.mul_le_mul_right _ h4
      _ = 2 ^ 64 := by rw [← Nat.pow_add]; congr 1; omega
  omega

/-- The bits that were put are read back. -/
theorem fieldOf_putBits_same (w : Word) (lo n v : Nat) (h : lo + n ≤ 64) :
    fieldOf (putBits w lo n v) lo n = v % 2 ^ n := by
  unfold fieldOf
  rw [putBits_toNat w lo n v h, Nat.shiftRight_eq_div_pow]
  have h1 : w.toNat % 2 ^ lo < 2 ^ lo := Nat.mod_lt _ (Nat.two_pow_pos lo)
  have hp : 2 ^ (lo + n) = 2 ^ n * 2 ^ lo := by rw [Nat.add_comm, Nat.pow_add]
  have : w.toNat % 2 ^ lo + (v % 2 ^ n) * 2 ^ lo + (w.toNat / 2 ^ (lo + n)) * 2 ^ (lo + n) =
      w.toNat % 2 ^ lo + 2 ^ lo * (v % 2 ^ n + 2 ^ n * (w.toNat / 2 ^ (lo + n))) := by
    rw [hp]; ring
  rw [this, Nat.add_mul_div_left _ _ (Nat.two_pow_pos lo), Nat.div_eq_of_lt h1, Nat.zero_add, Nat.add_mul_mod_self_left,
    Nat.mod_mod]

theorem putBits_testBit (w : Word) (lo n v i : Nat) (h : lo + n ≤ 64) :
    (putBits w lo n v).toNat.testBit i = if lo ≤ i ∧ i < lo + n then v.testBit (i - lo) else w.toNat.testBit i := by
  rw [putBits_toNat w lo n v h]
  have e : w.toNat % 2 ^ lo + (v % 2 ^ n) * 2 ^ lo + (w.toNat / 2 ^ (lo + n)) * 2 ^ (lo + n) =
      2 ^ (lo + n) * (w.toNat / 2 ^ (lo + n)) + (2 ^ lo * (v % 2 ^ n) + w.toNat % 2 ^ lo) := by ring
  have h1 : w.toNat % 2 ^ lo < 2 ^ lo := Nat.mod_lt _ (Nat.two_pow_pos lo)
  have h2 : v % 2 ^ n < 2 ^ n := Nat.mod_lt _ (Nat.two_pow_pos n)
  have h3 : 2 ^ lo * (v % 2 ^ n) + w.toNat % 2 ^ lo < 2 ^ (lo + n) := by
    calc 2 ^ lo * (v % 2 ^ n) + w.toNat % 2 ^ lo < 2 ^ lo * (v % 2 ^ n) + 2 ^ lo := by omega
      _ = 2 ^ lo * (v % 2 ^ n + 1) := by ring
      _ ≤ 2 ^ lo * 2 ^ n := Nat.mul_le_mul_left _ h2
      _ = 2 ^ (lo + n) := by rw [Nat.pow_add]
  rw [e, Nat.testBit_two_pow_mul_add _ h3, Nat.testBit_two_pow_mul_add _ h1]
  by_cases a : i < lo + n
  · by_cases b : i < lo
    · simp [a, b, Nat.testBit_mod_two_pow, Nat.not_le.mpr b]
    · have : i - lo < n := by omega
      simp [a, b, Nat.testBit_mod_two_pow, Nat.le_of_not_lt b, this]
  · simp [a, Nat.testBit_div_two_pow, Nat.sub_add_cancel (Nat.le_of_not_lt a)]

/-- Bits elsewhere in the word are as before. -/
theorem fieldOf_putBits_disjoint (w : Word) (lo n v lo' n' : Nat) (h : lo + n ≤ 64) (hd : lo' + n' ≤ lo ∨ lo + n ≤ lo') :
    fieldOf (putBits w lo n v) lo' n' = fieldOf w lo' n' := by
  unfold fieldOf
  apply Nat.eq_of_testBit_eq
  intro i
  rw [Nat.testBit_mod_two_pow, Nat.testBit_mod_two_pow, Nat.testBit_shiftRight, Nat.testBit_shiftRight,
    putBits_testBit w lo n v _ h]
  by_cases hi : i < n'
  · simp only [hi, decide_true, Bool.true_and]
    rw [if_neg (by omega)]
  · simp [hi]

/-! ### Fields -/

variable (s : State)

@[simp] theorem State.reg_setReg_same (off : Nat) (w : Word) : (s.setReg off w).reg off = w := by
  simp [State.reg, State.setReg]

theorem State.reg_setReg_other {off off' : Nat} (w : Word) (h : off' ≠ off) : (s.setReg off w).reg off' = s.reg off' := by
  simp [State.reg, State.setReg, Table.get_put_other _ _ _ h]

theorem State.reg_setF_other {f : Fld} {i v off : Nat} (h : off ≠ f.off i) : (s.setF f i v).reg off = s.reg off :=
  s.reg_setReg_other _ h

/-- The field that was set. -/
theorem State.getF_setF_same (f : Fld) (i v : Nat) (h : f.lo + f.width ≤ 64) : (s.setF f i v).getF f i = v % 2 ^ f.width := by
  simp [State.getF, State.setF, fieldOf_putBits_same _ _ _ _ h]

/-- A field of another register. -/
theorem State.getF_setF_off {f g : Fld} {i j : Nat} (v : Nat) (h : g.off j ≠ f.off i) : (s.setF f i v).getF g j = s.getF g j := by
  simp [State.getF, s.reg_setF_other h]

/-- Another field of the same register. -/
theorem State.getF_setF_disjoint {f g : Fld} {i j : Nat} (v : Nat) (h : f.lo + f.width ≤ 64)
    (hd : g.lo + g.width ≤ f.lo ∨ f.lo + f.width ≤ g.lo) : (s.setF f i v).getF g j = s.getF g j := by
  by_cases e : g.off j = f.off i
  · simp only [State.getF, State.setF, e, State.reg_setReg_same]
    exact fieldOf_putBits_disjoint _ _ _ _ _ _ h hd
  · exact s.getF_setF_off v e

/-! ### Raising a status bit -/

/-- What a fault record or a counter of it can change: registers and the management part. -/
def State.sameBut (t : State) : Prop := ∃ r m, t = { s with regs := r, mgt := m }

theorem State.sameBut_refl : s.sameBut s := ⟨_, _, rfl⟩

theorem State.sameBut_trans {s t u : State} (h : s.sameBut t) (k : t.sameBut u) : s.sameBut u := by
  obtain ⟨r, m, rfl⟩ := h
  obtain ⟨r', m', rfl⟩ := k
  exact ⟨r', m', rfl⟩

theorem State.setReg_sameBut (off : Nat) (w : Word) : s.sameBut (s.setReg off w) := ⟨_, _, rfl⟩

theorem State.setF_sameBut (f : Fld) (i v : Nat) : s.sameBut (s.setF f i v) := State.setReg_sameBut _ _ _

theorem State.onMgt_sameBut (m : MgtS) : s.sameBut { s with mgt := m } := ⟨_, _, rfl⟩

theorem State.newRecord_sameBut (seq block bit : Nat) (n : Note) : s.sameBut (s.newRecord seq block bit n).1 := by
  unfold State.newRecord
  exact State.sameBut_trans (s.onMgt_sameBut _) (State.setF_sameBut _ _ _ _)

theorem State.putRecord_sameBut (block bit : Nat) (n : Note) : s.sameBut (s.putRecord block bit n).1 := by
  unfold State.putRecord
  dsimp only
  split
  · split
    · exact s.onMgt_sameBut _
    · exact s.newRecord_sameBut _ _ _ _
  · exact s.newRecord_sameBut _ _ _ _

theorem State.loseRecord_sameBut : s.sameBut s.loseRecord := by
  unfold State.loseRecord State.addF
  exact State.sameBut_trans (s.setF_sameBut _ _ _) (State.setF_sameBut _ _ _ _)

theorem State.raise_sameBut (block bit : Nat) (n : Note) : s.sameBut (s.raise block bit n) := by
  unfold State.raise
  have h := s.putRecord_sameBut block bit n
  split
  · next e => rw [e] at h; exact h
  · next t e =>
    rw [e] at h
    have h2 := State.sameBut_trans h (t.loseRecord_sameBut)
    have h3 := State.sameBut_trans h2 (t.loseRecord.putRecord_sameBut 0 F.mgtStatus_logLost.lo {})
    split
    · next e2 => rw [e2] at h3; exact h3
    · next u e2 =>
      rw [e2] at h3
      exact State.sameBut_trans (State.sameBut_trans h3 u.loseRecord_sameBut) (u.loseRecord.putRecord_sameBut _ _ _)

/-- Raising a status bit changes registers and the management part, and nothing else. -/
theorem State.flag_sameBut (f : Fld) (n : Note) (i : Nat) : s.sameBut (s.flag f n i) := by
  unfold State.flag
  have h1 : ∀ t : State, s.sameBut t → s.sameBut
      (if t.mgt.qExc < 1024 then { t with mgt := { t.mgt with qExc := t.mgt.qExc + 1 } }
       else (t.setF F.mgtStatus_excOverflow 0 1).raise 0 F.mgtStatus_excOverflow.lo {}) := by
    intro t ht
    split
    · exact State.sameBut_trans ht (t.onMgt_sameBut _)
    · exact State.sameBut_trans (State.sameBut_trans ht (t.setF_sameBut _ _ _)) (State.raise_sameBut _ _ _ _)
  split
  · exact h1 _ (s.setF_sameBut _ _ _)
  · exact h1 _ (State.sameBut_trans (s.setF_sameBut _ _ _) (State.raise_sameBut _ _ _ _))

@[simp] theorem State.flag_code (f : Fld) (n : Note) (i : Nat) : (s.flag f n i).code = s.code := by
  obtain ⟨r, m, h⟩ := s.flag_sameBut f n i; rw [h]
@[simp] theorem State.flag_device (f : Fld) (n : Note) (i : Nat) : (s.flag f n i).device = s.device := by
  obtain ⟨r, m, h⟩ := s.flag_sameBut f n i; rw [h]
@[simp] theorem State.flag_mode (f : Fld) (n : Note) (i : Nat) : (s.flag f n i).mode = s.mode := by
  obtain ⟨r, m, h⟩ := s.flag_sameBut f n i; rw [h]
@[simp] theorem State.flag_wale (f : Fld) (n : Note) (i : Nat) : (s.flag f n i).wale = s.wale := by
  obtain ⟨r, m, h⟩ := s.flag_sameBut f n i; rw [h]
@[simp] theorem State.flag_stime (f : Fld) (n : Note) (i : Nat) : (s.flag f n i).stime = s.stime := by
  obtain ⟨r, m, h⟩ := s.flag_sameBut f n i; rw [h]
@[simp] theorem State.flag_free (f : Fld) (n : Note) (i : Nat) : (s.flag f n i).free = s.free := by
  obtain ⟨r, m, h⟩ := s.flag_sameBut f n i; rw [h]
@[simp] theorem State.flag_inForce (f : Fld) (n : Note) (i : Nat) : (s.flag f n i).inForce = s.inForce := by
  obtain ⟨r, m, h⟩ := s.flag_sameBut f n i; rw [h]
@[simp] theorem State.flag_mem (f : Fld) (n : Note) (i : Nat) : (s.flag f n i).mem = s.mem := by
  obtain ⟨r, m, h⟩ := s.flag_sameBut f n i; rw [h]
@[simp] theorem State.flag_tier (f : Fld) (n : Note) (i : Nat) : (s.flag f n i).tier = s.tier := by
  obtain ⟨r, m, h⟩ := s.flag_sameBut f n i; rw [h]
@[simp] theorem State.flag_xlt (f : Fld) (n : Note) (i : Nat) : (s.flag f n i).xlt = s.xlt := by
  obtain ⟨r, m, h⟩ := s.flag_sameBut f n i; rw [h]
@[simp] theorem State.flag_cell (f : Fld) (n : Note) (i : Nat) : (s.flag f n i).cell = s.cell := by
  obtain ⟨r, m, h⟩ := s.flag_sameBut f n i; rw [h]
@[simp] theorem State.flag_sched (f : Fld) (n : Note) (i : Nat) : (s.flag f n i).sched = s.sched := by
  obtain ⟨r, m, h⟩ := s.flag_sameBut f n i; rw [h]
@[simp] theorem State.flag_svc (f : Fld) (n : Note) (i : Nat) : (s.flag f n i).svc = s.svc := by
  obtain ⟨r, m, h⟩ := s.flag_sameBut f n i; rw [h]
@[simp] theorem State.flag_srch (f : Fld) (n : Note) (i : Nat) : (s.flag f n i).srch = s.srch := by
  obtain ⟨r, m, h⟩ := s.flag_sameBut f n i; rw [h]
@[simp] theorem State.flag_fab (f : Fld) (n : Note) (i : Nat) : (s.flag f n i).fab = s.fab := by
  obtain ⟨r, m, h⟩ := s.flag_sameBut f n i; rw [h]
@[simp] theorem State.flag_hpt (f : Fld) (n : Note) (i : Nat) : (s.flag f n i).hpt = s.hpt := by
  obtain ⟨r, m, h⟩ := s.flag_sameBut f n i; rw [h]
@[simp] theorem State.flag_map (f : Fld) (n : Note) (i : Nat) : (s.flag f n i).map = s.map := by
  obtain ⟨r, m, h⟩ := s.flag_sameBut f n i; rw [h]
@[simp] theorem State.flag_weave (f : Fld) (n : Note) (i : Nat) : (s.flag f n i).weave = s.weave := by
  obtain ⟨r, m, h⟩ := s.flag_sameBut f n i; rw [h]
@[simp] theorem State.flag_sec (f : Fld) (n : Note) (i : Nat) : (s.flag f n i).sec = s.sec := by
  obtain ⟨r, m, h⟩ := s.flag_sameBut f n i; rw [h]
@[simp] theorem State.flag_pwr (f : Fld) (n : Note) (i : Nat) : (s.flag f n i).pwr = s.pwr := by
  obtain ⟨r, m, h⟩ := s.flag_sameBut f n i; rw [h]
@[simp] theorem State.flag_out (f : Fld) (n : Note) (i : Nat) : (s.flag f n i).out = s.out := by
  obtain ⟨r, m, h⟩ := s.flag_sameBut f n i; rw [h]
@[simp] theorem State.flag_pending (f : Fld) (n : Note) (i : Nat) : (s.flag f n i).pending = s.pending := by
  obtain ⟨r, m, h⟩ := s.flag_sameBut f n i; rw [h]

/-! ### The mode -/

@[simp] theorem State.setMode_code (m : Mode) : (s.setMode m).code = s.code := by unfold State.setMode; split <;> rfl
@[simp] theorem State.setMode_device (m : Mode) : (s.setMode m).device = s.device := by unfold State.setMode; split <;> rfl
@[simp] theorem State.setMode_wale (m : Mode) : (s.setMode m).wale = s.wale := by unfold State.setMode; split <;> rfl
@[simp] theorem State.setMode_stime (m : Mode) : (s.setMode m).stime = s.stime := by unfold State.setMode; split <;> rfl
@[simp] theorem State.setMode_free (m : Mode) : (s.setMode m).free = s.free := by unfold State.setMode; split <;> rfl
@[simp] theorem State.setMode_inForce (m : Mode) : (s.setMode m).inForce = s.inForce := by unfold State.setMode; split <;> rfl
@[simp] theorem State.setMode_mem (m : Mode) : (s.setMode m).mem = s.mem := by unfold State.setMode; split <;> rfl
@[simp] theorem State.setMode_tier (m : Mode) : (s.setMode m).tier = s.tier := by unfold State.setMode; split <;> rfl
@[simp] theorem State.setMode_xlt (m : Mode) : (s.setMode m).xlt = s.xlt := by unfold State.setMode; split <;> rfl
@[simp] theorem State.setMode_cell (m : Mode) : (s.setMode m).cell = s.cell := by unfold State.setMode; split <;> rfl
@[simp] theorem State.setMode_sched (m : Mode) : (s.setMode m).sched = s.sched := by unfold State.setMode; split <;> rfl
@[simp] theorem State.setMode_srch (m : Mode) : (s.setMode m).srch = s.srch := by unfold State.setMode; split <;> rfl
@[simp] theorem State.setMode_fab (m : Mode) : (s.setMode m).fab = s.fab := by unfold State.setMode; split <;> rfl
@[simp] theorem State.setMode_hpt (m : Mode) : (s.setMode m).hpt = s.hpt := by unfold State.setMode; split <;> rfl
@[simp] theorem State.setMode_map (m : Mode) : (s.setMode m).map = s.map := by unfold State.setMode; split <;> rfl
@[simp] theorem State.setMode_weave (m : Mode) : (s.setMode m).weave = s.weave := by unfold State.setMode; split <;> rfl
@[simp] theorem State.setMode_sec (m : Mode) : (s.setMode m).sec = s.sec := by unfold State.setMode; split <;> rfl
@[simp] theorem State.setMode_pwr (m : Mode) : (s.setMode m).pwr = s.pwr := by unfold State.setMode; split <;> rfl
@[simp] theorem State.setMode_out (m : Mode) : (s.setMode m).out = s.out := by unfold State.setMode; split <;> rfl
@[simp] theorem State.setMode_pending (m : Mode) : (s.setMode m).pending = s.pending := by unfold State.setMode; split <;> rfl
@[simp] theorem State.setMode_regs (m : Mode) : (s.setMode m).regs = s.regs := by unfold State.setMode; split <;> rfl
@[simp] theorem State.setMode_mgt (m : Mode) : (s.setMode m).mgt = s.mgt := by unfold State.setMode; split <;> rfl
@[simp] theorem State.setMode_mode (m : Mode) : (s.setMode m).mode = m := by
  unfold State.setMode
  split
  · next h => exact h
  · rfl

end Sys2Proof.Machine
end

