-- ==== Sys2Proof/Laws/Commands.lean ====
section
/-! SUPPORT. Command registers: what a write that sets no reserved bit leaves in the register's fields, and what raising a
status bit leaves in the registers. -/
namespace Sys2Proof.Machine

/-! ### Packed fields -/

/-- Fields that rise, do not meet, and end within the word. -/
def fieldsRise : Nat → List (Nat × Nat) → Bool
  | lo, [] => decide (lo ≤ 64)
  | lo, (l, w) :: r => decide (lo ≤ l) && fieldsRise (l + w) r

theorem fieldsRise_le : ∀ (r : List (Nat × Nat)) (lo : Nat), fieldsRise lo r = true → lo ≤ 64
  | [], lo, h => by simpa [fieldsRise] using h
  | (l, w) :: r, lo, h => by
    simp only [fieldsRise, Bool.and_eq_true, decide_eq_true_eq] at h
    have := fieldsRise_le r (l + w) h.2
    omega

/-- A number packed from rising fields is a multiple of the first one's place, and fits the word. -/
theorem pack_rise (vs : List (Nat × Nat × Nat)) : ∀ lo, fieldsRise lo (vs.map fun e => (e.1, e.2.1)) = true →
    2 ^ lo ∣ pack (vs.map fun e => (e.1, e.2.2 % 2 ^ e.2.1)) ∧ pack (vs.map fun e => (e.1, e.2.2 % 2 ^ e.2.1)) < 2 ^ 64 := by
  induction vs with
  | nil => intro lo _; simp [pack]
  | cons e r ih =>
    intro lo h
    obtain ⟨l, w, v⟩ := e
    simp only [List.map_cons, fieldsRise, Bool.and_eq_true, decide_eq_true_eq] at h
    obtain ⟨⟨k, hk⟩, hlt⟩ := ih (l + w) h.2
    have hle := fieldsRise_le _ _ h.2
    simp only [List.map_cons, pack]
    have hv : v % 2 ^ w < 2 ^ w := Nat.mod_lt _ (Nat.two_pow_pos w)
    constructor
    · apply Nat.dvd_add
      · exact Dvd.dvd.mul_left (Nat.pow_dvd_pow 2 h.1) _
      · rw [hk]
        exact Dvd.dvd.mul_right (Nat.pow_dvd_pow 2 (by omega)) _
    · rw [hk] at hlt ⊢
      have e64 : 2 ^ 64 = 2 ^ (l + w) * 2 ^ (64 - (l + w)) := by rw [← Nat.pow_add]; congr 1; omega
      have hkk : k < 2 ^ (64 - (l + w)) := by
        rw [e64] at hlt
        exact Nat.lt_of_mul_lt_mul_left hlt
      have h1 : v % 2 ^ w * 2 ^ l < 2 ^ (l + w) := by
        rw [Nat.pow_add, Nat.mul_comm (2 ^ l)]
        exact Nat.mul_lt_mul_of_pos_right hv (Nat.two_pow_pos l)
      calc v % 2 ^ w * 2 ^ l + 2 ^ (l + w) * k < 2 ^ (l + w) + 2 ^ (l + w) * k := by omega
        _ = 2 ^ (l + w) * (k + 1) := by ring
        _ ≤ 2 ^ (l + w) * 2 ^ (64 - (l + w)) := Nat.mul_le_mul_left _ hkk
        _ = 2 ^ 64 := e64.symm

/-- Each packed field is read back. -/
theorem pack_field (vs : List (Nat × Nat × Nat)) : ∀ lo, fieldsRise lo (vs.map fun e => (e.1, e.2.1)) = true → ∀ e ∈ vs,
    (pack (vs.map fun e => (e.1, e.2.2 % 2 ^ e.2.1)) >>> e.1) % 2 ^ e.2.1 = e.2.2 % 2 ^ e.2.1 := by
  induction vs with
  | nil => intro lo _ e he; cases he
  | cons e r ih =>
    intro lo h f hf
    obtain ⟨l, w, v⟩ := e
    simp only [List.map_cons, fieldsRise, Bool.and_eq_true, decide_eq_true_eq] at h
    obtain ⟨⟨k, hk⟩, -⟩ := pack_rise r (l + w) h.2
    simp only [List.map_cons, pack]
    rcases List.mem_cons.mp hf with rfl | hr
    · rw [hk, Nat.shiftRight_eq_div_pow]
      have : v % 2 ^ w * 2 ^ l + 2 ^ (l + w) * k = 2 ^ l * (v % 2 ^ w + 2 ^ w * k) := by rw [Nat.pow_add]; ring
      rw [this, Nat.mul_div_cancel_left _ (Nat.two_pow_pos l), Nat.add_mul_mod_self_left, Nat.mod_mod]
    · have hrec := ih (l + w) h.2 f hr
      have hl : l + w ≤ f.1 := by
        clear ih hrec hk hf
        have key : ∀ (q : List (Nat × Nat × Nat)) (lo : Nat), fieldsRise lo (q.map fun e => (e.1, e.2.1)) = true → ∀ e ∈ q, lo ≤ e.1 := by
          intro q
          induction q with
          | nil => intro lo _ e he; cases he
          | cons a q ih =>
            intro lo h e he
            simp only [List.map_cons, fieldsRise, Bool.and_eq_true, decide_eq_true_eq] at h
            rcases List.mem_cons.mp he with rfl | he
            · exact h.1
            · exact Nat.le_trans (by omega) (ih _ h.2 e he)
        exact key r _ h.2 f hr
      rw [← hrec, Nat.shiftRight_eq_div_pow, Nat.shiftRight_eq_div_pow]
      congr 1
      have hv : v % 2 ^ w < 2 ^ w := Nat.mod_lt _ (Nat.two_pow_pos w)
      have h1 : v % 2 ^ w * 2 ^ l < 2 ^ (l + w) := by
        rw [Nat.pow_add, Nat.mul_comm (2 ^ l)]
        exact Nat.mul_lt_mul_of_pos_right hv (Nat.two_pow_pos l)
      have e2 : 2 ^ f.1 = 2 ^ (l + w) * 2 ^ (f.1 - (l + w)) := by rw [← Nat.pow_add]; congr 1; omega
      rw [hk, e2, ← Nat.div_div_eq_div_mul, ← Nat.div_div_eq_div_mul]
      congr 1
      rw [Nat.add_mul_div_left _ _ (Nat.two_pow_pos _), Nat.div_eq_of_lt h1, Nat.zero_add,
        Nat.mul_div_cancel_left _ (Nat.two_pow_pos _)]

/-- The fields of the registers of a block rise and fit the word. -/
def regsRise (l : List RegDesc) : Bool := l.all fun d => fieldsRise 0 (d.fields.map fun f => (f.lo, f.width))

theorem regsRise_ite {c : Prop} [Decidable c] {a b : List RegDesc} (ha : regsRise a = true) (hb : regsRise b = true) :
    regsRise (if c then a else b) = true := by
  by_cases h : c
  · rw [if_pos h]; exact ha
  · rw [if_neg h]; exact hb

theorem blockRegs_rise (off : Nat) : regsRise (blockRegs off) = true := by
  unfold blockRegs
  iterate 16 refine regsRise_ite (by decide +kernel) ?_
  rfl

/-- The fields of every register rise and fit its word. -/
theorem regAt_fieldsRise (off : Nat) (d : RegDesc) (h : regAt off = some d) :
    fieldsRise 0 (d.fields.map fun f => (f.lo, f.width)) = true :=
  List.all_eq_true.mp (blockRegs_rise off) d (List.mem_of_find?_eq_some h)

/-- A field's value is a number of its width. -/
theorem fieldOf_lt (w : Word) (lo n : Nat) : fieldOf w lo n < 2 ^ n := Nat.mod_lt _ (Nat.two_pow_pos n)

theorem Fld.written_lt (f : Fld) (old new : Nat) (ho : old < 2 ^ f.width) (hn : new < 2 ^ f.width) :
    f.written old new < 2 ^ f.width := by
  unfold Fld.written
  split
  · exact ho
  · exact ho
  · exact hn
  · exact Nat.lt_of_le_of_lt Nat.and_le_left ho
  · exact Nat.or_lt_two_pow ho hn

/-- A field after a write of its register. -/
theorem RegDesc.fieldOf_written (off : Nat) (d : RegDesc) (h : regAt off = some d) (f : Fld) (hf : f ∈ d.fields) (old new : Word) :
    fieldOf (d.written old new) f.lo f.width = f.written (fieldOf old f.lo f.width) (fieldOf new f.lo f.width) := by
  let g : Fld → Nat × Nat × Nat := fun f => (f.lo, f.width, f.written (fieldOf old f.lo f.width) (fieldOf new f.lo f.width))
  have hr := regAt_fieldsRise off d h
  have e : d.fields.map (fun f => (f.lo, f.width)) = (d.fields.map g).map fun e => (e.1, e.2.1) := by simp [g]
  rw [e] at hr
  have hm : ∀ f : Fld, f.written (fieldOf old f.lo f.width) (fieldOf new f.lo f.width) % 2 ^ f.width =
      f.written (fieldOf old f.lo f.width) (fieldOf new f.lo f.width) :=
    fun f => Nat.mod_eq_of_lt (f.written_lt _ _ (fieldOf_lt _ _ _) (fieldOf_lt _ _ _))
  have e2 : d.fields.map (fun f => (f.lo, f.written (fieldOf old f.lo f.width) (fieldOf new f.lo f.width))) =
      (d.fields.map g).map fun e => (e.1, e.2.2 % 2 ^ e.2.1) := by
    simp [g, hm]
  have h1 := pack_field (d.fields.map g) 0 hr (g f) (List.mem_map_of_mem hf)
  have h2 := (pack_rise (d.fields.map g) 0 hr).2
  unfold RegDesc.written fieldOf
  rw [BitVec.toNat_ofNat]
  change (pack (d.fields.map fun f => (f.lo, f.written (fieldOf old f.lo f.width) (fieldOf new f.lo f.width))) % 2 ^ 64) >>> f.lo % 2 ^ f.width = _
  rw [e2, Nat.mod_eq_of_lt h2, h1]
  exact hm f

/-! ### Writes -/

variable {s : State} {d : RegDesc} {off : Nat} {w : Word}

theorem State.cleanWrite_clean (h : regAt off = some d) (hc : d.clean w) : s.cleanWrite off w = (w, s) := by
  unfold RegDesc.clean at hc
  simp [State.cleanWrite, h, hc]

theorem State.writeReg_fits (h : regAt off = some d) (hf : s.fits d off = true) :
    s.writeReg off w = s.setReg off (d.written (s.reg off) w) := by
  unfold State.fits at hf
  simp [State.writeReg, h, hf]

/-- What a command register's field reads once it has been written. -/
theorem State.getF_cmdWritten {f : Fld} (cmd : Fld) (i : Nat) (h : regAt (cmd.off i) = some d) (hf : f ∈ d.fields)
    (ha : f.acc = .rw) (ho : f.off i = cmd.off i) : (s.cmdWritten d cmd i w).getF f i = fieldOf w f.lo f.width := by
  unfold State.cmdWritten State.getF
  rw [ho, State.reg_setReg_same, RegDesc.fieldOf_written _ d h f hf]
  simp [Fld.written, ha]

/-! ### Status bits -/

/-- The registers that fault records touch: MGT_FAULT_SEQ, MGT_STATUS, MGT_LOG_LOST. -/
def recordRegs : List Nat := [F.mgtFaultSeq_seq.off 0, F.mgtStatus_logLost.off 0, F.mgtLogLost_count.off 0]

theorem State.newRecord_reg (s : State) (seq block bit : Nat) (n : Note) (off : Nat) (h : off ∉ recordRegs) :
    (s.newRecord seq block bit n).1.reg off = s.reg off := by
  have h1 : off ≠ F.mgtFaultSeq_seq.off 0 := by intro e; apply h; simp [recordRegs, e]
  unfold State.newRecord
  exact State.reg_setF_other _ h1

theorem State.putRecord_reg (s : State) (block bit : Nat) (n : Note) (off : Nat) (h : off ∉ recordRegs) :
    (s.putRecord block bit n).1.reg off = s.reg off := by
  unfold State.putRecord
  dsimp only
  split
  · split
    · rfl
    · exact s.newRecord_reg _ _ _ _ off h
  · exact s.newRecord_reg _ _ _ _ off h

theorem State.loseRecord_reg (s : State) (off : Nat) (h : off ∉ recordRegs) : s.loseRecord.reg off = s.reg off := by
  have h1 : off ≠ F.mgtStatus_logLost.off 0 := by intro e; apply h; simp [recordRegs, e]
  have h2 : off ≠ F.mgtLogLost_count.off 0 := by intro e; apply h; simp [recordRegs, e]
  unfold State.loseRecord State.addF
  rw [State.reg_setF_other _ h2, State.reg_setF_other _ h1]

theorem State.raise_reg (s : State) (block bit : Nat) (n : Note) (off : Nat) (h : off ∉ recordRegs) :
    (s.raise block bit n).reg off = s.reg off := by
  unfold State.raise
  have h1 := s.putRecord_reg block bit n off h
  split
  · next e => rw [e] at h1; exact h1
  · next t e =>
    rw [e] at h1
    have h2 := t.loseRecord.putRecord_reg 0 F.mgtStatus_logLost.lo {} off h
    rw [t.loseRecord_reg off h, h1] at h2
    split
    · next e2 => rw [e2] at h2; exact h2
    · next u e2 =>
      rw [e2] at h2
      rw [State.putRecord_reg _ _ _ _ off h, u.loseRecord_reg off h]; exact h2

theorem State.flag_reg (s : State) (f : Fld) (n : Note) (i off : Nat) (h : off ∉ recordRegs) (hf : off ≠ f.off i) :
    (s.flag f n i).reg off = s.reg off := by
  have h1 : off ≠ F.mgtStatus_excOverflow.off 0 := by
    intro e; apply h; rw [e]; simp [recordRegs, Fld.off, F.mgtStatus_excOverflow, F.mgtStatus_logLost]
  have k : ∀ t : State, t.reg off = s.reg off →
      (if t.mgt.qExc < 1024 then { t with mgt := { t.mgt with qExc := t.mgt.qExc + 1 } }
       else (t.setF F.mgtStatus_excOverflow 0 1).raise 0 F.mgtStatus_excOverflow.lo {}).reg off = s.reg off := by
    intro t ht
    split
    · exact ht
    · rw [State.raise_reg _ _ _ _ off h, State.reg_setF_other _ h1, ht]
  unfold State.flag
  dsimp only
  apply k
  split
  · exact State.reg_setF_other _ hf
  · rw [State.raise_reg _ _ _ _ off h, State.reg_setF_other _ hf]

/-- The bit that was raised reads 1, outside the management status. -/
theorem State.getF_flag_same (s : State) (f : Fld) (n : Note) (i : Nat) (h : f.off i ∉ recordRegs) (hw : f.lo + f.width ≤ 64)
    (h1 : f.width = 1) : (s.flag f n i).getF f i = 1 := by
  have h2 : f.off i ≠ F.mgtStatus_excOverflow.off 0 := by
    intro e; apply h; rw [e]; simp [recordRegs, Fld.off, F.mgtStatus_excOverflow, F.mgtStatus_logLost]
  have base : (s.setF f i 1).getF f i = 1 := by rw [State.getF_setF_same _ _ _ _ hw, h1]; rfl
  have k : ∀ t : State, t.getF f i = 1 →
      (if t.mgt.qExc < 1024 then { t with mgt := { t.mgt with qExc := t.mgt.qExc + 1 } }
       else (t.setF F.mgtStatus_excOverflow 0 1).raise 0 F.mgtStatus_excOverflow.lo {}).getF f i = 1 := by
    intro t ht
    unfold State.getF at ht ⊢
    split
    · exact ht
    · rw [State.raise_reg _ _ _ _ _ h, State.reg_setF_other _ h2, ht]
  unfold State.flag
  dsimp only
  apply k
  split
  · exact base
  · unfold State.getF at base ⊢
    rw [State.raise_reg _ _ _ _ _ h]; exact base

end Sys2Proof.Machine
end

