-- ==== Sys2Proof/Laws/Cells.lean ====
section
/-! SUPPORT. Cells: what is read of a cell after it, another cell or a register has changed. -/
namespace Sys2Proof.Machine

variable (s : State)

@[simp] theorem State.cellAt_setCell_same (c : Nat) (v : Cell) : (s.setCell c v).cellAt c = v := by
  simp [State.cellAt, State.setCell, State.onCell]

theorem State.cellAt_setCell_other {c k : Nat} (v : Cell) (h : k ≠ c) : (s.setCell c v).cellAt k = s.cellAt k := by
  simp [State.cellAt, State.setCell, State.onCell, Table.get_put_other _ _ _ h]

@[simp] theorem State.cellAt_onCellAt_same (c : Nat) (g : Cell → Cell) : (s.onCellAt c g).cellAt c = g (s.cellAt c) :=
  s.cellAt_setCell_same c _

theorem State.cellAt_onCellAt_other {c k : Nat} (g : Cell → Cell) (h : k ≠ c) : (s.onCellAt c g).cellAt k = s.cellAt k :=
  s.cellAt_setCell_other _ h

@[simp] theorem State.cellAt_setReg (off : Nat) (w : Word) (c : Nat) : (s.setReg off w).cellAt c = s.cellAt c := rfl
@[simp] theorem State.cellAt_setF (f : Fld) (i v c : Nat) : (s.setF f i v).cellAt c = s.cellAt c := rfl
@[simp] theorem State.cellAt_addF (f : Fld) (i n c : Nat) : (s.addF f i n).cellAt c = s.cellAt c := rfl
@[simp] theorem State.cellAt_flag (f : Fld) (n : Note) (i c : Nat) : (s.flag f n i).cellAt c = s.cellAt c := by
  simp [State.cellAt]
@[simp] theorem State.getF_setCell (c : Nat) (v : Cell) (f : Fld) (i : Nat) : (s.setCell c v).getF f i = s.getF f i := rfl
@[simp] theorem State.getF_onCellAt (c : Nat) (g : Cell → Cell) (f : Fld) (i : Nat) : (s.onCellAt c g).getF f i = s.getF f i := rfl
@[simp] theorem State.regs_onCellAt (c : Nat) (g : Cell → Cell) : (s.onCellAt c g).regs = s.regs := rfl
@[simp] theorem State.mem_onCellAt (c : Nat) (g : Cell → Cell) : (s.onCellAt c g).mem = s.mem := rfl

theorem Cell.xr_setX (v : Cell) (rd r : XReg) (w : Word) : (v.setX rd w).xr r = if r = rd then (if rd = 0 then 0 else w) else v.xr r := by
  unfold Cell.xr Cell.setX
  by_cases h0 : rd = 0
  · rw [if_pos h0]
    by_cases hr : r = rd
    · rw [if_pos hr, if_pos h0, if_pos (hr.trans h0)]
    · rw [if_neg hr]
  · rw [if_neg h0]
    by_cases hr : r = rd
    · rw [if_pos hr, if_neg h0, if_neg (fun e => h0 (hr.symm.trans e)), hr]
      exact Table.get_set_same _ _ _ _
    · have hn : r.toNat ≠ rd.toNat := fun e => hr (BitVec.eq_of_toNat_eq e)
      rw [if_neg hr]
      by_cases hz : r = 0
      · rw [if_pos hz, if_pos hz]
      · rw [if_neg hz, if_neg hz]
        exact Table.get_set_other _ _ _ hn

@[simp] theorem Cell.setX_stall (v : Cell) (rd : XReg) (w : Word) : (v.setX rd w).stall = v.stall := by
  unfold Cell.setX; split <;> rfl
@[simp] theorem Cell.setX_pc (v : Cell) (rd : XReg) (w : Word) : (v.setX rd w).pc = v.pc := by
  unfold Cell.setX; split <;> rfl
@[simp] theorem Cell.setX_sram (v : Cell) (rd : XReg) (w : Word) : (v.setX rd w).sram = v.sram := by
  unfold Cell.setX; split <;> rfl
@[simp] theorem Cell.setX_dcache (v : Cell) (rd : XReg) (w : Word) : (v.setX rd w).dcache = v.dcache := by
  unfold Cell.setX; split <;> rfl
@[simp] theorem Cell.setX_queue (v : Cell) (rd : XReg) (w : Word) (q : Nat) : (v.setX rd w).queue q = v.queue q := by
  unfold Cell.setX; split <;> rfl

/-- Everything but the integer registers and the pc is as before. -/
theorem Cell.setX_step4 (v : Cell) (rd : XReg) (w : Word) :
    (v.setX rd w).step4 = { v with x := ((v.setX rd w).step4).x, pc := v.pc + 4 } := by
  unfold Cell.setX Cell.step4; split <;> rfl

end Sys2Proof.Machine
end

