-- ==== Sys2Proof/WellFormed.lean ====
section
/-! DEFINITION. Which commands name a part that some OZ8 has: cells, ports, dies, tracks, bindings, lines and contexts
within the numbers the manual gives the largest ordering code. -/
namespace Sys2Proof

/-- Every number of the command lies in the range of the parts it names. -/
def Instr.wf : Instr → Bool
  | .registerWrite _ _ => true
  | .registerReadClear _ => true
  | .registerPartialWrite _ bytes => decide (bytes < 8)
  | .storeRead _ _ _ => true
  | .storeWrite _ _ _ _ _ => true
  | .copyOnWriteComplete _ => true
  | .migrationComplete _ => true
  | .sealImageChecked _ => true
  | .sealT2Fail _ => true
  | .sealPayloadPoison _ line => decide (line < 4096)
  | .promotionFillComplete _ _ _ => true
  | .promotionFillFail _ _ _ => true
  | .sinkReadersDone _ _ => true
  | .refetchComplete _ => true
  | .refetchSourceFail _ _ => true
  | .refetchTimeout _ => true
  | .driveLost drive => decide (drive < 16)
  | .streamHalfFilled die cell half => decide (die < 4) && decide (cell < 32) && decide (half < 2)
  | .streamHalfConsumed die cell half => decide (die < 4) && decide (cell < 32) && decide (half < 2)
  | .mcastChunkArrived die cell half _ => decide (die < 4) && decide (cell < 32) && decide (half < 2)
  | .routerPrefetch die _ _ => decide (die < 4)
  | .tierSeal _ => true
  | .tierImport _ => true
  | .tierPromote _ => true
  | .tierSink _ => true
  | .tierFree _ => true
  | .tierQuery _ => true
  | .tierModeWrite _ => true
  | .tierResvLimitWrite n _ => decide (n < 256)
  | .translationWalkEnd die _ _ _ => decide (die < 4)
  | .fillRecordEnd die record _ => decide (die < 4) && decide (record < 256)
  | .xltInsert _ => true
  | .xltRevoke _ => true
  | .revokeDrainEnd => true
  | .revokeDrainTimeout => true
  | .xltLookup _ => true
  | .xltSetHome _ => true
  | .scalarInstruction cell _ => decide (cell < 128)
  | .mxIssue cell _ _ => decide (cell < 128)
  | .vxIssue cell _ _ => decide (cell < 128)
  | .mvIssue cell _ _ _ => decide (cell < 128)
  | .issueSlotFree cell => decide (cell < 128)
  | .engWait cell _ _ _ => decide (cell < 128)
  | .engWaitResume cell => decide (cell < 128)
  | .engPoll cell _ _ _ => decide (cell < 128)
  | .flagLd cell _ _ _ => decide (cell < 128)
  | .flagSt cell _ _ _ => decide (cell < 128)
  | .flagAdd cell _ _ _ _ _ => decide (cell < 128)
  | .flagMax cell _ _ _ _ _ => decide (cell < 128)
  | .flagCas cell _ _ _ _ _ => decide (cell < 128)
  | .flagWaitge cell _ _ _ _ => decide (cell < 128)
  | .flagWaitgeResume cell => decide (cell < 128)
  | .waitTimeout cell => decide (cell < 128)
  | .engRel cell => decide (cell < 128)
  | .engRelRetire cell => decide (cell < 128)
  | .engRelTimeout cell => decide (cell < 128)
  | .engAcq cell => decide (cell < 128)
  | .waleRd cell _ => decide (cell < 128)
  | .waleWait cell _ _ => decide (cell < 128)
  | .waleWaitResume cell => decide (cell < 128)
  | .stimeRd cell _ => decide (cell < 128)
  | .ecall cell => decide (cell < 128)
  | .kernelTrap cell _ => decide (cell < 128)
  | .mma cell _ => decide (cell < 128)
  | .vAdd cell _ => decide (cell < 128)
  | .vSub cell _ => decide (cell < 128)
  | .vMul cell _ => decide (cell < 128)
  | .vFma cell _ => decide (cell < 128)
  | .vMax cell _ => decide (cell < 128)
  | .vMin cell _ => decide (cell < 128)
  | .vExp cell _ => decide (cell < 128)
  | .vLog cell _ => decide (cell < 128)
  | .vRsqrt cell _ => decide (cell < 128)
  | .vRcp cell _ => decide (cell < 128)
  | .vCvt cell _ => decide (cell < 128)
  | .vQmx cell _ => decide (cell < 128)
  | .vDqmx cell _ => decide (cell < 128)
  | .vRsum cell _ => decide (cell < 128)
  | .vRmax cell _ => decide (cell < 128)
  | .vWadd cell _ => decide (cell < 128)
  | .vArgmax cell _ => decide (cell < 128)
  | .mvGet cell _ _ => decide (cell < 128)
  | .mvPut cell _ _ => decide (cell < 128)
  | .mvCopy cell _ _ => decide (cell < 128)
  | .mvCellPut cell _ _ => decide (cell < 128)
  | .mvAtom cell _ _ => decide (cell < 128)
  | .moverDescEnd cell _ => decide (cell < 128)
  | .cellPutReceive _ => true
  | .syncTimer => true
  | .sync _ _ _ _ => true
  | .deviceReady => true
  | .ready _ => true
  | .hold _ => true
  | .holdRepeatTimer => true
  | .boundaryAnnounce => true
  | .boundary _ => true
  | .waleBoundary _ => true
  | .childSilenceTimeout _ => true
  | .schedFail _ => true
  | .stepKernel track => decide (track < 32)
  | .stepStream track => decide (track < 32)
  | .stepService track => decide (track < 32)
  | .stepSearch track => decide (track < 32)
  | .stepEnd track => decide (track < 32)
  | .searchSlotEnd track => decide (track < 32)
  | .overrunHold => true
  | .overrunGraceExpiry => true
  | .stretchWarnTimer => true
  | .schedWaleLenWrite _ => true
  | .schedAdmitMaxWrite _ => true
  | .startTurn _ slot _ => decide (slot < 4096)
  | .cancel _ slot _ => decide (slot < 4096)
  | .drop _ slot _ => decide (slot < 4096)
  | .ring _ slot _ => decide (slot < 4096)
  | .aperturePartialWrite _ slot => decide (slot < 4096)
  | .apertureRead _ slot => decide (slot < 4096)
  | .controlLineWrite _ _ => true
  | .attentionLapse _ => true
  | .reserve _ => true
  | .grant _ _ _ _ => true
  | .commit _ _ _ _ => true
  | .reserveCancel _ _ _ => true
  | .turnDeadline _ _ => true
  | .completionRecordWrite ctx _ => decide (ctx < 8192)
  | .clearDegraded _ => true
  | .query _ slot _ _ => decide (slot < 4096)
  | .qcancel _ slot _ => decide (slot < 4096)
  | .queryRelay _ => true
  | .queryPart _ shardSlot => decide (shardSlot < 256)
  | .partAck q _ => decide (q < 16384)
  | .partProgressTimer part => decide (part < 16384)
  | .partProgress q _ => decide (q < 16384)
  | .partSilenceTimeout q _ => decide (q < 16384)
  | .partResendTimer q _ => decide (q < 16384)
  | .partCancel part => decide (part < 16384)
  | .partAnswer q _ _ => decide (q < 16384)
  | .answerAck part _ => decide (part < 16384)
  | .queryRecordWrite q => decide (q < 16384)
  | .queryDeadline q => decide (q < 16384)
  | .sweepBlockLoad array shardSlot partition _ _ _ _ => decide (array < 128) && decide (shardSlot < 256) && decide (partition < 65536)
  | .rerankComplete part => decide (part < 16384)
  | .partMemwaitEnd part _ => decide (part < 16384)
  | .arrayCalibrate array => decide (array < 128)
  | .arrayTempStep array _ => decide (array < 128)
  | .arrayCalibrationEnd array _ => decide (array < 128)
  | .shardLoad _ => true
  | .shardUnload _ => true
  | .shardReplace _ => true
  | .linkSignalDetect port lanes => decide (port < 8) && decide (lanes < 9)
  | .linkTrainStepDone port _ _ => decide (port < 8)
  | .linkTrainTimeout port => decide (port < 8)
  | .linkRetrain port => decide (port < 8)
  | .linkReauth port => decide (port < 8)
  | .lnkEnableWrite port _ => decide (port < 8)
  | .keepaliveEntry port => decide (port < 8)
  | .keepaliveBurstTimer port => decide (port < 8)
  | .keepaliveExit port => decide (port < 8)
  | .flitData port _ _ => decide (port < 8)
  | .flitCtrl port _ _ _ _ => decide (port < 8)
  | .ctrlFillTimer port => decide (port < 8)
  | .hello port _ => decide (port < 8)
  | .cert port _ => decide (port < 8)
  | .proof port _ _ => decide (port < 8)
  | .authDone port _ => decide (port < 8)
  | .authFail port => decide (port < 8)
  | .rekey port _ => decide (port < 8)
  | .authTimeout port => decide (port < 8)
  | .quarantineHoldoffExpiry port => decide (port < 8)
  | .rekeyThreshold port => decide (port < 8)
  | .packetForward inPort _ => decide (inPort < 8)
  | .load _ => true
  | .store _ => true
  | .atomic _ => true
  | .fence _ => true
  | .reply _ => true
  | .fenceDone _ => true
  | .delivered _ _ => true
  | .probe _ => true
  | .probeReply _ => true
  | .waking _ _ => true
  | .portDown port _ => decide (port < 8)
  | .deliveredTimer _ => true
  | .resendTimer _ _ => true
  | .deadTimeout _ => true
  | .postedLostTimeout _ _ => true
  | .probeTimer _ => true
  | .hostRead binding _ _ _ => decide (binding < 32)
  | .hostWrite binding _ _ _ => decide (binding < 32)
  | .hostWriteback binding _ _ => decide (binding < 32)
  | .recallStart _ _ => true
  | .recall _ binding _ _ => decide (binding < 32)
  | .birspi binding _ _ => decide (binding < 32)
  | .recallAck _ _ _ => true
  | .recallTimeout _ _ => true
  | .fenced _ => true
  | .coherentResend _ _ _ => true
  | .homeopAtom binding line _ => decide (binding < 32) && decide (line < 1024)
  | .openView binding line _ => decide (binding < 32) && decide (line < 1024)
  | .closeView binding line _ => decide (binding < 32) && decide (line < 1024)
  | .publish binding line _ => decide (binding < 32) && decide (line < 1024)
  | .homeop _ _ binding line _ _ _ _ => decide (binding < 32) && decide (line < 1024)
  | .homeopReply binding line _ _ _ => decide (binding < 32) && decide (line < 1024)
  | .bind _ => true
  | .unbind _ => true
  | .unfence _ => true
  | .dcAdd _ => true
  | .dcWithdraw _ => true
  | .dcHostResponse _ => true
  | .dcHostRelease binding _ => decide (binding < 32)
  | .dcGraceExpiry => true
  | .comCreate _ => true
  | .comGrant _ => true
  | .comDestroy _ => true
  | .decoderCommit binding decoder region _ => decide (binding < 32) && decide (decoder < 8) && decide (region < 8)
  | .ideKm _ _ _ => true
  | .ideFail _ => true
  | .beatTimer => true
  | .beat _ _ => true
  | .beatAck _ => true
  | .isolateTimeout => true
  | .voteTimer _ => true
  | .proposeCreate _ _ => true
  | .proposeOffer _ _ => true
  | .proposeAccept _ _ => true
  | .proposeWithdraw _ _ => true
  | .proposeSeize _ _ => true
  | .proposeReturn _ _ => true
  | .proposeFate _ _ => true
  | .vote _ _ => true
  | .stored _ _ => true
  | .keeperCopyComplete => true
  | .failoverReplayStart => true
  | .notice _ => true
  | .mapQuery _ _ _ => true
  | .answer _ => true
  | .offerExpiry _ _ => true
  | .handoverStateComplete _ _ => true
  | .handoverRelease _ _ => true
  | .mirrorTransfer _ _ _ => true
  | .rehearsal => true
  | .rehearsalDeviceStop => true
  | .mapLookup _ => true
  | .mapOffer _ => true
  | .mapWithdraw _ => true
  | .declare _ => true
  | .repair _ => true
  | .inject _ => true
  | .repairSelfTestEnd _ => true
  | .repairStateCurrent _ => true
  | .repairTimeout => true
  | .coldStart _ => true
  | .drivesReady _ => true
  | .driveReadyTimeout drive => decide (drive < 16)
  | .standLockTimeout => true
  | .joinSend => true
  | .join _ _ _ => true
  | .joinAck _ _ => true
  | .refuse => true
  | .formBoundExpiry => true
  | .warmStart _ => true
  | .catalogueCompact drive => decide (drive < 16)
  | .reloadReady _ _ => true
  | .reloadGo _ _ => true
  | .reloadAbandon _ => true
  | .writeSlot _ _ => true
  | .activate _ => true
  | .restart _ => true
  | .stage _ _ => true
  | .abandon _ => true
  | .scanCrc64 u _ => decide (u < 4)
  | .scanCrc32c u _ => decide (u < 4)
  | .scanJobEnd u => decide (u < 4)
  | .getVersion _ => true
  | .getCapabilities _ => true
  | .negotiateAlgorithms _ => true
  | .getDigests _ => true
  | .getCertificate _ _ _ _ => true
  | .challenge _ _ _ => true
  | .getMeasurements _ _ _ => true
  | .keyExchange _ _ => true
  | .finish _ _ _ => true
  | .keyUpdate _ _ => true
  | .heartbeat _ _ => true
  | .endSession _ _ => true
  | .getCsr _ _ => true
  | .setCertificate _ _ _ _ _ => true
  | .release _ _ _ _ _ => true
  | .inputUndervolt _ => true
  | .inputCollapse _ => true
  | .inputOvervolt _ => true
  | .overvoltRecovery _ => true
  | .clusterClockStop cluster => decide (cluster < 16)
  | .clusterPllStop cluster => decide (cluster < 16)
  | .clusterClockStart cluster => decide (cluster < 16)
  | .clusterClockRunning cluster => decide (cluster < 16)
  | .pwrSleep _ => true
  | .pwrWake _ => true
  | .asleep _ _ => true
  | .awake _ _ => true
  | .wake _ => true
  | .sleepQuiet => true
  | .sleepQuietTimeout => true
  | .sleepWake _ => true
  | .wakeSequenceEnd => true
  | .wakeTimeout => true
  | .wakeBoundExpiry _ _ => true
  | .sleepWaleTick => true
  | .dieFault _ _ => true
  | .thermalStage sensor level _ => decide (sensor < 16) && decide (level < 4)
  | .thermalStageClear _ => true
  | .thermalCooldownRestart => true
  | .thermNAssert => true
  | .wakeNAssert => true
  | .pinChatterQuiet _ _ => true
  | .pinHeld _ => true
  | .perstNAssert => true
  | .perstNRelease => true
  | .pwrPolicyWrite _ => true
  | .pwrWakeBoundWrite _ => true
  | .pldmBase _ _ => true
  | .pldmSensorRead _ sensor => decide (sensor < 65536)
  | .pldmFwTransfer _ _ _ _ => true
  | .activateFirmware _ => true
  | .pldmFileRead _ _ _ => true
  | .regRead _ _ => true
  | .regWrite _ _ _ => true
  | .mgtWindow _ => true
  | .mgtHeartbeatTick => true
  | .mpStallWatchdog => true
  | .mpRestart => true
  | .mgtFaultAckWrite _ => true
  | .telSnapshot => true
  | .telCtlWrite _ => true
  | .wakeNRelease => true
  | .thermNRelease => true
  | .hostLinkDown => true
  | .hostLinkTrained width _ => decide (width < 17)
  | .endpointIdAssignment _ => true

end Sys2Proof
end

