-- ==== Sys2Proof/Tests/Slice0.lean ====
section
/-! SUPPORT. Tests of the model: what well-formedness refuses, single steps on small states, and for every obligation
with hypotheses a state and operands that meet them. A witness theorem `witness_<Name>_<k>` lists the hypotheses of the
clauses of `Obligations.<Name>`, instantiated at the states below; hypotheses that only say that a command or a number
stands in a list written out in the statement, or compare two numerals, are left out. -/
namespace Sys2Proof.Tests
open Sys2Proof Sys2Proof.Machine
set_option Elab.async false

/-! ### What well-formedness refuses -/

theorem test_wf_bytes_8 :
    (∀ a0, (Instr.registerPartialWrite a0 8).wf = false) := by
  simp [Instr.wf]

theorem test_wf_line_4096 :
    (∀ a0, (Instr.sealPayloadPoison a0 4096).wf = false) := by
  simp [Instr.wf]

theorem test_wf_drive_16 :
    ((Instr.driveLost 16).wf = false) ∧
    ((Instr.driveReadyTimeout 16).wf = false) ∧
    ((Instr.catalogueCompact 16).wf = false) := by
  simp [Instr.wf]

theorem test_wf_die_4 :
    (∀ a1 a2, (Instr.streamHalfFilled 4 a1 a2).wf = false) ∧
    (∀ a1 a2, (Instr.streamHalfConsumed 4 a1 a2).wf = false) ∧
    (∀ a1 a2 a3, (Instr.mcastChunkArrived 4 a1 a2 a3).wf = false) ∧
    (∀ a1 a2, (Instr.routerPrefetch 4 a1 a2).wf = false) ∧
    (∀ a1 a2 a3, (Instr.translationWalkEnd 4 a1 a2 a3).wf = false) ∧
    (∀ a1 a2, (Instr.fillRecordEnd 4 a1 a2).wf = false) := by
  simp [Instr.wf]

theorem test_wf_cell_32 :
    (∀ a0 a2, (Instr.streamHalfFilled a0 32 a2).wf = false) ∧
    (∀ a0 a2, (Instr.streamHalfConsumed a0 32 a2).wf = false) ∧
    (∀ a0 a2 a3, (Instr.mcastChunkArrived a0 32 a2 a3).wf = false) := by
  simp [Instr.wf]

theorem test_wf_half_2 :
    (∀ a0 a1, (Instr.streamHalfFilled a0 a1 2).wf = false) ∧
    (∀ a0 a1, (Instr.streamHalfConsumed a0 a1 2).wf = false) ∧
    (∀ a0 a1 a3, (Instr.mcastChunkArrived a0 a1 2 a3).wf = false) := by
  simp [Instr.wf]

theorem test_wf_n_256 :
    (∀ a1, (Instr.tierResvLimitWrite 256 a1).wf = false) := by
  simp [Instr.wf]

theorem test_wf_record_256 :
    (∀ a0 a2, (Instr.fillRecordEnd a0 256 a2).wf = false) := by
  simp [Instr.wf]

theorem test_wf_cell_128 :
    (∀ a1, (Instr.scalarInstruction 128 a1).wf = false) ∧
    (∀ a1 a2, (Instr.mxIssue 128 a1 a2).wf = false) ∧
    (∀ a1 a2, (Instr.vxIssue 128 a1 a2).wf = false) ∧
    (∀ a1 a2 a3, (Instr.mvIssue 128 a1 a2 a3).wf = false) ∧
    ((Instr.issueSlotFree 128).wf = false) ∧
    (∀ a1 a2 a3, (Instr.engWait 128 a1 a2 a3).wf = false) ∧
    ((Instr.engWaitResume 128).wf = false) ∧
    (∀ a1 a2 a3, (Instr.engPoll 128 a1 a2 a3).wf = false) ∧
    (∀ a1 a2 a3, (Instr.flagLd 128 a1 a2 a3).wf = false) ∧
    (∀ a1 a2 a3, (Instr.flagSt 128 a1 a2 a3).wf = false) ∧
    (∀ a1 a2 a3 a4 a5, (Instr.flagAdd 128 a1 a2 a3 a4 a5).wf = false) ∧
    (∀ a1 a2 a3 a4 a5, (Instr.flagMax 128 a1 a2 a3 a4 a5).wf = false) ∧
    (∀ a1 a2 a3 a4 a5, (Instr.flagCas 128 a1 a2 a3 a4 a5).wf = false) ∧
    (∀ a1 a2 a3 a4, (Instr.flagWaitge 128 a1 a2 a3 a4).wf = false) ∧
    ((Instr.flagWaitgeResume 128).wf = false) ∧
    ((Instr.waitTimeout 128).wf = false) ∧
    ((Instr.engRel 128).wf = false) ∧
    ((Instr.engRelRetire 128).wf = false) ∧
    ((Instr.engRelTimeout 128).wf = false) ∧
    ((Instr.engAcq 128).wf = false) ∧
    (∀ a1, (Instr.waleRd 128 a1).wf = false) ∧
    (∀ a1 a2, (Instr.waleWait 128 a1 a2).wf = false) ∧
    ((Instr.waleWaitResume 128).wf = false) ∧
    (∀ a1, (Instr.stimeRd 128 a1).wf = false) ∧
    ((Instr.ecall 128).wf = false) ∧
    (∀ a1, (Instr.kernelTrap 128 a1).wf = false) ∧
    (∀ a1, (Instr.mma 128 a1).wf = false) ∧
    (∀ a1, (Instr.vAdd 128 a1).wf = false) ∧
    (∀ a1, (Instr.vSub 128 a1).wf = false) ∧
    (∀ a1, (Instr.vMul 128 a1).wf = false) ∧
    (∀ a1, (Instr.vFma 128 a1).wf = false) ∧
    (∀ a1, (Instr.vMax 128 a1).wf = false) ∧
    (∀ a1, (Instr.vMin 128 a1).wf = false) ∧
    (∀ a1, (Instr.vExp 128 a1).wf = false) ∧
    (∀ a1, (Instr.vLog 128 a1).wf = false) ∧
    (∀ a1, (Instr.vRsqrt 128 a1).wf = false) ∧
    (∀ a1, (Instr.vRcp 128 a1).wf = false) ∧
    (∀ a1, (Instr.vCvt 128 a1).wf = false) ∧
    (∀ a1, (Instr.vQmx 128 a1).wf = false) ∧
    (∀ a1, (Instr.vDqmx 128 a1).wf = false) ∧
    (∀ a1, (Instr.vRsum 128 a1).wf = false) ∧
    (∀ a1, (Instr.vRmax 128 a1).wf = false) ∧
    (∀ a1, (Instr.vWadd 128 a1).wf = false) ∧
    (∀ a1, (Instr.vArgmax 128 a1).wf = false) ∧
    (∀ a1 a2, (Instr.mvGet 128 a1 a2).wf = false) ∧
    (∀ a1 a2, (Instr.mvPut 128 a1 a2).wf = false) ∧
    (∀ a1 a2, (Instr.mvCopy 128 a1 a2).wf = false) ∧
    (∀ a1 a2, (Instr.mvCellPut 128 a1 a2).wf = false) ∧
    (∀ a1 a2, (Instr.mvAtom 128 a1 a2).wf = false) ∧
    (∀ a1, (Instr.moverDescEnd 128 a1).wf = false) := by
  simp [Instr.wf]

theorem test_wf_track_32 :
    ((Instr.stepKernel 32).wf = false) ∧
    ((Instr.stepStream 32).wf = false) ∧
    ((Instr.stepService 32).wf = false) ∧
    ((Instr.stepSearch 32).wf = false) ∧
    ((Instr.stepEnd 32).wf = false) ∧
    ((Instr.searchSlotEnd 32).wf = false) := by
  simp [Instr.wf]

theorem test_wf_slot_4096 :
    (∀ a0 a2, (Instr.startTurn a0 4096 a2).wf = false) ∧
    (∀ a0 a2, (Instr.cancel a0 4096 a2).wf = false) ∧
    (∀ a0 a2, (Instr.drop a0 4096 a2).wf = false) ∧
    (∀ a0 a2, (Instr.ring a0 4096 a2).wf = false) ∧
    (∀ a0, (Instr.aperturePartialWrite a0 4096).wf = false) ∧
    (∀ a0, (Instr.apertureRead a0 4096).wf = false) ∧
    (∀ a0 a2 a3, (Instr.query a0 4096 a2 a3).wf = false) ∧
    (∀ a0 a2, (Instr.qcancel a0 4096 a2).wf = false) := by
  simp [Instr.wf]

theorem test_wf_ctx_8192 :
    (∀ a1, (Instr.completionRecordWrite 8192 a1).wf = false) := by
  simp [Instr.wf]

theorem test_wf_shardSlot_256 :
    (∀ a0, (Instr.queryPart a0 256).wf = false) ∧
    (∀ a0 a2 a3 a4 a5 a6, (Instr.sweepBlockLoad a0 256 a2 a3 a4 a5 a6).wf = false) := by
  simp [Instr.wf]

theorem test_wf_q_16384 :
    (∀ a1, (Instr.partAck 16384 a1).wf = false) ∧
    (∀ a1, (Instr.partProgress 16384 a1).wf = false) ∧
    (∀ a1, (Instr.partSilenceTimeout 16384 a1).wf = false) ∧
    (∀ a1, (Instr.partResendTimer 16384 a1).wf = false) ∧
    (∀ a1 a2, (Instr.partAnswer 16384 a1 a2).wf = false) ∧
    ((Instr.queryRecordWrite 16384).wf = false) ∧
    ((Instr.queryDeadline 16384).wf = false) := by
  simp [Instr.wf]

theorem test_wf_part_16384 :
    ((Instr.partProgressTimer 16384).wf = false) ∧
    ((Instr.partCancel 16384).wf = false) ∧
    (∀ a1, (Instr.answerAck 16384 a1).wf = false) ∧
    ((Instr.rerankComplete 16384).wf = false) ∧
    (∀ a1, (Instr.partMemwaitEnd 16384 a1).wf = false) := by
  simp [Instr.wf]

theorem test_wf_array_128 :
    (∀ a1 a2 a3 a4 a5 a6, (Instr.sweepBlockLoad 128 a1 a2 a3 a4 a5 a6).wf = false) ∧
    ((Instr.arrayCalibrate 128).wf = false) ∧
    (∀ a1, (Instr.arrayTempStep 128 a1).wf = false) ∧
    (∀ a1, (Instr.arrayCalibrationEnd 128 a1).wf = false) := by
  simp [Instr.wf]

theorem test_wf_partition_65536 :
    (∀ a0 a1 a3 a4 a5 a6, (Instr.sweepBlockLoad a0 a1 65536 a3 a4 a5 a6).wf = false) := by
  simp [Instr.wf]

theorem test_wf_port_8 :
    (∀ a1, (Instr.linkSignalDetect 8 a1).wf = false) ∧
    (∀ a1 a2, (Instr.linkTrainStepDone 8 a1 a2).wf = false) ∧
    ((Instr.linkTrainTimeout 8).wf = false) ∧
    ((Instr.linkRetrain 8).wf = false) ∧
    ((Instr.linkReauth 8).wf = false) ∧
    (∀ a1, (Instr.lnkEnableWrite 8 a1).wf = false) ∧
    ((Instr.keepaliveEntry 8).wf = false) ∧
    ((Instr.keepaliveBurstTimer 8).wf = false) ∧
    ((Instr.keepaliveExit 8).wf = false) ∧
    (∀ a1 a2, (Instr.flitData 8 a1 a2).wf = false) ∧
    (∀ a1 a2 a3 a4, (Instr.flitCtrl 8 a1 a2 a3 a4).wf = false) ∧
    ((Instr.ctrlFillTimer 8).wf = false) ∧
    (∀ a1, (Instr.hello 8 a1).wf = false) ∧
    (∀ a1, (Instr.cert 8 a1).wf = false) ∧
    (∀ a1 a2, (Instr.proof 8 a1 a2).wf = false) ∧
    (∀ a1, (Instr.authDone 8 a1).wf = false) ∧
    ((Instr.authFail 8).wf = false) ∧
    (∀ a1, (Instr.rekey 8 a1).wf = false) ∧
    ((Instr.authTimeout 8).wf = false) ∧
    ((Instr.quarantineHoldoffExpiry 8).wf = false) ∧
    ((Instr.rekeyThreshold 8).wf = false) ∧
    (∀ a1, (Instr.portDown 8 a1).wf = false) := by
  simp [Instr.wf]

theorem test_wf_lanes_9 :
    (∀ a0, (Instr.linkSignalDetect a0 9).wf = false) := by
  simp [Instr.wf]

theorem test_wf_inPort_8 :
    (∀ a1, (Instr.packetForward 8 a1).wf = false) := by
  simp [Instr.wf]

theorem test_wf_binding_32 :
    (∀ a1 a2 a3, (Instr.hostRead 32 a1 a2 a3).wf = false) ∧
    (∀ a1 a2 a3, (Instr.hostWrite 32 a1 a2 a3).wf = false) ∧
    (∀ a1 a2, (Instr.hostWriteback 32 a1 a2).wf = false) ∧
    (∀ a0 a2 a3, (Instr.recall a0 32 a2 a3).wf = false) ∧
    (∀ a1 a2, (Instr.birspi 32 a1 a2).wf = false) ∧
    (∀ a1 a2, (Instr.homeopAtom 32 a1 a2).wf = false) ∧
    (∀ a1 a2, (Instr.openView 32 a1 a2).wf = false) ∧
    (∀ a1 a2, (Instr.closeView 32 a1 a2).wf = false) ∧
    (∀ a1 a2, (Instr.publish 32 a1 a2).wf = false) ∧
    (∀ a0 a1 a3 a4 a5 a6 a7, (Instr.homeop a0 a1 32 a3 a4 a5 a6 a7).wf = false) ∧
    (∀ a1 a2 a3 a4, (Instr.homeopReply 32 a1 a2 a3 a4).wf = false) ∧
    (∀ a1, (Instr.dcHostRelease 32 a1).wf = false) ∧
    (∀ a1 a2 a3, (Instr.decoderCommit 32 a1 a2 a3).wf = false) := by
  simp [Instr.wf]

theorem test_wf_line_1024 :
    (∀ a0 a2, (Instr.homeopAtom a0 1024 a2).wf = false) ∧
    (∀ a0 a2, (Instr.openView a0 1024 a2).wf = false) ∧
    (∀ a0 a2, (Instr.closeView a0 1024 a2).wf = false) ∧
    (∀ a0 a2, (Instr.publish a0 1024 a2).wf = false) ∧
    (∀ a0 a1 a2 a4 a5 a6 a7, (Instr.homeop a0 a1 a2 1024 a4 a5 a6 a7).wf = false) ∧
    (∀ a0 a2 a3 a4, (Instr.homeopReply a0 1024 a2 a3 a4).wf = false) := by
  simp [Instr.wf]

theorem test_wf_decoder_8 :
    (∀ a0 a2 a3, (Instr.decoderCommit a0 8 a2 a3).wf = false) := by
  simp [Instr.wf]

theorem test_wf_region_8 :
    (∀ a0 a1 a3, (Instr.decoderCommit a0 a1 8 a3).wf = false) := by
  simp [Instr.wf]

theorem test_wf_u_4 :
    (∀ a1, (Instr.scanCrc64 4 a1).wf = false) ∧
    (∀ a1, (Instr.scanCrc32c 4 a1).wf = false) ∧
    ((Instr.scanJobEnd 4).wf = false) := by
  simp [Instr.wf]

theorem test_wf_cluster_16 :
    ((Instr.clusterClockStop 16).wf = false) ∧
    ((Instr.clusterPllStop 16).wf = false) ∧
    ((Instr.clusterClockStart 16).wf = false) ∧
    ((Instr.clusterClockRunning 16).wf = false) := by
  simp [Instr.wf]

theorem test_wf_sensor_16 :
    (∀ a1 a2, (Instr.thermalStage 16 a1 a2).wf = false) := by
  simp [Instr.wf]

theorem test_wf_level_4 :
    (∀ a0 a2, (Instr.thermalStage a0 4 a2).wf = false) := by
  simp [Instr.wf]

theorem test_wf_sensor_65536 :
    (∀ a0, (Instr.pldmSensorRead a0 65536).wf = false) := by
  simp [Instr.wf]

theorem test_wf_width_17 :
    (∀ a1, (Instr.hostLinkTrained 17 a1).wf = false) := by
  simp [Instr.wf]

/-! ### Small states -/

/-- The register at an offset that has one. -/
def tReg (off : Nat) : RegDesc := (regAt off).getD ⟨0, 8, 1, []⟩
/-- In SERVICE, with a store of 64 MiB whose two granules belong to tenant 3. -/
def tServe : State :=
  ({ State.reset with mode := .service }.setF F.tierStoreSize_size 0 (2 ^ 26)).onXlt fun x => { x with
    homes := [(0, { owner := 3, mode := .priv }), (1, { owner := 3, mode := .priv })] }
/-- `tServe` with block 0 in some state. -/
def tBlock (b : Block) : State := tServe.setBlk 0 b
/-- A LIVE block of tenant 3. -/
def tLiveB : Block := { Block.fresh with state := .live, tenant := 3 }
/-- A SEALED block of tenant 3, held in T0, whose image is number 7. -/
def tSealedB : Block := { Block.fresh with state := .sealed, tenant := 3, t0 := .held, image := some 7 }
/-- The all-zero image. -/
def tImage : Image :=
  { drive := 0, start := 262144, sectors := 1, codec := 0, kind := 0, elem := 0, bodyLen := 0, payload := [(5, 1)], sealAddr := 0
    sealWale := 0, tenant := 3, version := 0, rawTail := 0, refs := 1 }
/-- A drive. -/
def tDrive : Drive := { port := 0, slot := 0, serial := 1, sectors := 1000, lost := false, used := [(262144, 1)] }
/-- `tBlock` with image 7 and a drive. -/
def tImg (b : Block) : State := (tBlock b).onTier fun t => { t with images := [(7, tImage)], drives := [tDrive] }
/-- A seal that TIER_OP_CMD asked for, whose image is number 7. -/
def tJob : SealJob := { owner := .command, elem := 1, t1Copy := false, kind := 0, version := 0, image := some 7 }
/-- T0 and T1 frames are free. -/
def tFree (s : State) : State := (s.setF F.tierFree_t0Free 0 100).setF F.tierFree_t1Free 0 100
/-- One layer of one block, dealt to cell 0 in chunks of a line. -/
def tLayer : LayerEntry :=
  { src := 0, blocks := 1, packed := false, mcast := false, moe := false, mcastGroup := 0, cellMask := 1, sramOffset := 0
    sramBytes := 64, flagIndex := 0 }
/-- Die 0 streams layers. -/
def tStream (ls : List LayerEntry) (filled : List (Nat × Nat)) (dealt : Nat) : Stream :=
  { tenant := 3, layers := ls, window := 1, lead := 1, layer := 0, filled := filled, dealt := dealt }
/-- A device that streams on die 0. -/
def tStreams (b : Block) (v : Stream) : State :=
  ((tFree (tImg b)).setStream 0 v).onSched fun x => { x with runs := [(0,
    { next := 0, ended := false, failed := false, served := [], adoptedFrom := none
      open_ := [{ index := 0, kind := .stream, die := 0, cells := [0], layers := 1, model := 0, argSram := 0, ran := [0], batch := []
                  status := .done, overrun := false }] })] }
/-- `tServe` with two words written into registers. -/
def tWords (off0 : Nat) (w0 : Word) (off1 : Nat) (w1 : Word) : State := (tServe.setReg off0 w0).setReg off1 w1
/-- `tServe` with the words of an edit of the extent map. -/
def tEdit (w0 w1 : Word) : State := tWords (F.xltEditW0_all.off 0) w0 (F.xltEditW1_all.off 0) w1
/-- `tBlock` with the address of block 0 or another in TIER_OP_ADDR. -/
def tOp (b : Block) (addr : Word) : State := (tFree (tImg b)).setReg (F.tierOpAddr_all.off 0) addr
/-- The state in which an allocation ended. -/
def tGot : Got → State
  | .frame s => s
  | .wait s _ => s
  | .quota s => s
/-- What a seal of block 0 makes. -/
def tMade (s : State) : Nat × State :=
  ((s.onTier fun t => { t with op := some (.sealing 0) }).makeImage 0 (s.blockMem 0) (s.getF F.tierOpCmd_elem) 0 (s.blk 0).tenant 0).getD (0, s)
/-- Entry word 0 of a VALID 32 MiB extent of tenant 3 at tenant granule 0, which movers may read, write and do atomics in. -/
def tW0 : Word := 1 + 8 + 16 + 32 + 64 + 3 * 256
/-- The extent of `tW0` over granule 0 of the own store. -/
def tExtent : Extent := extentOf tW0 0
/-- A device whose map holds entries. -/
def tMapped (es : List Extent) : State := tServe.onXlt fun x => { x with entries := es }
/-- A mover descriptor that GETs one line of tenant address 0 to SRAM offset 0. -/
def tGetDesc : Line := 0x40
/-- A running descriptor of a mover. -/
def tRun (p : MvPhase) : MvRun :=
  { ticket := 0, desc := tGetDesc, pos := 0, moved := 0, code := .done, phase := p, tags := [], through := [], reading := [], got := []
    orphan := false, sched := false }
/-- `s` with a descriptor that runs on channel 0 of cell 0, a cell of tenant 3. -/
def tMover (s : State) (r : MvRun) : State :=
  (s.setF F.cellState_tenant 0 3).setChan 0 0 { Channel.fresh with run := some r }
/-- A walk of die 0 for granule 0 of tenant 3 that channel 0 of cell 0 waits for. -/
def tWalk : Walk := { die := 0, tenant := 3, granule := 0, waiting := [(0, 0)] }
/-- `tWalk` under way over a map. -/
def tWalking (es : List Extent) : State := tMover ((tMapped es).onXlt fun x => { x with walks := [tWalk] }) (tRun .walk)
/-- A fill record of die 0 for block 0. -/
def tFill (ws : List (Nat × Nat)) : FillRec := { die := 0, id := 0, tenant := 3, granule := 0, blocks := [0], waiting := ws }
/-- `tFill` open over block 0. -/
def tFilling (b : Block) (ws : List (Nat × Nat)) : State :=
  tMover ((tImg b).onXlt fun x => { x with entries := [tExtent], fills := [tFill ws] }) (tRun .fill)
/-- A Dynamic Capacity operation that drains. -/
def tDrainOp (ks : List XKey) : DcOp := { ext := { binding := 0, addr := 0, blocks := 128 }, phase := .draining, command := true, forced := false, keys := ks, waits := [] }
/-- Cell 0, of tenant 3, runs a kernel. -/
def tCell (v : Cell) : State :=
  ((tServe.setF F.cellState_tenant 0 3).setF F.cellState_run 0 2).onCellAt 0 fun _ => v
/-- A cell with values in x10 and x11. -/
def tRegs (a b : Word) : Cell := { Cell.fresh with x := [(10, a), (11, b)] }
/-- A queue with waiting descriptors. -/
def tQueue (ls : List Line) : Queue := { next := ls.length, items := ls.zipIdx.map (fun e => (e.2, e.1)), ended := [] }
/-- A 1 by 1 by 32 product of INT8 elements at SRAM offsets 0 and 64. -/
def tMatLine : Line :=
  0x10 + (3 <<< 8) + (3 <<< 12) + (1 <<< 32) + (1 <<< 40) + (1 <<< 48) + (64 <<< 96) + (64 <<< 256) + (64 <<< 288)
/-- A vector operation on 32 elements of a format at SRAM offsets 0, 1024 and 3072, to offset 2048. -/
def tVecLine (opc stype dtype : Nat) : Line :=
  BitVec.ofNat 512 (opc + 2 ^ 8 * stype + 2 ^ 12 * dtype + 2 ^ 32 * 32 + 2 ^ 96 * 1024 + 2 ^ 128 * 3072 + 2 ^ 160 * 2048 + 2 ^ 192 * 4096)
/-- A cell of tenant 3 whose channel 0 or another holds one waiting descriptor. -/
def tChan (ch : Nat) (l : Line) : State := (tCell .fresh).setChan 0 ch { Channel.fresh with q := tQueue [l] }
/-- A one-line mover descriptor of an operation, with an OPERAND. -/
def tMvLine (opc operand : Nat) : Line := BitVec.ofNat 512 (opc + operand * 2 ^ 320)
/-- A packet with nothing in it. -/
def tPacket (k : PacketKind) : Packet :=
  { kind := k, cls := 0, vl := false, mcast := false, posted := true, resent := false, stomp := false, src := 0, hops := 0, dst := 0
    tenant := 3, lines := 1, addr := 0, flowSeq := 0, tag := 0, mlen := 0, uni := none, work := none, data := [5], mask := BitVec.allOnes 64
    atop := 0, operand := 0, compare := 0, code := .done, fenced := 0, entries := [], copy := none, msg := none }
/-- A schedule message of device 1. -/
def tMsg (epoch : Nat) (wale : Wale) (cause : Nat) : SchedMsg :=
  { kind := 1, epoch := BitVec.ofNat 8 epoch, cause := cause, device := 1, count := 1, wale := wale, time := 9000, lenUs := 50 }
/-- In SERVICE with schedule facts. -/
def tSched (f : SchedS → SchedS) : State := tServe.onSched f
/-- The boundary of wale 1. -/
def tNext : Announced := { wale := 1, time := 9000, lenUs := 50 }
/-- A step of one kind on cell 0 of die 0. -/
def tStepOf (k : StepKind) : Step :=
  { kind := k, die := 0, kernel := 4, cellMask := 1, startNs := 0, argIndex := 0, argSram := 0, group := 0, rank := 0, size := 0, len := 0 }
/-- A kernel of tenant 3. -/
def tKernel : Kernel :=
  { id := 4, priv := false, anyTenant := false, tenant := 3, codeOffset := 0, codeBytes := 64, entry := 0, stackBytes := 64, dataBytes := 64 }
/-- Track 0 of tenant 3 runs a template of one step. -/
def tTrack (d : Step) : State :=
  ((tServe.onSched fun x => { x with
    tracks := [(0, { track := 0, tenant := 3, origin := 0, cycle := [1] })]
    templates := [(1, { id := 1, track := 0, steps := [d], args := [0], minWaleUs := 50, shareT0 := 0, shareT1 := 0, shareT2 := 0, shareLink := [] })]
    runs := [(0, { next := 0, open_ := [], ended := false, failed := false, served := [], adoptedFrom := none })] }).onCell fun x =>
      { x with kernels := [tKernel] }).setF F.cellState_run 0 1
/-- Tenant 3 has an aperture of 4 lines and a completion ring of 64 entries at tenant address 0, which a map holds; class 0 is valid. -/
def tAp (a : Aperture) : State :=
  (((tMapped [tExtent]).setF F.svcAperture_lines 3 4).setF F.svcClass_valid 0 1).setAperture 3 { a with ringEntries := 64 }
/-- An aperture of one slot. -/
def tSlots (v : Slot) : Aperture := { Aperture.fresh with slots := [(1, v)] }
/-- A START line that passes its checks. -/
def tStart : Line := BitVec.ofNat 512 (1 + 2 ^ 32 + 2 ^ 256 + 2 ^ 288)
/-- A held START. -/
def tHeld : Slot := { Slot.fresh with held := true, line := tStart }
/-- A reservation message of device 1 of the ring. -/
def tReserve : ReserveMsg :=
  { owner := 1, tenant := 3, request := 9, model := 0, cls := 0, resumed := false, index := 0, bound := 1, kvAddr := 0, promptTokens := 1
    ringSlot := 0, keep := false, kvTokens := 0, greedy := false, temp := 0, topK := 0, topP := 0 }
/-- A request context of tenant 3. -/
def tCtx : Ctx :=
  { state := .decode, tenant := 3, model := 0, cls := 0, ringSlot := 0, resumed := false, index := 1, owner := 0, requestId := 9, seed := 0
    prompt := [1], promptAddr := 0, promptDone := 1, maxNew := 1, kvAddr := 0, pos := 1, bound := 2, last := 1, emit := 8, topK := 0, topP := 0
    temp := 0, greedy := true, stop := 0, keep := false, stamp := 0, deadlineUs := 1, admitWale := 0, order := 0, pendingTok := [7], sampled := [7]
    salt := 0, stalledFrom := .free, ending := none, ended := false, suppress := 0, resv := none, sealedSegs := 0 }
/-- A record of context 0. -/
def tRecord : Record := { ctx := 0, tenant := 3, ring := 3, isEnd := false, seq := 1, line := 77, tokens := 1 }
/-- A QUERY line that passes its checks. -/
def tQuery : Line := BitVec.ofNat 512 (0x10 + 2 ^ 32 + 2 ^ 48 + 2 ^ 288 + 2 ^ 304)
/-- A corpus of tenant 3 with one shard, in slot 2 of device 0. -/
def tCorpus : Corpus := { tenant := 3, shared := false, group := 0, dim := 64, shards := [(0, 2)] }
/-- A note of a shard. -/
def tNote (k : ShardStand) : ShardNote := { stand := k, code := none, exhausted := false, heard := 0 }
/-- A query of tenant 3 that waits for shard 0. -/
def tHomeQ (st : HomeState) (k : ShardStand) : HomeQ :=
  { state := st, die := 0, tenant := 3, slot := 1, corpus := 0, widen := 0, k := 1, nprobe := 1, queryId := 5, resultAddr := 0, deadlineUs := 1
    rerank := 1, ef := 1, stamp := 0, block := [0], round := 0, shards := [(0, tNote k)], hits := [], scanned := 0, matched := 0, ended := none }
/-- A shard header. -/
def tHdr : ShardHdr :=
  { base := 0, tomb := none, form := 0, pqM := 0, degree := 0, dim := 64, rows := 16, parts := 1, entry := 0, dir := 0, centroids := 0, codebook := 0
    sketches := 0, codes := 0, attrs := 0, ids := 0, vectors := 0, graph := 0, die := 0, tenant := 3 }
/-- The parts of a round that device 1 asks of slot 2 here. -/
def tParts : QueryParts :=
  { home := 1, q := 0, tenant := 3, corpus := 0, k := 1, nprobe := 1, rerank := 1, ef := 1, round := 0, periodUs := 0, block := [0], shards := [0] }
/-- A part context. -/
def tPart (st left : PartState) : Part :=
  { state := st, left := left, die := 0, msg := tParts, shard := 0, slot := 2, gen := 0, hdr := tHdr, probes := [], compared := [], cands := []
    scanned := 0, matched := 0, exhausted := false, code := .done, results := [] }
/-- A device that knows the corpus, with some search state. -/
def tSrch (f : SrchS → SrchS) : State :=
  (tAp .fresh).onSrch fun x => f { x with corpora := [(0, tCorpus)] }
/-- One home query. -/
def tHome (h : HomeQ) : State := tSrch fun x => { x with homes := [(0, h)] }
/-- One part. -/
def tHasPart (p : Part) : State := tSrch fun x => { x with parts := [(0, p)] }
/-- A device whose tenant 3 may reserve one T0 frame. -/
def tAdmit : State := (((tMapped [tExtent]).setF F.svcModelKv_segFrames 0 1).setF F.tierResvLimit_t0Limit 3 10).applyHeld
/-- In SERVICE, with port 0 in a link state and with what a port holds. -/
def tLink (st : Nat) (q : Port) : State := (tServe.setF F.lnkState_state 0 st).setPort 0 q
/-- A port in the handshake. -/
def tShake (h : Handshake) : State := tLink 2 { Port.fresh with mapped := true, partner := 1, hs := { h with sentHello := true } }
/-- What a certificate chain of device 1 is found to be. -/
def tCert : CertFacts := { chainOk := true, revoked := false, device := 1, accelerator := false, certs := 3 }
/-- A flow of device 1 to device 0. -/
def tFlow : FlowId := { src := 1, cls := 0, dst := 0, mcast := false }
/-- A packet of `tFlow`. -/
def tOfFlow (k : PacketKind) (n : Nat) : Packet := { tPacket k with src := 1, flowSeq := BitVec.ofNat 16 n, posted := false, tag := 6 }
/-- A request that device 1 is to answer. -/
def tRequest : Request :=
  { tag := 6, issuer := .other, flow := { src := 0, cls := 0, dst := 1, mcast := false }, seq := 0, addr := 0, lines := 1, waiting := [1], answers := []
    packet := tPacket .load, since := 0, woken := false }
/-- A packet kept for sending again. -/
def tKept (k : PacketKind) : Replay := { flow := tRequest.flow, seq := 0, packet := tPacket k, lastPort := none, uncovered := [1] }
/-- A fabric with some state. -/
def tFab (f : FabS → FabS) : State := tServe.onFab f
/-- Binding 0 is ACTIVE for tenant 3. -/
def tBind (f : HptS → HptS) : State := (((tMapped [{ tExtent with host := true }]).setF F.hptBind_state 0 1).setF F.hptBind_tenant 0 3).onHpt f
/-- Binding 0 holds the first block of Dynamic Capacity. -/
def tDcExt : DcExtent := { binding := 0, addr := 0, blocks := 1 }
/-- Binding 0 may reach its Dynamic Capacity. -/
def tHost : State := tBind fun h => { h with extents := [tDcExt] }
/-- Binding 0 of this device. -/
def tHolder : Holder := { dev := 0, binding := 0 }
/-- Line 0 is held by one holder, with accesses that wait. -/
def tDir (h : Holder) (recalling owned : Bool) (ws : List Access) : State :=
  tBind fun x => { x with dir := [(0, { owned := owned, holders := [{ holder := h, tenant := 3, since := 0, recalling := recalling }], waiting := ws })] }
/-- A store of tenant 3 to line 0. -/
def tStoreAcc : Access := engineAccess 3 0 (.store [5] (BitVec.allOnes 64))
/-- A home-operation request line. -/
def tHop (op a1 : Nat) : Line := BitVec.ofNat 512 (op + a1 * 2 ^ 128)
/-- Line 1 of the home operations of binding 0 runs a request. -/
def tHomeOp : State := tBind fun h => { h with homeOps := [(1, { HomeOpLine.fresh with busy := true }), (64, { HomeOpLine.fresh with busy := true })] }
/-- A commons of tenant 3 over the first granule. -/
def tCommons : Commons := { firstBlock := 0, blocks := 128, owner := 3, rights := [(4, .read)], versions := [{ num := 0, images := [] }], views := [] }
/-- A command of HPT_CMD, with its two arguments. -/
def tHptArgs (f : HptS → HptS) (a0 a1 : Word) : State := ((tBind f).setReg (F.hptArg0_all.off 0) a0).setReg (F.hptArg1_all.off 0) a1
/-- A Dynamic Capacity operation on `tDcExt`. -/
def tDcOp (p : DcPhase) : DcOp := { ext := tDcExt, phase := p, command := true, forced := false, keys := [], waits := [] }
/-- A finished session of a transport. -/
def tSession (t : Transport) : Session := { id := 1, transport := t, finished := true, updates := 0 }
/-- This device is a keeper of its ring, with two others. -/
def tKeeper (f : MapS → MapS) : State :=
  (((tServe.setF F.mapRole_keeper 0 1).setF F.mapRole_keeper1X 0 1).setF F.mapRole_keeper2X 0 2).onMap f
/-- A lease record of a request. -/
def tLease (state : Nat) (holder taker : DevNo) : MapRec := { MapRec.blank 2 holder taker 9 with state := state, origin := 1 }
/-- A proposal of a record, stored by the keepers named. -/
def tProposal (r : MapRec) (ks : List DevNo) : Proposal := { op := opFate, src := 0, rec_ := r, stored := ks, wale := 0 }
/-- A Weave image with nothing in it. -/
def tWeave : WeaveImage :=
  { partialKind := false, rollback := 0, standId := 0, imageId := 5, baseId := 0, effective := 0, tenant := 0, standDigest := 0
    stand := { waleUs := 50, timeSource := 0, backups := [], timeGroup := 0, rings := 1 }, keepers := []
    device := { device := 0, code := 0, pool := true, ctxLimit := 0, storeSize := 2 ^ 26, mirrorFrames := 0 }, drives := [], mirrors := []
    classes := [], cals := [], ports := [], routes := [], groups := [], tenants := [], bindings := [], ideRequired := false, extents := []
    homes := [], tracks := [], templates := [], kernels := [], models := [], corpora := [], policies := [], revoked := [], takers := []
    predTracks := [{ track := 2, tenant := 3, origin := 0, cycle := [1] }], predTemplates := [], predKernels := [], predModels := [] }
/-- The image runs. -/
def tRunning (f : MapS → MapS) : State := (tKeeper f).onWeave fun w => { w with running := some tWeave }
/-- A lease that is being handed over. -/
def tHandover (giver accepted : Bool) : Handover := { kind := 2, key := 9, other := 1, giver := giver, offered := 0, accepted := accepted, kept := none }
/-- A rehearsal policy of ring 0. -/
def tPolicy (origin : Wale) (period : Nat) : Policy := { ring := 0, kinds := 1, period := period, origin := origin, dayStart := 0, dayEnd := 86400 }
/-- An image whose ring has a policy runs. -/
def tPolicies (p : Policy) : State := (tKeeper id).onWeave fun w => { w with running := some { tWeave with policies := [p] } }
/-- A command of MAP_CMD with its arguments. -/
def tMapArgs (f : MapS → MapS) (k : Nat) (key : Word) : State := ((tKeeper f).setF F.mapArg0_kind 0 k).setReg (F.mapArg1_key.off 0) key
/-- In REPAIR at a step. -/
def tRepair (n : Nat) : State := { tRunning (fun m => { m with repairStep := n }) with mode := .repair }
/-- What a start finds: everything is in order. -/
def tStartFacts (ok : Bool) : StartFacts :=
  { identityOk := ok, fw0 := ⟨true, 0, 1⟩, fw1 := ⟨true, 0, 1⟩, slotA := none, slotB := none, t0Ok := true, t1Ok := true }
/-- A start of an image with two drives, whose drives listed are outstanding. -/
def tStarting (p : StartPhase) (ds : List Nat) : State :=
  (tServe.onWeave fun w => { w with
    running := some { tWeave with drives := [⟨0, 0, 1⟩, ⟨1, 0, 2⟩] }, phase := p, drivesLeft := ds }).onTier fun t => { t with drives := [tDrive] }
/-- A Weave image read from a slot. -/
def tFacts : ImageFacts := { img := tWeave, bad := none }
/-- An image is staged. -/
def tStaged (sent : Bool) : State := tServe.onWeave fun w => { w with staged := some { tWeave with imageId := 7 }, readySent := sent }
/-- CHK unit 0 has a range of one line from block 0, and its job runs an OP. -/
def tScan (b : Block) (op : Nat) : State :=
  (((tBlock b).setF F.chkScanLen_length 0 64).setF F.chkScanCmd_busy 0 1).setF F.chkScanCmd_op 0 op
/-- The negotiation on I3C is over, with some security state. -/
def tSpdm (f : SecS → SecS) : State := tServe.onSec fun x => f { x with i3c := .negotiated }
/-- A certificate chain. -/
def tChain (ok : Bool) (n : Nat) : ChainFacts := { ok := ok, certs := n, root := 8, standId := 77, device := 3, rootId := 5 }
/-- `tServe` with power facts. -/
def tPwr (m : Mode) (f : PwrS → PwrS) : State := { tServe.onPwr f with mode := m }
/-- In REST, where the sleep policy allows SLEEP. -/
def tRest : State := (tPwr .rest id).setF F.pwrPolicy_sleepOk 0 1
/-- A packet held for device 1. -/
def tHeldPacket (posted : Bool) : SleepHold := { packet := { tOfFlow .store 0 with dst := 1, posted := posted }, issuer := none, boundary := false }
/-- A fault record. -/
def tFault (q : Nat) : FaultRec :=
  { seq := q, block := 7, bit := 2, dieType := 0, die := 0, tenant := 0, index := 0, wale := 0, count := 1, stime := 0, addr := 0, status := 0, arg := 0 }
/-- `tServe` with management facts. -/
def tMgt (f : MgtS → MgtS) : State := tServe.onMgt f

/-! ### Values the manual gives -/

/-- R618: the check column, over the ASCII bytes "123456789". -/
theorem test_crc_checks :
    crc64 [0x31, 0x32, 0x33, 0x34, 0x35, 0x36, 0x37, 0x38, 0x39] = 0xAE8B14860A799888#64 ∧
    crc32c [0x31, 0x32, 0x33, 0x34, 0x35, 0x36, 0x37, 0x38, 0x39] = 0xE3069283#32 ∧
    crc16 [0x31, 0x32, 0x33, 0x34, 0x35, 0x36, 0x37, 0x38, 0x39] = 0xD0DB#16 := by decide +kernel

/-- R169: the largest finite codes and the canonical NaNs of the small formats. -/
theorem test_format_codes :
    fmtE4M3.decode 0x7E = .fin false 14 5 ∧ fmtE5M2.decode 0x7B = .fin false 7 13 ∧ fmtE2M1.decode 7 = .fin false 3 1 ∧
    fmtE4M3.decode 0x7F = .nan ∧ fmtE5M2.decode 0x7C = .inf false ∧ fmtE4M3.near .nan = 0x7F ∧ fmtE5M2.near .nan = 0x7E ∧
    fmtBF16.near .nan = 0x7FC0 ∧ fmtFP32.near .nan = 0x7FC00000 := by decide +kernel

/-! ### Steps -/

/-- No word of the opcode table has bits, so none spells a command and the queue stays as it is. -/
theorem test_no_word_spells_a_command : decodeTableWord 64 5 = none ∧ State.reset.withFetchWord 64 5 = State.reset := ⟨rfl, rfl⟩

/-- On an empty queue a nanosecond passes. -/
theorem test_idle_step : step State.reset = .next { State.reset with stime := State.reset.stime + 1 } := rfl

/-- A command at the front of the queue runs and leaves the queue. -/
theorem test_step_runs_front :
    step (State.reset.withCommand (.pldmSensorRead .i3c 0)) = exec (.pldmSensorRead .i3c 0) State.reset := rfl

/-! ### Hypotheses that range over all numbers -/

/-- The other Rand die of an OZ8-880 has failed, and an OZ8-220 has no other. -/
theorem witness_DieAndThermalComplete_last :
    (∀ r, r ≠ 0 → (tPwr .service fun p => { p with failed := [(.rand, 1)] }).code.hasDie .rand r = true →
      (DieKind.rand, r) ∈ (tPwr .service fun p => { p with failed := [(.rand, 1)] }).pwr.failed) ∧
    (∀ r, r ≠ 0 → ({ tServe with code := .oz220 } : State).code.hasDie .rand r = true →
      (DieKind.rand, r) ∈ ({ tServe with code := .oz220 } : State).pwr.failed) := by
  constructor
  · intro r h0 h
    have h2 : r < 2 := of_decide_eq_true h
    obtain rfl : r = 1 := by omega
    decide +kernel
  · intro r h0 h
    have h2 : r < 1 := of_decide_eq_true h
    omega

/-- The chain of slot 0 has a value. -/
theorem witness_SpdmCompletes_chain : (tSpdm id).chainValue 0 = some (Config.spdmValue 1 0) := rfl

/-- Every block of a streaming device is not sealed, or sealed and held. -/
theorem witness_StreamsAndDrives_blocks (b : Nat) :
    let s := tStreams tSealedB (tStream [tLayer] [] 0)
    (s.blk b).state ≠ .sealed ∧ (s.blk b).state ≠ .quarantined ∨ (s.blk b).state = .sealed ∧ (s.blk b).t0 = .held := by
  intro s
  by_cases h : b = 0
  · subst h; decide +kernel
  · have hb : s.blk b = Block.fresh := Table.get_put_other [] _ _ h
    rw [hb]; decide

/-- A device with one child from which no READY and no HOLD came. -/
theorem witness_FailuresComplete_silent :
    let s := tSched fun x => { x with children := [1], standSize := 2 }
    (∀ n, (1, n) ∉ s.sched.readyFrom) ∧ s.sched.heldFrom.contains 1 = false := ⟨fun _ h => (nomatch h), rfl⟩

/-- Every child is asleep or ready. -/
theorem witness_ReadinessAndHolds_ready :
    let s := tSched fun x => { x with readyFence := some 0, children := [1], readyFrom := [(1, 1)], parent := some 2 }
    ∀ c ∈ s.sched.children, c ∈ s.pwr.asleep ∨ ∃ n, (c, n) ∈ s.sched.readyFrom := by
  intro s c hc
  obtain rfl : c = 1 := List.mem_singleton.mp hc
  exact .inr ⟨1, List.mem_singleton.mpr rfl⟩

/-- No sleep sequence runs. -/
theorem witness_SleepCompletes_still :
    (∀ c, tServe.pwr.seq ≠ .falling c) ∧ (∀ c, tServe.pwr.seq ≠ .waking c) ∧
    ∀ h ∈ tServe.pwr.holds, h.packet.target ≠ 1 ∨ h.packet.tag ≠ 0 :=
  ⟨fun _ h => (nomatch h), fun _ h => (nomatch h), fun _ h => (nomatch h)⟩

/-- No array of the group is being calibrated. -/
theorem witness_ArraysAndShards_rest : ∀ k, k < 64 → tServe.arrayState (64 * (0 / 64) + k) ≠ 2 := by decide +kernel

/-- No block is fetched again. -/
theorem witness_StreamsAndDrives_refetch : ∀ e ∈ (tImg tLiveB).tier.blocks, e.2.refetch = none := by decide +kernel

/-- The addresses that the host's accesses name are served by the own store. -/
theorem witness_HostAccessesComplete_own : tHost.servesOwn (saStore 0 64) = true ∧ tHost.servesOwn (saStore 0 8) = true := by
  decide +kernel

/-- No lease is on its way to a device that takes mirror transfers, and it has no request. -/
theorem witness_RecoveryComplete_noHandover :
    let s := tKeeper fun m => { m with mirrorOpen := [(1, MirrorItem.extents [tExtent])] }
    s.map.handovers = [] ∧ s.svc.ctxs = [] := ⟨rfl, rfl⟩

/-- A wake whose arrays are calibrated, and one that still waits for an array of a working Sorus die. -/
theorem witness_SleepCompletes_arrays :
    ((tPwr .sleep fun p => { p with seq := .waking true }).mode = .sleep ∧
      (tPwr .sleep fun p => { p with seq := .waking true }).arraysWait = false ∧
      (tPwr .sleep fun p => { p with seq := .waking true }).pwr.recorded = none ∧
      (tPwr .sleep fun p => { p with seq := .waking true, recorded := some 1 }).arraysWait = false) ∧
    ((tPwr .sleep fun p => { p with seq := .waking true }).setF F.srchArray_state 5 2).arraysWait = true := by
  decide +kernel

/-! ### The hypotheses of the obligations are met -/

theorem witness_RegisterWriteCompletes_1 :
    (plainOffset (24) = true) ∧
    (regAt (24) = some (tReg 24)) ∧
    (plainOffset (2031616) = true) ∧
    (regAt (2031616) = none) := by
  decide +kernel

theorem witness_RegisterWriteCompletes_2 :
    ((tReg 24).clean 9) ∧
    (¬(tReg 24).clean 18446744073709551615) := by
  refine ⟨?_, ?_⟩ <;> (unfold RegDesc.clean; decide +kernel)

theorem witness_AccessTypesOfFields_1 :
    (regAt 24 = some (tReg 24)) ∧
    (F.mgtWatchdog_restartMs ∈ (tReg 24).fields) ∧
    (regAt (24) = some (tReg 24)) ∧
    (tServe.fits (tReg 24) (24) = true) ∧
    (regAt (BitVec.ofNat 24 (F.mgtRegDiscard_count.off 0)).toNat = some (tReg (F.mgtRegDiscard_count.off 0))) ∧
    ((tServe.setF F.mgtRegDiscard_count 0 5).fits (tReg (F.mgtRegDiscard_count.off 0)) (BitVec.ofNat 24
      (F.mgtRegDiscard_count.off 0)).toNat = true) ∧
    (regAt (2031616) = none) := by
  decide +kernel

theorem witness_RegisterReadCompletes_1 :
    (regAt (24) = some (tReg 24)) ∧
    (analogueBase (tReg 24).base = false) ∧
    (regAt (2031616) = none) := by
  decide +kernel

theorem witness_NamedWritesComplete_1 :
    (regAt (Instr.tierModeWrite 1, F.tierMode_pool.off 0, tReg (F.tierMode_pool.off 0)).2.1 = some
      (Instr.tierModeWrite 1, F.tierMode_pool.off 0, tReg (F.tierMode_pool.off 0)).2.2) ∧
    (tServe.fits (Instr.tierModeWrite 1, F.tierMode_pool.off 0, tReg (F.tierMode_pool.off 0)).2.2 (Instr.tierModeWrite
      1, F.tierMode_pool.off 0, tReg (F.tierMode_pool.off 0)).2.1 = true) ∧
    (regAt (Instr.telCtlWrite 1, F.telCtl_interval.off 0, tReg (F.telCtl_interval.off 0)).2.1 = some
      (Instr.telCtlWrite 1, F.telCtl_interval.off 0, tReg (F.telCtl_interval.off 0)).2.2) ∧
    (tServe.fits (Instr.telCtlWrite 1, F.telCtl_interval.off 0, tReg (F.telCtl_interval.off 0)).2.2 (Instr.telCtlWrite
      1, F.telCtl_interval.off 0, tReg (F.telCtl_interval.off 0)).2.1 = true) ∧
    (regAt (F.tierResvLimit_t0Limit.off 255) = some (tReg (F.tierResvLimit_t0Limit.off 255))) ∧
    (regAt (F.schedWaleLen_nextUs.off 0) = some (tReg (F.schedWaleLen_nextUs.off 0))) ∧
    ((tServe.setF F.schedSync_role 0 1).isSource = true) ∧
    (50 ≤ fieldOf ((BitVec.ofNat 64 (50 <<< 17))) 17 17) ∧
    (fieldOf ((BitVec.ofNat 64 (50 <<< 17))) 17 17 ≤ 100000) ∧
    ((tServe.setF F.schedSync_role 0 1).sched.standMinUs ≤ fieldOf ((BitVec.ofNat 64 (50 <<< 17))) 17 17) ∧
    (50 ≤ fieldOf ((BitVec.ofNat 64 (100000 <<< 17))) 17 17) ∧
    (fieldOf ((BitVec.ofNat 64 (100000 <<< 17))) 17 17 ≤ 100000) ∧
    ((tServe.setF F.schedSync_role 0 1).sched.standMinUs ≤ fieldOf ((BitVec.ofNat 64 (100000 <<< 17))) 17 17) ∧
    (fieldOf ((BitVec.ofNat 64 (49 <<< 17))) 17 17 ≠ 0) ∧
    (fieldOf ((BitVec.ofNat 64 (49 <<< 17))) 17 17 < 50 ∨ 100000 < fieldOf ((BitVec.ofNat 64 (49 <<< 17))) 17 17 ∨
      fieldOf ((BitVec.ofNat 64 (49 <<< 17))) 17 17 < (tServe.setF F.schedSync_role 0 1).sched.standMinUs) ∧
    (fieldOf ((BitVec.ofNat 64 (100001 <<< 17))) 17 17 ≠ 0) ∧
    (fieldOf ((BitVec.ofNat 64 (100001 <<< 17))) 17 17 < 50 ∨ 100000 < fieldOf ((BitVec.ofNat 64 (100001 <<< 17))) 17
      17 ∨ fieldOf ((BitVec.ofNat 64 (100001 <<< 17))) 17 17 < (tServe.setF F.schedSync_role 0 1).sched.standMinUs) ∧
    (tServe.isSource = false) ∧
    (regAt (F.mgtFaultAck_ack.off 0) = some (tReg (F.mgtFaultAck_ack.off 0))) ∧
    ((fieldOf 0 0 32 + 2 ^ 32 - tServe.getF F.mgtFaultSeq_seq) % 2 ^ 32 = 0 ∨ 2 ^ 31 ≤ (fieldOf 0 0 32 + 2 ^ 32 -
      tServe.getF F.mgtFaultSeq_seq) % 2 ^ 32) := by
  decide +kernel

theorem witness_NamedWritesComplete_2 :
    ((fieldOf 2147483648 0 32 + 2 ^ 32 - tServe.getF F.mgtFaultSeq_seq) % 2 ^ 32 = 0 ∨ 2 ^ 31 ≤ (fieldOf 2147483648 0
      32 + 2 ^ 32 - tServe.getF F.mgtFaultSeq_seq) % 2 ^ 32) := by
  decide +kernel

theorem witness_NamedWritesComplete_3 :
    ((Instr.tierModeWrite 1, F.tierMode_pool.off 0, tReg (F.tierMode_pool.off 0)).2.2.clean 1) ∧
    ((Instr.telCtlWrite 1, F.telCtl_interval.off 0, tReg (F.telCtl_interval.off 0)).2.2.clean 1) ∧
    ((tReg (F.tierResvLimit_t0Limit.off 255)).clean 1) ∧
    ((tReg (F.schedWaleLen_nextUs.off 0)).clean (BitVec.ofNat 64 (50 <<< 17))) ∧
    ((tReg (F.schedWaleLen_nextUs.off 0)).clean (BitVec.ofNat 64 (100000 <<< 17))) ∧
    ((tReg (F.schedWaleLen_nextUs.off 0)).clean (BitVec.ofNat 64 (49 <<< 17))) ∧
    ((tReg (F.schedWaleLen_nextUs.off 0)).clean (BitVec.ofNat 64 (100001 <<< 17))) ∧
    ((tReg (F.mgtFaultAck_ack.off 0)).clean 0) ∧
    ((tReg (F.mgtFaultAck_ack.off 0)).clean 2147483648) := by
  refine ⟨?_, ?_, ?_, ?_, ?_, ?_, ?_, ?_, ?_⟩ <;> (unfold RegDesc.clean; decide +kernel)

theorem witness_StoreReadCompletes_1 :
    (tServe.servesHere 3 0) ∧
    ((tBlock ({ tLiveB with state := BState.quarantined })).servesHere 3 0) ∧
    ((tBlock tLiveB).servesHere 3 0) ∧
    ((tBlock ({ tLiveB with state := BState.migrating, poison := [1] })).servesHere 3 64) ∧
    ((tImg tSealedB).servesHere 3 0) := by
  refine ⟨?_, ?_, ?_, ?_, ?_⟩ <;> (unfold State.servesHere; decide +kernel)

theorem witness_StoreReadCompletes_2 :
    ((tServe.blk (0 / blockBytes)).state = BState.empty) ∧
    (((tBlock ({ tLiveB with state := BState.quarantined })).blk (0 / blockBytes)).state = BState.quarantined) ∧
    (((tBlock tLiveB).blk (0 / blockBytes)).state = BState.live ∨ ((tBlock tLiveB).blk (0 / blockBytes)).state =
      BState.migrating ∨ ((tBlock tLiveB).blk (0 / blockBytes)).state = BState.sealing) ∧
    ((tBlock tLiveB).dieFailed (0 / blockBytes) ((tBlock tLiveB).blk (0 / blockBytes)).liveTier = false) ∧
    (((tBlock ({ tLiveB with state := BState.migrating, poison := [1] })).blk (64 / blockBytes)).state = BState.live ∨
      ((tBlock ({ tLiveB with state := BState.migrating, poison := [1] })).blk (64 / blockBytes)).state =
      BState.migrating ∨ ((tBlock ({ tLiveB with state := BState.migrating, poison := [1] })).blk (64 /
      blockBytes)).state = BState.sealing) ∧
    ((tBlock ({ tLiveB with state := BState.migrating, poison := [1] })).dieFailed (64 / blockBytes) ((tBlock
      ({ tLiveB with state := BState.migrating, poison := [1] })).blk (64 / blockBytes)).liveTier = false) ∧
    (((tImg tSealedB).blk (0 / blockBytes)).state = BState.sealed) ∧
    (((tImg tSealedB).blk (0 / blockBytes)).t0 = CopyState.held) ∧
    ((tImg tSealedB).dieFailed (0 / blockBytes) Tier.t0 = false) ∧
    ((tImg tSealedB).image ((tImg tSealedB).blk (0 / blockBytes)) = some tImage) := by
  decide +kernel

theorem witness_StoreWriteCompletes_1 :
    ((tBlock ({ tLiveB with poison := [1] })).servesHere 3 64) ∧
    ((tBlock tLiveB).servesHere 3 64) := by
  refine ⟨?_, ?_⟩ <;> (unfold State.servesHere; decide +kernel)

theorem witness_StoreWriteCompletes_2 :
    (((tBlock ({ tLiveB with poison := [1] })).blk (64 / blockBytes)).state = BState.live ∨ ((tBlock
      ({ tLiveB with poison := [1] })).blk (64 / blockBytes)).state = BState.migrating) ∧
    (((tBlock ({ tLiveB with poison := [1] })).blk (64 / blockBytes)).poison.contains (64 % blockBytes / 64) = true) ∧
    (1 ≠ BitVec.allOnes 64) ∧
    (((tBlock ({ tLiveB with poison := [1] })).blk (64 / blockBytes)).poison.contains (64 % blockBytes / 64) = false ∨
      BitVec.allOnes 64 = BitVec.allOnes 64) ∧
    ((tBlock ({ tLiveB with poison := [1] })).mirrored (64 / 33554432) = false) ∧
    (((tBlock tLiveB).blk (64 / blockBytes)).state = BState.live ∨ ((tBlock tLiveB).blk (64 / blockBytes)).state =
      BState.migrating) ∧
    (((tBlock tLiveB).blk (64 / blockBytes)).poison.contains (64 % blockBytes / 64) = false ∨ 1 = BitVec.allOnes 64) ∧
    ((tBlock tLiveB).mirrored (64 / 33554432) = false) := by
  decide +kernel

theorem witness_BlockAndCopyWorkEnds_1 :
    (((tImg ({ tSealedB with cow := some Tier.t0 })).blk 0).cow = some Tier.t0) ∧
    ((tImg ({ tSealedB with cow := some Tier.t0 })).image ((tImg ({ tSealedB with cow := some Tier.t0 })).blk 0) =
      some tImage) ∧
    (((tBlock ({ tLiveB with state := BState.migrating })).blk 0).state = BState.migrating) ∧
    (((tBlock ({ tLiveB with state := BState.migrating })).blk 0).job = none) ∧
    (((tImg ({ tLiveB with state := BState.sealing, job := some tJob })).blk 0).state = BState.sealing) ∧
    (((tImg ({ tLiveB with state := BState.sealing, job := some tJob })).blk 0).job = some tJob) ∧
    (tJob.image = some 7) ∧
    ((tImg ({ tLiveB with state := BState.sealing, job := some tJob })).imageAt 7 = some tImage) ∧
    (((tImg ({ tLiveB with state := BState.sealing, poison := [4095], job := some tJob })).blk 0).state =
      BState.sealing) ∧
    (((tImg ({ tLiveB with state := BState.sealing, poison := [4095], job := some tJob })).blk 0).job = some tJob) ∧
    ((tImg ({ tLiveB with state := BState.sealing, poison := [4095], job := some tJob })).imageAt 7 = some tImage) ∧
    (((tImg ({ tLiveB with state := BState.sealing, poison := [4095], job := some tJob })).blk 0).poison.contains 4095
      = true) ∧
    (((tImg ({ tSealedB with t0 := CopyState.rising })).blk 0).state = BState.sealed) ∧
    (((tImg ({ tSealedB with t0 := CopyState.rising })).blk 0).copy Tier.t0 = CopyState.rising) ∧
    (((tImg ({ tSealedB with t0 := CopyState.sinking })).blk 0).copy Tier.t0 = CopyState.sinking) ∧
    (((tImg ({ tSealedB with refetch := some [Source.t2] })).blk 0).refetch = some [Source.t2]) ∧
    (((tImg ({ tSealedB with refetch := some [Source.t2] })).blk 0).t0 ≠ CopyState.none) ∧
    ((tImg ({ tSealedB with refetch := some [Source.t2] })).tier.op = none) ∧
    (((tImg ({ tSealedB with refetch := some [Source.t2] })).blk 0).waiting = []) ∧
    (((tImg ({ tSealedB with refetch := some [Source.t2, Source.partner] })).blk 0).refetch = some [Source.t2,
      Source.partner]) := by
  decide +kernel

theorem witness_BlockAndCopyWorkEnds_2 :
    (((tImg ({ tSealedB with refetch := some [Source.partner] })).blk 0).refetch = some [Source.partner]) := by
  decide +kernel

theorem witness_StreamsAndDrives_1 :
    ((tImg tSealedB).drive 0 = some tDrive) ∧
    (tDrive.lost = false) ∧
    (∀ e ∈ (tImg tSealedB).tier.blocks, e.2.refetch = none) ∧
    ((tStreams tSealedB (tStream [tLayer] [] 0)).stream 0 = some (tStream [tLayer] [] 0)) ∧
    ((tStream [tLayer] [] 0).layers[(tStream [tLayer] [] 0).layer]? = some tLayer) ∧
    ((tStreams tSealedB (tStream [tLayer] [] 0)).streamOpen 0 = true) ∧
    ((tStreams tSealedB (tStream [tLayer] [] 0)).prefetched tLayer = false) ∧
    ((tStream [tLayer] [] 0).mayFill tLayer 0 0 = true) ∧
    (tLayer.mcast = false) ∧
    ((tStreams tSealedB (tStream [tLayer] [(0, 0)] 1)).stream 0 = some (tStream [tLayer] [(0, 0)] 1)) ∧
    ((tStream [tLayer] [(0, 0)] 1).layers[(tStream [tLayer] [(0, 0)] 1).layer]? = some tLayer) ∧
    ((tStream [tLayer] [(0, 0)] 1).filled.contains (0, 0) = true) ∧
    ((tStream [tLayer] [(0, 0)] 1).dealt < tLayer.chunks) ∧
    ((tStreams tSealedB (tStream [{ tLayer with mcast := true }] [] 0)).stream 0 = some (tStream
      [{ tLayer with mcast := true }] [] 0)) ∧
    ((tStream [{ tLayer with mcast := true }] [] 0).layers[(tStream [{ tLayer with mcast := true }] [] 0).layer]? =
      some ({ tLayer with mcast := true })) ∧
    ((tStreams tSealedB (tStream [{ tLayer with mcast := true }] [] 0)).streamOpen 0 = true) ∧
    (({ tLayer with mcast := true }).mcast = true) ∧
    ((tStream [{ tLayer with mcast := true }] [] 0).mayFill ({ tLayer with mcast := true }) 0 0 = true) ∧
    ([0].length = ({ tLayer with mcast := true }).sramBytes / 64) := by
  decide +kernel

theorem witness_TierCommandsComplete_1 :
    ((tServe.setF F.tierOpCmd_busy 0 1).getF F.tierOpCmd_busy = 1) ∧
    ((tOp tLiveB 1).opAddrOk ((tOp tLiveB 1).reg (F.tierOpAddr_all.off 0)) = false) ∧
    ((tOp tLiveB (2 ^ 26)).opAddrOk ((tOp tLiveB (2 ^ 26)).reg (F.tierOpAddr_all.off 0)) = true) ∧
    ((tOp tLiveB (2 ^ 26)).hasBlock (saOffset ((tOp tLiveB (2 ^ 26)).reg (F.tierOpAddr_all.off 0)) / blockBytes) =
      false) ∧
    ((tOp tLiveB (2 ^ 26 - 262144)).opAddrOk ((tOp tLiveB (2 ^ 26 - 262144)).reg (F.tierOpAddr_all.off 0)) = true) ∧
    ((tOp tLiveB (2 ^ 26 - 262144)).hasBlock (saOffset ((tOp tLiveB (2 ^ 26 - 262144)).reg (F.tierOpAddr_all.off 0)) /
      blockBytes) = true) ∧
    (((tOp tLiveB (2 ^ 26 - 262144)).blk (saOffset ((tOp tLiveB (2 ^ 26 - 262144)).reg (F.tierOpAddr_all.off 0)) /
      blockBytes)).state ≠ BState.empty ∨ (Instr.tierSeal 0, 1).2 ≠ 5) ∧
    ((tOp tLiveB 0).opAddrOk ((tOp tLiveB 0).reg (F.tierOpAddr_all.off 0)) = true) ∧
    ((tOp tLiveB 0).hasBlock (saOffset ((tOp tLiveB 0).reg (F.tierOpAddr_all.off 0)) / blockBytes) = true) ∧
    (((tOp tLiveB 0).blk (saOffset ((tOp tLiveB 0).reg (F.tierOpAddr_all.off 0)) / blockBytes)).state ≠ BState.empty ∨
      (Instr.tierFree 0, 5).2 ≠ 5) ∧
    (((tOp tLiveB 0).blk (saOffset ((tOp tLiveB 0).reg (F.tierOpAddr_all.off 0)) / blockBytes)).state ≠ BState.empty ∨
      (Instr.tierQuery 0, 6).2 ≠ 5) ∧
    ((tOp ({ tSealedB with t0 := CopyState.none }) 0).opAddrOk ((tOp ({ tSealedB with t0 := CopyState.none }) 0).reg
      (F.tierOpAddr_all.off 0)) = true) ∧
    ((tOp ({ tSealedB with t0 := CopyState.none }) 0).hasBlock (saOffset ((tOp
      ({ tSealedB with t0 := CopyState.none }) 0).reg (F.tierOpAddr_all.off 0)) / blockBytes) = true) ∧
    (((tOp ({ tSealedB with t0 := CopyState.none }) 0).blk (saOffset ((tOp ({ tSealedB with t0 := CopyState.none })
      0).reg (F.tierOpAddr_all.off 0)) / blockBytes)).state ≠ BState.empty ∨ (Instr.tierPromote 0, 3).2 ≠ 5) ∧
    ((tOp tSealedB 0).opAddrOk ((tOp tSealedB 0).reg (F.tierOpAddr_all.off 0)) = true) ∧
    ((tOp tSealedB 0).hasBlock (saOffset ((tOp tSealedB 0).reg (F.tierOpAddr_all.off 0)) / blockBytes) = true) ∧
    (((tOp tSealedB 0).blk (saOffset ((tOp tSealedB 0).reg (F.tierOpAddr_all.off 0)) / blockBytes)).state ≠
      BState.empty ∨ (Instr.tierSink 0, 4).2 ≠ 5) ∧
    ((tOp tLiveB 0).getF F.tierOpCmd_elem ≠ 3) ∧
    (((tOp tLiveB 0).blk 0).state = BState.live) ∧
    (((tOp tLiveB 0).onTier fun t => { t with op := some (TierOp.sealing 0) }).makeImage 0 ((tOp tLiveB 0).blockMem 0)
      ((tOp tLiveB 0).getF F.tierOpCmd_elem) 0 ((tOp tLiveB 0).blk 0).tenant 0 = some ((tMade (tOp tLiveB 0)).1, (tMade
      (tOp tLiveB 0)).2)) := by
  decide +kernel

theorem witness_TierCommandsComplete_2 :
    ((tOp ({ tSealedB with t0 := CopyState.none }) 0).getF F.tierOpCmd_tier = 0) ∧
    ((tOp ({ tSealedB with t0 := CopyState.none }) 0).getF F.tierOpCmd_packed = 0) ∧
    (((tOp ({ tSealedB with t0 := CopyState.none }) 0).blk 0).state = BState.sealed) ∧
    (((tOp ({ tSealedB with t0 := CopyState.none }) 0).blk 0).t0 = CopyState.none) ∧
    (((tOp ({ tSealedB with t0 := CopyState.none }) 0).blk 0).refetch = none) ∧
    ((tOp tSealedB 0).getF F.tierOpCmd_tier = 0) ∧
    (((tOp tSealedB 0).blk 0).state = BState.sealed) ∧
    (((tOp tSealedB 0).blk 0).t0 = CopyState.held) ∧
    (((tOp tSealedB 0).blk 0).readers0 = 0) ∧
    (((tOp Block.fresh 0).blk 0).state ≠ BState.live) ∧
    (((tOp Block.fresh 0).blk 0).state ≠ BState.sealed) ∧
    (((tOp tLiveB 0).blk 0).job = none) := by
  decide +kernel

theorem witness_TierCommandsComplete_3 :
    ((tOp tLiveB 1).cmdReady (tReg F.tierOpCmd_op.base) F.tierOpCmd_op F.tierOpCmd_busy 0 (putBits 0 0 4
      (Instr.tierSeal 0, 1).2)) ∧
    ((tOp tLiveB (2 ^ 26)).cmdReady (tReg F.tierOpCmd_op.base) F.tierOpCmd_op F.tierOpCmd_busy 0 (putBits 0 0 4
      (Instr.tierSeal 0, 1).2)) ∧
    ((tOp tLiveB (2 ^ 26 - 262144)).cmdReady (tReg F.tierOpCmd_op.base) F.tierOpCmd_op F.tierOpCmd_busy 0 (putBits 0 0
      4 (Instr.tierSeal 0, 1).2)) ∧
    ((tOp tLiveB 0).cmdReady (tReg F.tierOpCmd_op.base) F.tierOpCmd_op F.tierOpCmd_busy 0 (putBits 0 0 4
      (Instr.tierFree 0, 5).2)) ∧
    ((tOp tLiveB 0).cmdReady (tReg F.tierOpCmd_op.base) F.tierOpCmd_op F.tierOpCmd_busy 0 (putBits 0 0 4
      (Instr.tierQuery 0, 6).2)) ∧
    ((tOp ({ tSealedB with t0 := CopyState.none }) 0).cmdReady (tReg F.tierOpCmd_op.base) F.tierOpCmd_op
      F.tierOpCmd_busy 0 (putBits 0 0 4 (Instr.tierPromote 0, 3).2)) ∧
    ((tOp tSealedB 0).cmdReady (tReg F.tierOpCmd_op.base) F.tierOpCmd_op F.tierOpCmd_busy 0 (putBits 0 0 4
      (Instr.tierSink 0, 4).2)) := by
  refine ⟨?_, ?_, ?_, ?_, ?_, ?_, ?_⟩ <;> (unfold State.cmdReady RegDesc.clean; decide +kernel)

theorem witness_XltEditsComplete_1 :
    (Instr.xltInsert 0 ∈ [Instr.xltInsert 0, Instr.xltRevoke 0, Instr.xltLookup 0, Instr.xltSetHome 0]) ∧
    ((tServe.setF F.xltEditCmd_busy 0 1).getF F.xltEditCmd_busy = 1) ∧
    ((tEdit 0 0).insertOk ((tEdit 0 0).reg (F.xltEditW0_all.off 0)) ((tEdit 0 0).reg (F.xltEditW1_all.off 0)) = false) ∧
    ((tEdit tW0 0).insertOk ((tEdit tW0 0).reg (F.xltEditW0_all.off 0)) ((tEdit tW0 0).reg (F.xltEditW1_all.off 0)) =
      true) ∧
    ((tEdit tW0 0).xlt.entries.length < mapLimit) ∧
    ((tEdit tW0 0).editEntry = none) ∧
    (((tEdit tW0 0).onXlt fun x => { x with entries := [tExtent] }).editEntry = some tExtent) ∧
    (saClass ((tEdit 3 1).reg (F.xltEditW1_all.off 0)) ≠ 0 ∨ saReserved ((tEdit 3 1).reg (F.xltEditW1_all.off 0)) =
      true ∨ saDevice ((tEdit 3 1).reg (F.xltEditW1_all.off 0)) ≠ BitVec.toNat (tEdit 3 1).device ∨ saOffset ((tEdit 3
      1).reg (F.xltEditW1_all.off 0)) % granuleBytes ≠ 0 ∨ fieldOf ((tEdit 3 1).reg (F.xltEditW0_all.off 0)) 8 2 = 3 ∨
      fieldOf ((tEdit 3 1).reg (F.xltEditW0_all.off 0)) 10 54 ≠ 0) ∧
    (saClass ((tEdit (1 * 256) (2 ^ 26)).reg (F.xltEditW1_all.off 0)) = 0) ∧
    (saReserved ((tEdit (1 * 256) (2 ^ 26)).reg (F.xltEditW1_all.off 0)) = false) ∧
    (saDevice ((tEdit (1 * 256) (2 ^ 26)).reg (F.xltEditW1_all.off 0)) = BitVec.toNat (tEdit (1 * 256) (2 ^
      26)).device) ∧
    (saOffset ((tEdit (1 * 256) (2 ^ 26)).reg (F.xltEditW1_all.off 0)) % granuleBytes = 0) ∧
    (fieldOf ((tEdit (1 * 256) (2 ^ 26)).reg (F.xltEditW0_all.off 0)) 10 54 = 0) ∧
    (fieldOf ((tEdit (1 * 256) (2 ^ 26)).reg (F.xltEditW0_all.off 0)) 8 2 ≠ 3) ∧
    ((tEdit (1 * 256) (2 ^ 26)).storeSize ≤ saOffset ((tEdit (1 * 256) (2 ^ 26)).reg (F.xltEditW1_all.off 0))) ∧
    (saClass ((tEdit (1 * 256 + 5) (2 ^ 25)).reg (F.xltEditW1_all.off 0)) = 0) ∧
    (saReserved ((tEdit (1 * 256 + 5) (2 ^ 25)).reg (F.xltEditW1_all.off 0)) = false) ∧
    (saDevice ((tEdit (1 * 256 + 5) (2 ^ 25)).reg (F.xltEditW1_all.off 0)) = BitVec.toNat (tEdit (1 * 256 + 5) (2 ^
      25)).device) ∧
    (saOffset ((tEdit (1 * 256 + 5) (2 ^ 25)).reg (F.xltEditW1_all.off 0)) % granuleBytes = 0) ∧
    (fieldOf ((tEdit (1 * 256 + 5) (2 ^ 25)).reg (F.xltEditW0_all.off 0)) 10 54 = 0) := by
  decide +kernel

theorem witness_XltEditsComplete_2 :
    ((HomeMode.priv, 1) ∈ [(HomeMode.none, 0), (HomeMode.priv, 1), (HomeMode.commons, 2)]) ∧
    (fieldOf ((tEdit (1 * 256 + 5) (2 ^ 25)).reg (F.xltEditW0_all.off 0)) 8 2 = 1) ∧
    (saOffset ((tEdit (1 * 256 + 5) (2 ^ 25)).reg (F.xltEditW1_all.off 0)) < (tEdit (1 * 256 + 5) (2 ^ 25)).storeSize) := by
  decide +kernel

theorem witness_XltEditsComplete_3 :
    ((tEdit 0 0).cmdReady (tReg F.xltEditCmd_op.base) F.xltEditCmd_op F.xltEditCmd_busy 0 (putBits 0 0 3 1)) ∧
    ((tEdit tW0 0).cmdReady (tReg F.xltEditCmd_op.base) F.xltEditCmd_op F.xltEditCmd_busy 0 (putBits 0 0 3 1)) ∧
    ((tEdit tW0 0).cmdReady (tReg F.xltEditCmd_op.base) F.xltEditCmd_op F.xltEditCmd_busy 0 (putBits 0 0 3 2)) ∧
    (((tEdit tW0 0).onXlt fun x => { x with entries := [tExtent] }).cmdReady (tReg F.xltEditCmd_op.base)
      F.xltEditCmd_op F.xltEditCmd_busy 0 (putBits 0 0 3 2)) ∧
    ((tEdit tW0 0).cmdReady (tReg F.xltEditCmd_op.base) F.xltEditCmd_op F.xltEditCmd_busy 0 (putBits 0 0 3 3)) ∧
    (((tEdit tW0 0).onXlt fun x => { x with entries := [tExtent] }).cmdReady (tReg F.xltEditCmd_op.base)
      F.xltEditCmd_op F.xltEditCmd_busy 0 (putBits 0 0 3 3)) ∧
    ((tEdit 3 1).cmdReady (tReg F.xltEditCmd_op.base) F.xltEditCmd_op F.xltEditCmd_busy 0 (putBits 0 0 3 4)) ∧
    ((tEdit (1 * 256) (2 ^ 26)).cmdReady (tReg F.xltEditCmd_op.base) F.xltEditCmd_op F.xltEditCmd_busy 0 (putBits 0 0
      3 4)) ∧
    ((tEdit (1 * 256 + 5) (2 ^ 25)).cmdReady (tReg F.xltEditCmd_op.base) F.xltEditCmd_op F.xltEditCmd_busy 0 (putBits
      0 0 3 4)) := by
  refine ⟨?_, ?_, ?_, ?_, ?_, ?_, ?_, ?_, ?_⟩ <;> (unfold State.cmdReady RegDesc.clean; decide +kernel)

theorem witness_EditsKeepTheMap_1 :
    ((tEdit tW0 0).cmdReady (tReg F.xltEditCmd_op.base) F.xltEditCmd_op F.xltEditCmd_busy 0 (putBits 0 0 3 1)) := by
  unfold State.cmdReady RegDesc.clean; decide +kernel

theorem witness_EditsKeepTheMap_2 :
    ((tEdit tW0 0).xltCommand (putBits 0 0 3 1) = (tEdit tW0 0).xltCommand (putBits 0 0 3 1)) ∧
    ((tEdit tW0 0).xlt.entries.length ≤ 4194304) ∧
    (List.Pairwise (fun a b => a.overlaps b = false) (tEdit tW0 0).xlt.entries) ∧
    (∀ e ∈ (tMapped [tExtent]).svc.ctxs, e.2.live = false) ∧
    ((tMapped [tExtent]).srch.homes = []) ∧
    ((tMapped [tExtent]).entryAt 3 0 = some tExtent) ∧
    (tExtent.key = tExtent.key) := by
  decide +kernel

theorem witness_DrainsEnd_1 :
    (((tMapped [tExtent]).onXlt fun x => { x with revoking := some tExtent.key }).xlt.revoking = some tExtent.key) ∧
    (((tMapped [tExtent]).onXlt fun x => { x with revoking := some tExtent.key }).hpt.dcOps = []) ∧
    (((tMapped [tExtent]).onXlt fun x => { x with revoking := some tExtent.key }).inFlight tExtent.key = false) ∧
    (((tMover (tMapped [tExtent]) ({ (tRun MvPhase.remote) with through := [tExtent.key] })).onXlt fun x =>
      { x with revoking := some tExtent.key }).xlt.revoking = some tExtent.key) ∧
    (((tMover (tMapped [tExtent]) ({ (tRun MvPhase.remote) with through := [tExtent.key] })).onXlt fun x =>
      { x with revoking := some tExtent.key }).hpt.dcOps = []) ∧
    (((tMover (tMapped [tExtent]) ({ (tRun MvPhase.remote) with through := [tExtent.key] })).onXlt fun x =>
      { x with revoking := some tExtent.key }).inFlight tExtent.key = true) ∧
    (tServe.xlt.revoking = none) ∧
    (tServe.hpt.dcOps = []) ∧
    (((tMapped [tExtent]).onHpt fun h => { h with dcOps := [tDrainOp [tExtent.key]] }).xlt.revoking = none) ∧
    (((tMapped [tExtent]).onHpt fun h => { h with dcOps := [tDrainOp [tExtent.key]] }).hpt.dcOps = [tDrainOp
      [tExtent.key]]) ∧
    ((tDrainOp [tExtent.key]).phase = DcPhase.draining) ∧
    ((tDrainOp [tExtent.key]).keys.any ((tMapped [tExtent]).onHpt fun h =>
      { h with dcOps := [tDrainOp [tExtent.key]] }).inFlight = false) ∧
    ((tServe.onHpt fun h => { h with dcOps := [tDrainOp []] }).xlt.revoking = none) ∧
    ((tServe.onHpt fun h => { h with dcOps := [tDrainOp []] }).hpt.dcOps = [tDrainOp []]) ∧
    ((tDrainOp []).phase = DcPhase.draining) ∧
    ((tDrainOp []).keys.any (tServe.onHpt fun h => { h with dcOps := [tDrainOp []] }).inFlight = false) ∧
    ((tDrainOp []).keys = []) := by
  decide +kernel

theorem witness_WalksEnd_1 :
    (List.find? (fun w => w.die == 0 && w.tenant == 3 && w.granule == 0) (tWalking []).xlt.walks = some tWalk) ∧
    (true = true ∧ Code.poison = Code.poison ∨ true = false ∧ (tWalking []).entryAt 3 0 = none ∧ Code.poison =
      Code.absent ∨ true = false ∧ (∃ e, (tWalking []).entryAt 3 0 = some e ∧ e.state = EState.revoking) ∧ Code.poison =
      Code.revoked) ∧
    (false = true ∧ Code.absent = Code.poison ∨ false = false ∧ (tWalking []).entryAt 3 0 = none ∧ Code.absent =
      Code.absent ∨ false = false ∧ (∃ e, (tWalking []).entryAt 3 0 = some e ∧ e.state = EState.revoking) ∧ Code.absent
      = Code.revoked) ∧
    (List.find? (fun w => w.die == 0 && w.tenant == 3 && w.granule == 0) (tWalking
      [{ tExtent with state := EState.revoking }]).xlt.walks = some tWalk) ∧
    (List.find? (fun w => w.die == 0 && w.tenant == 3 && w.granule == 0) (tWalking [tExtent]).xlt.walks = some tWalk) ∧
    ((tWalking [tExtent]).entryAt 3 0 = some tExtent) ∧
    (tExtent.state = EState.valid) := by
  decide +kernel

theorem witness_FillRecordsEnd_1 :
    (List.find? (fun f => f.die == 0 && f.id == 0) (tFilling ({ tSealedB with t0 := CopyState.rising }) [(0,
      0)]).xlt.fills = some (tFill [(0, 0)])) ∧
    (∀ w ∈ (tFilling ({ tSealedB with t0 := CopyState.rising }) [(0, 0)]).xlt.fillWaits, w.die ≠ 0) ∧
    ((tFilling ({ tSealedB with t0 := CopyState.rising }) [(0, 0)]).fillEnds (tFill [(0, 0)]) FillOutcome.held =
      false) ∧
    (List.find? (fun f => f.die == 0 && f.id == 0) (tFilling tSealedB []).xlt.fills = some (tFill [])) ∧
    (∀ w ∈ (tFilling tSealedB []).xlt.fillWaits, w.die ≠ 0) ∧
    ((tFilling tSealedB []).fillEnds (tFill []) FillOutcome.held = true) ∧
    (FillOutcome.held = FillOutcome.held) ∧
    ((tFilling ({ tSealedB with t0 := CopyState.rising }) [(0, 0)]).fillEnds (tFill [(0, 0)]) FillOutcome.dead = true) ∧
    (FillOutcome.dead ≠ FillOutcome.held) ∧
    ((tFill [(0, 0)]).waiting = [(0, 0)]) ∧
    (((tFilling ({ tSealedB with t0 := CopyState.rising }) [(0, 0)]).chan (0, 0).1 (0, 0).2).run = some (tRun
      MvPhase.fill)) ∧
    ((tRun MvPhase.fill).phase = MvPhase.fill) ∧
    ((tFilling ({ tSealedB with t0 := CopyState.rising }) [(0, 0)]).fillFailedFor FillOutcome.dead (0, 0).1 (0, 0).2 =
      true) := by
  decide +kernel

theorem witness_BusyEnginesAndKernelEnds_1 :
    (tServe.code.hasCell 128 = false) ∧
    (tServe.code.hasCell 0 = true) ∧
    (tServe.scalarFree 0 = false) ∧
    ((tCell Cell.fresh).code.hasCell 0 = true) ∧
    ((tCell Cell.fresh).scalarFree 0 = true) ∧
    (((tCell Cell.fresh).cellAt 0).xr 17 = 0) ∧
    ((tCell ({ Cell.fresh with x := [(17, 1)] })).code.hasCell 0 = true) ∧
    ((tCell ({ Cell.fresh with x := [(17, 1)] })).scalarFree 0 = true) ∧
    (((tCell ({ Cell.fresh with x := [(17, 1)] })).cellAt 0).xr 17 ≠ 0) := by
  decide +kernel

theorem witness_IssueCompletes_1 :
    ((tCell (tRegs 1 0)).code.hasCell 0 = true) ∧
    ((tCell (tRegs 1 0)).scalarFree 0 = true) ∧
    (BitVec.toNat (((tCell (tRegs 1 0)).cellAt 0).xr 10) % 64 ≠ 0 ∨ 8388608 < BitVec.toNat (((tCell (tRegs 1
      0)).cellAt 0).xr 10) + 64) ∧
    ((tCell (tRegs 8388608 0)).code.hasCell 0 = true) ∧
    ((tCell (tRegs 8388608 0)).scalarFree 0 = true) ∧
    (BitVec.toNat (((tCell (tRegs 8388608 0)).cellAt 0).xr 10) % 64 ≠ 0 ∨ 8388608 < BitVec.toNat (((tCell (tRegs
      8388608 0)).cellAt 0).xr 10) + 64) ∧
    ((tCell ({ (tRegs 8388544 0) with mq := tQueue (List.replicate 8 0) })).code.hasCell 0 = true) ∧
    ((tCell ({ (tRegs 8388544 0) with mq := tQueue (List.replicate 8 0) })).scalarFree 0 = true) ∧
    (BitVec.toNat (((tCell ({ (tRegs 8388544 0) with mq := tQueue (List.replicate 8 0) })).cellAt 0).xr 10) % 64 = 0) ∧
    (BitVec.toNat (((tCell ({ (tRegs 8388544 0) with mq := tQueue (List.replicate 8 0) })).cellAt 0).xr 10) + 64 ≤
      8388608) ∧
    (((tCell ({ (tRegs 8388544 0) with mq := tQueue (List.replicate 8 0) })).cellAt 0).queueFull 0 = true) ∧
    ((tCell ({ (tRegs 8388544 0) with mq := tQueue (List.replicate 7 0) })).code.hasCell 0 = true) ∧
    ((tCell ({ (tRegs 8388544 0) with mq := tQueue (List.replicate 7 0) })).scalarFree 0 = true) ∧
    (BitVec.toNat (((tCell ({ (tRegs 8388544 0) with mq := tQueue (List.replicate 7 0) })).cellAt 0).xr 10) % 64 = 0) ∧
    (BitVec.toNat (((tCell ({ (tRegs 8388544 0) with mq := tQueue (List.replicate 7 0) })).cellAt 0).xr 10) + 64 ≤
      8388608) ∧
    (((tCell ({ (tRegs 8388544 0) with mq := tQueue (List.replicate 7 0) })).cellAt 0).queueFull 0 = false) ∧
    ((tCell ({ (tRegs 0 0) with vq := tQueue (List.replicate 15 0) })).code.hasCell 0 = true) ∧
    ((tCell ({ (tRegs 0 0) with vq := tQueue (List.replicate 15 0) })).scalarFree 0 = true) ∧
    (BitVec.toNat (((tCell ({ (tRegs 0 0) with vq := tQueue (List.replicate 15 0) })).cellAt 0).xr 10) % 64 = 0) ∧
    (BitVec.toNat (((tCell ({ (tRegs 0 0) with vq := tQueue (List.replicate 15 0) })).cellAt 0).xr 10) + 64 ≤ 8388608) := by
  decide +kernel

theorem witness_IssueCompletes_2 :
    (((tCell ({ (tRegs 0 0) with vq := tQueue (List.replicate 15 0) })).cellAt 0).queueFull 1 = false) ∧
    ((tCell (tRegs 64 0)).code.hasCell 0 = true) ∧
    ((tCell (tRegs 64 0)).scalarFree 0 = true) ∧
    (BitVec.toNat (((tCell (tRegs 64 0)).cellAt 0).xr 10) % 64 = 0) ∧
    (BitVec.toNat (((tCell (tRegs 64 0)).cellAt 0).xr 10) + 64 ≤ 8388608) ∧
    (((tCell (tRegs 64 0)).cellAt 0).queueFull 15 = false) ∧
    ((tCell ({ (tRegs 0 0) with stall := Stall.issue 0 11 5, mq := tQueue (List.replicate 8 0) })).code.hasCell 0 =
      true) ∧
    (((tCell ({ (tRegs 0 0) with stall := Stall.issue 0 11 5, mq := tQueue (List.replicate 8 0) })).cellAt 0).stall =
      Stall.issue 0 11 5) ∧
    (((tCell ({ (tRegs 0 0) with stall := Stall.issue 0 11 5, mq := tQueue (List.replicate 8 0) })).cellAt
      0).queueFull 0 = true) ∧
    ((tCell ({ (tRegs 0 0) with stall := Stall.issue 0 11 5, mq := tQueue (List.replicate 7 0) })).code.hasCell 0 =
      true) ∧
    (((tCell ({ (tRegs 0 0) with stall := Stall.issue 0 11 5, mq := tQueue (List.replicate 7 0) })).cellAt 0).stall =
      Stall.issue 0 11 5) ∧
    (((tCell ({ (tRegs 0 0) with stall := Stall.issue 0 11 5, mq := tQueue (List.replicate 7 0) })).cellAt
      0).queueFull 0 = false) := by
  decide +kernel

theorem witness_WaitsAndReleasesComplete_1 :
    ((tCell Cell.fresh).code.hasCell 0 = true) ∧
    ((tCell Cell.fresh).scalarFree 0 = true) ∧
    ((tCell ({ (tRegs 0 0) with mq := { next := 1, items := [], ended := [(0, 9)] } })).code.hasCell 0 = true) ∧
    ((tCell ({ (tRegs 0 0) with mq := { next := 1, items := [], ended := [(0, 9)] } })).scalarFree 0 = true) ∧
    (((tCell ({ (tRegs 0 0) with mq := { next := 1, items := [], ended := [(0, 9)] } })).cellAt 0).ticketResult (0)
      (BitVec.toNat (((tCell ({ (tRegs 0 0) with mq := { next := 1, items := [], ended := [(0, 9)] } })).cellAt 0).xr
      10) % 65536) = some 9) ∧
    ((tCell ({ (tRegs 0 0) with mv := [(0, { q := tQueue [5], run := none })] })).code.hasCell 0 = true) ∧
    ((tCell ({ (tRegs 0 0) with mv := [(0, { q := tQueue [5], run := none })] })).scalarFree 0 = true) ∧
    (((tCell ({ (tRegs 0 0) with mv := [(0, { q := tQueue [5], run := none })] })).cellAt 0).ticketResult (8)
      (BitVec.toNat (((tCell ({ (tRegs 0 0) with mv := [(0, { q := tQueue [5], run := none })] })).cellAt 0).xr 10) %
      65536) = none) ∧
    ((tCell ({ (tRegs 0 0) with vq := tQueue [5] })).code.hasCell 0 = true) ∧
    ((tCell ({ (tRegs 0 0) with vq := tQueue [5] })).scalarFree 0 = true) ∧
    (((tCell ({ (tRegs 0 0) with vq := tQueue [5] })).cellAt 0).ticketResult (1) (BitVec.toNat (((tCell
      ({ (tRegs 0 0) with vq := tQueue [5] })).cellAt 0).xr 10) % 65536) = none) ∧
    ((tCell
      ({ (tRegs 0 0) with stall := Stall.engWait 0 0 11, mq := { next := 1, items := [], ended := [(0, 9)] } })).code.hasCell
      0 = true) ∧
    (((tCell
      ({ (tRegs 0 0) with stall := Stall.engWait 0 0 11, mq := { next := 1, items := [], ended := [(0, 9)] } })).cellAt
      0).stall = Stall.engWait 0 0 11) ∧
    (((tCell
      ({ (tRegs 0 0) with stall := Stall.engWait 0 0 11, mq := { next := 1, items := [], ended := [(0, 9)] } })).cellAt
      0).ticketResult 0 0 = some 9) ∧
    ((tCell ({ (tRegs 0 0) with stall := Stall.engWait 0 0 11, mq := tQueue [5] })).code.hasCell 0 = true) ∧
    (((tCell ({ (tRegs 0 0) with stall := Stall.engWait 0 0 11, mq := tQueue [5] })).cellAt 0).stall = Stall.engWait 0
      0 11) ∧
    ((tCell (tRegs 0 0)).code.hasCell 0 = true) ∧
    ((tCell (tRegs 0 0)).scalarFree 0 = true) ∧
    (BitVec.toNat (((tCell (tRegs 0 0)).cellAt 0).xr 10) % 2 ^ 48 ≤ BitVec.toNat (tCell (tRegs 0 0)).wale) ∧
    ((tCell (tRegs 1 0)).code.hasCell 0 = true) := by
  decide +kernel

theorem witness_WaitsAndReleasesComplete_2 :
    ((tCell (tRegs 1 0)).scalarFree 0 = true) ∧
    (BitVec.toNat (tCell (tRegs 1 0)).wale < BitVec.toNat (((tCell (tRegs 1 0)).cellAt 0).xr 10) % 2 ^ 48) ∧
    ((tCell ({ (tRegs 0 0) with stall := Stall.rel (some 4) })).code.hasCell 0 = true) ∧
    (((tCell ({ (tRegs 0 0) with stall := Stall.rel (some 4) })).cellAt 0).stall = Stall.rel (some 4)) ∧
    (((tCell ({ (tRegs 0 0) with stall := Stall.rel (some 4) })).cellAt 0).quiet = true) ∧
    ((tCell ({ (tRegs 0 0) with stall := Stall.rel (some 4) })).fence 4 = none) ∧
    ((tCell ({ (tRegs 0 0) with stall := Stall.rel (some 4), mq := tQueue [5] })).code.hasCell 0 = true) ∧
    (((tCell ({ (tRegs 0 0) with stall := Stall.rel (some 4), mq := tQueue [5] })).cellAt 0).stall = Stall.rel (some
      4)) ∧
    (((tCell ({ (tRegs 0 0) with stall := Stall.rel (some 4), mq := tQueue [5] })).cellAt 0).quiet = false ∨ (tCell
      ({ (tRegs 0 0) with stall := Stall.rel (some 4), mq := tQueue [5] })).fence 4 ≠ none) ∧
    ((tCell ({ (tRegs 0 0) with stall := Stall.rel none })).code.hasCell 0 = true) ∧
    (((tCell ({ (tRegs 0 0) with stall := Stall.rel none })).cellAt 0).stall = Stall.rel none) ∧
    ((tCell ({ (tRegs 0 0) with stall := Stall.waleWait 11 0 })).code.hasCell 0 = true) ∧
    (((tCell ({ (tRegs 0 0) with stall := Stall.waleWait 11 0 })).cellAt 0).stall = Stall.waleWait 11 0) ∧
    (0 ≤ BitVec.toNat (tCell ({ (tRegs 0 0) with stall := Stall.waleWait 11 0 })).wale) ∧
    ((tCell ({ (tRegs 0 0) with stall := Stall.waleWait 11 1 })).code.hasCell 0 = true) ∧
    (((tCell ({ (tRegs 0 0) with stall := Stall.waleWait 11 1 })).cellAt 0).stall = Stall.waleWait 11 1) ∧
    (BitVec.toNat (tCell ({ (tRegs 0 0) with stall := Stall.waleWait 11 1 })).wale < 1) := by
  decide +kernel

theorem witness_FlagsComplete_1 :
    ((tCell (tRegs 8388600 5)).code.hasCell 0 = true) ∧
    ((tCell (tRegs 8388600 5)).scalarFree 0 = true) ∧
    (BitVec.toNat (((tCell (tRegs 8388600 5)).cellAt 0).xr 10) % 8 = 0) ∧
    (BitVec.toNat (((tCell (tRegs 8388600 5)).cellAt 0).xr 10) < 8388608) ∧
    ((tCell (tRegs 8 5)).code.hasCell 0 = true) ∧
    ((tCell (tRegs 8 5)).scalarFree 0 = true) ∧
    (BitVec.toNat (((tCell (tRegs 8 5)).cellAt 0).xr 10) % 8 = 0) ∧
    (BitVec.toNat (((tCell (tRegs 8 5)).cellAt 0).xr 10) < 8388608) ∧
    ((tCell ({ (tRegs 8 5) with sram := [(8, 7)] })).code.hasCell 0 = true) ∧
    ((tCell ({ (tRegs 8 5) with sram := [(8, 7)] })).scalarFree 0 = true) ∧
    (BitVec.toNat (((tCell ({ (tRegs 8 5) with sram := [(8, 7)] })).cellAt 0).xr 10) % 8 = 0) ∧
    (BitVec.toNat (((tCell ({ (tRegs 8 5) with sram := [(8, 7)] })).cellAt 0).xr 10) < 8388608) ∧
    ((tCell (tRegs 9 5)).code.hasCell 0 = true) ∧
    ((tCell (tRegs 9 5)).scalarFree 0 = true) ∧
    (BitVec.toNat (((tCell (tRegs 9 5)).cellAt 0).xr 10) % 8 ≠ 0) ∧
    (BitVec.toNat (((tCell (tRegs 9 5)).cellAt 0).xr 10) < 8388608) ∧
    ((tCell (tRegs 8388607 5)).code.hasCell 0 = true) ∧
    ((tCell (tRegs 8388607 5)).scalarFree 0 = true) ∧
    (BitVec.toNat (((tCell (tRegs 8388607 5)).cellAt 0).xr 10) % 8 ≠ 0) ∧
    (BitVec.toNat (((tCell (tRegs 8388607 5)).cellAt 0).xr 10) < 8388608) := by
  decide +kernel

theorem witness_FlagsComplete_2 :
    ((tCell (tRegs 8 0)).code.hasCell 0 = true) ∧
    ((tCell (tRegs 8 0)).scalarFree 0 = true) ∧
    (BitVec.toNat (((tCell (tRegs 8 0)).cellAt 0).xr 10) < 8388608) ∧
    (BitVec.toNat (((tCell (tRegs 8 0)).cellAt 0).xr 10) % 8 = 0) ∧
    (BitVec.toNat (((tCell (tRegs 8 0)).cellAt 0).xr 11) ≤ BitVec.toNat (((tCell (tRegs 8 0)).cellAt 0).sram.word
      (BitVec.toNat (((tCell (tRegs 8 0)).cellAt 0).xr 10)))) ∧
    ((tCell (tRegs 8 1)).code.hasCell 0 = true) ∧
    ((tCell (tRegs 8 1)).scalarFree 0 = true) ∧
    (BitVec.toNat (((tCell (tRegs 8 1)).cellAt 0).xr 10) < 8388608) ∧
    (BitVec.toNat (((tCell (tRegs 8 1)).cellAt 0).xr 10) % 8 = 0) ∧
    (BitVec.toNat (((tCell (tRegs 8 1)).cellAt 0).sram.word (BitVec.toNat (((tCell (tRegs 8 1)).cellAt 0).xr 10))) <
      BitVec.toNat (((tCell (tRegs 8 1)).cellAt 0).xr 11)) ∧
    ((tCell ({ (tRegs 8 1) with stall := Stall.flagWait 8388600 0 true 12 })).code.hasCell 0 = true) ∧
    (((tCell ({ (tRegs 8 1) with stall := Stall.flagWait 8388600 0 true 12 })).cellAt 0).stall = Stall.flagWait
      8388600 0 true 12) ∧
    (0 ≤ BitVec.toNat (((tCell ({ (tRegs 8 1) with stall := Stall.flagWait 8388600 0 true 12 })).cellAt 0).sram.word
      8388600)) ∧
    ((tCell ({ (tRegs 8 1) with stall := Stall.flagWait 8 1 true 12 })).code.hasCell 0 = true) ∧
    (((tCell ({ (tRegs 8 1) with stall := Stall.flagWait 8 1 true 12 })).cellAt 0).stall = Stall.flagWait 8 1 true 12) ∧
    (BitVec.toNat (((tCell ({ (tRegs 8 1) with stall := Stall.flagWait 8 1 true 12 })).cellAt 0).sram.word 8) < 1) := by
  decide +kernel

theorem witness_ScalarInstructionCompletes_1 :
    ((tCell ({ Cell.fresh with pc := 8388607 })).code.hasCell 0 = true) ∧
    ((tCell ({ Cell.fresh with pc := 8388607 })).scalarFree 0 = true) ∧
    (8388607 ≤ BitVec.toNat ((tCell ({ Cell.fresh with pc := 8388607 })).cellAt 0).pc) ∧
    ((tCell ({ (tRegs 7 0) with sram := [(8, 147), (9, 5), (10, 245), (11, 255)], pc := 8 })).code.hasCell 0 = true) ∧
    ((tCell ({ (tRegs 7 0) with sram := [(8, 147), (9, 5), (10, 245), (11, 255)], pc := 8 })).scalarFree 0 = true) ∧
    (BitVec.toNat ((tCell ({ (tRegs 7 0) with sram := [(8, 147), (9, 5), (10, 245), (11, 255)], pc := 8 })).cellAt
      0).pc % 4 = 0) ∧
    (BitVec.toNat ((tCell ({ (tRegs 7 0) with sram := [(8, 147), (9, 5), (10, 245), (11, 255)], pc := 8 })).cellAt
      0).pc < 8388608) ∧
    (((tCell ({ (tRegs 7 0) with sram := [(8, 147), (9, 5), (10, 245), (11, 255)], pc := 8 })).cellAt 0).icache = []) ∧
    (leNat (((tCell ({ (tRegs 7 0) with sram := [(8, 147), (9, 5), (10, 245), (11, 255)], pc := 8 })).cellAt
      0).sram.bytes (BitVec.toNat ((tCell
      ({ (tRegs 7 0) with sram := [(8, 147), (9, 5), (10, 245), (11, 255)], pc := 8 })).cellAt 0).pc) 4) % 128 = 19) ∧
    (leNat (((tCell ({ (tRegs 7 0) with sram := [(8, 147), (9, 5), (10, 245), (11, 255)], pc := 8 })).cellAt
      0).sram.bytes (BitVec.toNat ((tCell
      ({ (tRegs 7 0) with sram := [(8, 147), (9, 5), (10, 245), (11, 255)], pc := 8 })).cellAt 0).pc) 4) >>> 12 % 8 = 0) ∧
    ((tCell ({ (tRegs 7 9) with sram := [(8, 179), (9, 5), (10, 181)], pc := 8 })).code.hasCell 0 = true) ∧
    ((tCell ({ (tRegs 7 9) with sram := [(8, 179), (9, 5), (10, 181)], pc := 8 })).scalarFree 0 = true) ∧
    (BitVec.toNat ((tCell ({ (tRegs 7 9) with sram := [(8, 179), (9, 5), (10, 181)], pc := 8 })).cellAt 0).pc % 4 = 0) ∧
    (BitVec.toNat ((tCell ({ (tRegs 7 9) with sram := [(8, 179), (9, 5), (10, 181)], pc := 8 })).cellAt 0).pc <
      8388608) ∧
    (((tCell ({ (tRegs 7 9) with sram := [(8, 179), (9, 5), (10, 181)], pc := 8 })).cellAt 0).icache = []) ∧
    (leNat (((tCell ({ (tRegs 7 9) with sram := [(8, 179), (9, 5), (10, 181)], pc := 8 })).cellAt 0).sram.bytes
      (BitVec.toNat ((tCell ({ (tRegs 7 9) with sram := [(8, 179), (9, 5), (10, 181)], pc := 8 })).cellAt 0).pc) 4) %
      128 = 51) ∧
    (leNat (((tCell ({ (tRegs 7 9) with sram := [(8, 179), (9, 5), (10, 181)], pc := 8 })).cellAt 0).sram.bytes
      (BitVec.toNat ((tCell ({ (tRegs 7 9) with sram := [(8, 179), (9, 5), (10, 181)], pc := 8 })).cellAt 0).pc) 4) >>>
      12 % 8 = 0) ∧
    (leNat (((tCell ({ (tRegs 7 9) with sram := [(8, 179), (9, 5), (10, 181)], pc := 8 })).cellAt 0).sram.bytes
      (BitVec.toNat ((tCell ({ (tRegs 7 9) with sram := [(8, 179), (9, 5), (10, 181)], pc := 8 })).cellAt 0).pc) 4) >>>
      25 = 0) ∧
    ((tCell ({ (tRegs 7 9) with pc := 8388604 })).code.hasCell 0 = true) ∧
    ((tCell ({ (tRegs 7 9) with pc := 8388604 })).scalarFree 0 = true) := by
  decide +kernel

theorem witness_ScalarInstructionCompletes_2 :
    (BitVec.toNat ((tCell ({ (tRegs 7 9) with pc := 8388604 })).cellAt 0).pc % 4 = 0) ∧
    (BitVec.toNat ((tCell ({ (tRegs 7 9) with pc := 8388604 })).cellAt 0).pc < 8388608) ∧
    (((tCell ({ (tRegs 7 9) with pc := 8388604 })).cellAt 0).icache = []) ∧
    (leNat (((tCell ({ (tRegs 7 9) with pc := 8388604 })).cellAt 0).sram.bytes (BitVec.toNat ((tCell
      ({ (tRegs 7 9) with pc := 8388604 })).cellAt 0).pc) 4) = 0) ∧
    ((tCell Cell.fresh).code.hasCell 0 = true) ∧
    ((tCell Cell.fresh).scalarFree 0 = true) ∧
    (((tCell Cell.fresh).cellAt 0).track = none) := by
  decide +kernel

theorem witness_EngineHeads_1 :
    (tServe.code.hasCell 128 = false) ∧
    ((tCell Cell.fresh).code.hasCell 0 = true) ∧
    ((((tCell Cell.fresh).cellAt 0).queue 1).items = []) ∧
    ((tCell ({ Cell.fresh with vq := tQueue [31] })).code.hasCell 0 = true) ∧
    ((((tCell ({ Cell.fresh with vq := tQueue [31] })).cellAt 0).queue 1).items = [(0, 31)]) ∧
    (1 = 0 ∧ (matDesc 31).malformed = true ∨ 1 = 1 ∧ ((vecDesc 31).opc < 32 ∨ 48 < (vecDesc 31).opc)) ∧
    ((tCell ({ Cell.fresh with vq := tQueue [49, 7] })).code.hasCell 0 = true) ∧
    ((((tCell ({ Cell.fresh with vq := tQueue [49, 7] })).cellAt 0).queue 1).items = [(0, 49), (1, 7)]) ∧
    (1 = 0 ∧ (matDesc 49).malformed = true ∨ 1 = 1 ∧ ((vecDesc 49).opc < 32 ∨ 48 < (vecDesc 49).opc)) ∧
    ((tCell ({ Cell.fresh with mq := tQueue [tMatLine] })).code.hasCell 0 = true) ∧
    (((tCell ({ Cell.fresh with mq := tQueue [tMatLine] })).cellAt 0).mq.items = [(0, tMatLine)]) ∧
    ((matDesc tMatLine).malformed = false) ∧
    ((tCell ({ Cell.fresh with vq := tQueue [tVecLine 32 7 7] })).code.hasCell 0 = true) ∧
    (((tCell ({ Cell.fresh with vq := tQueue [tVecLine 32 7 7] })).cellAt 0).vq.items = [(0, tVecLine 32 7 7)]) ∧
    ((vecDesc (tVecLine 32 7 7)).malformed = false) ∧
    ((vecDesc (tVecLine 32 7 7)).opc = 32) ∧
    ((tCell ({ Cell.fresh with mq := tQueue [0] })).code.hasCell 0 = true) ∧
    ((((tCell ({ Cell.fresh with mq := tQueue [0] })).cellAt 0).queue 0).items = [(0, 0)]) ∧
    (0 = 0 ∧ (matDesc 0).malformed = true ∨ 0 = 1 ∧ ((vecDesc 0).opc < 32 ∨ 48 < (vecDesc 0).opc)) := by
  decide +kernel

theorem witness_MatrixCompletes_1 :
    ((tCell
      ({ Cell.fresh with sram := [(0, 255), (1, 3), (64, 5), (65, 128)], mq := tQueue [tMatLine] })).code.hasCell 0 =
      true) ∧
    (((tCell ({ Cell.fresh with sram := [(0, 255), (1, 3), (64, 5), (65, 128)], mq := tQueue [tMatLine] })).cellAt
      0).mq.items = [(0, tMatLine)]) ∧
    ((matDesc tMatLine).malformed = false) := by
  decide +kernel

theorem witness_VectorCompletes_1 :
    ((tCell ({ Cell.fresh with vq := tQueue [tVecLine 32 7 7] })).code.hasCell 0 = true) ∧
    (((tCell ({ Cell.fresh with vq := tQueue [tVecLine 32 7 7] })).cellAt 0).vq.items = [(0, tVecLine 32 7 7)]) ∧
    ((vecDesc (tVecLine 32 7 7)).malformed = false) ∧
    ((vecDesc (tVecLine 32 7 7)).overlaps = false) ∧
    ((vecDesc (tVecLine 32 7 7)).flagEn = false) ∧
    ((vecDesc (tVecLine 32 7 7)).opc ≠ 33) ∧
    ((tCell ({ Cell.fresh with sram := [(0, 255), (1024, 2)], vq := tQueue [tVecLine 32 7 7] })).code.hasCell 0 =
      true) ∧
    (((tCell ({ Cell.fresh with sram := [(0, 255), (1024, 2)], vq := tQueue [tVecLine 32 7 7] })).cellAt 0).vq.items =
      [(0, tVecLine 32 7 7)]) ∧
    ((vecDesc (tVecLine 32 7 7)).opc = 32) ∧
    ((tCell ({ Cell.fresh with sram := [(0, 255), (1024, 2)], vq := tQueue [tVecLine 33 7 7] })).code.hasCell 0 =
      true) ∧
    (((tCell ({ Cell.fresh with sram := [(0, 255), (1024, 2)], vq := tQueue [tVecLine 33 7 7] })).cellAt 0).vq.items =
      [(0, tVecLine 33 7 7)]) ∧
    ((vecDesc (tVecLine 33 7 7)).malformed = false) ∧
    ((vecDesc (tVecLine 33 7 7)).overlaps = false) ∧
    ((vecDesc (tVecLine 33 7 7)).flagEn = false) ∧
    ((vecDesc (tVecLine 33 7 7)).opc = 33) ∧
    ((tCell ({ Cell.fresh with sram := [(0, 255), (1024, 2)], vq := tQueue [tVecLine 34 6 6] })).code.hasCell 0 =
      true) ∧
    (((tCell ({ Cell.fresh with sram := [(0, 255), (1024, 2)], vq := tQueue [tVecLine 34 6 6] })).cellAt 0).vq.items =
      [(0, tVecLine 34 6 6)]) ∧
    ((vecDesc (tVecLine 34 6 6)).malformed = false) ∧
    ((vecDesc (tVecLine 34 6 6)).overlaps = false) ∧
    ((vecDesc (tVecLine 34 6 6)).flagEn = false) := by
  decide +kernel

theorem witness_VectorCompletes_2 :
    ((vecDesc (tVecLine 34 6 6)).opc = 34) ∧
    ((tCell ({ Cell.fresh with sram := [(0, 255), (1024, 2)], vq := tQueue [tVecLine 35 6 6] })).code.hasCell 0 =
      true) ∧
    (((tCell ({ Cell.fresh with sram := [(0, 255), (1024, 2)], vq := tQueue [tVecLine 35 6 6] })).cellAt 0).vq.items =
      [(0, tVecLine 35 6 6)]) ∧
    ((vecDesc (tVecLine 35 6 6)).malformed = false) ∧
    ((vecDesc (tVecLine 35 6 6)).overlaps = false) ∧
    ((vecDesc (tVecLine 35 6 6)).flagEn = false) ∧
    ((vecDesc (tVecLine 35 6 6)).opc = 35) ∧
    ((tCell ({ Cell.fresh with sram := [(0, 255), (1024, 2)], vq := tQueue [tVecLine 36 6 4] })).code.hasCell 0 =
      true) ∧
    (((tCell ({ Cell.fresh with sram := [(0, 255), (1024, 2)], vq := tQueue [tVecLine 36 6 4] })).cellAt 0).vq.items =
      [(0, tVecLine 36 6 4)]) ∧
    ((vecDesc (tVecLine 36 6 4)).malformed = false) ∧
    ((vecDesc (tVecLine 36 6 4)).overlaps = false) ∧
    ((vecDesc (tVecLine 36 6 4)).flagEn = false) ∧
    ((vecDesc (tVecLine 36 6 4)).opc = 36) ∧
    ((tCell ({ Cell.fresh with sram := [(0, 255), (1024, 2)], vq := tQueue [tVecLine 37 4 6] })).code.hasCell 0 =
      true) ∧
    (((tCell ({ Cell.fresh with sram := [(0, 255), (1024, 2)], vq := tQueue [tVecLine 37 4 6] })).cellAt 0).vq.items =
      [(0, tVecLine 37 4 6)]) ∧
    ((vecDesc (tVecLine 37 4 6)).malformed = false) ∧
    ((vecDesc (tVecLine 37 4 6)).overlaps = false) ∧
    ((vecDesc (tVecLine 37 4 6)).flagEn = false) ∧
    ((vecDesc (tVecLine 37 4 6)).opc = 37) ∧
    ((tCell ({ Cell.fresh with sram := [(0, 255), (1024, 2)], vq := tQueue [tVecLine 42 7 6] })).code.hasCell 0 =
      true) := by
  decide +kernel

theorem witness_VectorCompletes_3 :
    (((tCell ({ Cell.fresh with sram := [(0, 255), (1024, 2)], vq := tQueue [tVecLine 42 7 6] })).cellAt 0).vq.items =
      [(0, tVecLine 42 7 6)]) ∧
    ((vecDesc (tVecLine 42 7 6)).malformed = false) ∧
    ((vecDesc (tVecLine 42 7 6)).overlaps = false) ∧
    ((vecDesc (tVecLine 42 7 6)).flagEn = false) ∧
    ((vecDesc (tVecLine 42 7 6)).opc = 42) ∧
    ((tCell ({ Cell.fresh with sram := [(0, 255), (1024, 2)], vq := tQueue [tVecLine 43 6 0] })).code.hasCell 0 =
      true) ∧
    (((tCell ({ Cell.fresh with sram := [(0, 255), (1024, 2)], vq := tQueue [tVecLine 43 6 0] })).cellAt 0).vq.items =
      [(0, tVecLine 43 6 0)]) ∧
    ((vecDesc (tVecLine 43 6 0)).malformed = false) ∧
    ((vecDesc (tVecLine 43 6 0)).overlaps = false) ∧
    ((vecDesc (tVecLine 43 6 0)).flagEn = false) ∧
    ((vecDesc (tVecLine 43 6 0)).opc = 43) ∧
    ((tCell ({ Cell.fresh with sram := [(0, 255), (1024, 2)], vq := tQueue [tVecLine 44 2 6] })).code.hasCell 0 =
      true) ∧
    (((tCell ({ Cell.fresh with sram := [(0, 255), (1024, 2)], vq := tQueue [tVecLine 44 2 6] })).cellAt 0).vq.items =
      [(0, tVecLine 44 2 6)]) ∧
    ((vecDesc (tVecLine 44 2 6)).malformed = false) ∧
    ((vecDesc (tVecLine 44 2 6)).overlaps = false) ∧
    ((vecDesc (tVecLine 44 2 6)).flagEn = false) ∧
    ((vecDesc (tVecLine 44 2 6)).opc = 44) ∧
    ((tCell ({ Cell.fresh with sram := [(0, 255), (1024, 2)], vq := tQueue [tVecLine 45 6 6] })).code.hasCell 0 =
      true) ∧
    (((tCell ({ Cell.fresh with sram := [(0, 255), (1024, 2)], vq := tQueue [tVecLine 45 6 6] })).cellAt 0).vq.items =
      [(0, tVecLine 45 6 6)]) ∧
    ((vecDesc (tVecLine 45 6 6)).malformed = false) := by
  decide +kernel

theorem witness_VectorCompletes_4 :
    ((vecDesc (tVecLine 45 6 6)).overlaps = false) ∧
    ((vecDesc (tVecLine 45 6 6)).flagEn = false) ∧
    ((vecDesc (tVecLine 45 6 6)).opc = 45) ∧
    ((tCell ({ Cell.fresh with sram := [(0, 255), (1024, 2)], vq := tQueue [tVecLine 46 6 6] })).code.hasCell 0 =
      true) ∧
    (((tCell ({ Cell.fresh with sram := [(0, 255), (1024, 2)], vq := tQueue [tVecLine 46 6 6] })).cellAt 0).vq.items =
      [(0, tVecLine 46 6 6)]) ∧
    ((vecDesc (tVecLine 46 6 6)).malformed = false) ∧
    ((vecDesc (tVecLine 46 6 6)).overlaps = false) ∧
    ((vecDesc (tVecLine 46 6 6)).flagEn = false) ∧
    ((vecDesc (tVecLine 46 6 6)).opc = 46) ∧
    ((tCell ({ Cell.fresh with sram := [(0, 255), (1024, 2)], vq := tQueue [tVecLine 48 6 7] })).code.hasCell 0 =
      true) ∧
    (((tCell ({ Cell.fresh with sram := [(0, 255), (1024, 2)], vq := tQueue [tVecLine 48 6 7] })).cellAt 0).vq.items =
      [(0, tVecLine 48 6 7)]) ∧
    ((vecDesc (tVecLine 48 6 7)).malformed = false) ∧
    ((vecDesc (tVecLine 48 6 7)).overlaps = false) ∧
    ((vecDesc (tVecLine 48 6 7)).flagEn = false) ∧
    ((vecDesc (tVecLine 48 6 7)).opc = 48) ∧
    ((tCell ({ Cell.fresh with vq := tQueue [tVecLine 38 6 6] })).code.hasCell 0 = true) ∧
    (((tCell ({ Cell.fresh with vq := tQueue [tVecLine 38 6 6] })).cellAt 0).vq.items = [(0, tVecLine 38 6 6)]) ∧
    ((vecDesc (tVecLine 38 6 6)).malformed = false) ∧
    ((vecDesc (tVecLine 38 6 6)).overlaps = false) ∧
    ((vecDesc (tVecLine 38 6 6)).flagEn = false) := by
  decide +kernel

theorem witness_VectorCompletes_5 :
    ((vecDesc (tVecLine 38 6 6)).opc = 38) ∧
    ((tCell ({ Cell.fresh with vq := tQueue [tVecLine 39 6 6] })).code.hasCell 0 = true) ∧
    (((tCell ({ Cell.fresh with vq := tQueue [tVecLine 39 6 6] })).cellAt 0).vq.items = [(0, tVecLine 39 6 6)]) ∧
    ((vecDesc (tVecLine 39 6 6)).malformed = false) ∧
    ((vecDesc (tVecLine 39 6 6)).overlaps = false) ∧
    ((vecDesc (tVecLine 39 6 6)).flagEn = false) ∧
    ((vecDesc (tVecLine 39 6 6)).opc = 39) ∧
    ((tCell ({ Cell.fresh with vq := tQueue [tVecLine 40 6 6] })).code.hasCell 0 = true) ∧
    (((tCell ({ Cell.fresh with vq := tQueue [tVecLine 40 6 6] })).cellAt 0).vq.items = [(0, tVecLine 40 6 6)]) ∧
    ((vecDesc (tVecLine 40 6 6)).malformed = false) ∧
    ((vecDesc (tVecLine 40 6 6)).overlaps = false) ∧
    ((vecDesc (tVecLine 40 6 6)).flagEn = false) ∧
    ((vecDesc (tVecLine 40 6 6)).opc = 40) ∧
    ((tCell ({ Cell.fresh with vq := tQueue [tVecLine 41 6 6] })).code.hasCell 0 = true) ∧
    (((tCell ({ Cell.fresh with vq := tQueue [tVecLine 41 6 6] })).cellAt 0).vq.items = [(0, tVecLine 41 6 6)]) ∧
    ((vecDesc (tVecLine 41 6 6)).malformed = false) ∧
    ((vecDesc (tVecLine 41 6 6)).overlaps = false) ∧
    ((vecDesc (tVecLine 41 6 6)).flagEn = false) ∧
    ((vecDesc (tVecLine 41 6 6)).opc = 41) ∧
    ((tCell ({ Cell.fresh with vq := tQueue [tVecLine 47 8 8] })).code.hasCell 0 = true) := by
  decide +kernel

theorem witness_VectorCompletes_6 :
    (((tCell ({ Cell.fresh with vq := tQueue [tVecLine 47 8 8] })).cellAt 0).vq.items = [(0, tVecLine 47 8 8)]) ∧
    ((vecDesc (tVecLine 47 8 8)).malformed = false) ∧
    ((vecDesc (tVecLine 47 8 8)).overlaps = false) ∧
    ((vecDesc (tVecLine 47 8 8)).flagEn = false) ∧
    ((vecDesc (tVecLine 47 8 8)).opc = 47) := by
  decide +kernel

theorem witness_VectorArithmetic_1 :
    ((vecDesc (tVecLine 36 7 7)).stype = 7) ∧
    ((vecDesc (tVecLine 36 7 7)).opc = 36) ∧
    ((vecDesc (tVecLine 36 7 7)).bcast = 0) ∧
    (0 < (vecDesc (tVecLine 36 7 7)).count) ∧
    ((vecDesc (tVecLine 37 7 7)).stype = 7) ∧
    ((vecDesc (tVecLine 37 7 7)).opc = 37) ∧
    ((vecDesc (tVecLine 37 7 7)).bcast = 0) ∧
    (31 < (vecDesc (tVecLine 37 7 7)).count) ∧
    ((vecDesc (tVecLine 33 7 7)).stype = 7) ∧
    ((vecDesc (tVecLine 33 7 7)).opc = 33) ∧
    ((vecDesc (tVecLine 34 7 7)).stype = 7) ∧
    ((vecDesc (tVecLine 34 7 7)).opc = 34) := by
  decide +kernel

theorem witness_MoversComplete_1 :
    ((tChan 0 tGetDesc).code.hasCell 0 = true) ∧
    (((tChan 0 tGetDesc).chan 0 (0)).run = none) ∧
    (((tChan 0 tGetDesc).chan 0 (0)).q.items = [(0, tGetDesc)]) ∧
    ((mvDesc tGetDesc).opc ≠ 65) ∧
    (64 ≤ (mvDesc tGetDesc).opc) ∧
    ((mvDesc tGetDesc).opc ≤ 68) ∧
    ((mvDesc tGetDesc).opc = 64) ∧
    ((tChan 0 69).code.hasCell 0 = true) ∧
    (((tChan 0 69).chan 0 (0)).run = none) ∧
    (((tChan 0 69).chan 0 (0)).q.items = [(0, 69)]) ∧
    ((mvDesc 69).opc = 64 ∨ (mvDesc 69).opc < 64 ∨ 68 < (mvDesc 69).opc) ∧
    (((mvDesc 69).malformed (decide (0 < 4)) || decide (4 ≤ 0) && (tChan 0 69).getF F.cellState_priv == 0) = true) ∧
    ((tChan 0 63).code.hasCell 0 = true) ∧
    (((tChan 0 63).chan 0 (0)).run = none) ∧
    (((tChan 0 63).chan 0 (0)).q.items = [(0, 63)]) ∧
    ((mvDesc 63).opc = 64 ∨ (mvDesc 63).opc < 64 ∨ 68 < (mvDesc 63).opc) ∧
    (((mvDesc 63).malformed (decide (0 < 4)) || decide (4 ≤ 0) && (tChan 0 63).getF F.cellState_priv == 0) = true) ∧
    (((tCell Cell.fresh).setChan 0 0 ({ q := tQueue [67, 7], run := Channel.fresh.run })).code.hasCell 0 = true) ∧
    ((((tCell Cell.fresh).setChan 0 0 ({ q := tQueue [67, 7], run := Channel.fresh.run })).chan 0 (0)).run = none) ∧
    ((((tCell Cell.fresh).setChan 0 0 ({ q := tQueue [67, 7], run := Channel.fresh.run })).chan 0 (0)).q.items = [(0,
      67), (1, 7)]) := by
  decide +kernel

theorem witness_MoversComplete_2 :
    ((mvDesc 67).opc = 67 ∨ (mvDesc 67).opc < 64 ∨ 68 < (mvDesc 67).opc) ∧
    (((mvDesc 67).malformed (decide (0 < 4)) || decide (4 ≤ 0) && ((tCell Cell.fresh).setChan 0 0
      ({ q := tQueue [67, 7], run := Channel.fresh.run })).getF F.cellState_priv == 0) = true) ∧
    (((tChan 0 (tMvLine 66 64)).onCellAt 0 fun v => { v with sram := [(0, 9), (63, 8)] }).code.hasCell 0 = true) ∧
    ((((tChan 0 (tMvLine 66 64)).onCellAt 0 fun v => { v with sram := [(0, 9), (63, 8)] }).chan 0 (0)).run = none) ∧
    ((((tChan 0 (tMvLine 66 64)).onCellAt 0 fun v => { v with sram := [(0, 9), (63, 8)] }).chan 0 (0)).q.items = [(0,
      tMvLine 66 64)]) ∧
    ((mvDesc (tMvLine 66 64)).opc = 66) ∧
    (((mvDesc (tMvLine 66 64)).malformed (decide (0 < 4)) || decide (4 ≤ 0) && ((tChan 0 (tMvLine 66 64)).onCellAt 0
      fun v => { v with sram := [(0, 9), (63, 8)] }).getF F.cellState_priv == 0) = false) ∧
    (((mvDesc tGetDesc).malformed (decide (0 < 4)) || decide (4 ≤ 0) && (tChan 0 tGetDesc).getF F.cellState_priv == 0)
      = false) ∧
    (((tChan 0 tGetDesc).xltHit 0 ((tChan 0 tGetDesc).cellTenant 0) (granuleOf (mvDesc tGetDesc).addr)).1 = false) ∧
    ((tChan 0 68).code.hasCell 0 = true) ∧
    (((tChan 0 68).chan 0 (0)).run = none) ∧
    (((tChan 0 68).chan 0 (0)).q.items = [(0, 68)]) ∧
    ((mvDesc 68).opc = 68) ∧
    (((mvDesc 68).malformed (decide (0 < 4)) || decide (4 ≤ 0) && (tChan 0 68).getF F.cellState_priv == 0) = false) ∧
    (((tChan 0 68).xltHit 0 ((tChan 0 68).cellTenant 0) (granuleOf (mvDesc 68).addr)).1 = false) ∧
    (((tChan 0 65).onXlt fun x => { x with bufs := [(0, [tExtent.key])] }).code.hasCell 0 = true) ∧
    ((((tChan 0 65).onXlt fun x => { x with bufs := [(0, [tExtent.key])] }).chan 0 (0)).run = none) ∧
    ((((tChan 0 65).onXlt fun x => { x with bufs := [(0, [tExtent.key])] }).chan 0 (0)).q.items = [(0, 65)]) ∧
    ((mvDesc 65).opc = 65) ∧
    (((mvDesc 65).malformed (decide (0 < 4)) || decide (4 ≤ 0) && ((tChan 0 65).onXlt fun x =>
      { x with bufs := [(0, [tExtent.key])] }).getF F.cellState_priv == 0) = false) := by
  decide +kernel

theorem witness_MoversComplete_3 :
    ((((tChan 0 65).onXlt fun x => { x with bufs := [(0, [tExtent.key])] }).xltHit 0 (((tChan 0 65).onXlt fun x =>
      { x with bufs := [(0, [tExtent.key])] }).cellTenant 0) (granuleOf (mvDesc 65).addr)).1 = true) ∧
    (((tChan 0 65).onXlt fun x => { x with bufs := [(0, [tExtent.key])] }).lookup (((tChan 0 65).onXlt fun x =>
      { x with bufs := [(0, [tExtent.key])] }).cellTenant 0) (mvDesc 65).addr (mvDesc 65).wants true = Found.fails
      Code.absent) ∧
    (((tChan 0 68).onXlt fun x =>
      { x with entries := [{ tExtent with at_ := false }], l2 := [(0, [tExtent.key])] }).code.hasCell 0 = true) ∧
    ((((tChan 0 68).onXlt fun x =>
      { x with entries := [{ tExtent with at_ := false }], l2 := [(0, [tExtent.key])] }).chan 0 (0)).run = none) ∧
    ((((tChan 0 68).onXlt fun x =>
      { x with entries := [{ tExtent with at_ := false }], l2 := [(0, [tExtent.key])] }).chan 0 (0)).q.items = [(0,
      68)]) ∧
    (((mvDesc 68).malformed (decide (0 < 4)) || decide (4 ≤ 0) && ((tChan 0 68).onXlt fun x =>
      { x with entries := [{ tExtent with at_ := false }], l2 := [(0, [tExtent.key])] }).getF F.cellState_priv == 0) =
      false) ∧
    ((((tChan 0 68).onXlt fun x =>
      { x with entries := [{ tExtent with at_ := false }], l2 := [(0, [tExtent.key])] }).xltHit 0 (((tChan 0 68).onXlt
      fun x => { x with entries := [{ tExtent with at_ := false }], l2 := [(0, [tExtent.key])] }).cellTenant 0)
      (granuleOf (mvDesc 68).addr)).1 = true) ∧
    (((tChan 0 68).onXlt fun x =>
      { x with entries := [{ tExtent with at_ := false }], l2 := [(0, [tExtent.key])] }).lookup (((tChan 0 68).onXlt fun
      x => { x with entries := [{ tExtent with at_ := false }], l2 := [(0, [tExtent.key])] }).cellTenant 0) (mvDesc
      68).addr (mvDesc 68).wants true = Found.fails Code.denied) ∧
    (((tChan 0 64).onXlt fun x =>
      { x with entries := [{ tExtent with state := EState.revoking }], l2 := [(0, [tExtent.key])] }).code.hasCell 0 =
      true) ∧
    ((((tChan 0 64).onXlt fun x =>
      { x with entries := [{ tExtent with state := EState.revoking }], l2 := [(0, [tExtent.key])] }).chan 0 (0)).run =
      none) ∧
    ((((tChan 0 64).onXlt fun x =>
      { x with entries := [{ tExtent with state := EState.revoking }], l2 := [(0, [tExtent.key])] }).chan 0 (0)).q.items
      = [(0, 64)]) ∧
    ((mvDesc 64).opc = 64) ∧
    (((mvDesc 64).malformed (decide (0 < 4)) || decide (4 ≤ 0) && ((tChan 0 64).onXlt fun x =>
      { x with entries := [{ tExtent with state := EState.revoking }], l2 := [(0, [tExtent.key])] }).getF
      F.cellState_priv == 0) = false) ∧
    ((((tChan 0 64).onXlt fun x =>
      { x with entries := [{ tExtent with state := EState.revoking }], l2 := [(0, [tExtent.key])] }).xltHit 0 (((tChan 0
      64).onXlt fun x =>
      { x with entries := [{ tExtent with state := EState.revoking }], l2 := [(0, [tExtent.key])] }).cellTenant 0)
      (granuleOf (mvDesc 64).addr)).1 = true) ∧
    (((tChan 0 64).onXlt fun x =>
      { x with entries := [{ tExtent with state := EState.revoking }], l2 := [(0, [tExtent.key])] }).lookup (((tChan 0
      64).onXlt fun x =>
      { x with entries := [{ tExtent with state := EState.revoking }], l2 := [(0, [tExtent.key])] }).cellTenant 0)
      (mvDesc 64).addr (mvDesc 64).wants true = Found.fails Code.revoked) ∧
    (((tChan 4 67).setF F.cellState_priv 0 1).code.hasCell 0 = true) ∧
    ((((tChan 4 67).setF F.cellState_priv 0 1).chan 0 (4)).run = none) ∧
    ((((tChan 4 67).setF F.cellState_priv 0 1).chan 0 (4)).q.items = [(0, 67)]) ∧
    ((mvDesc 67).opc = 67) := by
  decide +kernel

theorem witness_MoverEndsAndCellPuts_1 :
    ((tMover tServe (tRun MvPhase.remote)).code.hasCell 0 = true) ∧
    (((tMover tServe (tRun MvPhase.remote)).chan 0 (0)).run = some (tRun MvPhase.remote)) ∧
    ((tRun MvPhase.remote).phase ≠ MvPhase.ending) ∧
    ((tMover tServe (tRun MvPhase.ending)).code.hasCell 0 = true) ∧
    (((tMover tServe (tRun MvPhase.ending)).chan 0 (0)).run = some (tRun MvPhase.ending)) ∧
    ((tRun MvPhase.ending).phase = MvPhase.ending) ∧
    ((tMover tServe ({ (tRun MvPhase.ending) with orphan := true })).code.hasCell 0 = true) ∧
    (((tMover tServe ({ (tRun MvPhase.ending) with orphan := true })).chan 0 (0)).run = some
      ({ (tRun MvPhase.ending) with orphan := true })) ∧
    (({ (tRun MvPhase.ending) with orphan := true }).phase = MvPhase.ending) ∧
    ((tMover tServe ({ (tRun MvPhase.ending) with desc := 2112, code := Code.malformed })).code.hasCell 0 = true) ∧
    (((tMover tServe ({ (tRun MvPhase.ending) with desc := 2112, code := Code.malformed })).chan 0 (0)).run = some
      ({ (tRun MvPhase.ending) with desc := 2112, code := Code.malformed })) ∧
    (({ (tRun MvPhase.ending) with desc := 2112, code := Code.malformed }).phase = MvPhase.ending) ∧
    ((tMover tServe ({ (tRun MvPhase.ending) with desc := 2112 + 2 ^ 288 })).code.hasCell 0 = true) ∧
    (((tMover tServe ({ (tRun MvPhase.ending) with desc := 2112 + 2 ^ 288 })).chan 0 (0)).run = some
      ({ (tRun MvPhase.ending) with desc := 2112 + 2 ^ 288 })) ∧
    (({ (tRun MvPhase.ending) with desc := 2112 + 2 ^ 288 }).phase = MvPhase.ending) ∧
    ((tMover tServe ({ (tRun MvPhase.ending) with desc := 64 + 2 ^ 256 })).code.hasCell 0 = true) ∧
    (((tMover tServe ({ (tRun MvPhase.ending) with desc := 64 + 2 ^ 256 })).chan 0 (0)).run = some
      ({ (tRun MvPhase.ending) with desc := 64 + 2 ^ 256 })) ∧
    (({ (tRun MvPhase.ending) with desc := 64 + 2 ^ 256 }).phase = MvPhase.ending) ∧
    ((tPacket PacketKind.load).stomp = false) ∧
    ((tPacket PacketKind.load).work = none) := by
  decide +kernel

theorem witness_MoverEndsAndCellPuts_2 :
    (((tPacket PacketKind.load).flowSeq.toNat + 65536 - (tServe.rxFlow (tPacket PacketKind.load).flow).expected) %
      65536 = 0) ∧
    ((tServe.rxFlow (tPacket PacketKind.load).flow).held = []) ∧
    ((tServe.rxFlow (tPacket PacketKind.load).flow).unreported < 63) ∧
    (tServe.mode = Mode.service) ∧
    ((tPacket PacketKind.cellPut).data = [5]) ∧
    ((tPacket PacketKind.cellPut).posted = true) ∧
    (fieldOf (tPacket PacketKind.cellPut).addr 47 17 = 0) ∧
    (fieldOf (tPacket PacketKind.cellPut).addr 0 23 % 64 = 0) ∧
    (fieldOf (tPacket PacketKind.cellPut).addr 28 2 < tServe.code.fronds) ∧
    (tServe.cellRun (32 * fieldOf (tPacket PacketKind.cellPut).addr 28 2 + fieldOf (tPacket PacketKind.cellPut).addr
      23 5) = 0 ∨ tServe.cellTenant (32 * fieldOf (tPacket PacketKind.cellPut).addr 28 2 + fieldOf (tPacket
      PacketKind.cellPut).addr 23 5) ≠ (tPacket PacketKind.cellPut).tenant) ∧
    (fieldOf (tPacket PacketKind.cellPut).addr 28 2 < (tCell Cell.fresh).code.fronds) ∧
    ((tCell Cell.fresh).cellRun (32 * fieldOf (tPacket PacketKind.cellPut).addr 28 2 + fieldOf (tPacket
      PacketKind.cellPut).addr 23 5) ≠ 0) ∧
    ((tCell Cell.fresh).cellTenant (32 * fieldOf (tPacket PacketKind.cellPut).addr 28 2 + fieldOf (tPacket
      PacketKind.cellPut).addr 23 5) = (tPacket PacketKind.cellPut).tenant) ∧
    (fieldOf (tPacket PacketKind.cellPut).addr 46 1 = 0) ∧
    (({ (tPacket PacketKind.cellPut) with addr := 1 }).posted = true) ∧
    ((tCell Cell.fresh).code.fronds ≤ fieldOf ({ (tPacket PacketKind.cellPut) with addr := 1 }).addr 28 2 ∨ fieldOf
      ({ (tPacket PacketKind.cellPut) with addr := 1 }).addr 47 17 ≠ 0 ∨ fieldOf
      ({ (tPacket PacketKind.cellPut) with addr := 1 }).addr 0 23 % 64 ≠ 0) ∧
    (({ (tPacket PacketKind.cellPut) with addr := 2 ^ 47 }).posted = true) ∧
    ((tCell Cell.fresh).code.fronds ≤ fieldOf ({ (tPacket PacketKind.cellPut) with addr := 2 ^ 47 }).addr 28 2 ∨
      fieldOf ({ (tPacket PacketKind.cellPut) with addr := 2 ^ 47 }).addr 47 17 ≠ 0 ∨ fieldOf
      ({ (tPacket PacketKind.cellPut) with addr := 2 ^ 47 }).addr 0 23 % 64 ≠ 0) := by
  decide +kernel

theorem witness_EpochsAndSync_1 :
    ((tMsg 0 0 0).epoch.toNat < (tServe.setF F.schedSync_epoch 0 1).getF F.schedSync_epoch) ∧
    ((tMsg 0 0 0).epoch.toNat = tServe.getF F.schedSync_epoch) ∧
    (tServe.getF F.schedSync_epoch < (tMsg 255 0 0).epoch.toNat) ∧
    ((tMsg 0 0 0).epoch.toNat = (tSched fun x => { x with children := [1] }).getF F.schedSync_epoch) ∧
    ((tSched fun x => { x with children := [1] }).sched.children.contains (tMsg 0 0 0).device = true) ∧
    ((tMsg 0 0 0).epoch.toNat = (tSched fun x => { x with parent := some 1 }).getF F.schedSync_epoch) ∧
    ((tSched fun x => { x with parent := some 1 }).sched.children.contains (tMsg 0 0 0).device = false) ∧
    ((tSched fun x => { x with parent := some 1 }).sched.parent = some (tMsg 0 0 0).device) ∧
    ((tMsg 0 0 0).epoch.toNat = ((tSched fun x => { x with parent := some 1 }).setF F.schedSync_locked 0 1).getF
      F.schedSync_epoch) ∧
    (((tSched fun x => { x with parent := some 1 }).setF F.schedSync_locked 0 1).sched.children.contains (tMsg 0 0
      0).device = false) ∧
    (((tSched fun x => { x with parent := some 1 }).setF F.schedSync_locked 0 1).sched.parent = some (tMsg 0 0
      0).device) ∧
    (tServe.sched.children.contains (tMsg 0 0 0).device = false) ∧
    (tServe.sched.parent ≠ some (tMsg 0 0 0).device) := by
  decide +kernel

theorem witness_ReadinessAndHolds_1 :
    ((tSched fun x => { x with holds := [0] }).workReady = false ∨ (tSched fun x => { x with holds := [0] }).mode =
      Mode.sleep) ∧
    (({ tServe with mode := Mode.sleep }).workReady = false ∨ ({ tServe with mode := Mode.sleep }).mode = Mode.sleep) ∧
    ((tSched fun x =>
      { x with children := [1], parent := some 2, readyFrom := [(1, 1)], readyFence := some 0 }).workReady = true) ∧
    ((tSched fun x => { x with children := [1], parent := some 2, readyFrom := [(1, 1)], readyFence := some 0 }).mode
      ≠ Mode.sleep) ∧
    ((tSched fun x =>
      { x with children := [1], parent := some 2, readyFrom := [(1, 1)], readyFence := some 0 }).sched.readyFence = some
      0) ∧
    ((tSched fun x => { x with children := [1], parent := some 2, readyFrom := [(1, 1)], readyFence := some 0 }).fence
      0 = none) ∧
    ((tSched fun x =>
      { x with children := [1], parent := some 2, readyFrom := [(1, 1)], readyFence := some 0 }).sched.sentReady =
      false) ∧
    (tServe.workReady = true) ∧
    (tServe.mode ≠ Mode.sleep) ∧
    (tServe.sched.readyFence = none) ∧
    ((tMsg 0 0 0).epoch.toNat = (tSched fun x => { x with children := [1], readyFrom := [(2, 1)] }).getF
      F.schedSync_epoch) ∧
    ((tMsg 0 0 0).wale = (tSched fun x => { x with children := [1], readyFrom := [(2, 1)] }).wale) ∧
    ((tSched fun x => { x with children := [1], readyFrom := [(2, 1)] }).sched.children.contains (tMsg 0 0 0).device =
      true) ∧
    ((tMsg 0 1 0).epoch.toNat = tServe.getF F.schedSync_epoch) ∧
    ((tMsg 0 1 0).wale = tServe.wale + 1) ∧
    ((tMsg 0 0 7).epoch.toNat = (tServe.setF F.schedSync_role 0 1).getF F.schedSync_epoch) ∧
    ((tMsg 0 0 7).wale = (tServe.setF F.schedSync_role 0 1).wale) ∧
    ((tMsg 0 0 7).cause < 8) ∧
    ((tServe.setF F.schedSync_role 0 1).isSource = true) ∧
    ((tMsg 0 0 0).epoch.toNat = (tSched fun x => { x with parent := some 2 }).getF F.schedSync_epoch) := by
  decide +kernel

theorem witness_ReadinessAndHolds_2 :
    ((tMsg 0 0 0).wale = (tSched fun x => { x with parent := some 2 }).wale) ∧
    ((tMsg 0 0 0).cause < 8) ∧
    ((tSched fun x => { x with parent := some 2 }).isSource = false) ∧
    (tServe.sched.holds = []) ∧
    ((tSched fun x => { x with holds := [0, 7] }).sched.holds = [0] ++ [7]) ∧
    ((tStreams tSealedB (tStream [tLayer] [] 0)).plannedEnd ≤ BitVec.toNat (tStreams tSealedB (tStream [tLayer] []
      0)).stime + 8000) ∧
    ((tStreams tSealedB (tStream [tLayer] [] 0)).sched.sentReady = false) ∧
    ((tStreams tSealedB (tStream [tLayer] [] 0)).sched.holds = []) ∧
    ((tStreams tSealedB (tStream [tLayer] [] 0)).workReady = false) ∧
    (BitVec.toNat ({ (tSched fun x => { x with start := 8001 }) with stime := 0 }).stime + 8000 <
      ({ (tSched fun x => { x with start := 8001 }) with stime := 0 }).plannedEnd ∨
      ({ (tSched fun x => { x with start := 8001 }) with stime := 0 }).sched.sentReady = true ∨
      ({ (tSched fun x => { x with start := 8001 }) with stime := 0 }).sched.holds ≠ [] ∨
      ({ (tSched fun x => { x with start := 8001 }) with stime := 0 }).workReady = true) ∧
    (BitVec.toNat tServe.stime + 8000 < tServe.plannedEnd ∨ tServe.sched.sentReady = true ∨ tServe.sched.holds ≠ [] ∨
      tServe.workReady = true) ∧
    (BitVec.toNat (tSched fun x => { x with sentReady := true }).stime + 8000 < (tSched fun x =>
      { x with sentReady := true }).plannedEnd ∨ (tSched fun x => { x with sentReady := true }).sched.sentReady = true ∨
      (tSched fun x => { x with sentReady := true }).sched.holds ≠ [] ∨ (tSched fun x =>
      { x with sentReady := true }).workReady = true) ∧
    (({ tServe with stime := 100000000 }).mode ≠ Mode.sleep) ∧
    (({ tServe with stime := 100000000 }).sched.warned = false) ∧
    (({ tServe with stime := 100000000 }).plannedEnd + 1000 * ({ tServe with stime := 100000000 }).act
      F.schedStretchWarn_warnUs ≤ BitVec.toNat ({ tServe with stime := 100000000 }).stime) ∧
    (({ tServe with mode := Mode.sleep }).mode = Mode.sleep ∨ ({ tServe with mode := Mode.sleep }).sched.warned =
      true) ∧
    ((tSched fun x => { x with warned := true }).mode = Mode.sleep ∨ (tSched fun x =>
      { x with warned := true }).sched.warned = true) := by
  decide +kernel

theorem witness_AnnouncingCompletes_1 :
    (((tSched fun x => { x with standSize := 1, sentReady := true }).setF F.schedSync_role 0 1).mayAnnounce = true) ∧
    (((tSched fun x => { x with standSize := 1, sentReady := true }).setF F.schedSync_role 0 1).sched.sentReady =
      true) ∧
    (((tSched fun x => { x with standSize := 1, sentReady := true }).setF F.schedSync_role 0 1).sched.standSize ≤
      ((tSched fun x => { x with standSize := 1, sentReady := true }).setF F.schedSync_role 0 1).readyCount) ∧
    (((tSched fun x => { x with standSize := 1, sentReady := true }).setF F.schedSync_role 0 1).plannedEnd ≤
      BitVec.toNat ((tSched fun x => { x with standSize := 1, sentReady := true }).setF F.schedSync_role 0 1).stime +
      8000) ∧
    (((tSched fun x => { x with standSize := 2, sentReady := true }).setF F.schedSync_role 0 1).mayAnnounce = true) ∧
    (((tSched fun x => { x with standSize := 2, sentReady := true }).setF F.schedSync_role 0 1).sched.sentReady =
      false ∨ ((tSched fun x => { x with standSize := 2, sentReady := true }).setF F.schedSync_role 0 1).readyCount <
      ((tSched fun x => { x with standSize := 2, sentReady := true }).setF F.schedSync_role 0 1).sched.standSize ∨
      BitVec.toNat ((tSched fun x => { x with standSize := 2, sentReady := true }).setF F.schedSync_role 0 1).stime +
      8000 < ((tSched fun x => { x with standSize := 2, sentReady := true }).setF F.schedSync_role 0 1).plannedEnd) ∧
    (((tSched fun x => { x with standSize := 1, sentReady := true, start := 8001 }).setF F.schedSync_role 0
      1).mayAnnounce = true) ∧
    (((tSched fun x => { x with standSize := 1, sentReady := true, start := 8001 }).setF F.schedSync_role 0
      1).sched.sentReady = false ∨ ((tSched fun x => { x with standSize := 1, sentReady := true, start := 8001 }).setF
      F.schedSync_role 0 1).readyCount < ((tSched fun x =>
      { x with standSize := 1, sentReady := true, start := 8001 }).setF F.schedSync_role 0 1).sched.standSize ∨
      BitVec.toNat ((tSched fun x => { x with standSize := 1, sentReady := true, start := 8001 }).setF F.schedSync_role
      0 1).stime + 8000 < ((tSched fun x => { x with standSize := 1, sentReady := true, start := 8001 }).setF
      F.schedSync_role 0 1).plannedEnd) ∧
    (({ ((tSched fun x => { x with holds := [7] }).setF F.schedSync_role 0 1) with stime := 1000000000 }).mayAnnounce
      = true) ∧
    (({ ((tSched fun x => { x with holds := [7] }).setF F.schedSync_role 0 1) with stime := 1000000000 }).plannedEnd +
      1000 * ({ ((tSched fun x => { x with holds := [7] }).setF F.schedSync_role 0 1) with stime := 1000000000 }).act
      F.schedOverrunGrace_graceUs ≤ BitVec.toNat
      ({ ((tSched fun x => { x with holds := [7] }).setF F.schedSync_role 0 1) with stime := 1000000000 }).stime) ∧
    (∀ c ∈
      ({ ((tSched fun x => { x with holds := [7] }).setF F.schedSync_role 0 1) with stime := 1000000000 }).sched.holds,
      c = 7) ∧
    (tServe.mayAnnounce = false) := by
  decide +kernel

theorem witness_BoundaryCompletes_1 :
    ((tMsg 0 1 0).epoch.toNat = tServe.getF F.schedSync_epoch) ∧
    ((tMsg 0 1 0).wale = tServe.wale + 1) ∧
    (tServe.mode ≠ Mode.slath) ∧
    (tServe.mode ≠ Mode.sleep) ∧
    (BitVec.toNat tServe.stime ≤ BitVec.toNat (tMsg 0 1 0).time) ∧
    ((tMsg 0 1 0).epoch.toNat = ({ tServe with stime := 9000 }).getF F.schedSync_epoch) ∧
    ((tMsg 0 1 0).wale = ({ tServe with stime := 9000 }).wale + 1) ∧
    (({ tServe with stime := 9000 }).mode ≠ Mode.slath) ∧
    (({ tServe with stime := 9000 }).mode ≠ Mode.sleep) ∧
    (BitVec.toNat ({ tServe with stime := 9000 }).stime ≤ BitVec.toNat (tMsg 0 1 0).time) ∧
    ((tMsg 0 1 0).epoch.toNat = ({ tServe with stime := 9001 }).getF F.schedSync_epoch) ∧
    ((tMsg 0 1 0).wale = ({ tServe with stime := 9001 }).wale + 1) ∧
    (({ tServe with stime := 9001 }).mode ≠ Mode.slath) ∧
    (({ tServe with stime := 9001 }).mode ≠ Mode.sleep) ∧
    (BitVec.toNat (tMsg 0 1 0).time < BitVec.toNat ({ tServe with stime := 9001 }).stime) ∧
    (({ (tSched fun x => { x with announced := some tNext }) with stime := 8999 }).sched.announced = some tNext) ∧
    (({ (tSched fun x => { x with announced := some tNext }) with stime := 8999 }).mode ≠ Mode.slath) ∧
    (({ (tSched fun x => { x with announced := some tNext }) with stime := 8999 }).mode ≠ Mode.sleep) ∧
    (BitVec.toNat ({ (tSched fun x => { x with announced := some tNext }) with stime := 8999 }).stime < BitVec.toNat
      tNext.time) ∧
    (({ (tSched fun x => { x with announced := some tNext }) with mode := Mode.quarantine, stime := 9000 }).sched.announced
      = some tNext) := by
  decide +kernel

theorem witness_BoundaryCompletes_2 :
    (({ (tSched fun x => { x with announced := some tNext }) with mode := Mode.quarantine, stime := 9000 }).mode ≠
      Mode.slath) ∧
    (({ (tSched fun x => { x with announced := some tNext }) with mode := Mode.quarantine, stime := 9000 }).mode ≠
      Mode.sleep) ∧
    (BitVec.toNat tNext.time ≤ BitVec.toNat
      ({ (tSched fun x => { x with announced := some tNext }) with mode := Mode.quarantine, stime := 9000 }).stime) ∧
    (({ (tSched fun x => { x with announced := some tNext }) with mode := Mode.quarantine, stime := 9000 }).mode =
      Mode.quarantine) ∧
    (({ (tSched fun x => { x with announced := some tNext }) with mode := Mode.rest, stime := 9000 }).sched.announced
      = some tNext) ∧
    (({ (tSched fun x => { x with announced := some tNext }) with mode := Mode.rest, stime := 9000 }).mode ≠
      Mode.slath) ∧
    (({ (tSched fun x => { x with announced := some tNext }) with mode := Mode.rest, stime := 9000 }).mode ≠
      Mode.sleep) ∧
    (BitVec.toNat tNext.time ≤ BitVec.toNat
      ({ (tSched fun x => { x with announced := some tNext }) with mode := Mode.rest, stime := 9000 }).stime) ∧
    (({ (tSched fun x => { x with announced := some tNext }) with mode := Mode.rest, stime := 9000 }).mode =
      Mode.service ∨
      ({ (tSched fun x => { x with announced := some tNext }) with mode := Mode.rest, stime := 9000 }).mode = Mode.rest
      ∨ ({ (tSched fun x => { x with announced := some tNext }) with mode := Mode.rest, stime := 9000 }).mode =
      Mode.crust ∨ ({ (tSched fun x => { x with announced := some tNext }) with mode := Mode.rest, stime := 9000 }).mode
      = Mode.repair) ∧
    (State.reset.mode = Mode.slath) ∧
    (({ (tSched fun x => { x with start := 1 }) with mode := Mode.sleep }).mode = Mode.sleep) ∧
    (BitVec.toNat ({ (tSched fun x => { x with start := 1 }) with mode := Mode.sleep }).stime <
      ({ (tSched fun x => { x with start := 1 }) with mode := Mode.sleep }).plannedEnd) ∧
    (({ tServe with mode := Mode.sleep }).mode = Mode.sleep) ∧
    (({ tServe with mode := Mode.sleep }).plannedEnd ≤ BitVec.toNat ({ tServe with mode := Mode.sleep }).stime) := by
  decide +kernel

theorem witness_FailuresComplete_1 :
    (({ (tSched fun x => { x with children := [1], standSize := 2 }) with stime := 1000000000 }).sched.children.contains
      1 = true) ∧
    (({ (tSched fun x => { x with children := [1], standSize := 2 }) with stime := 1000000000 }).sched.heldFrom.contains
      1 = false) ∧
    (({ (tSched fun x => { x with children := [1], standSize := 2 }) with stime := 1000000000 }).pwr.asleep.contains 1
      = false) ∧
    (({ (tSched fun x => { x with children := [1], standSize := 2 }) with stime := 1000000000 }).plannedEnd + 1000 *
      ({ (tSched fun x => { x with children := [1], standSize := 2 }) with stime := 1000000000 }).act
      F.schedReadyBound_boundUs ≤ BitVec.toNat
      ({ (tSched fun x => { x with children := [1], standSize := 2 }) with stime := 1000000000 }).stime) ∧
    ((tSched fun x => { x with children := [1], standSize := 2, start := 5 }).sched.children.contains 1 = true) ∧
    ((tSched fun x => { x with children := [1], standSize := 2, start := 5 }).sched.heldFrom.contains 1 = false) ∧
    ((tSched fun x => { x with children := [1], standSize := 2, start := 5 }).pwr.asleep.contains 1 = false) ∧
    (BitVec.toNat (tSched fun x => { x with children := [1], standSize := 2, start := 5 }).stime < (tSched fun x =>
      { x with children := [1], standSize := 2, start := 5 }).plannedEnd + 1000 * (tSched fun x =>
      { x with children := [1], standSize := 2, start := 5 }).act F.schedReadyBound_boundUs) ∧
    (tServe.sched.children.contains 1 = false ∨ tServe.sched.heldFrom.contains 1 = true ∨ tServe.pwr.asleep.contains 1
      = true) ∧
    ((tSched fun x => { x with children := [1], heldFrom := [1] }).sched.children.contains 1 = false ∨ (tSched fun x
      => { x with children := [1], heldFrom := [1] }).sched.heldFrom.contains 1 = true ∨ (tSched fun x =>
      { x with children := [1], heldFrom := [1] }).pwr.asleep.contains 1 = true) ∧
    ((tMsg 0 0 0).epoch.toNat = (tSched fun x => { x with parent := some 2 }).getF F.schedSync_epoch) ∧
    ((tMsg 0 0 0).wale = (tSched fun x => { x with parent := some 2 }).wale) ∧
    ((tSched fun x => { x with parent := some 2 }).isKeeper = false) ∧
    ((tSched fun x => { x with parent := some 2 }).isSource = false) ∧
    ((tMsg 0 0 0).epoch.toNat = (tServe.setF F.mapRole_keeper 0 1).getF F.schedSync_epoch) ∧
    ((tMsg 0 0 0).wale = (tServe.setF F.mapRole_keeper 0 1).wale) ∧
    ((tServe.setF F.mapRole_keeper 0 1).isKeeper = true) ∧
    (devRing (tMsg 0 0 0).device = devRing (tServe.setF F.mapRole_keeper 0 1).device) ∧
    ((tServe.setF F.mapRole_keeper 0 1).fateOf (tMsg 0 0 0).device = none) ∧
    ((tServe.setF F.mapRole_keeper 0 1).isSource = false) := by
  decide +kernel

theorem witness_FailuresComplete_2 :
    ((tMsg 0 0 0).epoch.toNat = ((tSched fun x => { x with children := [1], standSize := 2 }).setF F.schedSync_role 0
      1).getF F.schedSync_epoch) ∧
    ((tMsg 0 0 0).wale = ((tSched fun x => { x with children := [1], standSize := 2 }).setF F.schedSync_role 0
      1).wale) ∧
    (((tSched fun x => { x with children := [1], standSize := 2 }).setF F.schedSync_role 0 1).isKeeper = false) ∧
    (((tSched fun x => { x with children := [1], standSize := 2 }).setF F.schedSync_role 0 1).isSource = true) := by
  decide +kernel

theorem witness_StepsComplete_1 :
    (tServe.dueStep 0 = none) ∧
    ((tTrack (tStepOf StepKind.stream)).dueStep 0 = some
      ({ next := 0, open_ := [], ended := false, failed := false, served := [], adoptedFrom := none }, tStepOf
      StepKind.stream)) ∧
    ((tStepOf StepKind.stream).kind ≠ (Instr.stepKernel 0, StepKind.kernel).2 ∨ (tTrack (tStepOf
      StepKind.stream)).mayStart (tStepOf StepKind.stream) = false ∨ (tTrack (tStepOf StepKind.stream)).ownFirst 0 0
      (tStepOf StepKind.stream) = false) ∧
    (((tTrack (tStepOf StepKind.kernel)).setF F.cellState_run 0 runOff).dueStep 0 = some
      ({ next := 0, open_ := [], ended := false, failed := false, served := [], adoptedFrom := none }, tStepOf
      StepKind.kernel)) ∧
    ((tStepOf StepKind.kernel).kind = (Instr.stepKernel 0, StepKind.kernel).2) ∧
    (((tTrack (tStepOf StepKind.kernel)).setF F.cellState_run 0 runOff).mayStart (tStepOf StepKind.kernel) = true) ∧
    (((tTrack (tStepOf StepKind.kernel)).setF F.cellState_run 0 runOff).ownFirst 0 0 (tStepOf StepKind.kernel) = true) ∧
    (((tTrack (tStepOf StepKind.kernel)).setF F.cellState_run 0 runOff).map.failover = none) ∧
    (((tStepOf StepKind.kernel).cells.any fun c => ((tTrack (tStepOf StepKind.kernel)).setF F.cellState_run 0
      runOff).cellRun c == runOff) = true) ∧
    ((tTrack (tStepOf StepKind.kernel)).dueStep 0 = some
      ({ next := 0, open_ := [], ended := false, failed := false, served := [], adoptedFrom := none }, tStepOf
      StepKind.kernel)) ∧
    ((tTrack (tStepOf StepKind.kernel)).mayStart (tStepOf StepKind.kernel) = true) ∧
    ((tTrack (tStepOf StepKind.kernel)).ownFirst 0 0 (tStepOf StepKind.kernel) = true) ∧
    ((tTrack (tStepOf StepKind.kernel)).map.failover = none) ∧
    (((tStepOf StepKind.kernel).cells.any fun c => (tTrack (tStepOf StepKind.kernel)).cellRun c == runOff) = false) ∧
    ((tStepOf StepKind.stream).kind = (Instr.stepStream 0, StepKind.stream).2) ∧
    ((tTrack (tStepOf StepKind.stream)).mayStart (tStepOf StepKind.stream) = true) ∧
    ((tTrack (tStepOf StepKind.stream)).ownFirst 0 0 (tStepOf StepKind.stream) = true) ∧
    ((tTrack (tStepOf StepKind.stream)).map.failover = none) ∧
    (((tStepOf StepKind.stream).cells.any fun c => (tTrack (tStepOf StepKind.stream)).cellRun c == runOff) = false) ∧
    ((tTrack (tStepOf StepKind.service)).dueStep 0 = some
      ({ next := 0, open_ := [], ended := false, failed := false, served := [], adoptedFrom := none }, tStepOf
      StepKind.service)) := by
  decide +kernel

theorem witness_StepsComplete_2 :
    ((tStepOf StepKind.service).kind = (Instr.stepService 0, StepKind.service).2) ∧
    ((tTrack (tStepOf StepKind.service)).mayStart (tStepOf StepKind.service) = true) ∧
    ((tTrack (tStepOf StepKind.service)).ownFirst 0 0 (tStepOf StepKind.service) = true) ∧
    ((tTrack (tStepOf StepKind.service)).map.failover = none) ∧
    (((tStepOf StepKind.service).cells.any fun c => (tTrack (tStepOf StepKind.service)).cellRun c == runOff) = false) ∧
    ((tTrack (tStepOf StepKind.search)).dueStep 0 = some
      ({ next := 0, open_ := [], ended := false, failed := false, served := [], adoptedFrom := none }, tStepOf
      StepKind.search)) ∧
    ((tStepOf StepKind.search).kind = (Instr.stepSearch 0, StepKind.search).2) ∧
    ((tTrack (tStepOf StepKind.search)).mayStart (tStepOf StepKind.search) = true) ∧
    ((tTrack (tStepOf StepKind.search)).ownFirst 0 0 (tStepOf StepKind.search) = true) ∧
    ((tTrack (tStepOf StepKind.search)).map.failover = none) ∧
    (((tStepOf StepKind.search).cells.any fun c => (tTrack (tStepOf StepKind.search)).cellRun c == runOff) = false) ∧
    ((tTrack (tStepOf StepKind.kernel)).trackKernel 0 (tStepOf StepKind.kernel).kernel = some tKernel) ∧
    ((tStepOf StepKind.kernel).cells = [32 * (tStepOf StepKind.kernel).die]) ∧
    ((tStepOf StepKind.kernel).die < 4) ∧
    ((tTrack (tStepOf StepKind.kernel)).mode = Mode.service) ∧
    ((tTrack (tStepOf StepKind.kernel)).cellRun (32 * (tStepOf StepKind.kernel).die) = 1) ∧
    ((tTrack (tStepOf StepKind.done)).dueStep 0 = some
      ({ next := 0, open_ := [], ended := false, failed := false, served := [], adoptedFrom := none }, tStepOf
      StepKind.done)) ∧
    ((tStepOf StepKind.done).kind = StepKind.done) ∧
    ((tStepOf StepKind.kernel).kind ≠ StepKind.done) ∧
    ((List.any (tServe.onSrch fun x => { x with open_ := [(0, none)] }).srch.open_ fun e => e.1 == 0) = true) := by
  decide +kernel

theorem witness_StepsComplete_3 :
    ((List.any tServe.srch.open_ fun e => e.1 == 0) = false) := by
  decide +kernel

theorem witness_HeldCommandsLand_1 :
    (lineOpc tStart = (Instr.startTurn 3 4 tStart, 1, (tAp Aperture.fresh).startCheck 3 tStart).2.1) ∧
    ((tAp Aperture.fresh).apLines 3 ≤ 4) ∧
    (lineOpc tStart = (Instr.startTurn 3 1 tStart, 1, (tAp (tSlots tHeld)).startCheck 3 tStart).2.1) ∧
    (1 < (tAp (tSlots tHeld)).apLines 3) ∧
    (((tAp (tSlots tHeld)).slot 3 1).held = true) ∧
    (lineOpc 2 = (Instr.cancel 3 1 2, 2, otherCheck 2).2.1) ∧
    (1 < ({ (tAp Aperture.fresh) with mode := Mode.crust }).apLines 3) ∧
    ((({ (tAp Aperture.fresh) with mode := Mode.crust }).slot 3 1).held = false) ∧
    (({ (tAp Aperture.fresh) with mode := Mode.crust }).mode = Mode.crust ∧ Code.crust = Code.crust ∧ 0 = 0 ∨
      ({ (tAp Aperture.fresh) with mode := Mode.crust }).mode = Mode.repair ∧ Code.crust = Code.retry ∧ 0 = 1 ∨
      ({ (tAp Aperture.fresh) with mode := Mode.crust }).mode ≠ Mode.crust ∧
      ({ (tAp Aperture.fresh) with mode := Mode.crust }).mode ≠ Mode.repair ∧ Code.crust = Code.malformed ∧
      (Instr.cancel 3 1 2, 2, otherCheck 2).2.2 = some 0) ∧
    (lineOpc 3 = (Instr.drop 3 1 3, 3, otherCheck 3).2.1) ∧
    (1 < ({ (tAp Aperture.fresh) with mode := Mode.repair }).apLines 3) ∧
    ((({ (tAp Aperture.fresh) with mode := Mode.repair }).slot 3 1).held = false) ∧
    (({ (tAp Aperture.fresh) with mode := Mode.repair }).mode = Mode.crust ∧ Code.retry = Code.crust ∧ 1 = 0 ∨
      ({ (tAp Aperture.fresh) with mode := Mode.repair }).mode = Mode.repair ∧ Code.retry = Code.retry ∧ 1 = 1 ∨
      ({ (tAp Aperture.fresh) with mode := Mode.repair }).mode ≠ Mode.crust ∧
      ({ (tAp Aperture.fresh) with mode := Mode.repair }).mode ≠ Mode.repair ∧ Code.retry = Code.malformed ∧ (Instr.drop
      3 1 3, 3, otherCheck 3).2.2 = some 1) ∧
    (lineOpc 4 = (Instr.ring 3 1 4, 4, otherCheck 4).2.1) ∧
    (1 < (tAp Aperture.fresh).apLines 3) ∧
    (((tAp Aperture.fresh).slot 3 1).held = false) ∧
    ((tAp Aperture.fresh).mode = Mode.crust ∧ Code.malformed = Code.crust ∧ 32 = 0 ∨ (tAp Aperture.fresh).mode =
      Mode.repair ∧ Code.malformed = Code.retry ∧ 32 = 1 ∨ (tAp Aperture.fresh).mode ≠ Mode.crust ∧ (tAp
      Aperture.fresh).mode ≠ Mode.repair ∧ Code.malformed = Code.malformed ∧ (Instr.ring 3 1 4, 4, otherCheck 4).2.2 =
      some 32) ∧
    (lineOpc tStart = (Instr.startTurn 3 3 tStart, 1, (tAp Aperture.fresh).startCheck 3 tStart).2.1) ∧
    (3 < (tAp Aperture.fresh).apLines 3) ∧
    (((tAp Aperture.fresh).slot 3 3).held = false) := by
  decide +kernel

theorem witness_HeldCommandsLand_2 :
    ((tAp Aperture.fresh).mode = Mode.service ∨ (tAp Aperture.fresh).mode = Mode.rest) ∧
    ((Instr.startTurn 3 3 tStart, 1, (tAp Aperture.fresh).startCheck 3 tStart).2.2 = none) ∧
    (1 < ({ (tAp Aperture.fresh) with mode := Mode.rest }).apLines 3) ∧
    ((({ (tAp Aperture.fresh) with mode := Mode.rest }).slot 3 1).held = false) ∧
    (({ (tAp Aperture.fresh) with mode := Mode.rest }).mode = Mode.service ∨
      ({ (tAp Aperture.fresh) with mode := Mode.rest }).mode = Mode.rest) ∧
    ((Instr.cancel 3 1 2, 2, otherCheck 2).2.2 = none) ∧
    ((Instr.drop 3 1 3, 3, otherCheck 3).2.2 = none) ∧
    (lineOpc (BitVec.ofNat 512 (4 + 64 * 2 ^ 256)) = (Instr.ring 3 1 (BitVec.ofNat 512 (4 + 64 * 2 ^ 256)), 4,
      otherCheck (BitVec.ofNat 512 (4 + 64 * 2 ^ 256))).2.1) ∧
    ((Instr.ring 3 1 (BitVec.ofNat 512 (4 + 64 * 2 ^ 256)), 4, otherCheck (BitVec.ofNat 512 (4 + 64 * 2 ^ 256))).2.2 =
      none) := by
  decide +kernel

theorem witness_ApertureAccessesComplete_1 :
    ((tAp Aperture.fresh).apLines 3 ≤ 4) ∧
    (0 < (tAp Aperture.fresh).apLines 3) ∧
    (3 < (tAp (tSlots tHeld)).apLines 3) ∧
    (1 < (tAp (tSlots ({ tHeld with discards := 255 }))).apLines 3) ∧
    (0 < (tAp (tSlots ({ tHeld with status := 77 }))).apLines 3) ∧
    ((tAp Aperture.fresh).apLines 3 ≠ 0) ∧
    (((tAp Aperture.fresh).aperture 3).ringEntries < (((tAp Aperture.fresh).aperture 3).produced + 2 ^ 32 - dfield 1 0
      0 32) % 2 ^ 32 ∨ 8 ≤ dfield 1 4 0 8 ∨ (firstNonZero 1 (bytesFrom 5 64)).isSome = true) ∧
    (((tAp Aperture.fresh).aperture 3).ringEntries < (((tAp Aperture.fresh).aperture 3).produced + 2 ^ 32 - dfield
      (BitVec.ofNat 512 (2 ^ 40)) 0 0 32) % 2 ^ 32 ∨ 8 ≤ dfield (BitVec.ofNat 512 (2 ^ 40)) 4 0 8 ∨ (firstNonZero
      (BitVec.ofNat 512 (2 ^ 40)) (bytesFrom 5 64)).isSome = true) ∧
    (((tAp Aperture.fresh).aperture 3).ringEntries < (((tAp Aperture.fresh).aperture 3).produced + 2 ^ 32 - dfield
      (BitVec.ofNat 512 (2 ^ 35)) 0 0 32) % 2 ^ 32 ∨ 8 ≤ dfield (BitVec.ofNat 512 (2 ^ 35)) 4 0 8 ∨ (firstNonZero
      (BitVec.ofNat 512 (2 ^ 35)) (bytesFrom 5 64)).isSome = true) ∧
    (((tAp Aperture.fresh).onSvc fun x => { x with latched := [(2, 0, 8), (7, 0, 24)] }).apLines 3 ≠ 0) ∧
    (¬((((tAp Aperture.fresh).onSvc fun x => { x with latched := [(2, 0, 8), (7, 0, 24)] }).aperture 3).ringEntries <
      ((((tAp Aperture.fresh).onSvc fun x => { x with latched := [(2, 0, 8), (7, 0, 24)] }).aperture 3).produced + 2 ^
      32 - dfield (BitVec.ofNat 512 (7 * 2 ^ 32)) 0 0 32) % 2 ^ 32 ∨ 8 ≤ dfield (BitVec.ofNat 512 (7 * 2 ^ 32)) 4 0 8 ∨
      (firstNonZero (BitVec.ofNat 512 (7 * 2 ^ 32)) (bytesFrom 5 64)).isSome = true)) ∧
    (({ (tServe.onSvc fun x => { x with latched := [(2, 0, 8), (7, 0, 24), (4, 1, 8)] }) with wale := 64 }).apLines 3
      = 0) := by
  decide +kernel

theorem witness_RingAdmissionCompletes_1 :
    (({ tServe with mode := Mode.crust }).mode ≠ Mode.service ∧ ({ tServe with mode := Mode.crust }).mode ≠ Mode.rest
      ∨ devRing tReserve.owner ≠ devRing ({ tServe with mode := Mode.crust }).device) ∧
    (tServe.mode ≠ Mode.service ∧ tServe.mode ≠ Mode.rest ∨ devRing ({ tReserve with owner := 8 }).owner ≠ devRing
      tServe.device) ∧
    ((tServe.setF F.svcModelKv_segFrames 0 1).mode = Mode.service ∨ (tServe.setF F.svcModelKv_segFrames 0 1).mode =
      Mode.rest) ∧
    (devRing tReserve.owner = devRing (tServe.setF F.svcModelKv_segFrames 0 1).device) ∧
    ((tServe.setF F.svcModelKv_segFrames 0 1).kvFails tReserve.tenant tReserve.kvAddr (segments tReserve.bound *
      (tServe.setF F.svcModelKv_segFrames 0 1).segBytes tReserve.model) = some Code.absent) ∧
    (((tMapped [tExtent]).setF F.svcModelKv_segFrames 0 1).mode = Mode.service ∨ ((tMapped [tExtent]).setF
      F.svcModelKv_segFrames 0 1).mode = Mode.rest) ∧
    (devRing tReserve.owner = devRing ((tMapped [tExtent]).setF F.svcModelKv_segFrames 0 1).device) ∧
    (((tMapped [tExtent]).setF F.svcModelKv_segFrames 0 1).kvFails tReserve.tenant tReserve.kvAddr (segments
      tReserve.bound * ((tMapped [tExtent]).setF F.svcModelKv_segFrames 0 1).segBytes tReserve.model) = none) ∧
    (((tMapped [tExtent]).setF F.svcModelKv_segFrames 0 1).reserve tReserve.tenant (((tMapped [tExtent]).setF
      F.svcModelKv_segFrames 0 1).reserveFrames tReserve.model tReserve.cls tReserve.bound).1 (((tMapped [tExtent]).setF
      F.svcModelKv_segFrames 0 1).reserveFrames tReserve.model tReserve.cls tReserve.bound).2 = none) ∧
    (tAdmit.mode = Mode.service ∨ tAdmit.mode = Mode.rest) ∧
    (devRing tReserve.owner = devRing tAdmit.device) ∧
    (tAdmit.kvFails tReserve.tenant tReserve.kvAddr (segments tReserve.bound * tAdmit.segBytes tReserve.model) = none) ∧
    (tAdmit.reserve 3 1 0 = some (some 0, (Option.map (fun x => x.2) (tAdmit.reserve 3 1 0)).getD tServe)) ∧
    (tServe.askedSlot 3 0 = none) ∧
    ((tAp (tSlots ({ tHeld with asked := true }))).askedSlot 3 0 = some 1) ∧
    (BitVec.toNat (tAp (tSlots ({ tHeld with asked := true }))).stime ≤ BitVec.toNat (tAp (tSlots
      ({ tHeld with asked := true }))).sched.start + 20000) ∧
    (Code.done = Code.done) ∧
    (((tAp (tSlots ({ tHeld with asked := true }))).ringPeers.all fun d => ((tAp (tSlots
      ({ tHeld with asked := true }))).slot 3 1).granted.contains d || d == 1) = false) ∧
    (Code.denied = Code.absent ∨ Code.denied = Code.denied ∨ Code.denied = Code.revoked) ∧
    (((tAp (tSlots ({ tHeld with asked := true }))).slot 3 1).resv = none) := by
  decide +kernel

theorem witness_RingAdmissionCompletes_2 :
    (List.find? (fun g => sameAsk g.1 1 3 9) tServe.svc.grants = none) ∧
    (List.find? (fun g => sameAsk g.1 1 3 9) (tServe.onSvc fun x =>
      { x with grants := [(tReserve, none)] }).svc.grants = some (tReserve, none)) ∧
    (∀ g ∈ tServe.svc.grants, sameAsk g.1 1 3 9 = false) ∧
    (∀ c ∈ tServe.svc.shares, c.tenant ≠ 3 ∨ c.requestId ≠ 9) ∧
    ((tServe.onSvc fun x => { x with grants := [(tReserve, none)] }).svc.grants = [(tReserve, none)]) ∧
    (sameAsk tReserve 1 3 9 = true) ∧
    ((tServe.onSvc fun x => { x with grants := [(tReserve, none)] }).svc.shares = []) := by
  decide +kernel

theorem witness_DeadlinesRecordsAndMarks_1 :
    (({ (tServe.onSvc fun x => { x with ctxs := [(0, tCtx)] }) with stime := 2000 }).svc.apertures = []) ∧
    (({ (tServe.onSvc fun x => { x with ctxs := [(0, tCtx)] }) with stime := 2000 }).svc.ctxs = [(0, tCtx)]) ∧
    (tCtx.tenant = 3) ∧
    (tCtx.requestId = 9) ∧
    (tCtx.state = CtxState.prefill ∨ tCtx.state = CtxState.decode ∨ tCtx.state = CtxState.stalled ∨ tCtx.state =
      CtxState.resuming) ∧
    (windowOver tCtx.stamp ({ (tServe.onSvc fun x => { x with ctxs := [(0, tCtx)] }) with stime := 2000 }).stime
      tCtx.deadlineUs = true) ∧
    ((tServe.onSvc fun x => { x with ctxs := [(0, tCtx)] }).svc.apertures = []) ∧
    ((tServe.onSvc fun x => { x with ctxs := [(0, tCtx)] }).svc.ctxs = [(0, tCtx)]) ∧
    (windowOver tCtx.stamp (tServe.onSvc fun x => { x with ctxs := [(0, tCtx)] }).stime tCtx.deadlineUs = false) ∧
    (({ (tAp (tSlots ({ tHeld with line := BitVec.ofNat 512 (BitVec.toNat tStart + 2 ^ 416) }))) with stime := 2000, svc := { SvcS.fresh with apertures := [(3, tSlots ({ tHeld with line := BitVec.ofNat 512 (BitVec.toNat tStart + 2 ^ 416) }))] } }).svc.ctxs
      = []) ∧
    (({ (tAp (tSlots ({ tHeld with line := BitVec.ofNat 512 (BitVec.toNat tStart + 2 ^ 416) }))) with stime := 2000, svc := { SvcS.fresh with apertures := [(3, tSlots ({ tHeld with line := BitVec.ofNat 512 (BitVec.toNat tStart + 2 ^ 416) }))] } }).svc.apertures
      = [(3, have __src := Aperture.fresh;
      { __src with slots := [(1, { tHeld with line := BitVec.ofNat 512 (BitVec.toNat tStart + 2 ^ 416) })] })]) ∧
    (({ tHeld with line := BitVec.ofNat 512 (BitVec.toNat tStart + 2 ^ 416) }).held = true) ∧
    (lineOpc ({ tHeld with line := BitVec.ofNat 512 (BitVec.toNat tStart + 2 ^ 416) }).line = 1) ∧
    (({ tHeld with line := BitVec.ofNat 512 (BitVec.toNat tStart + 2 ^ 416) }).requestId = 0) ∧
    (({ tHeld with line := BitVec.ofNat 512 (BitVec.toNat tStart + 2 ^ 416) }).asked = false) ∧
    (({ tHeld with line := BitVec.ofNat 512 (BitVec.toNat tStart + 2 ^ 416) }).resv = none) ∧
    (windowOver ({ tHeld with line := BitVec.ofNat 512 (BitVec.toNat tStart + 2 ^ 416) }).stamp
      ({ (tAp (tSlots ({ tHeld with line := BitVec.ofNat 512 (BitVec.toNat tStart + 2 ^ 416) }))) with stime := 2000, svc := { SvcS.fresh with apertures := [(3, tSlots ({ tHeld with line := BitVec.ofNat 512 (BitVec.toNat tStart + 2 ^ 416) }))] } }).stime
      (dfield ({ tHeld with line := BitVec.ofNat 512 (BitVec.toNat tStart + 2 ^ 416) }).line 52 0 32) = true) ∧
    (List.find? (fun e => e.1 == 0) ((tAp Aperture.fresh).onSvc fun x =>
      { x with ctxs := [(0, tCtx)], records := [tRecord] }).svc.ctxs = some (0, tCtx)) ∧
    (List.find? (fun x => x.ring == tCtx.ring) ((tAp Aperture.fresh).onSvc fun x =>
      { x with ctxs := [(0, tCtx)], records := [tRecord] }).svc.records = some tRecord) ∧
    (tRecord.ctx = 0) := by
  decide +kernel

theorem witness_DeadlinesRecordsAndMarks_2 :
    (((tAp Aperture.fresh).onSvc fun x => { x with ctxs := [(0, tCtx)], records := [tRecord] }).mode ≠
      Mode.quarantine) ∧
    (true = true) ∧
    (List.find? (fun e => e.1 == 0) (((tAp Aperture.fresh).onSvc fun x =>
      { x with ctxs := [(0, tCtx)], records := [tRecord] }).onMap fun x => { x with unacked := [some (3, 1)] }).svc.ctxs
      = some (0, tCtx)) ∧
    (List.find? (fun x => x.ring == tCtx.ring) (((tAp Aperture.fresh).onSvc fun x =>
      { x with ctxs := [(0, tCtx)], records := [tRecord] }).onMap fun x =>
      { x with unacked := [some (3, 1)] }).svc.records = some tRecord) ∧
    ((((tAp Aperture.fresh).onSvc fun x => { x with ctxs := [(0, tCtx)], records := [tRecord] }).onMap fun x =>
      { x with unacked := [some (3, 1)] }).mode ≠ Mode.quarantine) ∧
    (false = false) ∧
    ((((tAp Aperture.fresh).onSvc fun x => { x with ctxs := [(0, tCtx)], records := [tRecord] }).onMap fun x =>
      { x with unacked := [some (3, 1)] }).map.unacked.contains (some (tCtx.tenant, tRecord.seq)) = true) ∧
    (List.find? (fun e => e.1 == 0) ((tAp Aperture.fresh).onSvc fun x =>
      { x with ctxs := [(0, tCtx)], records := [{ tRecord with seq := 2 }] }).svc.ctxs = some (0, tCtx)) ∧
    (List.find? (fun x => x.ring == tCtx.ring) ((tAp Aperture.fresh).onSvc fun x =>
      { x with ctxs := [(0, tCtx)], records := [{ tRecord with seq := 2 }] }).svc.records = some
      ({ tRecord with seq := 2 })) ∧
    (({ tRecord with seq := 2 }).ctx = 0) ∧
    (((tAp Aperture.fresh).onSvc fun x => { x with ctxs := [(0, tCtx)], records := [{ tRecord with seq := 2 }] }).mode
      ≠ Mode.quarantine) ∧
    (((tAp Aperture.fresh).onSvc fun x =>
      { x with ctxs := [(0, tCtx)], records := [{ tRecord with seq := 2 }] }).map.unacked.contains (some (tCtx.tenant,
      ({ tRecord with seq := 2 }).seq)) = false) ∧
    (((tAp Aperture.fresh).onSvc fun x =>
      { x with ctxs := [(0, tCtx)], records := [{ tRecord with seq := 2 }] }).ringWrite tCtx.ring tCtx.tenant
      ({ tRecord with seq := 2 }).seq ({ tRecord with seq := 2 }).line = none) ∧
    (((tAp Aperture.fresh).onSvc fun x => { x with ctxs := [(0, tCtx)], records := [tRecord] }).map.unacked.contains
      (some (tCtx.tenant, tRecord.seq)) = false) ∧
    (tRecord.isEnd = false) ∧
    (((tAp Aperture.fresh).onSvc fun x => { x with ctxs := [(0, tCtx)], records := [tRecord] }).ringWrite 3 3 1 77 =
      some ((((tAp Aperture.fresh).onSvc fun x => { x with ctxs := [(0, tCtx)], records := [tRecord] }).ringWrite 3 3 1
      77).getD tServe)) ∧
    ((tAp Aperture.fresh).ringWrite 3 3 1 77 = some (((tAp Aperture.fresh).ringWrite 3 3 1 77).getD tServe)) ∧
    (regAt (F.svcModelCmd_op.off 0) = some (tReg (F.svcModelCmd_op.off 0))) ∧
    (tServe.getF F.svcModelCmd_busy ≠ 1) ∧
    ((tServe.cmdWritten (tReg (F.svcModelCmd_op.off 0)) F.svcModelCmd_op 0 (putBits 5 6 2 1)).getF F.svcModel_degraded
      (fieldOf 5 0 6) = 0) := by
  decide +kernel

theorem witness_DeadlinesRecordsAndMarks_3 :
    ((tServe.setF F.svcModel_degraded 5 1).getF F.svcModelCmd_busy ≠ 1) ∧
    (((tServe.setF F.svcModel_degraded 5 1).cmdWritten (tReg (F.svcModelCmd_op.off 0)) F.svcModelCmd_op 0 (putBits 5 6
      2 1)).getF F.svcModel_degraded (fieldOf 5 0 6) ≠ 0) ∧
    (((tServe.setF F.svcModel_degraded 5 1).cmdWritten (tReg (F.svcModelCmd_op.off 0)) F.svcModelCmd_op 0 (putBits 5 6
      2 1)).modelQuarantined (fieldOf 5 0 6) = false) := by
  decide +kernel

theorem witness_DeadlinesRecordsAndMarks_4 :
    ((tReg (F.svcModelCmd_op.off 0)).clean (putBits 5 6 2 1)) := by
  unfold RegDesc.clean; decide +kernel

theorem witness_QueriesAndParts_1 :
    (1 < (tAp Aperture.fresh).apLines 3) ∧
    (((tAp Aperture.fresh).slot 3 1).held = false) ∧
    ((tAp Aperture.fresh).mode = Mode.service) ∧
    (lineOpc 16 = 16) ∧
    ((tAp Aperture.fresh).queryCheck 3 16 = some 4) ∧
    (lineOpc tQuery = 16) ∧
    ((tAp Aperture.fresh).queryCheck 3 tQuery = none) ∧
    ((tAp Aperture.fresh).queryBind 3 1 tQuery false = (some (Code.absent, 16), tAp Aperture.fresh)) ∧
    (1 < (tSrch fun x => { x with corpora := [(0, { tCorpus with tenant := 4 })] }).apLines 3) ∧
    (((tSrch fun x => { x with corpora := [(0, { tCorpus with tenant := 4 })] }).slot 3 1).held = false) ∧
    ((tSrch fun x => { x with corpora := [(0, { tCorpus with tenant := 4 })] }).mode = Mode.service) ∧
    ((tSrch fun x => { x with corpora := [(0, { tCorpus with tenant := 4 })] }).queryCheck 3 tQuery = none) ∧
    ((tSrch fun x => { x with corpora := [(0, { tCorpus with tenant := 4 })] }).queryBind 3 1 tQuery false = (some
      (Code.denied, 16), tSrch fun x => { x with corpora := [(0, { tCorpus with tenant := 4 })] })) ∧
    (1 < (tSrch id).apLines 3) ∧
    (((tSrch id).slot 3 1).held = false) ∧
    ((tSrch id).mode = Mode.service) ∧
    ((tSrch id).queryCheck 3 tQuery = none) ∧
    ((tSrch id).queryBind 3 1 tQuery false = (none, ((tSrch id).queryBind 3 1 tQuery false).2)) ∧
    (1 < (tHome (tHomeQ HomeState.waiting ShardStand.sent)).apLines 3) ∧
    (((tHome (tHomeQ HomeState.waiting ShardStand.sent)).slot 3 1).held = false) := by
  decide +kernel

theorem witness_QueriesAndParts_2 :
    ((tHome (tHomeQ HomeState.waiting ShardStand.sent)).mode = Mode.service) ∧
    (lineOpc (BitVec.ofNat 512 (17 + 5 * 2 ^ 64)) = 17) ∧
    (qcancelCheck (BitVec.ofNat 512 (17 + 5 * 2 ^ 64)) = none) ∧
    (List.find? (fun e => e.2.tenant == 3 && e.2.queryId == lineReq (BitVec.ofNat 512 (17 + 5 * 2 ^ 64)) && e.2.state
      != HomeState.merge) (tHome (tHomeQ HomeState.waiting ShardStand.sent)).srch.homes = some (0, tHomeQ
      HomeState.waiting ShardStand.sent)) ∧
    (1 < (tHome (tHomeQ HomeState.merge ShardStand.sent)).apLines 3) ∧
    (((tHome (tHomeQ HomeState.merge ShardStand.sent)).slot 3 1).held = false) ∧
    ((tHome (tHomeQ HomeState.merge ShardStand.sent)).mode = Mode.service) ∧
    (List.find? (fun e => e.2.tenant == 3 && e.2.queryId == lineReq (BitVec.ofNat 512 (17 + 5 * 2 ^ 64)) && e.2.state
      != HomeState.merge) (tHome (tHomeQ HomeState.merge ShardStand.sent)).srch.homes = none) ∧
    (({ (tHome (tHomeQ HomeState.waiting ShardStand.sent)) with stime := 2000 }).homeQ 0 = some (tHomeQ
      HomeState.waiting ShardStand.sent)) ∧
    (windowOver (tHomeQ HomeState.waiting ShardStand.sent).stamp
      ({ (tHome (tHomeQ HomeState.waiting ShardStand.sent)) with stime := 2000 }).stime (tHomeQ HomeState.waiting
      ShardStand.sent).deadlineUs = true) ∧
    ((tHome (tHomeQ HomeState.waiting ShardStand.sent)).homeQ 0 = some (tHomeQ HomeState.waiting ShardStand.sent)) ∧
    (windowOver (tHomeQ HomeState.waiting ShardStand.sent).stamp (tHome (tHomeQ HomeState.waiting
      ShardStand.sent)).stime (tHomeQ HomeState.waiting ShardStand.sent).deadlineUs = false) ∧
    ((tHomeQ HomeState.waiting ShardStand.sent).state ≠ HomeState.merge ∨ (tHome (tHomeQ HomeState.waiting
      ShardStand.sent)).queryPending 0 = true ∨ (tHome (tHomeQ HomeState.waiting ShardStand.sent)).mode =
      Mode.quarantine) ∧
    ((tHome (tHomeQ HomeState.merge ShardStand.settled)).homeQ 0 = some (tHomeQ HomeState.merge ShardStand.settled)) ∧
    ((tHomeQ HomeState.merge ShardStand.settled).state = HomeState.merge) ∧
    ((tHome (tHomeQ HomeState.merge ShardStand.settled)).queryPending 0 = false) ∧
    ((tHome (tHomeQ HomeState.merge ShardStand.settled)).svc.records = []) ∧
    ((tHome (tHomeQ HomeState.merge ShardStand.settled)).mode ≠ Mode.quarantine) ∧
    ((tHome (tHomeQ HomeState.merge ShardStand.settled)).ringWrite 3 3 1 ((tHome (tHomeQ HomeState.merge
      ShardStand.settled)).queryRecord 0 (tHomeQ HomeState.merge ShardStand.settled) 1) = some (((tHome (tHomeQ
      HomeState.merge ShardStand.settled)).ringWrite 3 3 1 ((tHome (tHomeQ HomeState.merge
      ShardStand.settled)).queryRecord 0 (tHomeQ HomeState.merge ShardStand.settled) 1)).getD tServe)) ∧
    ((((tHome (tHomeQ HomeState.merge ShardStand.settled)).ringWrite 3 3 1 ((tHome (tHomeQ HomeState.merge
      ShardStand.settled)).queryRecord 0 (tHomeQ HomeState.merge ShardStand.settled) 1)).getD tServe).srch.pending = []) := by
  decide +kernel

theorem witness_QueriesAndParts_3 :
    (tServe.homeQ 0 = none) ∧
    (tServe.shardIndex tParts 2 = none) ∧
    (tServe.corpus tParts.corpus = none) ∧
    (((tSrch id).onFab fun f =>
      { f with groups := [(0, { source := 0, outputs := [], member := true, members := [0] })] }).corpus tParts.corpus =
      some tCorpus) ∧
    (((tSrch id).onFab fun f =>
      { f with groups := [(0, { source := 0, outputs := [], member := true, members := [0] })] }).group tCorpus.group =
      some { source := 0, outputs := [], member := true, members := [0] }) ∧
    (List.find? (fun e => e.1 == 0) (tHomeQ HomeState.waiting ShardStand.sent).shards = some (0, tNote
      ShardStand.sent)) ∧
    ((tHomeQ HomeState.waiting ShardStand.sent).state = HomeState.waiting) ∧
    ((tNote ShardStand.sent).stand = ShardStand.sent) ∧
    ((tHome (tHomeQ HomeState.waiting ShardStand.retry)).homeQ 0 = some (tHomeQ HomeState.waiting ShardStand.retry)) ∧
    (List.find? (fun e => e.1 == 0) (tHomeQ HomeState.waiting ShardStand.retry).shards = some (0, tNote
      ShardStand.retry)) ∧
    ((tHomeQ HomeState.waiting ShardStand.retry).state = HomeState.waiting) ∧
    ((tNote ShardStand.retry).stand = ShardStand.retry) ∧
    ((tHome (tHomeQ HomeState.waiting ShardStand.settled)).homeQ 0 = some (tHomeQ HomeState.waiting
      ShardStand.settled)) ∧
    (List.find? (fun e => e.1 == 0) (tHomeQ HomeState.waiting ShardStand.settled).shards = some (0, tNote
      ShardStand.settled)) ∧
    ((tHomeQ HomeState.waiting ShardStand.settled).state = HomeState.waiting) ∧
    ((tNote ShardStand.settled).stand = ShardStand.settled) ∧
    ((tHome (tHomeQ HomeState.waiting ShardStand.acked)).homeQ 0 = some (tHomeQ HomeState.waiting ShardStand.acked)) ∧
    (List.find? (fun e => e.1 == 0) (tHomeQ HomeState.waiting ShardStand.acked).shards = some (0, tNote
      ShardStand.acked)) ∧
    ((tHomeQ HomeState.waiting ShardStand.acked).state = HomeState.waiting) ∧
    ((tNote ShardStand.acked).stand ≠ ShardStand.settled) := by
  decide +kernel

theorem witness_QueriesAndParts_4 :
    (tServe.part 0 = none) ∧
    ((tHasPart (tPart PartState.answer PartState.scan)).part 0 = some (tPart PartState.answer PartState.scan)) ∧
    ((tPart PartState.answer PartState.scan).state = PartState.answer) ∧
    ((tHasPart (tPart PartState.scan PartState.scan)).part 0 = some (tPart PartState.scan PartState.scan)) ∧
    ((tPart PartState.scan PartState.scan).state ≠ PartState.answer) ∧
    ((tPart PartState.scan PartState.scan).state ≠ PartState.memwait) ∧
    ((tHasPart (tPart PartState.memwait PartState.rerank)).part 0 = some (tPart PartState.memwait PartState.rerank)) ∧
    ((tPart PartState.memwait PartState.rerank).state = PartState.memwait) ∧
    ((tPart PartState.memwait PartState.rerank).left = PartState.rerank) ∧
    ((tHasPart (tPart PartState.rerank PartState.rerank)).part 0 = some (tPart PartState.rerank PartState.rerank)) ∧
    ((tPart PartState.rerank PartState.rerank).state = PartState.rerank) ∧
    ((tPart PartState.rerank PartState.rerank).cands = []) ∧
    ((tHasPart (tPart PartState.scan PartState.rerank)).part 0 = some (tPart PartState.scan PartState.rerank)) ∧
    ((tPart PartState.scan PartState.rerank).state ≠ PartState.rerank) ∧
    ((tHasPart (tPart PartState.rerank PartState.rerank)).srch.pending = []) ∧
    ((tNote ShardStand.sent).stand ≠ ShardStand.settled) := by
  decide +kernel

theorem witness_LinksTrain_1 :
    (tServe.code.hasPort 24 = false) ∧
    (((tLink 0 Port.fresh).setF F.lnkCtl_enable 0 1).code.hasPort 0 = true) ∧
    (((tLink 0 Port.fresh).setF F.lnkCtl_enable 0 1).linkState 0 = 0) ∧
    (((tLink 0 Port.fresh).setF F.lnkCtl_enable 0 1).getF F.lnkCtl_enable = 1) ∧
    (((tLink 0 Port.fresh).setF F.lnkCtl_enable 0 1).linkState 0 ≠ 0 ∨ ((tLink 0 Port.fresh).setF F.lnkCtl_enable 0
      1).getF F.lnkCtl_enable ≠ 1 ∨ 3 < 4) ∧
    (((tLink 3 Port.fresh).setF F.lnkCtl_enable 0 1).code.hasPort 0 = true) ∧
    (((tLink 3 Port.fresh).setF F.lnkCtl_enable 0 1).linkState 0 ≠ 0 ∨ ((tLink 3 Port.fresh).setF F.lnkCtl_enable 0
      1).getF F.lnkCtl_enable ≠ 1 ∨ 8 < 4) ∧
    (tServe.linkState 23 ≠ 0 ∨ tServe.getF F.lnkCtl_enable 23 ≠ 1 ∨ 8 < 4) ∧
    ((tLink 3 Port.fresh).code.hasPort 0 = true) ∧
    ((tLink 3 Port.fresh).linkState 0 ≠ 1) ∧
    ((tLink 1 Port.fresh).code.hasPort 0 = true) ∧
    ((tLink 1 Port.fresh).linkState 0 = 1) ∧
    ((tLink 1 ({ Port.fresh with trainStep := 1 })).code.hasPort 0 = true) ∧
    ((tLink 1 ({ Port.fresh with trainStep := 1 })).linkState 0 = 1) ∧
    (((tLink 1 ({ Port.fresh with trainStep := 1 })).port 0).trainStep < 2) ∧
    ((tLink 1 ({ Port.fresh with trainStep := 2 })).code.hasPort 0 = true) ∧
    ((tLink 1 ({ Port.fresh with trainStep := 2 })).linkState 0 = 1) ∧
    (((tLink 1 ({ Port.fresh with trainStep := 2 })).port 0).trainStep = 2) ∧
    (trainedWidth 7 ((tLink 1 ({ Port.fresh with trainStep := 2 })).getF F.lnkCtl_minWidth == 1) = none) ∧
    (trainedWidth 15 ((tLink 1 ({ Port.fresh with trainStep := 2 })).getF F.lnkCtl_minWidth == 1) = some 4) := by
  decide +kernel

theorem witness_LinksTrain_2 :
    (trainedWidth 255 ((tLink 1 ({ Port.fresh with trainStep := 2 })).getF F.lnkCtl_minWidth == 1) = some 8) ∧
    ((tLink 1 ({ Port.fresh with trainStep := 3 })).code.hasPort 0 = true) ∧
    ((tLink 1 ({ Port.fresh with trainStep := 3 })).linkState 0 = 1) ∧
    (((tLink 1 ({ Port.fresh with trainStep := 3 })).port 0).trainStep = 3) ∧
    (((tLink 1 ({ Port.fresh with trainStep := 3 })).port 0).fromActive = false) ∧
    ((tLink 1 ({ Port.fresh with trainStep := 3, fromActive := true })).code.hasPort 0 = true) ∧
    ((tLink 1 ({ Port.fresh with trainStep := 3, fromActive := true })).linkState 0 = 1) ∧
    (((tLink 1 ({ Port.fresh with trainStep := 3, fromActive := true })).port 0).trainStep = 3) ∧
    (((tLink 1 ({ Port.fresh with trainStep := 3, fromActive := true })).port 0).fromActive = true) ∧
    (true = true) ∧
    (((tLink 1 ({ Port.fresh with trainStep := 3, fromActive := true })).port 0).outq = []) ∧
    (((tLink 3 Port.fresh).setF F.lnkCtl_keepaliveOk 0 1).code.hasPort 0 = true) ∧
    ((tLink 4 Port.fresh).code.hasPort 0 = true) ∧
    ((tLink 3 ({ Port.fresh with txFlits := 5 })).code.hasPort 0 = true) ∧
    ((tLink 3 Port.fresh).linkState 0 ≠ 4) ∧
    ((tLink 4 Port.fresh).linkState 0 = 4) ∧
    (((tLink 4 Port.fresh).port 0).outq = []) ∧
    ((tLink 6 Port.fresh).code.hasPort 0 = true) ∧
    ((tLink 6 Port.fresh).linkState 0 = 6) ∧
    ((tLink 3 Port.fresh).linkState 0 ≠ 6) := by
  decide +kernel

theorem witness_LinksTrain_3 :
    (((tLink 3 Port.fresh).port 0).outq = []) ∧
    (((tLink 3 Port.fresh).port 0).slices = []) ∧
    (regAt (F.lnkCtl_enable.off 0) = some (tReg (F.lnkCtl_enable.off 0))) ∧
    (fieldOf 0 3 2 = 0) ∧
    (fieldOf 0 0 1 = 0) ∧
    (fieldOf 1 3 2 = 0) ∧
    (fieldOf 1 0 1 = 1) ∧
    ((tLink 2 Port.fresh).code.hasPort 0 = true) ∧
    ((tLink 2 Port.fresh).linkState 0 ≠ 6) ∧
    (((tLink 3 Port.fresh).setF F.lnkCtl_enable 0 1).linkState 0 = 3 ∨ ((tLink 3 Port.fresh).setF F.lnkCtl_enable 0
      1).linkState 0 = 4) ∧
    (((tLink 3 Port.fresh).setF F.lnkCtl_enable 0 1).getF F.lnkCtl_enable = 1) ∧
    (((tLink 4 Port.fresh).setF F.lnkCtl_enable 0 1).code.hasPort 0 = true) ∧
    (((tLink 4 Port.fresh).setF F.lnkCtl_enable 0 1).linkState 0 = 3 ∨ ((tLink 4 Port.fresh).setF F.lnkCtl_enable 0
      1).linkState 0 = 4) ∧
    (((tLink 4 Port.fresh).setF F.lnkCtl_enable 0 1).getF F.lnkCtl_enable = 1) ∧
    (((tLink 4 Port.fresh).setF F.lnkCtl_enable 0 1).getF F.lnkState_keyEpoch < 32767) ∧
    ((((tLink 4 Port.fresh).setF F.lnkCtl_enable 0 1).setF F.lnkState_keyEpoch 0 32766).code.hasPort 0 = true) ∧
    ((((tLink 4 Port.fresh).setF F.lnkCtl_enable 0 1).setF F.lnkState_keyEpoch 0 32766).linkState 0 = 3 ∨ (((tLink 4
      Port.fresh).setF F.lnkCtl_enable 0 1).setF F.lnkState_keyEpoch 0 32766).linkState 0 = 4) ∧
    ((((tLink 4 Port.fresh).setF F.lnkCtl_enable 0 1).setF F.lnkState_keyEpoch 0 32766).getF F.lnkCtl_enable = 1) ∧
    ((((tLink 4 Port.fresh).setF F.lnkCtl_enable 0 1).setF F.lnkState_keyEpoch 0 32766).getF F.lnkState_keyEpoch <
      32767) ∧
    ((tLink 4 Port.fresh).linkState 0 = 3 ∨ (tLink 4 Port.fresh).linkState 0 = 4) := by
  decide +kernel

theorem witness_LinksTrain_4 :
    ((tLink 4 Port.fresh).getF F.lnkState_keyEpoch < 32767) ∧
    ((tLink 2 Port.fresh).linkState 0 ≠ 3) ∧
    ((tLink 2 Port.fresh).linkState 0 ≠ 4) := by
  decide +kernel

theorem witness_LinksTrain_5 :
    ((tReg (F.lnkCtl_enable.off 0)).clean 0) ∧
    ((tReg (F.lnkCtl_enable.off 0)).clean 1) := by
  refine ⟨?_, ?_⟩ <;> (unfold RegDesc.clean; decide +kernel)

theorem witness_FlitsAndHandshake_1 :
    (tServe.code.hasPort 24 = false) ∧
    ((tLink 2 Port.fresh).code.hasPort 0 = true) ∧
    ((tLink 2 Port.fresh).linkState 0 = 2 ∨ (tLink 2 Port.fresh).linkState 0 = 5) ∧
    ((tLink 5 Port.fresh).code.hasPort 0 = true) ∧
    ((tLink 5 Port.fresh).linkState 0 = 2 ∨ (tLink 5 Port.fresh).linkState 0 = 5) ∧
    ((tLink 0 Port.fresh).code.hasPort 0 = true) ∧
    ((tLink 0 Port.fresh).portLive 0 = false) ∧
    ((tLink 0 Port.fresh).linkState 0 ≠ 2) ∧
    ((tLink 0 Port.fresh).linkState 0 ≠ 5) ∧
    ((tLink 3 Port.fresh).code.hasPort 0 = true) ∧
    ((tLink 3 Port.fresh).portLive 0 = true) ∧
    (FlitCheck.crc = FlitCheck.crc) ∧
    ((tLink 4 Port.fresh).code.hasPort 0 = true) ∧
    ((tLink 4 Port.fresh).portLive 0 = true) ∧
    (FlitCheck.tag = FlitCheck.tag) ∧
    ((tLink 3
      ({ Port.fresh with replay := [{ seq := 5, flits := 2, packet := none }, { seq := 7, flits := 1, packet := none }] })).code.hasPort
      0 = true) ∧
    ((tLink 3
      ({ Port.fresh with replay := [{ seq := 5, flits := 2, packet := none }, { seq := 7, flits := 1, packet := none }] })).portLive
      0 = true) ∧
    (FlitCheck.ok 0 = FlitCheck.ok 0) ∧
    ((tLink 3
      ({ Port.fresh with replay := [{ seq := 5, flits := 2, packet := none }, { seq := 7, flits := 1, packet := none }] })).linkState
      0 = 3) ∧
    (((tLink 3
      ({ Port.fresh with replay := [{ seq := 5, flits := 2, packet := none }, { seq := 7, flits := 1, packet := none }] })).port
      0).outq = []) := by
  decide +kernel

theorem witness_FlitsAndHandshake_2 :
    ((tLink 3
      ({ Port.fresh with replay := [{ seq := 5, flits := 2, packet := none }, { seq := 7, flits := 1, packet := none }] })).pwr.asleep
      = []) ∧
    ((tLink 3 ({ Port.fresh with rxSeq := 65535, naks := 2 })).code.hasPort 0 = true) ∧
    ((tLink 3 ({ Port.fresh with rxSeq := 65535, naks := 2 })).portLive 0 = true) ∧
    (({ (tPacket PacketKind.load) with stomp := true }).stomp = true ∨
      ({ (tPacket PacketKind.load) with stomp := true }).stomp = false ∧
      ({ (tPacket PacketKind.load) with stomp := true }).badForm = true) ∧
    (({ (tPacket PacketKind.load) with lines := 17 }).stomp = true ∨
      ({ (tPacket PacketKind.load) with lines := 17 }).stomp = false ∧
      ({ (tPacket PacketKind.load) with lines := 17 }).badForm = true) ∧
    ((tLink 2 ({ Port.fresh with authTimes := List.replicate 16 0 })).code.hasPort 0 = true) ∧
    (16 ≤ (List.filter (fun t => decide (BitVec.toNat (tLink 2
      ({ Port.fresh with authTimes := List.replicate 16 0 })).stime < t.toNat + 1000000000)) ((tLink 2
      ({ Port.fresh with authTimes := List.replicate 16 0 })).port 0).authTimes).length) ∧
    (Instr.proof 0 true 8 ∈ [Instr.hello 0 7, Instr.cert 0 tCert, Instr.proof 0 true 8, Instr.authDone 0 true,
      Instr.authFail 0, Instr.rekey 0 0]) ∧
    ((List.filter (fun t => decide (BitVec.toNat (tLink 2 Port.fresh).stime < t.toNat + 1000000000)) ((tLink 2
      Port.fresh).port 0).authTimes).length < 16) ∧
    ((tLink 2 Port.fresh).linkState 0 = 2) ∧
    (((tLink 2 Port.fresh).port 0).hs.sentHello = false) ∧
    (Instr.hello 0 7 ∈ [Instr.hello 0 7, Instr.cert 0 tCert, Instr.proof 0 true 8, Instr.authDone 0 true,
      Instr.authFail 0, Instr.rekey 0 0]) ∧
    ((List.filter (fun t => decide (BitVec.toNat (tLink 3 Port.fresh).stime < t.toNat + 1000000000)) ((tLink 3
      Port.fresh).port 0).authTimes).length < 16) ∧
    ((tLink 3 Port.fresh).linkState 0 = 3 ∨ (tLink 3 Port.fresh).linkState 0 = 4) ∧
    ((tShake Handshake.fresh).code.hasPort 0 = true) ∧
    ((List.filter (fun t => decide (BitVec.toNat (tShake Handshake.fresh).stime < t.toNat + 1000000000)) ((tShake
      Handshake.fresh).port 0).authTimes).length < 16) ∧
    ((tShake Handshake.fresh).linkState 0 = 2) ∧
    (((tShake Handshake.fresh).port 0).hs.sentHello = true) ∧
    (((tShake Handshake.fresh).port 0).hs.nonce = none) ∧
    ((tShake ({ Handshake.fresh with nonce := some 1 })).code.hasPort 0 = true) := by
  decide +kernel

theorem witness_FlitsAndHandshake_3 :
    ((List.filter (fun t => decide (BitVec.toNat (tShake ({ Handshake.fresh with nonce := some 1 })).stime < t.toNat +
      1000000000)) ((tShake ({ Handshake.fresh with nonce := some 1 })).port 0).authTimes).length < 16) ∧
    ((tShake ({ Handshake.fresh with nonce := some 1 })).linkState 0 = 2) ∧
    (((tShake ({ Handshake.fresh with nonce := some 1 })).port 0).hs.sentHello = true) ∧
    (((tShake ({ Handshake.fresh with nonce := some 1 })).port 0).hs.nonce ≠ none) ∧
    (tCert.chainOk = true) ∧
    (tCert.revoked = false) ∧
    (((tShake ({ Handshake.fresh with nonce := some 1 })).port 0).hs.nonce = none ∨
      ({ tCert with revoked := true }).chainOk = false ∨ ({ tCert with revoked := true }).revoked = true) ∧
    ((tShake ({ Handshake.fresh with nonce := some 1, cert := some tCert })).code.hasPort 0 = true) ∧
    ((List.filter (fun t => decide (BitVec.toNat (tShake
      ({ Handshake.fresh with nonce := some 1, cert := some tCert })).stime < t.toNat + 1000000000)) ((tShake
      ({ Handshake.fresh with nonce := some 1, cert := some tCert })).port 0).authTimes).length < 16) ∧
    ((tShake ({ Handshake.fresh with nonce := some 1, cert := some tCert })).linkState 0 = 2) ∧
    (((tShake ({ Handshake.fresh with nonce := some 1, cert := some tCert })).port 0).hs.sentHello = true) ∧
    (((tShake ({ Handshake.fresh with nonce := some 1, cert := some tCert })).port 0).hs.cert = some tCert) ∧
    (true = true) ∧
    (((tShake ({ Handshake.fresh with nonce := some 1, cert := some tCert })).port 0).namesPartner tCert = true) ∧
    (((tShake ({ Handshake.fresh with nonce := some 1, cert := some tCert })).port 0).hs.doneIn = false) ∧
    ((tShake ({ Handshake.fresh with nonce := some 1, cert := some ({ tCert with device := 2 }) })).code.hasPort 0 =
      true) ∧
    ((List.filter (fun t => decide (BitVec.toNat (tShake
      ({ Handshake.fresh with nonce := some 1, cert := some ({ tCert with device := 2 }) })).stime < t.toNat +
      1000000000)) ((tShake ({ Handshake.fresh with nonce := some 1, cert := some ({ tCert with device := 2 }) })).port
      0).authTimes).length < 16) ∧
    ((tShake ({ Handshake.fresh with nonce := some 1, cert := some ({ tCert with device := 2 }) })).linkState 0 = 2) ∧
    (((tShake ({ Handshake.fresh with nonce := some 1, cert := some ({ tCert with device := 2 }) })).port
      0).hs.sentHello = true) ∧
    ((tShake ({ Handshake.fresh with nonce := some 1, cert := some tCert, share := some 4 })).code.hasPort 0 = true) := by
  decide +kernel

theorem witness_FlitsAndHandshake_4 :
    ((List.filter (fun t => decide (BitVec.toNat (tShake
      ({ Handshake.fresh with nonce := some 1, cert := some tCert, share := some 4 })).stime < t.toNat + 1000000000))
      ((tShake ({ Handshake.fresh with nonce := some 1, cert := some tCert, share := some 4 })).port
      0).authTimes).length < 16) ∧
    ((tShake ({ Handshake.fresh with nonce := some 1, cert := some tCert, share := some 4 })).linkState 0 = 2) ∧
    (((tShake ({ Handshake.fresh with nonce := some 1, cert := some tCert, share := some 4 })).port 0).hs.sentHello =
      true) ∧
    (((tShake ({ Handshake.fresh with nonce := some 1, cert := some tCert, share := some 4 })).port 0).hs.share ≠
      none) ∧
    (((tShake ({ Handshake.fresh with nonce := some 1, cert := some tCert, share := some 4 })).port 0).hs.doneOut =
      false) ∧
    ((tShake
      ({ Handshake.fresh with nonce := some 1, cert := some tCert, share := some 4, doneOut := true })).code.hasPort 0 =
      true) ∧
    ((List.filter (fun t => decide (BitVec.toNat (tShake
      ({ Handshake.fresh with nonce := some 1, cert := some tCert, share := some 4, doneOut := true })).stime < t.toNat
      + 1000000000)) ((tShake
      ({ Handshake.fresh with nonce := some 1, cert := some tCert, share := some 4, doneOut := true })).port
      0).authTimes).length < 16) ∧
    ((tShake
      ({ Handshake.fresh with nonce := some 1, cert := some tCert, share := some 4, doneOut := true })).linkState 0 = 2) ∧
    (((tShake ({ Handshake.fresh with nonce := some 1, cert := some tCert, share := some 4, doneOut := true })).port
      0).hs.sentHello = true) ∧
    (((tShake ({ Handshake.fresh with nonce := some 1, cert := some tCert, share := some 4, doneOut := true })).port
      0).hs.share ≠ none) ∧
    (((tShake ({ Handshake.fresh with nonce := some 1, cert := some tCert, share := some 4, doneOut := true })).port
      0).hs.doneOut = true) ∧
    (((tShake ({ Handshake.fresh with nonce := some 1, cert := some tCert, share := some 4, doneOut := true })).port
      0).outq = []) ∧
    (false = false) ∧
    (tServe.code.hasPort 0 = true) ∧
    ((tServe.port 0).hs.sentHello = false) ∧
    (tServe.linkState 0 ≠ 5) ∧
    ((tLink 5 Port.fresh).linkState 0 = 5) ∧
    ((tServe.port 23).outq = []) ∧
    ((tServe.port 23).slices = []) := by
  decide +kernel

theorem witness_FlowsComplete_1 :
    ((Instr.load ({ (tOfFlow PacketKind.load 0) with stomp := true }),
      { (tOfFlow PacketKind.load 0) with kind := PacketKind.load, stomp := true }).2.stomp = true ∨ (Instr.load
      ({ (tOfFlow PacketKind.load 0) with stomp := true }),
      { (tOfFlow PacketKind.load 0) with kind := PacketKind.load, stomp := true }).2.badForm = true) ∧
    ((Instr.load (tOfFlow PacketKind.load 0), tOfFlow PacketKind.load 0).2.stomp = false) ∧
    ((Instr.load (tOfFlow PacketKind.load 0), tOfFlow PacketKind.load 0).2.badForm = false) ∧
    (((tOfFlow PacketKind.load 0).flowSeq.toNat + 65536 - (tServe.rxFlow (tOfFlow PacketKind.load 0).flow).expected) %
      65536 = 0) ∧
    ((tServe.rxFlow (tOfFlow PacketKind.load 0).flow).held = []) ∧
    ((Instr.fence ({ (tOfFlow PacketKind.store 0) with mlen := 8 }),
      { (tOfFlow PacketKind.fence 0) with mlen := 8 }).2.stomp = false) ∧
    ((Instr.fence ({ (tOfFlow PacketKind.store 0) with mlen := 8 }),
      { (tOfFlow PacketKind.fence 0) with mlen := 8 }).2.badForm = false) ∧
    ((({ (tOfFlow PacketKind.store 0) with mlen := 8 }).flowSeq.toNat + 65536 - (tServe.rxFlow
      ({ (tOfFlow PacketKind.store 0) with mlen := 8 }).flow).expected) % 65536 = 0) ∧
    ((Instr.fence ({ (tOfFlow PacketKind.store 0) with mlen := 8 }),
      { (tOfFlow PacketKind.fence 0) with mlen := 8 }).1 = Instr.fence
      ({ (tOfFlow PacketKind.store 0) with mlen := 8 })) ∧
    (({ (tOfFlow PacketKind.store 0) with mlen := 8 }).work = none) ∧
    ((tServe.rxFlow ({ (tOfFlow PacketKind.store 0) with mlen := 8 }).flow).held = []) ∧
    ((tServe.rxFlow ({ (tOfFlow PacketKind.store 0) with mlen := 8 }).flow).unreported < 63) ∧
    ((Instr.store (tOfFlow PacketKind.store 1023), tOfFlow PacketKind.store 1023).2.stomp = false) ∧
    ((Instr.store (tOfFlow PacketKind.store 1023), tOfFlow PacketKind.store 1023).2.badForm = false) ∧
    (0 < ((tOfFlow PacketKind.store 1023).flowSeq.toNat + 65536 - (tServe.rxFlow (tOfFlow PacketKind.store
      1023).flow).expected) % 65536) ∧
    (((tOfFlow PacketKind.store 1023).flowSeq.toNat + 65536 - (tServe.rxFlow (tOfFlow PacketKind.store
      1023).flow).expected) % 65536 ≤ 1023) ∧
    ((tServe.rxFlow (tOfFlow PacketKind.store 1023).flow).held = []) ∧
    (tServe.reseqUsed < 16384) ∧
    ((tServe.rxFlow (tOfFlow PacketKind.store 1023).flow).unreported < 64) ∧
    ((Instr.atomic (tOfFlow PacketKind.atomic 32768), tOfFlow PacketKind.atomic 32768).2.stomp = false) := by
  decide +kernel

theorem witness_FlowsComplete_2 :
    ((Instr.atomic (tOfFlow PacketKind.atomic 32768), tOfFlow PacketKind.atomic 32768).2.badForm = false) ∧
    (32768 ≤ ((tOfFlow PacketKind.atomic 32768).flowSeq.toNat + 65536 - (tServe.rxFlow (tOfFlow PacketKind.atomic
      32768).flow).expected) % 65536) ∧
    ((tServe.rxFlow (tOfFlow PacketKind.atomic 32768).flow).unreported < 64) ∧
    ((Instr.atomic (tOfFlow PacketKind.atomic 65535), tOfFlow PacketKind.atomic 65535).2.stomp = false) ∧
    ((Instr.atomic (tOfFlow PacketKind.atomic 65535), tOfFlow PacketKind.atomic 65535).2.badForm = false) ∧
    (32768 ≤ ((tOfFlow PacketKind.atomic 65535).flowSeq.toNat + 65536 - (tServe.rxFlow (tOfFlow PacketKind.atomic
      65535).flow).expected) % 65536) ∧
    ((tServe.rxFlow (tOfFlow PacketKind.atomic 65535).flow).unreported < 64) ∧
    (∀ r ∈ tServe.fab.requests, r.tag ≠ (tOfFlow PacketKind.reply 0).tag) ∧
    ((tFab fun x => { x with requests := [tRequest] }).fab.requests = [tRequest]) ∧
    (tRequest.tag = (tOfFlow PacketKind.reply 0).tag) ∧
    (tRequest.waiting = [(tOfFlow PacketKind.reply 0).src]) ∧
    (tRequest.answers = []) ∧
    (trackerRetry (tOfFlow PacketKind.reply 0) = false) ∧
    (tRequest.tag = (tOfFlow PacketKind.fenceDone 0).tag) ∧
    (tRequest.waiting = [(tOfFlow PacketKind.fenceDone 0).src]) ∧
    ((tFab fun x =>
      { x with replay := [tKept PacketKind.load, { (tKept PacketKind.store) with seq := 1 }, { (tKept PacketKind.store) with uncovered := [1, 2] }] }).fab.blocked
      = []) ∧
    (∀ f ∈ tServe.fab.rx, f.flow.src = 1 → f.unreported = 0) ∧
    ((tFab fun x => { x with rx := [{ flow := tFlow, expected := 0, held := [], unreported := 3 }] }).fab.rx =
      [{ flow := tFlow, expected := 0, held := [], unreported := 3 }]) ∧
    (tServe.kept tRequest.flow (0) = none) ∧
    ((tFab fun x => { x with replay := [tKept PacketKind.load] }).kept tRequest.flow (0) = some (tKept
      PacketKind.load)) := by
  decide +kernel

theorem witness_FlowsComplete_3 :
    (tRequest.flow.mcast = false) ∧
    ((tKept PacketKind.load).packet.answered = true) ∧
    ((tFab fun x => { x with replay := [tKept PacketKind.store] }).kept tRequest.flow (0) = some (tKept
      PacketKind.store)) ∧
    ((tKept PacketKind.store).packet.answered = false) ∧
    ((tFab fun x => { x with replay := [tKept PacketKind.store] }).fab.blocked = []) ∧
    (∀ r ∈ tServe.fab.requests, r.tag ≠ 6) ∧
    (tRequest.tag = 6) ∧
    (tRequest.waiting = [1]) ∧
    (tRequest.issuer = Issuer.other) ∧
    ((tFab fun x => { x with requests := [tRequest] }).fab.blocked = []) ∧
    (tServe.unreachable 511 = false) ∧
    ((tServe.setF F.swcUnreach_map 1 2).unreachable 65 = true) ∧
    (({ (tOfFlow PacketKind.probe 0) with entries := [(tFlow, 9)] }).entries = [(tFlow, 9)]) ∧
    (tFlow.src = ({ (tOfFlow PacketKind.probe 0) with entries := [(tFlow, 9)] }).src) := by
  decide +kernel

theorem witness_ArraysAndShards_1 :
    (tServe.code.hasArray 128 = false) ∧
    (tServe.code.hasArray 0 = true) ∧
    ((List.any tServe.srch.open_ fun e => e.2 == some (0 / 64)) = false ∨ tServe.allRetired (0 / 64) = false ∧
      tServe.arrayState 0 ≠ 1) ∧
    (tServe.code.hasArray 127 = true) ∧
    (tServe.srch.parts = []) ∧
    ((tServe.srch.calOrder.get (0 / 64) [0]).head? = some (0 % 64)) ∧
    (tServe.code.hasArray 1 = true) ∧
    ((tServe.srch.calOrder.get (1 / 64) [0]).head? ≠ some (1 % 64)) ∧
    (tServe.arrayState 1 ≠ 2) ∧
    ((tServe.setF F.srchArray_state 0 2).code.hasArray 0 = true) ∧
    ((tServe.setF F.srchArray_state 0 2).arrayState 0 = 2) ∧
    (regAt (F.srchShardCmd_op.off 0) = some (tReg (F.srchShardCmd_op.off 0))) ∧
    ((tServe.cmdWritten (tReg (F.srchShardCmd_op.off 0)) F.srchShardCmd_op 0 (putBits 2 8 3 2)).shardSlot (fieldOf 2 0
      8) = none) := by
  decide +kernel

theorem witness_ArraysAndShards_2 :
    ((tReg (F.srchShardCmd_op.off 0)).clean (putBits 2 8 3 1)) ∧
    ((tReg (F.srchShardCmd_op.off 0)).clean (putBits 2 8 3 2)) := by
  refine ⟨?_, ?_⟩ <;> (unfold RegDesc.clean; decide +kernel)

theorem witness_HostAccessesComplete_1 :
    (tServe.bindActive 0 = false ∨ tServe.ideOk = false) ∧
    (tServe.bindActive 31 = false ∨ tServe.ideOk = false) ∧
    ((tBind id).bindActive 0 = true) ∧
    ((tBind id).ideOk = true) ∧
    ((tBind id).dcHolds 0 (17179869184 - 17179869184) = false) ∧
    ((tHost.onXlt fun x => { x with entries := [] }).bindActive 0 = true) ∧
    ((tHost.onXlt fun x => { x with entries := [] }).ideOk = true) ∧
    ((tHost.onXlt fun x => { x with entries := [] }).dcHolds 0 (17179869184 - 17179869184) = true) ∧
    ((tHost.onXlt fun x => { x with entries := [] }).lookup ((tHost.onXlt fun x =>
      { x with entries := [] }).bindTenant 0) (17179869184 - 17179869184) Wants.load false = Found.fails Code.absent) ∧
    ((tHost.onXlt fun x => { x with entries := [{ tExtent with wr := false, host := true }] }).bindActive 0 = true) ∧
    ((tHost.onXlt fun x => { x with entries := [{ tExtent with wr := false, host := true }] }).ideOk = true) ∧
    ((tHost.onXlt fun x => { x with entries := [{ tExtent with wr := false, host := true }] }).dcHolds 0 (17179869184
      - 17179869184) = true) ∧
    ((tHost.onXlt fun x => { x with entries := [{ tExtent with wr := false, host := true }] }).lookup ((tHost.onXlt
      fun x => { x with entries := [{ tExtent with wr := false, host := true }] }).bindTenant 0) (17179869184 -
      17179869184) Wants.store false = Found.fails Code.denied) ∧
    (tHost.bindActive 0 = true) ∧
    (tHost.ideOk = true) ∧
    (tHost.dcHolds 0 (17179869248 - 17179869184) = true) ∧
    (tHost.lookup (tHost.bindTenant 0) (17179869248 - 17179869184) Wants.store false = Found.stand (saStore 0 64)
      tExtent.key) ∧
    (BitVec.ofNat 9 (saDevice (saStore 0 64)) = tHost.device) ∧
    (tHost.homedHere 0 = true) ∧
    ((tHost.dirAt (saOffset 0 / 64)).owned = false) := by
  decide +kernel

theorem witness_HostAccessesComplete_2 :
    ((tDir tHolder false true []).bindActive 0 = true) ∧
    ((tDir tHolder false true []).ideOk = true) ∧
    ((tDir tHolder false true []).homedHere 0 = true) ∧
    (((tDir tHolder false true []).dirAt (saOffset 0 / 64)).owned = true) ∧
    ((((tDir tHolder false true []).dirAt (saOffset 0 / 64)).holders.any fun g => g.holder ==
      { dev := (tDir tHolder false true []).device, binding := 0 }) = true) ∧
    (((tServe.dirAt 0).holders.any fun g => g.holder == tHolder && !g.recalling) = false ∨ tServe.recallWanted 0
      tHolder = false) ∧
    ((((tDir tHolder false true []).dirAt 0).holders.any fun g => g.holder == tHolder && !g.recalling) = false ∨ (tDir
      tHolder false true []).recallWanted 0 tHolder = false) ∧
    ((((tDir tHolder false true [tStoreAcc]).dirAt 0).holders.any fun g => g.holder == tHolder && !g.recalling) =
      true) ∧
    ((tDir tHolder false true [tStoreAcc]).recallWanted 0 tHolder = true) ∧
    (tHolder.dev = (tDir tHolder false true [tStoreAcc]).device) ∧
    (((tServe.dirAt 0).holders.any fun g => g.holder == tHolder && g.recalling) = false) ∧
    ((((tDir { dev := 1, binding := 0 } true true []).dirAt 0).holders.any fun g => g.holder ==
      { dev := 1, binding := 0 } && g.recalling) = true) ∧
    (∀ x ∈ tHost.hpt.snoops, x.2.1 ≠ 0 ∨ x.2.2 ≠ 64) ∧
    ((tBind fun h => { h with snoops := [(1, 0, 64)] }).hpt.snoops = [(1, 0, 64)]) ∧
    (1 ≠ (tBind fun h => { h with snoops := [(1, 0, 64)] }).device) ∧
    ((tDir { dev := 1, binding := 0 } true true []).homedHere 0 = true) ∧
    ((((tDir { dev := 1, binding := 0 } true true []).dirAt (saOffset 0 / 64)).holders.any fun g => g.holder ==
      { dev := 2, binding := 0 }) = false) ∧
    ((((tDir { dev := 1, binding := 0 } true true []).dirAt (saOffset 0 / 64)).holders.any fun g => g.holder ==
      { dev := 1, binding := 0 }) = true) ∧
    (tHost.bindActive 1 = false) ∧
    ((tBind fun h => { h with snoops := [(1, 0, 64), (1, 1, 64)] }).bindActive 0 = true) := by
  decide +kernel

theorem witness_HostAccessesComplete_3 :
    ((tBind fun h => { h with snoops := [(1, 0, 64), (1, 1, 64)] }).otherDevices = []) ∧
    ((tBind fun h => { h with snoops := [(1, 0, 64), (1, 1, 64)] }).hpt.dir = []) ∧
    (tHost.requester ({ tStoreAcc with rerun := true }) = (0, true)) ∧
    (tHost.tracked true (0, true) < 2) ∧
    (tHost.requester ({ tStoreAcc with rerun := true }) ≠ (1, true) ∨ 2 ≤ tHost.tracked true (1, true)) ∧
    (Instr.homeopAtom 0 1 1 ∈ [Instr.homeopAtom 0 1 1, Instr.openView 0 1 1, Instr.closeView 0 1 1, Instr.publish 0 1
      1]) ∧
    (Instr.openView 0 1 1 ∈ [Instr.homeopAtom 0 1 1, Instr.openView 0 1 1, Instr.closeView 0 1 1, Instr.publish 0 1
      1]) ∧
    (tHomeOp.bindActive 0 = true) ∧
    (tHomeOp.ideOk = true) ∧
    ((tHomeOp.homeOpLine 0 1).busy = true) ∧
    (Instr.closeView 0 1 0 ∈ [Instr.homeopAtom 0 1 0, Instr.openView 0 1 0, Instr.closeView 0 1 0, Instr.publish 0 1
      0]) ∧
    ((tHost.homeOpLine 0 1).busy = false) ∧
    (tHost.mode = Mode.crust ∧ Code.malformed = Code.crust ∧ 0 = 0 ∨ tHost.mode ≠ Mode.crust ∧ homeopCheck 0 = some 0
      ∧ Code.malformed = Code.malformed ∨ tHost.mode ≠ Mode.crust ∧ homeopCheck 0 = none ∧ 0 = 0 ∧ tHost.lookup
      (tHost.bindTenant 0) (dfield 0 8 0 56) (if lineOpc 0 = 1 then Wants.atom else Wants.load) false = Found.fails
      Code.malformed) ∧
    (Instr.publish 0 1 0 ∈ [Instr.homeopAtom 0 1 0, Instr.openView 0 1 0, Instr.closeView 0 1 0, Instr.publish 0 1 0]) ∧
    (({ tHost with mode := Mode.crust }).bindActive 0 = true) ∧
    (({ tHost with mode := Mode.crust }).ideOk = true) ∧
    ((({ tHost with mode := Mode.crust }).homeOpLine 0 1).busy = false) ∧
    (({ tHost with mode := Mode.crust }).mode = Mode.crust ∧ Code.crust = Code.crust ∧ 0 = 0 ∨
      ({ tHost with mode := Mode.crust }).mode ≠ Mode.crust ∧ homeopCheck 0 = some 0 ∧ Code.crust = Code.malformed ∨
      ({ tHost with mode := Mode.crust }).mode ≠ Mode.crust ∧ homeopCheck 0 = none ∧ 0 = 0 ∧
      ({ tHost with mode := Mode.crust }).lookup (({ tHost with mode := Mode.crust }).bindTenant 0) (dfield 0 8 0 56)
      (if lineOpc 0 = 1 then Wants.atom else Wants.load) false = Found.fails Code.crust) ∧
    (tHost.mode = Mode.crust ∧ Code.absent = Code.crust ∧ 0 = 0 ∨ tHost.mode ≠ Mode.crust ∧ homeopCheck (BitVec.ofNat
      512 (1 + 33554432 * 2 ^ 64)) = some 0 ∧ Code.absent = Code.malformed ∨ tHost.mode ≠ Mode.crust ∧ homeopCheck
      (BitVec.ofNat 512 (1 + 33554432 * 2 ^ 64)) = none ∧ 0 = 0 ∧ tHost.lookup (tHost.bindTenant 0) (dfield
      (BitVec.ofNat 512 (1 + 33554432 * 2 ^ 64)) 8 0 56) (if lineOpc (BitVec.ofNat 512 (1 + 33554432 * 2 ^ 64)) = 1 then
      Wants.atom else Wants.load) false = Found.fails Code.absent) ∧
    (tHost.mode ≠ Mode.crust) := by
  decide +kernel

theorem witness_HostAccessesComplete_4 :
    (homeopCheck (BitVec.ofNat 512 (1 + 8 * 2 ^ 64)) = none) ∧
    (lineOpc (BitVec.ofNat 512 (1 + 8 * 2 ^ 64)) = 1) ∧
    (tHost.lookup (tHost.bindTenant 0) (dfield (BitVec.ofNat 512 (1 + 8 * 2 ^ 64)) 8 0 56) Wants.atom false =
      Found.stand (saStore 0 8) tExtent.key) ∧
    (BitVec.ofNat 9 (saDevice (saStore 0 8)) = tHost.device) ∧
    (Instr.openView 0 1 2 ∈ [Instr.homeopAtom 0 1 2, Instr.openView 0 1 2, Instr.closeView 0 1 2, Instr.publish 0 1
      2]) ∧
    (homeopCheck 2 = none) ∧
    (lineOpc 2 = 2 ∨ lineOpc 2 = 3) ∧
    (tHost.lookup (tHost.bindTenant 0) (dfield 2 8 0 56) Wants.load false = Found.stand (saStore 0 0) tExtent.key) ∧
    (BitVec.ofNat 9 (saDevice (saStore 0 0)) = tHost.device) ∧
    (Instr.closeView 0 1 3 ∈ [Instr.homeopAtom 0 1 3, Instr.openView 0 1 3, Instr.closeView 0 1 3, Instr.publish 0 1
      3]) ∧
    (homeopCheck 3 = none) ∧
    (lineOpc 3 = 2 ∨ lineOpc 3 = 3) ∧
    (tHost.lookup (tHost.bindTenant 0) (dfield 3 8 0 56) Wants.load false = Found.stand (saStore 0 0) tExtent.key) ∧
    (({ tHost with mode := Mode.crust }).mode = Mode.crust) ∧
    (tHost.hpt.commons = []) ∧
    ((tBind fun h => { h with commons := [(0, tCommons)] }).mode ≠ Mode.crust) ∧
    ((tBind fun h => { h with commons := [(0, tCommons)] }).hpt.commons = [(0, tCommons)]) ∧
    (tCommons.firstBlock ≤ saOffset 0 / blockBytes) ∧
    (saOffset 0 / blockBytes < tCommons.firstBlock + tCommons.blocks) ∧
    (tCommons.right 5 = Right.none) := by
  decide +kernel

theorem witness_HostAccessesComplete_5 :
    (3 = 0 ∨ tCommons.right 3 ≠ Right.none) ∧
    (lineOpc 2 = 2) ∧
    (dfield 2 16 0 64 = 0) ∧
    (tCommons.live tCommons.latest = true) ∧
    (tCommons.views = []) ∧
    (4 = 0 ∨ tCommons.right 4 ≠ Right.none) ∧
    (lineOpc 3 = 3) ∧
    (lineOpc 4 = 4) ∧
    (tCommons.right 4 ≠ Right.publish) := by
  decide +kernel

theorem witness_HostCommandsComplete_1 :
    ((tHost.setF F.hptCmd_busy 0 1).getF F.hptCmd_busy = 1) ∧
    (((tHptArgs id (2 ^ 25) 0).cmdTaken (tReg (F.hptCmd_op.off 0)) F.hptCmd_op F.hptCmd_busy 0 (putBits 0 0 4
      1)).hptArgsOk 1 = false) ∧
    (((tHptArgs id 24577 0).cmdTaken (tReg (F.hptCmd_op.off 0)) F.hptCmd_op F.hptCmd_busy 0 (putBits 0 0 4
      1)).hptArgsOk 1 = true) ∧
    (((tHptArgs id 0 0).cmdTaken (tReg (F.hptCmd_op.off 0)) F.hptCmd_op F.hptCmd_busy 0 (putBits 0 0 4 2)).hptArgsOk 2
      = true) ∧
    (((tHptArgs id 0 0).cmdTaken (tReg (F.hptCmd_op.off 0)) F.hptCmd_op F.hptCmd_busy 0 (putBits 0 0 4 3)).hptArgsOk 3
      = true) ∧
    (((tHptArgs id 256 17179869184).cmdTaken (tReg (F.hptCmd_op.off 0)) F.hptCmd_op F.hptCmd_busy 0 (putBits 0 0 4
      4)).hptArgsOk 4 = true) ∧
    (((tHptArgs id 256 17179869184).cmdTaken (tReg (F.hptCmd_op.off 0)) F.hptCmd_op F.hptCmd_busy 0 (putBits 0 0 4
      5)).hptArgsOk 5 = true) ∧
    (((tHptArgs id 16576 0).cmdTaken (tReg (F.hptCmd_op.off 0)) F.hptCmd_op F.hptCmd_busy 0 (putBits 0 0 4
      6)).hptArgsOk 6 = true) ∧
    (((tHptArgs id 16704 0).cmdTaken (tReg (F.hptCmd_op.off 0)) F.hptCmd_op F.hptCmd_busy 0 (putBits 0 0 4
      7)).hptArgsOk 7 = true) ∧
    (((tHptArgs (fun h => { h with commons := [(0, tCommons)] }) 0 0).cmdTaken (tReg (F.hptCmd_op.off 0)) F.hptCmd_op
      F.hptCmd_busy 0 (putBits 0 0 4 8)).hptArgsOk 8 = true) ∧
    ((tHptArgs id 24673 0).getF F.hptBind_state (fieldOf (tHptArgs id 24673 0).hptArg0 0 5) = 0) ∧
    (fieldOf (tHptArgs id 24673 0).hptArg0 5 8 ≠ 0) ∧
    ((tHptArgs id 24577 0).getF F.hptBind_state (fieldOf (tHptArgs id 24577 0).hptArg0 0 5) = 0) ∧
    (fieldOf (tHptArgs id 24577 0).hptArg0 5 8 = 0) ∧
    ((tHptArgs id 24577 0).getF F.hptBind_mgmtOk (fieldOf (tHptArgs id 24577 0).hptArg0 0 5) = 0) ∧
    ((tHptArgs id 24577 0).hpt.extents = []) ∧
    ((tHptArgs id 24577 0).hpt.dir = []) ∧
    (((tHptArgs (fun h => { h with extents := [tDcExt] }) 0 0).hpt.extents.any fun e => e.binding == fieldOf (tHptArgs
      (fun h => { h with extents := [tDcExt] }) 0 0).hptArg0 0 5) = true) ∧
    (((tHptArgs id 31 0).setF F.hptBind_state 31 2).getF F.hptBind_state (fieldOf ((tHptArgs id 31 0).setF
      F.hptBind_state 31 2).hptArg0 0 5) = 2) ∧
    ((tHptArgs id 256 17179869183).bindActive (tHptArgs id 256 17179869183).argExtent.binding = false ∨ BitVec.toNat
      (tHptArgs id 256 17179869183).hptArg1 < 17179869184 ∨ (tHptArgs id 256 17179869183).argExtent.blocks = 0 ∨
      (tHptArgs id 256 17179869183).argExtent.addr % granuleBytes ≠ 0) := by
  decide +kernel

theorem witness_HostCommandsComplete_2 :
    ((tHptArgs id 257 17179869184).bindActive (tHptArgs id 257 17179869184).argExtent.binding = false ∨ BitVec.toNat
      (tHptArgs id 257 17179869184).hptArg1 < 17179869184 ∨ (tHptArgs id 257 17179869184).argExtent.blocks = 0 ∨
      (tHptArgs id 257 17179869184).argExtent.addr % granuleBytes ≠ 0) ∧
    ((tHptArgs id 0 17179869184).bindActive (tHptArgs id 0 17179869184).argExtent.binding = false ∨ BitVec.toNat
      (tHptArgs id 0 17179869184).hptArg1 < 17179869184 ∨ (tHptArgs id 0 17179869184).argExtent.blocks = 0 ∨ (tHptArgs
      id 0 17179869184).argExtent.addr % granuleBytes ≠ 0) ∧
    ((tHptArgs id 256 17179869185).bindActive (tHptArgs id 256 17179869185).argExtent.binding = false ∨ BitVec.toNat
      (tHptArgs id 256 17179869185).hptArg1 < 17179869184 ∨ (tHptArgs id 256 17179869185).argExtent.blocks = 0 ∨
      (tHptArgs id 256 17179869185).argExtent.addr % granuleBytes ≠ 0) ∧
    (BitVec.toNat (tHptArgs id 256 17179869184).hptArg1 < 17179869184 ∨ (tHptArgs id 256
      17179869184).hpt.extents.contains (tHptArgs id 256 17179869184).argExtent = false) ∧
    (17179869184 ≤ BitVec.toNat (tHptArgs (fun h => { h with extents := [tDcExt] }) 256 17179869184).hptArg1) ∧
    ((tHptArgs (fun h => { h with extents := [tDcExt] }) 256 17179869184).hpt.extents.contains (tHptArgs (fun h =>
      { h with extents := [tDcExt] }) 256 17179869184).argExtent = true) ∧
    ((tHptArgs (fun h => { h with extents := [tDcExt] }) 256 17179869184).hpt.dcOps = []) ∧
    ((tHptArgs (fun h => { h with commons := [(0, tCommons)] }) 16704 0).commonsAt (fieldOf (tHptArgs (fun h =>
      { h with commons := [(0, tCommons)] }) 16704 0).hptArg0 0 6) = some tCommons) ∧
    (fieldOf (tHptArgs (fun h => { h with commons := [(0, tCommons)] }) 16704 0).hptArg0 14 2 = 1) ∧
    (BitVec.ofNat 8 (fieldOf (tHptArgs (fun h => { h with commons := [(0, tCommons)] }) 16704 0).hptArg0 6 8) ≠
      tCommons.owner) ∧
    ((List.filter (fun r => r.1 != BitVec.ofNat 8 (fieldOf (tHptArgs (fun h => { h with commons := [(0, tCommons)] })
      16704 0).hptArg0 6 8)) tCommons.rights).length < 16) ∧
    ((tHptArgs (fun h => { h with commons := [(0, { tCommons with views := [(1, 4, 7)] })] }) 0 0).commonsAt (fieldOf
      (tHptArgs (fun h => { h with commons := [(0, { tCommons with views := [(1, 4, 7)] })] }) 0 0).hptArg0 0 6) = some
      ({ tCommons with views := [(1, 4, 7)] })) ∧
    ((({ tCommons with views := [(1, 4, 7)] }).views.any fun v => v.2.2 !=
      ({ tCommons with views := [(1, 4, 7)] }).latest) = true) ∧
    ((tHptArgs (fun h => { h with commons := [(0, tCommons)] }) 0 0).commonsAt (fieldOf (tHptArgs (fun h =>
      { h with commons := [(0, tCommons)] }) 0 0).hptArg0 0 6) = some tCommons) ∧
    ((tCommons.views.any fun v => v.2.2 != tCommons.latest) = false) ∧
    (tHost.hpt.dcOps = []) ∧
    ((tBind fun h => { h with dcOps := [tDcOp DcPhase.adding] }).hpt.dcOps = [tDcOp DcPhase.adding]) ∧
    ((tDcOp DcPhase.adding).phase = DcPhase.adding) ∧
    ((tDcOp DcPhase.adding).ext.binding < 32) ∧
    ((tBind fun h => { h with dcOps := [tDcOp DcPhase.adding] }).getF F.hptBind_extents (tDcOp
      DcPhase.adding).ext.binding < 4096) := by
  decide +kernel

theorem witness_HostCommandsComplete_3 :
    ((tBind fun h => { h with dcOps := [tDcOp DcPhase.releasing] }).hpt.dcOps = [tDcOp DcPhase.releasing]) ∧
    ((tDcOp DcPhase.releasing).phase = DcPhase.releasing) ∧
    ((tDcOp DcPhase.releasing).command = true) ∧
    ((tBind id).hpt.extents = []) ∧
    ((tBind fun h => { h with extents := [tDcExt] }).hpt.extents = [tDcExt]) ∧
    (tDcExt.binding = 0) ∧
    (tDcExt.addr + 17179869184 = 17179869184) ∧
    ((tBind fun h => { h with extents := [tDcExt] }).hpt.dcOps = []) ∧
    ((tBind fun h => { h with extents := [tDcExt], dcOps := [tDcOp DcPhase.releasing] }).hpt.extents = [tDcExt]) ∧
    ((tBind fun h => { h with extents := [tDcExt], dcOps := [tDcOp DcPhase.releasing] }).hpt.dcOps = [tDcOp
      DcPhase.releasing]) ∧
    ((tDcOp DcPhase.releasing).ext = tDcExt) ∧
    (((tServe.onSec fun x =>
      { x with sessions := [tSession Transport.cxl], ide := [(IdeStream.io, 4, 1), (IdeStream.mem, 3, 1)] }).sec.sessions.any
      fun x => x.id == 1 && x.transport == Transport.cxl && x.finished) = true) ∧
    (((tServe.onSec fun x => { x with sessions := [tSession Transport.i3c] }).sec.sessions.any fun x => x.id == 1 &&
      x.transport == Transport.cxl && x.finished) = false) := by
  decide +kernel

theorem witness_HostCommandsComplete_4 :
    ((tHptArgs id (2 ^ 25) 0).cmdReady (tReg (F.hptCmd_op.off 0)) F.hptCmd_op F.hptCmd_busy 0 (putBits 0 0 4 1)) ∧
    ((tHptArgs id 24577 0).cmdReady (tReg (F.hptCmd_op.off 0)) F.hptCmd_op F.hptCmd_busy 0 (putBits 0 0 4 1)) ∧
    ((tHptArgs id 0 0).cmdReady (tReg (F.hptCmd_op.off 0)) F.hptCmd_op F.hptCmd_busy 0 (putBits 0 0 4 2)) ∧
    ((tHptArgs id 0 0).cmdReady (tReg (F.hptCmd_op.off 0)) F.hptCmd_op F.hptCmd_busy 0 (putBits 0 0 4 3)) ∧
    ((tHptArgs id 256 17179869184).cmdReady (tReg (F.hptCmd_op.off 0)) F.hptCmd_op F.hptCmd_busy 0 (putBits 0 0 4 4)) ∧
    ((tHptArgs id 256 17179869184).cmdReady (tReg (F.hptCmd_op.off 0)) F.hptCmd_op F.hptCmd_busy 0 (putBits 0 0 4 5)) ∧
    ((tHptArgs id 16576 0).cmdReady (tReg (F.hptCmd_op.off 0)) F.hptCmd_op F.hptCmd_busy 0 (putBits 0 0 4 6)) ∧
    ((tHptArgs id 16704 0).cmdReady (tReg (F.hptCmd_op.off 0)) F.hptCmd_op F.hptCmd_busy 0 (putBits 0 0 4 7)) ∧
    ((tHptArgs (fun h => { h with commons := [(0, tCommons)] }) 0 0).cmdReady (tReg (F.hptCmd_op.off 0)) F.hptCmd_op
      F.hptCmd_busy 0 (putBits 0 0 4 8)) := by
  refine ⟨?_, ?_, ?_, ?_, ?_, ?_, ?_, ?_, ?_⟩ <;> (unfold State.cmdReady RegDesc.clean; decide +kernel)

theorem witness_MapCommandsComplete_1 :
    (({ tServe with mode := Mode.sleep }).mode = Mode.sleep) ∧
    ((tKeeper id).mode ≠ Mode.sleep) ∧
    (tServe.isKeeper = false ∨ (tServe.map.failedNamed.any fun e => e.1 == 3) = true) ∧
    ((tKeeper fun m => { m with failedNamed := [(3, 0)] }).isKeeper = false ∨ ((tKeeper fun m =>
      { m with failedNamed := [(3, 0)] }).map.failedNamed.any fun e => e.1 == 3) = true) ∧
    ((tKeeper fun m => { m with heard := [(3, 0), (4, 1)] }).isKeeper = true) ∧
    (((tKeeper fun m => { m with heard := [(3, 0), (4, 1)] }).map.failedNamed.any fun e => e.1 == 3) = false) ∧
    ((tKeeper id).keepers.contains 3 = false) ∧
    ((tKeeper id).keepers.contains 2 = true) ∧
    (2 ≤ (List.filter (fun k => decide (BitVec.toNat (tKeeper fun m => { m with acks := [(1, 5), (2, 5)] }).stime <
      lastSeen (tKeeper fun m => { m with acks := [(1, 5), (2, 5)] }).map.acks k + (tKeeper fun m =>
      { m with acks := [(1, 5), (2, 5)] }).isolateNs)) (tKeeper fun m =>
      { m with acks := [(1, 5), (2, 5)] }).keepers).length) ∧
    ((List.filter (fun k => decide (BitVec.toNat
      ({ (tKeeper fun m => { m with acks := [(1, 5)] }) with stime := 10000000000 }).stime < lastSeen
      ({ (tKeeper fun m => { m with acks := [(1, 5)] }) with stime := 10000000000 }).map.acks k +
      ({ (tKeeper fun m => { m with acks := [(1, 5)] }) with stime := 10000000000 }).isolateNs))
      ({ (tKeeper fun m => { m with acks := [(1, 5)] }) with stime := 10000000000 }).keepers).length < 2) ∧
    (({ (tKeeper fun m => { m with acks := [(1, 5)] }) with stime := 10000000000 }).mode = Mode.service ∨
      ({ (tKeeper fun m => { m with acks := [(1, 5)] }) with stime := 10000000000 }).mode = Mode.rest ∨
      ({ (tKeeper fun m => { m with acks := [(1, 5)] }) with stime := 10000000000 }).mode = Mode.repair ∨
      ({ (tKeeper fun m => { m with acks := [(1, 5)] }) with stime := 10000000000 }).mode = Mode.crust) ∧
    ((tKeeper id).isKeeper = false ∨ 0 = (tKeeper id).device ∨ devRing 0 ≠ devRing (tKeeper id).device ∨ (tKeeper
      id).fateOf 0 ≠ none) ∧
    ((tKeeper id).isKeeper = false ∨ 8 = (tKeeper id).device ∨ devRing 8 ≠ devRing (tKeeper id).device ∨ (tKeeper
      id).fateOf 8 ≠ none) ∧
    (({ (tKeeper id) with stime := 10000000000 }).isKeeper = true) ∧
    (3 ≠ ({ (tKeeper id) with stime := 10000000000 }).device) ∧
    (({ (tKeeper id) with stime := 10000000000 }).pwr.asleep.contains 3 = false) ∧
    (devRing 3 = devRing ({ (tKeeper id) with stime := 10000000000 }).device) ∧
    (({ (tKeeper id) with stime := 10000000000 }).fateOf 3 = none) ∧
    (lastSeen ({ (tKeeper id) with stime := 10000000000 }).map.heard 3 +
      ({ (tKeeper id) with stime := 10000000000 }).isolateNs + 100000 ≤ BitVec.toNat
      ({ (tKeeper id) with stime := 10000000000 }).stime) ∧
    (tServe.isKeeper = false) := by
  decide +kernel

theorem witness_MapCommandsComplete_2 :
    ((tKeeper fun m => { m with records := [{ (tLease 0 1 0) with epoch := 1 }] }).isKeeper = true) ∧
    ((Instr.proposeAccept 1 (tLease 0 1 2), opAccept).2 ≠ opCreate) ∧
    ((tLease 0 1 2).epoch < ((tKeeper fun m => { m with records := [{ (tLease 0 1 0) with epoch := 1 }] }).current
      (tLease 0 1 2)).epoch) ∧
    ((tKeeper id).isKeeper = true) ∧
    ((Instr.proposeCreate 2 (tLease 0 1 2), opCreate).2 = opCreate ∨ ¬(tLease 0 1 2).epoch < ((tKeeper id).current
      (tLease 0 1 2)).epoch) ∧
    ((tKeeper id).outcome (Instr.proposeCreate 2 (tLease 0 1 2), opCreate).2 2 (tLease 0 1 2) = none) ∧
    ((Instr.proposeCreate 1 (tLease 0 1 2), opCreate).2 = opCreate ∨ ¬(tLease 0 1 2).epoch < ((tKeeper id).current
      (tLease 0 1 2)).epoch) ∧
    ((tKeeper id).outcome (Instr.proposeCreate 1 (tLease 0 1 2), opCreate).2 1 (tLease 0 1 2) = some
      ({ (tLease 0 1 0) with epoch := 0 })) ∧
    ((tKeeper id).map.proposals = []) ∧
    ((Instr.proposeOffer 1 (tLease 0 1 2), opOffer).2 = opCreate ∨ ¬(tLease 0 1 2).epoch < ((tKeeper id).current
      (tLease 0 1 2)).epoch) ∧
    ((tKeeper id).outcome (Instr.proposeOffer 1 (tLease 0 1 2), opOffer).2 1 (tLease 0 1 2) = some (tLease 1 1 2)) ∧
    ((tKeeper fun m => { m with records := [tLease 1 1 2] }).isKeeper = true) ∧
    ((Instr.proposeAccept 2 (tLease 1 1 2), opAccept).2 = opCreate ∨ ¬(tLease 1 1 2).epoch < ((tKeeper fun m =>
      { m with records := [tLease 1 1 2] }).current (tLease 1 1 2)).epoch) ∧
    ((tKeeper fun m => { m with records := [tLease 1 1 2] }).outcome (Instr.proposeAccept 2 (tLease 1 1 2),
      opAccept).2 2 (tLease 1 1 2) = some ({ (tLease 0 2 0) with epoch := 1 })) ∧
    ((tKeeper fun m => { m with records := [tLease 1 1 2] }).map.proposals = []) ∧
    ((Instr.proposeWithdraw 1 (tLease 1 1 2), opWithdraw).2 = opCreate ∨ ¬(tLease 1 1 2).epoch < ((tKeeper fun m =>
      { m with records := [tLease 1 1 2] }).current (tLease 1 1 2)).epoch) ∧
    ((tKeeper fun m => { m with records := [tLease 1 1 2] }).outcome (Instr.proposeWithdraw 1 (tLease 1 1 2),
      opWithdraw).2 1 (tLease 1 1 2) = some (tLease 0 1 0)) ∧
    ((tKeeper fun m => { m with records := [tLease 0 1 0, fateRec 1 2 1 0 false] }).isKeeper = true) ∧
    ((Instr.proposeSeize 2 (tLease 0 1 2), opSeize).2 = opCreate ∨ ¬(tLease 0 1 2).epoch < ((tKeeper fun m =>
      { m with records := [tLease 0 1 0, fateRec 1 2 1 0 false] }).current (tLease 0 1 2)).epoch) ∧
    ((tKeeper fun m => { m with records := [tLease 0 1 0, fateRec 1 2 1 0 false] }).outcome (Instr.proposeSeize 2
      (tLease 0 1 2), opSeize).2 2 (tLease 0 1 2) = some ({ (tLease 0 2 0) with epoch := 1 })) := by
  decide +kernel

theorem witness_MapCommandsComplete_3 :
    ((tKeeper fun m => { m with records := [tLease 0 1 0, fateRec 1 2 1 0 false] }).map.proposals = []) ∧
    ((tKeeper fun m => { m with records := [tLease 1 1 2] }).outcome opAccept 2 (tLease 1 1 2) = some
      ({ (tLease 0 2 0) with epoch := 1 })) ∧
    ((tKeeper id).outcome opOffer 1 (tLease 0 1 2) = some (tLease 1 1 2)) ∧
    ((tKeeper fun m => { m with records := [tLease 1 1 2] }).outcome opWithdraw 1 (tLease 1 1 2) = some (tLease 0 1
      0)) ∧
    ((tKeeper fun m => { m with records := [tLease 0 1 0, fateRec 1 2 1 0 false] }).outcome opSeize 2 (tLease 0 1 2) =
      some ({ (tLease 0 2 0) with epoch := 1 })) ∧
    ((fateRec 3 4 1 0 false).kind = 1) ∧
    ((fateRec 3 4 1 0 false).state = 1) ∧
    (1 ≠ (fateRec 3 4 1 0 false).holder) ∧
    ((tKeeper id).isKeeper = false ∨ (tKeeper id).keepers.contains 3 = false) ∧
    ((tKeeper id).keepers.contains 1 = true) ∧
    (List.find? (fun q => q.rec_ == fateRec 3 4 3 0 false) (tKeeper fun m =>
      { m with proposals := [tProposal (fateRec 3 4 3 0 false) []] }).map.proposals = some (tProposal (fateRec 3 4 3 0
      false) [])) ∧
    ((fateRec 3 4 3 0 false).verdict = false ∨ (tKeeper fun m =>
      { m with proposals := [tProposal (fateRec 3 4 3 0 false) []] }).twoKeepers (tProposal (fateRec 3 4 3 0 false) [])
      = false) ∧
    (List.find? (fun q => q.rec_ == fateRec 3 4 1 0 false) (tKeeper fun m =>
      { m with proposals := [tProposal (fateRec 3 4 1 0 false) [1, 2]] }).map.proposals = some (tProposal (fateRec 3 4 1
      0 false) [1, 2])) ∧
    ((fateRec 3 4 1 0 false).verdict = true) ∧
    ((tKeeper fun m => { m with proposals := [tProposal (fateRec 3 4 1 0 false) [1, 2]] }).twoKeepers (tProposal
      (fateRec 3 4 1 0 false) [1, 2]) = true) ∧
    (tServe.map.newKeeper = none ∨ tServe.map.copying = false) ∧
    ((tKeeper fun m => { m with newKeeper := some (1, 5), copying := true }).map.newKeeper = some (1, 5)) ∧
    ((tKeeper fun m => { m with newKeeper := some (1, 5), copying := true }).map.copying = true) ∧
    (tServe.map.failover = none) ∧
    ((tKeeper fun m =>
      { m with failover := some { dev := 7, tracks := 4, adopter := false, rehearsal := false, wale := 0 } }).map.failover
      = some { dev := 7, tracks := 4, adopter := false, rehearsal := false, wale := 0 }) := by
  decide +kernel

theorem witness_MapCommandsComplete_4 :
    ((tRunning fun m =>
      { m with failover := some { dev := 7, tracks := 4, adopter := true, rehearsal := false, wale := 0 } }).map.failover
      = some { dev := 7, tracks := 4, adopter := true, rehearsal := false, wale := 0 }) ∧
    ((tRunning fun m =>
      { m with failover := some { dev := 7, tracks := 4, adopter := true, rehearsal := false, wale := 0 } }).weave.running
      = some tWeave) ∧
    ((tKeeper fun m => { m with records := [{ (tLease 0 1 0) with epoch := 1 }] }).recOf (tLease 0 1 2) = some
      ({ (tLease 0 1 0) with epoch := 1 })) ∧
    ((tLease 0 1 2).epoch < ({ (tLease 0 1 0) with epoch := 1 }).epoch) ∧
    ((tKeeper id).recOf (tLease 1 1 2) = none) ∧
    ((tLease 1 1 2).kind = 2 ∨ (tLease 1 1 2).kind = 3 ∨ (tLease 1 1 2).kind = 4) ∧
    ((tLease 1 1 2).state = 1) ∧
    ((tLease 1 1 2).holder ≠ (tKeeper id).device) ∧
    ((tLease 1 1 2).taker ≠ (tKeeper id).device) ∧
    ((tKeeper id).map.adopted = none) ∧
    ((tKeeper fun m => { m with awaiting := [tLease 0 1 0, tLease 0 2 0] }).map.cmd = none) ∧
    (2 ≤ (tKeeper fun m => { m with awaiting := [tLease 0 1 0, tLease 0 2 0] }).map.awaiting.length) := by
  decide +kernel

theorem witness_StartsAndReloadsComplete_1 :
    ((tServe.onPwr fun p => { p with inReset := true }).pwr.inReset = true ∨ ((tServe.onPwr fun p =>
      { p with inReset := true }).pwr.thermOff = true ∨ (tServe.onPwr fun p => { p with inReset := true }).pwr.overOff =
      true) ∧ (tServe.onPwr fun p => { p with inReset := true }).pwr.coldDue = false) ∧
    ((tServe.onPwr fun p => { p with thermOff := true }).pwr.inReset = true ∨ ((tServe.onPwr fun p =>
      { p with thermOff := true }).pwr.thermOff = true ∨ (tServe.onPwr fun p => { p with thermOff := true }).pwr.overOff
      = true) ∧ (tServe.onPwr fun p => { p with thermOff := true }).pwr.coldDue = false) ∧
    (tServe.weave.restartDue = false ∨ tServe.pwr.inReset = true ∨ tServe.pwr.dead = true) ∧
    (({ tServe with mem := [(5, 1)] }).pwr.inReset = false) ∧
    (({ tServe with mem := [(5, 1)] }).pwr.thermOff = false) ∧
    (({ tServe with mem := [(5, 1)] }).pwr.overOff = false) ∧
    ((tStartFacts false).identityOk = false) ∧
    ((tStartFacts true).identityOk = true) ∧
    ((tStartFacts true).fw0.sigOk = true) ∧
    ((({ tServe with mem := [(5, 1)] }).startBase false).getF F.mgtFw_active = 0) ∧
    ((({ tServe with mem := [(5, 1)] }).startBase false).getF F.secFwRollback_counter ≤ (tStartFacts
      true).fw0.rollback) ∧
    (({ tServe with mem := [(5, 1)] }).sec.ownerKey = none) ∧
    (({ (tServe.onWeave fun w => { w with restartDue := true }) with stime := 9, mem := [(5, 1)] }).weave.restartDue =
      true) ∧
    (({ (tServe.onWeave fun w => { w with restartDue := true }) with stime := 9, mem := [(5, 1)] }).pwr.inReset =
      false) ∧
    (({ (tServe.onWeave fun w => { w with restartDue := true }) with stime := 9, mem := [(5, 1)] }).pwr.dead = false) ∧
    (tServe.weave.running = none ∨ tServe.weave.phase = StartPhase.none ∨ tServe.weave.drivesDone = true) ∧
    ((tStarting StartPhase.links [0]).weave.drivesLeft ≠ []) ∧
    ((tStarting StartPhase.links [1]).weave.running = some
      ({ tWeave with drives := [{ port := 0, slot := 0, serial := 1 }, { port := 1, slot := 0, serial := 2 }] })) ∧
    ((tStarting StartPhase.links [1]).weave.phase ≠ StartPhase.none) ∧
    ((tStarting StartPhase.links [1]).weave.drivesDone = false) := by
  decide +kernel

theorem witness_StartsAndReloadsComplete_2 :
    ((tStarting StartPhase.links [1]).weave.drivesLeft = [1]) ∧
    (({ tWeave with drives := [{ port := 0, slot := 0, serial := 1 }, { port := 1, slot := 0, serial := 2 }] }).drives[1]?
      = some { port := 1, slot := 0, serial := 2 }) ∧
    (tServe.weave.running = none ∨ tServe.weave.drivesLeft.contains 0 = false ∨ tServe.weave.drivesDone = true) ∧
    ((tStarting StartPhase.links [1, 0]).weave.running = some
      ({ tWeave with drives := [{ port := 0, slot := 0, serial := 1 }, { port := 1, slot := 0, serial := 2 }] })) ∧
    ((tStarting StartPhase.links [1, 0]).weave.drivesDone = false) ∧
    ((tStarting StartPhase.links [1, 0]).weave.drivesLeft = [1, 0]) ∧
    ((tStarting StartPhase.links []).drive 1 = none) ∧
    ((tStarting StartPhase.links []).weave.phase = StartPhase.links) ∧
    ((tStarting StartPhase.links []).getF F.schedSync_locked = 0) ∧
    (tServe.weave.phase ≠ StartPhase.links ∨ tServe.getF F.schedSync_locked ≠ 0) ∧
    ((tStarting StartPhase.links []).weave.running = none ∨ (tStarting StartPhase.links []).weave.phase ≠
      StartPhase.links ∨ (tStarting StartPhase.links []).weave.drivesDone = false ∨ (tStarting StartPhase.links []).getF
      F.schedSync_locked = 0 ∨ (tStarting StartPhase.links []).windowsHeld = false) ∧
    ((((tStarting StartPhase.links []).onWeave fun w => { w with drivesDone := true }).setF F.schedSync_locked 0
      1).weave.running = some
      ({ tWeave with drives := [{ port := 0, slot := 0, serial := 1 }, { port := 1, slot := 0, serial := 2 }] })) ∧
    ((((tStarting StartPhase.links []).onWeave fun w => { w with drivesDone := true }).setF F.schedSync_locked 0
      1).weave.phase = StartPhase.links) ∧
    ((((tStarting StartPhase.links []).onWeave fun w => { w with drivesDone := true }).setF F.schedSync_locked 0
      1).weave.drivesDone = true) ∧
    ((((tStarting StartPhase.links []).onWeave fun w => { w with drivesDone := true }).setF F.schedSync_locked 0
      1).getF F.schedSync_locked ≠ 0) ∧
    ((((tStarting StartPhase.links []).onWeave fun w => { w with drivesDone := true }).setF F.schedSync_locked 0
      1).windowsHeld = true) ∧
    ((((tStarting StartPhase.links []).onWeave fun w => { w with drivesDone := true }).setF F.schedSync_locked 0
      1).isSource = false) ∧
    ((((tStarting StartPhase.links []).onWeave fun w => { w with drivesDone := true }).setF F.schedSync_locked 0
      1).getF F.schedSync_role ≠ 2) ∧
    ((tStarting StartPhase.joined []).weave.phase = StartPhase.joined) ∧
    ((tStarting StartPhase.joined []).sched.announced = none) := by
  decide +kernel

theorem witness_StartsAndReloadsComplete_3 :
    ((tStarting StartPhase.joined []).getF F.pwrPin_perstLevel = 0) ∧
    ((tStarting StartPhase.links []).weave.phase ≠ StartPhase.joined ∨ (tStarting StartPhase.links []).sched.announced
      ≠ none) ∧
    ((tStarting StartPhase.joined []).weave.phase ≠ StartPhase.joined ∨ (tStarting StartPhase.joined []).weave.formed
      = true ∨ (tStarting StartPhase.joined []).sched.announced ≠ none ∨ BitVec.toNat (tStarting StartPhase.joined
      []).stime < BitVec.toNat (tStarting StartPhase.joined []).weave.joinedAt + (tStarting StartPhase.joined []).act
      F.weaveFormBound_boundS * 1000000000) ∧
    (({ ((tStarting StartPhase.joined []).setF F.schedSync_role 0 1) with stime := 10000000000000 }).weave.phase =
      StartPhase.joined) ∧
    (({ ((tStarting StartPhase.joined []).setF F.schedSync_role 0 1) with stime := 10000000000000 }).weave.formed =
      false) ∧
    (({ ((tStarting StartPhase.joined []).setF F.schedSync_role 0 1) with stime := 10000000000000 }).sched.announced =
      none) ∧
    (({ ((tStarting StartPhase.joined []).setF F.schedSync_role 0 1) with stime := 10000000000000 }).isSource = true) ∧
    (BitVec.toNat
      ({ ((tStarting StartPhase.joined []).setF F.schedSync_role 0 1) with stime := 10000000000000 }).weave.joinedAt +
      ({ ((tStarting StartPhase.joined []).setF F.schedSync_role 0 1) with stime := 10000000000000 }).act
      F.weaveFormBound_boundS * 1000000000 ≤ BitVec.toNat
      ({ ((tStarting StartPhase.joined []).setF F.schedSync_role 0 1) with stime := 10000000000000 }).stime) ∧
    (∀ j ∈ ((tStarting StartPhase.joined []).onWeave fun w => { w with joins := [(0, false)] }).weave.joins, j.1 =
      ((tStarting StartPhase.joined []).onWeave fun w => { w with joins := [(0, false)] }).device) ∧
    (tServe.weave.running = none) ∧
    (((tStarting StartPhase.joined []).setF F.schedSync_role 0 1).weave.running = some
      ({ tWeave with drives := [{ port := 0, slot := 0, serial := 1 }, { port := 1, slot := 0, serial := 2 }] })) ∧
    (((tStarting StartPhase.joined []).setF F.schedSync_role 0 1).isSource = true) ∧
    (1 ≠
      ({ tWeave with drives := [{ port := 0, slot := 0, serial := 1 }, { port := 1, slot := 0, serial := 2 }] }).standDigest) ∧
    (false = false) ∧
    ((((tStarting StartPhase.joined []).setF F.schedSync_role 0 1).onWeave fun w =>
      { w with formed := true }).weave.running = some
      ({ tWeave with drives := [{ port := 0, slot := 0, serial := 1 }, { port := 1, slot := 0, serial := 2 }] })) ∧
    ((((tStarting StartPhase.joined []).setF F.schedSync_role 0 1).onWeave fun w =>
      { w with formed := true }).isSource = true) ∧
    (0 =
      ({ tWeave with drives := [{ port := 0, slot := 0, serial := 1 }, { port := 1, slot := 0, serial := 2 }] }).standDigest
      ∨ false = true) ∧
    ((((tStarting StartPhase.joined []).setF F.schedSync_role 0 1).onWeave fun w =>
      { w with formed := true }).weave.formed = true) ∧
    (1 =
      ({ tWeave with drives := [{ port := 0, slot := 0, serial := 1 }, { port := 1, slot := 0, serial := 2 }] }).standDigest
      ∨ true = true) ∧
    (((tStarting StartPhase.joined []).setF F.schedSync_role 0 1).weave.formed = false) := by
  decide +kernel

theorem witness_StartsAndReloadsComplete_4 :
    ((((tStarting StartPhase.joined []).setF F.schedSync_role 0 1).weave.joins.any fun j => j.1 == 1) = false) ∧
    (tServe.weave.phase ≠ StartPhase.joined) ∧
    ((tServe.setF F.schedSync_role 0 1).isSource = true) ∧
    ((tServe.setF F.schedSync_role 0 1).weave.reloadReady.contains (1, 7) = false) ∧
    (tServe.isSource = false ∨ tServe.weave.reloadReady.contains (1, 7) = true) ∧
    (tServe.weave.staged = none) ∧
    ((tStaged true).weave.staged = some ({ tWeave with imageId := 7 })) ∧
    (({ tWeave with imageId := 7 }).imageId ≠ 6) ∧
    (({ tWeave with imageId := 7 }).imageId = 7) ∧
    ((tServe.setF F.weaveCmd_busy 0 1).getF F.weaveCmd_busy = 1) ∧
    ((tServe.setReg (F.weaveArg_all.off 0) 1).weaveArgOk = false) ∧
    ((tStarting StartPhase.none []).weaveArgOk = true) ∧
    ((tStarting StartPhase.none []).weave.running ≠ none) ∧
    ((tStarting StartPhase.none []).getF F.weaveState_running = 0) ∧
    (tServe.weaveArgOk = true) ∧
    (tFacts.img.partialKind = false) ∧
    (tFacts.bad = none) ∧
    (tServe.getF F.weaveRollback_counter ≤ tFacts.img.rollback) ∧
    ((tStaged true).weave.staged ≠ none) ∧
    ((tStaged true).weave.readySent = true) := by
  decide +kernel

theorem witness_StartsAndReloadsComplete_5 :
    ((tStaged false).weave.staged ≠ none) ∧
    ((tStaged false).weave.readySent = false) := by
  decide +kernel

theorem witness_StartsAndReloadsComplete_6 :
    (tServe.cmdReady (tReg (F.weaveCmd_op.off 0)) F.weaveCmd_op F.weaveCmd_busy 0 (putBits 8 0 3 1)) ∧
    (tServe.cmdReady (tReg (F.weaveCmd_op.off 0)) F.weaveCmd_op F.weaveCmd_busy 0 (putBits 8 0 3 2)) ∧
    (tServe.cmdReady (tReg (F.weaveCmd_op.off 0)) F.weaveCmd_op F.weaveCmd_busy 0 (putBits 0 0 3 3)) ∧
    (tServe.cmdReady (tReg (F.weaveCmd_op.off 0)) F.weaveCmd_op F.weaveCmd_busy 0 (putBits 0 0 3 4)) ∧
    ((tStaged false).cmdReady (tReg (F.weaveCmd_op.off 0)) F.weaveCmd_op F.weaveCmd_busy 0 (putBits 0 0 3 5)) := by
  refine ⟨?_, ?_, ?_, ?_, ?_⟩ <;> (unfold State.cmdReady RegDesc.clean; decide +kernel)

theorem witness_ScanJobsComplete_1 :
    (fitted ({ tServe with code := OrderCode.oz220 }).code F.chkScanCmd_op.base 4 3 = false) ∧
    (fitted (tScan Block.fresh 1).code F.chkScanCmd_op.base 4 0 = true) ∧
    ((tScan Block.fresh 1).getF F.chkScanCmd_busy = 1) ∧
    (fitted (tServe.setF F.chkScanLen_length 3 (2 ^ 26 + 1)).code F.chkScanCmd_op.base 4 3 = true) ∧
    ((tServe.setF F.chkScanLen_length 3 (2 ^ 26 + 1)).getF F.chkScanCmd_busy 3 ≠ 1) ∧
    (regAt (F.chkScanCmd_op.off 3) = some (tReg (F.chkScanCmd_op.off 0))) ∧
    (((tServe.setF F.chkScanLen_length 3 (2 ^ 26 + 1)).cmdWritten (tReg (F.chkScanCmd_op.off 0)) F.chkScanCmd_op 3
      (putBits 0 0 2 2)).scanRange 3 = (0, 2 ^ 26 + 1, some Code.absent)) ∧
    (fitted tServe.code F.chkScanCmd_op.base 4 0 = true) ∧
    (tServe.getF F.chkScanCmd_busy ≠ 1) ∧
    (regAt (F.chkScanCmd_op.off 0) = some (tReg (F.chkScanCmd_op.off 0))) ∧
    ((tServe.cmdWritten (tReg (F.chkScanCmd_op.off 0)) F.chkScanCmd_op 0 (putBits 0 0 2 2)).scanRange 0 = (0, 0, some
      Code.malformed)) ∧
    (fitted (tServe.setF F.chkScanLen_length 0 64).code F.chkScanCmd_op.base 4 0 = true) ∧
    ((tServe.setF F.chkScanLen_length 0 64).getF F.chkScanCmd_busy ≠ 1) ∧
    (((tServe.setF F.chkScanLen_length 0 64).cmdWritten (tReg (F.chkScanCmd_op.off 0)) F.chkScanCmd_op 0 (putBits 0 0
      2 2)).scanRange 0 = (0, 64, none)) ∧
    (tServe.getF F.chkScanCmd_busy 3 = 0) ∧
    ((tScan ({ tLiveB with poison := [0] }) 1).getF F.chkScanCmd_busy = 1) ∧
    ((tScan ({ tLiveB with poison := [0] }) 1).scanRange 0 = (0, 64, none)) ∧
    ((tScan ({ tLiveB with poison := [0] }) 1).waitingAccesses = []) ∧
    ((tScan ({ tLiveB with poison := [0] }) 1).scanPoison 0 64 = some 0) ∧
    (({ (tScan tLiveB 1) with mem := [(3, 9)] }).getF F.chkScanCmd_busy = 1) := by
  decide +kernel

theorem witness_ScanJobsComplete_2 :
    (({ (tScan tLiveB 1) with mem := [(3, 9)] }).scanRange 0 = (0, 64, none)) ∧
    (({ (tScan tLiveB 1) with mem := [(3, 9)] }).waitingAccesses = []) ∧
    (({ (tScan tLiveB 1) with mem := [(3, 9)] }).scanPoison 0 64 = none) ∧
    (({ (tScan tLiveB 1) with mem := [(3, 9)] }).getF F.chkScanCmd_op = 1) ∧
    (({ (tScan tLiveB 2) with mem := [(3, 9)] }).getF F.chkScanCmd_busy = 1) ∧
    (({ (tScan tLiveB 2) with mem := [(3, 9)] }).scanRange 0 = (0, 64, none)) ∧
    (({ (tScan tLiveB 2) with mem := [(3, 9)] }).waitingAccesses = []) ∧
    (({ (tScan tLiveB 2) with mem := [(3, 9)] }).scanPoison 0 64 = none) ∧
    (({ (tScan tLiveB 2) with mem := [(3, 9)] }).getF F.chkScanCmd_op = 2) ∧
    (saOffset (tServe.reg (F.chkScanAddr_addr.off 0)) % 64 ≠ 0 ∨ tServe.getF F.chkScanLen_length = 0) ∧
    (((tServe.setF F.chkScanLen_length 3 (2 ^ 26 + 1)).scanRange 3).2.2 ≠ some Code.malformed) ∧
    ((tServe.setF F.chkScanLen_length 3 (2 ^ 26 + 1)).storeSize < saOffset ((tServe.setF F.chkScanLen_length 3 (2 ^ 26
      + 1)).reg (F.chkScanAddr_addr.off 3)) + (tServe.setF F.chkScanLen_length 3 (2 ^ 26 + 1)).getF F.chkScanLen_length
      3) := by
  decide +kernel

theorem witness_ScanJobsComplete_3 :
    ((tReg (F.chkScanCmd_op.off 0)).clean (putBits 0 0 2 2)) := by
  unfold RegDesc.clean; decide +kernel

theorem witness_SpdmCompletes_1 :
    (State.reset.mgmtServed Transport.i3c false = false) ∧
    ((tServe.onMgt fun m => { m with qMctp := 64 }).mgmtServed Transport.i3c false = true) ∧
    (64 ≤ (tServe.onMgt fun m => { m with qMctp := 64 }).mgt.qMctp) ∧
    (tServe.mgmtServed Transport.i3c false = true) ∧
    (tServe.mgt.qMctp < 64) ∧
    (tServe.spdmStage Transport.i3c ≠ SpdmStage.negotiated) ∧
    (Instr.release Transport.i3c 1 true 5 true ≠ Instr.getVersion Transport.i3c) ∧
    (Instr.release Transport.i3c 1 true 5 true ≠ Instr.getCapabilities Transport.i3c) ∧
    (Instr.release Transport.i3c 1 true 5 true ≠ Instr.negotiateAlgorithms Transport.i3c) ∧
    ((tSpdm fun x => { x with sessions := [{ (tSession Transport.i3c) with finished := false }] }).mgmtServed
      Transport.i3c false = true) ∧
    ((tSpdm fun x => { x with sessions := [{ (tSession Transport.i3c) with finished := false }] }).mgt.qMctp < 64) ∧
    ((tSpdm fun x => { x with sessions := [{ (tSession Transport.i3c) with finished := false }] }).spdmStage
      Transport.i3c = SpdmStage.negotiated) ∧
    (Option.any (fun x => x.finished) ((tSpdm fun x =>
      { x with sessions := [{ (tSession Transport.i3c) with finished := false }] }).session Transport.i3c 1) = false) ∧
    (Instr.heartbeat Transport.i3c 1 = Instr.keyUpdate Transport.i3c 1 ∨ Instr.heartbeat Transport.i3c 1 =
      Instr.heartbeat Transport.i3c 1 ∨ Instr.heartbeat Transport.i3c 1 = Instr.endSession Transport.i3c 1 ∨
      Instr.heartbeat Transport.i3c 1 = Instr.getCsr Transport.i3c 1) ∧
    ((tServe.onMgt fun m => { m with qMctp := 63 }).mgmtServed Transport.i3c false = true) ∧
    ((tServe.onMgt fun m => { m with qMctp := 63 }).mgt.qMctp < 64) ∧
    ((tServe.onSec fun x => { x with i3c := SpdmStage.version }).mgmtServed Transport.i3c false = true) ∧
    ((tServe.onSec fun x => { x with i3c := SpdmStage.version }).mgt.qMctp < 64) ∧
    ((tServe.onSec fun x => { x with i3c := SpdmStage.version }).spdmStage Transport.i3c = SpdmStage.version) ∧
    (tServe.spdmStage Transport.i3c ≠ SpdmStage.version) := by
  decide +kernel

theorem witness_SpdmCompletes_2 :
    ((tServe.onSec fun x => { x with i3c := SpdmStage.capabilities }).mgmtServed Transport.i3c false = true) ∧
    ((tServe.onSec fun x => { x with i3c := SpdmStage.capabilities }).mgt.qMctp < 64) ∧
    ((tServe.onSec fun x => { x with i3c := SpdmStage.capabilities }).spdmStage Transport.i3c =
      SpdmStage.capabilities) ∧
    (tServe.spdmStage Transport.i3c ≠ SpdmStage.capabilities) ∧
    ((tSpdm id).mgmtServed Transport.i3c false = true) ∧
    ((tSpdm id).mgt.qMctp < 64) ∧
    ((tSpdm id).spdmStage Transport.i3c = SpdmStage.negotiated) ∧
    ((tSpdm fun x => { x with sessions := List.replicate 4 (tSession Transport.i3c) }).mgmtServed Transport.i3c false
      = true) ∧
    ((tSpdm fun x => { x with sessions := List.replicate 4 (tSession Transport.i3c) }).mgt.qMctp < 64) ∧
    ((tSpdm fun x => { x with sessions := List.replicate 4 (tSession Transport.i3c) }).spdmStage Transport.i3c =
      SpdmStage.negotiated) ∧
    (4 ≤ (tSpdm fun x => { x with sessions := List.replicate 4 (tSession Transport.i3c) }).sec.sessions.length) ∧
    ((tSpdm fun x => { x with sessions := List.replicate 3 (tSession Transport.i3c) }).mgmtServed Transport.i3c false
      = true) ∧
    ((tSpdm fun x => { x with sessions := List.replicate 3 (tSession Transport.i3c) }).mgt.qMctp < 64) ∧
    ((tSpdm fun x => { x with sessions := List.replicate 3 (tSession Transport.i3c) }).spdmStage Transport.i3c =
      SpdmStage.negotiated) ∧
    ((tSpdm fun x => { x with sessions := List.replicate 3 (tSession Transport.i3c) }).sec.sessions.length < 4) ∧
    ((tSpdm id).session Transport.i3c 1 = none) ∧
    ((tSpdm fun x => { x with sessions := [{ (tSession Transport.i3c) with finished := false }] }).session
      Transport.i3c 1 = some ({ (tSession Transport.i3c) with finished := false })) ∧
    (({ (tSession Transport.i3c) with finished := false }).finished = false) ∧
    ((tSpdm fun x => { x with sessions := [tSession Transport.i3c] }).mgmtServed Transport.i3c false = true) ∧
    ((tSpdm fun x => { x with sessions := [tSession Transport.i3c] }).mgt.qMctp < 64) := by
  decide +kernel

theorem witness_SpdmCompletes_3 :
    ((tSpdm fun x => { x with sessions := [tSession Transport.i3c] }).spdmStage Transport.i3c = SpdmStage.negotiated) ∧
    ((tSpdm fun x => { x with sessions := [tSession Transport.i3c] }).session Transport.i3c 1 = some (tSession
      Transport.i3c)) ∧
    ((tSession Transport.i3c).finished = true) ∧
    (0 ≠ 1 ∨ Option.any (fun x => x.finished) ((tSpdm id).session Transport.i3c 1) = false) ∧
    (Option.any (fun x => x.finished) ((tSpdm fun x => { x with sessions := [tSession Transport.i3c] }).session
      Transport.i3c 1) = true) ∧
    ((tChain true 4).ok = true) ∧
    ((tChain true 4).certs ≤ 4) ∧
    ((tSpdm fun x => { x with sessions := [tSession Transport.i3c] }).sec.ownerKey = none) ∧
    (true = true) ∧
    ((tChain true 5).ok = false ∨ 4 < (tChain true 5).certs) ∧
    ((tSpdm fun x =>
      { x with sessions := [tSession Transport.i3c], ownerKey := some 8, releaseNonce := some 6 }).mgmtServed
      Transport.i3c false = true) ∧
    ((tSpdm fun x =>
      { x with sessions := [tSession Transport.i3c], ownerKey := some 8, releaseNonce := some 6 }).mgt.qMctp < 64) ∧
    ((tSpdm fun x =>
      { x with sessions := [tSession Transport.i3c], ownerKey := some 8, releaseNonce := some 6 }).spdmStage
      Transport.i3c = SpdmStage.negotiated) ∧
    (Option.any (fun x => x.finished) ((tSpdm fun x =>
      { x with sessions := [tSession Transport.i3c], ownerKey := some 8, releaseNonce := some 6 }).session Transport.i3c
      1) = true) ∧
    ((tSpdm fun x =>
      { x with sessions := [tSession Transport.i3c], ownerKey := some 8, releaseNonce := some 6 }).sec.ownerKey ≠ none) ∧
    ((tSpdm fun x =>
      { x with sessions := [tSession Transport.i3c], ownerKey := some 8, releaseNonce := some 6 }).sec.releaseNonce =
      some 6) ∧
    ((tSpdm fun x =>
      { x with sessions := [tSession Transport.i3c], ownerKey := some 8, releaseNonce := none }).mgmtServed
      Transport.i3c false = true) ∧
    ((tSpdm fun x =>
      { x with sessions := [tSession Transport.i3c], ownerKey := some 8, releaseNonce := none }).mgt.qMctp < 64) ∧
    ((tSpdm fun x =>
      { x with sessions := [tSession Transport.i3c], ownerKey := some 8, releaseNonce := none }).spdmStage Transport.i3c
      = SpdmStage.negotiated) ∧
    (Option.any (fun x => x.finished) ((tSpdm fun x =>
      { x with sessions := [tSession Transport.i3c], ownerKey := some 8, releaseNonce := none }).session Transport.i3c
      1) = true) := by
  decide +kernel

theorem witness_SpdmCompletes_4 :
    ((tSpdm fun x =>
      { x with sessions := [tSession Transport.i3c], ownerKey := some 8, releaseNonce := none }).sec.ownerKey ≠ none) ∧
    ((tSpdm fun x =>
      { x with sessions := [tSession Transport.i3c], ownerKey := some 8, releaseNonce := none }).sec.releaseNonce ≠ some
      6) := by
  decide +kernel

theorem witness_RecoveryComplete_1 :
    (tServe.leaseOf 2 9 = none) ∧
    ((tKeeper fun m => { m with records := [tLease 0 1 0] }).leaseOf 2 9 = some (tLease 0 1 0)) ∧
    ((tKeeper fun m => { m with records := [tLease 0 1 0] }).isKeeper = false ∨ (tLease 0 1 0).state ≠ 1 ∨
      BitVec.toNat (tKeeper fun m => { m with records := [tLease 0 1 0] }).wale < BitVec.toNat (tLease 0 1 0).commitWale
      + (tKeeper fun m => { m with records := [tLease 0 1 0] }).act F.mapOfferWales_wales) ∧
    (({ (tKeeper fun m => { m with records := [tLease 1 1 2] }) with wale := 100000 }).leaseOf 2 9 = some (tLease 1 1
      2)) ∧
    (({ (tKeeper fun m => { m with records := [tLease 1 1 2] }) with wale := 100000 }).isKeeper = true) ∧
    ((tLease 1 1 2).state = 1) ∧
    (BitVec.toNat (tLease 1 1 2).commitWale +
      ({ (tKeeper fun m => { m with records := [tLease 1 1 2] }) with wale := 100000 }).act F.mapOfferWales_wales ≤
      BitVec.toNat ({ (tKeeper fun m => { m with records := [tLease 1 1 2] }) with wale := 100000 }).wale) ∧
    (({ (tKeeper fun m => { m with records := [tLease 1 1 2] }) with wale := 100000 }).map.proposals = []) ∧
    ((tKeeper fun m => { m with records := [tLease 1 1 0], handovers := [tHandover false false] }).leaseOf 2 9 = some
      (tLease 1 1 0)) ∧
    ((tKeeper fun m => { m with records := [tLease 1 1 0], handovers := [tHandover false false] }).map.handovers =
      [tHandover false false]) ∧
    ((tHandover false false).kind = 2) ∧
    ((tHandover false false).key = 9) ∧
    ((tHandover false false).giver = false) ∧
    ((tHandover false false).accepted = false) ∧
    ((tLease 1 1 0).state = 1) ∧
    ((tLease 1 1 0).taker = (tKeeper fun m =>
      { m with records := [tLease 1 1 0], handovers := [tHandover false false] }).device) ∧
    (∀ h ∈ tServe.map.handovers, h.kind ≠ 2 ∨ h.key ≠ 9 ∨ h.giver = false ∨ h.accepted = false) ∧
    ((tKeeper fun m => { m with handovers := [tHandover true true] }).map.handovers = [tHandover true true]) ∧
    ((tHandover true true).kind = 2) ∧
    ((tHandover true true).key = 9) := by
  decide +kernel

theorem witness_RecoveryComplete_2 :
    ((tHandover true true).giver = true) ∧
    ((tHandover true true).accepted = true) ∧
    ((tHandover true true).kept = none) ∧
    (MirrorItem.lease 1 (MirrorItem.ctx 0 tCtx) = some (2, 9)) ∧
    (0 < (tKeeper fun m => { m with records := [{ (tLease 0 1 0) with epoch := 1 }] }).leaseEpoch 2 9) ∧
    (MirrorItem.lease 1 (MirrorItem.extents []) = none ∨ False) ∧
    ((tKeeper id).mode = Mode.service) ∧
    ((tKeeper fun m => { m with mirrorOpen := [(1, MirrorItem.extents [tExtent])] }).mode = Mode.service) ∧
    (MirrorItem.boundary 0 = MirrorItem.boundary 0) ∧
    ((tKeeper fun m => { m with mirrorOpen := [(1, MirrorItem.extents [tExtent])] }).map.mirrorOpen = [(1,
      MirrorItem.extents [tExtent])]) ∧
    (tServe.weave.running = none) ∧
    ((tPolicies (tPolicy 1 1)).weave.running = some ({ tWeave with policies := [tPolicy 1 1] })) ∧
    (List.filter (fun x => x.ring == devRing (tPolicies (tPolicy 1 1)).device && x.kinds != 0)
      ({ tWeave with policies := [tPolicy 1 1] }).policies = [tPolicy 1 1]) ∧
    ((tPolicies (tPolicy 1 1)).wale < (tPolicy 1 1).origin ∨ (tPolicy 1 1).period = 0 ∨ (BitVec.toNat (tPolicies
      (tPolicy 1 1)).wale - BitVec.toNat (tPolicy 1 1).origin) % max (tPolicy 1 1).period 1 ≠ 0 ∨ (tPolicies (tPolicy 1
      1)).map.active ≠ none) ∧
    ((tPolicies (tPolicy 0 1)).weave.running = some ({ tWeave with policies := [tPolicy 0 1] })) ∧
    (List.filter (fun x => x.ring == devRing (tPolicies (tPolicy 0 1)).device && x.kinds != 0)
      ({ tWeave with policies := [tPolicy 0 1] }).policies = [tPolicy 0 1]) ∧
    (¬(tPolicies (tPolicy 0 1)).wale < (tPolicy 0 1).origin) ∧
    ((tPolicy 0 1).period ≠ 0) ∧
    ((BitVec.toNat (tPolicies (tPolicy 0 1)).wale - BitVec.toNat (tPolicy 0 1).origin) % max (tPolicy 0 1).period 1 =
      0) ∧
    ((tPolicies (tPolicy 0 1)).map.active = none) := by
  decide +kernel

theorem witness_RecoveryComplete_3 :
    ((tPolicies (tPolicy 0 1)).mayRehearse = false ∨ (tPolicy 0 1).daytime (BitVec.toNat (tPolicies (tPolicy 0
      1)).sched.start) = false) ∧
    (1 ≠ tServe.device) ∧
    (({ (tKeeper fun m => { m with active := some (0, 0) }) with stime := 1000000 }).map.active = some (0,
      ({ (tKeeper fun m => { m with active := some (0, 0) }) with stime := 1000000 }).device)) ∧
    (({ (tKeeper fun m => { m with active := some (0, 0) }) with stime := 1000000 }).mode = Mode.service ∨
      ({ (tKeeper fun m => { m with active := some (0, 0) }) with stime := 1000000 }).mode = Mode.rest) ∧
    (BitVec.toNat ({ (tKeeper fun m => { m with active := some (0, 0) }) with stime := 1000000 }).sched.start +
      ({ (tKeeper fun m => { m with active := some (0, 0) }) with stime := 1000000 }).sched.lenUs * 500 ≤ BitVec.toNat
      ({ (tKeeper fun m => { m with active := some (0, 0) }) with stime := 1000000 }).stime) ∧
    (tServe.map.active ≠ some (0, tServe.device) ∨ BitVec.toNat tServe.stime < BitVec.toNat tServe.sched.start +
      tServe.sched.lenUs * 500) ∧
    ((tServe.setF F.mapCmd_busy 0 1).getF F.mapCmd_busy = 1) ∧
    (((tMapArgs (fun m => { m with records := [tLease 0 1 0] }) 2 9).setF F.mapArg0_origin 0 1).isKeeper = true) ∧
    (((tMapArgs (fun m => { m with records := [tLease 0 1 0] }) 2 9).setF F.mapArg0_origin 0 1).recOf ((tMapArgs (fun
      m => { m with records := [tLease 0 1 0] }) 2 9).setF F.mapArg0_origin 0 1).mapArg = some (tLease 0 1 0)) ∧
    ((tMapArgs id 2 9).isKeeper = true) ∧
    ((tMapArgs id 2 9).recOf (tMapArgs id 2 9).mapArg = none) ∧
    (((tMapArgs (fun m => { m with records := [tLease 1 0 2] }) 2 9).setF F.mapArg0_origin 0 1).recOf ((tMapArgs (fun
      m => { m with records := [tLease 1 0 2] }) 2 9).setF F.mapArg0_origin 0 1).mapArg = some (tLease 1 0 2)) ∧
    ((tLease 1 0 2).state = 1) ∧
    ((tLease 1 0 2).holder = ((tMapArgs (fun m => { m with records := [tLease 1 0 2] }) 2 9).setF F.mapArg0_origin 0
      1).device) ∧
    (devRing ((tMapArgs id 2 9).setF F.mapArg0_device 0 3).mapDevice = devRing ((tMapArgs id 2 9).setF
      F.mapArg0_device 0 3).device) ∧
    (((tMapArgs id 2 9).setF F.mapArg0_device 0 3).fateOf ((tMapArgs id 2 9).setF F.mapArg0_device 0 3).mapDevice =
      none) ∧
    (((tMapArgs id 2 9).setF F.mapArg0_device 0 3).mapDevice ≠ ((tMapArgs id 2 9).setF F.mapArg0_device 0 3).device) ∧
    (((tMapArgs id 2 9).setF F.mapRehearse_active 0 1).getF F.mapRehearse_active = 1) ∧
    (((tMapArgs id 2 9).setF F.mapArg0_injectKind 0 3).getF F.mapRehearse_active ≠ 1) ∧
    (((tMapArgs id 2 9).setF F.mapArg0_injectKind 0 3).getF F.mapArg0_injectKind < 4) := by
  decide +kernel

theorem witness_RecoveryComplete_4 :
    (tServe.mode ≠ Mode.repair ∨ tServe.map.repairStep ≠ 3) ∧
    ((tRepair 2).mode ≠ Mode.repair ∨ (tRepair 2).map.repairStep < 3) ∧
    ((tRepair 3).mode = Mode.repair) ∧
    (3 ≤ (tRepair 3).map.repairStep) ∧
    ((tRepair 7).mode = Mode.repair) ∧
    (3 ≤ (tRepair 7).map.repairStep) ∧
    ((tRepair 3).map.repairStep = 3) ∧
    ((tRepair 3).map.repairStep ≠ 4) ∧
    ((tRepair 4).mode = Mode.repair) ∧
    ((tRepair 4).map.repairStep = 4) ∧
    (tServe.mode ≠ Mode.repair) ∧
    (tServe.map.adopted = none) := by
  decide +kernel

theorem witness_RecoveryComplete_5 :
    ((tMapArgs id 2 9).cmdReady (tReg (F.mapCmd_op.off 0)) F.mapCmd_op F.mapCmd_busy 0 (putBits 0 0 4 1)) ∧
    ((tMapArgs id 2 9).cmdReady (tReg (F.mapCmd_op.off 0)) F.mapCmd_op F.mapCmd_busy 0 (putBits 0 0 4 2)) ∧
    ((tMapArgs id 2 9).cmdReady (tReg (F.mapCmd_op.off 0)) F.mapCmd_op F.mapCmd_busy 0 (putBits 0 0 4 3)) ∧
    ((tMapArgs id 2 9).cmdReady (tReg (F.mapCmd_op.off 0)) F.mapCmd_op F.mapCmd_busy 0 (putBits 0 0 4 4)) ∧
    ((tMapArgs (fun m => { m with records := [fateRec 0 1 1 0 false] }) 2 9).cmdReady (tReg (F.mapCmd_op.off 0))
      F.mapCmd_op F.mapCmd_busy 0 (putBits 0 0 4 5)) ∧
    ((tMapArgs id 2 9).cmdReady (tReg (F.mapCmd_op.off 0)) F.mapCmd_op F.mapCmd_busy 0 (putBits 0 0 4 6)) := by
  refine ⟨?_, ?_, ?_, ?_, ?_, ?_⟩ <;> (unfold State.cmdReady RegDesc.clean; decide +kernel)

theorem witness_InputAndClocksComplete_1 :
    ((tPwr Mode.service fun p => { p with dead := true }).pwr.dead = true) ∧
    (tServe.pwr.dead = false) ∧
    (tServe.mode = Mode.service ∨ tServe.mode = Mode.rest ∨ tServe.mode = Mode.repair) ∧
    (56000 ≤ 56000 ∨ tServe.pwr.dead = true) ∧
    (({ tServe with stime := 4, mem := [(5, 1)] }).pwr.dead = false) ∧
    ((tPwr Mode.slath fun p => { p with overOff := true }).pwr.overOff = true) ∧
    ((tPwr Mode.slath fun p => { p with overOff := true }).pwr.overOff = false ∨ 39999 < 40000 ∨ 56000 < 39999) ∧
    (tServe.code.hasCluster 16 = false) ∧
    ((tServe.setF F.cellCluster_clk 15 2).code.hasCluster 15 = true) ∧
    ((tServe.setF F.cellCluster_clk 15 2).getF F.cellCluster_clk 15 = 2) ∧
    (∀ i < 8, (tServe.setF F.cellCluster_clk 15 2).cellRun (8 * 15 + i) = runIdle ∨ (tServe.setF F.cellCluster_clk 15
      2).cellRun (8 * 15 + i) = runUnallocated) ∧
    (∀ d ∈ (tServe.setF F.cellCluster_clk 15 2).plannedSteps 100000, d.inCluster 15 = false) ∧
    (tServe.code.hasCluster 0 = true) ∧
    (tServe.getF F.cellCluster_clk ≠ 2 ∨ ∃ d ∈ tServe.plannedSteps 100000, d.inCluster 0 = true) ∧
    ((tServe.setF F.cellCluster_clk 0 0).code.hasCluster 0 = true) ∧
    ((tServe.setF F.cellCluster_clk 0 0).getF F.cellCluster_clk = 0) ∧
    ((tServe.setF F.cellCluster_clk 0 1).code.hasCluster 0 = true) ∧
    ((tServe.setF F.cellCluster_clk 0 1).getF F.cellCluster_clk ≠ 0) ∧
    ((tServe.setF F.cellCluster_clk 0 0).mode = Mode.service ∨ (tServe.setF F.cellCluster_clk 0 0).mode = Mode.rest) ∧
    ((tPwr Mode.crust id).code.hasCluster 0 = true) := by
  decide +kernel

theorem witness_InputAndClocksComplete_2 :
    ((tPwr Mode.crust id).mode ≠ Mode.service) ∧
    ((tPwr Mode.crust id).mode ≠ Mode.rest) ∧
    ((tServe.setF F.cellCluster_clk 0 1).getF F.cellCluster_clk = 1) ∧
    ((tServe.setF F.cellCluster_clk 0 0).getF F.cellCluster_clk ≠ 1) := by
  decide +kernel

theorem witness_SleepCompletes_1 :
    ((tServe.setF F.pwrCmd_busy 0 1).getF F.pwrCmd_busy = 1) ∧
    (tServe.sleepRefused = some Code.denied) ∧
    (tRest.applyHeld.sleepRefused = none) ∧
    (tRest.applyHeld.pwr.seq = SleepSeq.none) ∧
    ((tRest.applyHeld.onPwr fun p => { p with seq := SleepSeq.falling false }).sleepRefused = none) ∧
    ((tRest.applyHeld.onPwr fun p => { p with seq := SleepSeq.falling false }).pwr.seq ≠ SleepSeq.none) ∧
    ((tPwr Mode.sleep id).mode = Mode.sleep) ∧
    ((tPwr Mode.sleep id).pwr.seq = SleepSeq.none) ∧
    (tServe.act F.pwrPolicy_sleepOk = 0) ∧
    ((tServe.setF F.mapRole_keeper 0 1).sched.children ≠ [] ∨ (tServe.setF F.mapRole_keeper 0 1).getF F.mapRole_keeper
      = 1 ∨ (tServe.setF F.mapRole_keeper 0 1).isSource = true) ∧
    (tServe.mode ≠ Mode.rest) ∧
    ((tPwr Mode.rest fun p => { p with asleep := [1] }).pwr.asleep.contains (partnerOf (tPwr Mode.rest fun p =>
      { p with asleep := [1] }).device) = true) ∧
    ((tPwr Mode.rest fun p => { p with seq := SleepSeq.falling true }).pwr.seq = SleepSeq.falling true) ∧
    ((tPwr Mode.rest fun p => { p with seq := SleepSeq.falling false }).pwr.seq = SleepSeq.falling false) ∧
    (∀ (c : Bool), tServe.pwr.seq ≠ SleepSeq.falling c) ∧
    ((tPwr Mode.sleep fun p => { p with seq := SleepSeq.waking true }).mode = Mode.sleep) ∧
    ((tPwr Mode.sleep fun p => { p with seq := SleepSeq.waking true }).pwr.seq = SleepSeq.waking true) ∧
    ((tPwr Mode.sleep fun p => { p with seq := SleepSeq.waking true }).pwr.recorded = none) ∧
    ((tPwr Mode.sleep fun p => { p with seq := SleepSeq.waking true, recorded := some 1 }).mode = Mode.sleep) ∧
    ((tPwr Mode.sleep fun p => { p with seq := SleepSeq.waking true, recorded := some 1 }).pwr.seq = SleepSeq.waking
      true) := by
  decide +kernel

theorem witness_SleepCompletes_2 :
    ((tPwr Mode.sleep fun p => { p with seq := SleepSeq.waking true, recorded := some 1 }).pwr.recorded ≠ none) ∧
    (∀ (c : Bool), tServe.pwr.seq ≠ SleepSeq.waking c) ∧
    (tServe.mode ≠ Mode.sleep) ∧
    (WakeCause.lane ≠ WakeCause.wakeN) ∧
    ((tPwr Mode.rest fun p => { p with seq := SleepSeq.falling false }).mode ≠ Mode.sleep) ∧
    (1 ≠ (tPwr Mode.sleep id).device) ∧
    (0 = tServe.device ∨ tServe.pwr.asleep.contains 0 = true) ∧
    (1 ≠ tServe.device) ∧
    (tServe.pwr.asleep.contains 1 = false) ∧
    (1 ≠ predecessorOf tServe.device) ∧
    (tServe.isSource = false) ∧
    (1 ≠ (tServe.setF F.schedSync_role 0 1).device) ∧
    ((tServe.setF F.schedSync_role 0 1).pwr.asleep.contains 1 = false) ∧
    (1 ≠ predecessorOf (tServe.setF F.schedSync_role 0 1).device) ∧
    ((tServe.setF F.schedSync_role 0 1).isSource = true) ∧
    (7 ≠ tServe.device) ∧
    (tServe.pwr.asleep.contains 7 = false) ∧
    (7 = predecessorOf tServe.device) ∧
    (1 = tServe.device ∨ tServe.pwr.asleep.contains 1 = false) ∧
    (1 ≠ (tPwr Mode.service fun p => { p with asleep := [1], holds := [tHeldPacket false] }).device) := by
  decide +kernel

theorem witness_SleepCompletes_3 :
    ((tPwr Mode.service fun p => { p with asleep := [1], holds := [tHeldPacket false] }).pwr.asleep.contains 1 = true) ∧
    ((tPwr Mode.service fun p => { p with asleep := [1], holds := [tHeldPacket false] }).isSource = false) ∧
    (∀ h ∈ tServe.pwr.holds, h.packet.target ≠ 1 ∨ h.packet.tag ≠ 6) ∧
    (List.find? (fun h => h.packet.target == 1 && h.packet.tag == 6) (tPwr Mode.service fun p =>
      { p with asleep := [1], holds := [tHeldPacket true] }).pwr.holds = some (tHeldPacket true)) ∧
    ((tHeldPacket true).packet.posted = true ∨ (tHeldPacket true).issuer = none) := by
  decide +kernel

theorem witness_SleepCompletes_4 :
    (tServe.cmdReady (tReg (F.pwrCmd_op.off 0)) F.pwrCmd_op F.pwrCmd_busy 0 (putBits 0 0 2 1)) ∧
    (tRest.applyHeld.cmdReady (tReg (F.pwrCmd_op.off 0)) F.pwrCmd_op F.pwrCmd_busy 0 (putBits 0 0 2 1)) ∧
    ((tRest.applyHeld.onPwr fun p => { p with seq := SleepSeq.falling false }).cmdReady (tReg (F.pwrCmd_op.off 0))
      F.pwrCmd_op F.pwrCmd_busy 0 (putBits 0 0 2 1)) ∧
    ((tPwr Mode.sleep id).cmdReady (tReg (F.pwrCmd_op.off 0)) F.pwrCmd_op F.pwrCmd_busy 0 (putBits 0 0 2 2)) ∧
    (tServe.cmdReady (tReg (F.pwrCmd_op.off 0)) F.pwrCmd_op F.pwrCmd_busy 0 (putBits 0 0 2 2)) := by
  refine ⟨?_, ?_, ?_, ?_, ?_⟩ <;> (unfold State.cmdReady RegDesc.clean; decide +kernel)

theorem witness_DieAndThermalComplete_1 :
    (tServe.code.hasDie DieKind.sorus 2 = false) ∧
    ((tPwr Mode.service fun p => { p with failed := [(DieKind.sorus, 1)] }).code.hasDie DieKind.sorus 1 = true) ∧
    ((DieKind.sorus, 1) ∈ (tPwr Mode.service fun p => { p with failed := [(DieKind.sorus, 1)] }).pwr.failed ∨ (tPwr
      Mode.service fun p => { p with failed := [(DieKind.sorus, 1)] }).pwr.dead = true) ∧
    (tServe.code.hasDie DieKind.frond 3 = true) ∧
    ((DieKind.frond, 3) ∉ tServe.pwr.failed) ∧
    (tServe.pwr.dead = false) ∧
    (tServe.mode = Mode.service ∨ tServe.mode = Mode.rest) ∧
    (tServe.code.hasDie DieKind.sorus 1 = true) ∧
    ((DieKind.sorus, 1) ∉ tServe.pwr.failed) ∧
    (tServe.code.hasDie DieKind.rand 0 = true) ∧
    ((DieKind.rand, 0) ∉ tServe.pwr.failed) ∧
    (tServe.code.hasDie DieKind.rand 1 = true) ∧
    ((DieKind.rand, 1) ∉ tServe.pwr.failed) ∧
    ((tPwr Mode.service fun p => { p with failed := [(DieKind.rand, 1)] }).code.hasDie DieKind.rand 0 = true) ∧
    ((DieKind.rand, 0) ∉ (tPwr Mode.service fun p => { p with failed := [(DieKind.rand, 1)] }).pwr.failed) ∧
    ((tPwr Mode.service fun p => { p with failed := [(DieKind.rand, 1)] }).pwr.dead = false) ∧
    ((tPwr Mode.service fun p => { p with failed := [(DieKind.rand, 1)] }).mode = Mode.service ∨ (tPwr Mode.service
      fun p => { p with failed := [(DieKind.rand, 1)] }).mode = Mode.rest) ∧
    (DieKind.rand = DieKind.rand) ∧
    (({ tServe with code := OrderCode.oz220 }).code.hasDie DieKind.rand 0 = true) ∧
    ((DieKind.rand, 0) ∉ ({ tServe with code := OrderCode.oz220 }).pwr.failed) := by
  decide +kernel

theorem witness_DieAndThermalComplete_2 :
    (({ tServe with code := OrderCode.oz220 }).pwr.dead = false) ∧
    (({ tServe with code := OrderCode.oz220 }).mode = Mode.service ∨ ({ tServe with code := OrderCode.oz220 }).mode =
      Mode.rest) ∧
    (((tBlock tLiveB).blk 0).state = BState.live) ∧
    ((tBlock tLiveB).frameOn DieKind.frond 0 0 ((tBlock tLiveB).blk 0).liveTier = true) ∧
    ((tBlock tLiveB).frameOn DieKind.frond 1 0 ((tBlock tLiveB).blk 0).liveTier = false) ∧
    (tServe.hasSensor 16 = false) ∧
    (tServe.hasSensor 15 = true) ∧
    (tServe.pwr.dead = true ∨ tServe.pwr.thermOff = true ∨ tServe.pwr.overOff = true ∨ 1 = 0 ∨ 3 < 1 ∨ 339 < stageAt
      15 1) ∧
    (tServe.pwr.dead = true ∨ tServe.pwr.thermOff = true ∨ tServe.pwr.overOff = true ∨ 4 = 0 ∨ 3 < 4 ∨ 1000 < stageAt
      15 4) ∧
    (tServe.pwr.thermOff = false) ∧
    (tServe.pwr.overOff = false) ∧
    (stageAt 15 1 ≤ 340) ∧
    (tServe.hasSensor 0 = true) ∧
    (stageAt 0 1 ≤ 1023) ∧
    (stageAt 0 2 ≤ 420) ∧
    (({ tServe with mem := [(5, 1)] }).hasSensor 0 = true) ∧
    (({ tServe with mem := [(5, 1)] }).pwr.dead = false) ∧
    (({ tServe with mem := [(5, 1)] }).pwr.thermOff = false) ∧
    (({ tServe with mem := [(5, 1)] }).pwr.overOff = false) ∧
    (stageAt 0 3 ≤ 460) := by
  decide +kernel

theorem witness_DieAndThermalComplete_3 :
    ((tServe.setF F.pwrState_stage 0 2).pwr.dead = false) ∧
    ((List.replicate 16 300).length = 16) ∧
    ((List.replicate 16 340).length = 16) ∧
    ((tPwr Mode.slath fun p => { p with thermOff := true }).pwr.thermOff = true) := by
  decide +kernel

theorem witness_PinsComplete_1 :
    (tServe.pwr.dead = true ∨ tServe.getF Pin.wake.fields.2 = 1 ∨ tServe.getF Pin.wake.fields.1 = false.toNat) ∧
    (tServe.pwr.dead = false) ∧
    (tServe.getF Pin.wake.fields.2 ≠ 1) ∧
    (tServe.getF Pin.wake.fields.1 ≠ true.toNat) ∧
    ((List.filter (fun e => decide (BitVec.toNat tServe.stime < BitVec.toNat e + 1000000000)) (tServe.pwr.edges.get
      Pin.wake.num [])).length < 16) ∧
    (tServe.getF Pin.perst.fields.2 ≠ 1) ∧
    (tServe.getF Pin.perst.fields.1 ≠ true.toNat) ∧
    ((List.filter (fun e => decide (BitVec.toNat tServe.stime < BitVec.toNat e + 1000000000)) (tServe.pwr.edges.get
      Pin.perst.num [])).length < 16) ∧
    ((tPwr Mode.service fun p => { p with edges := [(1, List.replicate 16 0)] }).pwr.dead = false) ∧
    ((tPwr Mode.service fun p => { p with edges := [(1, List.replicate 16 0)] }).getF Pin.perst.fields.2 ≠ 1) ∧
    ((tPwr Mode.service fun p => { p with edges := [(1, List.replicate 16 0)] }).getF Pin.perst.fields.1 ≠ true.toNat) ∧
    (16 ≤ (List.filter (fun e => decide (BitVec.toNat (tPwr Mode.service fun p =>
      { p with edges := [(1, List.replicate 16 0)] }).stime < BitVec.toNat e + 1000000000)) ((tPwr Mode.service fun p =>
      { p with edges := [(1, List.replicate 16 0)] }).pwr.edges.get Pin.perst.num [])).length) ∧
    (((tPwr Mode.slath fun p => { p with inReset := true }).setF F.pwrPin_perstLevel 0 1).pwr.dead = false) ∧
    (((tPwr Mode.slath fun p => { p with inReset := true }).setF F.pwrPin_perstLevel 0 1).getF Pin.perst.fields.2 ≠ 1) ∧
    (((tPwr Mode.slath fun p => { p with inReset := true }).setF F.pwrPin_perstLevel 0 1).getF Pin.perst.fields.1 ≠
      false.toNat) ∧
    ((tServe.setF F.pwrPin_thermLevel 0 1).pwr.dead = false) ∧
    ((tServe.setF F.pwrPin_thermLevel 0 1).getF Pin.therm.fields.2 ≠ 1) ∧
    ((tServe.setF F.pwrPin_thermLevel 0 1).getF Pin.therm.fields.1 ≠ false.toNat) ∧
    ((List.filter (fun e => decide (BitVec.toNat (tServe.setF F.pwrPin_thermLevel 0 1).stime < BitVec.toNat e +
      1000000000)) ((tServe.setF F.pwrPin_thermLevel 0 1).pwr.edges.get Pin.therm.num [])).length < 16) ∧
    ((tServe.setF F.pwrPin_thermLevel 0 1).pwr.dead = true ∨ (tServe.setF F.pwrPin_thermLevel 0 1).getF
      F.pwrPin_thermState = 1 ∨ (tServe.setF F.pwrPin_thermLevel 0 1).getF F.pwrPin_thermLevel = 1) := by
  decide +kernel

theorem witness_PinsComplete_2 :
    (tServe.getF F.pwrPin_thermState ≠ 1) ∧
    (tServe.getF F.pwrPin_thermLevel ≠ 1) ∧
    (tServe.mode = Mode.service ∨ tServe.mode = Mode.rest) ∧
    ((tPwr Mode.sleep id).pwr.dead = false) ∧
    ((tPwr Mode.sleep id).getF F.pwrPin_wakeState ≠ 1) ∧
    ((tPwr Mode.sleep id).getF F.pwrPin_wakeLevel ≠ 1) ∧
    ((tPwr Mode.sleep id).mode = Mode.sleep) ∧
    ((tPwr Mode.sleep id).pwr.seq = SleepSeq.none) ∧
    ((tServe.setF F.pwrPin_wakeLevel 0 1).pwr.dead = false) ∧
    ((tServe.setF F.pwrPin_wakeLevel 0 1).getF F.pwrPin_wakeState ≠ 1) ∧
    ((tServe.setF F.pwrPin_wakeLevel 0 1).getF F.pwrPin_wakeLevel ≠ 0) ∧
    (({ tServe with stime := 8, mem := [(5, 1)] }).pwr.dead = false) ∧
    (({ tServe with stime := 8, mem := [(5, 1)] }).getF F.pwrPin_perstState ≠ 1) ∧
    (({ tServe with stime := 8, mem := [(5, 1)] }).getF F.pwrPin_perstLevel ≠ 1) ∧
    (({ tServe with stime := 8, mem := [(5, 1)] }).weave.phase = StartPhase.none) ∧
    ((tStarting StartPhase.links []).pwr.dead = false) ∧
    ((tStarting StartPhase.links []).getF F.pwrPin_perstState ≠ 1) ∧
    ((tStarting StartPhase.links []).getF F.pwrPin_perstLevel ≠ 1) ∧
    ((tStarting StartPhase.links []).weave.phase ≠ StartPhase.none) ∧
    (((tPwr Mode.slath fun p => { p with inReset := true }).setF F.pwrPin_perstLevel 0 1).getF F.pwrPin_perstState ≠
      1) := by
  decide +kernel

theorem witness_PinsComplete_3 :
    (((tPwr Mode.slath fun p => { p with inReset := true }).setF F.pwrPin_perstLevel 0 1).getF F.pwrPin_perstLevel ≠
      0) ∧
    (((tPwr Mode.slath fun p => { p with inReset := true }).setF F.pwrPin_perstLevel 0 1).pwr.inReset = true) ∧
    ((tServe.setF F.pwrPin_perstLevel 0 1).pwr.dead = false) ∧
    ((tServe.setF F.pwrPin_perstLevel 0 1).getF F.pwrPin_perstState ≠ 1) ∧
    ((tServe.setF F.pwrPin_perstLevel 0 1).getF F.pwrPin_perstLevel ≠ 0) ∧
    ((tServe.setF F.pwrPin_perstLevel 0 1).pwr.inReset = false) ∧
    ((tServe.setF F.pwrPin_perstState 0 1).getF Pin.perst.fields.2 = 1) ∧
    ((tServe.setF F.pwrPin_thermState 0 1).getF Pin.therm.fields.2 = 1) ∧
    (tServe.getF Pin.wake.fields.1 ≠ 1 ∨ tServe.getF Pin.wake.fields.2 ≠ 0) ∧
    ((tServe.setF F.pwrPin_wakeLevel 0 1).getF Pin.wake.fields.1 = 1) ∧
    ((tServe.setF F.pwrPin_wakeLevel 0 1).getF Pin.wake.fields.2 = 0) := by
  decide +kernel

theorem witness_ManagementRequestsComplete_1 :
    (State.reset.mgmtServed Transport.i3c false = false) ∧
    ((tMgt fun m => { m with qMctp := 64 }).mgmtServed Transport.i3c false = true) ∧
    (64 ≤ (tMgt fun m => { m with qMctp := 64 }).mgt.qMctp) ∧
    ((tMgt fun m => { m with flash := [tFault 1, tFault 2], qMctp := 63 }).mgmtServed Transport.i3c false = true) ∧
    ((tMgt fun m => { m with flash := [tFault 1, tFault 2], qMctp := 63 }).mgt.qMctp < 64) ∧
    (tServe.mgmtServed Transport.i3c false = true) ∧
    (tServe.mgt.qMctp < 64) ∧
    ((tMgt fun m => { m with qTel := 32 }).mgmtServed Transport.i3c false = true) ∧
    ((tMgt fun m => { m with qTel := 32 }).mgt.shedTel = true ∨ 32 ≤ (tMgt fun m => { m with qTel := 32 }).mgt.qTel) ∧
    (tServe.mgt.shedTel = false) ∧
    (tServe.mgt.qTel < 32) ∧
    (tServe.code = OrderCode.oz880) ∧
    (Transport.cxl = Transport.cxl) ∧
    (((tPwr Mode.sleep id).setF F.hptLink_state 0 2).mode = Mode.sleep) ∧
    (((tPwr Mode.sleep id).setF F.hptLink_state 0 2).getF F.hptLink_state = 2) ∧
    (State.reset.mode = Mode.slath) ∧
    (tServe.mode ≠ Mode.slath) ∧
    ((tMgt fun m => { m with qMctp := 64 }).mode ≠ Mode.slath) ∧
    ((tPwr Mode.sleep id).mode = Mode.sleep) ∧
    (Transport.i3c = Transport.i3c) := by
  decide +kernel

theorem witness_ManagementRequestsComplete_2 :
    (tServe.mode ≠ Mode.sleep) ∧
    (tServe.mgmtServed Transport.cxl true = false) ∧
    ((tMgt fun m => { m with qMctp := 64 }).mode ≠ Mode.sleep) ∧
    ((tMgt fun m => { m with qMctp := 64 }).mgmtServed Transport.i3c true = true) ∧
    (tServe.mgmtServed Transport.i3c true = true) ∧
    ((tServe.setF F.mgtFw_update 0 1).mode ≠ Mode.sleep) ∧
    ((tServe.setF F.mgtFw_update 0 1).mgmtServed Transport.i3c true = true) ∧
    ((tServe.setF F.mgtFw_update 0 1).mgt.qMctp < 64) ∧
    (State.reset.mode ≠ Mode.sleep) ∧
    (State.reset.mgmtServed Transport.i3c true = true) ∧
    (State.reset.mgt.qMctp < 64) ∧
    (State.reset.getF F.secFwRollback_counter ≤ 0) ∧
    ((tServe.setF F.mgtFw_update 0 3).mode ≠ Mode.sleep) ∧
    ((tServe.setF F.mgtFw_update 0 3).mgmtServed Transport.i3c true = true) ∧
    ((tServe.setF F.mgtFw_update 0 3).mgt.qMctp < 64) ∧
    ((tServe.setF F.mgtFw_update 0 3).getF F.mgtFw_update = updStaged) ∧
    (tServe.getF F.mgtFw_update ≠ updStaged) := by
  decide +kernel

theorem witness_ManagementProcessorCompletes_1 :
    ((tPwr Mode.slath fun p => { p with inReset := true }).mgmtRuns = false) ∧
    ((tMgt fun m => { m with qMctp := 3, shedTel := true }).mgmtRuns = true) ∧
    ((tMgt fun m => { m with ring := [(1, tFault 1)], unlogged := [1], qMctp := 3, shedTel := true }).mgmtRuns = true) ∧
    ((tMgt fun m => { m with ring := [(1, tFault 1)], unlogged := [1], shedTel := true, shedLog := true }).mgmtRuns =
      true) ∧
    ((tMgt fun m => { m with shedTel := true }).mgmtRuns = true) ∧
    (tServe.mgmtRuns = true) ∧
    (tServe.mgt.stallMs < tServe.act F.mgtWatchdog_restartMs) ∧
    ((tMgt fun m => { m with stallMs := 1000000 }).mgmtRuns = true) ∧
    ((tMgt fun m => { m with stallMs := 1000000 }).act F.mgtWatchdog_restartMs ≤ (tMgt fun m =>
      { m with stallMs := 1000000 }).mgt.stallMs) ∧
    (((tMgt fun m => { m with stallMs := 1000000 }).setF F.mgtFw_update 0 1).mgmtRuns = true) ∧
    (((tMgt fun m => { m with stallMs := 1000000 }).setF F.mgtFw_update 0 1).act F.mgtWatchdog_restartMs ≤ ((tMgt fun
      m => { m with stallMs := 1000000 }).setF F.mgtFw_update 0 1).mgt.stallMs) ∧
    (BitVec.toNat tServe.wale % tServe.mgt.telInterval ≠ 0 ∨ tServe.wale = tServe.mgt.telStart) ∧
    (2 ∉ [16, 8, 4] ∨ tServe.mgmtRuns = false ∨ tServe.getF F.pwrState_shadow ≠ 0) ∧
    (8 ∉ [16, 8, 4] ∨ (tPwr Mode.sleep fun p => { p with inReset := true }).mgmtRuns = false ∨ (tPwr Mode.sleep fun p
      => { p with inReset := true }).getF F.pwrState_shadow ≠ 0) ∧
    (16 ∈ [16, 8, 4]) ∧
    (tServe.getF F.pwrState_shadow = 0) ∧
    (4 ∈ [16, 8, 4]) ∧
    (BitVec.toNat ({ tServe with wale := 1000 }).wale % ({ tServe with wale := 1000 }).mgt.telInterval = 0) ∧
    (({ tServe with wale := 1000 }).wale ≠ ({ tServe with wale := 1000 }).mgt.telStart) := by
  decide +kernel

theorem witness_FaultRecordsAndAttention_1 :
    (((tMgt fun m => { m with ring := [(1, tFault 513), (2, tFault 2)] }).setF F.mgtFaultSeq_seq 0 513).getF
      F.mgtFaultSeq_seq ≠ 0) ∧
    (List.find? (fun e => e.1 == ((tMgt fun m => { m with ring := [(1, tFault 513), (2, tFault 2)] }).setF
      F.mgtFaultSeq_seq 0 513).getF F.mgtFaultSeq_seq % 512) ((tMgt fun m =>
      { m with ring := [(1, tFault 513), (2, tFault 2)] }).setF F.mgtFaultSeq_seq 0 513).mgt.ring = some (((tMgt fun m
      => { m with ring := [(1, tFault 513), (2, tFault 2)] }).setF F.mgtFaultSeq_seq 0 513).getF F.mgtFaultSeq_seq %
      512, tFault 513)) ∧
    ((tFault 513).seq = ((tMgt fun m => { m with ring := [(1, tFault 513), (2, tFault 2)] }).setF F.mgtFaultSeq_seq 0
      513).getF F.mgtFaultSeq_seq) ∧
    ((tFault 513).block = 7) ∧
    ((tFault 513).bit = 2) ∧
    (BitVec.toNat ((tMgt fun m => { m with ring := [(1, tFault 513), (2, tFault 2)] }).setF F.mgtFaultSeq_seq 0
      513).stime < BitVec.toNat (tFault 513).stime + 1000000) ∧
    (({ ((tMgt fun m => { m with ring := [(1, { (tFault 513) with count := 65535 })] }).setF F.mgtFaultSeq_seq 0 513) with stime := 999999 }).getF
      F.mgtFaultSeq_seq ≠ 0) ∧
    (List.find? (fun e => e.1 ==
      ({ ((tMgt fun m => { m with ring := [(1, { (tFault 513) with count := 65535 })] }).setF F.mgtFaultSeq_seq 0 513) with stime := 999999 }).getF
      F.mgtFaultSeq_seq % 512)
      ({ ((tMgt fun m => { m with ring := [(1, { (tFault 513) with count := 65535 })] }).setF F.mgtFaultSeq_seq 0 513) with stime := 999999 }).mgt.ring
      = some
      (({ ((tMgt fun m => { m with ring := [(1, { (tFault 513) with count := 65535 })] }).setF F.mgtFaultSeq_seq 0 513) with stime := 999999 }).getF
      F.mgtFaultSeq_seq % 512, { (tFault 513) with count := 65535 })) ∧
    (({ (tFault 513) with count := 65535 }).seq =
      ({ ((tMgt fun m => { m with ring := [(1, { (tFault 513) with count := 65535 })] }).setF F.mgtFaultSeq_seq 0 513) with stime := 999999 }).getF
      F.mgtFaultSeq_seq) ∧
    (({ (tFault 513) with count := 65535 }).block = 7) ∧
    (({ (tFault 513) with count := 65535 }).bit = 2) ∧
    (BitVec.toNat
      ({ ((tMgt fun m => { m with ring := [(1, { (tFault 513) with count := 65535 })] }).setF F.mgtFaultSeq_seq 0 513) with stime := 999999 }).stime
      < BitVec.toNat ({ (tFault 513) with count := 65535 }).stime + 1000000) := by
  decide +kernel

end Sys2Proof.Tests
end

section
/-! Settles O5: the access types of R10 and the offsets at which no register lies (R697). -/
namespace Sys2Proof.Machine

/-! ### The fields of a register do not meet -/

/-- Two fields share no bit. -/
def Fld.apart (f g : Fld) : Prop := f.lo + f.width ≤ g.lo ∨ g.lo + g.width ≤ f.lo

theorem fieldsRise_bounds (fs : List Fld) : ∀ lo, fieldsRise lo (fs.map fun f => (f.lo, f.width)) = true →
    ∀ f ∈ fs, lo ≤ f.lo ∧ f.lo + f.width ≤ 64 := by
  induction fs with
  | nil => intro lo _ f hf; cases hf
  | cons g r ih =>
    intro lo h f hf
    simp only [List.map_cons, fieldsRise, Bool.and_eq_true, decide_eq_true_eq] at h
    obtain ⟨hlo, hr⟩ := h
    rcases List.mem_cons.mp hf with rfl | hf
    · exact ⟨hlo, fieldsRise_le _ _ hr⟩
    · obtain ⟨hle, hend⟩ := ih _ hr f hf
      exact ⟨by omega, hend⟩

/-! ### Clearing the RC fields -/

/-- What an 8-byte read does to one field of the register's word (R10). -/
def Fld.clearRc (w : Word) (f : Fld) : Word := if f.acc = .rc then putBits w f.lo f.width 0 else w

theorem RegDesc.cleared_eq_foldl (d : RegDesc) (w : Word) : d.cleared w = d.fields.foldl Fld.clearRc w := rfl

theorem fieldOf_clearRc_same (w : Word) (f : Fld) (h : f.lo + f.width ≤ 64) :
    fieldOf (f.clearRc w) f.lo f.width = if f.acc = .rc then 0 else fieldOf w f.lo f.width := by
  unfold Fld.clearRc
  split
  · rw [fieldOf_putBits_same _ _ _ _ h, Nat.zero_mod]
  · rfl

theorem fieldOf_clearRc_apart (w : Word) {f g : Fld} (h : g.lo + g.width ≤ 64) (hd : f.apart g) :
    fieldOf (g.clearRc w) f.lo f.width = fieldOf w f.lo f.width := by
  unfold Fld.clearRc
  split
  · exact fieldOf_putBits_disjoint _ _ _ _ _ _ h hd
  · rfl

theorem fieldOf_foldl_clearRc_apart (f : Fld) (fs : List Fld) : ∀ w : Word,
    (∀ g ∈ fs, g.lo + g.width ≤ 64 ∧ f.apart g) →
    fieldOf (fs.foldl Fld.clearRc w) f.lo f.width = fieldOf w f.lo f.width := by
  induction fs with
  | nil => intro w _; rfl
  | cons g r ih =>
    intro w h
    obtain ⟨hg, hd⟩ := h g List.mem_cons_self
    rw [List.foldl_cons, ih _ fun g hg => h g (List.mem_cons_of_mem _ hg), fieldOf_clearRc_apart w hg hd]

theorem fieldOf_foldl_clearRc (fs : List Fld) : ∀ (lo : Nat) (w : Word),
    fieldsRise lo (fs.map fun f => (f.lo, f.width)) = true → ∀ f ∈ fs,
    fieldOf (fs.foldl Fld.clearRc w) f.lo f.width = if f.acc = .rc then 0 else fieldOf w f.lo f.width := by
  induction fs with
  | nil => intro lo w _ f hf; cases hf
  | cons g r ih =>
    intro lo w h f hf
    simp only [List.map_cons, fieldsRise, Bool.and_eq_true] at h
    have hr := fieldsRise_bounds r _ h.2
    have hg : g.lo + g.width ≤ 64 := fieldsRise_le _ _ h.2
    rw [List.foldl_cons]
    rcases List.mem_cons.mp hf with rfl | hf
    · rw [fieldOf_foldl_clearRc_apart f r _ fun e he => ⟨(hr e he).2, .inl (hr e he).1⟩, fieldOf_clearRc_same w f hg]
    · rw [ih _ _ h.2 f hf, fieldOf_clearRc_apart w hg (.inr (hr f hf).1)]

/-- An RC field of a cleared register reads 0, any other its old value. -/
theorem RegDesc.fieldOf_cleared {off : Nat} {d : RegDesc} (h : regAt off = some d) {f : Fld} (hf : f ∈ d.fields) (w : Word) :
    fieldOf (d.cleared w) f.lo f.width = if f.acc = .rc then 0 else fieldOf w f.lo f.width := by
  rw [d.cleared_eq_foldl]
  exact fieldOf_foldl_clearRc d.fields 0 w (regAt_fieldsRise off d h) f hf

/-! ### Registers whose read shows the state of a block

The value of such a register is not the stored word; every field of it is RO, so no access type but RO meets a view. -/

/-- The bases at which `State.regValue` puts something into the stored word. -/
def viewedBases : List Nat :=
  [F.schedWale_wale, F.schedStime_stime, F.schedHold_localCause, F.schedTrack_tenant, F.svcCtxUsed_live,
    F.svcAperture_lines, F.svcCtx_state, F.srchCtxUsed_home, F.srchArray_state, F.srchShard_state, F.swcReplayUsed_kib,
    F.swcReseqUsed_slots, F.swcOut_usedKib, F.hptDirUsed_used, F.hptCom_valid, F.hptComVer_latest, F.mapMirror_used,
    F.mgtFault_word, F.pwrState_mode, F.pwrPin_wakeLevel, F.pwrRail_mv, F.tierStream_layer, F.xltUsed_used,
    F.xltFillOpen_open, F.pwrInput_mv, F.pwrEnergy_joules].map Fld.base

/-- In a list of registers, those with a viewed base hold RO fields alone. -/
def viewsReadOnly (l : List RegDesc) : Bool := l.all fun d => !viewedBases.contains d.base || d.fields.all (·.acc == .ro)

theorem viewsReadOnly_ite {c : Prop} [Decidable c] {a b : List RegDesc} (ha : viewsReadOnly a = true)
    (hb : viewsReadOnly b = true) : viewsReadOnly (if c then a else b) = true := by
  split
  · exact ha
  · exact hb

theorem blockRegs_viewsReadOnly (off : Nat) : viewsReadOnly (blockRegs off) = true := by
  unfold blockRegs
  iterate 16 refine viewsReadOnly_ite (by decide +kernel) ?_
  rfl

/-- A register with a field that is not RO has no view. -/
theorem regAt_base_not_viewed {off : Nat} {d : RegDesc} (h : regAt off = some d) {f : Fld} (hf : f ∈ d.fields)
    (ha : f.acc ≠ .ro) : d.base ∉ viewedBases := by
  intro hv
  have hd := List.all_eq_true.mp (blockRegs_viewsReadOnly off) d (List.mem_of_find?_eq_some h)
  simp only [List.contains_iff_mem.mpr hv, Bool.not_true, Bool.false_or, List.all_eq_true, beq_iff_eq] at hd
  exact ha (hd f hf)

/-- A fitted register without a view reads as its stored word: each of the five view functions leaves the word as it is. -/
theorem State.regValue_of_not_viewed (s : State) {off : Nat} {d : RegDesc} (h : regAt off = some d)
    (hfit : s.fits d off = true) (hv : d.base ∉ viewedBases) : s.regValue off = (s.reg off, s) := by
  unfold State.fits at hfit
  simp only [viewedBases, List.map_cons, List.mem_cons, not_or] at hv
  simp only [State.regValue, h, hfit, Bool.not_true, Bool.false_eq_true, if_false, State.deviceView, State.schedView,
    State.serviceView, State.fabricView, State.analogue, hv]

/-! ### Reads -/

theorem exec_registerReadClear (off : RegOff) (s : State) :
    exec (.registerReadClear off) s = .next ((s.readReg off.toNat).2.emit (.reg off.toNat (s.readReg off.toNat).1)) := rfl

theorem State.analogue_snd (s : State) (base : Nat) (w : Word) : ∃ n, (s.analogue base w).2 = { s with free := n } := by
  unfold State.analogue
  dsimp only
  split
  · exact ⟨_, rfl⟩
  split
  · exact ⟨_, rfl⟩
  split
  · exact ⟨_, rfl⟩
  · exact ⟨s.free, rfl⟩

/-- Finding a register's value takes at most a free value. -/
theorem State.regValue_snd (s : State) (off : Nat) : ∃ n, (s.regValue off).2 = { s with free := n } := by
  unfold State.regValue
  split
  · exact ⟨s.free, rfl⟩
  · dsimp only
    split
    · exact ⟨s.free, rfl⟩
    · exact s.analogue_snd _ _

theorem State.readReg_fst (s : State) (off : Nat) : (s.readReg off).1 = (s.regValue off).1 := by
  unfold State.readReg
  dsimp only
  split
  · split <;> rfl
  · rfl

theorem State.readReg_out (s : State) (off : Nat) : (s.readReg off).2.out = s.out := by
  obtain ⟨n, hn⟩ := s.regValue_snd off
  unfold State.readReg
  dsimp only
  rw [hn]
  split
  · split <;> rfl
  · rfl

/-- After a read, an RC field of the register holds 0 and any other what it held. -/
theorem State.fieldOf_reg_readReg (s : State) {off : Nat} {d : RegDesc} (h : regAt off = some d) {f : Fld} (hf : f ∈ d.fields) :
    fieldOf ((s.readReg off).2.reg off) f.lo f.width =
      if f.acc = .rc then 0 else fieldOf (s.reg off) f.lo f.width := by
  obtain ⟨n, hn⟩ := s.regValue_snd off
  unfold State.readReg
  simp only [h, hn]
  split
  · rw [State.reg_setReg_same]
    exact RegDesc.fieldOf_cleared h hf _
  · next hno =>
    have hrc : f.acc ≠ .rc := fun e => hno (List.any_eq_true.mpr ⟨f, hf, by simp [e]⟩)
    rw [if_neg hrc]
    rfl

/-- A read answers the stored value of every field that is not RO. -/
theorem State.fieldOf_readReg_fst (s : State) {off : Nat} {d : RegDesc} (h : regAt off = some d) (hfit : s.fits d off = true)
    {f : Fld} (hf : f ∈ d.fields) (ha : f.acc ≠ .ro) :
    fieldOf (s.readReg off).1 f.lo f.width = fieldOf (s.reg off) f.lo f.width := by
  rw [s.readReg_fst, s.regValue_of_not_viewed h hfit (regAt_base_not_viewed h hf ha)]

theorem State.readReg_of_no_register (s : State) {off : Nat} (h : regAt off = none) : s.readReg off = (0, s) := by
  simp [State.readReg, State.regValue, h]

/-! ### Writes where no register lies -/

theorem exec_registerWrite (off : RegOff) (v : Word) (s : State) :
    exec (.registerWrite off v) s = .next (s.writeRegister off.toNat v).finish := rfl

/-- The registers outside arrays that a write treats apart: command registers and their arguments. -/
def singleCommandFields : List Fld :=
  [F.tierOpCmd_op, F.xltEditCmd_op, F.srchShardCmd_slot, F.svcModelCmd_model, F.hptCmd_op, F.mapCmd_op, F.weaveCmd_op,
    F.pwrCmd_op, F.mgtFaultAck_ack, F.schedWaleLen_lenUs, F.hptArg0_all, F.hptArg1_all, F.mapArg0_kind, F.mapArg1_key,
    F.weaveArg_all, F.xltEditW0_all, F.xltEditW1_all]

/-- The same in arrays, one register for each port or scan unit. -/
def arrayCommandFields : List Fld := [F.lnkCtl_enable, F.chkScanCmd_op, F.chkScanAddr_addr, F.chkScanLen_length]

theorem singleCommandFields_registers : ∀ f ∈ singleCommandFields, (regAt f.base).isSome = true := by decide +kernel

theorem arrayCommandFields_registers : ∀ f ∈ arrayCommandFields, ∀ i < f.count, (regAt (f.off i)).isSome = true := by
  decide +kernel

/-- A register of a field's array lies where its number says. -/
theorem Fld.off_of_instOf {f : Fld} {off i : Nat} (h : f.instOf off = some i) : i < f.count ∧ f.off i = off := by
  unfold Fld.instOf at h
  split at h
  · next hin =>
    obtain ⟨hlo, hhi, hmod⟩ := hin
    obtain rfl := Option.some.inj h
    refine ⟨Nat.div_lt_of_lt_mul (by omega), ?_⟩
    rw [Fld.off, Nat.mul_div_cancel' (Nat.dvd_of_mod_eq_zero hmod)]
    omega
  · cases h

section
variable {off : Nat} (h : regAt off = none)
include h

theorem base_ne_of_no_register {f : Fld} (hf : f ∈ singleCommandFields) : off ≠ f.base := by
  rintro rfl
  simpa [h] using singleCommandFields_registers f hf

theorem instOf_of_no_register {f : Fld} (hf : f ∈ arrayCommandFields) : f.instOf off = none := by
  cases hi : f.instOf off with
  | none => rfl
  | some i =>
    obtain ⟨hlt, rfl⟩ := Fld.off_of_instOf hi
    simpa [h] using arrayCommandFields_registers f hf i hlt

theorem State.plainWrite_of_no_register (s : State) (v : Word) : s.plainWrite off v = s := by
  simp [State.plainWrite, State.cleanWrite, State.writeReg, h]

theorem State.argWrite_of_no_register (s : State) (v : Word) : s.argWrite off v = s := by
  have hne : ∀ f ∈ singleCommandFields, (off == f.base) = false := fun f hf => beq_false_of_ne (base_ne_of_no_register h hf)
  have hinst : ∀ f ∈ arrayCommandFields, f.instOf off = none := fun f hf => instOf_of_no_register h hf
  simp only [singleCommandFields, arrayCommandFields, List.forall_mem_cons] at hne hinst
  simp [State.argWrite, hne, hinst, s.plainWrite_of_no_register h]

theorem State.writeRegister_of_no_register (s : State) (v : Word) : s.writeRegister off v = s := by
  have hne : ∀ f ∈ singleCommandFields, off ≠ f.base := fun f hf => base_ne_of_no_register h hf
  have hinst : ∀ f ∈ arrayCommandFields, f.instOf off = none := fun f hf => instOf_of_no_register h hf
  simp only [singleCommandFields, arrayCommandFields, List.forall_mem_cons] at hne hinst
  simp [State.writeRegister, hne, hinst, s.argWrite_of_no_register h]

end

/-! ### The statement -/

/-- Settles O5: the fields of a register rise and do not meet, a field that is not RO reads as stored, and no command register
lies where no register does. -/
theorem accessTypesOfFields : Obligations.AccessTypesOfFields := by
  refine ⟨⟨?write, ?read⟩, ?noRegister⟩
  case write =>
    intro off d h f hf old new
    rw [RegDesc.fieldOf_written off d h f hf]
    unfold Fld.written
    cases f.acc <;> rfl
  case read =>
    intro off d s h hfit
    refine ⟨(s.readReg off.toNat).1, _, exec_registerReadClear off s, ?out, ?kept, ?cleared⟩
    case out => rw [State.emit_out, s.readReg_out]
    case kept =>
      intro f hf ha
      have hro : f.acc ≠ .ro := by rcases ha with e | e | e <;> simp [e]
      have hrc : f.acc ≠ .rc := by rcases ha with e | e | e <;> simp [e]
      exact ⟨s.fieldOf_readReg_fst h hfit hf hro, (s.fieldOf_reg_readReg h hf).trans (if_neg hrc)⟩
    case cleared =>
      intro f hf ha
      exact ⟨s.fieldOf_readReg_fst h hfit hf (by simp [ha]), (s.fieldOf_reg_readReg h hf).trans (if_pos ha)⟩
  case noRegister =>
    intro off v s h
    constructor
    · rw [exec_registerReadClear, s.readReg_of_no_register h]
      rfl
    · rw [exec_registerWrite, s.writeRegister_of_no_register h]

end Sys2Proof.Machine
end

section
/-! Settles O50: the scan jobs of CHK (R620, R622 to R624). -/
namespace Sys2Proof.Machine

/-! ### The registers of a scan unit -/

/-- CHK_SCAN_CMD (R648). -/
def chkScanCmdReg : RegDesc := ⟨0x180180, 8, 4, [F.chkScanCmd_op, F.chkScanCmd_busy, F.chkScanCmd_code]⟩

theorem regAt_chkScanCmd {u : Nat} (hu : u < 4) : regAt (F.chkScanCmd_op.off u) = some chkScanCmdReg := by
  interval_cases u <;> decide +kernel

theorem State.fits_chkScanCmd (s : State) (u : Nat) :
    s.fits chkScanCmdReg (F.chkScanCmd_op.off u) = fitted s.code F.chkScanCmd_op.base 4 u := by
  have h : (F.chkScanCmd_op.off u - chkScanCmdReg.base) / chkScanCmdReg.stride = u := by
    simp [Fld.off, F.chkScanCmd_op, chkScanCmdReg]
  unfold State.fits
  rw [h]
  rfl

/-- CHK_SCAN_CMD (named by its field BUSY), CHK_SCAN_RESULT and CHK_SCAN_POS of a unit lie apart, above CHK_STATUS. -/
theorem chkScan_offsets_rise (u : Nat) : F.chkStatus_scanPoison.off 0 < F.chkScanCmd_busy.off u ∧
    F.chkScanCmd_busy.off u < F.chkScanResult_crc.off u ∧ F.chkScanResult_crc.off u < F.chkScanPos_pos.off u := by
  simp only [Fld.off, F.chkStatus_scanPoison, F.chkScanCmd_busy, F.chkScanResult_crc, F.chkScanPos_pos]
  omega

/-- Fault records touch no register of CHK. -/
theorem not_mem_recordRegs_of_chk {off : Nat} (h : 0x180000 ≤ off) : off ∉ recordRegs := by
  simp only [recordRegs, Fld.off, F.mgtFaultSeq_seq, F.mgtStatus_logLost, F.mgtLogLost_count, List.mem_cons,
    List.not_mem_nil, or_false, not_or]
  omega

/-- A bit raised in CHK_STATUS leaves the registers above it, those of the scan units among them. -/
theorem State.getF_flag_chkStatus_above (s : State) (n : Note) {g : Fld} {j : Nat} (h : F.chkStatus_scanPoison.off 0 < g.off j) :
    (s.flag F.chkStatus_scanPoison n).getF g j = s.getF g j := by
  unfold State.getF
  rw [s.flag_reg _ n 0 _ (not_mem_recordRegs_of_chk (h.le.trans' (by decide))) h.ne']

/-! ### The end of a job -/

theorem Code.num_lt (c : Code) : c.num < 256 := by
  cases c <;> decide

section scanEnd
variable (s : State) (u code pos : Nat)

theorem State.getF_scanEnd_busy : (s.scanEnd u code pos).getF F.chkScanCmd_busy u = 0 := by
  obtain ⟨-, h1, h2⟩ := chkScan_offsets_rise u
  unfold State.scanEnd
  rw [State.getF_setF_off _ _ (h1.trans h2).ne, State.getF_setF_disjoint _ _ (by decide) (by decide),
    State.getF_setF_same _ _ _ _ (by decide), Nat.zero_mod]

theorem State.getF_scanEnd_code (c : Code) : (s.scanEnd u c.num pos).getF F.chkScanCmd_code u = c.num := by
  obtain ⟨-, h1, h2⟩ := chkScan_offsets_rise u
  unfold State.scanEnd
  rw [State.getF_setF_off (g := F.chkScanCmd_code) _ _ (h1.trans h2).ne, State.getF_setF_same _ _ _ _ (by decide)]
  exact Nat.mod_eq_of_lt c.num_lt

theorem State.getF_scanEnd_pos (h : pos < 2 ^ 41) : (s.scanEnd u code pos).getF F.chkScanPos_pos u = pos := by
  unfold State.scanEnd
  rw [State.getF_setF_same _ _ _ _ (by decide)]
  exact Nat.mod_eq_of_lt h

theorem State.getF_scanEnd_result : (s.scanEnd u code pos).getF F.chkScanResult_crc u = s.getF F.chkScanResult_crc u := by
  obtain ⟨-, h1, h2⟩ := chkScan_offsets_rise u
  unfold State.scanEnd
  rw [State.getF_setF_off _ _ h2.ne, State.getF_setF_off (f := F.chkScanCmd_code) _ _ h1.ne', State.getF_setF_off _ _ h1.ne']

end scanEnd

/-! ### The range of a job (R623) -/

section scanRange
variable (s : State) (u : Nat)

theorem State.scanRange_eq : s.scanRange u =
    (saOffset (s.reg (F.chkScanAddr_addr.off u)), s.getF F.chkScanLen_length u, (s.scanRange u).2.2) := rfl

theorem State.scanRange_malformed
    (h : saOffset (s.reg (F.chkScanAddr_addr.off u)) % 64 ≠ 0 ∨ s.getF F.chkScanLen_length u = 0) :
    (s.scanRange u).2.2 = some .malformed := by
  unfold State.scanRange
  rcases h with h | h <;> simp [h]

theorem State.scanRange_absent (h : (s.scanRange u).2.2 ≠ some .malformed)
    (hb : s.storeSize < saOffset (s.reg (F.chkScanAddr_addr.off u)) + s.getF F.chkScanLen_length u) :
    (s.scanRange u).2.2 = some .absent := by
  unfold State.scanRange at h ⊢
  dsimp only at h ⊢
  split at h
  · exact absurd rfl h
  · next hok => rw [if_neg hok, if_pos (decide_eq_true hb)]

end scanRange

/-! ### A write of CHK_SCAN_CMD -/

/-- A job with its command written: it ends at once, or is busy while its loads are served. -/
def State.scanStart (s : State) (u : Nat) : State :=
  match s.scanRange u with
  | (_, _, some c) => s.scanEnd u c.num 0
  | (off, n, none) => (s.setF F.chkScanCmd_busy u 1).scanLoads off n

section scanCommand
variable {s : State} {u : Nat} {w : Word}

theorem State.scanStart_of_code {o k : Nat} {c : Code} (h : s.scanRange u = (o, k, some c)) :
    s.scanStart u = s.scanEnd u c.num 0 := by
  simp [State.scanStart, h]

theorem State.scanStart_of_range {o k : Nat} (h : s.scanRange u = (o, k, none)) :
    s.scanStart u = (s.setF F.chkScanCmd_busy u 1).scanLoads o k := by
  simp [State.scanStart, h]

theorem State.scanCommand_of_not_fitted (h : fitted s.code F.chkScanCmd_op.base 4 u = false) : s.scanCommand u w = s := by
  simp [State.scanCommand, h]

variable (hfit : fitted s.code F.chkScanCmd_op.base 4 u = true)
include hfit

theorem State.scanCommand_of_busy (hb : s.getF F.chkScanCmd_busy u = 1) :
    s.scanCommand u w = s.flag F.chkStatus_scanOverrun { index := u } := by
  simp [State.scanCommand, hfit, hb]

/-- OP 1 or 2, written into an idle unit with no reserved bit set, starts a job. -/
theorem State.scanCommand_of_clean (hu : u < 4) (hb : s.getF F.chkScanCmd_busy u ≠ 1) (hc : chkScanCmdReg.clean w)
    (hop : fieldOf w 0 2 = 1 ∨ fieldOf w 0 2 = 2) :
    s.scanCommand u w = (s.cmdWritten chkScanCmdReg F.chkScanCmd_op u w).scanStart u := by
  have hr := regAt_chkScanCmd hu
  have hw : s.writeReg (F.chkScanCmd_op.off u) w = s.cmdWritten chkScanCmdReg F.chkScanCmd_op u w :=
    State.writeReg_fits hr ((s.fits_chkScanCmd u).trans hfit)
  have hop' : (s.cmdWritten chkScanCmdReg F.chkScanCmd_op u w).getF F.chkScanCmd_op u = fieldOf w 0 2 :=
    State.getF_cmdWritten _ u hr (by decide) rfl rfl
  have h0 : fieldOf w 0 2 ≠ 0 := by omega
  have h3 : fieldOf w 0 2 ≠ 3 := by omega
  simp only [State.scanCommand, hfit, hb, State.cleanWrite_clean hr hc, hw, hop', h0, h3, Bool.not_true,
    Bool.false_eq_true, if_false]
  rfl

end scanCommand

/-! ### SCAN_JOB_END -/

/-- The CRC of a job over `k` bytes from STORE offset `o`: CRC-64 for OP 1, else CRC-32C. -/
def State.scanCrc (s : State) (u o k : Nat) : Nat :=
  if s.getF F.chkScanCmd_op u = 1 then (crc64 ((List.range k).map fun i => s.peekOff (o + i))).toNat
  else (crc32c ((List.range k).map fun i => s.peekOff (o + i))).toNat

theorem State.scanCrc_lt (s : State) (u o k : Nat) : s.scanCrc u o k < 2 ^ 64 := by
  unfold State.scanCrc
  split
  · exact BitVec.isLt _
  · exact (BitVec.isLt _).trans (by decide)

section scanJobEnd
variable {s : State} {u : Nat}

theorem State.scanJobEnd_of_idle (h : s.getF F.chkScanCmd_busy u = 0) : s.scanJobEnd u = s := by
  simp [State.scanJobEnd, h]

variable {o k : Nat} (hb : s.getF F.chkScanCmd_busy u = 1) (hr : s.scanRange u = (o, k, none)) (hw : s.waitingAccesses = [])
include hb hr hw

theorem State.scanJobEnd_of_poison {p : Nat} (hp : s.scanPoison o k = some p) :
    s.scanJobEnd u = (s.scanEnd u Code.poison.num p).flag F.chkStatus_scanPoison { index := u } := by
  simp [State.scanJobEnd, hr, hb, hw, hp]

theorem State.scanJobEnd_of_no_poison (hp : s.scanPoison o k = none) :
    s.scanJobEnd u = (s.setF F.chkScanResult_crc u (s.scanCrc u o k)).scanEnd u Code.done.num k := by
  simp [State.scanJobEnd, State.scanCrc, hr, hb, hw, hp]

/-- A job ends at its first POISON line with the line's offset (R623). -/
theorem State.scanJobEnd_poison {p : Nat} (hp : s.scanPoison o k = some p) (hlt : p < 2 ^ 40) :
    (s.scanJobEnd u).getF F.chkScanCmd_busy u = 0 ∧ (s.scanJobEnd u).getF F.chkScanCmd_code u = Code.poison.num ∧
      (s.scanJobEnd u).getF F.chkScanPos_pos u = p ∧ (s.scanJobEnd u).getF F.chkStatus_scanPoison = 1 ∧
      (s.scanJobEnd u).mem = s.mem := by
  obtain ⟨hcmd, h1, h2⟩ := chkScan_offsets_rise u
  rw [State.scanJobEnd_of_poison hb hr hw hp]
  refine ⟨?busy, ?code, ?pos, ?status, State.flag_mem _ _ _ _⟩
  case busy => rw [State.getF_flag_chkStatus_above _ _ hcmd, State.getF_scanEnd_busy]
  case code => rw [State.getF_flag_chkStatus_above (g := F.chkScanCmd_code) _ _ hcmd, State.getF_scanEnd_code]
  case pos =>
    rw [State.getF_flag_chkStatus_above _ _ (hcmd.trans (h1.trans h2)), State.getF_scanEnd_pos _ _ _ _ (by omega)]
  case status => exact State.getF_flag_same _ _ _ _ (not_mem_recordRegs_of_chk (by decide)) (by decide) rfl

/-- A job with no POISON line ends DONE with the CRC of its bytes, and changes registers alone (R623). -/
theorem State.scanJobEnd_done (hp : s.scanPoison o k = none) :
    (s.scanJobEnd u).getF F.chkScanCmd_busy u = 0 ∧ (s.scanJobEnd u).getF F.chkScanCmd_code u = 0 ∧
      (s.scanJobEnd u).getF F.chkScanResult_crc u = s.scanCrc u o k ∧
      s.scanJobEnd u = { s with regs := (s.scanJobEnd u).regs } := by
  rw [State.scanJobEnd_of_no_poison hb hr hw hp]
  refine ⟨State.getF_scanEnd_busy _ _ _ _, State.getF_scanEnd_code _ _ _ .done, ?crc, rfl⟩
  case crc =>
    rw [State.getF_scanEnd_result, State.getF_setF_same _ _ _ _ (by decide)]
    exact Nat.mod_eq_of_lt (s.scanCrc_lt u o k)

end scanJobEnd

/-! ### The commands -/

/-- The commands that start a scan job, with the OP of each (R622). -/
inductive ScanOp : (Nat → Word → Instr) → Nat → Prop
  | crc64 : ScanOp .scanCrc64 1
  | crc32c : ScanOp .scanCrc32c 2

section exec
variable {u n : Nat} {c : Nat → Word → Instr}

theorem ScanOp.of_mem (h : (c, n) ∈ [(Instr.scanCrc64, 1), (.scanCrc32c, 2)]) : ScanOp c n := by
  simp only [List.mem_cons, Prod.mk.injEq, List.not_mem_nil, or_false] at h
  rcases h with ⟨rfl, rfl⟩ | ⟨rfl, rfl⟩
  · exact .crc64
  · exact .crc32c

theorem ScanOp.exec_eq (h : ScanOp c n) (w : Word) (s : State) :
    exec (c u w) s = withUnit (decide (u < 4)) (.next (s.scanCommand u (putBits w 0 2 n)).finish) := by
  cases h <;> rfl

theorem ScanOp.fieldOf_op (h : ScanOp c n) (w : Word) :
    fieldOf (putBits w 0 2 n) 0 2 = 1 ∨ fieldOf (putBits w 0 2 n) 0 2 = 2 := by
  rw [fieldOf_putBits_same _ _ _ _ (by decide)]
  cases h <;> decide

theorem exec_scanJobEnd (s : State) : exec (.scanJobEnd u) s = withUnit (decide (u < 4)) (.next (s.scanJobEnd u).finish) := rfl

theorem withUnit_of_lt (hu : u < 4) (o : Host.Outcome State Fault Refusal) : withUnit (decide (u < 4)) o = o := by
  simp [withUnit, hu]

theorem withUnit_of_le (hu : 4 ≤ u) (o : Host.Outcome State Fault Refusal) :
    withUnit (decide (u < 4)) o = .fault .noSuchUnit := by
  simp [withUnit, hu]

end exec

/-! ### The statement -/

/-- Settles O50: a unit's command register, its status bit and its result registers lie apart, so what a command writes into
one of them is read back after the others. -/
theorem scanJobsComplete : Obligations.ScanJobsComplete := by
  refine ⟨?commands, ?ends, ?range⟩
  case commands =>
    intro u n w d c s hmem
    have hc := ScanOp.of_mem hmem
    refine ⟨fun hu => ?noUnit, fun hu hfit => ?notFitted, fun hu hfit => ⟨fun hb => ?busy, fun hb hd hclean => ?start⟩,
      fun hu hb => ?idle⟩
    case noUnit => exact ⟨(hc.exec_eq w s).trans (withUnit_of_le hu _), withUnit_of_le hu _⟩
    case notFitted => rw [hc.exec_eq, withUnit_of_lt hu, State.scanCommand_of_not_fitted hfit]
    case busy =>
      rw [hc.exec_eq, withUnit_of_lt hu, State.scanCommand_of_busy hfit hb]
      exact ⟨_, rfl, State.getF_flag_same _ _ _ _ (not_mem_recordRegs_of_chk (by decide)) (by decide) rfl,
        State.flag_tier _ _ _ _, State.flag_mem _ _ _ _⟩
    case start =>
      obtain rfl : chkScanCmdReg = d := Option.some.inj ((regAt_chkScanCmd hu).symm.trans hd)
      rw [hc.exec_eq, withUnit_of_lt hu, State.scanCommand_of_clean hfit hu hb hclean (hc.fieldOf_op w)]
      refine ⟨fun o k code hr => ?_, fun o k hr => by rw [State.scanStart_of_range hr]⟩
      rw [State.scanStart_of_code hr]
      exact ⟨_, rfl, State.getF_scanEnd_busy _ _ _ _, State.getF_scanEnd_code _ _ _ code,
        State.getF_scanEnd_pos _ _ _ _ (by decide), rfl⟩
    case idle => rw [exec_scanJobEnd, withUnit_of_lt hu, State.scanJobEnd_of_idle hb]
  case ends =>
    intro u o k s hu hb hr hw
    rw [exec_scanJobEnd, withUnit_of_lt hu]
    refine ⟨fun p hp hlt => ?poison, fun hp hop => ?crc64, fun hp hop => ?crc32c⟩
    case poison => exact ⟨_, rfl, State.scanJobEnd_poison hb hr hw hp hlt⟩
    case crc64 =>
      have hdone := State.scanJobEnd_done hb hr hw hp
      rw [State.scanCrc, if_pos hop] at hdone
      exact ⟨_, rfl, hdone⟩
    case crc32c =>
      obtain ⟨-, -, hdone⟩ := State.scanJobEnd_done hb hr hw hp
      rw [State.scanCrc, if_neg (by omega)] at hdone
      exact ⟨_, rfl, hdone⟩
  case range =>
    exact fun u s => ⟨s.scanRange_eq u, s.scanRange_malformed u, s.scanRange_absent u⟩

end Sys2Proof.Machine
end

section
/-! Settles O58: the merging of a repeated fault (R700), and attention classes 3 and 6 (R702, R695). -/
namespace Sys2Proof.Machine

/-! ### A repeated fault -/

/-- The first entry that meets `p` is also the first that meets `p` and `q`, when it meets `q`. -/
theorem find?_and_eq_some {α : Type} {p q : α → Bool} {l : List α} {a : α} (h : l.find? p = some a) (hq : q a = true) :
    l.find? (fun e => p e && q e) = some a := by
  obtain ⟨hp, before, after, rfl, hnone⟩ := List.find?_eq_some_iff_append.mp h
  refine List.find?_eq_some_iff_append.mpr ⟨by simp [hp, hq], before, after, rfl, fun e he => ?_⟩
  rw [Bool.not_and, hnone e he, Bool.true_or]

/-- The record `r` with one more occurrence, which its 16-bit count may not have room for. -/
def FaultRec.again (r : FaultRec) : FaultRec := { r with count := min (r.count + 1) 65535 }

/-- An occurrence repeats the record `r` (R700): the same block, bit, index and tenant, less than 1 ms after its stand time. -/
def FaultRec.repeatedBy (r : FaultRec) (block bit : Nat) (n : Note) (stime : Word) : Prop :=
  r.block = block ∧ r.bit = bit ∧ r.index = n.index ∧ r.tenant = n.tenant ∧ stime.toNat < r.stime.toNat + 1000000

/-- The newest record of the ring: the slot of SEQ holds the record of that number. -/
def State.newestIs (s : State) (r : FaultRec) : Prop :=
  let q := s.getF F.mgtFaultSeq_seq
  q ≠ 0 ∧ (s.mgt.ring.find? fun e => e.1 == q % 512) = some (q % 512, r) ∧ r.seq = q

/-- The state in which the record in the slot of SEQ has become `r`. -/
def State.putNewest (s : State) (r : FaultRec) : State :=
  s.onMgt fun m => { m with ring := m.ring.put (s.getF F.mgtFaultSeq_seq % 512) r }

section merge
variable {s : State} {block bit : Nat} {n : Note} {r : FaultRec}

theorem State.putRecord_of_repeat (h : s.newestIs r) (hr : r.repeatedBy block bit n s.stime) :
    s.putRecord block bit n = (s.putNewest r.again, false) := by
  obtain ⟨hq, hslot, hseq⟩ := h
  have hfind : (s.mgt.ring.find? fun e => e.1 == s.getF F.mgtFaultSeq_seq % 512 && e.2.seq == s.getF F.mgtFaultSeq_seq &&
      s.getF F.mgtFaultSeq_seq != 0) = some (s.getF F.mgtFaultSeq_seq % 512, r) :=
    find?_and_eq_some (find?_and_eq_some hslot (beq_iff_eq.mpr hseq)) (bne_iff_ne.mpr hq)
  unfold State.putRecord
  simp only [hfind]
  exact if_pos hr

/-- A record that overwrote none that was still to be logged ends the matter. -/
theorem State.raise_of_putRecord {t : State} (h : s.putRecord block bit n = (t, false)) : s.raise block bit n = t := by
  simp only [State.raise, h]

theorem State.raise_of_repeat (h : s.newestIs r) (hr : r.repeatedBy block bit n s.stime) :
    s.raise block bit n = s.putNewest r.again :=
  State.raise_of_putRecord (State.putRecord_of_repeat h hr)

end merge

/-! ### Attention -/

theorem State.pendingClass_three (s : State) (t : Tenant) :
    s.pendingClass t 3 = (t == 0 && decide (s.getF F.mgtFaultSeq_seq ≠ s.getF F.mgtFaultAck_ack)) := rfl

theorem State.pendingClass_six (s : State) (t : Tenant) :
    s.pendingClass t 6 = (t == 0 && (s.getF F.mgtStatus_mpStall == 1 || s.getF F.mgtStatus_fwStaged == 1)) := rfl

theorem State.alertDriven_of_class_six {s : State} (h : s.pendingClass 0 6 = true) : s.alertDriven = true := by
  rw [State.alertDriven, h, Bool.or_true, Bool.true_or]

/-! ### The statement -/

/-- Settles O58: the newest record is the first entry of its slot, so a repeat is merged into it and `raise` stops there. -/
theorem faultRecordsAndAttention : Obligations.FaultRecordsAndAttention := by
  refine ⟨?merge, fun s => ⟨?class3, ?class6, State.alertDriven_of_class_six, ?others⟩⟩
  case merge =>
    intro b i n r s q hq hslot hseq hb hi hx ht hnear
    refine ⟨_, State.raise_of_repeat ⟨hq, hslot, hseq⟩ ⟨hb, hi, hx, ht, hnear⟩, ?_, fun k hk => ?_, rfl, rfl⟩
    · exact Table.get_put_same _ _ _ _
    · exact Table.get_put_other _ _ _ hk
  case class3 => rw [State.pendingClass_three, beq_self_eq_true, Bool.true_and]
  case class6 => simp [State.pendingClass_six]
  case others =>
    intro t ht
    have hother : (t == 0) = false := beq_false_of_ne ht
    exact ⟨by rw [State.pendingClass_three, hother, Bool.false_and], by rw [State.pendingClass_six, hother, Bool.false_and]⟩

end Sys2Proof.Machine
end

section
/-! The queue, the ordering code and the memory of a state, and what keeps them as they are (O59, O60). -/
namespace Sys2Proof.Machine

/-- What a command may not change, the queue and the ordering code, beside the memory, which it may write. -/
def State.steady (s : State) : List Instr × OrderCode × Mem := (s.pending, s.code, s.mem)

@[simp] theorem State.steady_mk (c d m w st f r i mem t x ce sc sv sr fa hp ma we se p mg o pe) :
    State.steady ⟨c, d, m, w, st, f, r, i, mem, t, x, ce, sc, sv, sr, fa, hp, ma, we, se, p, mg, o, pe⟩ = (pe, c, mem) := (rfl)

@[simp] theorem State.steady_eta (s : State) : (s.pending, s.code, s.mem) = s.steady := (rfl)

@[simp] theorem State.steady_ite (c : Prop) [Decidable c] (a b : State) :
    (if c then a else b).steady = if c then a.steady else b.steady := apply_ite State.steady c a b

theorem ite_eq_of_both {α : Type} {c : Prop} [Decidable c] {a b k : α} (ha : a = k) (hb : b = k) : (if c then a else b) = k := by
  rw [ha, hb, ite_self]

@[simp] theorem State.steady_foldl {α : Type} (f : State → α → State) (h : ∀ s a, (f s a).steady = s.steady) (l : List α) :
    ∀ s : State, (l.foldl f s).steady = s.steady := by
  induction l with
  | nil => intro s; rfl
  | cons a r ih => intro s; exact (ih _).trans (h s a)

theorem State.steady_of_fst {α : Type} {p : State × α} {t : State} {a : α} (h : p = (t, a)) : t.steady = p.1.steady := by rw [h]
theorem State.steady_of_snd_snd {α β : Type} {p : α × β × State} {t : State} {a : α} {b : β} (h : p = (a, b, t)) :
    t.steady = p.2.2.steady := by rw [h]
theorem State.steady_of_snd {α : Type} {p : α × State} {t : State} {a : α} (h : p = (a, t)) : t.steady = p.2.steady := by rw [h]

/-- The state in which an allocation leaves the device. -/
def Got.state : Got → State
  | .frame s => s
  | .wait s _ => s
  | .quota s => s

@[simp] theorem Got.state_frame (s : State) : (Got.frame s).state = s := rfl
@[simp] theorem Got.state_wait (s : State) (b : Nat) : (Got.wait s b).state = s := rfl
@[simp] theorem Got.state_quota (s : State) : (Got.quota s).state = s := rfl
@[simp] theorem Got.state_ite (c : Prop) [Decidable c] (a b : Got) :
    (if c then a else b).state = if c then a.state else b.state := apply_ite Got.state c a b

theorem State.steady_of_frame {g : Got} {t : State} (h : g = .frame t) : t.steady = g.state.steady := by rw [h]; rfl
theorem State.steady_of_wait {g : Got} {t : State} {b : Nat} (h : g = .wait t b) : t.steady = g.state.steady := by rw [h]; rfl
theorem State.steady_of_quota {g : Got} {t : State} (h : g = .quota t) : t.steady = g.state.steady := by rw [h]; rfl

/-- Against what was kept before: the queue and the code are the same, and a canonical memory is canonical. -/
def Keeps (k l : List Instr × OrderCode × Mem) : Prop :=
  l.1 = k.1 ∧ l.2.1 = k.2.1 ∧ (k.2.2.wf = true → l.2.2.wf = true)

@[simp] theorem Keeps.refl (k : List Instr × OrderCode × Mem) : Keeps k k := ⟨rfl, rfl, id⟩

end Sys2Proof.Machine
end

section
/-! The operations that leave the queue, the ordering code and the memory as they are: one lemma for each, in the model's order. -/
namespace Sys2Proof.Machine

@[simp] theorem State.setReg_steady (s : State) (off w) : (s.setReg off w).steady = s.steady := (rfl)

@[simp] theorem State.setF_steady (s : State) (f i v) : (s.setF f i v).steady = s.steady := (rfl)

@[simp] theorem State.addF_steady (s : State) (f i n) : (s.addF f i n).steady = s.steady := (rfl)

@[simp] theorem State.applyHeld_steady (s : State) : (s.applyHeld).steady = s.steady := (rfl)

@[simp] theorem State.initF_steady (s : State) (f i v) : (s.initF f i v).steady = s.steady := (rfl)

@[simp] theorem State.fresh_steady (s : State) : (s.fresh).2.steady = s.steady := (rfl)

@[simp] theorem State.emit_steady (s : State) (o) : (s.emit o).steady = s.steady := (rfl)

@[simp] theorem State.latch_steady (s : State) (c ts) : (s.latch c ts).steady = s.steady := (rfl)

@[simp] theorem State.setMode_steady (s : State) (m) : (s.setMode m).steady = s.steady := by
  simp [State.setMode]

@[simp] theorem State.newRecord_steady (s : State) (seq block bit n) : (s.newRecord seq block bit n).1.steady = s.steady := (rfl)

@[simp] theorem State.putRecord_steady (s : State) (block bit n) : (s.putRecord block bit n).1.steady = s.steady := by
  unfold State.putRecord
  simp
  split
  · split <;> simp
  · simp

@[simp] theorem State.loseRecord_steady (s : State) : (s.loseRecord).steady = s.steady := (rfl)

@[simp] theorem State.raise_steady (s : State) (block bit n) : (s.raise block bit n).steady = s.steady := by
  unfold State.raise
  split
  · next h => simp [steady_of_fst h]
  · split
    · next h4 _ _ h1 => simp [steady_of_fst h4, steady_of_fst h1]
    · next h4 _ _ h1 => simp [steady_of_fst h4, steady_of_fst h1]

@[simp] theorem State.flag_steady (s : State) (f n i) : (s.flag f n i).steady = s.steady := by
  simp [State.flag]

@[simp] theorem State.onTier_steady (s : State) (g) : (s.onTier g).steady = s.steady := (rfl)

@[simp] theorem State.onXlt_steady (s : State) (g) : (s.onXlt g).steady = s.steady := (rfl)

@[simp] theorem State.onCell_steady (s : State) (g) : (s.onCell g).steady = s.steady := (rfl)

@[simp] theorem State.onSched_steady (s : State) (g) : (s.onSched g).steady = s.steady := (rfl)

@[simp] theorem State.onSvc_steady (s : State) (g) : (s.onSvc g).steady = s.steady := (rfl)

@[simp] theorem State.onSrch_steady (s : State) (g) : (s.onSrch g).steady = s.steady := (rfl)

@[simp] theorem State.onFab_steady (s : State) (g) : (s.onFab g).steady = s.steady := (rfl)

@[simp] theorem State.onHpt_steady (s : State) (g) : (s.onHpt g).steady = s.steady := (rfl)

@[simp] theorem State.onMap_steady (s : State) (g) : (s.onMap g).steady = s.steady := (rfl)

@[simp] theorem State.onWeave_steady (s : State) (g) : (s.onWeave g).steady = s.steady := (rfl)

@[simp] theorem State.onSec_steady (s : State) (g) : (s.onSec g).steady = s.steady := (rfl)

@[simp] theorem State.onPwr_steady (s : State) (g) : (s.onPwr g).steady = s.steady := (rfl)

@[simp] theorem State.onMgt_steady (s : State) (g) : (s.onMgt g).steady = s.steady := (rfl)

@[simp] theorem State.noteStart_steady (s : State) : (s.noteStart).steady = s.steady := (rfl)

@[simp] theorem State.cleanWrite_steady (s : State) (off w) : (s.cleanWrite off w).2.steady = s.steady := by
  unfold State.cleanWrite
  split
  · rfl
  · split
    simp
    split
    · rfl
    · next h _ => simp [steady_of_snd h]

@[simp] theorem State.writeReg_steady (s : State) (off w) : (s.writeReg off w).steady = s.steady := by
  unfold State.writeReg
  split
  · rfl
  · simp

@[simp] theorem State.setPort_steady (s : State) (p q) : (s.setPort p q).steady = s.steady := (rfl)

@[simp] theorem State.tel_steady (s : State) (f i n) : (s.tel f i n).steady = s.steady := (rfl)

@[simp] theorem State.sendFlits_steady (s : State) (p n packet) : (s.sendFlits p n packet).steady = s.steady := by
  unfold State.sendFlits
  simp
  split <;> simp

@[simp] theorem State.owe_steady (s : State) (inp p) : (s.owe inp p).steady = s.steady := (rfl)

@[simp] theorem State.moveShared_steady (s : State) (n port) : (s.moveShared n port).steady = s.steady := by
  induction n generalizing s with
  | zero => simp [State.moveShared]
  | succ n ih =>
    unfold State.moveShared
    split <;> simp [ih]

@[simp] theorem State.leftOutput_steady (s : State) (port p) : (s.leftOutput port p).steady = s.steady := by
  unfold State.leftOutput
  simp
  split <;> simp

@[simp] theorem State.transmit_steady (s : State) (port i p) : (s.transmit port i p).steady = s.steady := by
  simp [State.transmit]

@[simp] theorem State.drain_steady (s : State) (n port) : (s.drain n port).steady = s.steady := by
  induction n generalizing s with
  | zero => simp [State.drain]
  | succ n ih =>
    unfold State.drain
    split
    · split <;> simp [ih]
    · rfl

@[simp] theorem State.enqueue_steady (s : State) (port p inp) : (s.enqueue port p inp).steady = s.steady := by
  unfold State.enqueue
  split <;> simp

@[simp] theorem State.dropPacket_steady (s : State) : (s.dropPacket).steady = s.steady := (rfl)

@[simp] theorem State.oweIn_steady (s : State) (inp p) : (s.oweIn inp p).steady = s.steady := by
  unfold State.oweIn
  split <;> simp

@[simp] theorem State.unicastOut_steady (s : State) (p avoid inp) : (s.unicastOut p avoid inp).steady = s.steady := by
  unfold State.unicastOut
  split
  · simp
  · split
    · simp
    · split <;> simp

@[simp] theorem State.mcastOut_steady (s : State) (p inp) : (s.mcastOut p inp).steady = s.steady := by
  unfold State.mcastOut
  split <;> simp

@[simp] theorem State.wakingFor_steady (s : State) (p) : (s.wakingFor p).steady = s.steady := by
  unfold State.wakingFor
  split
  · split
    · rfl
    · simp
  · rfl

@[simp] theorem State.out1_steady (s : State) (p avoid inp) : (s.out1 p avoid inp).steady = s.steady := by
  simp [State.out1]

@[simp] theorem State.noteDead_steady (s : State) (dst addr tenant) : (s.noteDead dst addr tenant).steady = s.steady := by
  simp [State.noteDead]

@[simp] theorem State.noteLost_steady (s : State) (p) : (s.noteLost p).steady = s.steady := by
  simp [State.noteLost]

@[simp] theorem State.setTx_steady (s : State) (t) : (s.setTx t).steady = s.steady := (rfl)

@[simp] theorem State.newTag_steady (s : State) : (s.newTag).2.steady = s.steady := (rfl)

@[simp] theorem State.launch_steady (s : State) (p iss) : (s.launch p iss).steady = s.steady := by
  unfold State.launch
  split <;> simp

@[simp] theorem State.sendWake_steady (s : State) (d) : (s.sendWake d).steady = s.steady := by
  simp [State.sendWake]

@[simp] theorem State.sendPacket_steady (s : State) (p iss boundary) : (s.sendPacket p iss boundary).2.steady = s.steady := by
  unfold State.sendPacket
  simp
  split
  · simp
  · split
    · split
      · simp
      · split
        · simp
        · rfl
    · split <;> simp

@[simp] theorem State.unblock_steady (s : State) (n) : (s.unblock n).steady = s.steady := by
  induction n generalizing s with
  | zero => simp [State.unblock]
  | succ n ih =>
    unfold State.unblock
    split <;> simp [ih]

@[simp] theorem State.sendMsg_steady (s : State) (dst cls tenant m boundary) : (s.sendMsg dst cls tenant m boundary).steady = s.steady := by
  simp [State.sendMsg]

@[simp] theorem State.sendGroup_steady (s : State) (g cls tenant m) : (s.sendGroup g cls tenant m).steady = s.steady := by
  simp [State.sendGroup]

@[simp] theorem State.sendLoose_steady (s : State) (p) : (s.sendLoose p).steady = s.steady := by
  simp [State.sendLoose]

@[simp] theorem State.sendReply_steady (s : State) (p code detail data) : (s.sendReply p code detail data).steady = s.steady := by
  simp [State.sendReply]

@[simp] theorem State.fenceFlow_steady (s : State) (id f) : (s.fenceFlow id f).2.2.steady = s.steady := by
  unfold State.fenceFlow
  dsimp only
  split
  · simp
  · split
    · simp
    · split
      · next h => simp [steady_of_snd h]
      · next h => simp [steady_of_snd h]

@[simp] theorem State.startFence_steady (s : State) (owner classes) : (s.startFence owner classes).2.2.2.steady = s.steady := by
  have h (l : List TxFlow) : ∀ acc : Nat × Bool × State, (l.foldl (fun (acc : Nat × Bool × State) f =>
      let (n, d, s) := acc.2.2.fenceFlow s.fab.nextFence f
      (acc.1 + n, acc.2.1 || d, s)) acc).2.2.steady = acc.2.2.steady := by
    induction l with
    | nil => simp
    | cons f r ih => intro acc; simp [ih]
  unfold State.startFence
  dsimp only
  split
  · exact h _ _
  · exact h _ _

@[simp] theorem State.propose_steady (s : State) (op r) : (s.propose op r).steady = s.steady := by
  simp [State.propose]

@[simp] theorem State.setCell_steady (s : State) (c v) : (s.setCell c v).steady = s.steady := (rfl)

@[simp] theorem State.onCellAt_steady (s : State) (c g) : (s.onCellAt c g).steady = s.steady := (rfl)

@[simp] theorem State.retire_steady (s : State) (c rd w) : (s.retire c rd w).steady = s.steady := (rfl)

@[simp] theorem State.stallCell_steady (s : State) (c k) : (s.stallCell c k).steady = s.steady := (rfl)

@[simp] theorem State.resume_steady (s : State) (c rd w) : (s.resume c rd w).steady = s.steady := (rfl)

@[simp] theorem State.acquire_steady (s : State) (c) : (s.acquire c).steady = s.steady := (rfl)

@[simp] theorem State.addFlag_steady (s : State) (c i) : (s.addFlag c i).steady = s.steady := by
  simp [State.addFlag]

@[simp] theorem State.kernelEnd_steady (s : State) (c code) : (s.kernelEnd c code).steady = s.steady := by
  unfold State.kernelEnd
  simp
  split <;> simp

@[simp] theorem State.trap_steady (s : State) (c cause) : (s.trap c cause).steady = s.steady := by
  simp [State.trap]

@[simp] theorem State.trackFault_steady (s : State) (t injected) : (s.trackFault t injected).steady = s.steady := by
  unfold State.trackFault
  split
  · rfl
  · simp

@[simp] theorem State.sramUe_steady (s : State) (c) : (s.sramUe c).steady = s.steady := by
  unfold State.sramUe
  simp
  split <;> simp

@[simp] theorem State.clearCell_steady (s : State) (c) : (s.clearCell c).steady = s.steady := (rfl)

@[simp] theorem State.kernelStart_steady (s : State) (c k argOff arg track) : (s.kernelStart c k argOff arg track).steady = s.steady := (rfl)

@[simp] theorem State.noteMalformed_steady (s : State) (c) : (s.noteMalformed c).steady = s.steady := by
  simp [State.noteMalformed]

@[simp] theorem State.setBlk_steady (s : State) (b e) : (s.setBlk b e).steady = s.steady := (rfl)

@[simp] theorem State.tierEvent_steady (s : State) (e) : (s.tierEvent e).steady = s.steady := (rfl)

@[simp] theorem State.makeReady_steady (s : State) (ws) : (s.makeReady ws).steady = s.steady := (rfl)

@[simp] theorem State.giveFrames_steady (s : State) (t n) : (s.giveFrames t n).steady = s.steady := (rfl)

@[simp] theorem State.takeFrames_steady (s : State) (t n) : (s.takeFrames t n).steady = s.steady := (rfl)

@[simp] theorem State.setResv_steady (s : State) (r v) : (s.setResv r v).steady = s.steady := (rfl)

@[simp] theorem State.countFrame_steady (s : State) (tn t resv) : (s.countFrame tn t resv).steady = s.steady := by
  unfold State.countFrame
  split
  · split <;> simp
  · simp

@[simp] theorem State.uncountFrame_steady (s : State) (tn t resv) : (s.uncountFrame tn t resv).steady = s.steady := by
  unfold State.uncountFrame
  split
  · split <;> simp
  · simp

theorem State.reserve_steady {s t : State} {tn t0 t1 r} (h : s.reserve tn t0 t1 = some (r, t)) : t.steady = s.steady := by
  unfold State.reserve at h
  split at h
  · cases h; rfl
  · dsimp only at h
    split at h
    · cases h; rfl
    · cases h

@[simp] theorem State.releaseResv_steady (s : State) (id) : (s.releaseResv id).steady = s.steady := by
  unfold State.releaseResv
  split
  · rfl
  · simp

@[simp] theorem State.setPool_steady (s : State) (t n) : (s.setPool t n).steady = s.steady := (rfl)

@[simp] theorem State.freeRun_steady (s : State) (t n) : (s.freeRun t n).steady = s.steady := (rfl)

@[simp] theorem State.wakeVictim_steady (s : State) (b) : (s.wakeVictim b).steady = s.steady := (rfl)

@[simp] theorem State.dropCopy_steady (s : State) (b t) : (s.dropCopy b t).steady = s.steady := by
  unfold State.dropCopy
  split
  · simp
    split <;> simp
  · simp
    split <;> simp

@[simp] theorem State.readersDone_steady (s : State) (b t) : (s.readersDone b t).steady = s.steady := by
  simp [State.readersDone]

@[simp] theorem State.addReader_steady (s : State) (b t) : (s.addReader b t).steady = s.steady := (rfl)

@[simp] theorem State.endReader_steady (s : State) (b t) : (s.endReader b t).steady = s.steady := by
  simp [State.endReader]

@[simp] theorem State.cancelSink_steady (s : State) (b t) : (s.cancelSink b t).steady = s.steady := by
  simp [State.cancelSink]

@[simp] theorem State.evictCopy_steady (s : State) (b t) : (s.evictCopy b t).2.steady = s.steady := by
  unfold State.evictCopy
  simp
  split
  · simp
  · simp

theorem State.allocT1_steady {n s tried} {t : State} (h : State.allocT1 n s tried = some t) : t.steady = s.steady := by
  induction n generalizing s tried with
  | zero => cases h
  | succ n ih =>
    unfold State.allocT1 at h
    split at h
    · cases h; simp
    · split at h
      · cases h
      · split at h
        · simpa using ih h
        · exact ih h

theorem State.evictLive_steady {s t : State} {b} (h : s.evictLive b = some t) : t.steady = s.steady := by
  unfold State.evictLive at h
  dsimp only at h
  split at h
  · split at h
    · cases h
    · next h1 => cases h; simp [State.allocT1_steady h1]
  · cases h

@[simp] theorem State.allocFrame_steady (n s t tried) : (State.allocFrame n s t tried).state.steady = s.steady := by
  induction n generalizing s tried with
  | zero => simp [State.allocFrame]
  | succ n ih =>
    unfold State.allocFrame
    split
    · simp
    · split
      · simp
      · split
        · next h => simp [ih, steady_of_snd h]
        · next h => simp [steady_of_snd h]
      · split
        · next h => simp [State.evictLive_steady h]
        · exact ih _ _

@[simp] theorem State.alloc_steady (s : State) (t) : (s.alloc t).state.steady = s.steady := by
  simp [State.alloc]

@[simp] theorem State.allocRunFrames_steady (n got s t) : (State.allocRunFrames n got s t).state.steady = s.steady := by
  induction n generalizing s got with
  | zero => simp [State.allocRunFrames]
  | succ n ih =>
    unfold State.allocRunFrames
    split
    · next h => simp [ih, steady_of_frame h]
    · next h => simp [steady_of_wait h]
    · next h => simp [steady_of_quota h]

@[simp] theorem State.allocRun_steady (s : State) (t n) : (s.allocRun t n).state.steady = s.steady := by
  unfold State.allocRun
  simp
  split
  · next h => simp [steady_of_frame h]
  · simp

@[simp] theorem State.setDrive_steady (s : State) (d v) : (s.setDrive d v).steady = s.steady := (rfl)

theorem State.allocT2_steady {s t : State} {b n d st} (h : s.allocT2 b n = some (d, st, t)) : t.steady = s.steady := by
  unfold State.allocT2 at h
  obtain ⟨e, -, he⟩ := Option.map_eq_some_iff.mp h
  cases he
  simp

@[simp] theorem State.freeT2_steady (s : State) (d st n) : (s.freeT2 d st n).steady = s.steady := by
  unfold State.freeT2
  split
  · rfl
  · simp

@[simp] theorem State.compact_steady (s : State) (d) : (s.compact d).steady = s.steady := (rfl)

@[simp] theorem State.catAppend_steady (s : State) (d b op sectors lba) : (s.catAppend d b op sectors lba).steady = s.steady := by
  simp [State.catAppend]

@[simp] theorem State.setImage_steady (s : State) (i v) : (s.setImage i v).steady = s.steady := (rfl)

@[simp] theorem State.newImage_steady (s : State) (v) : (s.newImage v).2.steady = s.steady := (rfl)

@[simp] theorem State.dropRef_steady (s : State) (i) : (s.dropRef i).steady = s.steady := by
  unfold State.dropRef
  split
  · rfl
  · simp

@[simp] theorem State.bindImage_steady (s : State) (b i) : (s.bindImage b i).steady = s.steady := by
  unfold State.bindImage
  split
  · rfl
  · simp

@[simp] theorem State.unbindImage_steady (s : State) (b) : (s.unbindImage b).steady = s.steady := by
  unfold State.unbindImage
  split
  · rfl
  · split <;> simp

@[simp] theorem State.opResult_steady (s : State) (b code) : (s.opResult b code).steady = s.steady := (rfl)

@[simp] theorem State.opEnd_steady (s : State) (op b code) : (s.opEnd op b code).steady = s.steady := by
  simp [State.opEnd]

@[simp] theorem State.startMigration_steady (s : State) (b) : (s.startMigration b).state.steady = s.steady := by
  unfold State.startMigration
  simp
  split
  · next h => simp [steady_of_frame h]
  · simp

@[simp] theorem State.sealDone_steady (s : State) (b owner code) : (s.sealDone b owner code).steady = s.steady := by
  unfold State.sealDone
  split
  · simp
  · simp

theorem State.makeImage_steady {s t : State} {b p elem kind tn version i}
    (h : s.makeImage b p elem kind tn version = some (i, t)) : t.steady = s.steady := by
  unfold State.makeImage at h
  obtain ⟨⟨d, st, u⟩, hu, he⟩ := Option.map_eq_some_iff.mp h
  rw [← State.allocT2_steady hu, ← State.newImage_steady u, congrArg Prod.snd he]

@[simp] theorem State.beginSeal_steady (s : State) (b j) : (s.beginSeal b j).steady = s.steady := by
  unfold State.beginSeal
  simp
  split
  · simp
  · next h => simp [State.makeImage_steady h]

theorem State.requestSeal_steady {s t : State} {b tn j} (h : s.requestSeal b tn j = some t) : t.steady = s.steady := by
  unfold State.requestSeal at h
  dsimp only at h
  split at h
  · split at h
    · cases h; simp
    · next h1 => cases h; simp [State.makeImage_steady h1]
  · cases h; simp
  · split at h
    · cases h; simp
    · cases h
  · cases h

@[simp] theorem State.requestSeal_getD_steady (s : State) (b tn j) : ((s.requestSeal b tn j).getD s).steady = s.steady := by
  cases h : s.requestSeal b tn j with
  | none => simp
  | some t => exact State.requestSeal_steady h

@[simp] theorem State.abortSeal_steady (s : State) (b code) : (s.abortSeal b code).steady = s.steady := by
  unfold State.abortSeal
  simp
  split
  · rfl
  · split
    · simp [*]
    · split <;> simp

@[simp] theorem State.allocCopy_steady (s : State) (b t packed) : (s.allocCopy b t packed).state.steady = s.steady := by
  simp [State.allocCopy]

@[simp] theorem State.riseQuota_steady (s : State) (b t) : (s.riseQuota b t).steady = s.steady := by
  simp [State.riseQuota]

@[simp] theorem State.startRise_steady (s : State) (b t packed) : (s.startRise b t packed).state.steady = s.steady := by
  unfold State.startRise
  split
  · next h => simp [steady_of_frame h]
  · next h => simp [steady_of_wait h]
  · next h => simp [steady_of_quota h]

@[simp] theorem State.quarantine_steady (s : State) (b) : (s.quarantine b).steady = s.steady := by
  simp [State.quarantine]

@[simp] theorem State.beginRefetch_steady (s : State) (b srcs) : (s.beginRefetch b srcs).steady = s.steady := by
  simp [State.beginRefetch]

@[simp] theorem State.copyFailed_steady (s : State) (b t) : (s.copyFailed b t).steady = s.steady := by
  simp [State.copyFailed]

@[simp] theorem State.noteFail_steady (s : State) (b why src) : (s.noteFail b why src).steady = s.steady := by
  unfold State.noteFail
  split <;> simp

@[simp] theorem State.sendMirror_steady (s : State) (epoch item) : (s.sendMirror epoch item).steady = s.steady := by
  simp [State.sendMirror]

@[simp] theorem State.tellTaker_steady (s : State) (home off data mask) : (s.tellTaker home off data mask).steady = s.steady := by
  unfold State.tellTaker
  simp
  split
  · simp
  · rfl

@[simp] theorem State.mirrorStore_steady (s : State) (off data mask) : (s.mirrorStore off data mask).steady = s.steady := by
  simp [State.mirrorStore]

@[simp] theorem State.setDir_steady (s : State) (l e) : (s.setDir l e).steady = s.steady := (rfl)

@[simp] theorem State.sendRecall_steady (s : State) (h sa) : (s.sendRecall h sa).steady = s.steady := by
  unfold State.sendRecall
  dsimp only
  split
  · simp
  · simp

@[simp] theorem State.recallHolders_steady (s : State) (l hs) : (s.recallHolders l hs).steady = s.steady := by
  simp [State.recallHolders]

@[simp] theorem State.grantCopy_steady (s : State) (l h t ask) : (s.grantCopy l h t ask).steady = s.steady := (rfl)

@[simp] theorem State.moverGot_steady (s : State) (c ch code data) : (s.moverGot c ch code data).steady = s.steady := (rfl)

@[simp] theorem State.bindError_steady (s : State) (b code) : (s.bindError b code).steady = s.steady := by
  simp [State.bindError]

@[simp] theorem State.hostEnd_steady (s : State) (b dpa code data) : (s.hostEnd b dpa code data).steady = s.steady := by
  simp [State.hostEnd]

@[simp] theorem State.setHomeOpLine_steady (s : State) (b l v) : (s.setHomeOpLine b l v).steady = s.steady := (rfl)

@[simp] theorem State.homeopEnd_steady (s : State) (b l code detail result) : (s.homeopEnd b l code detail result).steady = s.steady := by
  unfold State.homeopEnd
  dsimp only
  split <;> simp

@[simp] theorem State.grantOnDone_steady (s : State) (x1 code) : (s.grantOnDone x1 code).steady = s.steady := by
  unfold State.grantOnDone
  split
  · simp
  · rfl

@[simp] theorem State.answer_steady (s : State) (x1 code detail data) : (s.answer x1 code detail data).steady = s.steady := by
  unfold State.answer
  split <;> simp

@[simp] theorem State.refuseAccess_steady (s : State) (x1 code detail) : (s.refuseAccess x1 code detail).steady = s.steady := by
  simp [State.refuseAccess]

@[simp] theorem State.waitAtBlock_steady (s : State) (b a) : (s.waitAtBlock b a).steady = s.steady := (rfl)

@[simp] theorem State.waitForVictim_steady (s : State) (v a) : (s.waitForVictim v a).steady = s.steady := (rfl)

@[simp] theorem State.telServed_steady (s : State) (a t n) : (s.telServed a t n).steady = s.steady := by
  simp [State.telServed]

@[simp] theorem State.readSealed_steady (s : State) (b e x3 n) : (s.readSealed b e x3 n).steady = s.steady := by
  unfold State.readSealed
  split
  · split
    · simp
    · split
      · simp
      · split
        · simp
        · split
          · next h => simp [steady_of_frame h]
          · next h => simp [steady_of_wait h]
          · next h => simp [steady_of_quota h]
  · split
    · simp
    · split
      · simp
      · split
        · simp
        · split
          · next h => simp [steady_of_frame h]
          · next h => simp [steady_of_wait h]
          · next h => simp [steady_of_quota h]

@[simp] theorem State.tierAccess_live_steady (s : State) (a b e n) : (State.tierAccess.live a s b e n).steady = s.steady := by
  unfold State.tierAccess.live
  dsimp only
  split <;> simp

@[simp] theorem State.removeHolder_steady (s : State) (l h) : (s.removeHolder l h).steady = s.steady := by
  simp [State.removeHolder]

@[simp] theorem State.xltHit_steady (s : State) (cell t g) : (s.xltHit cell t g).2.steady = s.steady := by
  unfold State.xltHit
  split
  · simp
    split <;> simp
  · simp
    split <;> rfl

@[simp] theorem State.openWalk_steady (s : State) (die t g cell ch) : (s.openWalk die t g cell ch).steady = s.steady := by
  simp [State.openWalk]

@[simp] theorem State.fillCaches_steady (s : State) (die k cells) : (s.fillCaches die k cells).steady = s.steady := by
  simp [State.fillCaches]

@[simp] theorem State.dropKey_steady (s : State) (k) : (s.dropKey k).steady = s.steady := (rfl)

@[simp] theorem State.fillPromote_steady (s : State) (b) : (s.fillPromote b).steady = s.steady := by
  unfold State.fillPromote
  split
  · next h => simp [steady_of_frame h]
  · next h => simp [steady_of_wait h]
  · split
    · next h _ => simp [steady_of_quota h]
    · split
      · next h5 _ _ _ h1 => simp [steady_of_quota h5, steady_of_frame h1]
      · next h6 _ _ _ _ h1 => simp [steady_of_quota h6, steady_of_wait h1]
      · next h5 _ _ _ h1 => simp [steady_of_quota h5, steady_of_quota h1]

@[simp] theorem State.residencyFault_steady (s : State) (die t g block cell ch) : (s.residencyFault die t g block cell ch).steady = s.steady := by
  unfold State.residencyFault
  split
  · simp
  · simp
    split
    · simp
    · simp

@[simp] theorem State.serveFillWaits_steady (n s die) : (State.serveFillWaits n s die).steady = s.steady := by
  induction n generalizing s with
  | zero => simp [State.serveFillWaits]
  | succ n ih =>
    unfold State.serveFillWaits
    split
    · rfl
    · simp [ih]

@[simp] theorem State.setChan_steady (s : State) (c ch v) : (s.setChan c ch v).steady = s.steady := (rfl)

@[simp] theorem State.setRun_steady (s : State) (c ch r) : (s.setRun c ch r).steady = s.steady := (rfl)

@[simp] theorem State.moverStart_steady (s : State) (c ch) : (s.moverStart c ch).steady = s.steady := by
  unfold State.moverStart
  simp
  split <;> simp

@[simp] theorem State.sramStore_steady (s : State) (c d i ls) : (s.sramStore c d i ls).steady = s.steady := (rfl)

@[simp] theorem State.readFrom_steady (s : State) (c ch b) : (s.readFrom c ch b).steady = s.steady := by
  unfold State.readFrom
  split
  · rfl
  · simp
    split
    · split <;> simp
    · split <;> simp

@[simp] theorem State.moverTake_steady (s : State) (c ch r code data) : (s.moverTake c ch r code data).steady = s.steady := by
  simp [State.moverTake]

@[simp] theorem State.moverCopy_steady (s : State) (c ch r) : (s.moverCopy c ch r).steady = s.steady := (rfl)

@[simp] theorem State.cellPutHere_steady (s : State) (tn die cell off data) : (s.cellPutHere tn die cell off data).2.steady = s.steady := by
  unfold State.cellPutHere
  split
  · rfl
  · simp
    split <;> simp

@[simp] theorem State.moverPacket_steady (s : State) (c ch r kind cls dst sa n data) : (s.moverPacket c ch r kind cls dst sa n data).2.2.steady = s.steady := (rfl)

@[simp] theorem State.moverSend_steady (s : State) (c ch r tag p n key) : (s.moverSend c ch r tag p n key).steady = s.steady := by
  unfold State.moverSend
  split
  · split
    · next h _ _ => simp [steady_of_snd h]
    · next h _ _ _ => simp [steady_of_snd h]
  · next h => simp [steady_of_snd h]

@[simp] theorem State.moverCellPut_steady (s : State) (c ch r) : (s.moverCellPut c ch r).steady = s.steady := by
  unfold State.moverCellPut
  simp
  split
  · next h => simp [steady_of_snd h]
  · next h => simp [steady_of_snd h]

@[simp] theorem State.moverFail_steady (s : State) (c ch code) : (s.moverFail c ch code).steady = s.steady := by
  unfold State.moverFail
  split
  · rfl
  · simp

@[simp] theorem State.moverFinish_steady (s : State) (c ch r) : (s.moverFinish c ch r).steady = s.steady := by
  simp [State.moverFinish]

@[simp] theorem State.sendUp_steady (s : State) (m) : (s.sendUp m).steady = s.steady := by
  unfold State.sendUp
  split
  · rfl
  · simp

@[simp] theorem State.noteHold_steady (s : State) (cause dev) : (s.noteHold cause dev).steady = s.steady := (rfl)

@[simp] theorem State.sendHold_steady (s : State) (cause) : (s.sendHold cause).steady = s.steady := by
  simp [State.sendHold]

@[simp] theorem State.holdFor_steady (s : State) (cause) : (s.holdFor cause).steady = s.steady := by
  simp [State.holdFor]

@[simp] theorem State.unhold_steady (s : State) (cause) : (s.unhold cause).steady = s.steady := (rfl)

@[simp] theorem State.trackHold_steady (s : State) (cause due bit) : (s.trackHold cause due bit).steady = s.steady := by
  unfold State.trackHold
  split
  · split
    · rfl
    · split <;> simp
  · simp

@[simp] theorem State.refreshHolds_steady (s : State) : (s.refreshHolds).steady = s.steady := by
  simp [State.refreshHolds]

@[simp] theorem State.setAperture_steady (s : State) (t a) : (s.setAperture t a).steady = s.steady := (rfl)

@[simp] theorem State.setSlot_steady (s : State) (t i v) : (s.setSlot t i v).steady = s.steady := (rfl)

@[simp] theorem State.countReject_steady (s : State) (code) : (s.countReject code).steady = s.steady := by
  simp [State.countReject]

@[simp] theorem State.slotEnd_steady (s : State) (t i code detail) : (s.slotEnd t i code detail).steady = s.steady := by
  unfold State.slotEnd
  split
  · simp
    split
    · simp
    · rfl
  · simp
    split
    · simp
    · rfl

@[simp] theorem State.apDiscard_steady (s : State) (t i) : (s.apDiscard t i).steady = s.steady := by
  simp [State.apDiscard]

@[simp] theorem State.apAbsent_steady (s : State) (t) : (s.apAbsent t).steady = s.steady := (rfl)

@[simp] theorem State.pwrEnd_steady (s : State) (code) : (s.pwrEnd code).steady = s.steady := (rfl)

@[simp] theorem State.abandonSleep_steady (s : State) : (s.abandonSleep).steady = s.steady := by
  unfold State.abandonSleep
  split
  · simp
  · rfl

@[simp] theorem State.leaveRest_steady (s : State) : (s.leaveRest).steady = s.steady := by
  simp [State.leaveRest]

@[simp] theorem State.landWith_steady (s : State) (t i l bad) : (s.landWith t i l bad).steady = s.steady := by
  unfold State.landWith
  split
  · simp
  · split
    · simp
    · split
      · simp
      · split <;> simp

@[simp] theorem State.readLines_steady (s : State) (t addr n dead) : (s.readLines t addr n dead).2.2.steady = s.steady := by
  unfold State.readLines
  refine List.foldlRecOn (motive := fun (acc : Code × List Line × State) => acc.2.2.steady = s.steady) _ _ rfl ?_
  intro acc h i _
  obtain ⟨c, ls, u⟩ := acc
  dsimp only
  split <;> simpa using h

@[simp] theorem State.setCtx_steady (s : State) (n c) : (s.setCtx n c).steady = s.steady := (rfl)

@[simp] theorem State.ctxEnd_steady (s : State) (n code detail) : (s.ctxEnd n code detail).steady = s.steady := by
  unfold State.ctxEnd
  split
  · rfl
  · simp

@[simp] theorem State.formRecord_steady (s : State) (n c isEnd first tokens count code detail) :
    (s.formRecord n c isEnd first tokens count code detail).steady = s.steady := by
  unfold State.formRecord
  exact State.sendMirror_steady _ _ _

@[simp] theorem State.formFor_steady (s : State) (n c) : (s.formFor n c).steady = s.steady := by
  unfold State.formFor
  split
  · simp
    split <;> simp
  · simp
    split <;> simp

@[simp] theorem State.formRecords_steady (s : State) : (s.formRecords).steady = s.steady := by
  simp [State.formRecords]

@[simp] theorem State.setMirror_steady (s : State) (d m) : (s.setMirror d m).steady = s.steady := (rfl)

@[simp] theorem State.mirrorLine_steady (s : State) (d t addr) : (s.mirrorLine d t addr).steady = s.steady := by
  unfold State.mirrorLine
  split <;> simp

@[simp] theorem State.appendMirrors_steady (s : State) (c p n) : (s.appendMirrors c p n).steady = s.steady := by
  unfold State.appendMirrors
  exact State.steady_foldl _ (fun s a => by simp) _ _

@[simp] theorem State.sealSegments_steady (s : State) (n c) : (s.sealSegments n c).steady = s.steady := by
  unfold State.sealSegments
  refine State.steady_foldl _ (fun s a => ?_) _ _
  split
  · rfl
  · simp

@[simp] theorem State.degradeModel_steady (s : State) (m) : (s.degradeModel m).steady = s.steady := by
  simp [State.degradeModel]

@[simp] theorem State.poisonRegion_steady (s : State) (b) : (s.poisonRegion b).steady = s.steady := by
  simp [State.poisonRegion]

@[simp] theorem State.attachRegion_steady (s : State) (c) : (s.attachRegion c).steady = s.steady := by
  unfold State.attachRegion
  split
  · refine State.steady_foldl _ (fun s a => ?_) _ _
    split
    · split
      · next h => simp [steady_of_frame h]
      · next h => simp [steady_of_wait h]
      · next h => simp [steady_of_quota h]
    · rfl
  · refine State.steady_foldl _ (fun s a => ?_) _ _
    split
    · split
      · next h => simp [steady_of_frame h]
      · next h => simp [steady_of_wait h]
      · next h => simp [steady_of_quota h]
    · rfl

@[simp] theorem State.bindCtx_steady (s : State) (t i) : (s.bindCtx t i).steady = s.steady := by
  unfold State.bindCtx
  dsimp only
  split
  · simp
  · rfl

@[simp] theorem State.holdOrQuota_steady (s : State) (t i) : (s.holdOrQuota t i).steady = s.steady := by
  simp [State.holdOrQuota]

@[simp] theorem State.promptRises_steady (s : State) (t addr n) : (s.promptRises t addr n).steady = s.steady := by
  simp [State.promptRises]

@[simp] theorem State.admitStart_steady (s : State) (t i time) : (s.admitStart t i time).steady = s.steady := by
  unfold State.admitStart
  split
  · simp
  · simp
    split
    · simp
    · split
      · next h _ => simp [State.reserve_steady h]
      · split
        · next h => simp [State.reserve_steady h]
        · next h => simp [State.reserve_steady h]

@[simp] theorem State.cancelPeers_steady (s : State) (t r) : (s.cancelPeers t r).steady = s.steady := by
  simp [State.cancelPeers]

@[simp] theorem State.unask_steady (s : State) (t i) : (s.unask t i).steady = s.steady := by
  unfold State.unask
  simp
  split
  · simp
  · rfl

@[simp] theorem State.writeBatch_steady (s : State) (me c m argSram) : (s.writeBatch me c m argSram).steady = s.steady := by
  simp [State.writeBatch]

@[simp] theorem State.fetchRanges_steady (s : State) (rs) : (s.fetchRanges rs).steady = s.steady := by
  simp [State.fetchRanges]

@[simp] theorem State.setShardSlot_steady (s : State) (i v) : (s.setShardSlot i v).steady = s.steady := (rfl)

theorem State.holdBlock_steady {s t : State} {tn b} (h : s.holdBlock tn b = some t) : t.steady = s.steady := by
  unfold State.holdBlock at h
  dsimp only at h
  split at h
  · split at h
    · cases h; simp
    · split at h
      · cases h; simp
      · split at h
        · next h1 => cases h; simp [steady_of_frame h1]
        · next h1 => cases h; simp [steady_of_wait h1]
        · cases h
  · cases h

theorem State.holdBlocks_steady {s t : State} {tn bs} (h : s.holdBlocks tn bs = some t) : t.steady = s.steady := by
  induction bs generalizing s with
  | nil => cases h; rfl
  | cons b r ih =>
    obtain ⟨u, hu, ht⟩ := Option.bind_eq_some_iff.mp h
    rw [ih ht, State.holdBlock_steady hu]

@[simp] theorem State.releaseBlocks_steady (s : State) (tn bs) : (s.releaseBlocks tn bs).steady = s.steady := by
  simp [State.releaseBlocks]

@[simp] theorem State.dropOlds_steady (s : State) : (s.dropOlds).steady = s.steady := by
  simp [State.dropOlds]

@[simp] theorem State.setPart_steady (s : State) (i p) : (s.setPart i p).steady = s.steady := (rfl)

@[simp] theorem State.sendAnswer_steady (s : State) (p) : (s.sendAnswer p).steady = s.steady := by
  simp [State.sendAnswer]

@[simp] theorem State.partEnds_steady (s : State) (i p code) : (s.partEnds i p code).steady = s.steady := by
  simp [State.partEnds]

@[simp] theorem State.partWaits_steady (s : State) (i p left rs) : (s.partWaits i p left rs).steady = s.steady := by
  simp [State.partWaits]

@[simp] theorem State.partReads_steady (s : State) (i p left rs) {k : State → State} (hk : ∀ t, (k t).steady = t.steady) :
    (s.partReads i p left rs k).steady = s.steady := by
  unfold State.partReads
  split
  · exact hk s
  · simp
  · simp

@[simp] theorem State.partScan_steady (s : State) (i p) : (s.partScan i p).steady = s.steady := by
  simp [State.partScan]

@[simp] theorem State.partStart_steady (s : State) (i p) : (s.partStart i p).steady = s.steady := by
  simp [State.partStart]

@[simp] theorem State.startParts_steady (s : State) : (s.startParts).steady = s.steady := by
  unfold State.startParts
  refine State.steady_foldl _ (fun s a => ?_) _ _
  split
  · simp
  · rfl

@[simp] theorem State.bindPart_steady (s : State) (i m shard slot v) : (s.bindPart i m shard slot v).steady = s.steady := by
  simp [State.bindPart]

@[simp] theorem State.answerNow_steady (s : State) (m shard code) : (s.answerNow m shard code).steady = s.steady := by
  simp [State.answerNow]

@[simp] theorem State.dequeueParts_steady (s : State) (n) : (s.dequeueParts n).steady = s.steady := by
  induction n generalizing s with
  | zero => simp [State.dequeueParts]
  | succ n ih =>
    unfold State.dequeueParts
    split
    · rfl
    · dsimp only
      split <;> simp [ih]

@[simp] theorem State.freePart_steady (s : State) (i) : (s.freePart i).steady = s.steady := by
  simp [State.freePart]

@[simp] theorem State.setHomeQ_steady (s : State) (q h) : (s.setHomeQ q h).steady = s.steady := (rfl)

@[simp] theorem State.unicastParts_steady (s : State) (h m) : (s.unicastParts h m).steady = s.steady := by
  simp [State.unicastParts]

@[simp] theorem State.fanOut_steady (s : State) (q h shards) : (s.fanOut q h shards).steady = s.steady := by
  unfold State.fanOut
  simp
  split
  · simp
  · split <;> simp

@[simp] theorem State.relayDead_steady (s : State) (q m) : (s.relayDead q m).steady = s.steady := by
  unfold State.relayDead
  split
  · simp
  · rfl

@[simp] theorem State.shardCodes_steady (s : State) (h) : (s.shardCodes h).2.steady = s.steady := by
  unfold State.shardCodes
  refine List.foldlRecOn (motive := fun (acc : List Nat × State) => acc.2.steady = s.steady) _ _ rfl ?_
  intro acc hacc i _
  split <;> simpa using hacc

@[simp] theorem State.degradeShards_steady (s : State) (b) : (s.degradeShards b).steady = s.steady := by
  simp [State.degradeShards]

@[simp] theorem State.dropHolder_steady (s : State) (h) : (s.dropHolder h).steady = s.steady := by
  simp [State.dropHolder]

@[simp] theorem State.fenceBinding_steady (s : State) (b) : (s.fenceBinding b).steady = s.steady := by
  simp [State.fenceBinding]

@[simp] theorem State.abortWho_steady (s : State) (w) : (s.abortWho w).steady = s.steady := by
  unfold State.abortWho
  split
  · simp
  · simp
  · rfl

@[simp] theorem State.abortThrough_steady (s : State) (k) : (s.abortThrough k).2.steady = s.steady := by
  unfold State.abortThrough
  split
  · dsimp only
    rw [State.steady_foldl _ fun s r => ?requests, State.steady_foldl _ fun s a => s.abortWho_steady _, State.onFab_steady,
      State.onHpt_steady, State.onTier_steady, State.steady_foldl _ fun s m => ?movers, State.flag_steady]
    case requests => split <;> simp
    case movers => split <;> simp
  · rfl

@[simp] theorem State.dropEntry_steady (s : State) (k) : (s.dropEntry k).steady = s.steady := (rfl)

@[simp] theorem State.xltEnd_steady (s : State) (code st) : (s.xltEnd code st).steady = s.steady := (rfl)

@[simp] theorem State.revokeDone_steady (s : State) : (s.revokeDone).steady = s.steady := by
  unfold State.revokeDone
  split
  · simp
  · rfl

@[simp] theorem State.hptEnd_steady (s : State) (code) : (s.hptEnd code).steady = s.steady := (rfl)

@[simp] theorem State.setDcOp_steady (s : State) (old new) : (s.setDcOp old new).steady = s.steady := (rfl)

@[simp] theorem State.recallRange_steady (s : State) (h off n) : (s.recallRange h off n).steady = s.steady := by
  simp [State.recallRange]

@[simp] theorem State.dcRecall_steady (s : State) (o) : (s.dcRecall o).steady = s.steady := by
  simp [State.dcRecall]

@[simp] theorem State.dcFinish_steady (s : State) (o) : (s.dcFinish o).steady = s.steady := by
  simp [State.dcFinish]

@[simp] theorem State.dcProgress_steady (s : State) : (s.dcProgress).steady = s.steady := by
  simp [State.dcProgress]

@[simp] theorem State.rangeProgress_steady (s : State) : (s.rangeProgress).steady = s.steady := by
  simp [State.rangeProgress]

@[simp] theorem State.setCommons_steady (s : State) (c v) : (s.setCommons c v).steady = s.steady := (rfl)

@[simp] theorem State.addRefs_steady (s : State) (is) : (s.addRefs is).steady = s.steady := by
  unfold State.addRefs
  refine State.steady_foldl _ (fun s a => ?_) _ _
  split <;> simp

@[simp] theorem State.dropRefs_steady (s : State) (is) : (s.dropRefs is).steady = s.steady := by
  simp [State.dropRefs]

@[simp] theorem State.retireVersions_steady (s : State) (n) : (s.retireVersions n).steady = s.steady := by
  unfold State.retireVersions
  split
  · rfl
  · simp

@[simp] theorem State.setHomes_steady (s : State) (first n r) : (s.setHomes first n r).steady = s.steady := by
  simp [State.setHomes]

@[simp] theorem State.createProgress_steady (s : State) : s.createProgress.steady = s.steady := by
  unfold State.createProgress
  split
  · rfl
  · next c _ =>
    dsimp only
    refine (State.steady_ite _ _ _).trans (ite_eq_of_both rfl ?_)
    refine (State.steady_ite _ _ _).trans (ite_eq_of_both (by simp) ?_)
    refine (State.steady_ite _ _ _).trans (ite_eq_of_both (by simp) (by simp))

@[simp] theorem State.createSealEnd_steady (s : State) (code) : (s.createSealEnd code).steady = s.steady := by
  simp [State.createSealEnd]

@[simp] theorem State.recallWhere_steady (s : State) (firstBlock blocks p) : (s.recallWhere firstBlock blocks p).2.steady = s.steady := by
  simp [State.recallWhere]

@[simp] theorem State.sendHomeReply_steady (s : State) (r) : (s.sendHomeReply r).steady = s.steady := by
  simp [State.sendHomeReply]

@[simp] theorem State.replyProgress_steady (s : State) : (s.replyProgress).steady = s.steady := by
  simp [State.replyProgress]

@[simp] theorem State.hostProgress_steady (s : State) : (s.hostProgress).steady = s.steady := by
  simp [State.hostProgress]

@[simp] theorem State.setView_steady (s : State) (n c q v) : (s.setView n c q v).steady = s.steady := by
  simp [State.setView]

/-- Block `k` of a staging area: bytes of the own store, or free ones. -/
def State.stagedBlock (s : State) (q : HomeReq) (k : Nat) : Mem :=
  (List.range blockBytes).foldl (fun m i => m.setByte i
    (if BitVec.ofNat 9 (saDevice q.staging) == s.device then s.peekOff (saOffset q.staging + k * blockBytes + i)
      else (Config.freeWord (s.free + i)).setWidth 8)) []

/-- The state once the block has been read. -/
def State.afterStaged (s : State) (q : HomeReq) : State :=
  if BitVec.ofNat 9 (saDevice q.staging) == s.device then s else { s with free := s.free + blockBytes }

@[simp] theorem State.afterStaged_steady (s : State) (q) : (s.afterStaged q).steady = s.steady := by
  unfold State.afterStaged
  split <;> simp

theorem State.stagingImages_succ (s : State) (c q first version n made) :
    s.stagingImages c q first version (n + 1) made =
      (match (s.afterStaged q).makeImage (c.firstBlock + first + made.length) (s.stagedBlock q made.length) 0 4 c.owner
        (BitVec.ofNat 64 version) with
      | none => none
      | some (i, t) => t.stagingImages c q first version n (made ++ [i])) := by
  unfold State.stagedBlock State.afterStaged
  delta State.stagingImages State.stagingImages._f
  -- with the block size a variable, no comparison below unfolds the list of a block's offsets
  generalize blockBytes = size
  rfl

theorem State.stagingImages_steady {s t : State} {c q first version n made is}
    (h : s.stagingImages c q first version n made = some (is, t)) : t.steady = s.steady := by
  induction n generalizing s made with
  | zero => cases Option.some.inj h; rfl
  | succ n ih =>
    rw [State.stagingImages_succ] at h
    split at h
    · cases h
    · next hm => rw [ih h, State.makeImage_steady hm, State.afterStaged_steady]

@[simp] theorem State.commitVersion_steady (s : State) (n c q first made) : (s.commitVersion n c q first made).steady = s.steady := by
  simp [State.commitVersion]

@[simp] theorem State.runPublish_steady (s : State) (n c q) : (s.runPublish n c q).steady = s.steady := by
  unfold State.runPublish
  dsimp only
  iterate 7 refine (State.steady_ite _ _ _).trans (ite_eq_of_both (by simp) ?_)
  split
  · simp
  · next h => simp [State.stagingImages_steady h]

@[simp] theorem State.runHomeop_steady (s : State) (q) : (s.runHomeop q).steady = s.steady := by
  unfold State.runHomeop
  split <;> simp

@[simp] theorem State.tierReports_steady (s : State) (e) : (s.tierReports e).steady = s.steady := by
  unfold State.tierReports
  split
  · simp
  · simp
  · rfl

@[simp] theorem State.takeReports_steady (s : State) : (s.takeReports).steady = s.steady := by
  simp [State.takeReports]

@[simp] theorem State.startReleases_steady (s : State) : (s.startReleases).steady = s.steady := by
  simp [State.startReleases]

@[simp] theorem State.answerFences_steady (s : State) : (s.answerFences).steady = s.steady := by
  simp [State.answerFences]

@[simp] theorem State.failoverHolds_steady (s : State) : (s.failoverHolds).steady = s.steady := by
  simp [State.failoverHolds]

@[simp] theorem State.stageEnds_steady (s : State) : (s.stageEnds).steady = s.steady := by
  unfold State.stageEnds
  split
  · rfl
  · simp

@[simp] theorem State.lineError_steady (s : State) (off) : (s.lineError off).steady = s.steady := by
  unfold State.lineError
  simp
  split
  · simp
  · simp
  · simp
  · simp
  · rfl

@[simp] theorem State.fillFailed_steady (s : State) (b t why) : (s.fillFailed b t why).steady = s.steady := by
  unfold State.fillFailed
  simp
  split <;> simp

@[simp] theorem State.telFill_steady (s : State) (e t) : (s.telFill e t).steady = s.steady := (rfl)

@[simp] theorem State.serveWaiting_steady (s : State) (b) : (s.serveWaiting b).steady = s.steady := by
  unfold State.serveWaiting
  refine State.steady_foldl _ (fun s a => ?_) _ _
  split
  · simp
  · simp

@[simp] theorem State.setStream_steady (s : State) (d v) : (s.setStream d v).steady = s.steady := (rfl)

@[simp] theorem State.layerDelivered_steady (s : State) (d) : (s.layerDelivered d).steady = s.steady := (rfl)

@[simp] theorem State.joinWindow_steady (s : State) (tn packed b) : (s.joinWindow tn packed b).steady = s.steady := by
  unfold State.joinWindow
  simp
  split
  · next h => simp [steady_of_frame h]
  · next h => simp [steady_of_wait h]
  · next h => simp [steady_of_quota h]

@[simp] theorem State.leaveWindow_steady (s : State) (tn packed b) : (s.leaveWindow tn packed b).steady = s.steady := by
  simp [State.leaveWindow]

@[simp] theorem State.prefetch_steady (s : State) (v) : (s.prefetch v).steady = s.steady := by
  unfold State.prefetch
  refine State.steady_foldl _ (fun s a => ?_) _ _
  refine State.steady_foldl _ (fun s a => ?_) _ _
  split
  · next h => simp [steady_of_frame h]
  · next h => simp [steady_of_wait h]
  · next h => simp [steady_of_quota h]

@[simp] theorem State.nextLayer_steady (s : State) (d v) : (s.nextLayer d v).steady = s.steady := by
  unfold State.nextLayer
  split
  · split
    · simp
      split <;> simp
    · simp
      split <;> simp
  · simp
    split <;> simp

@[simp] theorem State.passLayers_steady (n s d) : (State.passLayers n s d).steady = s.steady := by
  induction n generalizing s with
  | zero => simp [State.passLayers]
  | succ n ih =>
    unfold State.passLayers
    split
    · rfl
    · split
      · rfl
      · split
        · simp [ih]
        · rfl

@[simp] theorem State.fillHalf_steady (s : State) (d v l cell half bytes) : (s.fillHalf d v l cell half bytes).steady = s.steady := by
  simp [State.fillHalf]

@[simp] theorem State.castChunk_steady (s : State) (l off bytes tn) : (s.castChunk l off bytes tn).steady = s.steady := by
  unfold State.castChunk
  split
  · rfl
  · simp

@[simp] theorem State.opOpen_steady (s : State) (b) : (s.opOpen b).steady = s.steady := (rfl)

@[simp] theorem State.opSeal_steady (s : State) (b) : (s.opSeal b).steady = s.steady := by
  unfold State.opSeal
  simp
  split
  · next h => simp [State.requestSeal_steady h]
  · simp

@[simp] theorem State.opImport_steady (s : State) (b) : (s.opImport b).steady = s.steady := by
  unfold State.opImport
  simp
  split
  · simp
  · split
    · simp
    · next h => simp [State.allocT2_steady h]

@[simp] theorem State.opMigrate_steady (s : State) (b) : (s.opMigrate b).steady = s.steady := by
  unfold State.opMigrate
  simp
  split
  · next h => simp [steady_of_frame h]
  · next h => simp [steady_of_wait h]
  · next h => simp [steady_of_quota h]

@[simp] theorem State.opPromote_steady (s : State) (b) : (s.opPromote b).steady = s.steady := by
  unfold State.opPromote
  split
  · simp
    split
    · simp
    · split
      · simp
      · simp
      · simp
      · split
        · simp
        · split
          · next h => simp [steady_of_frame h]
          · next h => simp [steady_of_wait h]
          · next h => simp [steady_of_quota h]
    · simp
  · simp
    split
    · simp
    · split
      · simp
      · simp
      · simp
      · split
        · simp
        · split
          · next h => simp [steady_of_frame h]
          · next h => simp [steady_of_wait h]
          · next h => simp [steady_of_quota h]
    · simp

@[simp] theorem State.opSink_steady (s : State) (b) : (s.opSink b).steady = s.steady := by
  unfold State.opSink
  split
  · simp
    split
    · simp
    · simp
    · simp
  · simp
    split
    · simp
    · simp
    · simp

@[simp] theorem State.plainWrite_steady (s : State) (off v) : (s.plainWrite off v).steady = s.steady := by
  simp [State.plainWrite]

@[simp] theorem State.cellPutTake_steady (s : State) (p) : (s.cellPutTake p).steady = s.steady := by
  unfold State.cellPutTake
  split
  · simp
    split
    · rfl
    · simp
  · simp
    split
    · rfl
    · simp

@[simp] theorem State.recallStart_steady (s : State) (l h) : (s.recallStart l h).steady = s.steady := by
  simp [State.recallStart]

@[simp] theorem State.takeRecall_steady (s : State) (home b sa range) : (s.takeRecall home b sa range).steady = s.steady := by
  unfold State.takeRecall
  split
  · simp
  · simp

@[simp] theorem State.recallTimeout_steady (s : State) (l h) : (s.recallTimeout l h).steady = s.steady := by
  simp [State.recallTimeout]

@[simp] theorem State.hptOpen_steady (s : State) : (s.hptOpen).steady = s.steady := (rfl)

@[simp] theorem State.hptBindRun_steady (s : State) : (s.hptBindRun).steady = s.steady := by
  simp [State.hptBindRun]

@[simp] theorem State.hptUnbindRun_steady (s : State) : (s.hptUnbindRun).steady = s.steady := by
  simp [State.hptUnbindRun]

@[simp] theorem State.hptUnfenceRun_steady (s : State) : (s.hptUnfenceRun).steady = s.steady := by
  simp [State.hptUnfenceRun]

@[simp] theorem State.hptDcAddRun_steady (s : State) : (s.hptDcAddRun).steady = s.steady := by
  simp [State.hptDcAddRun]

@[simp] theorem State.hptDcWithdrawRun_steady (s : State) : (s.hptDcWithdrawRun).steady = s.steady := by
  simp [State.hptDcWithdrawRun]

@[simp] theorem State.hptComCreateRun_steady (s : State) : (s.hptComCreateRun).steady = s.steady := by
  simp [State.hptComCreateRun]

@[simp] theorem State.hptComGrantRun_steady (s : State) : (s.hptComGrantRun).steady = s.steady := by
  unfold State.hptComGrantRun
  simp
  split
  · simp
  · simp

@[simp] theorem State.hptComDestroyRun_steady (s : State) : (s.hptComDestroyRun).steady = s.steady := by
  unfold State.hptComDestroyRun
  simp
  split
  · simp
  · simp

@[simp] theorem State.hptCommand_steady (s : State) (w) : (s.hptCommand w).steady = s.steady := by
  simp [State.hptCommand]

@[simp] theorem State.dropDcOp_steady (s : State) (o) : (s.dropDcOp o).steady = s.steady := (rfl)

@[simp] theorem State.dcResponse_steady (s : State) (accept) : (s.dcResponse accept).steady = s.steady := by
  unfold State.dcResponse
  split
  · rfl
  · simp

@[simp] theorem State.flagAt_steady (s : State) (c off o aq rd) : (s.flagAt c off o aq rd).steady = s.steady := by
  unfold State.flagAt
  extract_lets old wait u v
  have hv : v.steady = s.steady := by simp [v, u]
  cases wait with
  | none =>
    dsimp only
    split <;> simp [hv]
  | some t => simp

@[simp] theorem State.flagBeyond_steady (s : State) (c off o aq rd) : (s.flagBeyond c off o aq rd).steady = s.steady := by
  simp [State.flagBeyond]

@[simp] theorem State.flagInsn_steady (s : State) (c rs1 o aq rd) : (s.flagInsn c rs1 o aq rd).steady = s.steady := by
  simp [State.flagInsn]

@[simp] theorem State.flagReached_steady (s : State) (c) : (s.flagReached c).steady = s.steady := by
  unfold State.flagReached
  split
  · simp
  · split
    · next h => simp [steady_of_snd h]
  · rfl

@[simp] theorem State.waitEnds_steady (s : State) (c) : (s.waitEnds c).steady = s.steady := by
  unfold State.waitEnds
  dsimp only
  split
  · simp
  · split
    · split <;> simp
    · split <;> simp
  · simp
  · rfl

@[simp] theorem State.enqueueDesc_steady (s : State) (c q d) : (s.enqueueDesc c q d).2.steady = s.steady := (rfl)

@[simp] theorem State.issueInsn_steady (s : State) (c q rd rs1) : (s.issueInsn c q rd rs1).steady = s.steady := by
  simp [State.issueInsn]

@[simp] theorem State.slotFree_steady (s : State) (c) : (s.slotFree c).steady = s.steady := by
  unfold State.slotFree
  split
  · simp
  · rfl

@[simp] theorem State.waitInsn_steady (s : State) (c q rd rs1) : (s.waitInsn c q rd rs1).steady = s.steady := by
  unfold State.waitInsn
  split
  · simp
  · simp
    split <;> simp

@[simp] theorem State.ticketEnded_steady (s : State) (c) : (s.ticketEnded c).steady = s.steady := by
  unfold State.ticketEnded
  split
  · split <;> simp
  · rfl

@[simp] theorem State.pollInsn_steady (s : State) (c q rd rs1) : (s.pollInsn c q rd rs1).steady = s.steady := by
  unfold State.pollInsn
  split
  · simp
  · simp
    split <;> simp

@[simp] theorem State.waleInsn_steady (s : State) (c rd rs1) : (s.waleInsn c rd rs1).steady = s.steady := by
  simp [State.waleInsn]

@[simp] theorem State.waleReached_steady (s : State) (c) : (s.waleReached c).steady = s.steady := by
  unfold State.waleReached
  split
  · simp
  · rfl

@[simp] theorem State.ecallInsn_steady (s : State) (c) : (s.ecallInsn c).steady = s.steady := by
  simp [State.ecallInsn]

@[simp] theorem State.extInsn_steady (s : State) (c i) : (s.extInsn c i).steady = s.steady := by
  unfold State.extInsn
  split
  · simp
  · simp
  · simp
  · simp
  · simp
  · simp
  · simp
  · simp
  · simp
  · simp
  · simp
  · simp
  · simp
  · simp
  · simp
  · simp

theorem State.acceptEpoch_steady {s t : State} {m} (h : s.acceptEpoch m = some t) : t.steady = s.steady := by
  unfold State.acceptEpoch at h
  dsimp only at h
  split at h
  · cases h
  · split at h
    · cases h; rfl
    · cases h; simp

@[simp] theorem State.takeSync_steady (s : State) (m offset errorNs locked) : (s.takeSync m offset errorNs locked).steady = s.steady := by
  unfold State.takeSync
  split
  · rfl
  · next h => simp [State.acceptEpoch_steady h]

@[simp] theorem State.sendReady_steady (s : State) : (s.sendReady).steady = s.steady := by
  simp [State.sendReady]

@[simp] theorem State.becomeReady_steady (s : State) : (s.becomeReady).steady = s.steady := by
  unfold State.becomeReady
  split
  · split <;> simp
  · rfl

@[simp] theorem State.holdEarly_steady (s : State) (m) : (s.holdEarly m).steady = s.steady := by
  simp [State.holdEarly]

@[simp] theorem State.takeReady_steady (s : State) (m) : (s.takeReady m).steady = s.steady := by
  unfold State.takeReady
  split
  · rfl
  · next h => simp [State.acceptEpoch_steady h]

@[simp] theorem State.takeHold_steady (s : State) (m) : (s.takeHold m).steady = s.steady := by
  unfold State.takeHold
  split
  · rfl
  · next h => simp [State.acceptEpoch_steady h]

@[simp] theorem State.stepStarted_steady (s : State) (t r o) : (s.stepStarted t r o).steady = s.steady := (rfl)

@[simp] theorem State.stepWorks_steady (s : State) : (s.stepWorks).steady = s.steady := by
  simp [State.stepWorks]

@[simp] theorem State.startStep_steady (s : State) (t kind) {k : TrackRun → Step → State → State}
    (hk : ∀ r d u, (k r d u).steady = u.steady) : (s.startStep t kind k).steady = s.steady := by
  unfold State.startStep
  split
  · rfl
  · split
    · rfl
    · split
      · rfl
      · split
        · simp
        · exact hk _ _ _

@[simp] theorem State.startKernel_steady (s : State) (t r d) : (s.startKernel t r d).steady = s.steady := by
  unfold State.startKernel
  simp
  split <;> simp

@[simp] theorem State.startStream_steady (s : State) (t r d) : (s.startStream t r d).steady = s.steady := by
  unfold State.startStream
  split
  · simp
  · simp

@[simp] theorem State.startService_steady (s : State) (t r d) : (s.startService t r d).steady = s.steady := by
  unfold State.startService
  simp
  split <;> simp

@[simp] theorem State.startSearch_steady (s : State) (t r d) : (s.startSearch t r d).steady = s.steady := by
  simp [State.startSearch]

@[simp] theorem State.writeWaleLen_steady (s : State) (v) : (s.writeWaleLen v).steady = s.steady := by
  simp [State.writeWaleLen]

@[simp] theorem State.unblockAll_steady (s : State) : (s.unblockAll).steady = s.steady := by
  simp [State.unblockAll]

@[simp] theorem State.markUnreach_steady (s : State) (d) : (s.markUnreach d).steady = s.steady := by
  simp [State.markUnreach]

@[simp] theorem State.fenceAnswer_steady (s : State) (id dead) : (s.fenceAnswer id dead).steady = s.steady := by
  unfold State.fenceAnswer
  split
  · rfl
  · simp

@[simp] theorem State.requestEnds_steady (s : State) (r code detail data) : (s.requestEnds r code detail data).steady = s.steady := by
  unfold State.requestEnds
  split
  · simp
  · simp
  · simp
  · simp
  · simp
  · simp
  · split
    · simp
    · rfl
  · rfl
  · rfl
  · rfl

@[simp] theorem State.takeAnswer_steady (s : State) (r src code detail data) : (s.takeAnswer r src code detail data).steady = s.steady := by
  simp [State.takeAnswer]

@[simp] theorem State.takeReply_steady (s : State) (p) : (s.takeReply p).steady = s.steady := by
  unfold State.takeReply
  split
  · simp
  · simp

@[simp] theorem State.takeFenceDone_steady (s : State) (p) : (s.takeFenceDone p).steady = s.steady := by
  unfold State.takeFenceDone
  split
  · rfl
  · simp

@[simp] theorem State.mirrorAcked_steady (s : State) (p) : (s.mirrorAcked p).steady = s.steady := by
  unfold State.mirrorAcked
  split
  · rfl
  · split <;> simp

@[simp] theorem State.takeDelivered_steady (s : State) (src es) : (s.takeDelivered src es).steady = s.steady := by
  simp [State.takeDelivered]

@[simp] theorem State.sendDelivered_steady (s : State) (src) : (s.sendDelivered src).steady = s.steady := by
  simp [State.sendDelivered]

@[simp] theorem State.resend_steady (s : State) (f seq) : (s.resend f seq).steady = s.steady := by
  unfold State.resend
  split
  · rfl
  · simp

@[simp] theorem State.deadTimeout_steady (s : State) (tag) : (s.deadTimeout tag).steady = s.steady := by
  unfold State.deadTimeout
  split
  · rfl
  · simp

@[simp] theorem State.postedLost_steady (s : State) (f seq) : (s.postedLost f seq).steady = s.steady := by
  unfold State.postedLost
  split
  · rfl
  · simp

@[simp] theorem State.sendProbe_steady (s : State) (d) : (s.sendProbe d).steady = s.steady := by
  simp [State.sendProbe]

@[simp] theorem State.setRx_steady (s : State) (r) : (s.setRx r).steady = s.steady := (rfl)

@[simp] theorem State.takeProbe_steady (s : State) (p) : (s.takeProbe p).steady = s.steady := by
  simp [State.takeProbe]

@[simp] theorem State.takeProbeReply_steady (s : State) (d) : (s.takeProbeReply d).steady = s.steady := (rfl)

@[simp] theorem State.takeWaking_steady (s : State) (tag) : (s.takeWaking tag).steady = s.steady := (rfl)

@[simp] theorem State.queryBind_steady (s : State) (t i l dead) : (s.queryBind t i l dead).2.steady = s.steady := by
  unfold State.queryBind
  extract_lets f no k
  split
  · rfl
  · next c _ =>
    extract_lets n
    split
    · rfl
    · split
      · rfl
      · generalize hR : s.readLines t (f 0x10 0 56) n (fun _ => dead) = R
        have hu : R.2.2.steady = s.steady := by rw [← hR, State.readLines_steady]
        obtain ⟨code, block, u⟩ := R
        clear hR
        split
        next he =>
        cases he
        split
        · rfl
        · split
          · rfl
          · split
            · rfl
            · split
              · rfl
              · exact (State.fanOut_steady ..).trans ((State.addF_steady ..).trans hu)

@[simp] theorem State.landSearch_steady (s : State) (t i l bad) {act : State → (Code × Nat) × State}
    (ha : ∀ u, (act u).2.steady = u.steady) : (s.landSearch t i l bad act).steady = s.steady := by
  unfold State.landSearch
  dsimp only
  refine (State.steady_ite _ _ _).trans (ite_eq_of_both (by simp) ?_)
  refine (State.steady_ite _ _ _).trans (ite_eq_of_both (by simp) ?_)
  refine (State.steady_ite _ _ _).trans (ite_eq_of_both (by simp) ?_)
  refine (State.steady_ite _ _ _).trans (ite_eq_of_both (by simp) ?_)
  split
  · simp
  · simp [ha]

@[simp] theorem State.landQuery_steady (s : State) (t i l dead) : (s.landQuery t i l dead).steady = s.steady := by
  unfold State.landQuery
  refine State.landSearch_steady _ _ _ _ _ fun u => ?_
  split
  · next h => simp [steady_of_snd h]
  · next h => simp [steady_of_snd h]

@[simp] theorem State.relayParts_steady (s : State) (m) : (s.relayParts m).steady = s.steady := by
  unfold State.relayParts
  split
  · rfl
  · split
    · simp
    · rfl

@[simp] theorem State.takePart_steady (s : State) (m slot) : (s.takePart m slot).steady = s.steady := by
  unfold State.takePart
  split
  · rfl
  · simp
    split
    · simp
    · split <;> simp

@[simp] theorem State.onShard_steady (s : State) (q shard) {g : HomeQ → ShardNote → State}
    (hg : ∀ h n, (g h n).steady = s.steady) : (s.onShard q shard g).steady = s.steady := by
  unfold State.onShard
  split
  · rfl
  · split
    · split
      · exact hg _ _
      · rfl
    · rfl

@[simp] theorem State.noteShard_steady (s : State) (q shard h n st) : (s.noteShard q shard h n st).steady = s.steady := (rfl)

@[simp] theorem State.resendPart_steady (s : State) (q shard) : (s.resendPart q shard).steady = s.steady := by
  simp [State.resendPart]

@[simp] theorem State.memwaitEnd_steady (s : State) (i poison) : (s.memwaitEnd i poison).steady = s.steady := by
  unfold State.memwaitEnd
  split
  · rfl
  · simp

@[simp] theorem State.rerankEnd_steady (s : State) (i) : (s.rerankEnd i).steady = s.steady := by
  unfold State.rerankEnd
  split
  · rfl
  · simp

@[simp] theorem State.compareBlock_steady (s : State) (i p x first rows dev m) :
    (s.compareBlock i p x first rows dev m).steady = s.steady := by
  unfold State.compareBlock
  refine State.partReads_steady _ _ _ _ _ fun u => ?_
  exact (State.setPart_steady _ _ _).trans ((State.steady_ite _ _ _).trans (ite_eq_of_both (State.addF_steady ..) rfl))

@[simp] theorem State.calFirst_steady (s : State) (a) : (s.calFirst a).steady = s.steady := by
  simp [State.calFirst]

@[simp] theorem State.sweepBlock_steady (s : State) (x1 slot x first rows dev refBad) : (s.sweepBlock x1 slot x first rows dev refBad).steady = s.steady := by
  simp [State.sweepBlock]

@[simp] theorem State.calibrate_steady (s : State) (a) : (s.calibrate a).steady = s.steady := by
  simp [State.calibrate]

@[simp] theorem State.arrayTemp_steady (s : State) (a temp) : (s.arrayTemp a temp).steady = s.steady := by
  simp [State.arrayTemp]

@[simp] theorem State.calibrated_steady (s : State) (x1 e) : (s.calibrated x1 e).steady = s.steady := by
  simp [State.calibrated]

@[simp] theorem State.shardInstall_steady (s : State) (i dieBit) : (s.shardInstall i dieBit).2.steady = s.steady := by
  unfold State.shardInstall
  split
  · rfl
  · split
    · rfl
    · next h => simp [State.holdBlocks_steady h]

@[simp] theorem State.shardRemove_steady (s : State) (i) : (s.shardRemove i).2.steady = s.steady := by
  unfold State.shardRemove
  split
  · rfl
  · split
    · rfl
    · simp

@[simp] theorem State.shardCommand_steady (s : State) (w) : (s.shardCommand w).steady = s.steady := by
  unfold State.shardCommand
  simp
  split
  · split <;> simp
  · split
    · simp
    · split <;> simp

@[simp] theorem State.setLink_steady (s : State) (p st) : (s.setLink p st).steady = s.steady := (rfl)

@[simp] theorem State.linkFlag_steady (s : State) (f p) : (s.linkFlag f p).steady = s.steady := by
  simp [State.linkFlag]

@[simp] theorem State.reroute_steady (s : State) (p) : (s.reroute p).steady = s.steady := by
  unfold State.reroute
  refine (State.steady_foldl _ (fun s a => ?_) _ _).trans ?_
  · split
    · simp
    · split
      · simp
      · simp
  · simp

@[simp] theorem State.endSessionOf_steady (s : State) (p) : (s.endSessionOf p).steady = s.steady := (rfl)

@[simp] theorem State.linkGone_steady (s : State) (p st) : (s.linkGone p st).steady = s.steady := by
  simp [State.linkGone]

@[simp] theorem State.sendCtrl_steady (s : State) (p nak) : (s.sendCtrl p nak).steady = s.steady := by
  simp [State.sendCtrl]

@[simp] theorem State.sendCtrls_steady (s : State) (p n) : (s.sendCtrls p n).steady = s.steady := by
  induction n generalizing s with
  | zero => simp [State.sendCtrls]
  | succ n ih =>
    unfold State.sendCtrls
    split
    · simp [ih]
    · rfl

@[simp] theorem State.retrain_steady (s : State) (p) : (s.retrain p).steady = s.steady := (rfl)

@[simp] theorem State.flitFails_steady (s : State) (p tag) : (s.flitFails p tag).steady = s.steady := by
  simp [State.flitFails]

@[simp] theorem State.takeCtrl_steady (s : State) (p ack nak credits) : (s.takeCtrl p ack nak credits).steady = s.steady := by
  unfold State.takeCtrl
  dsimp only
  rw [State.drain_steady, State.steady_ite, State.steady_foldl _ fun s f => ?_]
  · simp
  · split <;> simp

@[simp] theorem State.burstHeard_steady (s : State) (p) : (s.burstHeard p).steady = s.steady := by
  simp [State.burstHeard]

@[simp] theorem State.toKeepalive_steady (s : State) (p) : (s.toKeepalive p).steady = s.steady := by
  simp [State.toKeepalive]

@[simp] theorem State.keepaliveOver_steady (s : State) (p) : (s.keepaliveOver p).steady = s.steady := by
  simp [State.keepaliveOver]

@[simp] theorem State.authBegin_steady (s : State) (p) : (s.authBegin p).steady = s.steady := by
  simp [State.authBegin]

@[simp] theorem State.enterAuth_steady (s : State) (p) : (s.enterAuth p).steady = s.steady := by
  simp [State.enterAuth]

@[simp] theorem State.handshakeFails_steady (s : State) (p mismatch tell) : (s.handshakeFails p mismatch tell).steady = s.steady := by
  simp [State.handshakeFails]

@[simp] theorem State.enterActive_steady (s : State) (p) : (s.enterActive p).steady = s.steady := by
  simp [State.enterActive]

@[simp] theorem State.takeHello_steady (s : State) (p nonce) : (s.takeHello p nonce).steady = s.steady := by
  simp [State.takeHello]

@[simp] theorem State.takeCert_steady (s : State) (p c) : (s.takeCert p c).steady = s.steady := by
  simp [State.takeCert]

@[simp] theorem State.takeProof_steady (s : State) (p sigOk share) : (s.takeProof p sigOk share).steady = s.steady := by
  unfold State.takeProof
  split
  · rfl
  · split
    · simp
      split <;> simp
    · simp
      split <;> simp

@[simp] theorem State.takeDone_steady (s : State) (p hmacOk) : (s.takeDone p hmacOk).steady = s.steady := by
  simp [State.takeDone]

@[simp] theorem State.rekeyOut_steady (s : State) (p) : (s.rekeyOut p).steady = s.steady := by
  simp [State.rekeyOut]

@[simp] theorem State.trainStepDone_steady (s : State) (p lanes same) : (s.trainStepDone p lanes same).steady = s.steady := by
  unfold State.trainStepDone
  split
  · rfl
  · split <;> simp

@[simp] theorem State.lnkCtlWrite_steady (s : State) (p v) : (s.lnkCtlWrite p v).steady = s.steady := by
  unfold State.lnkCtlWrite
  simp
  split <;> simp

@[simp] theorem State.portDown_steady (s : State) (p cut) : (s.portDown p cut).steady = s.steady := by
  simp [State.portDown]

@[simp] theorem State.controlWrite_steady (s : State) (t l) : (s.controlWrite t l).steady = s.steady := by
  simp [State.controlWrite]

@[simp] theorem State.apertureRead_steady (s : State) (t i) : (s.apertureRead t i).steady = s.steady := by
  simp [State.apertureRead]

@[simp] theorem State.lapse_steady (s : State) (t) : (s.lapse t).steady = s.steady := by
  simp [State.lapse]

@[simp] theorem State.takeReserve_steady (s : State) (m) : (s.takeReserve m).steady = s.steady := by
  unfold State.takeReserve
  split
  · rfl
  · split
    · simp
    · split
      split
      · simp
      · next h => simp [State.reserve_steady h]

@[simp] theorem State.mirrorBound_steady (s : State) (t r) : (s.mirrorBound t r).steady = s.steady := by
  unfold State.mirrorBound
  split
  · rfl
  · simp

@[simp] theorem State.takeGrant_steady (s : State) (peer t r code) : (s.takeGrant peer t r code).steady = s.steady := by
  unfold State.takeGrant
  split
  · rfl
  · simp

@[simp] theorem State.takeCommit_steady (s : State) (owner t r tokens) : (s.takeCommit owner t r tokens).steady = s.steady := by
  unfold State.takeCommit
  split
  · rfl
  · simp

@[simp] theorem State.dropResv_steady (s : State) (x1) : (s.dropResv x1).steady = s.steady := by
  unfold State.dropResv
  split
  · simp
  · rfl

@[simp] theorem State.deadlines_steady (s : State) (time which) : (s.deadlines time which).steady = s.steady := by
  simp [State.deadlines]

@[simp] theorem State.setModelS_steady (s : State) (m v) : (s.setModelS m v).steady = s.steady := (rfl)

@[simp] theorem State.modelCommand_steady (s : State) (w) : (s.modelCommand w).steady = s.steady := by
  simp [State.modelCommand]

@[simp] theorem State.clearMarks_steady (s : State) : (s.clearMarks).steady = s.steady := by
  simp [State.clearMarks]

@[simp] theorem State.applyCancel_steady (s : State) (t i) : (s.applyCancel t i).steady = s.steady := by
  unfold State.applyCancel
  simp
  split
  · simp
  · split <;> simp

@[simp] theorem State.applyRing_steady (s : State) (t i) : (s.applyRing t i).steady = s.steady := by
  simp [State.applyRing]

@[simp] theorem State.boundaryCtxs_steady (s : State) : (s.boundaryCtxs).steady = s.steady := by
  simp [State.boundaryCtxs]

@[simp] theorem State.putRec_steady (s : State) (r) : (s.putRec r).steady = s.steady := (rfl)

@[simp] theorem State.endTracks_steady (s : State) (which) : (s.endTracks which).steady = s.steady := by
  simp [State.endTracks]

@[simp] theorem State.stopWork_steady (s : State) : (s.stopWork).steady = s.steady := by
  simp [State.stopWork]

@[simp] theorem State.mapEnd_steady (s : State) (code r) : (s.mapEnd code r).steady = s.steady := by
  simp [State.mapEnd]

@[simp] theorem State.resolved_steady (s : State) (r) : (s.resolved r).steady = s.steady := by
  unfold State.resolved
  simp
  split <;> simp

@[simp] theorem State.dropCtx_steady (s : State) (n) : (s.dropCtx n).steady = s.steady := (rfl)

@[simp] theorem State.takeCtx_steady (s : State) (c) : (s.takeCtx c).steady = s.steady := by
  unfold State.takeCtx
  split <;> simp

@[simp] theorem State.loseRing_steady (s : State) : (s.loseRing).steady = s.steady := by
  simp [State.loseRing]

@[simp] theorem State.restoreMirror_steady (s : State) (d mask) : (s.restoreMirror d mask).steady = s.steady := by
  unfold State.restoreMirror
  refine (State.steady_foldl _ (fun s r => ?_) _ _).trans ((State.steady_foldl _ (fun s e => ?_) _ _).trans
    ((State.steady_foldl _ (fun s e => ?_) _ _).trans ?_))
  · dsimp only
    split
    · rfl
    · exact State.sendMirror_steady _ _ _
  · split
    · exact State.takeCtx_steady _ _
    · rfl
  · simp
  · simp

@[simp] theorem State.seizeLeases_steady (s : State) (d state mask) : (s.seizeLeases d state mask).steady = s.steady := by
  simp [State.seizeLeases]

@[simp] theorem State.failOver_steady (s : State) (r) : (s.failOver r).steady = s.steady := by
  simp [State.failOver]

@[simp] theorem State.endAdoption_steady (s : State) : (s.endAdoption).steady = s.steady := by
  simp [State.endAdoption]

@[simp] theorem State.showFate_steady (s : State) (r adopted) : (s.showFate r adopted).steady = s.steady := by
  simp [State.showFate]

@[simp] theorem State.replaceKeeper_steady (s : State) (gone) : (s.replaceKeeper gone).steady = s.steady := by
  unfold State.replaceKeeper
  split
  · rfl
  · split
    · rfl
    · split
      · rfl
      · simp

@[simp] theorem State.resolveOffers_steady (s : State) (d) : (s.resolveOffers d).steady = s.steady := by
  unfold State.resolveOffers
  refine State.steady_foldl _ (fun s a => ?_) _ _
  split
  · rfl
  · simp

@[simp] theorem State.takeFate_steady (s : State) (r) : (s.takeFate r).steady = s.steady := by
  unfold State.takeFate
  dsimp only
  split
  · split
    · split
      · split <;> simp
      · split <;> simp
    · split
      · simp
      · split <;> simp
  · simp

@[simp] theorem State.takeKeeper_steady (s : State) (r) : (s.takeKeeper r).steady = s.steady := by
  simp [State.takeKeeper]

@[simp] theorem State.sendLease_steady (s : State) (r) : (s.sendLease r).steady = s.steady := by
  unfold State.sendLease
  split
  · simp [*]
  · split
    · simp
      split <;> simp
    · simp

@[simp] theorem State.takeLease_steady (s : State) (r) : (s.takeLease r).steady = s.steady := by
  unfold State.takeLease
  split
  · simp
  · split
    · simp
      split
      · split
        · simp
        · split
          · simp
          · split
            · simp
            · simp
      · rfl
    · split
      · simp
        split
        · split
          · split
            · simp
            · simp
          · split
            · simp
            · simp
        · split
          · simp
          · rfl
      · simp
        split
        · simp
        · rfl

@[simp] theorem State.returnAll_steady (s : State) : (s.returnAll).steady = s.steady := by
  unfold State.returnAll
  split
  · rfl
  · split
    · rfl
    · simp

@[simp] theorem State.takeRecord_steady (s : State) (r) : (s.takeRecord r).steady = s.steady := by
  simp [State.takeRecord]

@[simp] theorem State.commitRec_steady (s : State) (p) : (s.commitRec p).steady = s.steady := by
  simp [State.commitRec]

@[simp] theorem State.settleVerdict_steady (s : State) (r) : (s.settleVerdict r).steady = s.steady := by
  unfold State.settleVerdict
  split
  · simp
  · rfl

@[simp] theorem State.noteStored_steady (s : State) (k op src r) : (s.noteStored k op src r).steady = s.steady := by
  unfold State.noteStored
  split <;> simp

@[simp] theorem State.takeProposal_steady (s : State) (op src r) : (s.takeProposal op src r).steady = s.steady := by
  unfold State.takeProposal
  split
  · rfl
  · split
    · simp
    · split
      · rfl
      · simp

@[simp] theorem State.takeFateProposal_steady (s : State) (src r) : (s.takeFateProposal src r).steady = s.steady := by
  simp [State.takeFateProposal]

@[simp] theorem State.commitChanges_steady (s : State) : (s.commitChanges).steady = s.steady := by
  simp [State.commitChanges]

@[simp] theorem State.forwardBeat_steady (s : State) : (s.forwardBeat).steady = s.steady := by
  simp [State.forwardBeat]

@[simp] theorem State.takeBeat_steady (s : State) (src dev) : (s.takeBeat src dev).steady = s.steady := by
  simp [State.takeBeat]

@[simp] theorem State.isolate_steady (s : State) : (s.isolate).steady = s.steady := by
  simp [State.isolate]

@[simp] theorem State.castVote_steady (s : State) (d) : (s.castVote d).steady = s.steady := by
  simp [State.castVote]

@[simp] theorem State.hearStored_steady (s : State) (k op r) : (s.hearStored k op r).steady = s.steady := by
  simp [State.hearStored]

@[simp] theorem State.keeperCopied_steady (s : State) : (s.keeperCopied).steady = s.steady := by
  unfold State.keeperCopied
  split
  · simp
  · rfl

@[simp] theorem State.replayStart_steady (s : State) : (s.replayStart).steady = s.steady := by
  unfold State.replayStart
  split
  · rfl
  · split
    · simp
    · simp
      split
      · simp
      · simp

@[simp] theorem State.answerQuery_steady (s : State) (src kind key) : (s.answerQuery src kind key).steady = s.steady := by
  simp [State.answerQuery]

@[simp] theorem State.takeMapAnswer_steady (s : State) (x1) : (s.takeMapAnswer x1).steady = s.steady := by
  unfold State.takeMapAnswer
  split <;> simp

@[simp] theorem State.childSilent_steady (s : State) (d) : (s.childSilent d).steady = s.steady := by
  simp [State.childSilent]

@[simp] theorem State.takeFail_steady (s : State) (m) : (s.takeFail m).steady = s.steady := by
  unfold State.takeFail
  split
  · rfl
  · next h => simp [State.acceptEpoch_steady h]

@[simp] theorem State.offerExpires_steady (s : State) (kind key) : (s.offerExpires kind key).steady = s.steady := by
  unfold State.offerExpires
  split
  · rfl
  · simp

@[simp] theorem State.stateComplete_steady (s : State) (kind key) : (s.stateComplete kind key).steady = s.steady := by
  unfold State.stateComplete
  split
  · simp
  · rfl

@[simp] theorem State.policy_steady (s : State) : (s.policy).2.steady = s.steady := by
  unfold State.policy
  split
  · rfl
  · split
    simp
    split
    · rfl
    · rfl
    · next h _ _ _ => simp [steady_of_snd h]

@[simp] theorem State.injectHere_steady (s : State) (kind n) : (s.injectHere kind n).steady = s.steady := by
  unfold State.injectHere
  split
  · split
    · simp
    · rfl
  · split
    · simp
    · split
      · split
        · simp
        · rfl
      · rfl

@[simp] theorem State.rehearse_steady (s : State) (kind n victim ok) : (s.rehearse kind n victim ok).steady = s.steady := by
  simp [State.rehearse]

@[simp] theorem State.policyRehearsal_steady (s : State) : (s.policyRehearsal).steady = s.steady := by
  unfold State.policyRehearsal
  split
  · split
    · next h => simp [steady_of_snd h]
    · next h => simp [steady_of_snd h]

@[simp] theorem State.runInject_steady (s : State) : (s.runInject).steady = s.steady := by
  unfold State.runInject
  split
  · rfl
  · simp

@[simp] theorem State.rehearsalEnds_steady (s : State) : (s.rehearsalEnds).steady = s.steady := by
  unfold State.rehearsalEnds
  split
  · rfl
  · simp

@[simp] theorem State.rehearsalStop_steady (s : State) : (s.rehearsalStop).steady = s.steady := by
  simp [State.rehearsalStop]

@[simp] theorem State.mapOpen_steady (s : State) : (s.mapOpen).steady = s.steady := by
  simp [State.mapOpen]

@[simp] theorem State.mapPropose_steady (s : State) (op r) : (s.mapPropose op r).steady = s.steady := by
  simp [State.mapPropose]

@[simp] theorem State.mapLookupRun_steady (s : State) : (s.mapLookupRun).steady = s.steady := by
  unfold State.mapLookupRun
  split
  · simp
    split <;> simp
  · simp

@[simp] theorem State.mapOfferRun_steady (s : State) : (s.mapOfferRun).steady = s.steady := by
  simp [State.mapOfferRun]

@[simp] theorem State.mapWithdrawRun_steady (s : State) : (s.mapWithdrawRun).steady = s.steady := by
  unfold State.mapWithdrawRun
  simp
  split <;> simp

@[simp] theorem State.declareRun_steady (s : State) : (s.declareRun).steady = s.steady := by
  simp [State.declareRun]

@[simp] theorem State.repairRun_steady (s : State) : (s.repairRun).steady = s.steady := by
  unfold State.repairRun
  split
  · simp
  · simp

@[simp] theorem State.injectRun_steady (s : State) : (s.injectRun).steady = s.steady := by
  simp [State.injectRun]

@[simp] theorem State.mapCommand_steady (s : State) (w) : (s.mapCommand w).steady = s.steady := by
  simp [State.mapCommand]

@[simp] theorem State.repairFails_steady (s : State) : (s.repairFails).steady = s.steady := by
  simp [State.repairFails]

@[simp] theorem State.stateCurrent_steady (s : State) (lost) : (s.stateCurrent lost).steady = s.steady := by
  unfold State.stateCurrent
  split
  · simp
  · split
    · rfl
    · simp

@[simp] theorem State.noteCause_steady (s : State) (cause) : (s.noteCause cause).steady = s.steady := by
  simp [State.noteCause]

@[simp] theorem State.heldCrust_steady (s : State) : (s.heldCrust).steady = s.steady := by
  simp [State.heldCrust]

@[simp] theorem State.stopClusters_steady (s : State) (rail) : (s.stopClusters rail).steady = s.steady := by
  simp [State.stopClusters]

@[simp] theorem State.loseFrames_steady (s : State) (kind die) : (s.loseFrames kind die).steady = s.steady := by
  simp [State.loseFrames]

@[simp] theorem State.hostDown_steady (s : State) : (s.hostDown).steady = s.steady := (rfl)

@[simp] theorem State.randPorts_steady (s : State) (die) : (s.randPorts die).steady = s.steady := by
  simp [State.randPorts]

@[simp] theorem State.rpWrite_steady (s : State) : (s.rpWrite).steady = s.steady := (rfl)

@[simp] theorem State.keepF_steady (s : State) (old fs) : (s.keepF old fs).steady = s.steady := by
  simp [State.keepF]

@[simp] theorem State.initReg_steady (s : State) (f i w) : (s.initReg f i w).steady = s.steady := (rfl)

@[simp] theorem State.loadTenants_steady (s : State) (w) : (s.loadTenants w).steady = s.steady := by
  simp [State.loadTenants]

@[simp] theorem State.loadKernels_steady (s : State) (w) : (s.loadKernels w).steady = s.steady := by
  unfold State.loadKernels
  exact State.steady_foldl _ (fun s a => by simp) _ _

@[simp] theorem State.loadModels_steady (s : State) (w) : (s.loadModels w).steady = s.steady := by
  unfold State.loadModels
  refine (State.steady_foldl _ (fun s a => ?_) _ _).trans ?_
  · split <;> simp
  · simp

@[simp] theorem State.loadCorpora_steady (s : State) (w) : (s.loadCorpora w).steady = s.steady := by
  unfold State.loadCorpora
  refine State.steady_foldl _ (fun s a => ?_) _ _
  split <;> simp

@[simp] theorem State.loadFabric_steady (s : State) (w) : (s.loadFabric w).steady = s.steady := by
  simp [State.loadFabric]

@[simp] theorem State.loadSchedule_steady (s : State) (w) : (s.loadSchedule w).steady = s.steady := by
  simp [State.loadSchedule]

@[simp] theorem State.loadRoles_steady (s : State) (w) : (s.loadRoles w).steady = s.steady := by
  simp [State.loadRoles]

@[simp] theorem State.loadImage_steady (s : State) (w slot crust) : (s.loadImage w slot crust).steady = s.steady := by
  simp [State.loadImage]

@[simp] theorem State.restoreBind_steady (s : State) (d e shelf) : (s.restoreBind d e shelf).steady = s.steady := by
  unfold State.restoreBind
  simp
  split
  · simp
  · split <;> simp
  · rfl

@[simp] theorem State.promoteWindows_steady (s : State) (ms) : (s.promoteWindows ms).steady = s.steady := by
  unfold State.promoteWindows
  split
  · rfl
  · refine State.steady_foldl _ (fun s a => ?_) _ _
    exact State.steady_foldl _ (fun s a => by simp) _ _

@[simp] theorem State.mapDrives_steady (s : State) : (s.mapDrives).steady = s.steady := by
  unfold State.mapDrives
  simp
  split <;> simp

@[simp] theorem State.drivesReport_steady (s : State) (ds) : (s.drivesReport ds).steady = s.steady := by
  unfold State.drivesReport
  split
  · rfl
  · simp

@[simp] theorem State.driveMissing_steady (s : State) (i) : (s.driveMissing i).steady = s.steady := by
  unfold State.driveMissing
  split
  · rfl
  · simp

@[simp] theorem State.readSlots_steady (s : State) (f) : (s.readSlots f).steady = s.steady := by
  simp [State.readSlots]

@[simp] theorem State.weaveResult_steady (s : State) (r) : (s.weaveResult r).steady = s.steady := by
  unfold State.weaveResult
  split <;> simp

@[simp] theorem State.tryFirmware_steady (s : State) (slot f) : (s.tryFirmware slot f).2.steady = s.steady := by
  unfold State.tryFirmware
  split
  · simp
  · split
    · simp
    · simp

@[simp] theorem State.noImage_steady (s : State) : (s.noImage).steady = s.steady := by
  simp [State.noImage]

@[simp] theorem State.firstWale_steady (s : State) : (s.firstWale).2.steady = s.steady := by
  unfold State.firstWale
  split <;> simp

@[simp] theorem State.form_steady (s : State) : (s.form).steady = s.steady := by
  simp [State.form]

@[simp] theorem State.formIfAll_steady (s : State) : (s.formIfAll).steady = s.steady := by
  unfold State.formIfAll
  split
  · rfl
  · simp

@[simp] theorem State.sendJoin_steady (s : State) : (s.sendJoin).steady = s.steady := by
  unfold State.sendJoin
  split
  · rfl
  · simp

@[simp] theorem State.takeJoin_steady (s : State) (dev digest crust) : (s.takeJoin dev digest crust).steady = s.steady := by
  unfold State.takeJoin
  split
  · rfl
  · simp

@[simp] theorem State.formBound_steady (s : State) : (s.formBound).steady = s.steady := by
  simp [State.formBound]

@[simp] theorem State.releaseWindows_steady (s : State) (ms keep) : (s.releaseWindows ms keep).steady = s.steady := by
  simp [State.releaseWindows]

@[simp] theorem State.dropStage_steady (s : State) : (s.dropStage).steady = s.steady := by
  unfold State.dropStage
  split
  · simp
  · rfl

@[simp] theorem State.sendReload_steady (s : State) (wale) : (s.sendReload wale).steady = s.steady := by
  unfold State.sendReload
  split
  · simp
  · rfl

@[simp] theorem State.unloadModels_steady (s : State) (ms) : (s.unloadModels ms).steady = s.steady := by
  simp [State.unloadModels]

@[simp] theorem State.applyReload_steady (s : State) : (s.applyReload).steady = s.steady := by
  unfold State.applyReload
  split
  · simp
  · rfl

@[simp] theorem State.weaveEnd_steady (s : State) (code) : (s.weaveEnd code).steady = s.steady := (rfl)

@[simp] theorem State.weaveOpen_steady (s : State) : (s.weaveOpen).steady = s.steady := (rfl)

@[simp] theorem State.writeSlot_steady (s : State) (slot f) : (s.writeSlot slot f).steady = s.steady := by
  unfold State.writeSlot
  dsimp only
  split
  · simp
  · split
    · simp
    · split
      · simp
      · simp

@[simp] theorem State.stageRefused_steady (s : State) : (s.stageRefused).steady = s.steady := by
  simp [State.stageRefused]

@[simp] theorem State.stage_steady (s : State) (f) : (s.stage f).steady = s.steady := by
  unfold State.stage
  split
  · simp
  · split
    · simp
    · split
      · simp
      · simp
        split <;> simp

@[simp] theorem State.abandonStage_steady (s : State) : (s.abandonStage).steady = s.steady := by
  simp [State.abandonStage]

@[simp] theorem State.weaveCommand_steady (s : State) (w f) : (s.weaveCommand w f).steady = s.steady := by
  unfold State.weaveCommand
  split
  · rfl
  · simp
    split <;> simp

@[simp] theorem State.mgmtRequest_steady (s : State) (t update) {body : State → Answer × State}
    (hb : ∀ u, (body u).2.steady = u.steady) : (s.mgmtRequest t update body).steady = s.steady := by
  unfold State.mgmtRequest
  split
  · rfl
  · split
    · simp
    · simp [hb]

@[simp] theorem State.setSessions_steady (s : State) (l) : (s.setSessions l).steady = s.steady := by
  simp [State.setSessions]

@[simp] theorem State.mgmtRestarts_steady (s : State) : (s.mgmtRestarts).steady = s.steady := by
  simp [State.mgmtRestarts]

@[simp] theorem State.startSleep_steady (s : State) (command) : (s.startSleep command).steady = s.steady := by
  simp [State.startSleep]

@[simp] theorem State.takeAsleep_steady (s : State) (dev wale) : (s.takeAsleep dev wale).steady = s.steady := by
  unfold State.takeAsleep
  split
  · rfl
  · simp
    split
    · simp
    · split <;> simp

@[simp] theorem State.takeAwake_steady (s : State) (dev wale) : (s.takeAwake dev wale).steady = s.steady := by
  unfold State.takeAwake
  dsimp only
  split
  · rfl
  · split <;> simp

@[simp] theorem State.fallAsleep_steady (s : State) : (s.fallAsleep).steady = s.steady := by
  unfold State.fallAsleep
  split
  · simp
  · rfl

@[simp] theorem State.arraysCold_steady (s : State) : (s.arraysCold).steady = s.steady := by
  unfold State.arraysCold
  exact State.steady_foldl _ (fun s a => by simp) _ _

@[simp] theorem State.startWake_steady (s : State) (command) : (s.startWake command).steady = s.steady := by
  unfold State.startWake
  split
  · simp
  · simp
  · rfl

@[simp] theorem State.wakeBound_steady (s : State) (dst tag) : (s.wakeBound dst tag).steady = s.steady := by
  unfold State.wakeBound
  split
  · rfl
  · split
    · simp
    · split
      · split <;> simp
      · split <;> simp

@[simp] theorem State.sleepCommand_steady (s : State) : (s.sleepCommand).steady = s.steady := by
  unfold State.sleepCommand
  split
  · simp
  · split
    · simp
    · simp

@[simp] theorem State.pwrCommand_steady (s : State) (w) : (s.pwrCommand w).steady = s.steady := by
  unfold State.pwrCommand
  dsimp only
  split
  · rfl
  · split
    · simp
    · split
      · simp
      · split <;> simp

@[simp] theorem State.takeover_steady (s : State) : (s.takeover).steady = s.steady := by
  simp [State.takeover]

@[simp] theorem State.setTemp_steady (s : State) (i temp stage) : (s.setTemp i temp stage).steady = s.steady := (rfl)

@[simp] theorem State.thermalClear_steady (s : State) (temps) : (s.thermalClear temps).steady = s.steady := by
  simp [State.thermalClear]

@[simp] theorem State.setFwSlot_steady (s : State) (slot v) : (s.setFwSlot slot v).steady = s.steady := (rfl)

@[simp] theorem State.fwVerify_steady (s : State) (f) : (s.fwVerify f).2.steady = s.steady := by
  unfold State.fwVerify
  split
  · simp
    split <;> simp
  · simp [*]

@[simp] theorem State.fwTransfer_steady (s : State) (offset bytes last) : (s.fwTransfer offset bytes last).2.steady = s.steady := by
  unfold State.fwTransfer
  split
  · rfl
  · split
    · split
      · simp
      · simp
    · split
      · simp
      · simp

@[simp] theorem State.updateRequest_steady (s : State) (t) {body : State → Answer × State} (hb : ∀ u, (body u).2.steady = u.steady) :
    (s.updateRequest t body).steady = s.steady := by
  unfold State.updateRequest
  split
  · simp
  · exact State.mgmtRequest_steady _ _ _ hb

@[simp] theorem State.abandonUpdate_steady (s : State) : (s.abandonUpdate).steady = s.steady := by
  simp [State.abandonUpdate]

@[simp] theorem State.logRecords_steady (s : State) : (s.logRecords).steady = s.steady := (rfl)

@[simp] theorem State.windowEnds_steady (s : State) (demand) : (s.windowEnds demand).steady = s.steady := by
  unfold State.windowEnds
  dsimp only
  split
  · simp
  · split
    · split
      · split
        · simp [*]
        · split <;> simp
      · split
        · simp [*]
        · split <;> simp
    · simp

@[simp] theorem State.ackWrite_steady (s : State) (v) : (s.ackWrite v).steady = s.steady := by
  simp [State.ackWrite]

@[simp] theorem State.snapshot_steady (s : State) : (s.snapshot).steady = s.steady := by
  simp [State.snapshot]

@[simp] theorem State.scanEnd_steady (s : State) (u code pos) : (s.scanEnd u code pos).steady = s.steady := (rfl)

@[simp] theorem State.scanJobEnd_steady (s : State) (u) : (s.scanJobEnd u).steady = s.steady := by
  unfold State.scanJobEnd
  split
  · split <;> simp

@[simp] theorem State.setStage_steady (s : State) (t g) : (s.setStage t g).steady = s.steady := (rfl)

@[simp] theorem State.spdm_steady (s : State) (t) {body : State → Answer × State} (hb : ∀ u, (body u).2.steady = u.steady) :
    (s.spdm t body).steady = s.steady := by
  exact State.mgmtRequest_steady _ _ _ hb

@[simp] theorem State.privateOp_steady (s : State) : (s.privateOp).steady = s.steady := (rfl)

@[simp] theorem State.publicOps_steady (s : State) (n) : (s.publicOps n).steady = s.steady := (rfl)

@[simp] theorem State.spdmAfter_steady (s : State) (t) {body : State → Answer × State} (hb : ∀ u, (body u).2.steady = u.steady) :
    (s.spdmAfter t body).steady = s.steady := by
  refine State.spdm_steady _ _ fun u => ?_
  split
  · exact hb u
  · rfl

@[simp] theorem State.nonce_steady (s : State) : (s.nonce).2.steady = s.steady := (rfl)

@[simp] theorem State.inSession_steady (s : State) (t session) {body : State → Answer × State}
    (hb : ∀ u, (body u).2.steady = u.steady) : (s.inSession t session body).steady = s.steady := by
  refine State.spdmAfter_steady _ _ fun u => ?_
  split
  · exact hb u
  · rfl

@[simp] theorem State.spdmRefused_steady (s : State) : (s.spdmRefused).steady = s.steady := by
  simp [State.spdmRefused]

@[simp] theorem State.enrol_steady (s : State) (c) : (s.enrol c).steady = s.steady := by
  simp [State.enrol]

@[simp] theorem State.setCertificate_steady (s : State) (t session slot c rpOk) : (s.setCertificate t session slot c rpOk).2.steady = s.steady := by
  unfold State.setCertificate
  split
  · simp
  · split
    · simp
      split
      · split <;> simp
      · split <;> simp
    · simp
      split
      · split <;> simp
      · split <;> simp

@[simp] theorem State.disown_steady (s : State) : (s.disown).steady = s.steady := by
  simp [State.disown]

@[simp] theorem State.runRelease_steady (s : State) (t session sigOk nonce rpOk) : (s.runRelease t session sigOk nonce rpOk).2.steady = s.steady := by
  unfold State.runRelease
  split
  · simp
  · split
    · simp
    · split
      · simp
        split <;> simp
      · simp
        split <;> simp

@[simp] theorem State.dropPending_steady (s : State) (c ch) : (s.dropPending c ch).steady = s.steady := (rfl)

@[simp] theorem State.xltInsertRun_steady (s : State) : (s.xltInsertRun).steady = s.steady := by
  simp [State.xltInsertRun]

@[simp] theorem State.xltLookupRun_steady (s : State) : (s.xltLookupRun).steady = s.steady := by
  unfold State.xltLookupRun
  split <;> simp

@[simp] theorem State.xltSetHomeRun_steady (s : State) : (s.xltSetHomeRun).steady = s.steady := by
  simp [State.xltSetHomeRun]

@[simp] theorem State.analogue_steady (s : State) (base w) : (s.analogue base w).2.steady = s.steady := by
  unfold State.analogue
  split
  · split
    · next h _ => simp [steady_of_snd h]
    · split
      · next h _ _ => simp [steady_of_snd h]
      · split
        · next h _ _ _ => simp [steady_of_snd h]
        · rfl

@[simp] theorem State.regValue_steady (s : State) (off) : (s.regValue off).2.steady = s.steady := by
  unfold State.regValue
  split
  · rfl
  · simp
    split
    · rfl
    · simp

@[simp] theorem State.readReg_steady (s : State) (off) : (s.readReg off).2.steady = s.steady := by
  unfold State.readReg
  split
  · split
    · split
      · next h _ _ _ _ => simp [steady_of_snd h]
      · next h _ _ _ _ => simp [steady_of_snd h]
    · next h _ _ => simp [steady_of_snd h]

@[simp] theorem State.argWrite_steady (s : State) (off v) : (s.argWrite off v).steady = s.steady := by
  unfold State.argWrite
  split <;> simp

@[simp] theorem State.narrowWrite_steady (s : State) : (s.narrowWrite).steady = s.steady := by
  simp [State.narrowWrite]

@[simp] theorem State.mgmtRegister_steady (s : State) (t) {body : State → Answer × State} (hb : ∀ u, (body u).2.steady = u.steady) :
    (s.mgmtRegister t body).steady = s.steady := by
  unfold State.mgmtRegister
  split
  · simp
  · split
    · rfl
    · exact State.mgmtRequest_steady _ _ _ hb

theorem State.sensor_steady {s t : State} {n vs} (h : s.sensor n = some (vs, t)) : t.steady = s.steady := by
  unfold State.sensor at h
  dsimp only at h
  repeat' split at h
  all_goals cases h
  all_goals simp

@[simp] theorem State.saEnd_steady (s : State) (x1 code data) : (s.saEnd x1 code data).steady = s.steady := by
  unfold State.saEnd
  split
  · simp
  · simp
  · simp
  · rfl

@[simp] theorem State.saRefuse_steady (s : State) (x1 code) : (s.saRefuse x1 code).steady = s.steady := by
  simp [State.saRefuse]

@[simp] theorem State.adoptedAccess_steady (s : State) (d lease x3) : (s.adoptedAccess d lease x3).steady = s.steady := by
  unfold State.adoptedAccess
  split
  · split
    · simp
    · simp
    · split
      · simp
      · simp
        split <;> simp
  · split
    · simp
    · simp
    · split
      · simp
      · simp
        split <;> simp

@[simp] theorem State.saForward_steady (s : State) (x1 sa dst mcast) : (s.saForward x1 sa dst mcast).steady = s.steady := by
  unfold State.saForward
  dsimp only
  split
  · simp
  · split
    · next h => simp [steady_of_snd h]
    · next h => simp [steady_of_snd h]

@[simp] theorem State.saError_steady (s : State) (t sa ue) : (s.saError t sa ue).steady = s.steady := by
  simp [State.saError]

@[simp] theorem State.hostTurned_steady (s : State) (b dpa isLoad) : (s.hostTurned b dpa isLoad).steady = s.steady := by
  simp [State.hostTurned]

@[simp] theorem State.announce_steady (s : State) : (s.announce).steady = s.steady := by
  simp [State.announce]

@[simp] theorem State.noteStretch_steady (s : State) (time) : (s.noteStretch time).steady = s.steady := by
  simp [State.noteStretch]

@[simp] theorem State.endOverrun_steady (s : State) : (s.endOverrun).steady = s.steady := by
  simp [State.endOverrun]

@[simp] theorem State.countFrames_steady (s : State) : (s.countFrames).steady = s.steady := by
  simp [State.countFrames]

@[simp] theorem State.nextCounter_steady (s : State) (w) : (s.nextCounter w).steady = s.steady := by
  simp [State.nextCounter]

@[simp] theorem State.releaseEnded_steady (s : State) : (s.releaseEnded).2.steady = s.steady := by
  simp [State.releaseEnded]

@[simp] theorem State.commitStep_steady (s : State) : (s.commitStep).steady = s.steady := by
  simp [State.commitStep]

@[simp] theorem State.dropRound_steady (s : State) : (s.dropRound).steady = s.steady := by
  simp [State.dropRound]

@[simp] theorem State.sealStep_steady (s : State) : (s.sealStep).steady = s.steady := by
  simp [State.sealStep]

@[simp] theorem State.mirrorStep_steady (s : State) (gone) : (s.mirrorStep gone).steady = s.steady := by
  simp [State.mirrorStep]

@[simp] theorem State.resumedGoOn_steady (s : State) : (s.resumedGoOn).steady = s.steady := by
  simp [State.resumedGoOn]

@[simp] theorem State.newWale_steady (s : State) (a) : (s.newWale a).steady = s.steady := (rfl)

@[simp] theorem State.powerPolicy_steady (s : State) (worked) : (s.powerPolicy worked).steady = s.steady := by
  unfold State.powerPolicy
  dsimp only
  split
  · simp
  · split
    · split
      · simp
      · simp
    · rfl

@[simp] theorem State.stagedAgain_steady (s : State) : (s.stagedAgain).steady = s.steady := by
  simp [State.stagedAgain]

@[simp] theorem State.countOnly_steady (s : State) (a) : (s.countOnly a).steady = s.steady := by
  simp [State.countOnly]

@[simp] theorem State.sleepCount_steady (s : State) : (s.sleepCount).steady = s.steady := by
  simp [State.sleepCount]

@[simp] theorem State.freshInt_steady (s : State) : (s.freshInt).2.steady = s.steady := (rfl)

@[simp] theorem State.freshElem_steady (s : State) : (s.freshElem).2.steady = s.steady := (rfl)

@[simp] theorem State.matElem_steady (s : State) (d v i j) : (s.matElem d v i j).2.steady = s.steady := by
  unfold State.matElem
  dsimp only
  split
  · split <;> simp
  · split
    · split <;> simp
    · split <;> simp

@[simp] theorem State.writeCheck_steady (s : State) (e) : (s.writeCheck e).2.steady = s.steady := by
  unfold State.writeCheck
  split <;> simp

@[simp] theorem State.matElems_steady (s : State) (d v) : (s.matElems d v).2.steady = s.steady := by
  unfold State.matElems
  refine List.foldlRecOn (motive := fun (acc : List (Nat × Nat × AccElem × Bool) × State) => acc.2.steady = s.steady) _ _ rfl ?_
  intro acc h p _
  dsimp only
  split <;> simpa using h

@[simp] theorem State.matRun_steady (s : State) (c t d) : (s.matRun c t d).steady = s.steady := by
  simp [State.matRun]

@[simp] theorem State.matHead_steady (s : State) (c ue) : (s.matHead c ue).steady = s.steady := by
  unfold State.matHead
  split
  · rfl
  · simp

@[simp] theorem State.dataLine_steady (s : State) (c l) : (s.dataLine c l).2.steady = s.steady := by
  unfold State.dataLine
  dsimp only
  split
  · simp
  · split
    · rfl
    · split <;> simp

@[simp] theorem State.codeLine_steady (s : State) (c l) : (s.codeLine c l).2.steady = s.steady := by
  unfold State.codeLine
  dsimp only
  split
  · simp
  · split
    · rfl
    · split <;> simp

@[simp] theorem State.fetchHalf_steady (s : State) (c x2) : (s.fetchHalf c x2).2.steady = s.steady := by
  simp [State.fetchHalf]

@[simp] theorem State.loadData_steady (s : State) (c x2 n) : (s.loadData c x2 n).2.steady = s.steady := by
  unfold State.loadData
  dsimp only
  split <;> simp

@[simp] theorem State.rvRetire_steady (s : State) (c len rd w) : (s.rvRetire c len rd w).steady = s.steady := (rfl)

@[simp] theorem State.rvRetireF_steady (s : State) (c len rd w fl) : (s.rvRetireF c len rd w fl).steady = s.steady := (rfl)

@[simp] theorem State.rvJump_steady (s : State) (c rd link target) : (s.rvJump c rd link target).steady = s.steady := (rfl)

@[simp] theorem State.rvLoad_steady (s : State) (c len x3 f3 rd) : (s.rvLoad c len x3 f3 rd).steady = s.steady := by
  simp [State.rvLoad]

@[simp] theorem State.rvStore_steady (s : State) (c len x3 n v) : (s.rvStore c len x3 n v).steady = s.steady := by
  simp [State.rvStore]

@[simp] theorem State.rvAmo_steady (s : State) (c w) : (s.rvAmo c w).steady = s.steady := by
  unfold State.rvAmo
  split
  · simp
    split <;> simp
  · simp
    split <;> simp

@[simp] theorem State.csrWrite_steady (s : State) (c n v) : (s.csrWrite c n v).steady = s.steady := (rfl)

@[simp] theorem State.rvSystem_steady (s : State) (c len w) : (s.rvSystem c len w).steady = s.steady := by
  unfold State.rvSystem
  split
  · simp
    split <;> simp
  · split
    · simp
      split <;> simp
    · simp
      split <;> simp

@[simp] theorem State.rvFp_steady (s : State) (c w) : (s.rvFp c w).steady = s.steady := by
  unfold State.rvFp
  simp
  split
  · split <;> simp
  · split <;> simp

@[simp] theorem State.rvOp_steady (s : State) (c len w) : (s.rvOp c len w).steady = s.steady := by
  unfold State.rvOp
  simp
  split
  · simp
  · simp

@[simp] theorem State.rvOpImm_steady (s : State) (c len w) : (s.rvOpImm c len w).steady = s.steady := by
  unfold State.rvOpImm
  simp
  split
  · simp
  · simp

@[simp] theorem State.rvInsn_steady (s : State) (c w len) : (s.rvInsn c w len).steady = s.steady := by
  unfold State.rvInsn
  split
  · simp
  · simp
  · simp
  · simp
  · simp
    split
    · simp
    · simp
    · simp
  · simp
  · simp
  · simp
  · simp
  · simp
  · simp
  · simp
  · simp
  · simp
  · simp
  · simp
  · simp
  · simp
  · simp
  · simp
  · simp
  · split <;> simp

@[simp] theorem State.scalarStep_steady (s : State) (c) : (s.scalarStep c).steady = s.steady := by
  unfold State.scalarStep
  simp
  split <;> simp

@[simp] theorem State.vecResult_steady (s : State) (d m) : (s.vecResult d m).2.steady = s.steady := by
  unfold State.vecResult
  dsimp only
  split
  case h_6 =>
    refine List.foldlRecOn (motive := fun (acc : List Nat × State) => acc.2.steady = s.steady) _ _ rfl ?_
    intro acc h i _
    split <;> simpa using h
  case h_8 => split <;> rfl
  all_goals rfl

@[simp] theorem State.freshBytes_steady (s : State) (n) : (s.freshBytes n).2.steady = s.steady := by
  induction n generalizing s with
  | zero => rfl
  | succ n ih => simp [State.freshBytes, ih]

@[simp] theorem State.vecRun_steady (s : State) (c t d) : (s.vecRun c t d).steady = s.steady := by
  unfold State.vecRun
  split <;> simp

@[simp] theorem State.vecHead_steady (s : State) (c opc ue) : (s.vecHead c opc ue).steady = s.steady := by
  unfold State.vecHead
  split
  · rfl
  · simp

end Sys2Proof.Machine
end

section
/-! What keeps the queue and the ordering code and leaves a canonical memory canonical. -/
namespace Sys2Proof.Machine

theorem Keeps.trans {k l m : List Instr × OrderCode × Mem} (h : Keeps k l) (g : Keeps l m) : Keeps k m :=
  ⟨g.1.trans h.1, g.2.1.trans h.2.1, fun w => g.2.2 (h.2.2 w)⟩

/-- A command that leaves one of two states keeps what both keep. -/
@[simp] theorem Keeps.ite (c : Prop) [Decidable c] (k l m : List Instr × OrderCode × Mem) :
    Keeps k (if c then l else m) ↔ if c then Keeps k l else Keeps k m := by
  split <;> rfl

theorem Keeps.congr {k : List Instr × OrderCode × Mem} {s t : State} (h : Keeps k s.steady) (e : t.steady = s.steady) :
    Keeps k t.steady := e ▸ h

theorem Keeps.ite_of {k : List Instr × OrderCode × Mem} {c : Prop} [Decidable c] {s t : State} (hs : Keeps k s.steady)
    (ht : Keeps k t.steady) : Keeps k (if c then s else t).steady := by
  split
  · exact hs
  · exact ht

/-- New bytes that are canonical where the old ones were. -/
theorem Keeps.mem {k : List Instr × OrderCode × Mem} {s : State} (h : Keeps k s.steady) {m : Mem}
    (hm : s.mem.wf = true → m.wf = true) : Keeps k { s with mem := m }.steady :=
  ⟨h.1, h.2.1, fun w => hm (h.2.2 w)⟩

@[simp] theorem Keeps.mem_clear {k : List Instr × OrderCode × Mem} {s : State} (lo hi : Nat) (h : Keeps k s.steady) :
    Keeps k (s.pending, s.code, s.mem.clear lo hi) := h.mem (Mem.wf_clear _ _ _)

@[simp] theorem Keeps.mem_paste {k : List Instr × OrderCode × Mem} {s : State} (lo hi a : Nat) (p : Mem) (h : Keeps k s.steady) :
    Keeps k (s.pending, s.code, (s.mem.clear lo hi).paste a p) :=
  h.mem fun w => Mem.wf_paste _ _ _ (Mem.wf_clear _ _ _ w)

@[simp] theorem Keeps.mem_setWord {k : List Instr × OrderCode × Mem} {s : State} (a : Nat) (v : Word) (h : Keeps k s.steady) :
    Keeps k (s.pending, s.code, s.mem.setWord a v) := h.mem (m := s.mem.setWord a v) (Mem.wf_setBytes _ _ _)

@[simp] theorem Keeps.mem_setLines {k : List Instr × OrderCode × Mem} {s : State} (l : List (Line × Nat)) (a : Nat) (mask : Mask)
    (h : Keeps k s.steady) : Keeps k (s.pending, s.code, l.foldl (fun m (d, i) => m.setLine (a + 64 * i) d mask) s.mem) :=
  h.mem (Mem.wf_foldl _ (fun _ _ => Mem.wf_setLine _ _ _ _) _ _)

theorem Keeps.foldl {α : Type} {k : List Instr × OrderCode × Mem} {f : State → α → State}
    (hf : ∀ s a, Keeps k s.steady → Keeps k (f s a).steady) (l : List α) :
    ∀ {s : State}, Keeps k s.steady → Keeps k (l.foldl f s).steady := by
  induction l with
  | nil => exact id
  | cons a r ih => exact fun h => ih (hf _ a h)

theorem State.newLive_keeps {k} {s : State} (tn a) {g : State → Tier → State}
    (hg : ∀ u t, Keeps k u.steady → Keeps k (g u t).steady) (hk : Keeps k s.steady) : Keeps k (s.newLive tn a g).steady := by
  have hT1 (s : State) (hk : Keeps k s.steady) : Keeps k (if s.mayCount tn .t1 a.resv then
      match s.alloc .t1 with
      | .frame s => g (s.countFrame tn .t1 a.resv) .t1
      | .wait s v => s.waitForVictim v a
      | .quota s => s.refuseAccess a .quota
      else s.refuseAccess a .quota).steady := by
    split
    · split
      · next h => exact hg _ _ (hk.congr (by simp [steady_of_frame h]))
      · next h => exact hk.congr (by simp [steady_of_wait h])
      · next h => exact hk.congr (by simp [steady_of_quota h])
    · exact hk.congr (by simp)
  unfold State.newLive
  dsimp only
  split
  · split
    · next h => exact hg _ _ (hk.congr (by simp [steady_of_frame h]))
    · next h => exact hk.congr (by simp [steady_of_wait h])
    · next h => exact hT1 _ (hk.congr (by simp [steady_of_quota h]))
  · exact hT1 _ hk

theorem State.landSearch_keeps {k} {s : State} (t i l bad) {act : State → (Code × Nat) × State}
    (ha : ∀ u, Keeps k u.steady → Keeps k (act u).2.steady) (hk : Keeps k s.steady) :
    Keeps k (s.landSearch t i l bad act).steady := by
  unfold State.landSearch
  dsimp only
  refine Keeps.ite_of (by simp [hk]) (Keeps.ite_of (by simp [hk]) (Keeps.ite_of (by simp [hk]) (Keeps.ite_of (by simp [hk]) ?_)))
  split
  · simp [hk]
  · exact (ha s.leaveRest (hk.congr (by simp))).congr (by simp)

end Sys2Proof.Machine
end

section
/-! The operations that write the memory: one lemma for each, in the model's order. -/
namespace Sys2Proof.Machine
@[simp] theorem State.finishSeal_keeps {k} {s : State} (b) (hk : Keeps k s.steady) : Keeps k (s.finishSeal b).steady := by
  have cleared (u : State) (e : Block) (i : Nat) (h : Keeps k u.steady) :
      Keeps k (State.bindImage { u.setBlk b e with mem := (u.setBlk b e).mem.clear (b * blockBytes) ((b + 1) * blockBytes) } b i).steady :=
    Keeps.congr (Keeps.mem (h.congr (State.setBlk_steady u b e)) (Mem.wf_clear _ _ _)) (State.bindImage_steady _ _ _)
  unfold State.finishSeal
  extract_lets e u e'
  have hu : Keeps k u.steady := hk.congr (by
    unfold u
    split
    · split <;> simp
    · simp)
  split
  · exact hk
  · split
    · exact hk
    · next i _ =>
      refine Keeps.congr (Keeps.ite_of ?_ (cleared u e' i hu)) (State.sealDone_steady _ _ _ _)
      split
      · next h => exact (cleared u e' i hu).congr ((State.setBlk_steady _ _ _).trans ((steady_of_frame h).trans (State.allocRun_steady _ _ _)))
      · exact cleared u e' i hu

@[simp] theorem State.freeBlock_keeps {k} {s : State} (b) (hk : Keeps k s.steady) : Keeps k (s.freeBlock b).steady := by
  unfold State.freeBlock
  split
  · simp
    split
    · split <;> simp [hk]
    · split <;> simp [hk]
  · simp
    split
    · split <;> simp [hk]
    · split <;> simp [hk]

@[simp] theorem State.writeLive_keeps {k} {s : State} (b e x3) (hk : Keeps k s.steady) : Keeps k (s.writeLive b e x3).steady := by
  unfold State.writeLive
  split
  · exact hk
  · split
    · simp
      split <;> simp [hk]
    · simp
      split <;> simp [hk]
  · split
    · simp [hk]
    · split <;> simp [hk]

@[simp] theorem State.writeSealed_keeps {k} {s : State} (b e a) (hk : Keeps k s.steady) :
    Keeps k (s.writeSealed b e a).steady := by
  unfold State.writeSealed
  dsimp only
  split
  · simp [hk]
  · split
    · split
      · split <;> simp [hk]
      · simp [hk]
    · exact State.newLive_keeps _ _ (fun u t hu => by simp [hu]) hk

@[simp] theorem State.tierAccess_keeps {k} {s : State} (a) (hk : Keeps k s.steady) : Keeps k (s.tierAccess a).steady := by
  unfold State.tierAccess
  dsimp only
  split
  case h_3 => exact State.newLive_keeps _ _ (fun u t hu => by simp [hu]) hk
  all_goals simp [hk]

@[simp] theorem State.lineAccess_keeps {k} {s : State} (a) (hk : Keeps k s.steady) : Keeps k (s.lineAccess a).steady := by
  unfold State.lineAccess
  generalize ha : s.copyAsked a = ask
  dsimp only
  refine Keeps.ite_of (by simp [hk]) ?_
  split
  · refine Keeps.ite_of ?_ (by simp [hk])
    split <;> simp [hk]
  · refine Keeps.ite_of ?_ ?_
    · split
      · exact hk
      · simp [hk]
    · split
      · split <;> simp [hk]
      · simp [hk]

@[simp] theorem State.homeAccess_keeps {k} {s : State} (a) (hk : Keeps k s.steady) : Keeps k (s.homeAccess a).steady := by
  unfold State.homeAccess
  dsimp only
  refine Keeps.ite_of (Keeps.ite_of hk (by simp [hk])) (Keeps.ite_of (by simp [hk]) (Keeps.ite_of (by simp [hk])
    (Keeps.ite_of (by simp [hk]) ?_)))
  split <;> simp [hk]

@[simp] theorem State.runWork_keeps {k} {s : State} (w) (hk : Keeps k s.steady) : Keeps k (s.runWork w).steady := by
  unfold State.runWork
  split
  · split
    · split
      · next h => simp [steady_of_frame h, hk]
      · next h => simp [steady_of_wait h, hk]
      · next h => simp [steady_of_quota h, hk]
    · simp [hk]
  · simp [hk]
  · dsimp only
    split
    · split
      · next h => simp [steady_of_frame h, hk]
      · next h => simp [steady_of_wait h, hk]
      · next h => simp [steady_of_quota h, hk]
    · simp [hk]

@[simp] theorem State.settle_keeps {k} {s : State} (n) (hk : Keeps k s.steady) : Keeps k (s.settle n).steady := by
  induction n generalizing s with
  | zero => exact hk
  | succ n ih =>
    unfold State.settle
    split
    · exact hk
    · exact ih (by simp [hk])

@[simp] theorem State.settleAll_keeps {k} {s : State} (hk : Keeps k s.steady) : Keeps k (s.settleAll).steady := by
  simp [State.settleAll, hk]

@[simp] theorem State.applyDirty_keeps {k} {s : State} (off data) (hk : Keeps k s.steady) : Keeps k (s.applyDirty off data).steady := by
  simp [State.applyDirty, hk]

@[simp] theorem State.moverLocal_keeps {k} {s : State} (c ch r sa key) (hk : Keeps k s.steady) : Keeps k (s.moverLocal c ch r sa key).steady := by
  unfold State.moverLocal
  simp
  split
  · exact hk
  · split
    · simp [hk]
    · split <;> simp [hk]

@[simp] theorem State.moverLine_keeps {k} {s : State} (c ch r) (hk : Keeps k s.steady) : Keeps k (s.moverLine c ch r).steady := by
  unfold State.moverLine
  simp
  split
  · next h => simp [steady_of_snd h, hk]
  · split
    · next h _ _ _ => simp [steady_of_snd h, hk]
    · next h _ _ _ _ => simp [steady_of_snd h, hk]

theorem State.moverMove_keeps {k} {s t : State} {c ch} (hk : Keeps k s.steady) (h : s.moverMove c ch = some t) :
    Keeps k t.steady := by
  unfold State.moverMove at h
  split at h
  · cases h
  · split at h
    · cases h
    · split at h
      · cases h; simp [hk]
      · dsimp only at h
        split at h
        · cases h; simp [hk]
        · split at h
          · cases h; simp [hk]
          · split at h
            · cases h; simp [hk]
            · cases h; simp [hk]

@[simp] theorem State.moverRun_keeps {k} {s : State} (n c ch) (hk : Keeps k s.steady) :
    Keeps k (State.moverRun n s c ch).steady := by
  induction n generalizing s with
  | zero => exact hk
  | succ n ih =>
    unfold State.moverRun
    split
    · exact hk
    · next h => exact ih (State.moverMove_keeps hk h)

@[simp] theorem State.moverPump_keeps {k} {s : State} (c ch) (hk : Keeps k s.steady) : Keeps k (s.moverPump c ch).steady := by
  simp [State.moverPump, hk]

@[simp] theorem State.moverResume_keeps {k} {s : State} (c ch) (hk : Keeps k s.steady) : Keeps k (s.moverResume c ch).steady := by
  unfold State.moverResume
  split
  · exact hk
  · simp [hk]

@[simp] theorem State.storeOpen_keeps {k} {s : State} (t addr n resv) (hk : Keeps k s.steady) : Keeps k (s.storeOpen t addr n resv).steady := by
  unfold State.storeOpen
  refine Keeps.foldl (fun s a hk => ?_) _ ?_
  · simp
    split
    · exact hk
    · simp [hk]
  · exact hk

@[simp] theorem State.freeRegion_keeps {k} {s : State} (t m kvAddr n) (hk : Keeps k s.steady) : Keeps k (s.freeRegion t m kvAddr n).steady := by
  unfold State.freeRegion
  refine Keeps.foldl (fun s a hk => ?_) _ ?_
  · simp [hk]
  · exact hk

@[simp] theorem State.appendKv_keeps {k} {s : State} (c p) (hk : Keeps k s.steady) : Keeps k (s.appendKv c p).steady := by
  unfold State.appendKv
  refine Keeps.foldl (fun s a hk => ?_) _ ?_
  · simp [hk]
  · exact hk

@[simp] theorem State.appendKvs_keeps {k} {s : State} (c p n) (hk : Keeps k s.steady) : Keeps k (s.appendKvs c p n).steady := by
  unfold State.appendKvs
  refine Keeps.foldl (fun s a hk => ?_) _ ?_
  · simp [hk]
  · exact hk

@[simp] theorem State.advanceOwn_keeps {k} {s : State} (n c result) (hk : Keeps k s.steady) : Keeps k (s.advanceOwn n c result).steady := by
  unfold State.advanceOwn
  dsimp only
  split
  · exact hk
  · split
    · split
      · simp [hk]
      · split
        · split <;> simp [hk]
        · split <;> simp [hk]
    · split
      · simp [hk]
      · split
        · split <;> simp [hk]
        · split <;> simp [hk]

@[simp] theorem State.advanceShare_keeps {k} {s : State} (c) (hk : Keeps k s.steady) : Keeps k (s.advanceShare c).steady := by
  simp [State.advanceShare, hk]

@[simp] theorem State.serviceDone_keeps {k} {s : State} (m parts) (hk : Keeps k s.steady) : Keeps k (s.serviceDone m parts).steady := by
  unfold State.serviceDone
  split
  · simp [hk]
  · refine Keeps.foldl (fun s a hk => ?_) _ ?_
    · simp [hk]
    · split
      · refine Keeps.foldl (fun s a hk => ?_) _ ?_
        · simp [hk]
        · refine Keeps.foldl (fun s a hk => ?_) _ ?_
          · simp [hk]
          · exact hk
      · refine Keeps.foldl (fun s a hk => ?_) _ ?_
        · simp [hk]
        · refine Keeps.foldl (fun s a hk => ?_) _ ?_
          · simp [hk]
          · exact hk

@[simp] theorem State.tenantStore_keeps {k} {s : State} (q t addr data) (hk : Keeps k s.steady) : Keeps k (s.tenantStore q t addr data).steady := by
  unfold State.tenantStore
  refine Keeps.foldl (fun s a hk => ?_) _ ?_
  · split
    · split
      · exact hk
      · simp [hk]
  · exact hk

@[simp] theorem State.queryMerge_keeps {k} {s : State} (q h) (hk : Keeps k s.steady) : Keeps k (s.queryMerge q h).steady := by
  unfold State.queryMerge
  split
  · split
    · simp
      split
      · refine Keeps.foldl (fun s a hk => ?_) _ ?_
        · split
          · simp [hk]
          · exact hk
        · next h _ _ => simp [steady_of_snd h, hk]
      · refine Keeps.foldl (fun s a hk => ?_) _ ?_
        · split
          · split
            · exact hk
            · simp [hk]
        · refine Keeps.foldl (fun s a hk => ?_) _ ?_
          · split
            · simp [hk]
            · exact hk
          · next h _ _ => simp [steady_of_snd h, hk]
    · next h _ => simp [steady_of_snd h, hk]

@[simp] theorem State.queryEnds_keeps {k} {s : State} (q code detail) (hk : Keeps k s.steady) : Keeps k (s.queryEnds q code detail).steady := by
  unfold State.queryEnds
  split
  · simp [hk]
  · exact hk

@[simp] theorem State.querySettled_keeps {k} {s : State} (q h) (hk : Keeps k s.steady) : Keeps k (s.querySettled q h).steady := by
  simp [State.querySettled, hk]

@[simp] theorem State.shardDead_keeps {k} {s : State} (q h i n) (hk : Keeps k s.steady) : Keeps k (s.shardDead q h i n).steady := by
  simp [State.shardDead, hk]

@[simp] theorem State.mergeAnswer_keeps {k} {s : State} (q shard x3) (hk : Keeps k s.steady) : Keeps k (s.mergeAnswer q shard x3).steady := by
  unfold State.mergeAnswer
  split
  · simp
    split
    · exact hk
    · split
      · exact hk
      · simp [hk]
  · split
    · simp
      split
      · simp [hk]
      · split <;> simp [hk]
    · simp
      split
      · simp [hk]
      · split <;> simp [hk]

@[simp] theorem State.searchCrust_keeps {k} {s : State} (hk : Keeps k s.steady) : Keeps k (s.searchCrust).steady := by
  unfold State.searchCrust
  refine Keeps.foldl (fun s a hk => ?_) _ ?_
  · split
    · simp [hk]
    · exact hk
  · refine Keeps.foldl (fun s a hk => ?_) _ ?_
    · simp [hk]
    · exact hk

@[simp] theorem State.searchRevoked_keeps {k} {s : State} (x) (hk : Keeps k s.steady) : Keeps k (s.searchRevoked x).steady := by
  unfold State.searchRevoked
  exact Keeps.foldl (fun u e hu => Keeps.ite_of (by simp [hu]) hu) _ hk

@[simp] theorem State.holderGone_keeps {k} {s : State} (h sa dirty) (hk : Keeps k s.steady) : Keeps k (s.holderGone h sa dirty).steady := by
  unfold State.holderGone
  split <;> simp [hk]

@[simp] theorem State.dcAccess_keeps {k} {s : State} (b dpa kind ask) (hk : Keeps k s.steady) : Keeps k (s.dcAccess b dpa kind ask).steady := by
  unfold State.dcAccess
  split
  · split
    · simp
      split
      · split
        · simp [hk]
        · split
          · simp [hk]
          · split
            · next h => simp [steady_of_snd h, hk]
            · next h => simp [steady_of_snd h, hk]
      · exact hk
    · simp
      split
      · split
        · simp [hk]
        · split
          · simp [hk]
          · split
            · next h => simp [steady_of_snd h, hk]
            · next h => simp [steady_of_snd h, hk]
      · exact hk

@[simp] theorem State.startRevoke_keeps {k} {s : State} (x) (hk : Keeps k s.steady) : Keeps k (s.startRevoke x).steady := by
  unfold State.startRevoke
  dsimp only
  refine State.searchRevoked_keeps _ ?_
  refine hk.congr ((State.steady_foldl _ (fun u e => ?_) _ _).trans ?_) <;> simp

@[simp] theorem State.dcDrain_keeps {k} {s : State} (o) (hk : Keeps k s.steady) : Keeps k (s.dcDrain o).steady := by
  unfold State.dcDrain
  refine Keeps.foldl (fun s a hk => ?_) _ ?_
  · refine Keeps.foldl (fun s a hk => ?_) _ ?_ <;> simp [hk]
  · exact hk

@[simp] theorem State.homeopRun_keeps {k} {s : State} (b l req) (hk : Keeps k s.steady) : Keeps k (s.homeopRun b l req).steady := by
  unfold State.homeopRun
  dsimp only
  split
  · exact hk
  · split
    · exact hk
    · split
      · split
        · exact hk
        · split
          · simp [hk]
          · split
            · next h => simp [steady_of_snd h, hk]
            · next h => simp [steady_of_snd h, hk]
      · split
        · exact hk
        · split
          · exact hk
          · simp [hk]

@[simp] theorem State.homeopWrite_keeps {k} {s : State} (b l req whole) (hk : Keeps k s.steady) : Keeps k (s.homeopWrite b l req whole).steady := by
  simp [State.homeopWrite, hk]

@[simp] theorem State.pumpMovers_keeps {k} {s : State} (hk : Keeps k s.steady) : Keeps k (s.pumpMovers).steady := by
  unfold State.pumpMovers
  refine Keeps.foldl (fun s a hk => ?_) _ ?_
  · refine Keeps.foldl (fun s a hk => ?_) _ ?_
    · split
      · simp [hk]
      · exact hk
    · exact hk
  · exact hk

@[simp] theorem State.round_keeps {k} {s : State} (hk : Keeps k s.steady) : Keeps k (s.round).steady := by
  simp [State.round, hk]

@[simp] theorem State.rounds_keeps {k} {s : State} (n) (hk : Keeps k s.steady) : Keeps k (s.rounds n).steady := by
  induction n generalizing s with
  | zero => exact hk
  | succ n ih => exact Keeps.ite_of (by simp [hk]) (ih (by simp [hk]))

@[simp] theorem State.closeSteps_keeps {k} {s : State} (hk : Keeps k s.steady) : Keeps k (s.closeSteps).steady := by
  unfold State.closeSteps
  refine Keeps.foldl (fun s a hk => ?_) _ ?_
  · simp [hk]
  · exact hk

@[simp] theorem State.finish_keeps {k} {s : State} (hk : Keeps k s.steady) : Keeps k (s.finish).steady := by
  simp [State.finish, hk]

@[simp] theorem State.tierCommand_keeps {k} {s : State} (w) (hk : Keeps k s.steady) : Keeps k (s.tierCommand w).steady := by
  simp [State.tierCommand, hk]

@[simp] theorem State.moverHead_keeps {k} {s : State} (c ch opc ue) (hk : Keeps k s.steady) : Keeps k (s.moverHead c ch opc ue).steady := by
  unfold State.moverHead
  split
  · simp
    split
    · split
      · exact hk
      · split
        · split
          · split <;> simp [hk]
          · simp [hk]
        · simp [hk]
    · exact hk
  · simp
    split
    · simp [hk]
    · exact hk

@[simp] theorem State.hostWriteback_keeps {k} {s : State} (b sa data) (hk : Keeps k s.steady) : Keeps k (s.hostWriteback b sa data).steady := by
  simp [State.hostWriteback, hk]

@[simp] theorem State.takeBirspi_keeps {k} {s : State} (b sa dirty) (hk : Keeps k s.steady) : Keeps k (s.takeBirspi b sa dirty).steady := by
  unfold State.takeBirspi
  dsimp only
  split
  · exact hk
  · split <;> simp [hk]

@[simp] theorem State.takeRecallAck_keeps {k} {s : State} (h sa dirty) (hk : Keeps k s.steady) : Keeps k (s.takeRecallAck h sa dirty).steady := by
  simp [State.takeRecallAck, hk]

@[simp] theorem State.dcRelease_keeps {k} {s : State} (b dpa) (hk : Keeps k s.steady) : Keeps k (s.dcRelease b dpa).steady := by
  unfold State.dcRelease
  split
  · exact hk
  · split <;> simp [hk]

@[simp] theorem State.dcGrace_keeps {k} {s : State} (hk : Keeps k s.steady) : Keeps k (s.dcGrace).steady := by
  unfold State.dcGrace
  split
  · exact hk
  · simp [hk]

@[simp] theorem State.landQcancel_keeps {k} {s : State} (t i l) (hk : Keeps k s.steady) :
    Keeps k (s.landQcancel t i l).steady := by
  unfold State.landQcancel
  refine State.landSearch_keeps _ _ _ _ (fun u hu => ?_) hk
  split <;> simp [hu]

theorem State.ringWrite_keeps {k} {s u : State} {n t seq line} (hk : Keeps k s.steady) (h : s.ringWrite n t seq line = some u) :
    Keeps k u.steady := by
  unfold State.ringWrite at h
  extract_lets a full addr sa? v w at h
  have hw : Keeps k w.steady := hk.congr (by simp [w, v])
  clear_value sa? w full
  split at h
  · cases h
  · split at h
    · cases h
    · split at h
      · cases h; exact State.homeAccess_keeps _ hw
      · extract_lets d p at h
        split at h
        · cases h; exact hw.congr (by simp)
        · cases h; exact hw.congr (by simp)

@[simp] theorem State.queryRecordLands_keeps {k} {s : State} (q) (hk : Keeps k s.steady) :
    Keeps k (s.queryRecordLands q).steady := by
  unfold State.queryRecordLands
  split
  · exact hk
  · refine Keeps.ite_of hk ?_
    dsimp only
    split
    · exact hk
    · next h => exact (State.ringWrite_keeps hk h).congr (by simp)

@[simp] theorem State.apertureWrite_keeps {k} {s : State} (t i l dead) (hk : Keeps k s.steady) : Keeps k (s.apertureWrite t i l dead).steady := by
  simp [State.apertureWrite, hk]

@[simp] theorem State.takeReserveCancel_keeps {k} {s : State} (owner t r) (hk : Keeps k s.steady) : Keeps k (s.takeReserveCancel owner t r).steady := by
  unfold State.takeReserveCancel
  refine Keeps.foldl (fun s a hk => ?_) _ ?_ <;> simp [hk]

@[simp] theorem State.disposeKv_keeps {k} {s : State} (c) (hk : Keeps k s.steady) : Keeps k (s.disposeKv c).steady := by
  simp [State.disposeKv, hk]

@[simp] theorem State.recordLands_keeps {k} {s : State} (n dead) (hk : Keeps k s.steady) :
    Keeps k (s.recordLands n dead).steady := by
  unfold State.recordLands
  split
  · exact hk
  · split
    · exact hk
    · refine Keeps.ite_of hk (Keeps.ite_of (by simp [hk]) (Keeps.ite_of hk ?_))
      split
      · exact hk
      · next h =>
        have hw := State.ringWrite_keeps hk h
        refine Keeps.ite_of (State.disposeKv_keeps _ (hw.congr (by simp))) (hw.congr (by simp))

@[simp] theorem State.applyDrop_keeps {k} {s : State} (t i) (hk : Keeps k s.steady) : Keeps k (s.applyDrop t i).steady := by
  simp [State.applyDrop, hk]

@[simp] theorem State.releaseLease_keeps {k} {s : State} (kind key) (hk : Keeps k s.steady) : Keeps k (s.releaseLease kind key).steady := by
  unfold State.releaseLease
  split
  · exact hk
  · split
    · simp [hk]
    · split
      · split
        · exact hk
        · simp
          split
          · refine Keeps.foldl (fun s a hk => ?_) _ ?_
            · simp [hk]
            · exact hk
          · exact hk
      · split
        · exact hk
        · simp
          split
          · refine Keeps.foldl (fun s a hk => ?_) _ ?_
            · simp [hk]
            · exact hk
          · exact hk

@[simp] theorem State.restoreItem_keeps {k} {s : State} (x1) (hk : Keeps k s.steady) : Keeps k (s.restoreItem x1).steady := by
  unfold State.restoreItem
  split
  · exact hk
  · exact hk
  · exact hk
  · simp [hk]
  · exact hk
  · exact hk

@[simp] theorem State.takeLines_keeps {k} {s : State} (r off data mask) (hk : Keeps k s.steady) : Keeps k (s.takeLines r off data mask).steady := by
  simp [State.takeLines, hk]

@[simp] theorem State.takeMirror_keeps {k} {s : State} (src epoch item) (hk : Keeps k s.steady) : Keeps k (s.takeMirror src epoch item).steady := by
  unfold State.takeMirror
  split
  · split
    · simp [hk]
    · simp
      split <;> simp [hk]
    · simp
      split <;> simp [hk]
    · simp [hk]
  · split
    · simp [hk]
    · simp
      split
      · exact hk
      · split <;> simp [hk]
    · simp
      split
      · exact hk
      · split <;> simp [hk]
    · simp [hk]

@[simp] theorem State.wipeFrames_keeps {k} {s : State} (hk : Keeps k s.steady) : Keeps k (s.wipeFrames).steady := by
  unfold State.wipeFrames
  refine Keeps.foldl (fun s a hk => ?_) _ ?_
  · simp [hk]
  · exact hk

@[simp] theorem State.selfTestEnd_keeps {k} {s : State} (pass) (hk : Keeps k s.steady) : Keeps k (s.selfTestEnd pass).steady := by
  simp [State.selfTestEnd, hk]

@[simp] theorem State.crustSteps_keeps {k} {s : State} (cause) (hk : Keeps k s.steady) : Keeps k (s.crustSteps cause).steady := by
  simp [State.crustSteps, hk]

@[simp] theorem State.enterCrust_keeps {k} {s : State} (cause n) (hk : Keeps k s.steady) :
    Keeps k (s.enterCrust cause n).steady := by
  unfold State.enterCrust
  extract_lets u v
  have hu : Keeps k u.steady := hk.congr (by
    unfold u
    split <;> simp)
  have hv : Keeps k v.steady := hu.congr (State.noteCause_steady _ _)
  split
  case h_5 => exact Keeps.ite_of hv (State.crustSteps_keeps _ hv)
  all_goals simp [hv]

@[simp] theorem State.startBase_keeps {k} {s : State} (warm) (hk : Keeps k s.steady) : Keeps k (s.startBase warm).steady := by
  have h (m : List Instr × OrderCode × Mem) (hm : m = (s.pending, s.code, State.reset.mem)) : Keeps k m := by
    rw [hm]
    exact ⟨hk.1, hk.2.1, fun _ => Mem.wf_nil⟩
  unfold State.startBase
  dsimp only
  split
  · exact h _ (by simp)
  · exact h _ (by simp)

@[simp] theorem State.trained_keeps {k} {s : State} (f) (hk : Keeps k s.steady) : Keeps k (s.trained f).steady := by
  unfold State.trained
  exact Keeps.ite_of (by simp [hk]) (Keeps.ite_of (by simp [hk]) hk)

@[simp] theorem State.startImage_keeps {k} {s : State} (f) (hk : Keeps k s.steady) : Keeps k (s.startImage f).steady := by
  have mapped (u : State) (hu : Keeps k u.steady) :
      Keeps k (if u.weave.phase ≠ .none ∧ u.weave.drivesLeft = [] then u.mapDrives else u).steady :=
    Keeps.ite_of (by simp [hu]) hu
  unfold State.startImage
  refine Keeps.ite_of (by simp [hk]) ?_
  dsimp only
  split
  · exact mapped _ (State.trained_keeps _ (hk.congr (by simp)))
  · refine Keeps.ite_of (hk.congr (by simp)) ?_
    split
    · refine mapped _ (State.trained_keeps _ ?_)
      exact Keeps.ite_of (State.enterCrust_keeps _ _ (hk.congr (by simp))) (hk.congr (by simp))
    · exact hk.congr (by simp)

@[simp] theorem State.runStart_keeps {k} {s : State} (f) (hk : Keeps k s.steady) : Keeps k (s.runStart f).steady := by
  unfold State.runStart
  extract_lets u v first facts
  have hu : Keeps k u.steady := hk.congr (by simp [u])
  have hv : Keeps k v.steady := hu.congr (by simp [v])
  have tried {w : State} (slot : Nat) (x : FwFacts) (hw : Keeps k w.steady) : Keeps k (w.tryFirmware slot x).2.steady :=
    hw.congr (by simp)
  refine Keeps.ite_of hu ?_
  split
  next ok w h =>
  have hw : Keeps k w.steady := (tried first (facts first) hv).congr (by rw [h])
  split
  next ok' x h' =>
  have hx : Keeps k x.steady := by
    split at h'
    · cases h'; exact hw
    · exact (tried (1 - first) (facts (1 - first)) hw).congr (by rw [h'])
  exact Keeps.ite_of hx (State.startImage_keeps _ (hx.congr (by simp)))

@[simp] theorem State.coldStart_keeps {k} {s : State} (f) (hk : Keeps k s.steady) : Keeps k (s.coldStart f).steady := by
  have hb := State.startBase_keeps false hk
  exact Keeps.ite_of hk (State.runStart_keeps _ (Keeps.ite_of (hb.congr (by simp)) hb))

@[simp] theorem State.warmStart_keeps {k} {s : State} (f) (hk : Keeps k s.steady) : Keeps k (s.warmStart f).steady := by
  have hb := State.startBase_keeps true hk
  unfold State.warmStart
  exact Keeps.ite_of hk (State.runStart_keeps _ (hb.congr (by simp)))

@[simp] theorem State.holdReset_keeps {k} {s : State} (hk : Keeps k s.steady) : Keeps k s.holdReset.steady := by
  unfold State.holdReset
  exact (State.startBase_keeps true hk).congr (State.onPwr_steady _ _)

@[simp] theorem State.startEnds_keeps {k} {s : State} (hk : Keeps k s.steady) : Keeps k (s.startEnds).steady := by
  simp [State.startEnds, hk]

@[simp] theorem State.takeJoinAck_keeps {k} {s : State} (wale time) (hk : Keeps k s.steady) : Keeps k (s.takeJoinAck wale time).steady := by
  simp [State.takeJoinAck, hk]

@[simp] theorem State.enterService_keeps {k} {s : State} (hk : Keeps k s.steady) : Keeps k (s.enterService).steady := by
  simp [State.enterService, hk]

@[simp] theorem State.powerLost_keeps {k} {s : State} (hk : Keeps k s.steady) : Keeps k s.powerLost.steady := by
  unfold State.powerLost
  exact State.startBase_keeps true hk

@[simp] theorem State.wakeEnds_keeps {k} {s : State} (hk : Keeps k s.steady) : Keeps k (s.wakeEnds).steady := by
  unfold State.wakeEnds
  split
  · split
    · exact hk
    · split
      · simp
        split <;> simp [hk]
      · simp
        split <;> simp [hk]
  · exact hk

@[simp] theorem State.dieFault_keeps {k} {s : State} (d n) (hk : Keeps k s.steady) : Keeps k (s.dieFault d n).steady := by
  unfold State.dieFault
  dsimp only
  refine Keeps.ite_of hk (Keeps.ite_of (hk.congr (by simp)) (State.enterCrust_keeps _ _ (hk.congr (by simp))))

@[simp] theorem State.thermal_keeps {k} {s : State} (i level temp) (hk : Keeps k s.steady) :
    Keeps k (s.thermal i level temp).steady := by
  unfold State.thermal
  extract_lets u v
  have hv : Keeps k v.steady := hk.congr (by simp [v, u])
  refine Keeps.ite_of hk (Keeps.ite_of (hv.congr (by simp)) (Keeps.ite_of (State.enterCrust_keeps _ _ hv) ?_))
  exact (State.powerLost_keeps hv).congr (State.onPwr_steady _ _)

@[simp] theorem State.pinActs_keeps {k} {s : State} (p level) (hk : Keeps k s.steady) : Keeps k (s.pinActs p level).steady := by
  unfold State.pinActs
  split
  case h_5 => exact Keeps.ite_of (State.holdReset_keeps hk) hk
  all_goals simp [hk]

@[simp] theorem State.pinEdge_keeps {k} {s : State} (p level) (hk : Keeps k s.steady) : Keeps k (s.pinEdge p level).steady := by
  simp [State.pinEdge, hk]

@[simp] theorem State.scanLoads_keeps {k} {s : State} (off n) (hk : Keeps k s.steady) : Keeps k (s.scanLoads off n).steady := by
  unfold State.scanLoads
  refine Keeps.foldl (fun s a hk => ?_) _ ?_
  · simp [hk]
  · exact hk

@[simp] theorem State.scanCommand_keeps {k} {s : State} (u w) (hk : Keeps k s.steady) : Keeps k (s.scanCommand u w).steady := by
  unfold State.scanCommand
  split
  · exact hk
  · split
    · simp [hk]
    · split
      · simp
        split
        · next h _ => simp [steady_of_snd h, hk]
        · split
          · next h _ _ => simp [steady_of_snd h, hk]
          · split
            · next h _ _ _ _ _ _ _ => simp [steady_of_snd h, hk]
            · next h _ _ _ _ _ _ => simp [steady_of_snd h, hk]

@[simp] theorem State.fillResume_keeps {k} {s : State} (o tn g c ch) (hk : Keeps k s.steady) : Keeps k (s.fillResume o tn g c ch).steady := by
  simp [State.fillResume, hk]

@[simp] theorem State.xltRevokeRun_keeps {k} {s : State} (hk : Keeps k s.steady) : Keeps k (s.xltRevokeRun).steady := by
  unfold State.xltRevokeRun
  split
  · exact hk
  · refine Keeps.foldl (fun s a hk => ?_) _ ?_ <;> simp [hk]

@[simp] theorem State.xltCommand_keeps {k} {s : State} (w) (hk : Keeps k s.steady) : Keeps k (s.xltCommand w).steady := by
  simp [State.xltCommand, hk]

@[simp] theorem State.writeRegister_keeps {k} {s : State} (off v) (hk : Keeps k s.steady) :
    Keeps k (s.writeRegister off v).steady := by
  unfold State.writeRegister
  iterate 10 refine Keeps.ite_of (by simp [hk]) ?_
  split
  · exact Keeps.ite_of (by simp [hk]) hk
  · simp [hk]
  · simp [hk]

@[simp] theorem State.apertureAccess_keeps {k} {s : State} (x1) (hk : Keeps k s.steady) : Keeps k (s.apertureAccess x1).steady := by
  unfold State.apertureAccess
  split
  · simp [hk]
  · split
    · simp
      split
      · split
        · exact hk
        · refine Keeps.foldl (fun s a hk => ?_) _ ?_
          · simp [hk]
          · exact hk
      · exact hk
    · simp [hk]
  · simp [hk]

@[simp] theorem State.registerAccess_keeps {k} {s : State} (x1) (hk : Keeps k s.steady) : Keeps k (s.registerAccess x1).steady := by
  unfold State.registerAccess
  split
  · simp [hk]
  · split
    · split <;> simp [hk]
    · split <;> simp [hk]

@[simp] theorem State.saAccess_keeps {k} {s : State} (who t sa kind) (hk : Keeps k s.steady) : Keeps k (s.saAccess who t sa kind).steady := by
  unfold State.saAccess
  split
  · exact hk
  · split
    · simp [hk]
    · split
      · simp [hk]
      · split <;> simp [hk]

@[simp] theorem State.deliver_keeps {k} {s : State} (p) (hk : Keeps k s.steady) : Keeps k (s.deliver p).steady := by
  unfold State.deliver
  split
  · split <;> simp [hk]
  · split
    · simp [hk]
    · simp [hk]
    · simp [hk]
    · simp [hk]
    · exact hk
    · exact hk
    · exact hk

@[simp] theorem State.deliverHeld_keeps {k} {s : State} (n f) (hk : Keeps k s.steady) : Keeps k (s.deliverHeld n f).steady := by
  induction n generalizing s with
  | zero => exact hk
  | succ n ih =>
    unfold State.deliverHeld
    dsimp only
    split
    · exact hk
    · exact ih (State.deliver_keeps _ (hk.congr (by simp)))

@[simp] theorem State.eject_keeps {k} {s : State} (p) (hk : Keeps k s.steady) : Keeps k (s.eject p).steady := by
  simp [State.eject, hk]

@[simp] theorem State.arrive_keeps {k} {s : State} (p) (hk : Keeps k s.steady) : Keeps k (s.arrive p).steady := by
  unfold State.arrive
  split
  · simp [hk]
  · simp [hk]
  · simp [hk]
  · simp [hk]
  · exact hk
  · exact hk
  · exact hk
  · simp [hk]

@[simp] theorem State.route_keeps {k} {s : State} (inp p) (hk : Keeps k s.steady) : Keeps k (s.route inp p).steady := by
  unfold State.route
  split
  · split <;> simp [hk]
  · simp [hk]

@[simp] theorem State.packetIn_keeps {k} {s : State} (port p) (hk : Keeps k s.steady) : Keeps k (s.packetIn port p).steady := by
  unfold State.packetIn
  split
  · simp [hk]
  · simp
    split
    · exact hk
    · split <;> simp [hk]

@[simp] theorem State.received_keeps {k} {s : State} (p) (hk : Keeps k s.steady) : Keeps k (s.received p).steady := by
  simp [State.received, hk]

@[simp] theorem State.windowAccess_keeps {k} {s : State} (b dpa kind) (hk : Keeps k s.steady) : Keeps k (s.windowAccess b dpa kind).steady := by
  unfold State.windowAccess
  split
  · simp [hk]
  · split
    · split
      · simp [hk]
      · exact hk
    · simp [hk]

@[simp] theorem State.hostAccess_keeps {k} {s : State} (b dpa kind ask) (hk : Keeps k s.steady) : Keeps k (s.hostAccess b dpa kind ask).steady := by
  simp [State.hostAccess, hk]

@[simp] theorem State.repairOver_keeps {k} {s : State} (hk : Keeps k s.steady) : Keeps k (s.repairOver).steady := by
  simp [State.repairOver, hk]

@[simp] theorem State.formedStep_keeps {k} {s : State} (hk : Keeps k s.steady) : Keeps k (s.formedStep).steady := by
  simp [State.formedStep, hk]

@[simp] theorem State.admitStep_keeps {k} {s : State} (time) (hk : Keeps k s.steady) : Keeps k (s.admitStep time).steady := by
  unfold State.admitStep
  dsimp only
  rw [State.formRecords_steady]
  refine Keeps.foldl (fun u e hu => Keeps.ite_of (by simp [hu]) hu) _ ?_
  refine Keeps.foldl (fun u e hu => Keeps.ite_of (by simp [hu]) (Keeps.ite_of (by simp [hu]) hu)) _ ?_
  refine Keeps.foldl (fun u e hu => Keeps.ite_of (by simp [hu]) hu) _ ?_
  exact Keeps.ite_of (hk.congr (by simp)) (hk.congr (by simp))

@[simp] theorem State.takeEarly_keeps {k} {s : State} (hk : Keeps k s.steady) : Keeps k (s.takeEarly).steady := by
  unfold State.takeEarly
  refine Keeps.foldl (fun s a hk => ?_) _ ?_
  · split <;> simp [hk]
  · exact hk

@[simp] theorem State.sequence_keeps {k} {s : State} (a ended) (hk : Keeps k s.steady) : Keeps k (s.sequence a ended).steady := by
  unfold State.sequence
  extract_lets forming worked s₁ s₂ s₃ s₄
  have h₁ : Keeps k s₁.steady := Keeps.ite_of hk (hk.congr (by simp))
  have h₄ : Keeps k s₄.steady := h₁.congr (by simp [s₄, s₃, s₂])
  split
  next gone t h =>
  have ht : Keeps k t.steady := h₄.congr (by simp [State.steady_of_snd h])
  extract_lets t₁ t₂ serving t₃ t₄ t₅ t₆
  have ht₁ : Keeps k t₁.steady := State.repairOver_keeps (ht.congr (by simp))
  have ht₂ : Keeps k t₂.steady := Keeps.ite_of (State.formedStep_keeps ht₁) ht₁
  have ht₃ : Keeps k t₃.steady := Keeps.ite_of ((State.admitStep_keeps a.time ht₂).congr (by simp)) ht₂
  have ht₄ : Keeps k t₄.steady := State.takeEarly_keeps (ht₃.congr (by simp))
  have ht₅ : Keeps k t₅.steady := ht₄.congr (by simp [t₅])
  have ht₆ : Keeps k t₆.steady := Keeps.ite_of (Keeps.ite_of (ht₅.congr (by simp)) ht₅) ht₄
  exact ht₆.congr (by simp)

@[simp] theorem State.crossBoundary_keeps {k} {s : State} (a ended) (hk : Keeps k s.steady) :
    Keeps k (s.crossBoundary a ended).steady :=
  Keeps.ite_of (by simp [hk]) (by simp [hk])

@[simp] theorem State.waleBoundary_keeps {k} {s : State} (ended) (hk : Keeps k s.steady) : Keeps k (s.waleBoundary ended).steady := by
  unfold State.waleBoundary
  split
  · exact hk
  · split
    · simp [hk]
    · split
      · exact hk
      · simp [hk]

@[simp] theorem State.takeBoundary_keeps {k} {s : State} (m) (hk : Keeps k s.steady) : Keeps k (s.takeBoundary m).steady := by
  unfold State.takeBoundary
  dsimp only
  split
  · exact hk
  · split
    · next h _ => simp [State.acceptEpoch_steady h, hk]
    · split
      · next h _ _ => simp [State.acceptEpoch_steady h, hk]
      · next h _ _ => simp [State.acceptEpoch_steady h, hk]

@[simp] theorem State.scanStart_keeps {k} {s : State} (u) (hk : Keeps k s.steady) : Keeps k (s.scanStart u).steady := by
  unfold State.scanStart
  split
  · exact hk
  · simp [hk]

end Sys2Proof.Machine
end

section
/-! The outcomes whose next state keeps what was kept. -/
namespace Sys2Proof.Machine

/-- What was kept is kept in whatever state the outcome goes on. -/
def KeepsNext (k : List Instr × OrderCode × Mem) (o : Host.Outcome State Fault Refusal) : Prop :=
  ∀ t, o = .next t → Keeps k t.steady

@[simp] theorem keepsNext_next {k : List Instr × OrderCode × Mem} {s : State} : KeepsNext k (.next s) ↔ Keeps k s.steady :=
  ⟨fun h => h s rfl, fun h _ e => by cases e; exact h⟩

@[simp] theorem keepsNext_fault (k : List Instr × OrderCode × Mem) (f : Fault) : KeepsNext k (.fault f) := fun _ e => nomatch e

@[simp] theorem keepsNext_withUnit {k : List Instr × OrderCode × Mem} {ok : Bool} {o : Host.Outcome State Fault Refusal}
    (h : KeepsNext k o) : KeepsNext k (withUnit ok o) := by
  cases ok
  · exact keepsNext_fault k _
  · exact h

end Sys2Proof.Machine

namespace Sys2Proof.Machine

/-! What takes the rest of its work as an argument keeps what that argument keeps. -/

theorem State.onScalar_keeps {k} {s : State} (c) {g : State → State} (hg : ∀ u, Keeps k u.steady → Keeps k (g u).steady)
    (hk : Keeps k s.steady) : KeepsNext k (s.onScalar c g) := by
  refine keepsNext_withUnit (keepsNext_next.2 ?_)
  exact Keeps.ite_of (State.finish_keeps (hg s hk)) hk

theorem State.onShard_keeps {k} {s : State} (q shard) {g : HomeQ → ShardNote → State} (hg : ∀ h n, Keeps k (g h n).steady)
    (hk : Keeps k s.steady) : Keeps k (s.onShard q shard g).steady := by
  unfold State.onShard
  split
  · exact hk
  · split
    · exact Keeps.ite_of (hg _ _) hk
    · exact hk

theorem State.flitIn_keeps {k} {s : State} (p check) {g : State → State} (hg : ∀ u, Keeps k u.steady → Keeps k (g u).steady)
    (hk : Keeps k s.steady) : Keeps k (s.flitIn p check g).steady := by
  unfold State.flitIn
  refine Keeps.ite_of (by simp [hk]) (Keeps.ite_of hk ?_)
  split
  case h_1 => exact hg _ (hk.congr (by simp))
  all_goals simp [hk]

theorem State.authIn_keeps {k} {s : State} (p) {g : State → State} (hg : ∀ u, Keeps k u.steady → Keeps k (g u).steady)
    (hk : Keeps k s.steady) : Keeps k (s.authIn p g).steady := by
  unfold State.authIn
  have hp (q : Port) : Keeps k (s.setPort p q).steady := hk.congr (by simp)
  exact Keeps.ite_of (hp _) (Keeps.ite_of (hg _ (hp _)) (hp _))

theorem State.mgmtRequest_keeps {k} {s : State} (t update) {body : State → Answer × State}
    (hb : ∀ u, Keeps k u.steady → Keeps k (body u).2.steady) (hk : Keeps k s.steady) : Keeps k (s.mgmtRequest t update body).steady := by
  unfold State.mgmtRequest
  refine Keeps.ite_of hk (Keeps.ite_of (by simp [hk]) ?_)
  exact (hb (s.onMgt fun m => { m with qMctp := m.qMctp + 1 }) (hk.congr (by simp))).congr (by simp)

theorem State.mgmtRegister_keeps {k} {s : State} (t) {body : State → Answer × State}
    (hb : ∀ u, Keeps k u.steady → Keeps k (body u).2.steady) (hk : Keeps k s.steady) : Keeps k (s.mgmtRegister t body).steady := by
  unfold State.mgmtRegister
  exact Keeps.ite_of (by simp [hk]) (Keeps.ite_of hk (State.mgmtRequest_keeps _ _ hb hk))

theorem State.updateRequest_keeps {k} {s : State} (t) {body : State → Answer × State}
    (hb : ∀ u, Keeps k u.steady → Keeps k (body u).2.steady) (hk : Keeps k s.steady) : Keeps k (s.updateRequest t body).steady := by
  unfold State.updateRequest
  exact Keeps.ite_of (Keeps.ite_of (by simp [hk]) hk) (State.mgmtRequest_keeps _ _ hb hk)

theorem State.spdmAfter_keeps {k} {s : State} (t) {body : State → Answer × State}
    (hb : ∀ u, Keeps k u.steady → Keeps k (body u).2.steady) (hk : Keeps k s.steady) : Keeps k (s.spdmAfter t body).steady := by
  refine State.mgmtRequest_keeps _ _ (fun u hu => ?_) hk
  split
  · exact hb u hu
  · exact hu

end Sys2Proof.Machine
end

section
/-! Every command keeps the rest of the queue and the ordering code and leaves a canonical memory canonical: one lemma for each. -/
namespace Sys2Proof.Machine

@[simp] theorem execCopyOnWriteComplete_keeps {k} {s : State} (block) (hk : Keeps k s.steady) : KeepsNext k (execCopyOnWriteComplete block s) := by
  unfold execCopyOnWriteComplete
  simp
  split
  · exact hk
  · simp [hk]

@[simp] theorem execMigrationComplete_keeps {k} {s : State} (block) (hk : Keeps k s.steady) : KeepsNext k (execMigrationComplete block s) := by
  unfold execMigrationComplete
  simp
  split
  · split <;> simp [hk]
  · exact hk

@[simp] theorem execSealImageChecked_keeps {k} {s : State} (block) (hk : Keeps k s.steady) : KeepsNext k (execSealImageChecked block s) := by
  simp [execSealImageChecked, hk]

@[simp] theorem execSealT2Fail_keeps {k} {s : State} (block) (hk : Keeps k s.steady) : KeepsNext k (execSealT2Fail block s) := by
  simp [execSealT2Fail, hk]

@[simp] theorem execSealPayloadPoison_keeps {k} {s : State} (block line) (hk : Keeps k s.steady) : KeepsNext k (execSealPayloadPoison block line s) := by
  simp [execSealPayloadPoison, hk]

@[simp] theorem execPromotionFillComplete_keeps {k} {s : State} (block tier inlineOk) (hk : Keeps k s.steady) : KeepsNext k (execPromotionFillComplete block tier inlineOk s) := by
  simp [execPromotionFillComplete, hk]

@[simp] theorem execPromotionFillFail_keeps {k} {s : State} (block tier why) (hk : Keeps k s.steady) : KeepsNext k (execPromotionFillFail block tier why s) := by
  simp [execPromotionFillFail, hk]

@[simp] theorem execSinkReadersDone_keeps {k} {s : State} (block tier) (hk : Keeps k s.steady) : KeepsNext k (execSinkReadersDone block tier s) := by
  simp [execSinkReadersDone, hk]

@[simp] theorem execRefetchComplete_keeps {k} {s : State} (block) (hk : Keeps k s.steady) : KeepsNext k (execRefetchComplete block s) := by
  refine keepsNext_next.2 ?_
  split
  · exact hk
  · extract_lets n u v w t x
    have hw : Keeps k w.steady := hk.congr (by simp only [w, v, u]; split <;> simp)
    have hx : Keeps k x.steady := Keeps.ite_of hw (by
      split
      · next h => simp [State.steady_of_frame h, hw]
      · next h => simp [State.steady_of_wait h, hw]
      · next h => simp [State.steady_of_quota h, hw])
    exact State.finish_keeps (hx.congr (by simp))

@[simp] theorem execRefetchSourceFail_keeps {k} {s : State} (block why) (hk : Keeps k s.steady) : KeepsNext k (execRefetchSourceFail block why s) := by
  unfold execRefetchSourceFail
  split <;> simp [hk]

@[simp] theorem execRefetchTimeout_keeps {k} {s : State} (block) (hk : Keeps k s.steady) : KeepsNext k (execRefetchTimeout block s) := by
  unfold execRefetchTimeout
  split <;> simp [hk]

@[simp] theorem execDriveLost_keeps {k} {s : State} (drive) (hk : Keeps k s.steady) : KeepsNext k (execDriveLost drive s) := by
  refine keepsNext_next.2 ?_
  split
  · exact hk
  · refine Keeps.ite_of hk (State.finish_keeps (Keeps.foldl (fun u e hu => ?_) _ (hk.congr (by simp))))
    split
    next =>
      split
      · exact Keeps.ite_of (by simp [hu]) hu
      · exact hu

@[simp] theorem execStreamHalfFilled_keeps {k} {s : State} (die cell half) (hk : Keeps k s.steady) : KeepsNext k (execStreamHalfFilled die cell half s) := by
  unfold execStreamHalfFilled
  split
  · simp [hk]
  · split <;> simp [hk]

@[simp] theorem execStreamHalfConsumed_keeps {k} {s : State} (die cell half) (hk : Keeps k s.steady) : KeepsNext k (execStreamHalfConsumed die cell half s) := by
  unfold execStreamHalfConsumed
  split
  · simp [hk]
  · split
    · simp
      split
      · simp [hk]
      · exact hk
    · simp [hk]

@[simp] theorem execMcastChunkArrived_keeps {k} {s : State} (die cell half chunk) (hk : Keeps k s.steady) : KeepsNext k (execMcastChunkArrived die cell half chunk s) := by
  unfold execMcastChunkArrived
  split
  · simp [hk]
  · split <;> simp [hk]

@[simp] theorem execRouterPrefetch_keeps {k} {s : State} (die layer experts) (hk : Keeps k s.steady) : KeepsNext k (execRouterPrefetch die layer experts s) := by
  refine keepsNext_next.2 ?_
  split
  · exact hk
  · split
    · exact hk
    · refine Keeps.ite_of (State.finish_keeps (Keeps.foldl (fun u b hu => Keeps.ite_of ?_ hu) _ hk)) hk
      split
      · next h => simp [State.steady_of_frame h, hu]
      · next h => simp [State.steady_of_wait h, hu]
      · next h => simp [State.steady_of_quota h, hu]

@[simp] theorem execTierSeal_keeps {k} {s : State} (w) (hk : Keeps k s.steady) : KeepsNext k (execTierSeal w s) := by
  simp [execTierSeal, hk]

@[simp] theorem execTierImport_keeps {k} {s : State} (w) (hk : Keeps k s.steady) : KeepsNext k (execTierImport w s) := by
  simp [execTierImport, hk]

@[simp] theorem execTierPromote_keeps {k} {s : State} (w) (hk : Keeps k s.steady) : KeepsNext k (execTierPromote w s) := by
  simp [execTierPromote, hk]

@[simp] theorem execTierSink_keeps {k} {s : State} (w) (hk : Keeps k s.steady) : KeepsNext k (execTierSink w s) := by
  simp [execTierSink, hk]

@[simp] theorem execTierFree_keeps {k} {s : State} (w) (hk : Keeps k s.steady) : KeepsNext k (execTierFree w s) := by
  simp [execTierFree, hk]

@[simp] theorem execTierQuery_keeps {k} {s : State} (w) (hk : Keeps k s.steady) : KeepsNext k (execTierQuery w s) := by
  simp [execTierQuery, hk]

@[simp] theorem execTierModeWrite_keeps {k} {s : State} (v) (hk : Keeps k s.steady) : KeepsNext k (execTierModeWrite v s) := by
  simp [execTierModeWrite, hk]

@[simp] theorem execTierResvLimitWrite_keeps {k} {s : State} (n v) (hk : Keeps k s.steady) : KeepsNext k (execTierResvLimitWrite n v s) := by
  simp [execTierResvLimitWrite, hk]

@[simp] theorem State.mvOp_keeps {k} {s : State} (c ch opc ue) (hk : Keeps k s.steady) : KeepsNext k (s.mvOp c ch opc ue) :=
  keepsNext_withUnit (keepsNext_next.2 (State.finish_keeps (State.moverHead_keeps _ _ _ _ hk)))

@[simp] theorem execMvGet_keeps {k} {s : State} (cell channel ue) (hk : Keeps k s.steady) : KeepsNext k (execMvGet cell channel ue s) := by
  simp [execMvGet, hk]

@[simp] theorem execMvPut_keeps {k} {s : State} (cell channel ue) (hk : Keeps k s.steady) : KeepsNext k (execMvPut cell channel ue s) := by
  simp [execMvPut, hk]

@[simp] theorem execMvCopy_keeps {k} {s : State} (cell channel ue) (hk : Keeps k s.steady) : KeepsNext k (execMvCopy cell channel ue s) := by
  simp [execMvCopy, hk]

@[simp] theorem execMvCellPut_keeps {k} {s : State} (cell channel ue) (hk : Keeps k s.steady) : KeepsNext k (execMvCellPut cell channel ue s) := by
  simp [execMvCellPut, hk]

@[simp] theorem execMvAtom_keeps {k} {s : State} (cell channel ue) (hk : Keeps k s.steady) : KeepsNext k (execMvAtom cell channel ue s) := by
  simp [execMvAtom, hk]

@[simp] theorem execMoverDescEnd_keeps {k} {s : State} (cell channel) (hk : Keeps k s.steady) : KeepsNext k (execMoverDescEnd cell channel s) := by
  unfold execMoverDescEnd
  split <;> simp [hk]

@[simp] theorem execHostWriteback_keeps {k} {s : State} (binding sa data) (hk : Keeps k s.steady) : KeepsNext k (execHostWriteback binding sa data s) := by
  simp [execHostWriteback, hk]

@[simp] theorem execRecallStart_keeps {k} {s : State} (line holder) (hk : Keeps k s.steady) : KeepsNext k (execRecallStart line holder s) := by
  simp [execRecallStart, hk]

@[simp] theorem execRecall_keeps {k} {s : State} (home binding sa range) (hk : Keeps k s.steady) : KeepsNext k (execRecall home binding sa range s) := by
  simp [execRecall, hk]

@[simp] theorem execBirspi_keeps {k} {s : State} (binding sa dirty) (hk : Keeps k s.steady) : KeepsNext k (execBirspi binding sa dirty s) := by
  simp [execBirspi, hk]

@[simp] theorem execRecallAck_keeps {k} {s : State} (holder sa dirty) (hk : Keeps k s.steady) : KeepsNext k (execRecallAck holder sa dirty s) := by
  simp [execRecallAck, hk]

@[simp] theorem execRecallTimeout_keeps {k} {s : State} (line holder) (hk : Keeps k s.steady) : KeepsNext k (execRecallTimeout line holder s) := by
  simp [execRecallTimeout, hk]

@[simp] theorem execFenced_keeps {k} {s : State} (holder) (hk : Keeps k s.steady) : KeepsNext k (execFenced holder s) := by
  simp [execFenced, hk]

@[simp] theorem execCoherentResend_keeps {k} {s : State} (requester mover request) (hk : Keeps k s.steady) : KeepsNext k (execCoherentResend requester mover request s) := by
  simp [execCoherentResend, hk]

@[simp] theorem execHomeopAtom_keeps {k} {s : State} (binding line data) (hk : Keeps k s.steady) : KeepsNext k (execHomeopAtom binding line data s) := by
  simp [execHomeopAtom, hk]

@[simp] theorem execOpenView_keeps {k} {s : State} (binding line data) (hk : Keeps k s.steady) : KeepsNext k (execOpenView binding line data s) := by
  simp [execOpenView, hk]

@[simp] theorem execCloseView_keeps {k} {s : State} (binding line data) (hk : Keeps k s.steady) : KeepsNext k (execCloseView binding line data s) := by
  simp [execCloseView, hk]

@[simp] theorem execPublish_keeps {k} {s : State} (binding line data) (hk : Keeps k s.steady) : KeepsNext k (execPublish binding line data s) := by
  simp [execPublish, hk]

@[simp] theorem execHomeop_keeps {k} {s : State} (src tenant binding line sa staging req stagingCode) (hk : Keeps k s.steady) : KeepsNext k (execHomeop src tenant binding line sa staging req stagingCode s) := by
  simp [execHomeop, hk]

@[simp] theorem execHomeopReply_keeps {k} {s : State} (binding line code detail result) (hk : Keeps k s.steady) : KeepsNext k (execHomeopReply binding line code detail result s) := by
  simp [execHomeopReply, hk]

@[simp] theorem execBind_keeps {k} {s : State} (w) (hk : Keeps k s.steady) : KeepsNext k (execBind w s) := by
  simp [execBind, hk]

@[simp] theorem execUnbind_keeps {k} {s : State} (w) (hk : Keeps k s.steady) : KeepsNext k (execUnbind w s) := by
  simp [execUnbind, hk]

@[simp] theorem execUnfence_keeps {k} {s : State} (w) (hk : Keeps k s.steady) : KeepsNext k (execUnfence w s) := by
  simp [execUnfence, hk]

@[simp] theorem execDcAdd_keeps {k} {s : State} (w) (hk : Keeps k s.steady) : KeepsNext k (execDcAdd w s) := by
  simp [execDcAdd, hk]

@[simp] theorem execDcWithdraw_keeps {k} {s : State} (w) (hk : Keeps k s.steady) : KeepsNext k (execDcWithdraw w s) := by
  simp [execDcWithdraw, hk]

@[simp] theorem execComCreate_keeps {k} {s : State} (w) (hk : Keeps k s.steady) : KeepsNext k (execComCreate w s) := by
  simp [execComCreate, hk]

@[simp] theorem execComGrant_keeps {k} {s : State} (w) (hk : Keeps k s.steady) : KeepsNext k (execComGrant w s) := by
  simp [execComGrant, hk]

@[simp] theorem execComDestroy_keeps {k} {s : State} (w) (hk : Keeps k s.steady) : KeepsNext k (execComDestroy w s) := by
  simp [execComDestroy, hk]

@[simp] theorem execDcHostResponse_keeps {k} {s : State} (accept) (hk : Keeps k s.steady) : KeepsNext k (execDcHostResponse accept s) := by
  simp [execDcHostResponse, hk]

@[simp] theorem execDcHostRelease_keeps {k} {s : State} (binding dpa) (hk : Keeps k s.steady) : KeepsNext k (execDcHostRelease binding dpa s) := by
  simp [execDcHostRelease, hk]

@[simp] theorem execDcGraceExpiry_keeps {k} {s : State} (hk : Keeps k s.steady) : KeepsNext k (execDcGraceExpiry s) := by
  simp [execDcGraceExpiry, hk]

@[simp] theorem execDecoderCommit_keeps {k} {s : State} (binding decoder region backInvalidate) (hk : Keeps k s.steady) : KeepsNext k (execDecoderCommit binding decoder region backInvalidate s) := by
  simp [execDecoderCommit, hk]

@[simp] theorem execIdeKm_keeps {k} {s : State} (session stream key) (hk : Keeps k s.steady) : KeepsNext k (execIdeKm session stream key s) := by
  simp [execIdeKm, hk]

@[simp] theorem execIdeFail_keeps {k} {s : State} (stream) (hk : Keeps k s.steady) : KeepsNext k (execIdeFail stream s) := by
  simp [execIdeFail, hk]

@[simp] theorem execFlagLd_keeps {k} {s : State} (cell aq rd rs1) (hk : Keeps k s.steady) : KeepsNext k (execFlagLd cell aq rd rs1 s) :=
  State.onScalar_keeps _ (fun _ hu => by simp [hu]) hk

@[simp] theorem execFlagSt_keeps {k} {s : State} (cell rl rs2 rs1) (hk : Keeps k s.steady) : KeepsNext k (execFlagSt cell rl rs2 rs1 s) :=
  State.onScalar_keeps _ (fun _ hu => by simp [hu]) hk

@[simp] theorem execFlagAdd_keeps {k} {s : State} (cell aq rl rd rs2 rs1) (hk : Keeps k s.steady) : KeepsNext k (execFlagAdd cell aq rl rd rs2 rs1 s) :=
  State.onScalar_keeps _ (fun _ hu => by simp [hu]) hk

@[simp] theorem execFlagMax_keeps {k} {s : State} (cell aq rl rd rs2 rs1) (hk : Keeps k s.steady) : KeepsNext k (execFlagMax cell aq rl rd rs2 rs1 s) :=
  State.onScalar_keeps _ (fun _ hu => by simp [hu]) hk

@[simp] theorem execFlagCas_keeps {k} {s : State} (cell aq rl rd rs2 rs1) (hk : Keeps k s.steady) : KeepsNext k (execFlagCas cell aq rl rd rs2 rs1 s) :=
  State.onScalar_keeps _ (fun _ hu => by simp [hu]) hk

@[simp] theorem execFlagWaitge_keeps {k} {s : State} (cell aq rd rs2 rs1) (hk : Keeps k s.steady) : KeepsNext k (execFlagWaitge cell aq rd rs2 rs1 s) :=
  State.onScalar_keeps _ (fun _ hu => by simp [hu]) hk

@[simp] theorem execFlagWaitgeResume_keeps {k} {s : State} (cell) (hk : Keeps k s.steady) : KeepsNext k (execFlagWaitgeResume cell s) := by
  simp [execFlagWaitgeResume, hk]

@[simp] theorem execWaitTimeout_keeps {k} {s : State} (cell) (hk : Keeps k s.steady) : KeepsNext k (execWaitTimeout cell s) := by
  simp [execWaitTimeout, hk]

@[simp] theorem execMxIssue_keeps {k} {s : State} (cell rd rs1) (hk : Keeps k s.steady) : KeepsNext k (execMxIssue cell rd rs1 s) :=
  State.onScalar_keeps _ (fun _ hu => by simp [hu]) hk

@[simp] theorem execVxIssue_keeps {k} {s : State} (cell rd rs1) (hk : Keeps k s.steady) : KeepsNext k (execVxIssue cell rd rs1 s) :=
  State.onScalar_keeps _ (fun _ hu => by simp [hu]) hk

@[simp] theorem execMvIssue_keeps {k} {s : State} (cell channel rd rs1) (hk : Keeps k s.steady) : KeepsNext k (execMvIssue cell channel rd rs1 s) :=
  State.onScalar_keeps _ (fun _ hu => by simp [hu]) hk

@[simp] theorem execIssueSlotFree_keeps {k} {s : State} (cell) (hk : Keeps k s.steady) : KeepsNext k (execIssueSlotFree cell s) := by
  simp [execIssueSlotFree, hk]

@[simp] theorem execEngWait_keeps {k} {s : State} (cell queue rd rs1) (hk : Keeps k s.steady) : KeepsNext k (execEngWait cell queue rd rs1 s) :=
  State.onScalar_keeps _ (fun _ hu => by simp [hu]) hk

@[simp] theorem execEngWaitResume_keeps {k} {s : State} (cell) (hk : Keeps k s.steady) : KeepsNext k (execEngWaitResume cell s) := by
  simp [execEngWaitResume, hk]

@[simp] theorem execEngPoll_keeps {k} {s : State} (cell queue rd rs1) (hk : Keeps k s.steady) : KeepsNext k (execEngPoll cell queue rd rs1 s) :=
  State.onScalar_keeps _ (fun _ hu => by simp [hu]) hk

@[simp] theorem execEngRel_keeps {k} {s : State} (cell) (hk : Keeps k s.steady) : KeepsNext k (execEngRel cell s) :=
  State.onScalar_keeps _ (fun _ hu => by simp [hu]) hk

@[simp] theorem execEngRelRetire_keeps {k} {s : State} (cell) (hk : Keeps k s.steady) : KeepsNext k (execEngRelRetire cell s) := by
  simp [execEngRelRetire, hk]

@[simp] theorem execEngRelTimeout_keeps {k} {s : State} (cell) (hk : Keeps k s.steady) : KeepsNext k (execEngRelTimeout cell s) := by
  unfold execEngRelTimeout
  split <;> simp [hk]

@[simp] theorem execEngAcq_keeps {k} {s : State} (cell) (hk : Keeps k s.steady) : KeepsNext k (execEngAcq cell s) :=
  State.onScalar_keeps _ (fun _ hu => by simp [hu]) hk

@[simp] theorem execWaleRd_keeps {k} {s : State} (cell rd) (hk : Keeps k s.steady) : KeepsNext k (execWaleRd cell rd s) :=
  State.onScalar_keeps _ (fun _ hu => by simp [hu]) hk

@[simp] theorem execWaleWait_keeps {k} {s : State} (cell rd rs1) (hk : Keeps k s.steady) : KeepsNext k (execWaleWait cell rd rs1 s) :=
  State.onScalar_keeps _ (fun _ hu => by simp [hu]) hk

@[simp] theorem execWaleWaitResume_keeps {k} {s : State} (cell) (hk : Keeps k s.steady) : KeepsNext k (execWaleWaitResume cell s) := by
  simp [execWaleWaitResume, hk]

@[simp] theorem execStimeRd_keeps {k} {s : State} (cell rd) (hk : Keeps k s.steady) : KeepsNext k (execStimeRd cell rd s) :=
  State.onScalar_keeps _ (fun _ hu => by simp [hu]) hk

@[simp] theorem execEcall_keeps {k} {s : State} (cell) (hk : Keeps k s.steady) : KeepsNext k (execEcall cell s) :=
  State.onScalar_keeps _ (fun _ hu => by simp [hu]) hk

@[simp] theorem execKernelTrap_keeps {k} {s : State} (cell cause) (hk : Keeps k s.steady) : KeepsNext k (execKernelTrap cell cause s) :=
  State.onScalar_keeps _ (fun _ hu => by simp [hu]) hk

@[simp] theorem execSyncTimer_keeps {k} {s : State} (hk : Keeps k s.steady) : KeepsNext k (execSyncTimer s) := by
  simp [execSyncTimer, hk]

@[simp] theorem execSync_keeps {k} {s : State} (m offset errorNs locked) (hk : Keeps k s.steady) : KeepsNext k (execSync m offset errorNs locked s) := by
  simp [execSync, hk]

@[simp] theorem execDeviceReady_keeps {k} {s : State} (hk : Keeps k s.steady) : KeepsNext k (execDeviceReady s) := by
  simp [execDeviceReady, hk]

@[simp] theorem execReady_keeps {k} {s : State} (m) (hk : Keeps k s.steady) : KeepsNext k (execReady m s) := by
  simp [execReady, hk]

@[simp] theorem execHold_keeps {k} {s : State} (m) (hk : Keeps k s.steady) : KeepsNext k (execHold m s) := by
  simp [execHold, hk]

@[simp] theorem execHoldRepeatTimer_keeps {k} {s : State} (hk : Keeps k s.steady) : KeepsNext k (execHoldRepeatTimer s) := by
  unfold execHoldRepeatTimer
  split <;> simp [hk]

@[simp] theorem execOverrunHold_keeps {k} {s : State} (hk : Keeps k s.steady) : KeepsNext k (execOverrunHold s) := by
  simp [execOverrunHold, hk]

@[simp] theorem execStretchWarnTimer_keeps {k} {s : State} (hk : Keeps k s.steady) : KeepsNext k (execStretchWarnTimer s) := by
  simp [execStretchWarnTimer, hk]

@[simp] theorem execStepKernel_keeps {k} {s : State} (track) (hk : Keeps k s.steady) : KeepsNext k (execStepKernel track s) := by
  simp [execStepKernel, hk]

@[simp] theorem execStepStream_keeps {k} {s : State} (track) (hk : Keeps k s.steady) : KeepsNext k (execStepStream track s) := by
  simp [execStepStream, hk]

@[simp] theorem execStepService_keeps {k} {s : State} (track) (hk : Keeps k s.steady) : KeepsNext k (execStepService track s) := by
  simp [execStepService, hk]

@[simp] theorem execStepSearch_keeps {k} {s : State} (track) (hk : Keeps k s.steady) : KeepsNext k (execStepSearch track s) := by
  simp [execStepSearch, hk]

@[simp] theorem execStepEnd_keeps {k} {s : State} (track) (hk : Keeps k s.steady) : KeepsNext k (execStepEnd track s) := by
  unfold execStepEnd
  split <;> simp [hk]

@[simp] theorem execSearchSlotEnd_keeps {k} {s : State} (track) (hk : Keeps k s.steady) : KeepsNext k (execSearchSlotEnd track s) := by
  simp [execSearchSlotEnd, hk]

@[simp] theorem execSchedWaleLenWrite_keeps {k} {s : State} (v) (hk : Keeps k s.steady) : KeepsNext k (execSchedWaleLenWrite v s) := by
  simp [execSchedWaleLenWrite, hk]

@[simp] theorem execSchedAdmitMaxWrite_keeps {k} {s : State} (v) (hk : Keeps k s.steady) : KeepsNext k (execSchedAdmitMaxWrite v s) := by
  simp [execSchedAdmitMaxWrite, hk]

@[simp] theorem execReply_keeps {k} {s : State} (p) (hk : Keeps k s.steady) : KeepsNext k (execReply p s) := by
  simp [execReply, hk]

@[simp] theorem execFenceDone_keeps {k} {s : State} (p) (hk : Keeps k s.steady) : KeepsNext k (execFenceDone p s) := by
  simp [execFenceDone, hk]

@[simp] theorem execDelivered_keeps {k} {s : State} (src entries) (hk : Keeps k s.steady) : KeepsNext k (execDelivered src entries s) := by
  simp [execDelivered, hk]

@[simp] theorem execDeliveredTimer_keeps {k} {s : State} (src) (hk : Keeps k s.steady) : KeepsNext k (execDeliveredTimer src s) := by
  simp [execDeliveredTimer, hk]

@[simp] theorem execResendTimer_keeps {k} {s : State} (flow seq) (hk : Keeps k s.steady) : KeepsNext k (execResendTimer flow seq s) := by
  simp [execResendTimer, hk]

@[simp] theorem execDeadTimeout_keeps {k} {s : State} (tag) (hk : Keeps k s.steady) : KeepsNext k (execDeadTimeout tag s) := by
  simp [execDeadTimeout, hk]

@[simp] theorem execPostedLostTimeout_keeps {k} {s : State} (flow seq) (hk : Keeps k s.steady) : KeepsNext k (execPostedLostTimeout flow seq s) := by
  simp [execPostedLostTimeout, hk]

@[simp] theorem execProbeTimer_keeps {k} {s : State} (dst) (hk : Keeps k s.steady) : KeepsNext k (execProbeTimer dst s) := by
  simp [execProbeTimer, hk]

@[simp] theorem execProbe_keeps {k} {s : State} (p) (hk : Keeps k s.steady) : KeepsNext k (execProbe p s) := by
  simp [execProbe, hk]

@[simp] theorem execProbeReply_keeps {k} {s : State} (src) (hk : Keeps k s.steady) : KeepsNext k (execProbeReply src s) := by
  simp [execProbeReply, hk]

@[simp] theorem execWaking_keeps {k} {s : State} (_src tag) (hk : Keeps k s.steady) : KeepsNext k (execWaking _src tag s) := by
  simp [execWaking, hk]

@[simp] theorem execQueryRelay_keeps {k} {s : State} (m) (hk : Keeps k s.steady) : KeepsNext k (execQueryRelay m s) := by
  simp [execQueryRelay, hk]

@[simp] theorem execQueryPart_keeps {k} {s : State} (m shardSlot) (hk : Keeps k s.steady) : KeepsNext k (execQueryPart m shardSlot s) := by
  simp [execQueryPart, hk]

@[simp] theorem execPartAck_keeps {k} {s : State} (q shard) (hk : Keeps k s.steady) : KeepsNext k (execPartAck q shard s) := by
  simp [execPartAck, hk]

@[simp] theorem execPartProgress_keeps {k} {s : State} (q shard) (hk : Keeps k s.steady) : KeepsNext k (execPartProgress q shard s) := by
  simp [execPartProgress, hk]

@[simp] theorem execPartProgressTimer_keeps {k} {s : State} (part) (hk : Keeps k s.steady) : KeepsNext k (execPartProgressTimer part s) := by
  unfold execPartProgressTimer
  split <;> simp [hk]

@[simp] theorem execPartSilenceTimeout_keeps {k} {s : State} (q shard) (hk : Keeps k s.steady) : KeepsNext k (execPartSilenceTimeout q shard s) :=
  keepsNext_next.2 (State.finish_keeps (State.onShard_keeps _ _ (fun _ _ => State.shardDead_keeps _ _ _ _ hk) hk))

@[simp] theorem execPartResendTimer_keeps {k} {s : State} (q shard) (hk : Keeps k s.steady) : KeepsNext k (execPartResendTimer q shard s) := by
  simp [execPartResendTimer, hk]

@[simp] theorem execPartCancel_keeps {k} {s : State} (part) (hk : Keeps k s.steady) : KeepsNext k (execPartCancel part s) := by
  unfold execPartCancel
  split <;> simp [hk]

@[simp] theorem execPartAnswer_keeps {k} {s : State} (q shard x2) (hk : Keeps k s.steady) : KeepsNext k (execPartAnswer q shard x2 s) := by
  simp [execPartAnswer, hk]

@[simp] theorem execAnswerAck_keeps {k} {s : State} (part _dead) (hk : Keeps k s.steady) : KeepsNext k (execAnswerAck part _dead s) := by
  unfold execAnswerAck
  split <;> simp [hk]

@[simp] theorem execPartMemwaitEnd_keeps {k} {s : State} (part poison) (hk : Keeps k s.steady) : KeepsNext k (execPartMemwaitEnd part poison s) := by
  simp [execPartMemwaitEnd, hk]

@[simp] theorem execRerankComplete_keeps {k} {s : State} (part) (hk : Keeps k s.steady) : KeepsNext k (execRerankComplete part s) := by
  simp [execRerankComplete, hk]

@[simp] theorem execQueryRecordWrite_keeps {k} {s : State} (q) (hk : Keeps k s.steady) : KeepsNext k (execQueryRecordWrite q s) := by
  simp [execQueryRecordWrite, hk]

@[simp] theorem execQueryDeadline_keeps {k} {s : State} (q) (hk : Keeps k s.steady) : KeepsNext k (execQueryDeadline q s) := by
  unfold execQueryDeadline
  split <;> simp [hk]

@[simp] theorem execSweepBlockLoad_keeps {k} {s : State} (array shardSlot partition firstRow rows dev refBad) (hk : Keeps k s.steady) : KeepsNext k (execSweepBlockLoad array shardSlot partition firstRow rows dev refBad s) := by
  simp [execSweepBlockLoad, hk]

@[simp] theorem execArrayCalibrate_keeps {k} {s : State} (array) (hk : Keeps k s.steady) : KeepsNext k (execArrayCalibrate array s) := by
  simp [execArrayCalibrate, hk]

@[simp] theorem execArrayTempStep_keeps {k} {s : State} (array temp) (hk : Keeps k s.steady) : KeepsNext k (execArrayTempStep array temp s) := by
  simp [execArrayTempStep, hk]

@[simp] theorem execArrayCalibrationEnd_keeps {k} {s : State} (array e) (hk : Keeps k s.steady) : KeepsNext k (execArrayCalibrationEnd array e s) := by
  simp [execArrayCalibrationEnd, hk]

@[simp] theorem execShardLoad_keeps {k} {s : State} (w) (hk : Keeps k s.steady) : KeepsNext k (execShardLoad w s) := by
  simp [execShardLoad, hk]

@[simp] theorem execShardUnload_keeps {k} {s : State} (w) (hk : Keeps k s.steady) : KeepsNext k (execShardUnload w s) := by
  simp [execShardUnload, hk]

@[simp] theorem execShardReplace_keeps {k} {s : State} (w) (hk : Keeps k s.steady) : KeepsNext k (execShardReplace w s) := by
  simp [execShardReplace, hk]

@[simp] theorem execFlitCtrl_keeps {k} {s : State} (port check ackSeq nak credits) (hk : Keeps k s.steady) : KeepsNext k (execFlitCtrl port check ackSeq nak credits s) :=
  keepsNext_withUnit (keepsNext_next.2 (State.flitIn_keeps _ _ (fun _ hu => by simp [hu]) hk))

@[simp] theorem execCtrlFillTimer_keeps {k} {s : State} (port) (hk : Keeps k s.steady) : KeepsNext k (execCtrlFillTimer port s) := by
  simp [execCtrlFillTimer, hk]

@[simp] theorem execKeepaliveEntry_keeps {k} {s : State} (port) (hk : Keeps k s.steady) : KeepsNext k (execKeepaliveEntry port s) := by
  simp [execKeepaliveEntry, hk]

@[simp] theorem execKeepaliveBurstTimer_keeps {k} {s : State} (port) (hk : Keeps k s.steady) : KeepsNext k (execKeepaliveBurstTimer port s) := by
  simp [execKeepaliveBurstTimer, hk]

@[simp] theorem execKeepaliveExit_keeps {k} {s : State} (port) (hk : Keeps k s.steady) : KeepsNext k (execKeepaliveExit port s) := by
  simp [execKeepaliveExit, hk]

@[simp] theorem execHello_keeps {k} {s : State} (port nonce) (hk : Keeps k s.steady) : KeepsNext k (execHello port nonce s) :=
  keepsNext_withUnit (keepsNext_next.2 (State.authIn_keeps _ (fun _ hu => by simp [hu]) hk))

@[simp] theorem execCert_keeps {k} {s : State} (port c) (hk : Keeps k s.steady) : KeepsNext k (execCert port c s) :=
  keepsNext_withUnit (keepsNext_next.2 (State.authIn_keeps _ (fun _ hu => by simp [hu]) hk))

@[simp] theorem execProof_keeps {k} {s : State} (port sigOk share) (hk : Keeps k s.steady) : KeepsNext k (execProof port sigOk share s) :=
  keepsNext_withUnit (keepsNext_next.2 (State.authIn_keeps _ (fun _ hu => by simp [hu]) hk))

@[simp] theorem execAuthDone_keeps {k} {s : State} (port hmacOk) (hk : Keeps k s.steady) : KeepsNext k (execAuthDone port hmacOk s) :=
  keepsNext_withUnit (keepsNext_next.2 (State.authIn_keeps _ (fun _ hu => by simp [hu]) hk))

@[simp] theorem execAuthFail_keeps {k} {s : State} (port) (hk : Keeps k s.steady) : KeepsNext k (execAuthFail port s) :=
  keepsNext_withUnit (keepsNext_next.2 (State.authIn_keeps _ (fun _ hu => by simp [hu]) hk))

@[simp] theorem execAuthTimeout_keeps {k} {s : State} (port) (hk : Keeps k s.steady) : KeepsNext k (execAuthTimeout port s) := by
  simp [execAuthTimeout, hk]

@[simp] theorem execQuarantineHoldoffExpiry_keeps {k} {s : State} (port) (hk : Keeps k s.steady) : KeepsNext k (execQuarantineHoldoffExpiry port s) := by
  simp [execQuarantineHoldoffExpiry, hk]

@[simp] theorem execRekey_keeps {k} {s : State} (port epoch) (hk : Keeps k s.steady) : KeepsNext k (execRekey port epoch s) :=
  keepsNext_withUnit (keepsNext_next.2 (State.authIn_keeps _ (fun _ hu => Keeps.ite_of (by simp [hu]) hu) hk))

@[simp] theorem execRekeyThreshold_keeps {k} {s : State} (port) (hk : Keeps k s.steady) : KeepsNext k (execRekeyThreshold port s) := by
  simp [execRekeyThreshold, hk]

@[simp] theorem execLinkSignalDetect_keeps {k} {s : State} (port lanes) (hk : Keeps k s.steady) : KeepsNext k (execLinkSignalDetect port lanes s) := by
  simp [execLinkSignalDetect, hk]

@[simp] theorem execLinkTrainStepDone_keeps {k} {s : State} (port lanes sameSession) (hk : Keeps k s.steady) : KeepsNext k (execLinkTrainStepDone port lanes sameSession s) := by
  simp [execLinkTrainStepDone, hk]

@[simp] theorem execLinkTrainTimeout_keeps {k} {s : State} (port) (hk : Keeps k s.steady) : KeepsNext k (execLinkTrainTimeout port s) := by
  simp [execLinkTrainTimeout, hk]

@[simp] theorem execLnkEnableWrite_keeps {k} {s : State} (port v) (hk : Keeps k s.steady) : KeepsNext k (execLnkEnableWrite port v s) := by
  simp [execLnkEnableWrite, hk]

@[simp] theorem execLinkRetrain_keeps {k} {s : State} (port) (hk : Keeps k s.steady) : KeepsNext k (execLinkRetrain port s) := by
  simp [execLinkRetrain, hk]

@[simp] theorem execLinkReauth_keeps {k} {s : State} (port) (hk : Keeps k s.steady) : KeepsNext k (execLinkReauth port s) := by
  simp [execLinkReauth, hk]

@[simp] theorem execPortDown_keeps {k} {s : State} (port cut) (hk : Keeps k s.steady) : KeepsNext k (execPortDown port cut s) := by
  simp [execPortDown, hk]

@[simp] theorem execStartTurn_keeps {k} {s : State} (tenant slot line) (hk : Keeps k s.steady) : KeepsNext k (execStartTurn tenant slot line s) := by
  simp [execStartTurn, hk]

@[simp] theorem execCancel_keeps {k} {s : State} (tenant slot line) (hk : Keeps k s.steady) : KeepsNext k (execCancel tenant slot line s) := by
  simp [execCancel, hk]

@[simp] theorem execDrop_keeps {k} {s : State} (tenant slot line) (hk : Keeps k s.steady) : KeepsNext k (execDrop tenant slot line s) := by
  simp [execDrop, hk]

@[simp] theorem execRing_keeps {k} {s : State} (tenant slot line) (hk : Keeps k s.steady) : KeepsNext k (execRing tenant slot line s) := by
  simp [execRing, hk]

@[simp] theorem execQuery_keeps {k} {s : State} (tenant slot line readDead) (hk : Keeps k s.steady) : KeepsNext k (execQuery tenant slot line readDead s) := by
  simp [execQuery, hk]

@[simp] theorem execQcancel_keeps {k} {s : State} (tenant slot line) (hk : Keeps k s.steady) : KeepsNext k (execQcancel tenant slot line s) := by
  simp [execQcancel, hk]

@[simp] theorem execControlLineWrite_keeps {k} {s : State} (tenant line) (hk : Keeps k s.steady) : KeepsNext k (execControlLineWrite tenant line s) := by
  simp [execControlLineWrite, hk]

@[simp] theorem execAperturePartialWrite_keeps {k} {s : State} (tenant slot) (hk : Keeps k s.steady) : KeepsNext k (execAperturePartialWrite tenant slot s) := by
  simp [execAperturePartialWrite, hk]

@[simp] theorem execApertureRead_keeps {k} {s : State} (tenant slot) (hk : Keeps k s.steady) : KeepsNext k (execApertureRead tenant slot s) := by
  simp [execApertureRead, hk]

@[simp] theorem execAttentionLapse_keeps {k} {s : State} (tenant) (hk : Keeps k s.steady) : KeepsNext k (execAttentionLapse tenant s) := by
  simp [execAttentionLapse, hk]

@[simp] theorem execReserve_keeps {k} {s : State} (m) (hk : Keeps k s.steady) : KeepsNext k (execReserve m s) := by
  simp [execReserve, hk]

@[simp] theorem execGrant_keeps {k} {s : State} (peer tenant request code) (hk : Keeps k s.steady) : KeepsNext k (execGrant peer tenant request code s) := by
  simp [execGrant, hk]

@[simp] theorem execCommit_keeps {k} {s : State} (owner tenant request tokens) (hk : Keeps k s.steady) : KeepsNext k (execCommit owner tenant request tokens s) := by
  simp [execCommit, hk]

@[simp] theorem execReserveCancel_keeps {k} {s : State} (owner tenant request) (hk : Keeps k s.steady) : KeepsNext k (execReserveCancel owner tenant request s) := by
  simp [execReserveCancel, hk]

@[simp] theorem execTurnDeadline_keeps {k} {s : State} (tenant request) (hk : Keeps k s.steady) : KeepsNext k (execTurnDeadline tenant request s) := by
  simp [execTurnDeadline, hk]

@[simp] theorem execCompletionRecordWrite_keeps {k} {s : State} (ctx ringDead) (hk : Keeps k s.steady) : KeepsNext k (execCompletionRecordWrite ctx ringDead s) := by
  simp [execCompletionRecordWrite, hk]

@[simp] theorem execClearDegraded_keeps {k} {s : State} (w) (hk : Keeps k s.steady) : KeepsNext k (execClearDegraded w s) := by
  simp [execClearDegraded, hk]

@[simp] theorem execBeatTimer_keeps {k} {s : State} (hk : Keeps k s.steady) : KeepsNext k (execBeatTimer s) := by
  simp [execBeatTimer, hk]

@[simp] theorem execBeat_keeps {k} {s : State} (src forDev) (hk : Keeps k s.steady) : KeepsNext k (execBeat src forDev s) := by
  simp [execBeat, hk]

@[simp] theorem execBeatAck_keeps {k} {s : State} (keeper) (hk : Keeps k s.steady) : KeepsNext k (execBeatAck keeper s) := by
  simp [execBeatAck, hk]

@[simp] theorem execIsolateTimeout_keeps {k} {s : State} (hk : Keeps k s.steady) : KeepsNext k (execIsolateTimeout s) := by
  simp [execIsolateTimeout, hk]

@[simp] theorem execVoteTimer_keeps {k} {s : State} (dev) (hk : Keeps k s.steady) : KeepsNext k (execVoteTimer dev s) := by
  simp [execVoteTimer, hk]

@[simp] theorem execProposeCreate_keeps {k} {s : State} (src r) (hk : Keeps k s.steady) : KeepsNext k (execProposeCreate src r s) := by
  simp [execProposeCreate, hk]

@[simp] theorem execProposeOffer_keeps {k} {s : State} (src r) (hk : Keeps k s.steady) : KeepsNext k (execProposeOffer src r s) := by
  simp [execProposeOffer, hk]

@[simp] theorem execProposeAccept_keeps {k} {s : State} (src r) (hk : Keeps k s.steady) : KeepsNext k (execProposeAccept src r s) := by
  simp [execProposeAccept, hk]

@[simp] theorem execProposeWithdraw_keeps {k} {s : State} (src r) (hk : Keeps k s.steady) : KeepsNext k (execProposeWithdraw src r s) := by
  simp [execProposeWithdraw, hk]

@[simp] theorem execProposeSeize_keeps {k} {s : State} (src r) (hk : Keeps k s.steady) : KeepsNext k (execProposeSeize src r s) := by
  simp [execProposeSeize, hk]

@[simp] theorem execProposeReturn_keeps {k} {s : State} (src r) (hk : Keeps k s.steady) : KeepsNext k (execProposeReturn src r s) := by
  simp [execProposeReturn, hk]

@[simp] theorem execProposeFate_keeps {k} {s : State} (src r) (hk : Keeps k s.steady) : KeepsNext k (execProposeFate src r s) := by
  simp [execProposeFate, hk]

@[simp] theorem execVote_keeps {k} {s : State} (keeper r) (hk : Keeps k s.steady) : KeepsNext k (execVote keeper r s) := by
  simp [execVote, hk]

@[simp] theorem execStored_keeps {k} {s : State} (keeper r) (hk : Keeps k s.steady) : KeepsNext k (execStored keeper r s) := by
  simp [execStored, hk]

@[simp] theorem execKeeperCopyComplete_keeps {k} {s : State} (hk : Keeps k s.steady) : KeepsNext k (execKeeperCopyComplete s) := by
  simp [execKeeperCopyComplete, hk]

@[simp] theorem execFailoverReplayStart_keeps {k} {s : State} (hk : Keeps k s.steady) : KeepsNext k (execFailoverReplayStart s) := by
  simp [execFailoverReplayStart, hk]

@[simp] theorem execNotice_keeps {k} {s : State} (r) (hk : Keeps k s.steady) : KeepsNext k (execNotice r s) := by
  simp [execNotice, hk]

@[simp] theorem execMapQuery_keeps {k} {s : State} (src kind key) (hk : Keeps k s.steady) : KeepsNext k (execMapQuery src kind key s) := by
  simp [execMapQuery, hk]

@[simp] theorem execAnswer_keeps {k} {s : State} (r) (hk : Keeps k s.steady) : KeepsNext k (execAnswer r s) := by
  simp [execAnswer, hk]

@[simp] theorem execChildSilenceTimeout_keeps {k} {s : State} (child) (hk : Keeps k s.steady) : KeepsNext k (execChildSilenceTimeout child s) := by
  simp [execChildSilenceTimeout, hk]

@[simp] theorem execSchedFail_keeps {k} {s : State} (m) (hk : Keeps k s.steady) : KeepsNext k (execSchedFail m s) := by
  simp [execSchedFail, hk]

@[simp] theorem execOfferExpiry_keeps {k} {s : State} (kind key) (hk : Keeps k s.steady) : KeepsNext k (execOfferExpiry kind key s) := by
  simp [execOfferExpiry, hk]

@[simp] theorem execHandoverStateComplete_keeps {k} {s : State} (kind key) (hk : Keeps k s.steady) : KeepsNext k (execHandoverStateComplete kind key s) := by
  simp [execHandoverStateComplete, hk]

@[simp] theorem execHandoverRelease_keeps {k} {s : State} (kind key) (hk : Keeps k s.steady) : KeepsNext k (execHandoverRelease kind key s) := by
  simp [execHandoverRelease, hk]

@[simp] theorem execMirrorTransfer_keeps {k} {s : State} (src epoch item) (hk : Keeps k s.steady) : KeepsNext k (execMirrorTransfer src epoch item s) := by
  simp [execMirrorTransfer, hk]

@[simp] theorem execRehearsal_keeps {k} {s : State} (hk : Keeps k s.steady) : KeepsNext k (execRehearsal s) := by
  simp [execRehearsal, hk]

@[simp] theorem execRehearsalDeviceStop_keeps {k} {s : State} (hk : Keeps k s.steady) : KeepsNext k (execRehearsalDeviceStop s) := by
  simp [execRehearsalDeviceStop, hk]

@[simp] theorem execMapLookup_keeps {k} {s : State} (w) (hk : Keeps k s.steady) : KeepsNext k (execMapLookup w s) := by
  simp [execMapLookup, hk]

@[simp] theorem execMapOffer_keeps {k} {s : State} (w) (hk : Keeps k s.steady) : KeepsNext k (execMapOffer w s) := by
  simp [execMapOffer, hk]

@[simp] theorem execMapWithdraw_keeps {k} {s : State} (w) (hk : Keeps k s.steady) : KeepsNext k (execMapWithdraw w s) := by
  simp [execMapWithdraw, hk]

@[simp] theorem execDeclare_keeps {k} {s : State} (w) (hk : Keeps k s.steady) : KeepsNext k (execDeclare w s) := by
  simp [execDeclare, hk]

@[simp] theorem execRepair_keeps {k} {s : State} (w) (hk : Keeps k s.steady) : KeepsNext k (execRepair w s) := by
  simp [execRepair, hk]

@[simp] theorem execInject_keeps {k} {s : State} (w) (hk : Keeps k s.steady) : KeepsNext k (execInject w s) := by
  simp [execInject, hk]

@[simp] theorem execRepairSelfTestEnd_keeps {k} {s : State} (pass) (hk : Keeps k s.steady) : KeepsNext k (execRepairSelfTestEnd pass s) := by
  simp [execRepairSelfTestEnd, hk]

@[simp] theorem execRepairStateCurrent_keeps {k} {s : State} (lost) (hk : Keeps k s.steady) : KeepsNext k (execRepairStateCurrent lost s) := by
  simp [execRepairStateCurrent, hk]

@[simp] theorem execRepairTimeout_keeps {k} {s : State} (hk : Keeps k s.steady) : KeepsNext k (execRepairTimeout s) := by
  simp [execRepairTimeout, hk]

@[simp] theorem execDrivesReady_keeps {k} {s : State} (ds) (hk : Keeps k s.steady) : KeepsNext k (execDrivesReady ds s) := by
  simp [execDrivesReady, hk]

@[simp] theorem execDriveReadyTimeout_keeps {k} {s : State} (drive) (hk : Keeps k s.steady) : KeepsNext k (execDriveReadyTimeout drive s) := by
  simp [execDriveReadyTimeout, hk]

@[simp] theorem execCatalogueCompact_keeps {k} {s : State} (drive) (hk : Keeps k s.steady) : KeepsNext k (execCatalogueCompact drive s) := by
  unfold execCatalogueCompact
  split <;> simp [hk]

@[simp] theorem execColdStart_keeps {k} {s : State} (f) (hk : Keeps k s.steady) : KeepsNext k (execColdStart f s) := by
  simp [execColdStart, hk]

@[simp] theorem execWarmStart_keeps {k} {s : State} (f) (hk : Keeps k s.steady) : KeepsNext k (execWarmStart f s) := by
  simp [execWarmStart, hk]

@[simp] theorem execStandLockTimeout_keeps {k} {s : State} (hk : Keeps k s.steady) : KeepsNext k (execStandLockTimeout s) := by
  simp [execStandLockTimeout, hk]

@[simp] theorem execJoinSend_keeps {k} {s : State} (hk : Keeps k s.steady) : KeepsNext k (execJoinSend s) := by
  simp [execJoinSend, hk]

@[simp] theorem execJoin_keeps {k} {s : State} (dev digest crust) (hk : Keeps k s.steady) : KeepsNext k (execJoin dev digest crust s) := by
  simp [execJoin, hk]

@[simp] theorem execJoinAck_keeps {k} {s : State} (wale time) (hk : Keeps k s.steady) : KeepsNext k (execJoinAck wale time s) := by
  simp [execJoinAck, hk]

@[simp] theorem execRefuse_keeps {k} {s : State} (hk : Keeps k s.steady) : KeepsNext k (execRefuse s) := by
  simp [execRefuse, hk]

@[simp] theorem execFormBoundExpiry_keeps {k} {s : State} (hk : Keeps k s.steady) : KeepsNext k (execFormBoundExpiry s) := by
  simp [execFormBoundExpiry, hk]

@[simp] theorem execReloadReady_keeps {k} {s : State} (dev partialId) (hk : Keeps k s.steady) : KeepsNext k (execReloadReady dev partialId s) := by
  simp [execReloadReady, hk]

@[simp] theorem execReloadGo_keeps {k} {s : State} (partialId wale) (hk : Keeps k s.steady) : KeepsNext k (execReloadGo partialId wale s) := by
  unfold execReloadGo
  split <;> simp [hk]

@[simp] theorem execReloadAbandon_keeps {k} {s : State} (partialId) (hk : Keeps k s.steady) : KeepsNext k (execReloadAbandon partialId s) := by
  unfold execReloadAbandon
  split <;> simp [hk]

@[simp] theorem execWriteSlot_keeps {k} {s : State} (w img) (hk : Keeps k s.steady) : KeepsNext k (execWriteSlot w img s) := by
  simp [execWriteSlot, hk]

@[simp] theorem execActivate_keeps {k} {s : State} (w) (hk : Keeps k s.steady) : KeepsNext k (execActivate w s) := by
  simp [execActivate, hk]

@[simp] theorem execRestart_keeps {k} {s : State} (w) (hk : Keeps k s.steady) : KeepsNext k (execRestart w s) := by
  simp [execRestart, hk]

@[simp] theorem execStage_keeps {k} {s : State} (w img) (hk : Keeps k s.steady) : KeepsNext k (execStage w img s) := by
  simp [execStage, hk]

@[simp] theorem execAbandon_keeps {k} {s : State} (w) (hk : Keeps k s.steady) : KeepsNext k (execAbandon w s) := by
  simp [execAbandon, hk]

@[simp] theorem execInputUndervolt_keeps {k} {s : State} (mv) (hk : Keeps k s.steady) : KeepsNext k (execInputUndervolt mv s) := by
  simp [execInputUndervolt, hk]

@[simp] theorem execInputCollapse_keeps {k} {s : State} (mv) (hk : Keeps k s.steady) : KeepsNext k (execInputCollapse mv s) := by
  simp [execInputCollapse, hk]

@[simp] theorem execInputOvervolt_keeps {k} {s : State} (mv) (hk : Keeps k s.steady) : KeepsNext k (execInputOvervolt mv s) := by
  simp [execInputOvervolt, hk]

@[simp] theorem execOvervoltRecovery_keeps {k} {s : State} (mv) (hk : Keeps k s.steady) : KeepsNext k (execOvervoltRecovery mv s) := by
  simp [execOvervoltRecovery, hk]

@[simp] theorem execClusterClockStop_keeps {k} {s : State} (cluster) (hk : Keeps k s.steady) : KeepsNext k (execClusterClockStop cluster s) := by
  simp [execClusterClockStop, hk]

@[simp] theorem execClusterPllStop_keeps {k} {s : State} (cluster) (hk : Keeps k s.steady) : KeepsNext k (execClusterPllStop cluster s) := by
  simp [execClusterPllStop, hk]

@[simp] theorem execClusterClockStart_keeps {k} {s : State} (cluster) (hk : Keeps k s.steady) : KeepsNext k (execClusterClockStart cluster s) := by
  simp [execClusterClockStart, hk]

@[simp] theorem execClusterClockRunning_keeps {k} {s : State} (cluster) (hk : Keeps k s.steady) : KeepsNext k (execClusterClockRunning cluster s) := by
  simp [execClusterClockRunning, hk]

@[simp] theorem execAsleep_keeps {k} {s : State} (dev wale) (hk : Keeps k s.steady) : KeepsNext k (execAsleep dev wale s) := by
  simp [execAsleep, hk]

@[simp] theorem execAwake_keeps {k} {s : State} (dev wale) (hk : Keeps k s.steady) : KeepsNext k (execAwake dev wale s) := by
  simp [execAwake, hk]

@[simp] theorem execSleepQuiet_keeps {k} {s : State} (hk : Keeps k s.steady) : KeepsNext k (execSleepQuiet s) := by
  simp [execSleepQuiet, hk]

@[simp] theorem execSleepQuietTimeout_keeps {k} {s : State} (hk : Keeps k s.steady) : KeepsNext k (execSleepQuietTimeout s) := by
  simp [execSleepQuietTimeout, hk]

@[simp] theorem execSleepWake_keeps {k} {s : State} (cause) (hk : Keeps k s.steady) : KeepsNext k (execSleepWake cause s) := by
  simp [execSleepWake, hk]

@[simp] theorem execWake_keeps {k} {s : State} (dev) (hk : Keeps k s.steady) : KeepsNext k (execWake dev s) := by
  simp [execWake, hk]

@[simp] theorem execWakeSequenceEnd_keeps {k} {s : State} (hk : Keeps k s.steady) : KeepsNext k (execWakeSequenceEnd s) := by
  simp [execWakeSequenceEnd, hk]

@[simp] theorem execWakeTimeout_keeps {k} {s : State} (hk : Keeps k s.steady) : KeepsNext k (execWakeTimeout s) := by
  unfold execWakeTimeout
  split <;> simp [hk]

@[simp] theorem execWakeBoundExpiry_keeps {k} {s : State} (dst tag) (hk : Keeps k s.steady) : KeepsNext k (execWakeBoundExpiry dst tag s) := by
  simp [execWakeBoundExpiry, hk]

@[simp] theorem execSleepWaleTick_keeps {k} {s : State} (hk : Keeps k s.steady) : KeepsNext k (execSleepWaleTick s) := by
  simp [execSleepWaleTick, hk]

@[simp] theorem execPwrSleep_keeps {k} {s : State} (w) (hk : Keeps k s.steady) : KeepsNext k (execPwrSleep w s) := by
  simp [execPwrSleep, hk]

@[simp] theorem execPwrWake_keeps {k} {s : State} (w) (hk : Keeps k s.steady) : KeepsNext k (execPwrWake w s) := by
  simp [execPwrWake, hk]

@[simp] theorem execPwrPolicyWrite_keeps {k} {s : State} (v) (hk : Keeps k s.steady) : KeepsNext k (execPwrPolicyWrite v s) := by
  simp [execPwrPolicyWrite, hk]

@[simp] theorem execPwrWakeBoundWrite_keeps {k} {s : State} (v) (hk : Keeps k s.steady) : KeepsNext k (execPwrWakeBoundWrite v s) := by
  simp [execPwrWakeBoundWrite, hk]

@[simp] theorem execDieFault_keeps {k} {s : State} (kind die) (hk : Keeps k s.steady) : KeepsNext k (execDieFault kind die s) :=
  keepsNext_withUnit (keepsNext_next.2 (State.finish_keeps (State.dieFault_keeps _ _ hk)))

@[simp] theorem execThermalStage_keeps {k} {s : State} (sensor level temp) (hk : Keeps k s.steady) : KeepsNext k (execThermalStage sensor level temp s) :=
  keepsNext_withUnit (keepsNext_next.2 (State.finish_keeps (State.thermal_keeps _ _ _ hk)))

@[simp] theorem execThermalStageClear_keeps {k} {s : State} (temps) (hk : Keeps k s.steady) : KeepsNext k (execThermalStageClear temps s) := by
  simp [execThermalStageClear, hk]

@[simp] theorem execThermalCooldownRestart_keeps {k} {s : State} (hk : Keeps k s.steady) : KeepsNext k (execThermalCooldownRestart s) := by
  simp [execThermalCooldownRestart, hk]

@[simp] theorem execThermNAssert_keeps {k} {s : State} (hk : Keeps k s.steady) : KeepsNext k (execThermNAssert s) := by
  simp [execThermNAssert, hk]

@[simp] theorem execWakeNAssert_keeps {k} {s : State} (hk : Keeps k s.steady) : KeepsNext k (execWakeNAssert s) := by
  simp [execWakeNAssert, hk]

@[simp] theorem execPerstNAssert_keeps {k} {s : State} (hk : Keeps k s.steady) : KeepsNext k (execPerstNAssert s) := by
  simp [execPerstNAssert, hk]

@[simp] theorem execPerstNRelease_keeps {k} {s : State} (hk : Keeps k s.steady) : KeepsNext k (execPerstNRelease s) := by
  simp [execPerstNRelease, hk]

@[simp] theorem execWakeNRelease_keeps {k} {s : State} (hk : Keeps k s.steady) : KeepsNext k (execWakeNRelease s) := by
  simp [execWakeNRelease, hk]

@[simp] theorem execThermNRelease_keeps {k} {s : State} (hk : Keeps k s.steady) : KeepsNext k (execThermNRelease s) := by
  simp [execThermNRelease, hk]

@[simp] theorem execPinChatterQuiet_keeps {k} {s : State} (pin level) (hk : Keeps k s.steady) : KeepsNext k (execPinChatterQuiet pin level s) := by
  simp [execPinChatterQuiet, hk]

@[simp] theorem execPinHeld_keeps {k} {s : State} (pin) (hk : Keeps k s.steady) : KeepsNext k (execPinHeld pin s) := by
  simp [execPinHeld, hk]

@[simp] theorem execPldmBase_keeps {k} {s : State} (t command) (hk : Keeps k s.steady) : KeepsNext k (execPldmBase t command s) := by
  simp [execPldmBase, hk]

@[simp] theorem execPldmFileRead_keeps {k} {s : State} (t offset length) (hk : Keeps k s.steady) : KeepsNext k (execPldmFileRead t offset length s) := by
  simp [execPldmFileRead, hk]

@[simp] theorem execPldmFwTransfer_keeps {k} {s : State} (t offset bytes last) (hk : Keeps k s.steady) : KeepsNext k (execPldmFwTransfer t offset bytes last s) := by
  simp [execPldmFwTransfer, hk]

@[simp] theorem execActivateFirmware_keeps {k} {s : State} (t) (hk : Keeps k s.steady) : KeepsNext k (execActivateFirmware t s) :=
  keepsNext_next.2 (State.updateRequest_keeps _ (fun _ hu => by split <;> simp [hu]) hk)

@[simp] theorem execMgtWindow_keeps {k} {s : State} (demandPercent) (hk : Keeps k s.steady) : KeepsNext k (execMgtWindow demandPercent s) := by
  simp [execMgtWindow, hk]

@[simp] theorem execMgtHeartbeatTick_keeps {k} {s : State} (hk : Keeps k s.steady) : KeepsNext k (execMgtHeartbeatTick s) := by
  simp [execMgtHeartbeatTick, hk]

@[simp] theorem execMpStallWatchdog_keeps {k} {s : State} (hk : Keeps k s.steady) : KeepsNext k (execMpStallWatchdog s) := by
  simp [execMpStallWatchdog, hk]

@[simp] theorem execMpRestart_keeps {k} {s : State} (hk : Keeps k s.steady) : KeepsNext k (execMpRestart s) := by
  simp [execMpRestart, hk]

@[simp] theorem execMgtFaultAckWrite_keeps {k} {s : State} (v) (hk : Keeps k s.steady) : KeepsNext k (execMgtFaultAckWrite v s) := by
  simp [execMgtFaultAckWrite, hk]

@[simp] theorem execTelSnapshot_keeps {k} {s : State} (hk : Keeps k s.steady) : KeepsNext k (execTelSnapshot s) := by
  simp [execTelSnapshot, hk]

@[simp] theorem execTelCtlWrite_keeps {k} {s : State} (v) (hk : Keeps k s.steady) : KeepsNext k (execTelCtlWrite v s) := by
  simp [execTelCtlWrite, hk]

@[simp] theorem execHostLinkDown_keeps {k} {s : State} (hk : Keeps k s.steady) : KeepsNext k (execHostLinkDown s) := by
  simp [execHostLinkDown, hk]

@[simp] theorem execHostLinkTrained_keeps {k} {s : State} (width pbr) (hk : Keeps k s.steady) : KeepsNext k (execHostLinkTrained width pbr s) := by
  simp [execHostLinkTrained, hk]

@[simp] theorem execEndpointIdAssignment_keeps {k} {s : State} (eid) (hk : Keeps k s.steady) : KeepsNext k (execEndpointIdAssignment eid s) := by
  simp [execEndpointIdAssignment, hk]

@[simp] theorem execScanCrc64_keeps {k} {s : State} (u w) (hk : Keeps k s.steady) : KeepsNext k (execScanCrc64 u w s) :=
  keepsNext_withUnit (keepsNext_next.2 (State.finish_keeps (State.scanCommand_keeps _ _ hk)))

@[simp] theorem execScanCrc32c_keeps {k} {s : State} (u w) (hk : Keeps k s.steady) : KeepsNext k (execScanCrc32c u w s) :=
  keepsNext_withUnit (keepsNext_next.2 (State.finish_keeps (State.scanCommand_keeps _ _ hk)))

@[simp] theorem execScanJobEnd_keeps {k} {s : State} (u) (hk : Keeps k s.steady) : KeepsNext k (execScanJobEnd u s) := by
  simp [execScanJobEnd, hk]

@[simp] theorem execGetVersion_keeps {k} {s : State} (t) (hk : Keeps k s.steady) : KeepsNext k (execGetVersion t s) := by
  simp [execGetVersion, hk]

@[simp] theorem execGetCapabilities_keeps {k} {s : State} (t) (hk : Keeps k s.steady) : KeepsNext k (execGetCapabilities t s) :=
  keepsNext_next.2 (State.mgmtRequest_keeps _ _ (fun _ hu => by split <;> simp [hu]) hk)

@[simp] theorem execNegotiateAlgorithms_keeps {k} {s : State} (t) (hk : Keeps k s.steady) : KeepsNext k (execNegotiateAlgorithms t s) :=
  keepsNext_next.2 (State.mgmtRequest_keeps _ _ (fun _ hu => by split <;> simp [hu]) hk)

@[simp] theorem execGetDigests_keeps {k} {s : State} (t) (hk : Keeps k s.steady) : KeepsNext k (execGetDigests t s) := by
  simp [execGetDigests, hk]

@[simp] theorem execGetCertificate_keeps {k} {s : State} (t slot offset length) (hk : Keeps k s.steady) : KeepsNext k (execGetCertificate t slot offset length s) :=
  keepsNext_next.2 (State.spdmAfter_keeps _ (fun _ hu => by split <;> simp [hu]) hk)

@[simp] theorem execChallenge_keeps {k} {s : State} (t slot nonce) (hk : Keeps k s.steady) : KeepsNext k (execChallenge t slot nonce s) :=
  keepsNext_next.2 (State.spdmAfter_keeps _ (fun _ hu => by split <;> simp [hu]) hk)

@[simp] theorem execGetMeasurements_keeps {k} {s : State} (t index _nonce) (hk : Keeps k s.steady) : KeepsNext k (execGetMeasurements t index _nonce s) := by
  unfold execGetMeasurements
  split
  · simp [hk]
  · split
    · simp [hk]
    · split <;> simp [hk]

@[simp] theorem execKeyExchange_keeps {k} {s : State} (t share) (hk : Keeps k s.steady) : KeepsNext k (execKeyExchange t share s) :=
  keepsNext_next.2 (State.spdmAfter_keeps _ (fun _ hu => by split <;> simp [hu]) hk)

@[simp] theorem execFinish_keeps {k} {s : State} (t session ok) (hk : Keeps k s.steady) : KeepsNext k (execFinish t session ok s) := by
  refine keepsNext_next.2 (State.spdmAfter_keeps _ (fun u hu => ?_) hk)
  split
  · exact hu
  · split
    · exact hu
    · split <;> simp [hu]

@[simp] theorem execKeyUpdate_keeps {k} {s : State} (t session) (hk : Keeps k s.steady) : KeepsNext k (execKeyUpdate t session s) := by
  simp [execKeyUpdate, hk]

@[simp] theorem execHeartbeat_keeps {k} {s : State} (t session) (hk : Keeps k s.steady) : KeepsNext k (execHeartbeat t session s) := by
  simp [execHeartbeat, hk]

@[simp] theorem execEndSession_keeps {k} {s : State} (t session) (hk : Keeps k s.steady) : KeepsNext k (execEndSession t session s) := by
  simp [execEndSession, hk]

@[simp] theorem execGetCsr_keeps {k} {s : State} (t session) (hk : Keeps k s.steady) : KeepsNext k (execGetCsr t session s) := by
  simp [execGetCsr, hk]

@[simp] theorem execSetCertificate_keeps {k} {s : State} (t session slot c rpOk) (hk : Keeps k s.steady) : KeepsNext k (execSetCertificate t session slot c rpOk s) := by
  simp [execSetCertificate, hk]

@[simp] theorem execRelease_keeps {k} {s : State} (t session sigOk nonce rpOk) (hk : Keeps k s.steady) : KeepsNext k (execRelease t session sigOk nonce rpOk s) := by
  simp [execRelease, hk]

@[simp] theorem execTranslationWalkEnd_keeps {k} {s : State} (die tenant granule ue) (hk : Keeps k s.steady) : KeepsNext k (execTranslationWalkEnd die tenant granule ue s) := by
  refine keepsNext_next.2 ?_
  split
  · exact hk
  · next w _ =>
    extract_lets u v x
    have hu : Keeps k u.steady := hk.congr (by simp [u])
    refine Keeps.ite_of (State.finish_keeps (Keeps.foldl (fun _ m hm => by simp [hm]) _ (hu.congr (by simp [v])))) ?_
    refine State.finish_keeps (Keeps.foldl (fun a m ha => ?_) _ ?_)
    · split
      · simp [ha]
      · exact State.moverResume_keeps _ _ ha
    · exact hu.congr (by unfold x; split <;> simp)

@[simp] theorem execFillRecordEnd_keeps {k} {s : State} (die record outcome) (hk : Keeps k s.steady) : KeepsNext k (execFillRecordEnd die record outcome s) := by
  refine keepsNext_next.2 ?_
  split
  · exact hk
  · refine Keeps.ite_of (State.finish_keeps (Keeps.foldl (fun u m hu => State.fillResume_keeps _ _ _ _ _ hu) _ ?_)) hk
    exact hk.congr (by split <;> simp)

@[simp] theorem execXltInsert_keeps {k} {s : State} (w) (hk : Keeps k s.steady) : KeepsNext k (execXltInsert w s) := by
  simp [execXltInsert, hk]

@[simp] theorem execXltRevoke_keeps {k} {s : State} (w) (hk : Keeps k s.steady) : KeepsNext k (execXltRevoke w s) := by
  simp [execXltRevoke, hk]

@[simp] theorem execXltLookup_keeps {k} {s : State} (w) (hk : Keeps k s.steady) : KeepsNext k (execXltLookup w s) := by
  simp [execXltLookup, hk]

@[simp] theorem execXltSetHome_keeps {k} {s : State} (w) (hk : Keeps k s.steady) : KeepsNext k (execXltSetHome w s) := by
  simp [execXltSetHome, hk]

@[simp] theorem execRevokeDrainEnd_keeps {k} {s : State} (hk : Keeps k s.steady) : KeepsNext k (execRevokeDrainEnd s) := by
  unfold execRevokeDrainEnd
  split <;> simp [hk]

@[simp] theorem execRevokeDrainTimeout_keeps {k} {s : State} (hk : Keeps k s.steady) : KeepsNext k (execRevokeDrainTimeout s) := by
  unfold execRevokeDrainTimeout
  extract_lets u
  have hu : Keeps k u.steady := by
    unfold u
    split
    · simp [hk]
    · exact hk
  refine keepsNext_next.2 (State.finish_keeps (Keeps.foldl (fun v o hv => Keeps.ite_of ?_ hv) _ hu))
  refine hv.congr ?_
  simp

@[simp] theorem execRegisterReadClear_keeps {k} {s : State} (off) (hk : Keeps k s.steady) : KeepsNext k (execRegisterReadClear off s) := by
  simp [execRegisterReadClear, hk]

@[simp] theorem execRegisterWrite_keeps {k} {s : State} (off v) (hk : Keeps k s.steady) : KeepsNext k (execRegisterWrite off v s) := by
  simp [execRegisterWrite, hk]

@[simp] theorem execRegisterPartialWrite_keeps {k} {s : State} (_off _bytes) (hk : Keeps k s.steady) : KeepsNext k (execRegisterPartialWrite _off _bytes s) := by
  simp [execRegisterPartialWrite, hk]

@[simp] theorem execRegRead_keeps {k} {s : State} (t off) (hk : Keeps k s.steady) : KeepsNext k (execRegRead t off s) := by
  simp [execRegRead, hk]

@[simp] theorem execRegWrite_keeps {k} {s : State} (t off v) (hk : Keeps k s.steady) : KeepsNext k (execRegWrite t off v s) :=
  keepsNext_next.2 (State.finish_keeps (State.mgmtRegister_keeps _ (fun _ hu => State.writeRegister_keeps _ _ hu) hk))

@[simp] theorem execPldmSensorRead_keeps {k} {s : State} (t sensor) (hk : Keeps k s.steady) : KeepsNext k (execPldmSensorRead t sensor s) := by
  unfold execPldmSensorRead
  split
  · simp [hk]
  · split
    · simp [hk]
    · simp
      split
      · next h => simp [State.sensor_steady h, hk]
      · exact hk

@[simp] theorem execStoreRead_keeps {k} {s : State} (tenant sa ue) (hk : Keeps k s.steady) : KeepsNext k (execStoreRead tenant sa ue s) := by
  simp [execStoreRead, hk]

@[simp] theorem execStoreWrite_keeps {k} {s : State} (tenant sa data mask ue) (hk : Keeps k s.steady) : KeepsNext k (execStoreWrite tenant sa data mask ue s) := by
  simp [execStoreWrite, hk]

@[simp] theorem execFlitData_keeps {k} {s : State} (port check ps) (hk : Keeps k s.steady) : KeepsNext k (execFlitData port check ps s) :=
  keepsNext_withUnit (keepsNext_next.2 (State.finish_keeps (State.flitIn_keeps _ _
    (fun _ hu => Keeps.foldl (fun _ p hv => State.packetIn_keeps port p hv) _ hu) hk)))

@[simp] theorem execPacketForward_keeps {k} {s : State} (inPort p) (hk : Keeps k s.steady) : KeepsNext k (execPacketForward inPort p s) :=
  keepsNext_withUnit (keepsNext_next.2 (State.finish_keeps (Keeps.ite_of (State.packetIn_keeps inPort p hk) hk)))

@[simp] theorem execLoad_keeps {k} {s : State} (p) (hk : Keeps k s.steady) : KeepsNext k (execLoad p s) := by
  simp [execLoad, hk]

@[simp] theorem execStore_keeps {k} {s : State} (p) (hk : Keeps k s.steady) : KeepsNext k (execStore p s) := by
  simp [execStore, hk]

@[simp] theorem execAtomic_keeps {k} {s : State} (p) (hk : Keeps k s.steady) : KeepsNext k (execAtomic p s) := by
  simp [execAtomic, hk]

@[simp] theorem execFence_keeps {k} {s : State} (p) (hk : Keeps k s.steady) : KeepsNext k (execFence p s) := by
  simp [execFence, hk]

@[simp] theorem execCellPutReceive_keeps {k} {s : State} (p) (hk : Keeps k s.steady) : KeepsNext k (execCellPutReceive p s) := by
  simp [execCellPutReceive, hk]

@[simp] theorem execHostRead_keeps {k} {s : State} (binding dpa ask ue) (hk : Keeps k s.steady) : KeepsNext k (execHostRead binding dpa ask ue s) := by
  unfold execHostRead
  split
  · split <;> simp [hk]
  · simp [hk]

@[simp] theorem execHostWrite_keeps {k} {s : State} (binding dpa data mask) (hk : Keeps k s.steady) : KeepsNext k (execHostWrite binding dpa data mask s) := by
  simp [execHostWrite, hk]

@[simp] theorem execBoundaryAnnounce_keeps {k} {s : State} (hk : Keeps k s.steady) : KeepsNext k (execBoundaryAnnounce s) := by
  simp [execBoundaryAnnounce, hk]

@[simp] theorem execOverrunGraceExpiry_keeps {k} {s : State} (hk : Keeps k s.steady) : KeepsNext k (execOverrunGraceExpiry s) := by
  simp [execOverrunGraceExpiry, hk]

@[simp] theorem execWaleBoundary_keeps {k} {s : State} (fact) (hk : Keeps k s.steady) : KeepsNext k (execWaleBoundary fact s) := by
  simp [execWaleBoundary, hk]

@[simp] theorem execBoundary_keeps {k} {s : State} (m) (hk : Keeps k s.steady) : KeepsNext k (execBoundary m s) := by
  simp [execBoundary, hk]

@[simp] theorem execMma_keeps {k} {s : State} (cell ue) (hk : Keeps k s.steady) : KeepsNext k (execMma cell ue s) := by
  simp [execMma, hk]

@[simp] theorem execScalarInstruction_keeps {k} {s : State} (cell ue) (hk : Keeps k s.steady) : KeepsNext k (execScalarInstruction cell ue s) :=
  State.onScalar_keeps _ (fun _ hu => Keeps.ite_of (by simp [hu]) (by simp [hu])) hk

@[simp] theorem State.vecOp_keeps {k} {s : State} (c opc ue) (hk : Keeps k s.steady) : KeepsNext k (s.vecOp c opc ue) := by
  simp [State.vecOp, hk]

@[simp] theorem execVAdd_keeps {k} {s : State} (cell ue) (hk : Keeps k s.steady) : KeepsNext k (execVAdd cell ue s) := by
  simp [execVAdd, hk]

@[simp] theorem execVSub_keeps {k} {s : State} (cell ue) (hk : Keeps k s.steady) : KeepsNext k (execVSub cell ue s) := by
  simp [execVSub, hk]

@[simp] theorem execVMul_keeps {k} {s : State} (cell ue) (hk : Keeps k s.steady) : KeepsNext k (execVMul cell ue s) := by
  simp [execVMul, hk]

@[simp] theorem execVFma_keeps {k} {s : State} (cell ue) (hk : Keeps k s.steady) : KeepsNext k (execVFma cell ue s) := by
  simp [execVFma, hk]

@[simp] theorem execVMax_keeps {k} {s : State} (cell ue) (hk : Keeps k s.steady) : KeepsNext k (execVMax cell ue s) := by
  simp [execVMax, hk]

@[simp] theorem execVMin_keeps {k} {s : State} (cell ue) (hk : Keeps k s.steady) : KeepsNext k (execVMin cell ue s) := by
  simp [execVMin, hk]

@[simp] theorem execVExp_keeps {k} {s : State} (cell ue) (hk : Keeps k s.steady) : KeepsNext k (execVExp cell ue s) := by
  simp [execVExp, hk]

@[simp] theorem execVLog_keeps {k} {s : State} (cell ue) (hk : Keeps k s.steady) : KeepsNext k (execVLog cell ue s) := by
  simp [execVLog, hk]

@[simp] theorem execVRsqrt_keeps {k} {s : State} (cell ue) (hk : Keeps k s.steady) : KeepsNext k (execVRsqrt cell ue s) := by
  simp [execVRsqrt, hk]

@[simp] theorem execVRcp_keeps {k} {s : State} (cell ue) (hk : Keeps k s.steady) : KeepsNext k (execVRcp cell ue s) := by
  simp [execVRcp, hk]

@[simp] theorem execVCvt_keeps {k} {s : State} (cell ue) (hk : Keeps k s.steady) : KeepsNext k (execVCvt cell ue s) := by
  simp [execVCvt, hk]

@[simp] theorem execVQmx_keeps {k} {s : State} (cell ue) (hk : Keeps k s.steady) : KeepsNext k (execVQmx cell ue s) := by
  simp [execVQmx, hk]

@[simp] theorem execVDqmx_keeps {k} {s : State} (cell ue) (hk : Keeps k s.steady) : KeepsNext k (execVDqmx cell ue s) := by
  simp [execVDqmx, hk]

@[simp] theorem execVRsum_keeps {k} {s : State} (cell ue) (hk : Keeps k s.steady) : KeepsNext k (execVRsum cell ue s) := by
  simp [execVRsum, hk]

@[simp] theorem execVRmax_keeps {k} {s : State} (cell ue) (hk : Keeps k s.steady) : KeepsNext k (execVRmax cell ue s) := by
  simp [execVRmax, hk]

@[simp] theorem execVWadd_keeps {k} {s : State} (cell ue) (hk : Keeps k s.steady) : KeepsNext k (execVWadd cell ue s) := by
  simp [execVWadd, hk]

@[simp] theorem execVArgmax_keeps {k} {s : State} (cell ue) (hk : Keeps k s.steady) : KeepsNext k (execVArgmax cell ue s) := by
  simp [execVArgmax, hk]

end Sys2Proof.Machine
end

section
/-! Settles O59 and O60: what every command keeps, every step keeps. -/
namespace Sys2Proof.Machine

/-- Every command keeps the rest of the queue and the ordering code, and leaves a canonical memory canonical. -/
theorem exec_keeps {k} {s : State} (i : Instr) (hk : Keeps k s.steady) : KeepsNext k (exec i s) := by
  cases i <;> simp [exec, hk]

/-- A step keeps what it was given but for the command at the front of the queue. -/
theorem step_keeps (s : State) : KeepsNext (s.pending.tail, s.code, s.mem) (step s) := by
  unfold step
  split
  · next h => simp [h]
  · next c rest h => exact exec_keeps c (by simp [h])

end Sys2Proof.Machine

namespace Sys2Proof.Machine

/-- Settles O59: no command writes the memory but through operations that keep it canonical. -/
theorem stepKeepsMemoryCanonical : Obligations.StepKeepsMemoryCanonical := by
  intro s t hs h
  obtain ⟨-, -, hmem⟩ := step_keeps s t h
  exact hmem hs

/-- Settles O60: `exec` is given the rest of the queue, and no command touches it or the ordering code. -/
theorem stepTakesOneCommand : Obligations.StepTakesOneCommand := by
  intro s t h
  obtain ⟨hpending, hcode, -⟩ := step_keeps s t h
  exact ⟨hpending, hcode⟩

end Sys2Proof.Machine
end

section

namespace Sys2Proof.Machine

/-- Settles O1: by unfolding `step` and the empty table. -/
theorem stepRunsFront : Obligations.StepRunsFront := by
  refine ⟨fun c q s => ?_, fun s hs => ?_, fun s n w => ⟨?_, ?_⟩⟩
  · simp only [step]
  · simp only [step, hs]
  · rfl
  · simp only [State.withFetchWord, decodeTableWord]

/-- A register that was never written holds its reset value. -/
theorem State.reg_reset (off : Nat) : State.reset.reg off = resetWord State.reset.code off := rfl

/-- Settles O2: the registers of the reset state are its reset words. -/
theorem resetState : Obligations.ResetState := by
  refine ⟨rfl, rfl, Mem.wf_nil, State.reg_reset, ?_, ?_⟩
  · decide
  · decide

/-! ### The end of a command with nothing under way (O3) -/

theorem foldl_eq_self {α σ : Type} {f : σ → α → σ} {s : σ} {l : List α} (h : ∀ a ∈ l, f s a = s) : l.foldl f s = s := by
  induction l with
  | nil => rfl
  | cons a r ih =>
    rw [List.foldl_cons, h a List.mem_cons_self]
    exact ih fun b hb => h b (List.mem_cons_of_mem _ hb)

/-- What every entry and the default have, any entry read has. -/
theorem Table.get_of_forall {α : Type} {P : α → Prop} {d : α} (hd : P d) {t : Table α} (ht : ∀ e ∈ t, P e.2) (k : Nat) :
    P (t.get k d) := by
  induction t with
  | nil => exact hd
  | cons e r ih =>
    rw [Table.get]
    split
    · exact ht e List.mem_cons_self
    · exact ih fun e he => ht e (List.mem_cons_of_mem _ he)

/-- No mover of the cell runs a descriptor, and its engine runs no step and waits for nothing. -/
def Cell.idle (v : Cell) : Prop := (∀ m ∈ v.mv, m.2.run = none) ∧ v.stall = .none ∧ v.track = none

theorem Cell.idle_fresh : Cell.fresh.idle := ⟨fun _ hm => (nomatch hm), rfl, rfl⟩

section Quiet
variable {s : State}

theorem State.idle_cellAt (h : ∀ e ∈ s.cell.cells, e.2.idle) (c : Nat) : (s.cellAt c).idle :=
  Table.get_of_forall Cell.idle_fresh h c

theorem State.run_chan_of_idle (h : ∀ e ∈ s.cell.cells, e.2.idle) (c ch : Nat) : (s.chan c ch).run = none :=
  Table.get_of_forall (P := fun v : Channel => v.run = none) rfl (State.idle_cellAt h c).1 ch

theorem State.settleAll_of_ready (h : s.tier.ready = []) : s.settleAll = s := by
  rw [State.settleAll, State.settle.eq_def]
  split
  · rfl
  · simp only [h]

theorem State.takeReports_of_events (h : s.tier.events = []) : s.takeReports = s := by
  rw [State.takeReports, h, List.foldl_nil, State.onTier, ← h]

theorem State.pumpMovers_of_idle (h : ∀ e ∈ s.cell.cells, e.2.idle) : s.pumpMovers = s :=
  foldl_eq_self fun e _ => foldl_eq_self fun m _ => by simp only [State.run_chan_of_idle h]

theorem State.startReleases_of_idle (h : ∀ e ∈ s.cell.cells, e.2.idle) : s.startReleases = s :=
  foldl_eq_self fun e _ => by simp [(State.idle_cellAt h e.1).2.1]

theorem State.createProgress_of_creating (h : s.hpt.creating = none) : s.createProgress = s := by
  simp only [State.createProgress, h]

theorem State.dcProgress_of_dcOps (h : s.hpt.dcOps = []) : s.dcProgress = s := by
  rw [State.dcProgress, h, List.foldl_nil]

theorem State.rangeProgress_of_ranges (h : s.hpt.ranges = []) : s.rangeProgress = s := by
  simp only [State.rangeProgress, State.onHpt, h, List.filter_nil, List.foldl_nil]
  rw [← h]

theorem State.replyProgress_of_replies (h : s.hpt.replies = []) : s.replyProgress = s := by
  simp only [State.replyProgress, State.onHpt, h, List.filter_nil, List.foldl_nil]
  rw [← h]

theorem State.answerFences_of_fencesIn (h : s.fab.fencesIn = []) : s.answerFences = s := by
  rw [State.answerFences, h, List.foldl_nil]

theorem State.closeSteps_of_runs (h : s.sched.runs = []) : s.closeSteps = s := by
  simp only [State.closeSteps, State.onSched, h, List.map_nil, List.flatMap_nil, List.eraseDups_nil, List.filter_nil, List.foldl_nil]
  rw [← h]

theorem State.stageEnds_of_staged (h : s.weave.staged = none) : s.stageEnds = s := by
  simp only [State.stageEnds, h]

theorem State.unhold_of_holds (h : s.sched.holds = []) (cause : Nat) : s.unhold cause = s := by
  simp only [State.unhold, State.onSched, h, List.filter_nil]
  rw [← h]

theorem State.trackHold_of_holds (h : s.sched.holds = []) {due : Bool} (hd : due = false) (cause : Nat) (bit : Option Fld) :
    s.trackHold cause due bit = s := by
  simp only [State.trackHold, hd, Bool.false_eq_true, if_false, State.unhold_of_holds h]

theorem State.refreshHolds_of_idle (hh : s.sched.holds = []) (hc : ∀ e ∈ s.cell.cells, e.2.idle)
    (hb : ∀ e ∈ s.tier.blocks, e.2.refetch = none) : s.refreshHolds = s := by
  have stream : (s.cell.cells.any fun e => s.streamWait e.1 e.2) = false :=
    List.any_eq_false.2 fun e he => by simp [State.streamWait, (hc e he).2.2]
  have fault : (s.cell.cells.any fun e => faultWait e.2) = false :=
    List.any_eq_false.2 fun e he => by simp [faultWait, (hc e he).2.2]
  have refetch : s.refetchWait = false :=
    List.any_eq_false.2 fun e he => by simp [hb e he]
  simp only [State.refreshHolds, State.trackHold_of_holds hh stream, State.trackHold_of_holds hh fault, refetch, Bool.false_and,
    State.trackHold_of_holds hh]

theorem State.failoverHolds_of_none (hh : s.sched.holds = []) (hf : s.map.failover = none) (ha : s.map.adopted = none)
    (hx : s.map.active = none) : s.failoverHolds = s := by
  simp only [State.failoverHolds, hf, ha, hx, Option.isSome_none, Bool.false_and, Bool.or_self, State.trackHold_of_holds hh]

end Quiet

/-- Settles O3: each operation of the end of a command finds nothing to do. -/
theorem finishOfQuiet : Obligations.FinishOfQuiet := by
  intro s hs
  simp only [State.quiet, Bool.and_eq_true, List.isEmpty_iff, List.all_eq_true, Option.isNone_iff_eq_none, beq_iff_eq,
    Bool.not_eq_true'] at hs
  obtain ⟨⟨⟨⟨⟨⟨⟨⟨⟨⟨⟨⟨⟨⟨⟨hready, hevents⟩, hfences⟩, hruns⟩, hholds⟩, hcells⟩, hblocks⟩, hstaged⟩, hbusy⟩, hfailover⟩, hadopted⟩,
    hactive⟩, hcreating⟩, hreplies⟩, hdcOps⟩, hranges⟩ := hs
  have hidle : ∀ e ∈ s.cell.cells, e.2.idle := fun e he =>
    have ⟨⟨hmv, hstall⟩, htrack⟩ := hcells e he
    ⟨hmv, hstall, htrack⟩
  have hround : s.round = s := by
    simp only [State.round, State.hostProgress, State.settleAll_of_ready hready, State.takeReports_of_events hevents,
      State.pumpMovers_of_idle hidle, State.createProgress_of_creating hcreating, State.dcProgress_of_dcOps hdcOps,
      State.rangeProgress_of_ranges hranges, State.replyProgress_of_replies hreplies]
  have hrounds (n : Nat) : s.rounds (n + 1) = s := by simp [State.rounds, hround, hready, hevents]
  simp only [State.finish, hrounds, State.answerFences_of_fencesIn hfences, State.startReleases_of_idle hidle,
    State.closeSteps_of_runs hruns, State.stageEnds_of_staged hstaged, hbusy, Bool.false_eq_true, if_false,
    State.refreshHolds_of_idle hholds hidle hblocks, State.failoverHolds_of_none hholds hfailover hadopted hactive]

end Sys2Proof.Machine

end

section

namespace Sys2Proof.Machine

/-! ### Writes of registers that start no command (O4) -/

theorem plainOffset_iff {off : Nat} : plainOffset off = true ↔
    (∀ f ∈ singleCommandFields, off ≠ f.base) ∧ ∀ f ∈ arrayCommandFields, f.instOf off = none := by
  have hdef : plainOffset off = (!(singleCommandFields.any fun f => f.base == off) && (F.lnkCtl_enable.instOf off).isNone &&
      (F.chkScanCmd_op.instOf off).isNone && (F.chkScanAddr_addr.instOf off).isNone && (F.chkScanLen_length.instOf off).isNone) := rfl
  simp only [hdef, arrayCommandFields, List.forall_mem_cons, Bool.and_eq_true, Bool.not_eq_true', List.any_eq_false, beq_iff_eq,
    Option.isNone_iff_eq_none, and_assoc, List.not_mem_nil, false_imp_iff, implies_true, and_true, ne_comm (a := off), ne_eq]

theorem State.argWrite_of_plain {off : Nat} (h : plainOffset off = true) (s : State) (v : Word) : s.argWrite off v = s.plainWrite off v := by
  obtain ⟨hsingle, harray⟩ := plainOffset_iff.1 h
  simp only [singleCommandFields, arrayCommandFields, List.forall_mem_cons] at hsingle harray
  simp [State.argWrite, hsingle, harray]

theorem State.writeRegister_of_plain {off : Nat} (h : plainOffset off = true) (s : State) (v : Word) :
    s.writeRegister off v = s.plainWrite off v := by
  obtain ⟨hsingle, harray⟩ := plainOffset_iff.1 h
  simp only [singleCommandFields, arrayCommandFields, List.forall_mem_cons] at hsingle harray
  simp [State.writeRegister, hsingle, harray, State.argWrite_of_plain h]

section PlainWrites
variable {off : Nat} {d : RegDesc} {s : State} {v : Word} (h : regAt off = some d)
include h

/-- A write to a register is dropped where the register is not fitted. -/
theorem State.writeReg_eq : s.writeReg off v = if s.fits d off then s.setReg off (d.written (s.reg off) v) else s := by
  rw [State.writeReg, h]
  rfl

theorem State.plainWrite_clean (hc : d.clean v) :
    s.plainWrite off v = if s.fits d off then s.setReg off (d.written (s.reg off) v) else s := by
  simp only [State.plainWrite, State.cleanWrite_clean h hc, State.writeReg_eq h]

/-- A word that sets a reserved bit is replaced by a free value of the register's fields (R11, log entry 3). -/
theorem State.cleanWrite_not_clean (hc : ¬ d.clean v) : s.cleanWrite off v =
    (Config.freeWord s.free &&& BitVec.ofNat 64 d.fieldMask, { s with free := s.free + 1 }) := by
  simp only [State.cleanWrite, h]
  exact if_neg hc

theorem State.plainWrite_not_clean (hc : ¬ d.clean v) : s.plainWrite off v =
    if s.fits d off then
      State.setReg { s with free := s.free + 1 } off (d.written (s.reg off) (Config.freeWord s.free &&& BitVec.ofNat 64 d.fieldMask))
    else { s with free := s.free + 1 } := by
  simp only [State.plainWrite, State.cleanWrite_not_clean h hc, State.writeReg_eq h]
  rfl

end PlainWrites

/-- Settles O4: a plain offset is written by `plainWrite`, which puts the cleaned word into the register's fields. -/
theorem registerWriteCompletes : Obligations.RegisterWriteCompletes := by
  intro off v s hoff
  rw [exec_registerWrite]
  refine ⟨fun d h hc => ?_, fun d h hc => ?_, fun h => ?_⟩
  · rw [State.writeRegister_of_plain hoff, State.plainWrite_clean h hc]
  · rw [State.writeRegister_of_plain hoff, State.plainWrite_not_clean h hc]
  · rw [State.writeRegister_of_no_register h]

/-! ### Reads and narrow writes (O6) -/

theorem State.regValue_not_fits {off : Nat} {d : RegDesc} {s : State} (h : regAt off = some d) (hf : s.fits d off = false) :
    s.regValue off = (0, s) := by
  unfold State.fits at hf
  simp [State.regValue, h, hf]

/-- Finding the value of a register that measures nothing takes no free value. -/
theorem State.regValue_snd_of_not_analogue {off : Nat} {d : RegDesc} {s : State} (h : regAt off = some d)
    (ha : analogueBase d.base = false) : (s.regValue off).2 = s := by
  simp only [analogueBase, Bool.or_eq_false_iff, beq_eq_false_iff_ne] at ha
  simp only [State.regValue, h, State.analogue, ha, if_false]
  split <;> rfl

theorem State.readReg_snd {off : Nat} {d : RegDesc} {s : State} (h : regAt off = some d) (ha : analogueBase d.base = false) :
    (s.readReg off).2 = if d.fields.any (fun f => f.acc == .rc) then s.setReg off (d.cleared (s.reg off)) else s := by
  simp only [State.readReg, h, State.regValue_snd_of_not_analogue h ha]
  split <;> rfl

/-- What changes registers and fault records alone is known by those two parts. -/
theorem State.eq_of_sameBut {s t : State} (h : s.sameBut t) : t = { s with regs := t.regs, mgt := t.mgt } := by
  obtain ⟨regs, mgt, rfl⟩ := h
  rfl

/-- Settles O6: a read takes the register's value and clears its RC fields; a narrow write counts itself and raises its bit. -/
theorem registerReadCompletes : Obligations.RegisterReadCompletes := by
  refine ⟨fun off d s h ha => ?_, fun off s h => ?_, fun off n s => ?_⟩
  · refine ⟨_, exec_registerReadClear off s, ?_, fun hf => by rw [State.regValue_not_fits h hf], ?_, ?_⟩
    · rw [State.emit_out, s.readReg_out, s.readReg_fst]
    · rw [State.emit_regs, State.readReg_snd h ha]
      split <;> rfl
    · rw [State.readReg_snd h ha]
      split <;> rfl
  · rw [exec_registerReadClear, s.readReg_of_no_register h]
  · have hsame : s.sameBut s.narrowWrite := State.sameBut_trans (State.setF_sameBut _ _ _ _) (State.flag_sameBut _ _ _ _)
    exact ⟨s.narrowWrite, rfl, State.eq_of_sameBut hsame, rfl⟩

/-! ### Writes that wait for the boundary (O7) -/

theorem State.plainWrite_fits {off : Nat} {d : RegDesc} {s : State} {v : Word} (h : regAt off = some d) (hf : s.fits d off = true)
    (hc : d.clean v) : s.plainWrite off v = s.setReg off (d.written (s.reg off) v) := by
  rw [State.plainWrite_clean h hc, if_pos hf]

theorem regAt_tierResvLimit : ∀ n < 256,
    regAt (F.tierResvLimit_t0Limit.off n) = some ⟨0x41000, 8, 256, [F.tierResvLimit_t0Limit, F.tierResvLimit_t1Limit]⟩ := by
  decide +kernel

theorem State.fits_tierResvLimit (s : State) {n : Nat} (hn : n < 256) {d : RegDesc} (h : regAt (F.tierResvLimit_t0Limit.off n) = some d) :
    s.fits d (F.tierResvLimit_t0Limit.off n) = true := by
  obtain rfl := Option.some.inj ((regAt_tierResvLimit n hn).symm.trans h)
  have hi : (F.tierResvLimit_t0Limit.off n - 0x41000) / 8 = n := by
    simp only [Fld.off, F.tierResvLimit_t0Limit]
    omega
  simp [State.fits, fitted, fittedCount, hi, hn]

section WaleLength
variable {v : Word} {d : RegDesc} {s : State} (h : regAt (F.schedWaleLen_nextUs.off 0) = some d) (hc : d.clean v)
  (hsource : s.isSource = true)
include h hc hsource

theorem State.writeWaleLen_taken (hlo : 50 ≤ fieldOf v 17 17) (hhi : fieldOf v 17 17 ≤ 100000)
    (hfit : s.sched.standMinUs ≤ fieldOf v 17 17) :
    s.writeWaleLen v = (s.setF F.schedWaleLen_nextUs 0 (fieldOf v 17 17)).setF F.schedWaleLen_refused 0 0 := by
  have hz : ¬ fieldOf v 17 17 = 0 := by omega
  have hin : ¬ (fieldOf v 17 17 < 50 ∨ 100000 < fieldOf v 17 17 ∨ fieldOf v 17 17 < s.sched.standMinUs) := by omega
  simp only [State.writeWaleLen, hsource, State.cleanWrite_clean h hc, hz, hin, Bool.not_true, Bool.false_eq_true, if_false]

theorem State.writeWaleLen_refused (hz : fieldOf v 17 17 ≠ 0)
    (hout : fieldOf v 17 17 < 50 ∨ 100000 < fieldOf v 17 17 ∨ fieldOf v 17 17 < s.sched.standMinUs) :
    s.writeWaleLen v = (s.setF F.schedWaleLen_nextUs 0 0).setF F.schedWaleLen_refused 0 1 := by
  simp only [State.writeWaleLen, hsource, State.cleanWrite_clean h hc, hz, hout, Bool.not_true, Bool.false_eq_true, if_false, if_true]

end WaleLength

theorem State.ackWrite_not_ahead {v : Word} {d : RegDesc} {s : State} (h : regAt (F.mgtFaultAck_ack.off 0) = some d) (hc : d.clean v)
    (ha : (fieldOf v 0 32 + 2 ^ 32 - s.getF F.mgtFaultSeq_seq) % 2 ^ 32 = 0 ∨
      2 ^ 31 ≤ (fieldOf v 0 32 + 2 ^ 32 - s.getF F.mgtFaultSeq_seq) % 2 ^ 32) :
    s.ackWrite v = s.setF F.mgtFaultAck_ack 0 (fieldOf v 0 32) := by
  simp only [State.ackWrite, State.cleanWrite_clean h hc]
  exact if_neg (by omega)

/-- Settles O7: the held registers are plain writes, which leave the values in force; the wale length and the acknowledgement are
checked against the bounds of their tables. -/
theorem namedWritesComplete : Obligations.NamedWritesComplete := by
  refine ⟨⟨?held, ?limit, fun s => ⟨rfl, rfl⟩⟩, ⟨?waleLen, ?notSource, ?ack⟩⟩
  case held =>
    rintro v s ⟨i, off, d⟩ hmem h hf hc
    refine ⟨s.setReg off (d.written (s.reg off) v), ?_, rfl, rfl⟩
    rw [← State.plainWrite_fits h hf hc]
    simp only [List.mem_cons, List.not_mem_nil, or_false, Prod.mk.injEq] at hmem
    rcases hmem with ⟨rfl, rfl⟩ | ⟨rfl, rfl⟩ | ⟨rfl, rfl⟩ | ⟨rfl, rfl⟩ | ⟨rfl, rfl⟩ <;> rfl
  case limit =>
    intro v n d s hn h hc
    refine ⟨_, ?_, rfl, rfl⟩
    rw [← State.plainWrite_fits h (s.fits_tierResvLimit hn h) hc]
    rfl
  case waleLen =>
    intro v d s h hc hsource
    exact ⟨fun hlo hhi hfit => congrArg _ (State.writeWaleLen_taken h hc hsource hlo hhi hfit),
      fun hz hout => congrArg _ (State.writeWaleLen_refused h hc hsource hz hout)⟩
  case notSource =>
    intro v s hs
    have hw : s.writeWaleLen v = s := by simp [State.writeWaleLen, hs]
    exact congrArg _ hw
  case ack =>
    intro v d s h hc
    exact fun ha => congrArg _ (State.ackWrite_not_ahead h hc ha)

end Sys2Proof.Machine

end

section

namespace Sys2Proof.Machine

/-! ### A line whose region another device serves (O8, O9)

`State.servesHere` asks for the mode, the bounds, the home and the directory, but not for the map's region records: where one of them
names another holder, this device forwards the access (R545), and the line is answered by the holder. -/

/-- Device 0 in SERVICE with a store of 64 MiB whose first two granules tenant 3 owns; a record of the map has leased the first granule
to device 1. Block 0 is as given. -/
def leasedAway (b : Block) : State :=
  let home : HomeRec := { owner := 3, mode := .priv }
  let lease : MapRec :=
    { kind := 3, state := 0, rehearsal := false, holder := 1, taker := 1, tenant := 3, key := saStore 0 0, epoch := 0, origin := 1
      count := 1, commitWale := 0 }
  let s := ({ State.reset with mode := .service }.setF F.tierStoreSize_size 0 (2 ^ 26)).onXlt fun x =>
    { x with homes := [(0, home), (1, home)] }
  { s with map := { s.map with records := [lease] } }.setBlk 0 b

/-- What the device has sent in the next state of an outcome. -/
def sentBy : Host.Outcome State Fault Refusal → List Out
  | .next t => t.out
  | _ => []

theorem leasedAway_servesHere (b : Block) : (leasedAway b).servesHere 3 0 := by
  refine ⟨rfl, rfl, ?_, ?_, rfl, rfl, ?_, rfl, rfl⟩
  · decide
  · exact Nat.le_of_ble_eq_true rfl
  · exact (nofun : HomeMode.priv ≠ .commons)

/-- Refutes O8: a line leased to another device is not answered here, though `servesHere` holds of it. -/
theorem not_storeReadCompletes : ¬ Obligations.StoreReadCompletes := by
  intro h
  obtain ⟨hempty, -⟩ := h 3 0 (leasedAway .fresh) (leasedAway_servesHere _)
  have hsent := congrArg sentBy (hempty rfl)
  revert hsent
  decide +kernel

/-- Refutes O9: a store to a poisoned line that is leased to another device is not answered POISON here. -/
theorem not_storeWriteCompletes : ¬ Obligations.StoreWriteCompletes := by
  intro h
  obtain ⟨hpoison, -⟩ := h 3 0 0 0 (leasedAway { Block.fresh with state := .live, tenant := 3, poison := [0] })
    (leasedAway_servesHere _) (.inl rfl)
  have hsent := congrArg sentBy (hpoison rfl (by decide))
  revert hsent
  decide +kernel

end Sys2Proof.Machine

end

section

namespace Sys2Proof.Machine

theorem State.mem_of_steady {s t : State} (h : t.steady = s.steady) : t.mem = s.mem := congrArg (·.2.2) h

/-! ### Command registers: the word that starts a command, and the state in which it has been taken -/

/-- The fields of the register that lies at an offset, by the register tables. -/
theorem mem_fields {off : Nat} {d : RegDesc} {f : Fld} (hf : ((regAt off).any fun d => d.fields.contains f) = true)
    (h : regAt off = some d) : f ∈ d.fields := by
  rw [h] at hf
  simpa using hf

section CommandReady
variable {s : State} {d : RegDesc} {cmd busy : Fld} {i : Nat} {w : Word} (h : s.cmdReady d cmd busy i w)
include h

theorem State.cmdReady.idle : s.getF busy i ≠ 1 := h.2.2.2

theorem State.cmdReady.cleanWrite : s.cleanWrite (cmd.off i) w = (w, s) := by
  obtain ⟨hd, hc, -, -⟩ := h
  exact State.cleanWrite_clean hd hc

theorem State.cmdReady.writeReg : s.writeReg (cmd.off i) w = s.cmdWritten d cmd i w := by
  obtain ⟨hd, -, hf, -⟩ := h
  exact State.writeReg_fits hd hf

/-- A field of the command register reads as it was written. -/
theorem State.cmdReady.getF {f : Fld} (hf : ((regAt (cmd.off i)).any fun d => d.fields.contains f) = true) (ha : f.acc = .rw)
    (ho : f.off i = cmd.off i) : (s.cmdWritten d cmd i w).getF f i = fieldOf w f.lo f.width :=
  State.getF_cmdWritten cmd i h.1 (mem_fields hf h.1) ha ho

end CommandReady

section CommandTaken
variable (s : State) (d : RegDesc) (cmd busy : Fld) (i : Nat) (w : Word)

@[simp] theorem State.cmdWritten_steady : (s.cmdWritten d cmd i w).steady = s.steady := (rfl)

@[simp] theorem State.cmdTaken_steady : (s.cmdTaken d cmd busy i w).steady = s.steady := (rfl)

theorem State.reg_cmdWritten_other {off : Nat} (h : off ≠ cmd.off i) : (s.cmdWritten d cmd i w).reg off = s.reg off :=
  State.reg_setReg_other s _ h

theorem State.reg_cmdTaken_other {off : Nat} (h : off ≠ cmd.off i) (hb : off ≠ busy.off i) :
    (s.cmdTaken d cmd busy i w).reg off = s.reg off :=
  (State.reg_setF_other _ hb).trans (s.reg_cmdWritten_other d cmd i w h)

theorem State.getF_cmdTaken_other {f : Fld} {j : Nat} (h : f.off j ≠ cmd.off i) (hb : f.off j ≠ busy.off i) :
    (s.cmdTaken d cmd busy i w).getF f j = s.getF f j := by
  simp only [State.getF, s.reg_cmdTaken_other d cmd busy i w h hb]

end CommandTaken

end Sys2Proof.Machine

end

section

namespace Sys2Proof.Machine

/-! ### A write of TIER_OP_CMD -/

/-- The state in which operation `n` of TIER_OP_CMD has been written and runs. -/
def State.tierTaken (s : State) (d : RegDesc) (w : Word) (n : Nat) : State :=
  s.cmdTaken d F.tierOpCmd_op F.tierOpCmd_busy 0 (putBits w 0 4 n)

/-- The operation that TIER_OP_CMD names, on a block. -/
def State.tierOp (u : State) (n b : Nat) : State :=
  if n = 1 then u.opSeal b
  else if n = 2 then u.opImport b
  else if n = 3 then u.opPromote b
  else if n = 4 then u.opSink b
  else if n = 5 then if (u.blk b).state = .empty then u.opOpen b else (u.freeBlock b).opResult b 0
  else if n = 6 then u.opResult b 0
  else u.opOpen b

theorem State.tierCommand_busy {s : State} (h : s.getF F.tierOpCmd_busy = 1) (w : Word) :
    s.tierCommand w = s.flag F.tierStatus_opOverrun := if_pos h

/-- Once the command has been taken, its address is judged and its operation runs on the block. -/
theorem State.tierCommand_taken {s : State} {d : RegDesc} {w : Word} {n : Nat}
    (h : s.cmdReady d F.tierOpCmd_op F.tierOpCmd_busy 0 (putBits w 0 4 n)) (hz : n ≠ 0) (hn : n < 16) :
    s.tierCommand (putBits w 0 4 n) =
    (let u := s.tierTaken d w n
     let a := s.reg (F.tierOpAddr_all.off 0)
     let b := saOffset a / blockBytes
     if !s.opAddrOk a then u.opResult b Code.malformed.num
     else if !s.hasBlock b then u.opResult b Code.absent.num
     else u.tierOp n b) := by
  have hop : (s.cmdWritten d F.tierOpCmd_op 0 (putBits w 0 4 n)).getF F.tierOpCmd_op = n := by
    rw [h.getF (by decide +kernel) rfl rfl]
    exact (fieldOf_putBits_same w 0 4 n (by omega)).trans (Nat.mod_eq_of_lt hn)
  have haddr : (s.tierTaken d w n).reg (F.tierOpAddr_all.off 0) = s.reg (F.tierOpAddr_all.off 0) :=
    s.reg_cmdTaken_other d _ _ _ _ (by decide) (by decide)
  have hsize : (s.tierTaken d w n).storeSize = s.storeSize := s.getF_cmdTaken_other d _ _ _ _ (by decide) (by decide)
  have hblock (b : Nat) : (s.tierTaken d w n).hasBlock b = s.hasBlock b := by simp only [State.hasBlock, hsize]
  have htaken : (s.cmdWritten d F.tierOpCmd_op 0 (putBits w 0 4 n)).setF F.tierOpCmd_busy 0 1 = s.tierTaken d w n := rfl
  have haddrOk (a : Word) : (s.tierTaken d w n).opAddrOk a = s.opAddrOk a := rfl
  simp only [State.tierCommand, h.idle, h.cleanWrite, h.writeReg, hop, hz, htaken, haddr, hblock, haddrOk, if_false]
  rfl

/-! ### What the operations leave of their block -/

section Blocks
variable (s : State) (b : Nat)

@[simp] theorem State.blk_setBlk_same (e : Block) : (s.setBlk b e).blk b = e := Table.get_put_same _ _ _ _

@[simp] theorem State.blk_opResult (c code : Nat) : (s.opResult c code).blk b = s.blk b := rfl

@[simp] theorem State.blk_makeReady (ws : List AllocWork) : (s.makeReady ws).blk b = s.blk b := rfl

@[simp] theorem State.blk_wakeVictim (c : Nat) : (s.wakeVictim c).blk b = s.blk b := rfl

@[simp] theorem State.blk_tel (f : Fld) (i n : Nat) : (s.tel f i n).blk b = s.blk b := rfl

@[simp] theorem State.blk_opEnd (op : TierOp) (c : Nat) (code : Code) : (s.opEnd op c code).blk b = s.blk b := by
  unfold State.opEnd
  split <;> rfl

@[simp] theorem State.blk_setMem (m : Mem) : State.blk { s with mem := m } b = s.blk b := rfl

theorem State.blk_catAppend (d c op n lba : Nat) : (s.catAppend d c op n lba).blk b = s.blk b := by
  have htier : (s.catAppend d c op n lba).tier = (if catHalf ≤ (s.weave.cats.get d .fresh).log.length then s.compact d else s).tier := rfl
  unfold State.blk
  rw [htier]
  split <;> rfl

/-- Binding a block to an image changes nothing else of the block. -/
theorem State.blk_bindImage (i : Nat) : ∃ o, (s.bindImage b i).blk b = { s.blk b with image := o } := by
  unfold State.bindImage
  split
  · exact ⟨(s.blk b).image, rfl⟩
  · refine ⟨some i, ?_⟩
    rw [State.blk_catAppend, State.blk_setBlk_same]
    rfl

theorem State.t0_blk_dropCopy : ((s.dropCopy b .t0).blk b).t0 = .none := by
  unfold State.dropCopy
  dsimp only
  split
  · assumption
  · simp [Block.setCopy]

theorem State.state_blk_opSeal {u : State} {k : Nat} (helem : s.getF F.tierOpCmd_elem ≠ 3) (hlive : (s.blk b).state = .live)
    (hmake : (s.onTier fun t => { t with op := some (.sealing b) }).makeImage b (s.blockMem b) (s.getF F.tierOpCmd_elem) 0
      (s.blk b).tenant 0 = some (k, u)) :
    ((s.opSeal b).blk b).state = .sealing ∧ (s.opSeal b).mem = s.mem := by
  refine ⟨?_, State.mem_of_steady (by simp)⟩
  have hblk : (s.onTier fun t => { t with op := some (.sealing b) }).blk b = s.blk b := rfl
  have hmem : (s.onTier fun t => { t with op := some (.sealing b) }).blockMem b = s.blockMem b := rfl
  simp only [State.opSeal, helem, if_false, State.requestSeal, hblk, hlive, State.beginSeal, hmem, hmake]
  simp

/-- PROMOTE to T0 of a SEALED block that has no copy there and is not being fetched: the copy rises in the frame that is had. -/
theorem State.opPromote_rises {u : State} (htier : s.getF F.tierOpCmd_tier = 0) (hpacked : s.getF F.tierOpCmd_packed = 0)
    (hsealed : (s.blk b).state = .sealed) (hnone : (s.blk b).t0 = .none) (hfetch : (s.blk b).refetch = none)
    (hframe : (s.onTier fun x => { x with op := some (.promote b .t0) }).alloc .t0 = .frame u) :
    s.opPromote b = u.setBlk b { (u.blk b).setCopy .t0 .rising with t0Packed := false } := by
  have hcopy : (s.blk b).copy .t0 = .none := hnone
  simp [State.opPromote, htier, hpacked, hsealed, hcopy, hfetch, State.startRise, State.allocCopy, hframe]

theorem State.opSink_held (htier : s.getF F.tierOpCmd_tier = 0) (hsealed : (s.blk b).state = .sealed) (hheld : (s.blk b).t0 = .held)
    (hreaders : (s.blk b).readers0 = 0) : s.opSink b = (s.dropCopy b .t0).opResult b 0 := by
  have hcopy : (s.blk b).copy .t0 = .held := hheld
  have hr : (s.blk b).readers .t0 = 0 := hreaders
  simp [State.opSink, htier, hsealed, hcopy, hr]

theorem State.opPromote_other (hlive : (s.blk b).state ≠ .live) (hsealed : (s.blk b).state ≠ .sealed) : s.opPromote b = s.opResult b 0 := by
  unfold State.opPromote
  dsimp only
  split
  · contradiction
  · contradiction
  · rfl

theorem State.opSink_other (hlive : (s.blk b).state ≠ .live) (hsealed : (s.blk b).state ≠ .sealed) : s.opSink b = s.opResult b 0 := by
  unfold State.opSink
  dsimp only
  split
  · contradiction
  · contradiction
  · rfl

theorem State.state_blk_freeBlock : ((s.freeBlock b).blk b).state = .empty := by
  simp [State.freeBlock, Block.fresh]

theorem State.mem_freeBlock (hlive : (s.blk b).state = .live) (hjob : (s.blk b).job = none) :
    (s.freeBlock b).mem = s.mem.clear (b * blockBytes) ((b + 1) * blockBytes) := by
  unfold State.freeBlock
  extract_lets u e v w x y cleared blank emptied reads
  have hu : u = s := if_neg (by simp [hjob])
  have he : e.state = .live := by rw [← hlive, ← hu]
  have hw : w.steady = s.steady := by simp [w, he, hu]
  have hx : x.steady = s.steady := by
    unfold x
    split <;> simp [hw]
  have hy : y.mem = s.mem := State.mem_of_steady (by simp [y, hx])
  have hcleared : cleared.mem = s.mem.clear (b * blockBytes) ((b + 1) * blockBytes) := by rw [← hy]
  rw [← hcleared]
  exact State.mem_of_steady (by simp [emptied])

/-- IMPORT of a good image into an EMPTY block: the block is SEALED and bound to the image. -/
theorem State.opImport_good {h : ImageHeader} {p : List Byte} {d st : Nat} {u : State}
    (haddr : s.opAddrOk (s.reg (F.tierOpSrc_all.off 0)) = true) (hempty : (s.blk b).state = .empty)
    (hhas : s.hasBlock (saOffset (s.reg (F.tierOpSrc_all.off 0)) / blockBytes) = true)
    (hlive : (s.blk (saOffset (s.reg (F.tierOpSrc_all.off 0)) / blockBytes)).state = .live)
    (hlen : 64 + (Sys2Proof.Machine.readHeader (s.mem.bytes (saOffset (s.reg (F.tierOpSrc_all.off 0))) 64)).bodyLen ≤ blockBytes)
    (hready : s.offReady (saOffset (s.reg (F.tierOpSrc_all.off 0)))
      (64 + (Sys2Proof.Machine.readHeader (s.mem.bytes (saOffset (s.reg (F.tierOpSrc_all.off 0))) 64)).bodyLen) ≠ .poison)
    (hgood : importPayload (s.mem.bytes (saOffset (s.reg (F.tierOpSrc_all.off 0))) 64)
      (s.mem.bytes (saOffset (s.reg (F.tierOpSrc_all.off 0)) + 64)
        (Sys2Proof.Machine.readHeader (s.mem.bytes (saOffset (s.reg (F.tierOpSrc_all.off 0))) 64)).bodyLen) = some (h, p))
    (halloc : s.allocT2 b (imageSectors h.bodyLen) = some (d, st, u)) :
    ((s.opImport b).blk b).state = .sealed ∧ (s.opImport b).mem = u.mem := by
  generalize hsrc : s.reg (F.tierOpSrc_all.off 0) = src at *
  generalize hhdr : s.mem.bytes (saOffset src) 64 = hdr at *
  generalize hbody : (Sys2Proof.Machine.readHeader hdr).bodyLen = len at *
  have hblock : blockBytes = 262144 := rfl
  have hmin : min len 262144 = len := by omega
  have hmin' : min len 262145 = len := Nat.min_eq_left (by omega)
  have hreach : ¬ (64 + len + blockBytes - 1) / blockBytes = 2 := by
    rw [hblock] at hlen ⊢
    omega
  unfold State.opImport
  simp only [hsrc, hhdr, hbody, hmin, hmin', hreach, haddr, hempty, hhas, hlive, hready, hgood, halloc, Nat.add_zero, Bool.not_true,
    Bool.false_eq_true, ne_eq, not_true, or_self, false_and, if_false, beq_self_eq_true, Bool.and_self]
  refine ⟨?_, State.mem_of_steady (by simp)⟩
  rw [State.blk_opResult]
  obtain ⟨o, ho⟩ := State.blk_bindImage (State.setBlk _ b _) b (u.newImage _).1
  rw [ho, State.blk_setBlk_same]

end Blocks

/-- Settles O12: the write takes the command, and each operation does to its block what its equation says. -/
theorem tierCommandsComplete : Obligations.TierCommandsComplete := by
  refine ⟨fun d w s c hc => ⟨?busy, ?ready⟩, ?sealing, ?promote, ?sink, ?other, ?free, ?importing⟩
  case busy =>
    intro hbusy
    simp only [List.mem_cons, List.not_mem_nil, or_false] at hc
    rcases hc with rfl | rfl | rfl | rfl | rfl | rfl <;>
      exact congrArg (fun u => Host.Outcome.next (State.finish u)) (State.tierCommand_busy hbusy _)
  case ready =>
    intro hready u a b
    have hexec : c.2 ≠ 0 ∧ c.2 < 16 ∧ exec c.1 s = .next (s.tierCommand (putBits w 0 4 c.2)).finish := by
      simp only [List.mem_cons, List.not_mem_nil, or_false] at hc
      rcases hc with rfl | rfl | rfl | rfl | rfl | rfl <;> exact ⟨by simp, by simp, rfl⟩
    obtain ⟨hz, hn, hexec⟩ := hexec
    rw [hexec, State.tierCommand_taken hready hz hn]
    refine ⟨fun hbad => ?_, fun hok habsent => ?_, fun hok hhas hheld => ?_⟩
    · simp [a, b, u, hbad, State.tierTaken]
    · simp [a, b, u, hok, habsent, State.tierTaken]
    · have hu : (u.blk b).state = (s.blk b).state := rfl
      simp only [a, hok, hhas, b, Bool.not_true, Bool.false_eq_true, if_false]
      simp only [List.mem_cons, List.not_mem_nil, or_false] at hc
      rcases hc with rfl | rfl | rfl | rfl | rfl | rfl
      case inr.inr.inr.inr.inl =>
        have hne : (u.blk b).state ≠ .empty := hu ▸ hheld.resolve_right (by simp)
        exact congrArg (fun v => Host.Outcome.next (State.finish v)) (if_neg hne)
      all_goals rfl
  case sealing => exact fun b k u s helem hlive hmake => s.state_blk_opSeal b helem hlive hmake
  case promote =>
    intro b u s htier hpacked hsealed hnone hfetch hframe
    rw [s.opPromote_rises b htier hpacked hsealed hnone hfetch hframe]
    exact ⟨by simp [Block.setCopy], rfl⟩
  case sink =>
    intro b s htier hsealed hheld hreaders
    rw [s.opSink_held b htier hsealed hheld hreaders]
    exact ⟨by simp [State.t0_blk_dropCopy], State.mem_of_steady (by simp)⟩
  case other => exact fun b s hlive hsealed => ⟨s.opPromote_other b hlive hsealed, s.opSink_other b hlive hsealed⟩
  case free => exact fun b s hlive hjob => ⟨s.state_blk_freeBlock b, s.mem_freeBlock b hlive hjob⟩
  case importing =>
    intro b h p d st u s src hdr len haddr hempty hhas hlive hlen hready hgood halloc
    exact s.opImport_good b haddr hempty hhas hlive hlen hready hgood halloc

end Sys2Proof.Machine

end

section

namespace Sys2Proof.Machine

/-! ### A write of XLT_EDIT_CMD (O13) -/

/-- The state in which edit `n` of XLT_EDIT_CMD has been written and runs. -/
def State.xltTaken (s : State) (d : RegDesc) (w : Word) (n : Nat) : State :=
  s.cmdTaken d F.xltEditCmd_op F.xltEditCmd_busy 0 (putBits w 0 3 n)

theorem State.xltCommand_busy {s : State} (h : s.getF F.xltEditCmd_busy = 1) (w : Word) :
    s.xltCommand w = s.flag F.xltStatus_editOverrun := if_pos (by simp [State.xltBusy, h])

/-- Once the command has been taken, its edit runs. -/
theorem State.xltCommand_taken {s : State} {d : RegDesc} {w : Word} {n : Nat}
    (h : s.cmdReady d F.xltEditCmd_op F.xltEditCmd_busy 0 (putBits w 0 3 n)) (hz : n ≠ 0) (hn : n ≤ 4) :
    s.xltCommand (putBits w 0 3 n) =
    (let u := s.xltTaken d w n
     if n = 1 then u.xltInsertRun else if n = 2 then u.xltRevokeRun else if n = 3 then u.xltLookupRun else u.xltSetHomeRun) := by
  have hidle : s.xltBusy = false := by simp [State.xltBusy, h.idle]
  have hop : (s.cmdWritten d F.xltEditCmd_op 0 (putBits w 0 3 n)).getF F.xltEditCmd_op = n := by
    rw [h.getF (by decide +kernel) rfl rfl]
    exact (fieldOf_putBits_same w 0 3 n (by omega)).trans (Nat.mod_eq_of_lt (by omega))
  have htaken : (s.cmdWritten d F.xltEditCmd_op 0 (putBits w 0 3 n)).setF F.xltEditCmd_busy 0 1 = s.xltTaken d w n := rfl
  simp only [State.xltCommand, hidle, h.cleanWrite, h.writeReg, hop, hz, htaken, Bool.false_eq_true, if_false]
  by_cases h1 : n = 1
  · simp only [h1, if_true]
  by_cases h2 : n = 2
  · simp only [h2, if_true]
  by_cases h3 : n = 3
  · simp only [h3, if_true]
  · have h4 : n = 4 := by omega
    simp only [h1, h2, h3, h4, if_true, if_false]

section XltTaken
variable (s : State) (d : RegDesc) (w : Word) (n : Nat)

@[simp] theorem State.reg_xltTaken_w0 : (s.xltTaken d w n).reg (F.xltEditW0_all.off 0) = s.reg (F.xltEditW0_all.off 0) :=
  s.reg_cmdTaken_other d _ _ _ _ (by decide) (by decide)

@[simp] theorem State.reg_xltTaken_w1 : (s.xltTaken d w n).reg (F.xltEditW1_all.off 0) = s.reg (F.xltEditW1_all.off 0) :=
  s.reg_cmdTaken_other d _ _ _ _ (by decide) (by decide)

@[simp] theorem State.storeSize_xltTaken : (s.xltTaken d w n).storeSize = s.storeSize :=
  s.getF_cmdTaken_other d _ _ _ _ (by decide) (by decide)

@[simp] theorem State.xlt_xltTaken : (s.xltTaken d w n).xlt = s.xlt := rfl

@[simp] theorem State.device_xltTaken : (s.xltTaken d w n).device = s.device := rfl

@[simp] theorem State.insertOk_xltTaken (w0 w1 : Word) : (s.xltTaken d w n).insertOk w0 w1 = s.insertOk w0 w1 := rfl

@[simp] theorem State.editEntry_xltTaken : (s.xltTaken d w n).editEntry = s.editEntry := by
  simp only [State.editEntry, State.reg_xltTaken_w0]
  rfl

end XltTaken

section Runs
variable {s : State}

theorem State.xltInsertRun_malformed (h : s.insertOk (s.reg (F.xltEditW0_all.off 0)) (s.reg (F.xltEditW1_all.off 0)) = false) :
    s.xltInsertRun = s.xltEnd .malformed 0 := by simp [State.xltInsertRun, h]

theorem State.xltInsertRun_full (h : s.insertOk (s.reg (F.xltEditW0_all.off 0)) (s.reg (F.xltEditW1_all.off 0)) = true)
    (hfull : mapLimit ≤ s.xlt.entries.length) : s.xltInsertRun = s.xltEnd .quota 0 := by simp [State.xltInsertRun, h, hfull]

theorem State.xltInsertRun_adds (h : s.insertOk (s.reg (F.xltEditW0_all.off 0)) (s.reg (F.xltEditW1_all.off 0)) = true)
    (hroom : s.xlt.entries.length < mapLimit) : s.xltInsertRun =
      (s.onXlt fun x => { x with
        entries := x.entries ++ [extentOf (s.reg (F.xltEditW0_all.off 0)) (s.reg (F.xltEditW1_all.off 0))] }).xltEnd .done 0 := by
  simp [State.xltInsertRun, h, Nat.not_le.2 hroom]

theorem State.xltSetHomeRun_malformed
    (h : saClass (s.reg (F.xltEditW1_all.off 0)) ≠ 0 ∨ saReserved (s.reg (F.xltEditW1_all.off 0)) = true ∨
      saDevice (s.reg (F.xltEditW1_all.off 0)) ≠ s.device.toNat ∨ saOffset (s.reg (F.xltEditW1_all.off 0)) % granuleBytes ≠ 0 ∨
      fieldOf (s.reg (F.xltEditW0_all.off 0)) 8 2 = 3 ∨ fieldOf (s.reg (F.xltEditW0_all.off 0)) 10 54 ≠ 0) :
    s.xltSetHomeRun = s.xltEnd .malformed 0 := by
  refine if_pos ?_
  simp only [Bool.or_eq_true, Bool.not_eq_true', Bool.and_eq_false_iff, beq_eq_false_iff_ne, beq_iff_eq, bne_iff_ne,
    Bool.not_eq_false']
  rcases h with h | h | h | h | h | h <;> simp [h]

section GoodHome
variable (hclass : saClass (s.reg (F.xltEditW1_all.off 0)) = 0) (hres : saReserved (s.reg (F.xltEditW1_all.off 0)) = false)
  (hdev : saDevice (s.reg (F.xltEditW1_all.off 0)) = s.device.toNat)
  (hoff : saOffset (s.reg (F.xltEditW1_all.off 0)) % granuleBytes = 0) (hrest : fieldOf (s.reg (F.xltEditW0_all.off 0)) 10 54 = 0)
include hclass hres hdev hoff hrest

theorem State.xltSetHomeRun_absent (hmode : fieldOf (s.reg (F.xltEditW0_all.off 0)) 8 2 ≠ 3)
    (hsize : s.storeSize ≤ saOffset (s.reg (F.xltEditW1_all.off 0))) : s.xltSetHomeRun = s.xltEnd .absent 0 := by
  simp [State.xltSetHomeRun, hclass, hres, hdev, hoff, hrest, hmode, hsize]

theorem State.xltSetHomeRun_sets {m : HomeMode} {k : Nat} (hm : (m, k) ∈ [(HomeMode.none, 0), (.priv, 1), (.commons, 2)])
    (hmode : fieldOf (s.reg (F.xltEditW0_all.off 0)) 8 2 = k) (hsize : saOffset (s.reg (F.xltEditW1_all.off 0)) < s.storeSize) :
    s.xltSetHomeRun = (s.onXlt fun x => { x with
      homes := x.homes.put (saOffset (s.reg (F.xltEditW1_all.off 0)) / granuleBytes)
        { owner := BitVec.ofNat 8 (fieldOf (s.reg (F.xltEditW0_all.off 0)) 0 8), mode := m } }).xltEnd .done 0 := by
  simp only [List.mem_cons, Prod.mk.injEq, List.not_mem_nil, or_false] at hm
  rcases hm with ⟨rfl, rfl⟩ | ⟨rfl, rfl⟩ | ⟨rfl, rfl⟩ <;>
    simp [State.xltSetHomeRun, hclass, hres, hdev, hoff, hrest, hmode, Nat.not_le.2 hsize]

end GoodHome

end Runs

/-- Settles O13: a write that is taken runs its edit, and each edit's equation gives its end. -/
theorem xltEditsComplete : Obligations.XltEditsComplete := by
  intro d w s
  have taken {n : Nat} (h : s.cmdReady d F.xltEditCmd_op F.xltEditCmd_busy 0 (putBits w 0 3 n)) (hz : n ≠ 0) (hn : n ≤ 4) :=
    State.xltCommand_taken h hz hn
  refine ⟨?busy, fun h => ?insert, fun h => ?revoke, fun h => ?lookup, fun h => ?setHome⟩
  case busy =>
    intro c hc hbusy
    simp only [List.mem_cons, List.not_mem_nil, or_false] at hc
    rcases hc with rfl | rfl | rfl | rfl <;>
      exact congrArg (fun u => Host.Outcome.next (State.finish u)) (State.xltCommand_busy hbusy _)
  case insert =>
    have hexec : exec (.xltInsert w) s = .next (s.xltTaken d w 1).xltInsertRun.finish :=
      congrArg (fun u => Host.Outcome.next (State.finish u)) (taken h (by decide) (by decide))
    rw [hexec]
    refine ⟨fun hbad => ?_, fun hok hfull => ?_, fun hok hroom => ?_⟩
    · rw [State.xltInsertRun_malformed (s := s.xltTaken d w 1) (by simpa using hbad)]
      rfl
    · rw [State.xltInsertRun_full (s := s.xltTaken d w 1) (by simpa using hok) hfull]
      rfl
    · rw [State.xltInsertRun_adds (s := s.xltTaken d w 1) (by simpa using hok) hroom, State.reg_xltTaken_w0, State.reg_xltTaken_w1]
      rfl
  case revoke =>
    have hexec : exec (.xltRevoke w) s = .next (s.xltTaken d w 2).xltRevokeRun.finish :=
      congrArg (fun u => Host.Outcome.next (State.finish u)) (taken h (by decide) (by decide))
    rw [hexec, State.xltRevokeRun, State.editEntry_xltTaken]
    exact ⟨fun hnone => by rw [hnone]; rfl, fun e he => by rw [he]; rfl⟩
  case lookup =>
    have hexec : exec (.xltLookup w) s = .next (s.xltTaken d w 3).xltLookupRun.finish :=
      congrArg (fun u => Host.Outcome.next (State.finish u)) (taken h (by decide) (by decide))
    rw [hexec, State.xltLookupRun, State.editEntry_xltTaken]
    exact ⟨fun hnone => by rw [hnone]; rfl, fun e he => by rw [he]; rfl⟩
  case setHome =>
    have hexec : exec (.xltSetHome w) s = .next (s.xltTaken d w 4).xltSetHomeRun.finish :=
      congrArg (fun u => Host.Outcome.next (State.finish u)) (taken h (by decide) (by decide))
    rw [hexec]
    refine ⟨fun hbad => ?_, fun hclass hres hdev hoff hrest => ⟨fun hmode hsize => ?_, fun m k hm hmode hsize => ?_⟩⟩
    · rw [State.xltSetHomeRun_malformed (s := s.xltTaken d w 4) (by simpa using hbad)]
      rfl
    · rw [State.xltSetHomeRun_absent (s := s.xltTaken d w 4) (by simpa using hclass) (by simpa using hres) (by simpa using hdev)
        (by simpa using hoff) (by simpa using hrest) (by simpa using hmode) (by simpa using hsize)]
      rfl
    · rw [State.xltSetHomeRun_sets (s := s.xltTaken d w 4) (by simpa using hclass) (by simpa using hres) (by simpa using hdev)
        (by simpa using hoff) (by simpa using hrest) hm (by simpa using hmode) (by simpa using hsize), State.reg_xltTaken_w0,
        State.reg_xltTaken_w1]
      rfl

/-! ### The map under edits (O14) -/

theorem State.xlt_xltEnd (s : State) (code : Code) (st : Nat) : (s.xltEnd code st).xlt = s.xlt := rfl

theorem State.insertOk_apart {s : State} {w0 w1 : Word} (h : s.insertOk w0 w1 = true) :
    ∀ e ∈ s.xlt.entries, e.overlaps (extentOf w0 w1) = false := by
  unfold State.insertOk at h
  simp only [Bool.and_eq_true, Bool.not_eq_true', List.any_eq_false] at h
  exact fun e he => by simpa using h.2 e he

/-- The entry of a granule is found again, with its new state, after entries with one key have been given another. -/
theorem find?_updWhere_covers {es : List Extent} {k : XKey} {t : Tenant} {g : Nat} {e : Extent} (st : EState)
    (h : es.find? (·.covers t g) = some e) (hk : e.key = k) :
    (updWhere (fun e => e.key == k) (fun e => { e with state := st }) es).find? (·.covers t g) = some { e with state := st } := by
  have hcovers : ((·.covers t g) ∘ fun e : Extent => if e.key == k then { e with state := st } else e) = (·.covers t g) := by
    funext e
    dsimp only [Function.comp]
    split <;> rfl
  rw [updWhere, List.find?_map, hcovers, h, Option.map_some, if_pos (by simp [hk])]

/-- No list of the table holds a key that has been filtered out of all of them. -/
theorem not_mem_get_filtered (k : XKey) (tbl : Table (List XKey)) (c : Nat) :
    k ∉ Table.get (tbl.map fun e => (e.1, e.2.filter fun x => x != k)) c [] :=
  Table.get_of_forall (P := fun l : List XKey => k ∉ l) (List.not_mem_nil) (fun e he => by
    obtain ⟨x, -, rfl⟩ := List.mem_map.1 he
    simp) c

/-- With no live context and no query, a withdrawal marks the entry and drops its key from the caches. -/
theorem State.startRevoke_eq {s : State} {k : XKey} (hctxs : ∀ e ∈ s.svc.ctxs, e.2.live = false) (hhomes : s.srch.homes = []) :
    s.startRevoke k = (s.onXlt fun x => { x with
      entries := updWhere (fun e => e.key == k) (fun e => { e with state := .revoking }) x.entries }).dropKey k := by
  have hnone (t : State) : (s.svc.ctxs.filter fun e => e.2.live && t.ctxUses e.2 k) = [] :=
    List.filter_eq_nil_iff.2 fun e he => by simp [hctxs e he]
  unfold State.startRevoke
  extract_lets u v w
  have hw : w = v := congrArg (List.foldl _ v) (hnone v)
  rw [hw, State.searchRevoked, show v.srch.homes = [] from hhomes, List.foldl_nil]

/-- INSERT adds at most one entry, and only where it overlaps none. -/
theorem State.entries_xltInsertRun (s : State) : s.xltInsertRun.xlt.homes = s.xlt.homes ∧
    (s.xltInsertRun.xlt.entries = s.xlt.entries ∨ s.xlt.entries.length < mapLimit ∧ ∃ e : Extent, e.state = .valid ∧
      (∀ x ∈ s.xlt.entries, x.overlaps e = false) ∧ s.xltInsertRun.xlt.entries = s.xlt.entries ++ [e]) := by
  unfold State.xltInsertRun
  dsimp only
  split
  · exact ⟨rfl, .inl rfl⟩
  · split
    · exact ⟨rfl, .inl rfl⟩
    · next hok hroom =>
      exact ⟨rfl, .inr ⟨Nat.not_le.1 hroom, _, rfl, State.insertOk_apart (by simpa using hok), rfl⟩⟩

/-- Settles O14: INSERT adds an entry only where `insertOk` finds it apart; a withdrawal marks the entry and drops its key. -/
theorem editsKeepTheMap : Obligations.EditsKeepTheMap := by
  refine ⟨?insert, ?withdraw⟩
  case insert =>
    intro d w s u h hu hlen hapart
    obtain rfl : u = (s.xltTaken d w 1).xltInsertRun := hu.trans (State.xltCommand_taken h (by decide) (by decide))
    obtain ⟨hhomes, hentries⟩ := (s.xltTaken d w 1).entries_xltInsertRun
    rw [State.xlt_xltTaken] at hhomes hentries
    have hmem : (s.xltTaken d w 1).xltInsertRun.mem = s.mem := State.mem_of_steady (by simp [State.xltTaken])
    rcases hentries with hsame | ⟨hroom, e, hvalid, hover, hadd⟩
    · rw [hsame]
      exact ⟨hlen, hapart, .inl rfl, hhomes, hmem⟩
    · rw [hadd]
      refine ⟨?_, ?_, .inr ⟨e, rfl, hvalid⟩, hhomes, hmem⟩
      · rw [List.length_append]
        exact hroom
      · exact List.pairwise_append.2 ⟨hapart, List.pairwise_singleton .., fun x hx y hy => by
          rw [List.mem_singleton.1 hy]
          exact hover x hx⟩
  case withdraw =>
    intro k s hctxs hhomes
    rw [State.startRevoke_eq hctxs hhomes]
    refine ⟨fun t g e addr want mover he hk => ?_, not_mem_get_filtered k _, not_mem_get_filtered k _, ?_, rfl, rfl⟩
    · have hentry := find?_updWhere_covers .revoking he hk
      rw [State.entryAt, State.dropKey, State.onXlt_xlt, State.onXlt_xlt, hentry, lookupIn]
      exact if_pos rfl
    · simp [State.dropKey]

end Sys2Proof.Machine

end

section

namespace Sys2Proof.Machine

/-- What every step of a fold leaves as it is, the fold leaves as it is. -/
theorem foldl_unchanged {α σ β : Type} (g : σ → β) {f : σ → α → σ} (h : ∀ s a, g (f s a) = g s) (l : List α) :
    ∀ s, g (l.foldl f s) = g s := by
  induction l with
  | nil => exact fun _ => rfl
  | cons a r ih => exact fun s => (ih _).trans (h s a)

/-! ### The end of a drain (O15) -/

section XltEnd
variable (s : State) (code : Code) (st : Nat)

theorem State.busy_xltEnd : (s.xltEnd code st).getF F.xltEditCmd_busy = 0 := by
  unfold State.xltEnd
  rw [State.getF_setF_off _ _ (by decide), State.getF_setF_off _ _ (by decide), State.getF_setF_same _ _ _ _ (by decide)]
  rfl

theorem State.code_xltEnd : (s.xltEnd code st).getF F.xltEditResult_code = code.num % 256 := by
  unfold State.xltEnd
  rw [State.getF_setF_disjoint _ _ (by decide) (by decide), State.getF_setF_same _ _ _ _ (by decide)]
  rfl

end XltEnd

theorem State.revokeDone_eq {s : State} {k : XKey} (h : s.xlt.revoking = some k) : s.revokeDone =
    (((s.dropEntry k).onXlt fun x => { x with revoking := none }).addF F.xltShootdownCount_count 0 1).xltEnd .done
      (s.getF F.xltEditResult_state) := by
  rw [State.revokeDone, h]

theorem State.dcOps_revokeDone (s : State) : s.revokeDone.hpt.dcOps = s.hpt.dcOps := by
  unfold State.revokeDone
  split <;> rfl

theorem State.dcOps_abortWho (s : State) (w : Who) : (s.abortWho w).hpt.dcOps = s.hpt.dcOps := by
  unfold State.abortWho
  split
  · simp [State.hostEnd, State.bindError, State.tel]
  · rfl
  · rfl

theorem State.dcOps_abortThrough (s : State) (k : XKey) : (s.abortThrough k).2.hpt.dcOps = s.hpt.dcOps := by
  unfold State.abortThrough
  split
  · dsimp only
    rw [foldl_unchanged (fun s : State => s.hpt.dcOps) fun s r => ?requests,
      foldl_unchanged (fun s : State => s.hpt.dcOps) fun s a => s.dcOps_abortWho _]
    case requests =>
      split
      · exact s.dcOps_abortWho _
      · exact s.dcOps_abortWho _
      · rfl
    simp only [State.onFab_hpt, State.onHpt_hpt, State.onTier_hpt]
    rw [foldl_unchanged (fun s : State => s.hpt.dcOps) fun s m => ?movers, State.flag_hpt]
    case movers => split <;> rfl
  · rfl

section Drains
variable {s : State} {k : XKey} (hk : s.xlt.revoking = some k) (hops : s.hpt.dcOps = [])
include hops

theorem exec_revokeDrainEnd_inFlight (hk : s.xlt.revoking = some k) (h : s.inFlight k = true) :
    exec .revokeDrainEnd s = .next s.finish := by
  change execRevokeDrainEnd s = _
  simp [execRevokeDrainEnd, hk, h, hops]

theorem exec_revokeDrainEnd_drained (hk : s.xlt.revoking = some k) (h : s.inFlight k = false) :
    exec .revokeDrainEnd s = .next s.revokeDone.finish := by
  change execRevokeDrainEnd s = _
  simp [execRevokeDrainEnd, hk, h, s.dcOps_revokeDone, hops]

theorem exec_revokeDrainTimeout_revoking (hk : s.xlt.revoking = some k) : exec .revokeDrainTimeout s =
    .next (((s.abortThrough k).2.addF F.xltEditResult_aborted 0 (s.abortThrough k).1).revokeDone).finish := by
  have hdc : ((s.abortThrough k).2.addF F.xltEditResult_aborted 0 (s.abortThrough k).1).revokeDone.hpt.dcOps = [] :=
    (State.dcOps_revokeDone _).trans ((s.dcOps_abortThrough k).trans hops)
  change execRevokeDrainTimeout s = _
  simp [execRevokeDrainTimeout, hk, hdc]

end Drains

theorem exec_revokeDrain_idle {s : State} (hk : s.xlt.revoking = none) (hops : s.hpt.dcOps = []) :
    exec .revokeDrainEnd s = .next s.finish ∧ exec .revokeDrainTimeout s = .next s.finish := by
  change execRevokeDrainEnd s = _ ∧ execRevokeDrainTimeout s = _
  simp [execRevokeDrainEnd, execRevokeDrainTimeout, hk, hops]

/-- A withdrawal of Dynamic Capacity whose drain has ended goes on to its recalls. -/
theorem exec_revokeDrain_dc {s : State} {o : DcOp} (hk : s.xlt.revoking = none) (hops : s.hpt.dcOps = [o])
    (hphase : o.phase = .draining) (hkeys : o.keys.any s.inFlight = false) :
    exec .revokeDrainEnd s = .next (s.dcRecall o).finish ∧
      (o.keys = [] → exec .revokeDrainTimeout s = .next (s.dcRecall o).finish) := by
  have hdrained : s.dcDrained o = true := by simp only [State.dcDrained, hphase, hkeys, beq_self_eq_true, Bool.not_false, Bool.and_self]
  change execRevokeDrainEnd s = _ ∧ (_ → execRevokeDrainTimeout s = _)
  refine ⟨?_, fun hnil => ?_⟩
  · simp [execRevokeDrainEnd, hk, hops, hdrained]
  · simp [execRevokeDrainTimeout, hk, hops, hphase, hnil]

/-- Settles O15: the fold over the withdrawals is empty or has one member, and `revokeDone` drops the entry and ends the edit. -/
theorem drainsEnd : Obligations.DrainsEnd := by
  refine ⟨fun k s hk hops => ⟨exec_revokeDrainEnd_inFlight hops hk, exec_revokeDrainEnd_drained hops hk,
    exec_revokeDrainTimeout_revoking hops hk, ?_⟩, fun o s hk hops hphase hkeys => exec_revokeDrain_dc hk hops hphase hkeys,
    fun s hk hops => exec_revokeDrain_idle hk hops⟩
  have hmem : s.revokeDone.mem = s.mem := State.mem_of_steady (by simp)
  have hxlt : s.revokeDone.xlt = { s.xlt with entries := s.xlt.entries.filter fun e => e.key != k, revoking := none } := by
    rw [State.revokeDone_eq hk, State.xlt_xltEnd]
    rfl
  rw [hxlt, State.revokeDone_eq hk] at *
  refine ⟨rfl, fun e he => ?_, fun e he hne => ?_, State.busy_xltEnd .., State.code_xltEnd .., hmem⟩
  · simpa using (List.mem_filter.1 he).2
  · exact List.mem_filter.2 ⟨he, by simpa using hne⟩

/-! ### Movers whose wait ends (O16, O17) -/

section Movers
variable (s : State)

theorem State.chan_setRun_same (c ch : Nat) (r : MvRun) : ((s.setRun c ch r).chan c ch).run = some r := by
  simp [State.setRun, State.setChan, State.chan]

theorem State.chan_setRun_other {c ch c' ch' : Nat} (r : MvRun) (h : (c', ch') ≠ (c, ch)) :
    (s.setRun c ch r).chan c' ch' = s.chan c' ch' := by
  unfold State.setRun State.setChan State.chan
  by_cases hc : c' = c
  · subst hc
    rw [State.cellAt_onCellAt_same, Table.get_put_other _ _ _ (by simpa using h)]
  · rw [State.cellAt_onCellAt_other _ _ hc]

theorem State.chan_moverFail_other {c ch : Nat} {m : Nat × Nat} (code : Code) (h : m ≠ (c, ch)) :
    (s.moverFail c ch code).chan m.1 m.2 = s.chan m.1 m.2 := by
  unfold State.moverFail
  split
  · rfl
  · split
    · exact s.chan_setRun_other _ h
    · rfl

theorem State.run_moverFail {c ch : Nat} {r : MvRun} (code : Code) (h : (s.chan c ch).run = some r)
    (hp : r.phase = .walk ∨ r.phase = .fill) : ((s.moverFail c ch code).chan c ch).run = some (r.ends code) := by
  simp only [State.moverFail, h, hp, if_true, State.chan_setRun_same]

theorem State.moverFail_ending {c ch : Nat} {r : MvRun} (code : Code) (h : (s.chan c ch).run = some r) (hp : r.phase = .ending) :
    s.moverFail c ch code = s := by
  simp [State.moverFail, h, hp]

/-- A mover whose ending is decided stays so while others fail. -/
theorem State.run_foldl_moverFail_ending {r : MvRun} (hp : r.phase = .ending) (code : Code) (m : Nat × Nat) (l : List (Nat × Nat)) :
    ∀ s : State, (s.chan m.1 m.2).run = some r →
      ((l.foldl (fun s m => s.moverFail m.1 m.2 code) s).chan m.1 m.2).run = some r := by
  induction l with
  | nil => exact fun s h => h
  | cons a rest ih =>
    intro s h
    rw [List.foldl_cons]
    refine ih _ ?_
    by_cases ha : m = a
    · rw [← ha, s.moverFail_ending code h hp]
      exact h
    · rw [s.chan_moverFail_other code ha]
      exact h

/-- Every mover of the list that waits for a walk or a fill is to end with the code. -/
theorem State.run_foldl_moverFail {r : MvRun} (hp : r.phase = .walk ∨ r.phase = .fill) (code : Code) {m : Nat × Nat}
    {l : List (Nat × Nat)} (hm : m ∈ l) : ∀ s : State, (s.chan m.1 m.2).run = some r →
      ((l.foldl (fun s m => s.moverFail m.1 m.2 code) s).chan m.1 m.2).run = some (r.ends code) := by
  induction l with
  | nil => cases hm
  | cons a rest ih =>
    intro s h
    rw [List.foldl_cons]
    by_cases ha : m = a
    · subst ha
      exact State.run_foldl_moverFail_ending rfl code m rest _ (s.run_moverFail code h hp)
    · refine ih (List.mem_of_ne_of_mem ha hm) _ ?_
      rw [s.chan_moverFail_other code ha]
      exact h

/-- What a failing mover leaves: everything but the cells. -/
theorem State.moverFail_eq (c ch : Nat) (code : Code) : ∃ x, s.moverFail c ch code = { s with cell := x } := by
  unfold State.moverFail
  split
  · exact ⟨_, rfl⟩
  · split
    · exact ⟨_, rfl⟩
    · exact ⟨_, rfl⟩

theorem State.foldl_moverFail_eq (code : Code) (l : List (Nat × Nat)) : ∀ s : State,
    ∃ x, l.foldl (fun s m => s.moverFail m.1 m.2 code) s = { s with cell := x } := by
  induction l with
  | nil => exact fun s => ⟨s.cell, rfl⟩
  | cons a rest ih =>
    intro s
    obtain ⟨x, hx⟩ := s.moverFail_eq a.1 a.2 code
    obtain ⟨y, hy⟩ := ih (s.moverFail a.1 a.2 code)
    exact ⟨y, by rw [List.foldl_cons, hy, hx]⟩

end Movers

/-! ### The end of a walk (O16) -/

/-- What the movers of a walk meet once the walk has ended: a mover whose lookup fails is to end, another goes on. -/
def State.walkServes (t : Tenant) (g : Nat) (s : State) (m : Nat × Nat) : State :=
  match s.walkCode t g m.1 m.2 with
  | some code => s.moverFail m.1 m.2 code
  | none => s.moverResume m.1 m.2

/-- Where every lookup fails with one code, the movers of the walk fail with it. -/
theorem State.walkServes_fails {t : Tenant} {g : Nat} {s : State} {code : Code}
    (h : ∀ w, lookupIn (s.entryAt t g) (g * granuleBytes) w true = .fails code) (m : Nat × Nat) :
    s.walkServes t g m = s.moverFail m.1 m.2 code := by
  unfold State.walkServes State.walkCode
  cases hr : (s.chan m.1 m.2).run with
  | none => simp [State.moverResume, State.moverFail, hr]
  | some r => simp [h]

theorem State.foldl_walkServes_fails {t : Tenant} {g : Nat} {code : Code} (l : List (Nat × Nat)) : ∀ s : State,
    (∀ w, lookupIn (s.entryAt t g) (g * granuleBytes) w true = .fails code) →
    l.foldl (State.walkServes t g) s = l.foldl (fun s m => s.moverFail m.1 m.2 code) s := by
  induction l with
  | nil => exact fun s _ => rfl
  | cons a rest ih =>
    intro s h
    rw [List.foldl_cons, List.foldl_cons, State.walkServes_fails h]
    obtain ⟨x, hx⟩ := s.moverFail_eq a.1 a.2 code
    exact ih _ (by rw [hx]; exact h)

theorem lookupIn_revoking {e : Extent} (h : e.state = .revoking) (a : Nat) (w : Wants) (mover : Bool) :
    lookupIn (some e) a w mover = .fails .revoked := by simp [lookupIn, h]

theorem mem_pushKey (k : XKey) (l : List XKey) : k ∈ pushKey 32 k l := by simp [pushKey]

section WalkEnd
variable {die g : Nat} {t : Tenant} {w : Walk} {s : State}
  (hw : (s.xlt.walks.find? fun w => w.die == die && w.tenant == t && w.granule == g) = some w)
include hw

theorem exec_translationWalkEnd_ue : exec (.translationWalkEnd die t g true) s = .next (State.finish
    (w.waiting.foldl (fun s m => s.moverFail m.1 m.2 .poison)
      ((s.onXlt fun x => { x with walks := x.walks.erase w }).flag F.xltStatus_walkUe
        { tenant := t.toNat, addr := BitVec.ofNat 64 (g * granuleBytes) }))) := by
  change execTranslationWalkEnd die t g true s = _
  simp only [execTranslationWalkEnd, hw, if_true]

theorem exec_translationWalkEnd_not_valid (hv : ∀ e, s.entryAt t g = some e → e.state ≠ .valid) :
    exec (.translationWalkEnd die t g false) s = .next (State.finish
      (w.waiting.foldl (State.walkServes t g) (s.onXlt fun x => { x with walks := x.walks.erase w }))) := by
  change execTranslationWalkEnd die t g false s = _
  simp only [execTranslationWalkEnd, hw, Bool.false_eq_true, if_false]
  refine congrArg (fun u => Host.Outcome.next (State.finish (w.waiting.foldl (State.walkServes t g) u))) ?_
  split
  · next e he => exact if_neg (hv e he)
  · rfl

theorem exec_translationWalkEnd_valid {e : Extent} (he : s.entryAt t g = some e) (hv : e.state = .valid) :
    exec (.translationWalkEnd die t g false) s = .next (State.finish
      (w.waiting.foldl (State.walkServes t g)
        ((s.onXlt fun x => { x with walks := x.walks.erase w }).fillCaches die e.key (w.waiting.map (·.1))))) := by
  change execTranslationWalkEnd die t g false s = _
  simp only [execTranslationWalkEnd, hw, Bool.false_eq_true, if_false]
  refine congrArg (fun u => Host.Outcome.next (State.finish (w.waiting.foldl (State.walkServes t g) u))) ?_
  have hentry : (s.onXlt fun x => { x with walks := x.walks.erase w }).entryAt t g = some e := he
  simp only [hentry, hv, if_true]

end WalkEnd

/-- A key is put into the buffer of a cell. -/
def State.fillBuf (k : XKey) (s : State) (c : Nat) : State :=
  s.onXlt fun x => { x with bufs := x.bufs.put c (pushKey 32 k (x.bufs.get c [])) }

theorem State.mem_bufs_foldl_fillBuf (k : XKey) (c : Nat) (cells : List Nat) : ∀ s : State, k ∈ s.xlt.bufs.get c [] ∨ c ∈ cells →
    k ∈ (cells.foldl (State.fillBuf k) s).xlt.bufs.get c [] := by
  induction cells with
  | nil => exact fun s h => h.resolve_right List.not_mem_nil
  | cons a rest ih =>
    intro s h
    refine ih _ ?_
    by_cases hca : c = a
    · left
      rw [hca, State.fillBuf, State.onXlt_xlt, Table.get_put_same]
      exact mem_pushKey k _
    · rw [State.fillBuf, State.onXlt_xlt, Table.get_put_other _ _ _ hca]
      exact h.imp_right fun hm => List.mem_of_ne_of_mem hca hm

/-- The key is in the buffer of every cell that is served. -/
theorem State.mem_bufs_fillCaches (s : State) (die : Nat) (k : XKey) {c : Nat} {cells : List Nat} (hc : c ∈ cells) :
    k ∈ (s.fillCaches die k cells).xlt.bufs.get c [] :=
  State.mem_bufs_foldl_fillBuf k c cells _ (.inr hc)

theorem State.xltHit_of_mem {s : State} {c : Nat} {t : Tenant} {g : Nat} {k : XKey} (hk : k ∈ s.xlt.bufs.get c [])
    (hcovers : k.covers t g = true) : (s.xltHit c t g).1 = true := by
  have hany : (s.xlt.bufs.get c []).any (fun k => k.covers t g) = true := List.any_eq_true.2 ⟨k, hk, hcovers⟩
  simp only [State.xltHit, hany, if_true]

/-- The end of a walk without an entry that serves: the movers that joined are to end, and only the cells change. -/
theorem foldl_moverFail_ends {w : Walk} (code : Code) (u : State) :
    ∃ v : State, w.waiting.foldl (fun s m => s.moverFail m.1 m.2 code) u = v ∧ (∃ x, v = { u with cell := x }) ∧
      ∀ m ∈ w.waiting, ∀ r, (u.chan m.1 m.2).run = some r → r.phase = .walk → (v.chan m.1 m.2).run = some (r.ends code) :=
  ⟨_, rfl, State.foldl_moverFail_eq code _ u, fun _ hm _ hr hp => State.run_foldl_moverFail (.inl hp) code hm u hr⟩

/-- Settles O16: the movers that joined are served in turn, and where nothing serves them each is to end with the code. -/
theorem walksEnd : Obligations.WalksEnd := by
  intro die g t w s hw
  refine ⟨fun code ue hcase => ?_, fun e he hv => ⟨exec_translationWalkEnd_valid hw he hv, fun m hm => ?_⟩⟩
  · have fails (hlook : ∀ a, lookupIn (s.entryAt t g) (g * granuleBytes) a true = .fails code)
        (hv : ∀ e, s.entryAt t g = some e → e.state ≠ .valid) :
        ∃ u : State, exec (.translationWalkEnd die t g false) s = .next u.finish ∧ u.xlt.walks = s.xlt.walks.erase w ∧ u.mem = s.mem ∧
          ∀ m ∈ w.waiting, ∀ r, (s.chan m.1 m.2).run = some r → r.phase = .walk → (u.chan m.1 m.2).run = some (r.ends code) := by
      obtain ⟨v, hv', ⟨x, rfl⟩, hends⟩ := foldl_moverFail_ends (w := w) code (s.onXlt fun x => { x with walks := x.walks.erase w })
      have hexec := exec_translationWalkEnd_not_valid hw hv
      rw [State.foldl_walkServes_fails w.waiting (s.onXlt fun x => { x with walks := x.walks.erase w }) hlook, hv'] at hexec
      exact ⟨_, hexec, rfl, rfl, hends⟩
    rcases hcase with ⟨rfl, rfl⟩ | ⟨rfl, hnone, rfl⟩ | ⟨rfl, ⟨e, he, hrevoking⟩, rfl⟩
    · obtain ⟨v, hv, ⟨x, rfl⟩, hends⟩ := foldl_moverFail_ends (w := w) .poison
        ((s.onXlt fun x => { x with walks := x.walks.erase w }).flag F.xltStatus_walkUe
          { tenant := t.toNat, addr := BitVec.ofNat 64 (g * granuleBytes) })
      refine ⟨_, by rw [exec_translationWalkEnd_ue hw, hv], ?_, fun _ => ?_, ?_, ?_⟩
      · simp
      · exact State.getF_flag_same _ _ _ _ (by decide) (by decide) rfl
      · simp
      · exact fun m hm r hr => hends m hm r (by
          simp only [State.chan, State.cellAt_flag]
          exact hr)
    · obtain ⟨u, hexec, hwalks, hmem, hends⟩ := fails (by simp [hnone, lookupIn]) (by simp [hnone])
      exact ⟨u, hexec, hwalks, by simp, hmem, hends⟩
    · obtain ⟨u, hexec, hwalks, hmem, hends⟩ := fails (fun a => by rw [he, lookupIn_revoking hrevoking])
        (fun e' he' => by
          obtain rfl := Option.some.inj (he.symm.trans he')
          simp [hrevoking])
      exact ⟨u, hexec, hwalks, by simp, hmem, hends⟩
  · refine State.xltHit_of_mem (State.mem_bufs_fillCaches _ die e.key (List.mem_map_of_mem hm)) ?_
    exact List.find?_some (p := fun e : Extent => e.covers t g) he

/-! ### The end of a fill record (O17) -/

theorem State.serveFillWaits_of_none {s : State} {die : Nat} (h : ∀ w ∈ s.xlt.fillWaits, w.die ≠ die) (n : Nat) :
    s.serveFillWaits n die = s := by
  have hnone : (s.xlt.fillWaits.find? fun w => w.die == die) = none := List.find?_eq_none.2 fun w hw => by simp [h w hw]
  cases n with
  | zero => rfl
  | succ n => simp only [State.serveFillWaits, hnone]

section FillRecord
variable {die record : Nat} {o : FillOutcome} {f : FillRec} {s : State}
  (hf : (s.xlt.fills.find? fun f => f.die == die && f.id == record) = some f) (hwaits : ∀ w ∈ s.xlt.fillWaits, w.die ≠ die)
include hf

theorem exec_fillRecordEnd_not (h : s.fillEnds f o = false) : exec (.fillRecordEnd die record o) s = .next s := by
  change execFillRecordEnd die record o s = _
  simp [execFillRecordEnd, hf, h]

include hwaits

theorem exec_fillRecordEnd_held (h : s.fillEnds f .held = true) : exec (.fillRecordEnd die record .held) s = .next (State.finish
    (f.waiting.foldl (fun s m => s.fillResume .held f.tenant f.granule m.1 m.2)
      (s.onXlt fun x => { x with fills := x.fills.erase f }))) := by
  change execFillRecordEnd die record .held s = _
  have hserve (n : Nat) := State.serveFillWaits_of_none (s := s.onXlt fun x => { x with fills := x.fills.erase f }) hwaits n
  simp only [execFillRecordEnd, hf, h, if_true, hserve]

theorem exec_fillRecordEnd_failed (h : s.fillEnds f o = true) (ho : o ≠ .held) : exec (.fillRecordEnd die record o) s =
    .next (State.finish (f.waiting.foldl (fun s m => s.fillResume o f.tenant f.granule m.1 m.2)
      ((s.onXlt fun x => { x with fills := x.fills.erase f }).flag F.xltStatus_fillFailed
        { tenant := f.tenant.toNat, dieType := 1, die := die, addr := BitVec.ofNat 64 (f.granule * granuleBytes) }))) := by
  change execFillRecordEnd die record o s = _
  have hserve (n : Nat) := State.serveFillWaits_of_none (die := die)
    (s := (s.onXlt fun x => { x with fills := x.fills.erase f }).flag F.xltStatus_fillFailed
      { tenant := f.tenant.toNat, dieType := 1, die := die, addr := BitVec.ofNat 64 (f.granule * granuleBytes) })
    (by simpa using hwaits) n
  simp only [execFillRecordEnd, hf, h, ho, if_true, if_false, hserve]

end FillRecord

theorem State.getF_flag_other (s : State) {f g : Fld} {i j : Nat} (n : Note) (hg : g.off j ∉ recordRegs) (hf : g.off j ≠ f.off i) :
    (s.flag f n i).getF g j = s.getF g j := by
  simp only [State.getF, State.flag_reg s f n i _ hg hf]

theorem cellState_not_record (f : Fld) (hbase : f.base = 0x80400) (hstride : f.stride = 8) (c : Nat) : f.off c ∉ recordRegs := by
  simp only [recordRegs, Fld.off, hbase, hstride, F.mgtFaultSeq_seq, F.mgtStatus_logLost, F.mgtLogLost_count, List.mem_cons,
    List.not_mem_nil, or_false]
  omega

/-- Raising a bit of XLT_STATUS changes nothing that decides whether a mover's block failed. -/
theorem State.fillFailedFor_flag (s : State) (o : FillOutcome) (n : Note) (c ch : Nat) :
    (s.flag F.xltStatus_fillFailed n).fillFailedFor o c ch = s.fillFailedFor o c ch := by
  have htenant : (s.flag F.xltStatus_fillFailed n).cellTenant c = s.cellTenant c := by
    rw [State.cellTenant, State.getF_flag_other s n (cellState_not_record _ rfl rfl c), State.cellTenant]
    simp only [Fld.off, F.cellState_tenant, F.xltStatus_fillFailed]
    omega
  obtain ⟨regs, mgt, heq⟩ := s.flag_sameBut F.xltStatus_fillFailed n 0
  rw [heq] at htenant ⊢
  unfold State.fillFailedFor State.moverBlock
  rw [htenant]
  rfl

/-- A mover whose block failed is to end with the fill's code; only the accesses that wait for it and the cells change. -/
theorem State.fillResume_failed {s : State} {o : FillOutcome} {c ch : Nat} (tn : Tenant) (g : Nat) {r : MvRun}
    (hfailed : s.fillFailedFor o c ch = true) (hr : (s.chan c ch).run = some r) (hp : r.phase = .fill) :
    ∃ x y z, s.fillResume o tn g c ch = { s with tier := x, hpt := y, cell := z } ∧
      ((s.fillResume o tn g c ch).chan c ch).run = some (r.ends o.code) := by
  have hresume : s.fillResume o tn g c ch = (s.dropPending c ch).moverFail c ch o.code := if_pos hfailed
  rw [hresume]
  obtain ⟨z, hz⟩ := (s.dropPending c ch).moverFail_eq c ch o.code
  exact ⟨_, _, z, hz, (s.dropPending c ch).run_moverFail o.code hr (.inr hp)⟩

/-- Settles O17: a failed record raises FILL_FAILED, and the mover whose block failed is to end with its code. -/
theorem fillRecordsEnd : Obligations.FillRecordsEnd := by
  intro die record o f s hf hwaits
  refine ⟨exec_fillRecordEnd_not hf, fun h ho => ?_, fun h ho m r hm hfailed hr hp => ?_⟩
  · subst ho
    exact exec_fillRecordEnd_held hf hwaits h
  · have hexec := exec_fillRecordEnd_failed hf hwaits h ho
    rw [hm, List.foldl_cons, List.foldl_nil] at hexec
    generalize hu : State.flag _ F.xltStatus_fillFailed _ = u at hexec
    have hfailed' : u.fillFailedFor o m.1 m.2 = true := by
      rw [← hu, State.fillFailedFor_flag]
      exact hfailed
    have hrun : (u.chan m.1 m.2).run = some r := by
      rw [← hu, State.chan, State.cellAt_flag]
      exact hr
    obtain ⟨x, y, z, heq, hends⟩ := State.fillResume_failed f.tenant f.granule hfailed' hrun hp
    refine ⟨_, hexec, ?_, ?_, hends, ?_⟩
    · rw [heq, ← hu]
      simp
    · rw [heq, ← hu]
      exact State.getF_flag_same _ _ _ _ (by decide) (by decide) rfl
    · rw [heq, ← hu]
      simp

end Sys2Proof.Machine

end

section

namespace Sys2Proof.Machine

/-! ### What ends an instruction (O18) -/

section RetireAndStall
variable (s : State) (c : Nat) (rd : XReg) (w : Word)

theorem State.cellAt_retire : (s.retire c rd w).cellAt c = ((s.cellAt c).setX rd w).step4 := s.cellAt_onCellAt_same c _

theorem State.cellAt_retire_other {k : Nat} (h : k ≠ c) : (s.retire c rd w).cellAt k = s.cellAt k := s.cellAt_onCellAt_other _ h

@[simp] theorem Cell.xr_step4 (v : Cell) (r : XReg) : v.step4.xr r = v.xr r := rfl

@[simp] theorem Cell.pc_step4 (v : Cell) : v.step4.pc = v.pc + 4 := rfl

@[simp] theorem Cell.sram_step4 (v : Cell) : v.step4.sram = v.sram := rfl

@[simp] theorem Cell.dcache_step4 (v : Cell) : v.step4.dcache = v.dcache := rfl

@[simp] theorem Cell.queue_step4 (v : Cell) (q : Nat) : v.step4.queue q = v.queue q := rfl

theorem State.xr_retire : ((s.retire c rd w).cellAt c).xr rd = if rd = 0 then 0 else w := by
  simp [State.cellAt_retire, Cell.xr_setX]

theorem State.xr_retire_other {r : XReg} (h : r ≠ rd) : ((s.retire c rd w).cellAt c).xr r = (s.cellAt c).xr r := by
  simp [State.cellAt_retire, Cell.xr_setX, h]

theorem State.pc_retire : ((s.retire c rd w).cellAt c).pc = (s.cellAt c).pc + 4 := by
  simp [State.cellAt_retire]

theorem State.sram_retire : ((s.retire c rd w).cellAt c).sram = (s.cellAt c).sram := by
  simp [State.cellAt_retire]

theorem State.dcache_retire : ((s.retire c rd w).cellAt c).dcache = (s.cellAt c).dcache := by
  simp [State.cellAt_retire]

theorem State.cellAt_retire_registers :
    (s.retire c rd w).cellAt c = { s.cellAt c with x := ((s.retire c rd w).cellAt c).x, pc := ((s.retire c rd w).cellAt c).pc } := by
  rw [State.cellAt_retire, Cell.pc_step4, Cell.setX_pc]
  exact Cell.setX_step4 _ _ _

theorem State.retire_cellOnly : s.retire c rd w = { s with cell := (s.retire c rd w).cell } := rfl

theorem State.cellAt_resume : (s.resume c rd w).cellAt c = { (s.retire c rd w).cellAt c with stall := .none } := by
  simp [State.resume, State.cellAt_retire]

theorem State.cellAt_resume_other {k : Nat} (h : k ≠ c) : (s.resume c rd w).cellAt k = s.cellAt k := by
  rw [State.resume, State.cellAt_setF, s.cellAt_onCellAt_other _ h]

theorem State.cellRun_resume : (s.resume c rd w).cellRun c = 2 := State.getF_setF_same _ _ _ _ (by decide)

theorem State.xr_resume : ((s.resume c rd w).cellAt c).xr rd = if rd = 0 then 0 else w := by
  rw [State.cellAt_resume]
  exact s.xr_retire c rd w

theorem State.stall_resume : ((s.resume c rd w).cellAt c).stall = .none := by
  rw [State.cellAt_resume]

theorem State.cellAt_stallCell (k : Stall) : (s.stallCell c k).cellAt c = { s.cellAt c with stall := k } := by
  simp [State.stallCell]

theorem State.cellAt_stallCell_other (k : Stall) {j : Nat} (h : j ≠ c) : (s.stallCell c k).cellAt j = s.cellAt j := by
  rw [State.stallCell, State.cellAt_setF, s.cellAt_onCellAt_other _ h]

theorem State.cellRun_stallCell (k : Stall) : (s.stallCell c k).cellRun c = 3 := State.getF_setF_same _ _ _ _ (by decide)

end RetireAndStall

/-- A cell whose kernel has ended: nothing stalled, nothing queued, and the descriptors that run without a ticket. -/
def Cell.ended (v : Cell) : Cell :=
  { v with stall := .none, mq := { v.mq with items := [] }, vq := { v.vq with items := [] }, track := none,
           mv := v.mv.map fun e => (e.1, { e.2 with q := { e.2.q with items := [] }, run := e.2.run.map fun r => { r with orphan := true } }) }

/-- The state in which cell `c` shows IDLE and no kernel. -/
def State.kernelOff (s : State) (c : Nat) : State :=
  ((s.setF F.cellState_kernel c 0).setF F.cellState_priv c 0).setF F.cellState_run c runIdle

/-- The track of a kernel counts the cell that has ended. -/
def State.trackEnded (s : State) (track : Option Nat) (c : Nat) (code : Code) : State :=
  match track with
  | none => s
  | some t => s.onSched fun x => { x with runs := match x.runs.find? fun e => e.1 == t with
      | none => x.runs
      | some (_, r) => x.runs.put t (r.cellEnded c code) }

theorem State.trackEnded_schedOnly (s : State) (track : Option Nat) (c : Nat) (code : Code) :
    ∃ x, s.trackEnded track c code = { s with sched := x } := by
  cases track with
  | none => exact ⟨s.sched, rfl⟩
  | some t => exact ⟨_, rfl⟩

section KernelEnd
variable (s : State) (c : Nat) (code : Code)

theorem State.kernelOff_cellOnly : s.kernelOff c = { s with regs := (s.kernelOff c).regs } := rfl

theorem State.kernelEnd_eq_trackEnded :
    s.kernelEnd c code = ((s.setCell c (s.cellAt c).ended).kernelOff c).trackEnded (s.cellAt c).track c code := by
  simp only [State.kernelEnd, State.trackEnded, State.kernelOff, Cell.ended] <;>
    cases (s.cellAt c).track <;> rfl

/-- The end of a kernel changes the cell, its state register, and what its track counts. -/
theorem State.kernelEnd_eq : ∃ x, s.kernelEnd c code = { (s.setCell c (s.cellAt c).ended).kernelOff c with sched := x } := by
  rw [State.kernelEnd_eq_trackEnded]
  exact State.trackEnded_schedOnly _ _ _ _

theorem State.cellAt_kernelEnd : (s.kernelEnd c code).cellAt c = (s.cellAt c).ended := by
  obtain ⟨x, h⟩ := s.kernelEnd_eq c code
  rw [h, State.kernelOff_cellOnly]
  exact s.cellAt_setCell_same c _

theorem State.cellAt_kernelEnd_other {k : Nat} (h : k ≠ c) : (s.kernelEnd c code).cellAt k = s.cellAt k := by
  obtain ⟨x, hx⟩ := s.kernelEnd_eq c code
  rw [hx, State.kernelOff_cellOnly]
  exact s.cellAt_setCell_other _ h

theorem State.reg_kernelEnd (off : Nat) : (s.kernelEnd c code).reg off = ((s.setCell c (s.cellAt c).ended).kernelOff c).reg off := by
  obtain ⟨x, h⟩ := s.kernelEnd_eq c code
  rw [h, State.reg, State.reg]

theorem State.getF_kernelEnd (f : Fld) (i : Nat) :
    (s.kernelEnd c code).getF f i = ((s.setCell c (s.cellAt c).ended).kernelOff c).getF f i := by
  rw [State.getF, State.reg_kernelEnd, State.getF]

/-- A register other than the cell's own state is as before. -/
theorem State.reg_kernelEnd_other {off : Nat} (h : off ≠ F.cellState_run.off c) : (s.kernelEnd c code).reg off = s.reg off := by
  have hkernel : off ≠ F.cellState_kernel.off c := h
  have hpriv : off ≠ F.cellState_priv.off c := h
  rw [State.reg_kernelEnd, State.kernelOff, State.reg_setF_other _ h, State.reg_setF_other _ hpriv, State.reg_setF_other _ hkernel]
  rfl

theorem State.cellRun_kernelEnd : (s.kernelEnd c code).cellRun c = 1 := by
  rw [State.cellRun, State.getF_kernelEnd, State.kernelOff, State.getF_setF_same _ _ _ _ (by decide)]
  rfl

theorem State.kernel_kernelEnd : (s.kernelEnd c code).getF F.cellState_kernel c = 0 := by
  rw [State.getF_kernelEnd, State.kernelOff, State.getF_setF_disjoint _ _ (by decide) (by decide),
    State.getF_setF_disjoint _ _ (by decide) (by decide), State.getF_setF_same _ _ _ _ (by decide)]
  rfl

theorem State.priv_kernelEnd : (s.kernelEnd c code).getF F.cellState_priv c = 0 := by
  rw [State.getF_kernelEnd, State.kernelOff, State.getF_setF_disjoint _ _ (by decide) (by decide),
    State.getF_setF_same _ _ _ _ (by decide)]
  rfl

theorem State.cellTenant_kernelEnd : (s.kernelEnd c code).cellTenant c = s.cellTenant c := by
  rw [State.cellTenant, State.getF_kernelEnd, State.kernelOff, State.getF_setF_disjoint _ _ (by decide) (by decide),
    State.getF_setF_disjoint _ _ (by decide) (by decide), State.getF_setF_disjoint _ _ (by decide) (by decide), State.getF_setCell,
    State.cellTenant]

theorem State.kernelEnd_cellOnly : s.kernelEnd c code =
    { s with cell := (s.kernelEnd c code).cell, regs := (s.kernelEnd c code).regs, sched := (s.kernelEnd c code).sched } := by
  obtain ⟨x, h⟩ := s.kernelEnd_eq c code
  rw [h, State.kernelOff_cellOnly]
  rfl

end KernelEnd

/-- The movers of a cell whose kernel has ended hold nothing queued, and what they run has no ticket. -/
theorem Cell.mv_ended {v : Cell} {e : Nat × Channel} (he : e ∈ v.ended.mv) :
    e.2.q.items = [] ∧ ∀ r, e.2.run = some r → r.orphan = true := by
  obtain ⟨e0, -, rfl⟩ := List.mem_map.1 he
  refine ⟨rfl, fun r hr => ?_⟩
  obtain ⟨r0, -, rfl⟩ := Option.map_eq_some_iff.1 hr
  rfl

/-- The fields of CELL_LAST_TRAP. -/
def lastTrapFields (cause pc kernel : Nat) : List (Nat × Nat × Nat) := [(0, 8, cause), (8, 23, pc), (31, 16, kernel)]

/-- The word that a trap leaves in CELL_LAST_TRAP. -/
def lastTrapWord (cause pc kernel : Nat) : Word :=
  BitVec.ofNat 64 (pack [(0, cause % 2 ^ 8), (8, pc % 2 ^ 23), (31, kernel % 2 ^ 16)])

/-- Each field of the word that a trap leaves reads what was put into it. -/
theorem fieldOf_lastTrapWord {cause pc kernel : Nat} {e : Nat × Nat × Nat} (he : e ∈ lastTrapFields cause pc kernel) :
    fieldOf (lastTrapWord cause pc kernel) e.1 e.2.1 = e.2.2 % 2 ^ e.2.1 := by
  have hlt := (pack_rise (lastTrapFields cause pc kernel) 0 rfl).2
  have hfield := pack_field (lastTrapFields cause pc kernel) 0 rfl e he
  have hword : (lastTrapWord cause pc kernel).toNat =
      pack ((lastTrapFields cause pc kernel).map fun e => (e.1, e.2.2 % 2 ^ e.2.1)) := by
    rw [lastTrapWord, BitVec.toNat_ofNat]
    exact Nat.mod_eq_of_lt hlt
  rw [fieldOf, hword]
  simpa using hfield

section Trap
variable (s : State) (c cause : Nat)

/-- The state in which a trap has been noted and its kernel still runs. -/
def State.trapNoted : State :=
  ((s.setReg (F.cellLastTrap_cause.off c) (lastTrapWord cause (s.cellAt c).pc.toNat (s.getF F.cellState_kernel c))).addF
    F.cellTrapCount_count 0 1).flag F.cellStatus_trap { s.cellNote c with arg := BitVec.ofNat 64 cause }

theorem State.trap_eq : s.trap c cause = (s.trapNoted c cause).kernelEnd c .aborted := by
  have hkernel : s.getF F.cellState_kernel c % 2 ^ 16 = s.getF F.cellState_kernel c := Nat.mod_eq_of_lt (fieldOf_lt _ _ _)
  simp only [State.trap, State.trapNoted, lastTrapWord, hkernel]
  rfl

theorem State.sram_trap : ((s.trap c cause).cellAt c).sram = (s.cellAt c).sram := by
  rw [State.trap_eq, State.cellAt_kernelEnd]
  simp [State.trapNoted, Cell.ended]

variable {c} (hc : c < 128)
include hc

theorem State.reg_lastTrap_trap : (s.trap c cause).reg (F.cellLastTrap_cause.off c) =
    lastTrapWord cause (s.cellAt c).pc.toNat (s.getF F.cellState_kernel c) := by
  have hrun : F.cellLastTrap_cause.off c ≠ F.cellState_run.off c := by
    simp only [Fld.off, F.cellLastTrap_cause, F.cellState_run]; omega
  have hrecord : F.cellLastTrap_cause.off c ∉ recordRegs := by
    simp only [recordRegs, Fld.off, F.cellLastTrap_cause, F.mgtFaultSeq_seq, F.mgtStatus_logLost, F.mgtLogLost_count, List.mem_cons,
      List.not_mem_nil, or_false]
    omega
  have hflag : F.cellLastTrap_cause.off c ≠ F.cellStatus_trap.off 0 := by
    simp only [Fld.off, F.cellLastTrap_cause, F.cellStatus_trap]; omega
  have hcount : F.cellLastTrap_cause.off c ≠ F.cellTrapCount_count.off 0 := by
    simp only [Fld.off, F.cellLastTrap_cause, F.cellTrapCount_count]; omega
  rw [State.trap_eq, State.reg_kernelEnd_other _ _ _ hrun, State.trapNoted, State.flag_reg _ _ _ _ _ hrecord hflag, State.addF,
    State.reg_setF_other _ hcount, State.reg_setReg_same]

theorem State.trapCount_trap : (s.trap c cause).getF F.cellTrapCount_count =
    min (s.getF F.cellTrapCount_count + 1) (2 ^ F.cellTrapCount_count.width - 1) := by
  have hrun : F.cellTrapCount_count.off 0 ≠ F.cellState_run.off c := by
    simp only [Fld.off, F.cellTrapCount_count, F.cellState_run]; omega
  have hlast : F.cellTrapCount_count.off 0 ≠ F.cellLastTrap_cause.off c := by
    simp only [Fld.off, F.cellLastTrap_cause, F.cellTrapCount_count]; omega
  have hbase : ∀ w, (s.setReg (F.cellLastTrap_cause.off c) w).getF F.cellTrapCount_count = s.getF F.cellTrapCount_count := by
    intro w
    simp only [State.getF, State.reg_setReg_other _ _ hlast]
  rw [State.trap_eq, State.getF, State.reg_kernelEnd_other _ _ _ hrun, ← State.getF, State.trapNoted,
    State.getF_flag_other _ _ (by decide) (by decide), State.addF, State.getF_setF_same _ _ _ _ (by decide), hbase]
  exact Nat.mod_eq_of_lt ((Nat.min_le_right _ _).trans_lt (by decide))

theorem State.flag_trap : (s.trap c cause).getF F.cellStatus_trap = 1 := by
  have hrun : F.cellStatus_trap.off 0 ≠ F.cellState_run.off c := by
    simp only [Fld.off, F.cellStatus_trap, F.cellState_run]; omega
  rw [State.trap_eq, State.getF, State.reg_kernelEnd_other _ _ _ hrun, ← State.getF, State.trapNoted]
  exact State.getF_flag_same _ _ _ _ (by decide) (by decide) rfl

end Trap

/-- Settles O18: each ending is an update of the one cell and its state register, and a trap notes itself before it ends the kernel. -/
theorem scalarEndings : Obligations.ScalarEndings := by
  unfold Obligations.ScalarEndings
  refine ⟨fun c rd w s => ?_, fun c k s => ?_, fun c rd w s => ?_, fun c code s => ?_, fun c cause s hc => ?_⟩
  · exact ⟨s.xr_retire c rd w, fun r => s.xr_retire_other c rd w, s.pc_retire c rd w, s.cellAt_retire_registers c rd w,
      fun k => s.cellAt_retire_other c rd w, rfl⟩
  · exact ⟨s.cellAt_stallCell c k, s.cellRun_stallCell c k, fun j => s.cellAt_stallCell_other c k, rfl⟩
  · exact ⟨s.cellAt_resume c rd w, s.cellRun_resume c rd w, fun j => s.cellAt_resume_other c rd w, rfl⟩
  · intro u
    have hcell : u.cellAt c = (s.cellAt c).ended := s.cellAt_kernelEnd c code
    rw [hcell]
    exact ⟨s.cellRun_kernelEnd c code, s.kernel_kernelEnd c code, s.priv_kernelEnd c code, s.cellTenant_kernelEnd c code, rfl, rfl, rfl,
      fun e he => Cell.mv_ended he, rfl, rfl, fun j => s.cellAt_kernelEnd_other c code, s.kernelEnd_cellOnly c code⟩
  · simp only [s.reg_lastTrap_trap cause hc]
    refine ⟨fieldOf_lastTrapWord (e := (0, 8, _)) (by simp [lastTrapFields]),
      fieldOf_lastTrapWord (e := (8, 23, _)) (by simp [lastTrapFields]), ?_, s.trapCount_trap cause hc, s.flag_trap cause hc, ?_,
      s.sram_trap c cause, State.mem_of_steady (by simp)⟩
    · exact (fieldOf_lastTrapWord (e := (31, 16, s.getF F.cellState_kernel c)) (by simp [lastTrapFields])).trans
        (Nat.mod_eq_of_lt (fieldOf_lt _ _ _))
    · rw [State.trap_eq]
      exact State.cellRun_kernelEnd _ _ _

/-! ### The scalar engine's own guard, and the end of a kernel (O19) -/

section OnScalar
variable {s : State} {c : Nat} (k : State → State)

theorem State.onScalar_absent (h : s.code.hasCell c = false) : s.onScalar c k = .fault .noSuchUnit := by
  simp [State.onScalar, withUnit, h]

theorem State.onScalar_busy (h : s.code.hasCell c = true) (hbusy : s.scalarFree c = false) : s.onScalar c k = .next s := by
  simp [State.onScalar, withUnit, h, hbusy]

theorem State.onScalar_free (h : s.code.hasCell c = true) (hfree : s.scalarFree c = true) :
    s.onScalar c k = .next (k s).finish := by
  simp [State.onScalar, withUnit, h, hfree]

end OnScalar

/-! What each command of the scalar engine runs. -/

section ScalarCommands
variable (c : Nat) (aq rl : Bool) (rd rs1 rs2 : XReg) (ch : BitVec 3) (q : BitVec 4) (cause : BitVec 8) (s : State)

theorem exec_scalarInstruction : exec (.scalarInstruction c aq) s = s.onScalar c fun s => if aq then s.sramUe c else s.scalarStep c := rfl

theorem exec_mxIssue : exec (.mxIssue c rd rs1) s = s.onScalar c fun s => s.issueInsn c 0 rd rs1 := rfl

theorem exec_vxIssue : exec (.vxIssue c rd rs1) s = s.onScalar c fun s => s.issueInsn c 1 rd rs1 := rfl

theorem exec_mvIssue : exec (.mvIssue c ch rd rs1) s = s.onScalar c fun s => s.issueInsn c (8 + ch.toNat) rd rs1 := rfl

theorem exec_engWait : exec (.engWait c q rd rs1) s = s.onScalar c fun s => s.waitInsn c q.toNat rd rs1 := rfl

theorem exec_engPoll : exec (.engPoll c q rd rs1) s = s.onScalar c fun s => s.pollInsn c q.toNat rd rs1 := rfl

theorem exec_flagLd : exec (.flagLd c aq rd rs1) s = s.onScalar c fun s => s.flagInsn c rs1 .ld aq rd := rfl

theorem exec_flagSt : exec (.flagSt c rl rs2 rs1) s = s.onScalar c fun s => s.flagInsn c rs1 (.st ((s.cellAt c).xr rs2)) false 0 := rfl

theorem exec_flagAdd : exec (.flagAdd c aq rl rd rs2 rs1) s = s.onScalar c fun s => s.flagInsn c rs1 (.add ((s.cellAt c).xr rs2)) aq rd :=
  rfl

theorem exec_flagMax : exec (.flagMax c aq rl rd rs2 rs1) s = s.onScalar c fun s => s.flagInsn c rs1 (.max ((s.cellAt c).xr rs2)) aq rd :=
  rfl

theorem exec_flagCas : exec (.flagCas c aq rl rd rs2 rs1) s = s.onScalar c fun s => s.flagInsn c rs1 (.cas ((s.cellAt c).xr rd) ((s.cellAt c).xr rs2)) aq rd :=
  rfl

theorem exec_flagWaitge : exec (.flagWaitge c aq rd rs2 rs1) s = s.onScalar c fun s => s.flagInsn c rs1 (.waitge ((s.cellAt c).xr rs2)) aq rd :=
  rfl

theorem exec_engRel : exec (.engRel c) s = s.onScalar c fun s => s.stallCell c (.rel none) := rfl

theorem exec_engAcq : exec (.engAcq c) s = s.onScalar c fun s => (s.acquire c).retire c 0 0 := rfl

theorem exec_waleRd : exec (.waleRd c rd) s = s.onScalar c fun s => s.retire c rd (s.wale.setWidth 64) := rfl

theorem exec_waleWait : exec (.waleWait c rd rs1) s = s.onScalar c fun s => s.waleInsn c rd rs1 := rfl

theorem exec_stimeRd : exec (.stimeRd c rd) s = s.onScalar c fun s => s.retire c rd s.stime := rfl

theorem exec_ecall : exec (.ecall c) s = s.onScalar c fun s => s.ecallInsn c := rfl

theorem exec_kernelTrap : exec (.kernelTrap c cause) s = s.onScalar c fun s => s.trap c cause.toNat := rfl

end ScalarCommands

/-- Settles O19: every command of the list is an instruction of the scalar engine, which its guard keeps from a cell that is absent or
busy. -/
theorem busyEnginesAndKernelEnds : Obligations.BusyEnginesAndKernelEnds := by
  unfold Obligations.BusyEnginesAndKernelEnds
  refine ⟨fun c aq rl rd rs1 rs2 ch q cause s i hi => ?_, fun c s hcell hfree => ⟨fun ha7 => ?_, fun ha7 => ?_, fun cause => ?_⟩⟩
  · have hscalar : ∃ k, exec i s = s.onScalar c k := by
      simp only [List.mem_cons, List.not_mem_nil, or_false] at hi
      rcases hi with rfl | rfl | rfl | rfl | rfl | rfl | rfl | rfl | rfl | rfl | rfl | rfl | rfl | rfl | rfl | rfl | rfl | rfl | rfl
      · exact ⟨_, exec_scalarInstruction ..⟩
      · exact ⟨_, exec_mxIssue ..⟩
      · exact ⟨_, exec_vxIssue ..⟩
      · exact ⟨_, exec_mvIssue ..⟩
      · exact ⟨_, exec_engWait ..⟩
      · exact ⟨_, exec_engPoll ..⟩
      · exact ⟨_, exec_flagLd ..⟩
      · exact ⟨_, exec_flagSt ..⟩
      · exact ⟨_, exec_flagAdd ..⟩
      · exact ⟨_, exec_flagMax ..⟩
      · exact ⟨_, exec_flagCas ..⟩
      · exact ⟨_, exec_flagWaitge ..⟩
      · exact ⟨_, exec_engRel ..⟩
      · exact ⟨_, exec_engAcq ..⟩
      · exact ⟨_, exec_waleRd ..⟩
      · exact ⟨_, exec_waleWait ..⟩
      · exact ⟨_, exec_stimeRd ..⟩
      · exact ⟨_, exec_ecall ..⟩
      · exact ⟨_, exec_kernelTrap ..⟩
    obtain ⟨k, hk⟩ := hscalar
    rw [hk]
    exact ⟨State.onScalar_absent k, State.onScalar_busy k⟩
  · rw [exec_ecall, State.onScalar_free _ hcell hfree]
    simp only [State.ecallInsn, ha7, if_true]
  · rw [exec_ecall, State.onScalar_free _ hcell hfree]
    simp only [State.ecallInsn, ha7, if_false]
  · rw [exec_kernelTrap, State.onScalar_free _ hcell hfree]

/-! ### ISSUE (O20) -/

section Queues
variable (v : Cell) (q : Nat) (n : Queue)

@[simp] theorem Cell.queue_setQueue_same : (v.setQueue q n).queue q = n := by
  unfold Cell.setQueue Cell.queue
  by_cases h0 : q = 0
  · simp only [h0, if_true]
  · by_cases h1 : q = 1
    · simp only [h1, if_true, if_false, one_ne_zero]
    · simp only [h0, h1, if_false, Table.get_put_same]

/-- Two queues apart: the matrix queue is 0, the vector queue 1, and the channels begin at 8. -/
theorem Cell.queue_setQueue_other {j : Nat} (h : j ≠ q) (hj : j ≤ 1 ∨ 8 ≤ j) (hq : q ≤ 1 ∨ 8 ≤ q) :
    (v.setQueue q n).queue j = v.queue j := by
  unfold Cell.setQueue Cell.queue
  by_cases h0 : q = 0
  · have hj0 : j ≠ 0 := fun e => h (e.trans h0.symm)
    simp only [h0, hj0, if_true, if_false]
  · by_cases h1 : q = 1
    · have hj1 : j ≠ 1 := fun e => h (e.trans h1.symm)
      simp only [h1, hj1, if_true, if_false, one_ne_zero]
    · have hchan : ¬ j = 0 → ¬ j = 1 → j - 8 ≠ q - 8 := by omega
      simp only [h0, h1, if_false]
      split
      · rfl
      · next hj0 =>
        split
        · rfl
        · next hj1 => rw [Table.get_put_other _ _ _ (hchan hj0 hj1)]

@[simp] theorem Cell.xr_setQueue (r : XReg) : (v.setQueue q n).xr r = v.xr r := by
  unfold Cell.setQueue; split_ifs <;> rfl

@[simp] theorem Cell.pc_setQueue : (v.setQueue q n).pc = v.pc := by
  unfold Cell.setQueue; split_ifs <;> rfl

@[simp] theorem Cell.sram_setQueue : (v.setQueue q n).sram = v.sram := by
  unfold Cell.setQueue; split_ifs <;> rfl

end Queues

section Issue
variable (s : State) (c q : Nat) (d : Line)

/-- The cell once a descriptor has entered one of its queues. -/
def Cell.issued (v : Cell) (q : Nat) (d : Line) : Cell := v.setQueue q ((v.queue q).issue d).2

theorem State.enqueueDesc_eq : s.enqueueDesc c q d =
    (((s.cellAt c).queue q).next, s.setCell c ((s.cellAt c).issued q d)) := rfl

theorem Cell.queue_issued (v : Cell) : (v.issued q d).queue q = ((v.queue q).issue d).2 := Cell.queue_setQueue_same _ _ _

variable {s c q} {rd rs1 : XReg}

theorem State.issueInsn_bad (h : ((s.cellAt c).xr rs1).toNat % 64 ≠ 0 ∨ 8388608 < ((s.cellAt c).xr rs1).toNat + 64) :
    s.issueInsn c q rd rs1 = s.trap c 5 := by
  have hbad : ((s.cellAt c).xr rs1).toNat % 64 ≠ 0 ∨ sramBytes - 63 ≤ ((s.cellAt c).xr rs1).toNat := by
    simp only [sramBytes]; omega
  rw [State.issueInsn, if_pos hbad]

variable (halign : ((s.cellAt c).xr rs1).toNat % 64 = 0) (hfit : ((s.cellAt c).xr rs1).toNat + 64 ≤ 8388608)
include halign hfit

theorem State.issueInsn_full (hfull : (s.cellAt c).queueFull q = true) : s.issueInsn c q rd rs1 =
    s.stallCell c (.issue q rd ((s.cellAt c).sram.line ((s.cellAt c).xr rs1).toNat)) := by
  have hgood : ¬ (((s.cellAt c).xr rs1).toNat % 64 ≠ 0 ∨ sramBytes - 63 ≤ ((s.cellAt c).xr rs1).toNat) := by
    simp only [sramBytes]; omega
  rw [State.issueInsn, if_neg hgood, if_pos hfull]

theorem State.issueInsn_room (hfull : (s.cellAt c).queueFull q = false) : s.issueInsn c q rd rs1 =
    (s.setCell c ((s.cellAt c).issued q ((s.cellAt c).sram.line ((s.cellAt c).xr rs1).toNat))).retire c rd
      (BitVec.ofNat 64 ((s.cellAt c).queue q).next) := by
  have hgood : ¬ (((s.cellAt c).xr rs1).toNat % 64 ≠ 0 ∨ sramBytes - 63 ≤ ((s.cellAt c).xr rs1).toNat) := by
    simp only [sramBytes]; omega
  rw [State.issueInsn, if_neg hgood, hfull]
  rfl

end Issue

/-- Settles O20: ISSUE traps, stalls, or puts the descriptor at the end of its queue and retires with the ticket. -/
theorem issueCompletes : Obligations.IssueCompletes := by
  unfold Obligations.IssueCompletes
  refine ⟨fun c rd rs1 s hcell hfree i q hi => ?_, fun c q rd l s hcell hstall => ⟨fun hfull => ?_, fun hfull => ?_⟩⟩
  · have hexec : exec i s = .next (s.issueInsn c q rd rs1).finish ∧ (q ≤ 1 ∨ 8 ≤ q) := by
      simp only [List.mem_cons, Prod.mk.injEq, List.not_mem_nil, or_false] at hi
      rcases hi with ⟨rfl, rfl⟩ | ⟨rfl, rfl⟩ | ⟨rfl, rfl⟩ | ⟨rfl, rfl⟩ | ⟨rfl, rfl⟩ | ⟨rfl, rfl⟩ | ⟨rfl, rfl⟩ | ⟨rfl, rfl⟩ | ⟨rfl, rfl⟩ |
        ⟨rfl, rfl⟩
      · exact ⟨(exec_mxIssue ..).trans (State.onScalar_free _ hcell hfree), by decide⟩
      · exact ⟨(exec_vxIssue ..).trans (State.onScalar_free _ hcell hfree), by decide⟩
      · exact ⟨(exec_mvIssue ..).trans (State.onScalar_free _ hcell hfree), by decide⟩
      · exact ⟨(exec_mvIssue ..).trans (State.onScalar_free _ hcell hfree), by decide⟩
      · exact ⟨(exec_mvIssue ..).trans (State.onScalar_free _ hcell hfree), by decide⟩
      · exact ⟨(exec_mvIssue ..).trans (State.onScalar_free _ hcell hfree), by decide⟩
      · exact ⟨(exec_mvIssue ..).trans (State.onScalar_free _ hcell hfree), by decide⟩
      · exact ⟨(exec_mvIssue ..).trans (State.onScalar_free _ hcell hfree), by decide⟩
      · exact ⟨(exec_mvIssue ..).trans (State.onScalar_free _ hcell hfree), by decide⟩
      · exact ⟨(exec_mvIssue ..).trans (State.onScalar_free _ hcell hfree), by decide⟩
    obtain ⟨hexec, hq⟩ := hexec
    rw [hexec]
    refine ⟨fun hbad => ?_, fun halign hfit hfull => ?_, fun halign hfit hfull => ⟨_, rfl, ?_⟩⟩
    · rw [State.issueInsn_bad hbad]
    · rw [State.issueInsn_full halign hfit hfull]
    · rw [State.issueInsn_room halign hfit hfull]
      simp only [State.cellAt_retire, State.cellAt_setCell_same, Cell.queue_step4, Cell.setX_queue, Cell.xr_step4,
        Cell.xr_setX, Cell.pc_step4, Cell.setX_pc, Cell.sram_step4, Cell.setX_sram, Cell.issued, Cell.pc_setQueue, Cell.sram_setQueue,
        Cell.queue_setQueue_same, if_true]
      refine ⟨rfl, rfl, fun j hj hne => ?_, trivial, trivial, trivial, rfl, rfl⟩
      have hj' : j ≤ 1 ∨ 8 ≤ j := by
        simp only [List.mem_cons, List.not_mem_nil, or_false] at hj
        omega
      exact Cell.queue_setQueue_other _ _ _ hne hj' hq
  · change withUnit (s.code.hasCell c) (.next (s.slotFree c).finish) = _
    simp only [withUnit, hcell, State.slotFree, hstall, hfull, if_true]
  · refine ⟨(s.setCell c ((s.cellAt c).issued q l)).resume c rd (BitVec.ofNat 64 ((s.cellAt c).queue q).next), ?_, ?_⟩
    · change withUnit (s.code.hasCell c) (.next (s.slotFree c).finish) = _
      simp only [withUnit, hcell, State.slotFree, hstall, hfull, State.enqueueDesc_eq, if_true, Bool.false_eq_true, if_false]
    · refine ⟨?_, State.stall_resume _ _ _ _, State.cellRun_resume _ _ _ _, State.xr_resume _ _ _ _, rfl⟩
      have hqueue : ∀ v : Cell, ({ v with stall := .none } : Cell).queue q = v.queue q := fun v => rfl
      simp only [State.cellAt_resume, hqueue, State.cellAt_retire, State.cellAt_setCell_same, Cell.queue_step4, Cell.setX_queue,
        Cell.queue_issued]
      rfl

end Sys2Proof.Machine

end

section

namespace Sys2Proof.Machine

/-! ### Waits, polls and releases (O21) -/

theorem withUnit_of_present {b : Bool} (h : b = true) (o : Host.Outcome State Fault Refusal) : withUnit b o = o := by
  rw [withUnit, h, if_pos rfl]

theorem queueOk_of_defined {q : Nat} (h : q ≤ 1 ∨ 8 ≤ q) : queueOk q = true := by
  simp only [queueOk, Bool.or_eq_true, beq_iff_eq, decide_eq_true_eq]
  omega

theorem queueOk_of_reserved {q : Nat} (hlo : 1 < q) (hhi : q < 8) : queueOk q = false := by
  simp only [queueOk, Bool.or_eq_false_iff, beq_eq_false_iff_ne, decide_eq_false_iff_not]
  omega

section WaitCommands
variable (c : Nat) (s : State)

theorem exec_engWaitResume : exec (.engWaitResume c) s = withUnit (s.code.hasCell c) (.next (s.ticketEnded c).finish) := rfl

theorem exec_waitTimeout : exec (.waitTimeout c) s = withUnit (s.code.hasCell c) (.next (s.waitEnds c).finish) := rfl

theorem exec_engRelRetire : exec (.engRelRetire c) s =
    withUnit (s.code.hasCell c) (.next (if s.relMet c then (s.resume c 0 0).finish else s)) := rfl

theorem exec_waleWaitResume : exec (.waleWaitResume c) s = withUnit (s.code.hasCell c) (.next (s.waleReached c).finish) := rfl

theorem exec_flagWaitgeResume : exec (.flagWaitgeResume c) s = withUnit (s.code.hasCell c) (.next (s.flagReached c).finish) := rfl

theorem exec_engRelTimeout {f : Option Nat} (h : s.code.hasCell c = true) (hstall : (s.cellAt c).stall = .rel f) :
    exec (.engRelTimeout c) s =
      .next (State.finish ((s.flag F.cellStatus_waitTimeout (s.cellNote c)).kernelEnd c .aborted)) := by
  change execEngRelTimeout c s = _
  rw [execEngRelTimeout, withUnit_of_present h, hstall]

end WaitCommands

section Waits
variable {s : State} {c q t : Nat} {rd rs1 : XReg}

theorem State.waitInsn_reserved (h : queueOk q = false) : s.waitInsn c q rd rs1 = s.trap c 2 := by
  simp [State.waitInsn, h]

theorem State.pollInsn_reserved (h : queueOk q = false) : s.pollInsn c q rd rs1 = s.trap c 2 := by
  simp [State.pollInsn, h]

section Ended
variable {w : Word} (hw : (s.cellAt c).ticketResult q (((s.cellAt c).xr rs1).toNat % 65536) = some w) (h : queueOk q = true)
include hw h

theorem State.waitInsn_ended : s.waitInsn c q rd rs1 = (s.acquire c).retire c rd w := by
  simp [State.waitInsn, h, hw]

theorem State.pollInsn_ended : s.pollInsn c q rd rs1 = (s.acquire c).retire c rd w := by
  simp [State.pollInsn, h, hw]

end Ended

section NotEnded
variable (hw : (s.cellAt c).ticketResult q (((s.cellAt c).xr rs1).toNat % 65536) = none) (h : queueOk q = true)
include hw h

theorem State.waitInsn_open : s.waitInsn c q rd rs1 = s.stallCell c (.engWait q (((s.cellAt c).xr rs1).toNat % 65536) rd) := by
  simp [State.waitInsn, h, hw]

theorem State.pollInsn_open : s.pollInsn c q rd rs1 = s.retire c rd (BitVec.allOnes 64) := by
  simp [State.pollInsn, h, hw]

end NotEnded

theorem State.waitEnds_engWait (h : (s.cellAt c).stall = .engWait q t rd) : s.waitEnds c =
    ((s.acquire c).resume c rd (resultWord Code.aborted.num false false 0)).flag F.cellStatus_waitTimeout
      (((s.acquire c).resume c rd (resultWord Code.aborted.num false false 0)).cellNote c) := by
  simp [State.waitEnds, h]

end Waits

theorem fieldOf_resultWord_aborted : fieldOf (resultWord Code.aborted.num false false 0) 0 8 = Code.aborted.num := by decide

theorem State.cellAt_acquire (s : State) (c : Nat) : (s.acquire c).cellAt c = { s.cellAt c with dcache := [] } :=
  s.cellAt_onCellAt_same c _

theorem State.cellAt_acquire_other (s : State) (c : Nat) {k : Nat} (h : k ≠ c) : (s.acquire c).cellAt k = s.cellAt k :=
  s.cellAt_onCellAt_other _ h

theorem State.getF_waitTimeout (s : State) (n : Note) : (s.flag F.cellStatus_waitTimeout n).getF F.cellStatus_waitTimeout = 1 :=
  State.getF_flag_same _ _ _ _ (by decide) (by decide) rfl

/-- ENG.WAIT and ENG.POLL, of O21. -/
theorem waitAndPoll (c : Nat) (q : BitVec 4) (rd rs1 : XReg) (s : State) (hcell : s.code.hasCell c = true)
    (hfree : s.scalarFree c = true) :
    exec (.engWait c q rd rs1) s = .next (s.waitInsn c q.toNat rd rs1).finish ∧
      exec (.engPoll c q rd rs1) s = .next (s.pollInsn c q.toNat rd rs1).finish :=
  ⟨(exec_engWait ..).trans (State.onScalar_free _ hcell hfree), (exec_engPoll ..).trans (State.onScalar_free _ hcell hfree)⟩

/-- Settles O21: each wait is its instruction's equation, by whether its ticket, its fence or its wale has come. -/
theorem waitsAndReleasesComplete : Obligations.WaitsAndReleasesComplete := by
  unfold Obligations.WaitsAndReleasesComplete
  refine ⟨⟨fun c q rd rs1 s hcell hfree => ?_, fun c q t rd s hcell hstall => ?_, fun c s => s.cellAt_acquire c⟩,
    fun c rd rs1 s hcell hfree => ?_, fun c s hcell => ⟨fun id hstall => ?_, fun f hstall => ?_, fun rd t hstall => ?_⟩⟩
  · obtain ⟨hwait, hpoll⟩ := waitAndPoll c q rd rs1 s hcell hfree
    rw [hwait, hpoll]
    refine ⟨fun hlo hhi => ?_, fun hq => ⟨fun w hw => ?_, fun hw => ?_⟩⟩
    · rw [State.waitInsn_reserved (queueOk_of_reserved hlo hhi), State.pollInsn_reserved (queueOk_of_reserved hlo hhi)]
      exact ⟨rfl, rfl⟩
    · rw [State.waitInsn_ended hw (queueOk_of_defined hq), State.pollInsn_ended hw (queueOk_of_defined hq)]
      exact ⟨rfl, rfl⟩
    · rw [State.waitInsn_open hw (queueOk_of_defined hq), State.pollInsn_open hw (queueOk_of_defined hq)]
      exact ⟨rfl, rfl⟩
  · rw [exec_engWaitResume, withUnit_of_present hcell, exec_waitTimeout, withUnit_of_present hcell]
    refine ⟨fun w hw => ?_, fun hw => ?_, _, rfl, ?_⟩
    · simp only [State.ticketEnded, hstall, hw]
    · simp only [State.ticketEnded, hstall, hw]
    · rw [State.waitEnds_engWait hstall]
      refine ⟨?_, ?_, State.getF_waitTimeout _ _, State.mem_of_steady (by simp)⟩
      · rw [State.cellAt_flag, State.stall_resume]
      · rw [State.cellAt_flag, State.xr_resume]
        split
        · rfl
        · exact fieldOf_resultWord_aborted
  · rw [exec_engRel, exec_engAcq, exec_waleRd, exec_stimeRd, exec_waleWait]
    simp only [State.onScalar_free _ hcell hfree, State.waleInsn]
    refine ⟨trivial, trivial, trivial, trivial, fun ht => ?_, fun ht => ?_⟩
    · rw [if_pos ht]
    · rw [if_neg (by omega)]
  · rw [exec_engRelRetire, withUnit_of_present hcell]
    refine ⟨fun hquiet hfence => ?_, fun hnot => ?_⟩
    · simp [State.relMet, hstall, hquiet, hfence]
    · have hmet : s.relMet c = false := by
        rcases hnot with hquiet | hfence
        · simp [State.relMet, hstall, hquiet]
        · have hopen : (s.fence id).isNone = false := by simpa [Option.ne_none_iff_isSome] using hfence
          simp [State.relMet, hstall, hopen]
      rw [hmet]
      rfl
  · exact exec_engRelTimeout c s hcell hstall
  · rw [exec_waleWaitResume, withUnit_of_present hcell]
    simp only [State.waleReached, hstall]
    refine ⟨fun ht => ?_, fun ht => ?_⟩
    · rw [if_pos ht]
    · rw [if_neg (by omega)]

end Sys2Proof.Machine

end

section

namespace Sys2Proof

/-! ### Bytes that are read back -/

theorem leNat_leBytes (n : Nat) : ∀ v, leNat (leBytes n v) = v % 256 ^ n := by
  induction n with
  | zero => intro v; simp [leBytes, leNat, Nat.mod_one]
  | succ n ih =>
    intro v
    have hbyte : (BitVec.ofNat 8 v).toNat = v % 256 := BitVec.toNat_ofNat ..
    rw [leBytes, leNat, ih, hbyte, Nat.pow_succ', Nat.mod_mul]

@[simp] theorem length_leBytes (n : Nat) : ∀ v, (leBytes n v).length = n := by
  induction n with
  | zero => exact fun _ => rfl
  | succ n ih => exact fun v => congrArg (· + 1) (ih _)

/-- Equal bytes give equal runs of bytes. -/
theorem Mem.bytes_congr {m m' : Mem} (n : Nat) : ∀ a, (∀ b, a ≤ b → b < a + n → m.byte b = m'.byte b) → m.bytes a n = m'.bytes a n := by
  induction n with
  | zero => exact fun _ _ => rfl
  | succ n ih =>
    intro a h
    rw [Mem.bytes, Mem.bytes, h a (by omega) (by omega), ih (a + 1) fun b hlo hhi => h b (by omega) (by omega)]

/-- The bytes that were written are read. -/
theorem Mem.bytes_setBytes_same (bs : List Byte) : ∀ (m : Mem) (a : Nat), (m.setBytes a bs).bytes a bs.length = bs := by
  induction bs with
  | nil => exact fun _ _ => rfl
  | cons b r ih =>
    intro m a
    rw [List.length_cons, Mem.bytes, Mem.setBytes, ih, Mem.byte_setBytes_other _ _ _ _ (by omega), Mem.byte_setByte_same]

@[simp] theorem Mem.word_setBytes_leBytes (m : Mem) (a : Nat) (w : Word) : (m.setBytes a (leBytes 8 w.toNat)).word a = w := by
  have hbytes := Mem.bytes_setBytes_same (leBytes 8 w.toNat) m a
  rw [length_leBytes] at hbytes
  have hlt : w.toNat < 256 ^ 8 := w.isLt
  rw [Mem.word, hbytes, leNat_leBytes, Nat.mod_eq_of_lt hlt, BitVec.ofNat_toNat, BitVec.setWidth_eq]

end Sys2Proof

namespace Sys2Proof.Machine

/-! ### Flag instructions (O22) -/

theorem State.stall_of_scalarFree {s : State} {c : Nat} (h : s.scalarFree c = true) : (s.cellAt c).stall = .none := by
  rw [State.scalarFree, Bool.and_eq_true, beq_iff_eq, beq_iff_eq] at h
  exact h.2

section FlagInsn
variable {s : State} {c : Nat} {rs1 : XReg} (o : FlagOp) (aq : Bool) (rd : XReg) (hlt : ((s.cellAt c).xr rs1).toNat < 8388608)
include hlt

theorem State.flagInsn_misaligned (h : ((s.cellAt c).xr rs1).toNat % 8 ≠ 0) :
    s.flagInsn c rs1 o aq rd = s.trap c (if o.isLoad then 4 else 6) := by
  have hin : ¬ sramBytes ≤ ((s.cellAt c).xr rs1).toNat := by simp only [sramBytes]; omega
  rw [State.flagInsn, if_neg hin, if_pos h]

theorem State.flagInsn_aligned (h : ((s.cellAt c).xr rs1).toNat % 8 = 0) :
    s.flagInsn c rs1 o aq rd = s.flagAt c ((s.cellAt c).xr rs1).toNat o aq rd := by
  have hin : ¬ sramBytes ≤ ((s.cellAt c).xr rs1).toNat := by simp only [sramBytes]; omega
  rw [State.flagInsn, if_neg hin, if_neg (by omega)]

end FlagInsn

/-- Does the flag operation never wait? -/
def FlagOp.immediate : FlagOp → Bool
  | .waitge _ => false
  | _ => true

/-- The register that a flag operation writes: FLAG.ST writes none. -/
def FlagOp.dest (o : FlagOp) (rd : XReg) : XReg :=
  match o with
  | .st _ => 0
  | _ => rd

/-- What a flag operation writes to its register. -/
def FlagOp.value (o : FlagOp) (old : Word) : Word :=
  match o with
  | .st _ => 0
  | _ => old

/-- The cell after a flag operation has written its flag and emptied the data cache. -/
def Cell.flagStored (v : Cell) (off : Nat) (o : FlagOp) (aq : Bool) : Cell :=
  let u := if o.writes then v.storeBytes off (leBytes 8 (o.result (v.sram.word off)).toNat) else v
  if aq then { u with dcache := [] } else u

section FlagStored
variable (v : Cell) (off : Nat) (o : FlagOp) (aq : Bool)

theorem Cell.flagStored_parts : ((v.flagStored off o aq).x, (v.flagStored off o aq).pc, (v.flagStored off o aq).stall) =
    (v.x, v.pc, v.stall) := by
  unfold Cell.flagStored
  split_ifs <;> rfl

theorem Cell.xr_flagStored (r : XReg) : (v.flagStored off o aq).xr r = v.xr r := by
  have hx : (v.flagStored off o aq).x = v.x := congrArg (·.1) (v.flagStored_parts off o aq)
  rw [Cell.xr, Cell.xr, hx]

theorem Cell.pc_flagStored : (v.flagStored off o aq).pc = v.pc := congrArg (·.2.1) (v.flagStored_parts off o aq)

theorem Cell.stall_flagStored : (v.flagStored off o aq).stall = v.stall := congrArg (·.2.2) (v.flagStored_parts off o aq)

theorem Cell.dcache_flagStored : (v.flagStored off o true).dcache = [] := rfl

theorem Cell.sram_flagStored : (v.flagStored off o aq).sram =
    if o.writes then v.sram.setBytes off (leBytes 8 (o.result (v.sram.word off)).toNat) else v.sram := by
  unfold Cell.flagStored
  split_ifs <;> rfl

/-- The flag holds the operation's result. -/
theorem Cell.word_flagStored : (v.flagStored off o aq).sram.word off = o.result (v.sram.word off) := by
  rw [Cell.sram_flagStored]
  cases hw : o.writes with
  | true => rw [if_pos rfl, Mem.word_setBytes_leBytes]
  | false => cases o with
    | ld => rfl
    | waitge t => rfl
    | st x => cases hw
    | add x => cases hw
    | max x => cases hw
    | cas old new => cases hw

theorem Cell.byte_flagStored_other {a : Nat} (h : a < off ∨ off + 8 ≤ a) : (v.flagStored off o aq).sram.byte a = v.sram.byte a := by
  rw [Cell.sram_flagStored]
  split
  · exact Mem.byte_setBytes_other _ _ _ _ (by rwa [length_leBytes])
  · rfl

end FlagStored

/-- Nothing but cell `c` differs from `s`. -/
def State.cellOnly (s : State) (c : Nat) (u : State) : Prop :=
  (∀ k, k ≠ c → u.cellAt k = s.cellAt k) ∧ u = { s with cell := u.cell }

theorem State.cellOnly_refl (s : State) (c : Nat) : s.cellOnly c s := ⟨fun _ _ => rfl, rfl⟩

theorem State.cellOnly_onCellAt {s u : State} {c : Nat} (h : s.cellOnly c u) (g : Cell → Cell) : s.cellOnly c (u.onCellAt c g) := by
  obtain ⟨hcells, hrest⟩ := h
  refine ⟨fun k hk => (u.cellAt_onCellAt_other g hk).trans (hcells k hk), ?_⟩
  rw [hrest]
  rfl

section FlagAt
variable (s : State) (c off : Nat) {o : FlagOp} (aq : Bool) (rd : XReg) (h : o.immediate = true)
include h

theorem State.flagAt_immediate : s.flagAt c off o aq rd =
    ((fun u : State => if aq then u.acquire c else u)
      (if o.writes then s.onCellAt c fun v => v.storeBytes off (leBytes 8 (o.result ((s.cellAt c).sram.word off)).toNat) else s)).retire c
      (o.dest rd) (o.value ((s.cellAt c).sram.word off)) := by
  cases o with
  | waitge t => cases h
  | ld => rfl
  | st v => rfl
  | add v => rfl
  | max v => rfl
  | cas cmp new => rfl

theorem State.cellOnly_flagAt : s.cellOnly c (s.flagAt c off o aq rd) := by
  rw [State.flagAt_immediate s c off aq rd h]
  refine State.cellOnly_onCellAt ?_ _
  have hstore : s.cellOnly c
      (if o.writes then s.onCellAt c fun v => v.storeBytes off (leBytes 8 (o.result ((s.cellAt c).sram.word off)).toNat) else s) := by
    split
    · exact State.cellOnly_onCellAt (s.cellOnly_refl c) _
    · exact s.cellOnly_refl c
  cases aq with
  | false => exact hstore
  | true => exact State.cellOnly_onCellAt hstore fun v => { v with dcache := [] }

theorem State.cellAt_flagAt : (s.flagAt c off o aq rd).cellAt c =
    (((s.cellAt c).flagStored off o aq).setX (o.dest rd) (o.value ((s.cellAt c).sram.word off))).step4 := by
  rw [State.flagAt_immediate s c off aq rd h, State.cellAt_retire]
  have hcell : ∀ u : State, u.cellAt c = (if o.writes then (s.cellAt c).storeBytes off
      (leBytes 8 (o.result ((s.cellAt c).sram.word off)).toNat) else s.cellAt c) →
      (if aq then u.acquire c else u).cellAt c = (s.cellAt c).flagStored off o aq := by
    intro u hu
    cases aq with
    | false => exact hu
    | true => rw [if_pos rfl, State.cellAt_acquire, hu]; rfl
  rw [hcell]
  split
  · exact State.cellAt_onCellAt_same ..
  · rfl

end FlagAt

section FlagCommands
variable {s : State} {c : Nat} {rs1 : XReg}

/-- What a flag instruction that does not wait leaves of its cell. -/
theorem State.flagInsn_effect {o : FlagOp} (aq : Bool) (rd : XReg) (h : o.immediate = true) (hfree : s.scalarFree c = true)
    (hlt : ((s.cellAt c).xr rs1).toNat < 8388608) (halign : ((s.cellAt c).xr rs1).toNat % 8 = 0) :
    let v := s.cellAt c
    let off := (v.xr rs1).toNat
    let u := s.flagInsn c rs1 o aq rd
    (u.cellAt c).sram.word off = o.result (v.sram.word off) ∧
      (∀ a, a < off ∨ off + 8 ≤ a → (u.cellAt c).sram.byte a = v.sram.byte a) ∧
      (u.cellAt c).xr (o.dest rd) = (if o.dest rd = 0 then 0 else o.value (v.sram.word off)) ∧
      (∀ r, r ≠ o.dest rd → (u.cellAt c).xr r = v.xr r) ∧ (u.cellAt c).pc = v.pc + 4 ∧ (aq = true → (u.cellAt c).dcache = []) ∧
      (u.cellAt c).stall = .none ∧ (∀ k, k ≠ c → u.cellAt k = s.cellAt k) ∧ u = { s with cell := u.cell } := by
  intro v off u
  have hu : u = s.flagAt c off o aq rd := State.flagInsn_aligned o aq rd hlt halign
  have hcell : u.cellAt c = ((v.flagStored off o aq).setX (o.dest rd) (o.value (v.sram.word off))).step4 := by
    rw [hu, State.cellAt_flagAt s c off aq rd h]
  obtain ⟨hcells, hrest⟩ := hu ▸ State.cellOnly_flagAt s c off aq rd h
  have hstep : ∀ w : Cell, w.step4.stall = w.stall := fun _ => rfl
  simp only [hcell, Cell.sram_step4, Cell.setX_sram, Cell.word_flagStored, Cell.xr_step4, Cell.xr_setX, if_true, Cell.pc_step4,
    Cell.setX_pc, Cell.pc_flagStored, Cell.dcache_step4, Cell.setX_dcache, hstep, Cell.setX_stall, Cell.stall_flagStored,
    Cell.xr_flagStored]
  refine ⟨trivial, fun a ha => Cell.byte_flagStored_other _ _ _ _ ha, trivial, fun r hr => if_neg hr, trivial, fun haq => ?_,
    State.stall_of_scalarFree hfree, hcells, hrest⟩
  rw [haq, Cell.dcache_flagStored]

theorem State.flagAt_waitge_reached {off : Nat} {t : Word} (aq : Bool) (rd : XReg) (h : t.toNat ≤ ((s.cellAt c).sram.word off).toNat) :
    s.flagAt c off (.waitge t) aq rd = (if aq then s.acquire c else s).retire c rd ((s.cellAt c).sram.word off) := by
  simp [State.flagAt, h, FlagOp.writes, FlagOp.returns]

theorem State.flagAt_waitge_below {off : Nat} {t : Word} (aq : Bool) (rd : XReg) (h : ((s.cellAt c).sram.word off).toNat < t.toNat) :
    s.flagAt c off (.waitge t) aq rd = s.stallCell c (.flagWait off t aq rd) := by
  simp [State.flagAt, Nat.not_le.2 h]

end FlagCommands

/-- The instruction, its acquire bit, its destination and the value it leaves in the flag, of each flag operation that does not wait. -/
def flagCommands (c : Nat) (aq rl : Bool) (rd rs1 rs2 : XReg) (v : Cell) (old x : Word) : List (Instr × Bool × XReg × Word) :=
  [(.flagLd c aq rd rs1, aq, rd, old), (.flagSt c rl rs2 rs1, false, 0, x), (.flagAdd c aq rl rd rs2 rs1, aq, rd, old + x),
    (.flagMax c aq rl rd rs2 rs1, aq, rd, if old.toNat < x.toNat then x else old),
    (.flagCas c aq rl rd rs2 rs1, aq, rd, if old = v.xr rd then x else old)]

/-- Each of them runs its operation. -/
theorem flagOp_of_command {c : Nat} {aq rl : Bool} {rd rs1 rs2 : XReg} {s : State} (hcell : s.code.hasCell c = true)
    (hfree : s.scalarFree c = true) {i : Instr} {acq : Bool} {dest : XReg} {new old : Word}
    (hi : (i, acq, dest, new) ∈ flagCommands c aq rl rd rs1 rs2 (s.cellAt c) old ((s.cellAt c).xr rs2)) :
    ∃ o : FlagOp, o.immediate = true ∧ exec i s = .next (s.flagInsn c rs1 o acq dest).finish ∧ o.dest dest = dest ∧
      o.result old = new ∧ (dest = 0 ∨ o.value old = old) ∧ (o.isLoad = true ↔ i = .flagLd c aq rd rs1) := by
  simp only [flagCommands, List.mem_cons, Prod.mk.injEq, List.not_mem_nil, or_false] at hi
  rcases hi with ⟨rfl, rfl, rfl, rfl⟩ | ⟨rfl, rfl, rfl, rfl⟩ | ⟨rfl, rfl, rfl, rfl⟩ | ⟨rfl, rfl, rfl, rfl⟩ | ⟨rfl, rfl, rfl, rfl⟩
  · exact ⟨.ld, rfl, (exec_flagLd ..).trans (State.onScalar_free _ hcell hfree), rfl, rfl, .inr rfl, by simp [FlagOp.isLoad]⟩
  · exact ⟨.st _, rfl, (exec_flagSt ..).trans (State.onScalar_free _ hcell hfree), rfl, rfl, .inl rfl, by simp [FlagOp.isLoad]⟩
  · exact ⟨.add _, rfl, (exec_flagAdd ..).trans (State.onScalar_free _ hcell hfree), rfl, rfl, .inr rfl, by simp [FlagOp.isLoad]⟩
  · exact ⟨.max _, rfl, (exec_flagMax ..).trans (State.onScalar_free _ hcell hfree), rfl, rfl, .inr rfl, by simp [FlagOp.isLoad]⟩
  · exact ⟨.cas _ _, rfl, (exec_flagCas ..).trans (State.onScalar_free _ hcell hfree), rfl, rfl, .inr rfl, by simp [FlagOp.isLoad]⟩

/-- Settles O22: a flag operation reads the flag, stores its result and retires; a WAITGE below its target stalls. -/
theorem flagsComplete : Obligations.FlagsComplete := by
  unfold Obligations.FlagsComplete
  refine ⟨?_, ?_, ?_⟩
  · intro c aq rl rd rs1 rs2 s hcell hfree v off old x i acq dest new hi
    obtain ⟨o, himm, hexec, hdest, hresult, hvalue, hload⟩ := flagOp_of_command hcell hfree hi
    rw [hexec]
    refine ⟨fun halign hlt => ⟨_, rfl, ?_⟩, fun hmis hlt => ?_⟩
    · obtain ⟨hword, hbyte, hxr, hrest⟩ := State.flagInsn_effect acq dest himm hfree hlt halign
      rw [hdest] at hxr hrest
      refine ⟨hword.trans hresult, hbyte, hxr.trans ?_, hrest⟩
      rcases hvalue with hzero | hvalue
      · rw [if_pos hzero, if_pos hzero]
      · rw [hvalue]
    · rw [State.flagInsn_misaligned o acq dest hlt hmis]
      simp only [hload]
  · intro c aq rd rs1 rs2 s hcell hfree v off t hlt
    rw [exec_flagWaitge, State.onScalar_free _ hcell hfree]
    refine ⟨fun hmis => ?_, fun halign hle => ?_, fun halign hgt => ?_⟩
    · rw [State.flagInsn_misaligned _ _ _ hlt hmis]
      rfl
    · rw [State.flagInsn_aligned _ _ _ hlt halign, State.flagAt_waitge_reached aq rd hle]
    · rw [State.flagInsn_aligned _ _ _ hlt halign, State.flagAt_waitge_below aq rd hgt]
  · intro c off t aq rd s hcell hstall hin w u
    have hsram : inSram off 8 = true := by simpa [inSram, sramBytes] using hin
    rw [exec_flagWaitgeResume, exec_waitTimeout, withUnit_of_present hcell, withUnit_of_present hcell]
    simp only [State.flagReached, State.waitEnds, hstall, hsram, true_and, if_true]
    refine ⟨fun hle => ?_, fun hgt => ?_, rfl⟩
    · rw [if_pos hle]
    · rw [if_neg (Nat.not_le.2 hgt)]

end Sys2Proof.Machine

end

section

namespace Sys2Proof

/-! ### Runs of bytes inside a line -/

theorem leNat_bytes_lt (m : Mem) (n : Nat) : ∀ a, leNat (m.bytes a n) < 256 ^ n := by
  induction n with
  | zero => exact fun _ => Nat.one_pos
  | succ n ih =>
    intro a
    have hbyte : (m.byte a).toNat < 256 := (m.byte a).isLt
    have hrest := ih (a + 1)
    rw [Mem.bytes, leNat, Nat.pow_succ']
    omega

theorem leNat_bytes_add (m : Mem) (k n : Nat) : ∀ a, leNat (m.bytes a (k + n)) = leNat (m.bytes a k) + 256 ^ k * leNat (m.bytes (a + k) n) := by
  induction k with
  | zero => intro a; simp [Mem.bytes, leNat]
  | succ k ih =>
    intro a
    rw [show k + 1 + n = (k + n) + 1 by omega, Mem.bytes, Mem.bytes, leNat, leNat, ih (a + 1), show a + 1 + k = a + (k + 1) by omega,
      Nat.pow_succ']
    ring

theorem pow_256 (n : Nat) : 256 ^ n = 2 ^ (8 * n) := (Nat.pow_mul 2 8 n).symm

/-- A line's 64 bytes. -/
theorem pow_256_64 : 256 ^ 64 = 2 ^ 512 := by
  simpa only [Nat.reduceMul] using pow_256 64

theorem Mem.toNat_line (m : Mem) (a : Nat) : (m.line a).toNat = leNat (m.bytes a 64) := by
  have hmod : leNat (m.bytes a 64) % 2 ^ 512 = leNat (m.bytes a 64) := by
    rw [← pow_256_64, Nat.mod_eq_of_lt (leNat_bytes_lt m 64 a)]
  rw [Mem.line, BitVec.toNat_ofNat, hmod]

/-- A field of whole bytes of a line is the bytes that lie there. -/
theorem lineField_line (m : Mem) (a : Nat) {k n : Nat} (h : k + n ≤ 64) :
    lineField (m.line a) (8 * k) (8 * n) = leNat (m.bytes (a + k) n) := by
  have hk : 2 ^ (8 * k) = 256 ^ k := Nat.pow_mul 2 8 k
  have hn : 2 ^ (8 * n) = 256 ^ n := Nat.pow_mul 2 8 n
  have hsplit : leNat (m.bytes a 64) = leNat (m.bytes a k) +
      256 ^ k * (leNat (m.bytes (a + k) n) + 256 ^ n * leNat (m.bytes (a + k + n) (64 - (k + n)))) := by
    rw [← leNat_bytes_add, ← leNat_bytes_add]
    congr 2
    omega
  rw [lineField, Mem.toNat_line, Nat.shiftRight_eq_div_pow, hk, hn, hsplit, Nat.add_mul_div_left _ _ (Nat.pow_pos (by decide)),
    Nat.div_eq_of_lt (leNat_bytes_lt m k a), Nat.zero_add, Nat.add_mul_mod_self_left, Nat.mod_eq_of_lt (leNat_bytes_lt m n _)]

end Sys2Proof

namespace Sys2Proof.Machine

/-! ### A scalar instruction at the pc (O23) -/

/-- A number's low 12 bits with their sign, as an immediate and as a bit vector. -/
theorem ofNat_sext_12 (v : Nat) : BitVec.ofNat 64 (sext 12 (v % 2 ^ 12)) = (BitVec.ofNat 12 v).signExtend 64 := by
  have hsigned : signedNat 12 (v % 2 ^ 12) = (BitVec.ofNat 12 v).toInt := by
    rw [BitVec.toInt_eq_toNat_cond, BitVec.toNat_ofNat, signedNat]
    have hlt : v % 2 ^ 12 < 2 ^ (12 - 1) ↔ 2 * (v % 2 ^ 12) < 2 ^ 12 := by omega
    simp only [hlt]
  have hlow : ∀ z : Int, BitVec.ofNat 64 (lowBits 64 z) = BitVec.ofInt 64 z := by
    intro z
    apply BitVec.eq_of_toNat_eq
    rw [BitVec.toNat_ofNat, BitVec.toNat_ofInt, lowBits]
    omega
  rw [sext, Nat.mod_mod, hsigned, hlow, BitVec.signExtend]

section Fetch
variable (s : State) (c l : Nat)

/-- The state in which the instruction cache holds line `l`. -/
def State.lineCached : State :=
  s.onCellAt c fun v => { v with icache := v.icache.put l ((s.cellAt c).sram.line (64 * l)) }

theorem State.cellAt_lineCached : (s.lineCached c l).cellAt c =
    { s.cellAt c with icache := (s.cellAt c).icache.put l ((s.cellAt c).sram.line (64 * l)) } := s.cellAt_onCellAt_same c _

variable {s c}

theorem State.codeLine_miss (h : (s.cellAt c).icache = []) :
    s.codeLine c l = ((s.cellAt c).sram.line (64 * l), s.lineCached c l) := by
  simp [State.codeLine, h, State.lineCached]

theorem State.codeLine_hit (h : (s.cellAt c).icache = []) :
    (s.lineCached c l).codeLine c l = ((s.cellAt c).sram.line (64 * l), s.lineCached c l) := by
  simp [State.codeLine, State.cellAt_lineCached, h, Table.put]

variable {a : Nat}

theorem State.fetchHalf_of_codeLine {t u : State} {m : Mem} (h : t.codeLine c (a / 64) = (m.line (64 * (a / 64)), u))
    (heven : a % 2 = 0) : t.fetchHalf c a = (leNat (m.bytes a 2), u) := by
  have hfield := lineField_line m (64 * (a / 64)) (k := a % 64) (n := 2) (by omega)
  rw [Nat.div_add_mod] at hfield
  rw [State.fetchHalf, h, ← hfield]

/-- An ordinary instruction at an aligned pc runs with its line in the cache. -/
theorem State.scalarStep_full (hpc : (s.cellAt c).pc.toNat = a) (halign : a % 4 = 0) (hlt : a < 8388608)
    (hcache : (s.cellAt c).icache = []) (hlong : leNat ((s.cellAt c).sram.bytes a 4) % 4 = 3) :
    s.scalarStep c = (s.lineCached c (a / 64)).rvInsn c (leNat ((s.cellAt c).sram.bytes a 4)) 4 := by
  have hsplit : leNat ((s.cellAt c).sram.bytes a 4) =
      leNat ((s.cellAt c).sram.bytes a 2) + 65536 * leNat ((s.cellAt c).sram.bytes (a + 2) 2) := leNat_bytes_add _ 2 2 a
  have hlow : leNat ((s.cellAt c).sram.bytes a 2) % 4 = 3 := by omega
  have hfirst := State.fetchHalf_of_codeLine (a := a) (State.codeLine_miss (a / 64) hcache) (by omega)
  have hsecond := State.fetchHalf_of_codeLine (a := a + 2) (c := c) (t := s.lineCached c (a / 64)) (u := s.lineCached c (a / 64))
    (m := (s.cellAt c).sram) (by rw [show (a + 2) / 64 = a / 64 by omega]; exact State.codeLine_hit _ hcache) (by omega)
  have hin : ¬ sramBytes ≤ a + 1 := by simp only [sramBytes]; omega
  have hin3 : ¬ sramBytes ≤ a + 3 := by simp only [sramBytes]; omega
  rw [State.scalarStep, hpc]
  simp only [if_neg hin, hfirst, hlow, ne_eq, not_true_eq_false, if_false, if_neg hin3, hsecond]
  rw [hsplit]

/-- A zero halfword at the pc is no instruction. -/
theorem State.scalarStep_zero (hpc : (s.cellAt c).pc.toNat = a) (halign : a % 4 = 0) (hlt : a < 8388608)
    (hcache : (s.cellAt c).icache = []) (hzero : leNat ((s.cellAt c).sram.bytes a 2) = 0) :
    s.scalarStep c = (s.lineCached c (a / 64)).trap c 2 := by
  have hfirst := State.fetchHalf_of_codeLine (a := a) (State.codeLine_miss (a / 64) hcache) (by omega)
  have hin : ¬ sramBytes ≤ a + 1 := by simp only [sramBytes]; omega
  have hexpand : expandC 0 = none := by decide
  rw [State.scalarStep, hpc]
  simp only [if_neg hin, hfirst, hzero, hexpand]
  rfl

end Fetch

section Arithmetic
variable (s : State) (c : Nat) {w : Nat}

/-- ADDI. -/
theorem State.rvInsn_addi (hop : w % 128 = 0x13) (hf3 : w >>> 12 % 8 = 0) : s.rvInsn c w 4 =
    s.rvRetire c 4 (BitVec.ofNat 5 (w >>> 7 % 32))
      ((s.cellAt c).xr (BitVec.ofNat 5 (w >>> 15 % 32)) + (BitVec.ofNat 12 (w >>> 20)).signExtend 64) := by
  have hop' : ib w 0 7 = 0x13 := hop
  have hf3' : ib w 12 3 = 0 := hf3
  have himm : BitVec.ofNat 64 (sext 12 (ib w 20 12)) = (BitVec.ofNat 12 (w >>> 20)).signExtend 64 := ofNat_sext_12 (w >>> 20)
  simp only [State.rvInsn, hop', State.rvOpImm, hf3', himm]
  rfl

/-- ADD. -/
theorem State.rvInsn_add (hop : w % 128 = 0x33) (hf3 : w >>> 12 % 8 = 0) (hf7 : w >>> 25 = 0) : s.rvInsn c w 4 =
    s.rvRetire c 4 (BitVec.ofNat 5 (w >>> 7 % 32))
      ((s.cellAt c).xr (BitVec.ofNat 5 (w >>> 15 % 32)) + (s.cellAt c).xr (BitVec.ofNat 5 (w >>> 20 % 32))) := by
  have hop' : ib w 0 7 = 0x33 := hop
  have hf3' : ib w 12 3 = 0 := hf3
  have hf7' : ib w 25 7 = 0 := by rw [ib, hf7]; rfl
  simp only [State.rvInsn, hop', State.rvOp, hf3', hf7']
  rfl

theorem State.cellAt_rvRetire (n : Nat) (rd : XReg) (x : Word) :
    (s.rvRetire c n rd x).cellAt c = { (s.cellAt c).setX rd x with pc := (s.cellAt c).pc + BitVec.ofNat 64 n } :=
  s.cellAt_onCellAt_same c _

/-- What an instruction that retires with its line in the cache leaves. -/
theorem State.rvRetire_effect (l : Nat) (rd : XReg) (x : Word) :
    let u := (s.lineCached c l).rvRetire c 4 rd x
    (u.cellAt c).xr rd = (if rd = 0 then 0 else x) ∧ (∀ r, r ≠ rd → (u.cellAt c).xr r = (s.cellAt c).xr r) ∧
      (u.cellAt c).pc = (s.cellAt c).pc + 4 ∧ (u.cellAt c).sram = (s.cellAt c).sram ∧ u.mem = s.mem := by
  intro u
  have hxr : ∀ r, (u.cellAt c).xr r = ((s.cellAt c).setX rd x).xr r := by
    intro r
    rw [State.cellAt_rvRetire, State.cellAt_lineCached]
    unfold Cell.setX
    split <;> rfl
  refine ⟨by rw [hxr, Cell.xr_setX, if_pos rfl], fun r hr => by rw [hxr, Cell.xr_setX, if_neg hr], ?_, ?_, rfl⟩
  · rw [State.cellAt_rvRetire, State.cellAt_lineCached]
    rfl
  · rw [State.cellAt_rvRetire, State.cellAt_lineCached]
    exact Cell.setX_sram _ _ _

theorem State.xr_lineCached (l : Nat) (r : XReg) : ((s.lineCached c l).cellAt c).xr r = (s.cellAt c).xr r := by
  rw [State.cellAt_lineCached]
  rfl

end Arithmetic

/-- A kernel that an uncorrectable word ends outside a scheduled step. -/
theorem State.sramUe_unscheduled {s : State} {c : Nat} (h : (s.cellAt c).track = none) :
    s.sramUe c = (s.kernelEnd c .poison).flag F.cellStatus_sramUe (s.cellNote c) := by
  simp [State.sramUe, h]

theorem cell_lt_of_hasCell {code : OrderCode} {c : Nat} (h : code.hasCell c = true) : c < 128 := by
  have hlt : c < code.cells := by simpa [OrderCode.hasCell] using h
  have hcells : code.cells ≤ 128 := by cases code <;> decide
  omega

/-- Settles O23: the fetch brings the line of the pc, and the instruction's group gives what it writes. -/
theorem scalarInstructionCompletes : Obligations.ScalarInstructionCompletes := by
  unfold Obligations.ScalarInstructionCompletes
  intro c s hcell hfree v a
  have hexec : exec (.scalarInstruction c false) s = .next (s.scalarStep c).finish :=
    (exec_scalarInstruction ..).trans (State.onScalar_free _ hcell hfree)
  have hue : exec (.scalarInstruction c true) s = .next (s.sramUe c).finish :=
    (exec_scalarInstruction ..).trans (State.onScalar_free _ hcell hfree)
  rw [hexec]
  refine ⟨fun hbeyond => ?_, ?_, hue, fun htrack => ?_⟩
  · have hout : sramBytes ≤ (s.cellAt c).pc.toNat + 1 := Nat.succ_le_succ hbeyond
    rw [State.scalarStep, if_pos hout]
  · intro halign hlt hcache w rd x y
    refine ⟨fun hop hf3 => ?_, fun hop hf3 hf7 => ?_, fun hzero => ?_⟩
    · have hlong : w % 4 = 3 := by omega
      rw [State.scalarStep_full rfl halign hlt hcache hlong, State.rvInsn_addi _ _ hop hf3, State.xr_lineCached]
      exact ⟨_, rfl, s.rvRetire_effect c _ _ _⟩
    · have hlong : w % 4 = 3 := by omega
      rw [State.scalarStep_full rfl halign hlt hcache hlong, State.rvInsn_add _ _ hop hf3 hf7, State.xr_lineCached, State.xr_lineCached]
      exact ⟨_, rfl, s.rvRetire_effect c _ _ _⟩
    · have hhalf : leNat (v.sram.bytes a 2) = 0 := by
        have hsplit := leNat_bytes_add v.sram 2 2 a
        have hw : leNat (v.sram.bytes a (2 + 2)) = 0 := hzero
        omega
      rw [State.scalarStep_zero rfl halign hlt hcache hhalf]
      refine ⟨_, rfl, ?_, ?_⟩
      · rw [State.trap_eq]
        exact State.cellRun_kernelEnd _ _ _
      · rw [State.reg_lastTrap_trap _ _ (cell_lt_of_hasCell hcell)]
        exact fieldOf_lastTrapWord (e := (0, 8, 2)) (by simp [lastTrapFields])
  · rw [State.sramUe_unscheduled htrack]
    refine ⟨?_, State.getF_flag_same _ _ _ _ (by decide) (by decide) rfl, State.mem_of_steady (by simp)⟩
    have hoff : F.cellState_run.off c ≠ F.cellStatus_sramUe.off 0 := by simp only [Fld.off, F.cellState_run, F.cellStatus_sramUe]; omega
    rw [State.cellRun, State.getF_flag_other _ _ (cellState_not_record _ rfl rfl c) hoff, ← State.cellRun, State.cellRun_kernelEnd]

end Sys2Proof.Machine

end

section

namespace Sys2Proof.Machine

/-! ### The heads of the matrix and vector queues (O24) -/

theorem withUnit_absent {b : Bool} (h : b = false) (o : Host.Outcome State Fault Refusal) : withUnit b o = .fault .noSuchUnit := by
  simp [withUnit, h]

@[simp] theorem Queue.items_finish (q : Queue) (t : Nat) (w : Word) : (q.finish t w).items = q.items := by
  obtain ⟨next, items, ended⟩ := q
  rfl

theorem Queue.mem_ended_finish (q : Queue) (t : Nat) (w : Word) : (t, w) ∈ (q.finish t w).ended :=
  List.mem_append_right _ (List.mem_singleton_self _)

/-- The code of a result word is its low byte. -/
theorem fieldOf_resultWord {code lines : Nat} (ovf nan : Bool) (h : code < 256) : fieldOf (resultWord code ovf nan lines) 0 8 = code := by
  simp only [fieldOf, resultWord, pack, BitVec.toNat_ofNat, Nat.shiftRight_zero]
  omega

theorem State.getF_noteMalformed (s : State) (c : Nat) : (s.noteMalformed c).getF F.cellStatus_descMalformed = 1 :=
  State.getF_flag_same _ _ _ _ (by decide) (by decide) rfl

/-- The cell once the head of its matrix queue has ended with a result word. -/
def Cell.matEnded (v : Cell) (t : Nat) (w : Word) : Cell :=
  { v with mq := ({ v.mq with items := v.mq.items.drop 1 } : Queue).finish t w }

/-- The cell once the head of its vector queue has ended with a result word. -/
def Cell.vecEnded (v : Cell) (t : Nat) (w : Word) : Cell :=
  { v with vq := ({ v.vq with items := v.vq.items.drop 1 } : Queue).finish t w }

section Heads
variable {s : State} {c t : Nat} {l : Line} {rest : List (Nat × Line)}

theorem State.matHead_empty (ue : Bool) (h : (s.cellAt c).mq.items = []) : s.matHead c ue = s := by
  rw [State.matHead, h]

theorem State.vecHead_empty (opc : Nat) (ue : Bool) (h : (s.cellAt c).vq.items = []) : s.vecHead c opc ue = s := by
  rw [State.vecHead, h]

theorem State.matHead_malformed (ue : Bool) (h : (s.cellAt c).mq.items = (t, l) :: rest) (hbad : (matDesc l).malformed = true) :
    s.matHead c ue = (s.noteMalformed c).onCellAt c fun v => v.matEnded t (resultWord Code.malformed.num false false 0) := by
  simp [State.matHead, h, hbad, Cell.matEnded]

theorem State.vecHead_reserved (opc : Nat) (ue : Bool) (h : (s.cellAt c).vq.items = (t, l) :: rest)
    (hbad : (vecDesc l).opc < 0x20 ∨ 0x30 < (vecDesc l).opc) :
    s.vecHead c opc ue = (s.noteMalformed c).onCellAt c fun v => v.vecEnded t (resultWord Code.malformed.num false false 0) := by
  have hreserved : (decide ((vecDesc l).opc < 0x20) || decide (0x30 < (vecDesc l).opc)) = true := by simpa using hbad
  rw [State.vecHead, h]
  simp only [hreserved, Bool.not_true, Bool.false_eq_true, and_false, if_false, Bool.true_or, if_true, Cell.vecEnded]

theorem State.matHead_ue (h : (s.cellAt c).mq.items = (t, l) :: rest) (hgood : (matDesc l).malformed = false) :
    s.matHead c true = s.sramUe c := by
  simp [State.matHead, h, hgood]

theorem State.matHead_run (h : (s.cellAt c).mq.items = (t, l) :: rest) (hgood : (matDesc l).malformed = false) :
    s.matHead c false = s.matRun c t (matDesc l) := by
  simp [State.matHead, h, hgood]

/-- A vector operation code that is not reserved. -/
theorem opc_range_of_vecAllows {opc stype : Nat} (h : vecAllows opc stype = true) : 0x20 ≤ opc ∧ opc ≤ 0x30 := by
  unfold vecAllows at h
  dsimp only at h
  split_ifs at h <;> omega

theorem VecDesc.opc_range {d : VecDesc} (h : d.malformed = false) : 0x20 ≤ d.opc ∧ d.opc ≤ 0x30 := by
  cases hallows : vecAllows d.opc d.stype with
  | true => exact opc_range_of_vecAllows hallows
  | false => simp [VecDesc.malformed, hallows] at h

section WellFormed
variable {opc : Nat} (h : (s.cellAt c).vq.items = (t, l) :: rest) (hgood : (vecDesc l).malformed = false)
include h hgood

theorem State.vecHead_other (ue : Bool) (hopc : (vecDesc l).opc ≠ opc) : s.vecHead c opc ue = s := by
  obtain ⟨hlo, hhi⟩ := VecDesc.opc_range hgood
  simp [State.vecHead, h, hopc, hlo, hhi]

theorem State.vecHead_ue (hopc : (vecDesc l).opc = opc) : s.vecHead c opc true = s.sramUe c := by
  obtain ⟨hlo, hhi⟩ := VecDesc.opc_range hgood
  simp [State.vecHead, h, hopc ▸ hlo, hopc ▸ hhi, hgood, hopc]

theorem State.vecHead_run (hopc : (vecDesc l).opc = opc) : s.vecHead c opc false = s.vecRun c t (vecDesc l) := by
  obtain ⟨hlo, hhi⟩ := VecDesc.opc_range hgood
  simp [State.vecHead, h, hopc ▸ hlo, hopc ▸ hhi, hgood, hopc]

end WellFormed

end Heads

theorem exec_mma (c : Nat) (ue : Bool) (s : State) :
    exec (.mma c ue) s = withUnit (s.code.hasCell c) (.next (s.matHead c ue).finish) := rfl

theorem exec_vAdd (c : Nat) (ue : Bool) (s : State) : exec (.vAdd c ue) s = s.vecOp c 0x20 ue := rfl

/-- The vector commands with their operation codes. -/
def vectorCommands (c : Nat) : List (Instr × Nat) :=
  [(.vAdd c false, 0x20), (.vSub c false, 0x21), (.vMul c false, 0x22), (.vFma c false, 0x23), (.vMax c false, 0x24),
    (.vMin c false, 0x25), (.vExp c false, 0x26), (.vLog c false, 0x27), (.vRsqrt c false, 0x28), (.vRcp c false, 0x29),
    (.vCvt c false, 0x2A), (.vQmx c false, 0x2B), (.vDqmx c false, 0x2C), (.vRsum c false, 0x2D), (.vRmax c false, 0x2E),
    (.vWadd c false, 0x2F), (.vArgmax c false, 0x30)]

theorem exec_vectorCommand {c : Nat} {i : Instr} {opc : Nat} (h : (i, opc) ∈ vectorCommands c) (s : State) :
    exec i s = s.vecOp c opc false := by
  simp only [vectorCommands, List.mem_cons, Prod.mk.injEq, List.not_mem_nil, or_false] at h
  rcases h with ⟨rfl, rfl⟩ | ⟨rfl, rfl⟩ | ⟨rfl, rfl⟩ | ⟨rfl, rfl⟩ | ⟨rfl, rfl⟩ | ⟨rfl, rfl⟩ | ⟨rfl, rfl⟩ | ⟨rfl, rfl⟩ | ⟨rfl, rfl⟩ |
    ⟨rfl, rfl⟩ | ⟨rfl, rfl⟩ | ⟨rfl, rfl⟩ | ⟨rfl, rfl⟩ | ⟨rfl, rfl⟩ | ⟨rfl, rfl⟩ | ⟨rfl, rfl⟩ | ⟨rfl, rfl⟩ <;> rfl

/-- What a MALFORMED head leaves, of either queue. -/
theorem malformedHead_effect (s : State) (c : Nat) {q t : Nat} {l : Line} {rest : List (Nat × Line)} {g : Cell → Cell}
    (hq : ((s.cellAt c).queue q).items = (t, l) :: rest)
    (hg : ∀ v : Cell, (g v).queue q =
      ({ v.queue q with items := (v.queue q).items.drop 1 } : Queue).finish t (resultWord Code.malformed.num false false 0))
    (hsram : ∀ v, (g v).sram = v.sram) (hacc : ∀ v, (g v).acc = v.acc) :
    let u := (s.noteMalformed c).onCellAt c g
    ((u.cellAt c).queue q).items = rest ∧ (∃ w, (t, w) ∈ ((u.cellAt c).queue q).ended ∧ fieldOf w 0 8 = Code.malformed.num) ∧
      u.getF F.cellStatus_descMalformed = 1 ∧ (u.cellAt c).sram = (s.cellAt c).sram ∧ (u.cellAt c).acc = (s.cellAt c).acc ∧
      u.mem = s.mem := by
  intro u
  have hcell : u.cellAt c = g (s.cellAt c) := by
    rw [State.cellAt_onCellAt_same, State.noteMalformed, State.cellAt_flag]
  refine ⟨?_, ⟨resultWord Code.malformed.num false false 0, ?_, fieldOf_resultWord _ _ (by decide)⟩, State.getF_noteMalformed s c, ?_, ?_, State.mem_of_steady (by simp [u])⟩
  · rw [hcell, hg, Queue.items_finish, hq]
    rfl
  · rw [hcell, hg]
    exact Queue.mem_ended_finish _ _ _
  · rw [hcell, hsram]
  · rw [hcell, hacc]

/-- Settles O24: each command runs the head of its queue, and the heads' equations give every end. -/
theorem engineHeads : Obligations.EngineHeads := by
  unfold Obligations.EngineHeads
  intro c s
  refine ⟨fun i q hi => ?_, fun t l rest hcell hq hgood => ?_, fun t l rest hcell hq hgood hopc => ?_⟩
  · have hcommand : (q = 0 ∧ i = .mma c false) ∨ (q = 1 ∧ ∃ opc, (i, opc) ∈ vectorCommands c) := by
      simp only [List.mem_cons, Prod.mk.injEq, List.not_mem_nil, or_false] at hi
      simp only [vectorCommands, List.mem_cons, Prod.mk.injEq, List.not_mem_nil, or_false]
      rcases hi with ⟨rfl, rfl⟩ | ⟨rfl, rfl⟩ | ⟨rfl, rfl⟩ | ⟨rfl, rfl⟩ | ⟨rfl, rfl⟩ | ⟨rfl, rfl⟩ | ⟨rfl, rfl⟩ | ⟨rfl, rfl⟩ |
        ⟨rfl, rfl⟩ | ⟨rfl, rfl⟩ | ⟨rfl, rfl⟩ | ⟨rfl, rfl⟩ | ⟨rfl, rfl⟩ | ⟨rfl, rfl⟩ | ⟨rfl, rfl⟩ | ⟨rfl, rfl⟩ | ⟨rfl, rfl⟩ |
        ⟨rfl, rfl⟩ <;> simp
    rcases hcommand with ⟨rfl, rfl⟩ | ⟨rfl, opc, hopc⟩
    · rw [exec_mma]
      refine ⟨fun h => withUnit_absent h _, fun hcell hq => ?_, fun t l rest hcell hq hbad => ?_⟩
      · rw [withUnit_of_present hcell, State.matHead_empty false hq]
      · obtain ⟨-, hbad⟩ | ⟨hq0, -⟩ := hbad
        · rw [withUnit_of_present hcell, State.matHead_malformed false hq hbad]
          exact ⟨_, rfl, malformedHead_effect s c hq (fun _ => rfl) (fun _ => rfl) fun _ => rfl⟩
        · cases hq0
    · rw [exec_vectorCommand hopc, State.vecOp]
      refine ⟨fun h => withUnit_absent h _, fun hcell hq => ?_, fun t l rest hcell hq hbad => ?_⟩
      · rw [withUnit_of_present hcell, State.vecHead_empty opc false hq]
      · obtain ⟨hq1, -⟩ | ⟨-, hbad⟩ := hbad
        · cases hq1
        · rw [withUnit_of_present hcell, State.vecHead_reserved opc false hq hbad]
          exact ⟨_, rfl, malformedHead_effect s c hq (fun _ => rfl) (fun _ => rfl) fun _ => rfl⟩
  · rw [exec_mma, withUnit_of_present hcell, State.matHead_ue hq hgood]
  · rw [exec_vAdd, State.vecOp, withUnit_of_present hcell, State.vecHead_ue hq hgood hopc]

end Sys2Proof.Machine

end

section

namespace Sys2Proof.Machine

/-! ### The vector commands (O26) -/

/-! A vector result has a code for each element, and its bytes fill the destination. -/

theorem length_flatMap_leBytes (n : Nat) (cs : List Nat) : (cs.flatMap fun c => leBytes n c).length = cs.length * n := by
  induction cs with
  | nil => rw [List.flatMap_nil, List.length_nil, List.length_nil, Nat.zero_mul]
  | cons c r ih => rw [List.flatMap_cons, List.length_append, length_leBytes, ih, List.length_cons, Nat.succ_mul, Nat.add_comm]

/-- An element has 4 bits or whole bytes. -/
theorem elemBits_cases (fmt : Nat) : elemBits fmt = 4 ∨ elemBits fmt = 8 * (elemBits fmt / 8) := by
  unfold elemBits
  split <;> decide

theorem length_codeBytes (fmt : Nat) (m : Mem) (dst : Nat) (cs : List Nat) :
    (codeBytes fmt m dst cs).length = elemBytes fmt cs.length := by
  rcases elemBits_cases fmt with h | h
  · rw [codeBytes, if_pos h, List.length_map, List.length_range, elemBytes, h]
    omega
  · by_cases h4 : elemBits fmt = 4
    · omega
    · rw [codeBytes, if_neg h4, length_flatMap_leBytes, elemBytes, h, Nat.mul_div_cancel_left _ (by decide), Nat.mul_assoc,
        Nat.mul_add_div (by decide), Nat.mul_comm]
      rfl

/-- One step of WADD: the sum of element `i`, and a free value where its window overflows. -/
def VecDesc.wideStep (d : VecDesc) (m : Mem) (acc : List Nat × State) (i : Nat) : List Nat × State :=
  let (w, past) := d.wide m i
  if past then
    let (r, s) := acc.2.fresh
    (acc.1 ++ [({ w with ovf := w.ovf || r.getLsbD 0 } : Wide).bits], s)
  else (acc.1 ++ [w.bits], acc.2)

section WideFold
variable (d : VecDesc) (m : Mem)

theorem VecDesc.length_wideStep (acc : List Nat × State) (i : Nat) : (d.wideStep m acc i).1.length = acc.1.length + 1 := by
  rcases h : d.wide m i with ⟨w, past⟩
  rw [VecDesc.wideStep, h]
  cases past <;> exact List.length_append

theorem VecDesc.free_wideStep (acc : List Nat × State) (i : Nat) : ∃ n, (d.wideStep m acc i).2 = { acc.2 with free := n } := by
  rcases h : d.wide m i with ⟨w, past⟩
  rw [VecDesc.wideStep, h]
  cases past with
  | true => exact ⟨_, rfl⟩
  | false => exact ⟨_, rfl⟩

theorem VecDesc.foldl_wideStep (l : List Nat) : ∀ acc : List Nat × State,
    (l.foldl (d.wideStep m) acc).1.length = acc.1.length + l.length ∧
      ∃ n, (l.foldl (d.wideStep m) acc).2 = { acc.2 with free := n } := by
  induction l with
  | nil => exact fun acc => ⟨rfl, _, rfl⟩
  | cons i r ih =>
    intro acc
    obtain ⟨hlen, n, hn⟩ := ih (d.wideStep m acc i)
    obtain ⟨k, hk⟩ := d.free_wideStep m acc i
    refine ⟨?_, n, ?_⟩
    · rw [List.foldl_cons, hlen, d.length_wideStep, List.length_cons]
      omega
    · rw [List.foldl_cons, hn, hk]

end WideFold

theorem VecDesc.length_qmx (d : VecDesc) (m : Mem) : (d.qmx m).1.length = d.count / 32 ∧ (d.qmx m).2.length = 32 * (d.count / 32) := by
  have hflat : ∀ l : List (List Num × Nat), (∀ e ∈ l, e.1.length = 32) →
      (l.flatMap fun e => e.1.map fun x => if e.2 = 0xFF then 0 else fmtE2M1.small true (x.unscale e.2)).length = 32 * l.length := by
    intro l
    induction l with
    | nil => exact fun _ => rfl
    | cons e r ih =>
      intro h
      rw [List.forall_mem_cons] at h
      obtain ⟨he, hr⟩ := h
      rw [List.flatMap_cons, List.length_append, List.length_map, he, ih hr, List.length_cons]
      omega
  simp only [VecDesc.qmx]
  refine ⟨by simp, ?_⟩
  rw [hflat]
  · simp
  · intro e he
    obtain ⟨hblock, -⟩ := List.of_mem_zip he
    simp only [List.mem_map] at hblock
    obtain ⟨b, -, hb⟩ := hblock
    rw [← hb, List.length_map, List.length_range]

/-- The results of a vector operation: one code for each element, and only the count of free values has changed. -/
theorem State.vecResult_shape (s : State) {d : VecDesc} (m : Mem) (h : d.malformed = false) :
    (s.vecResult d m).1.length = d.outCount ∧ ∃ n, (s.vecResult d m).2 = { s with free := n } := by
  have hall : ∀ g : Nat → Nat, ((List.range d.count).map g).length = d.count := by simp
  have hsame : ∃ n, s = { s with free := n } := ⟨s.free, rfl⟩
  obtain ⟨hlo, hhi⟩ := VecDesc.opc_range h
  have hqmx : d.opc = 0x2B → d.count % 32 = 0 := by
    intro hopc
    by_contra hne
    simp [VecDesc.malformed, hopc, hne] at h
  simp only [State.vecResult, VecDesc.outCount]
  split
  case h_1 hopc => simp only [hopc]; exact ⟨hall _, hsame⟩
  case h_2 hopc =>
    obtain ⟨-, hcodes⟩ := d.length_qmx m
    have hcount := hqmx hopc
    simp only [hopc]
    rw [if_neg (by decide)]
    exact ⟨hcodes.trans (by omega), hsame⟩
  case h_3 hopc => simp only [hopc]; exact ⟨hall _, hsame⟩
  case h_4 hopc => simp only [hopc]; exact ⟨rfl, hsame⟩
  case h_5 hopc => simp only [hopc]; exact ⟨rfl, hsame⟩
  case h_6 hopc =>
    obtain ⟨hlen, hfree⟩ := d.foldl_wideStep m (List.range d.count) ([], s)
    simp only [hopc]
    exact ⟨hlen.trans (by simp), hfree⟩
  case h_7 hopc => simp only [hopc]; exact ⟨rfl, hsame⟩
  case h_8 h2A h2B h2C h2D h2E h2F h30 =>
    have hone : ¬ (d.opc = 0x2D ∨ d.opc = 0x2E ∨ d.opc = 0x30) := by
      rintro (h | h | h)
      · exact h2D h
      · exact h2E h
      · exact h30 h
    rw [if_neg hone]
    split
    · exact ⟨hall _, hsame⟩
    · exact ⟨hall _, hsame⟩

section EngineBytes
variable (v : Cell) (off : Nat) (bs : List Byte)

/-- An engine's write changes SRAM, the reservation and a wait on the flag that it overwrites. -/
theorem Cell.engineBytes_eq : ∃ r k, v.engineBytes off bs = { v with sram := v.sram.setBytes off bs, reservation := r, stall := k } := by
  unfold Cell.engineBytes
  extract_lets u
  split
  · split
    · exact ⟨_, _, rfl⟩
    · exact ⟨_, _, rfl⟩
  · exact ⟨_, _, rfl⟩

end EngineBytes

section VecRun
variable (s : State)

/-- The cell's SRAM after a vector operation. -/
def VecDesc.sramAfter (d : VecDesc) (m : Mem) (cs : List Nat) : Mem :=
  let n := m.setBytes d.dst (codeBytes d.outFmt m d.dst cs)
  if d.opc = 0x2B then n.setBytes d.scl ((d.qmx m).1.map fun x => BitVec.ofNat 8 x) else n

/-- The state in which a vector operation has written its results. -/
def State.vecWritten (s : State) (c : Nat) (d : VecDesc) (m : Mem) (cs : List Nat) : State :=
  let s := s.onCellAt c fun v => v.engineBytes d.dst (codeBytes d.outFmt m d.dst cs)
  if d.opc = 0x2B then s.onCellAt c fun v => v.engineBytes d.scl ((d.qmx m).1.map fun x => BitVec.ofNat 8 x) else s

theorem State.vecWritten_effect (c : Nat) (d : VecDesc) (cs : List Nat) :
    (∃ r k, (s.vecWritten c d (s.cellAt c).sram cs).cellAt c =
        { s.cellAt c with sram := d.sramAfter (s.cellAt c).sram cs, reservation := r, stall := k }) ∧
      ∃ cl, s.vecWritten c d (s.cellAt c).sram cs = { s with cell := cl } := by
  obtain ⟨r, k, hcodes⟩ := (s.cellAt c).engineBytes_eq d.dst (codeBytes d.outFmt (s.cellAt c).sram d.dst cs)
  by_cases hopc : d.opc = 0x2B
  · simp only [State.vecWritten, VecDesc.sramAfter, if_pos hopc, State.cellAt_onCellAt_same, hcodes]
    obtain ⟨r2, k2, hscales⟩ := Cell.engineBytes_eq
      { s.cellAt c with sram := (s.cellAt c).sram.setBytes d.dst (codeBytes d.outFmt (s.cellAt c).sram d.dst cs), reservation := r,
                        stall := k } d.scl ((d.qmx (s.cellAt c).sram).1.map fun x => BitVec.ofNat 8 x)
    exact ⟨⟨r2, k2, hscales⟩, _, rfl⟩
  · simp only [State.vecWritten, VecDesc.sramAfter, if_neg hopc, State.cellAt_onCellAt_same, hcodes]
    exact ⟨⟨r, k, rfl⟩, _, rfl⟩

theorem State.vecRun_eq {c t : Nat} {d : VecDesc} (hflag : d.flagEn = false) (hover : d.overlaps = false) : s.vecRun c t d =
    ((s.vecResult d (s.cellAt c).sram).2.vecWritten c d (s.cellAt c).sram (s.vecResult d (s.cellAt c).sram).1).onCellAt c
      fun v => v.vecEnded t (resultWord 0 false false 0) := by
  simp only [State.vecRun, hflag, hover, Bool.false_eq_true, if_false]
  rfl

/-- The cell after a vector operation, and the rest of the state: only the count of free values has changed. -/
theorem State.vecRun_effect {c t : Nat} {d : VecDesc} (hgood : d.malformed = false) (hflag : d.flagEn = false)
    (hover : d.overlaps = false) :
    (∃ r k, (s.vecRun c t d).cellAt c =
        ({ s.cellAt c with sram := d.sramAfter (s.cellAt c).sram (s.vecResult d (s.cellAt c).sram).1, reservation := r,
                           stall := k } : Cell).vecEnded t (resultWord 0 false false 0)) ∧
      ∃ cl n, s.vecRun c t d = { s with cell := cl, free := n } := by
  obtain ⟨-, n, hfree⟩ := s.vecResult_shape (s.cellAt c).sram hgood
  have hcell : (s.vecResult d (s.cellAt c).sram).2.cellAt c = s.cellAt c := by rw [hfree, State.cellAt, State.cellAt]
  obtain ⟨⟨r, k, hwritten⟩, cl, hrest⟩ :=
    (s.vecResult d (s.cellAt c).sram).2.vecWritten_effect c d (s.vecResult d (s.cellAt c).sram).1
  rw [hcell] at hwritten hrest
  rw [State.vecRun_eq s hflag hover]
  refine ⟨⟨r, k, by rw [State.cellAt_onCellAt_same, hwritten]⟩, ?_⟩
  rw [hrest, hfree]
  exact ⟨_, n, rfl⟩

end VecRun

/-! The destination of a vector operation and the bytes outside it. -/

/-- The result of a well-formed descriptor has a format. -/
theorem VecDesc.length_codes {d : VecDesc} {s : State} {m : Mem} (hgood : d.malformed = false) :
    (codeBytes d.outFmt m d.dst (s.vecResult d m).1).length = d.dest.2 := by
  obtain ⟨hlen, -⟩ := s.vecResult_shape m hgood
  rw [length_codeBytes, hlen, VecDesc.dest]

/-- Settles O26: the head runs, its codes fill the destination, and the queue notes its end. -/
theorem vectorCompletes : Obligations.VectorCompletes := by
  unfold Obligations.VectorCompletes
  intro c t l rest s hcell hq hgood hover hflag i opc hi
  rw [exec_vectorCommand hi, State.vecOp, withUnit_of_present hcell]
  refine ⟨fun hne => by rw [State.vecHead_other hq hgood false hne], fun hopc => ?_⟩
  intro d m
  rw [State.vecHead_run hq hgood hopc]
  obtain ⟨⟨r, k, hafter⟩, cl, n, hrest⟩ := s.vecRun_effect (c := c) (t := t) hgood hflag hover
  obtain ⟨hlen, -⟩ := s.vecResult_shape m hgood
  have hcodes : (codeBytes d.outFmt m d.dst (s.vecResult d m).1).length = d.dest.2 := VecDesc.length_codes hgood
  have hscales : ((d.qmx m).1.map fun x => BitVec.ofNat 8 x).length = d.count / 32 := by
    rw [List.length_map]
    exact (d.length_qmx m).1
  refine ⟨_, rfl, ?_, ⟨resultWord 0 false false 0, ?_, fieldOf_resultWord _ _ (by decide)⟩, hlen, fun hnot => ?_, fun a ha hscl => ?_, ?_,
    ?_, ?_⟩
  · rw [hafter, Cell.vecEnded, Queue.items_finish, hq]
    rfl
  · rw [hafter]
    exact Queue.mem_ended_finish _ _ _
  · have hplain : d.opc ≠ 0x2B := hopc ▸ hnot
    rw [hafter]
    change (d.sramAfter m (s.vecResult d m).1).bytes d.dst d.dest.2 = _
    rw [VecDesc.sramAfter, if_neg hplain, ← hcodes, Mem.bytes_setBytes_same]
  · rw [hafter]
    change (d.sramAfter m (s.vecResult d m).1).byte a = _
    have hdst : a < d.dst ∨ d.dst + (codeBytes d.outFmt m d.dst (s.vecResult d m).1).length ≤ a := hcodes ▸ ha
    rw [VecDesc.sramAfter]
    split
    · next hqmx =>
      have hscl' : a < d.scl ∨ d.scl + d.count / 32 ≤ a := hscl.resolve_left fun h => h (hopc.symm.trans hqmx)
      rw [Mem.byte_setBytes_other _ _ _ _ (by rwa [hscales]), Mem.byte_setBytes_other _ _ _ _ hdst]
    · rw [Mem.byte_setBytes_other _ _ _ _ hdst]
  · rw [hafter]
    rfl
  · rw [hrest]
  · rw [hrest]

end Sys2Proof.Machine

end

section

namespace Sys2Proof.Machine

/-! ### The matrix engine (O25) -/

/-- Only the count of free values differs. -/
def State.freeOnly (s u : State) : Prop := ∃ n, u = { s with free := n }

theorem State.freeOnly_refl (s : State) : s.freeOnly s := ⟨s.free, rfl⟩

theorem State.freeOnly_trans {s t u : State} (h : s.freeOnly t) (k : t.freeOnly u) : s.freeOnly u := by
  obtain ⟨m, rfl⟩ := h
  obtain ⟨n, rfl⟩ := k
  exact ⟨n, rfl⟩

theorem State.freeOnly_fresh (s : State) : s.freeOnly s.fresh.2 := ⟨_, rfl⟩

theorem State.freeOnly_freshInt (s : State) : s.freeOnly s.freshInt.2 := ⟨_, rfl⟩

theorem State.freeOnly_freshElem (s : State) : s.freeOnly s.freshElem.2 := ⟨_, rfl⟩

theorem State.cellAt_freeOnly {s u : State} (h : s.freeOnly u) (c : Nat) : u.cellAt c = s.cellAt c := by
  obtain ⟨n, rfl⟩ := h
  rfl

theorem State.freeOnly_matElem (s : State) (d : MatDesc) (v : Cell) (i j : Nat) : s.freeOnly (s.matElem d v i j).2 := by
  unfold State.matElem
  have hstart : s.freeOnly (if d.strays v then s.freshElem else (d.startElem v i j, s)).2 := by
    split
    · exact s.freeOnly_freshElem
    · exact s.freeOnly_refl
  generalize (if d.strays v then s.freshElem else (d.startElem v i j, s)) = start at hstart ⊢
  obtain ⟨c0, u⟩ := start
  dsimp only at hstart ⊢
  split
  · exact hstart
  · split
    · exact State.freeOnly_trans hstart u.freeOnly_freshInt
    · exact hstart

theorem State.freeOnly_writeCheck (s : State) (e : AccElem) : s.freeOnly (s.writeCheck e).2 := by
  unfold State.writeCheck
  split
  · exact s.freeOnly_fresh
  · exact s.freeOnly_refl

/-- The positions of the accumulator, in row-major order. -/
def MatDesc.positions (d : MatDesc) : List (Nat × Nat) :=
  (List.range d.m).flatMap fun i => (List.range d.n).map fun j => (i, j)

/-- One step of a matrix operation: the element of a position. -/
def MatDesc.elemStep (d : MatDesc) (v : Cell) (acc : List (Nat × Nat × AccElem × Bool) × State) (p : Nat × Nat) :
    List (Nat × Nat × AccElem × Bool) × State :=
  let (e, s) := acc.2.matElem d v p.1 p.2
  if d.out = 0 ∨ d.bf16 then (acc.1 ++ [(p.1, p.2, e, false)], s)
  else
    let (past, s) := s.writeCheck e
    (acc.1 ++ [(p.1, p.2, { e with ovf := e.ovf || past }, past)], s)

theorem State.matElems_eq (s : State) (d : MatDesc) (v : Cell) : s.matElems d v = d.positions.foldl (d.elemStep v) ([], s) := rfl

theorem State.freeOnly_matElems (s : State) (d : MatDesc) (v : Cell) : s.freeOnly (s.matElems d v).2 := by
  have hstep : ∀ (acc : List (Nat × Nat × AccElem × Bool) × State) (p : Nat × Nat), acc.2.freeOnly (d.elemStep v acc p).2 := by
    intro acc p
    have helem := acc.2.freeOnly_matElem d v p.1 p.2
    unfold MatDesc.elemStep
    dsimp only
    split
    · exact helem
    · exact State.freeOnly_trans helem (State.freeOnly_writeCheck _ _)
  have hfold : ∀ (l : List (Nat × Nat)) (acc : List (Nat × Nat × AccElem × Bool) × State), acc.2.freeOnly (l.foldl (d.elemStep v) acc).2 := by
    intro l
    induction l with
    | nil => exact fun acc => acc.2.freeOnly_refl
    | cons p r ih => exact fun acc => State.freeOnly_trans (hstep acc p) (ih _)
  exact hfold d.positions ([], s)

/-! What the engine's writes leave of a cell. -/

/-- The matrix queue and the accumulator, which a write to SRAM leaves. -/
def Cell.matView (v : Cell) : Queue × Table AccElem × Option AccShape := (v.mq, v.acc, v.accShape)

theorem Cell.matView_engineBytes (v : Cell) (off : Nat) (bs : List Byte) : (v.engineBytes off bs).matView = v.matView := by
  obtain ⟨r, k, h⟩ := v.engineBytes_eq off bs
  rw [h]
  rfl

theorem State.matView_addFlag (s : State) (c i : Nat) : ((s.addFlag c i).cellAt c).matView = (s.cellAt c).matView := by
  unfold State.addFlag
  dsimp only
  split
  · rw [State.cellAt_onCellAt_same]
    rfl
  · rfl

/-! The parts of a matrix operation: the accumulator, the output, the overflow that was found, the end of its ticket. -/

section MatRun
variable (s : State) (c t : Nat) (d : MatDesc) (es : List (Nat × Nat × AccElem × Bool))

/-- The accumulator with the operation's elements put into it. -/
def accPut (es : List (Nat × Nat × AccElem × Bool)) (acc : Table AccElem) : Table AccElem :=
  es.foldl (fun a e => a.put (64 * e.1 + e.2.1) e.2.2.1) acc

def State.matStored : State := s.onCellAt c fun v => { v with
  acc := accPut es v.acc, accShape := some { m := d.m, n := d.n, afmt := d.afmt, bfmt := d.bfmt } }

def State.matWritten : State :=
  if d.out = 0 then s
  else s.onCellAt c fun v => (List.range d.m).foldl (fun v i =>
    v.engineBytes (d.cOff + i * d.cStride) ((es.filter fun e => e.1 == i).flatMap fun e => d.outElem e.2.2.1)) v

def State.matNoted : State :=
  if es.any fun e => e.2.2.2 then (s.flag F.cellStatus_ovf (s.cellNote c)).addF F.cellOvfCount_count 0 1 else s

/-- The result word of a matrix operation. -/
def MatDesc.word : Word :=
  resultWord 0 (d.out != 0 && !d.bf16 && es.any fun e => e.2.2.1.ovf) (!d.bf16 && es.any fun e => e.2.2.1.nan) 0

def State.matFlagged : State := if d.flagEn then s.addFlag c d.flag else s

theorem State.matRun_eq : s.matRun c t d =
    (((((s.matElems d (s.cellAt c)).2.matStored c d (s.matElems d (s.cellAt c)).1).matWritten c d
      (s.matElems d (s.cellAt c)).1).matNoted c (s.matElems d (s.cellAt c)).1).onCellAt c
        fun v => v.matEnded t (d.word (s.matElems d (s.cellAt c)).1)).matFlagged c d := rfl

theorem State.matView_matWritten : ((s.matWritten c d es).cellAt c).matView = (s.cellAt c).matView := by
  unfold State.matWritten
  split
  · rfl
  · rw [State.cellAt_onCellAt_same]
    exact foldl_unchanged Cell.matView (fun v i => v.matView_engineBytes _ _) _ _

theorem State.cellAt_matNoted : (s.matNoted c es).cellAt c = s.cellAt c := by
  unfold State.matNoted
  split
  · rw [State.cellAt_addF, State.cellAt_flag]
  · rfl

theorem State.matView_matFlagged : ((s.matFlagged c d).cellAt c).matView = (s.cellAt c).matView := by
  unfold State.matFlagged
  split
  · exact s.matView_addFlag c d.flag
  · rfl

/-- The matrix queue and the accumulator after an operation. -/
theorem State.matView_matRun : ((s.matRun c t d).cellAt c).matView =
    (({ (s.cellAt c).mq with items := (s.cellAt c).mq.items.drop 1 } : Queue).finish t (d.word (s.matElems d (s.cellAt c)).1),
      accPut (s.matElems d (s.cellAt c)).1 (s.cellAt c).acc,
      some { m := d.m, n := d.n, afmt := d.afmt, bfmt := d.bfmt }) := by
  have hended : ∀ (v : Cell) (w : Word), (v.matEnded t w).matView =
      (({ v.matView.1 with items := v.matView.1.items.drop 1 } : Queue).finish t w, v.matView.2.1, v.matView.2.2) := fun _ _ => rfl
  rw [State.matRun_eq, State.matView_matFlagged, State.cellAt_onCellAt_same, hended, State.cellAt_matNoted, State.matView_matWritten,
    State.matStored, State.cellAt_onCellAt_same, State.cellAt_freeOnly (s.freeOnly_matElems d _)]
  rfl

/-- Without output and flag an operation leaves the SRAM of its cell. -/
theorem State.sram_matRun (hout : d.out = 0) (hflag : d.flagEn = false) :
    ((s.matRun c t d).cellAt c).sram = (s.cellAt c).sram := by
  have hended : ∀ (v : Cell) (w : Word), (v.matEnded t w).sram = v.sram := fun _ _ => rfl
  rw [State.matRun_eq, State.matFlagged, hflag, if_neg Bool.false_ne_true, State.cellAt_onCellAt_same, hended, State.cellAt_matNoted,
    State.matWritten, if_pos hout, State.matStored, State.cellAt_onCellAt_same, State.cellAt_freeOnly (s.freeOnly_matElems d _)]

end MatRun

/-! ### The exact sum of INT8 products -/

theorem numOf_int (v : Int) : numOf v 0 false = .fin (decide (v < 0)) v.natAbs 0 := by
  by_cases h : v = 0
  · rw [h]
    rfl
  · rw [numOf, if_neg h]

/-- The product of two small integers without scales, in units of 2^-50. -/
theorem productOf_int {a b : Int} (h : a.natAbs * b.natAbs < 2 ^ 53) :
    productOf (numOf a 0 false) (numOf b 0 false) 127 127 = { units := 2 ^ 50 * (a * b), nan := false, wild := false } := by
  have hsmall : ¬ 2 ^ 103 ≤ (a.natAbs * b.natAbs) <<< 50 := by
    rw [Nat.shiftLeft_eq]
    omega
  have habs : (((a.natAbs * b.natAbs) <<< 50 : Nat) : Int) = (a.natAbs : Int) * b.natAbs * 2 ^ 50 := by
    rw [Nat.shiftLeft_eq]
    push_cast
    rfl
  have hunits : (if (decide (a < 0)) != (decide (b < 0)) then -(((a.natAbs * b.natAbs) <<< 50 : Nat) : Int)
      else (((a.natAbs * b.natAbs) <<< 50 : Nat) : Int)) = 2 ^ 50 * (a * b) := by
    rw [habs]
    rcases lt_or_ge a 0 with ha | ha <;> rcases lt_or_ge b 0 with hb | hb
    · simp only [ha, hb, bne_self_eq_false, Bool.false_eq_true, if_false, Int.ofNat_natAbs_of_nonpos ha.le, Int.ofNat_natAbs_of_nonpos hb.le]
      ring
    · simp only [ha, hb.not_gt, Int.ofNat_natAbs_of_nonpos ha.le, Int.natAbs_of_nonneg hb]
      simp only [decide_true, decide_false, Bool.bne_false, if_true]
      ring
    · simp only [ha.not_gt, hb, Int.natAbs_of_nonneg ha, Int.ofNat_natAbs_of_nonpos hb.le]
      simp only [decide_true, decide_false, Bool.bne_true, Bool.not_false, if_true]
      ring
    · simp only [ha.not_gt, hb.not_gt, Int.natAbs_of_nonneg ha, Int.natAbs_of_nonneg hb, bne_self_eq_false, Bool.false_eq_true, if_false]
      ring
  have hplace : (0 : Int) + 0 + (127 : Nat) + (127 : Nat) - 254 + 50 = 50 := by norm_num
  have hscale : ¬ ((127 : Nat) = 255 ∨ (127 : Nat) = 255) := by decide
  have hnonneg : (0 : Int) ≤ 50 := by decide
  have hshift : (50 : Int).toNat = 50 := rfl
  simp only [numOf_int, productOf, if_neg hscale, hplace, if_pos hnonneg, hshift, if_neg hsmall, hunits]

/-- An INT8 element is the byte, as a signed number. -/
theorem elemNum_int8 (m : Mem) (off k : Nat) : elemNum 3 (elemAt m off 3 k) = numOf (m.byte (off + k)).toInt 0 false := by
  have hbytes : elemAt m off 3 k = (m.byte (off + k)).toNat := by
    have hbits : elemBits 3 = 8 := rfl
    rw [elemAt, hbits, if_neg (by decide), Nat.div_self (by decide), Nat.mul_one, Mem.bytes, Mem.bytes, leNat, leNat]
    rfl
  have hsigned : ∀ b : Byte, signedNat 8 b.toNat = b.toInt := by decide
  rw [elemNum, if_pos rfl, hbytes, hsigned]

/-- Without scales an exact element is the sum of the products, and nothing is noted. -/
theorem foldl_exact (f g : Nat → Int) (hf : ∀ k, (f k).natAbs * (g k).natAbs < 2 ^ 53) (l : List Nat) : ∀ c0 : AccElem,
    l.foldl (fun acc k =>
      let p := productOf (numOf (f k) 0 false) (numOf (g k) 0 false) 127 127
      { acc with sum := acc.sum + p.units, nan := acc.nan || p.nan, wild := acc.wild || p.wild }) c0 =
      { c0 with sum := c0.sum + 2 ^ 50 * (l.map fun k => f k * g k).sum } := by
  induction l with
  | nil => intro c0; simp
  | cons k r ih =>
    intro c0
    rw [List.foldl_cons, ih, productOf_int (hf k)]
    simp only [Bool.or_false, List.map_cons, List.sum_cons, mul_add, add_assoc]

section Exact
variable (d : MatDesc) (m : Mem) (ha : d.afmt = 3) (hb : d.bfmt = 3) (hascl : d.ascl = false) (hbscl : d.bscl = false)
include ha hb hascl hbscl

/-- An element of unscaled INT8 operands is the exact sum of its products. -/
theorem MatDesc.exactElem_int8 (i j : Nat) (c0 : AccElem) : d.exactElem m i j c0 =
    { c0 with sum := c0.sum + 2 ^ 50 * ((List.range (32 * d.kb)).map fun k =>
      (m.byte (d.aOff + i * d.aStride + k)).toInt * (m.byte (d.bOff + j * d.bStride + k)).toInt).sum } := by
  have hbyte : ∀ b : Byte, b.toInt.natAbs ≤ 128 := by decide
  have hsmall : ∀ k, (m.byte (d.aOff + i * d.aStride + k)).toInt.natAbs * (m.byte (d.bOff + j * d.bStride + k)).toInt.natAbs < 2 ^ 53 :=
    fun k => (Nat.mul_le_mul (hbyte _) (hbyte _)).trans_lt (by decide)
  rw [← foldl_exact _ _ hsmall]
  simp only [MatDesc.exactElem, ha, hb, hascl, hbscl, scaleByte, Bool.false_eq_true, if_false, elemNum_int8, MatDesc.k]

variable (hacc : d.acc = 0)
include hacc

/-- The element of position (i, j). -/
def MatDesc.int8Elem (d : MatDesc) (m : Mem) (i j : Nat) : AccElem := d.exactElem m i j .zero

theorem State.matElem_int8 (s : State) (v : Cell) (i j : Nat) : s.matElem d v i j = (d.int8Elem v.sram i j, s) := by
  have hstrays : d.strays v = false := by simp [MatDesc.strays, hacc]
  have hbf : d.bf16 = false := by simp [MatDesc.bf16, ha]
  have hstart : d.startElem v i j = .zero := by rw [MatDesc.startElem, if_pos hacc]
  have hzero : ({ AccElem.zero with wild := false } : AccElem) = .zero := rfl
  have hwild : (d.exactElem v.sram i j .zero).wild = false := by rw [d.exactElem_int8 v.sram ha hb hascl hbscl]; rfl
  have hkeep : ({ d.exactElem v.sram i j .zero with wild := AccElem.zero.wild } : AccElem) = d.exactElem v.sram i j .zero := by
    rw [d.exactElem_int8 v.sram ha hb hascl hbscl]
  simp only [State.matElem, hstrays, hbf, hstart, Bool.false_eq_true, if_false, hzero, hwild, MatDesc.int8Elem, hkeep]

theorem State.matElems_int8 (hout : d.out = 0) (s : State) (v : Cell) :
    (s.matElems d v).1 = d.positions.map fun p => (p.1, p.2, d.int8Elem v.sram p.1 p.2, false) := by
  have hfold : ∀ (l : List (Nat × Nat)) (acc : List (Nat × Nat × AccElem × Bool) × State),
      (l.foldl (d.elemStep v) acc).1 = acc.1 ++ l.map fun p => (p.1, p.2, d.int8Elem v.sram p.1 p.2, false) := by
    intro l
    induction l with
    | nil => intro acc; simp
    | cons p r ih =>
      intro acc
      rw [List.foldl_cons, ih, MatDesc.elemStep, State.matElem_int8 d ha hb hascl hbscl hacc]
      simp [hout]
  exact (hfold d.positions ([], s)).trans (List.nil_append _)

end Exact

/-- What is put last at a key is read there, when every entry of the key agrees. -/
theorem get_accPut {es : List (Nat × Nat × AccElem × Bool)} {k : Nat} {x : AccElem}
    (hall : ∀ e ∈ es, 64 * e.1 + e.2.1 = k → e.2.2.1 = x) :
    ∀ a : Table AccElem, a.get k .zero = x ∨ (∃ e ∈ es, 64 * e.1 + e.2.1 = k) → (accPut es a).get k .zero = x := by
  induction es with
  | nil => exact fun a h => h.resolve_right (by simp)
  | cons e r ih =>
    intro a h
    rw [List.forall_mem_cons] at hall
    obtain ⟨he, hr⟩ := hall
    rw [accPut, List.foldl_cons]
    refine ih hr _ ?_
    by_cases hk : 64 * e.1 + e.2.1 = k
    · rw [hk, Table.get_put_same]
      exact .inl (he hk)
    · rw [Table.get_put_other _ _ _ (Ne.symm hk)]
      rcases h with h | ⟨e', he', hk'⟩
      · exact .inl h
      · rcases List.mem_cons.1 he' with rfl | hmem
        · exact absurd hk' hk
        · exact .inr ⟨e', hmem, hk'⟩

theorem MatDesc.mem_positions {d : MatDesc} {i j : Nat} : (i, j) ∈ d.positions ↔ i < d.m ∧ j < d.n := by
  simp [MatDesc.positions]

/-- A well-formed operation has at most 64 rows and columns. -/
theorem MatDesc.n_le {d : MatDesc} (h : d.malformed = false) : d.n ≤ 64 := by
  by_contra hlt
  simp [MatDesc.malformed, Nat.not_le.1 hlt] at h

/-- Settles O25: the head runs; its elements are put into the accumulator, each the exact sum for unscaled INT8 operands. -/
theorem matrixCompletes : Obligations.MatrixCompletes := by
  unfold Obligations.MatrixCompletes
  intro c t l rest s hcell hq hgood
  rw [exec_mma, withUnit_of_present hcell, State.matHead_run hq hgood]
  generalize matDesc l = d at hgood ⊢
  have hview := s.matView_matRun c t d
  rw [Cell.matView, Prod.mk.injEq, Prod.mk.injEq] at hview
  obtain ⟨hmq, hacc, hshape⟩ := hview
  refine ⟨_, rfl, ?_, ⟨d.word (s.matElems d (s.cellAt c)).1, ?_, fieldOf_resultWord _ _ (by decide)⟩, hshape,
    s.sram_matRun c t d, State.mem_of_steady (by simp), fun ha hb hascl hbscl hclear hout i j hi hj => ?_⟩
  · rw [hmq, Queue.items_finish, hq]
    rfl
  · rw [hmq]
    exact Queue.mem_ended_finish _ _ _
  · have hn := d.n_le hgood
    have helem : ((s.matRun c t d).cellAt c).acc.get (64 * i + j) .zero = d.int8Elem (s.cellAt c).sram i j := by
      rw [hacc, State.matElems_int8 d ha hb hascl hbscl hclear hout]
      refine get_accPut (fun e he hk => ?_) _ (.inr ⟨(i, j, d.int8Elem (s.cellAt c).sram i j, false), ?_, rfl⟩)
      · obtain ⟨⟨i', j'⟩, hp, rfl⟩ := List.mem_map.1 he
        obtain ⟨hi', hj'⟩ := MatDesc.mem_positions.1 hp
        dsimp only at hk ⊢
        obtain ⟨rfl, rfl⟩ : i' = i ∧ j' = j := by omega
        rfl
      · exact List.mem_map.2 ⟨(i, j), MatDesc.mem_positions.2 ⟨hi, hj⟩, rfl⟩
    rw [helem, MatDesc.int8Elem, d.exactElem_int8 _ ha hb hascl hbscl]
    exact ⟨rfl, rfl, Int.zero_add _⟩

end Sys2Proof.Machine

end

section

namespace Sys2Proof.Machine

/-! ### The head of a mover channel (O28) -/

section Channels
variable (s : State) (c ch : Nat)

theorem State.chan_setChan_same (v : Channel) : (s.setChan c ch v).chan c ch = v := by
  simp [State.setChan, State.chan]

theorem State.sram_setChan (v : Channel) : ((s.setChan c ch v).cellAt c).sram = (s.cellAt c).sram := by
  rw [State.setChan, State.cellAt_onCellAt_same]

theorem State.sram_setRun (r : MvRun) : ((s.setRun c ch r).cellAt c).sram = (s.cellAt c).sram := s.sram_setChan c ch _

end Channels

/-- Does a descriptor of a channel end MALFORMED: a form that R195 forbids, or a channel that the kernel may not use? -/
def State.moverBad (s : State) (c ch : Nat) (d : MvDesc) : Bool :=
  d.malformed (decide (ch < 4)) || (decide (4 ≤ ch) && s.getF F.cellState_priv c == 0)

/-- The record of a descriptor that starts. -/
def State.startedRun (s : State) (c ch t : Nat) (l : Line) : MvRun :=
  let bad := s.moverBad c ch (mvDesc l)
  { ticket := t, desc := l, pos := 0, moved := 0, code := if bad then .malformed else .done,
    phase := if bad then .ending else .running, tags := [], through := [], reading := [], got := [], orphan := false,
    sched := (s.cellAt c).track.isSome }

section Start
variable {s : State} {c ch t : Nat} {l : Line} {rest : List (Nat × Line)} (hrun : (s.chan c ch).run = none)
  (hq : (s.chan c ch).q.items = (t, l) :: rest)
include hrun hq

theorem State.moverStart_eq : s.moverStart c ch =
    s.setChan c ch { q := { (s.chan c ch).q with items := rest }, run := some (s.startedRun c ch t l) } := by
  rw [State.moverStart, hrun, hq]
  rfl

theorem State.run_moverStart : ((s.moverStart c ch).chan c ch).run = some (s.startedRun c ch t l) := by
  rw [State.moverStart_eq hrun hq, State.chan_setChan_same]

theorem State.items_moverStart : ((s.moverStart c ch).chan c ch).q.items = rest := by
  rw [State.moverStart_eq hrun hq, State.chan_setChan_same]

theorem State.sram_moverStart : ((s.moverStart c ch).cellAt c).sram = (s.cellAt c).sram := by
  rw [State.moverStart_eq hrun hq, State.sram_setChan]

/-- A start changes cells only. -/
theorem State.moverStart_cellOnly : ∃ cl, s.moverStart c ch = { s with cell := cl } := by
  rw [State.moverStart_eq hrun hq]
  exact ⟨_, rfl⟩

theorem State.moverHead_other {opc : Nat} (hne : (mvDesc l).opc ≠ opc) (hlo : 0x40 ≤ (mvDesc l).opc) (hhi : (mvDesc l).opc ≤ 0x44) :
    s.moverHead c ch opc false = s := by
  have hop : dfield l 0 0 8 = (mvDesc l).opc := rfl
  rw [State.moverHead, hrun, hq]
  simp [hop, hne, hlo, hhi]

theorem State.moverHead_starts {opc : Nat} (h : (mvDesc l).opc = opc ∨ (mvDesc l).opc < 0x40 ∨ 0x44 < (mvDesc l).opc) :
    s.moverHead c ch opc false = (s.moverStart c ch).moverPump c ch := by
  have hop : dfield l 0 0 8 = (mvDesc l).opc := rfl
  have hnot : ¬ ((mvDesc l).opc ≠ opc ∧ (!(decide ((mvDesc l).opc < 0x40) || decide (0x44 < (mvDesc l).opc))) = true) := by
    rintro ⟨hne, hrange⟩
    simp only [Bool.not_eq_true', Bool.or_eq_false_iff, decide_eq_false_iff_not] at hrange
    omega
  rw [State.moverHead, hrun, hq]
  simp only [hop, if_neg hnot, Bool.false_and, Bool.false_eq_true, if_false]

end Start

/-! A channel runs until its descriptor waits or its ending is decided. -/

section Pump
variable {s : State} {c ch : Nat} {r : MvRun} (h : (s.chan c ch).run = some r)
include h

theorem State.moverMove_stopped (hp : r.phase ≠ .running) : s.moverMove c ch = none := by
  simp [State.moverMove, h, hp]

theorem State.moverRun_stopped (hp : r.phase ≠ .running) (n : Nat) : State.moverRun n s c ch = s := by
  cases n with
  | zero => rfl
  | succ n => rw [State.moverRun, State.moverMove_stopped h hp]

theorem State.moverPump_stopped (hp : r.phase ≠ .running) : s.moverPump c ch = s := State.moverRun_stopped h hp _

/-- A channel whose next move stops it. -/
theorem State.moverPump_once {u : State} {r' : MvRun} (hmove : s.moverMove c ch = some u) (hu : (u.chan c ch).run = some r')
    (hp : r'.phase ≠ .running) : s.moverPump c ch = u := by
  have hfuel : ∃ n, s.moverFuel c ch = n + 1 := ⟨_, by rw [State.moverFuel, h]⟩
  obtain ⟨n, hn⟩ := hfuel
  rw [State.moverPump, hn, State.moverRun, hmove]
  exact State.moverRun_stopped hu hp n

end Pump

/-- A descriptor moves at least one line. -/
theorem lines_mvDesc_pos (l : Line) : 0 < (mvDesc l).lines := by
  have hrows : 0 < (mvDesc l).rows := Nat.succ_pos _
  have hlines : 0 < (mvDesc l).rowLines := Nat.succ_pos _
  rw [MvDesc.lines]
  split
  · exact Nat.one_pos
  · exact Nat.mul_pos hrows hlines

section FirstMove
variable {s : State} {c ch t : Nat} {l : Line} {rest : List (Nat × Line)} (hrun : (s.chan c ch).run = none)
  (hq : (s.chan c ch).q.items = (t, l) :: rest) (hgood : s.moverBad c ch (mvDesc l) = false)
include hrun hq hgood

theorem State.moverMove_copy (hopc : (mvDesc l).opc = 0x42) : (s.moverStart c ch).moverMove c ch =
    some ((s.moverStart c ch).moverCopy c ch (s.startedRun c ch t l)) := by
  have hlines : ¬ (mvDesc l).lines ≤ 0 := Nat.not_le.2 (lines_mvDesc_pos l)
  rw [State.moverMove, State.run_moverStart hrun hq]
  simp [State.startedRun, hgood, hlines, hopc]

theorem State.moverMove_line (hcopy : (mvDesc l).opc ≠ 0x42) (hput : (mvDesc l).opc ≠ 0x43) : (s.moverStart c ch).moverMove c ch =
    some ((s.moverStart c ch).moverLine c ch (s.startedRun c ch t l)) := by
  have hlines : ¬ (mvDesc l).lines ≤ 0 := Nat.not_le.2 (lines_mvDesc_pos l)
  rw [State.moverMove, State.run_moverStart hrun hq]
  simp [State.startedRun, hgood, hlines, hcopy, hput]

end FirstMove

/-- The line that an engine writes is read. -/
theorem Mem.line_setBytes_leBytes (m : Mem) (a : Nat) (l : Line) : (m.setBytes a (leBytes 64 l.toNat)).line a = l := by
  have hbytes := Mem.bytes_setBytes_same (leBytes 64 l.toNat) m a
  have hlt : l.toNat < 256 ^ 64 := by
    simpa only [pow_256_64] using l.isLt
  rw [length_leBytes] at hbytes
  rw [Mem.line, hbytes, leNat_leBytes, Nat.mod_eq_of_lt hlt, BitVec.ofNat_toNat, BitVec.setWidth_eq]

theorem Cell.line_engineLine (v : Cell) (off : Nat) (l : Line) : (v.engineLine off l).sram.line off = l := by
  obtain ⟨r, k, h⟩ := v.engineBytes_eq off (leBytes 64 l.toNat)
  rw [Cell.engineLine, h]
  exact Mem.line_setBytes_leBytes _ _ _

/-- COPY of one line. -/
theorem State.line_moverCopy (s : State) (c ch : Nat) {r : MvRun} (h : (mvDesc r.desc).lines = 1) :
    ((s.moverCopy c ch r).cellAt c).sram.line ((mvDesc r.desc).operand % 2 ^ 23) =
      (s.cellAt c).sram.line (mvDesc r.desc).sramOff := by
  have hlines : 0 < (mvDesc r.desc).rowLines := Nat.succ_pos _
  have hdst : (mvDesc r.desc).otherAt ((mvDesc r.desc).operand % 2 ^ 23) 0 = (mvDesc r.desc).operand % 2 ^ 23 := by
    simp [MvDesc.otherAt]
  have hsrc : (mvDesc r.desc).sramAt 0 = (mvDesc r.desc).sramOff := by simp [MvDesc.sramAt]
  simp only [State.moverCopy, State.sram_setRun, State.cellAt_onCellAt_same, h, List.range_one, List.foldl_cons, List.foldl_nil, hdst,
    hsrc, Cell.line_engineLine]

theorem State.run_moverCopy (s : State) (c ch : Nat) (r : MvRun) :
    ((s.moverCopy c ch r).chan c ch).run = some { r.ends .done with moved := (mvDesc r.desc).lines } :=
  State.chan_setRun_same _ _ _ _

section Lookup
variable {s : State} {c ch : Nat} {r : MvRun}

/-- A translation hit changes the buffers alone. -/
theorem State.xltHit_bufsOnly (s : State) (c : Nat) (tn : Tenant) (g : Nat) :
    ∃ b, (s.xltHit c tn g).2 = s.onXlt fun x => { x with bufs := b } := by
  unfold State.xltHit
  dsimp only
  split
  · exact ⟨s.xlt.bufs, rfl⟩
  · split
    · exact ⟨_, rfl⟩
    · exact ⟨s.xlt.bufs, rfl⟩

/-- Translation looks at no cell. -/
theorem State.xltHit_cell (s : State) (cl : CellS) (c : Nat) (tn : Tenant) (g : Nat) :
    (({ s with cell := cl } : State).xltHit c tn g).1 = (s.xltHit c tn g).1 := by
  simp only [State.xltHit]
  split
  · rfl
  · split <;> rfl

end Lookup

/-- A walk that is opened or joined has the mover among those that wait. -/
theorem State.openWalk_waiting (s : State) (die : Nat) (tn : Tenant) (g c ch : Nat) :
    ∃ w ∈ (s.openWalk die tn g c ch).xlt.walks, w.die = die ∧ w.tenant = tn ∧ w.granule = g ∧ (c, ch) ∈ w.waiting := by
  unfold State.openWalk
  split
  · next h =>
    obtain ⟨w, hw, hkey⟩ := List.any_eq_true.1 h
    have hkey' := hkey
    simp only [Bool.and_eq_true, beq_iff_eq] at hkey'
    obtain ⟨⟨hdie, htn⟩, hg⟩ := hkey'
    refine ⟨{ w with waiting := w.waiting ++ [(c, ch)] }, List.mem_map.2 ⟨w, hw, if_pos hkey⟩, hdie, htn, hg, ?_⟩
    exact List.mem_append_right _ (List.mem_singleton_self _)
  · exact ⟨_, List.mem_append_right _ (List.mem_singleton_self _), rfl, rfl, rfl, List.mem_singleton_self _⟩

theorem State.chan_openWalk (s : State) (die : Nat) (tn : Tenant) (g c ch c' ch' : Nat) :
    (s.openWalk die tn g c ch).chan c' ch' = s.chan c' ch' := by
  unfold State.openWalk
  split <;> rfl

section Line
variable {s : State} {c ch : Nat} {r : MvRun} (hpos : r.pos = 0)
include hpos

theorem tenantAt_first : (mvDesc r.desc).tenantAt r.pos = (mvDesc r.desc).addr := by
  simp [MvDesc.tenantAt, MvDesc.otherAt, hpos]

theorem State.moverLine_miss (h : (s.xltHit c (s.cellTenant c) (granuleOf (mvDesc r.desc).addr)).1 = false) :
    ∃ u : State, u.mem = s.mem ∧ s.moverLine c ch r = (u.setRun c ch { r with phase := .walk }).openWalk (dieOf c) (s.cellTenant c)
      (granuleOf (mvDesc r.desc).addr) c ch := by
  obtain ⟨b, hb⟩ := s.xltHit_bufsOnly c (s.cellTenant c) (granuleOf (mvDesc r.desc).addr)
  rw [State.moverLine, tenantAt_first hpos]
  rcases hhit : s.xltHit c (s.cellTenant c) (granuleOf (mvDesc r.desc).addr) with ⟨hit, u⟩
  rw [hhit] at h hb
  dsimp only at h hb
  subst h
  exact ⟨u, by rw [hb]; rfl, rfl⟩

theorem State.moverLine_fails {code : Code} (h : (s.xltHit c (s.cellTenant c) (granuleOf (mvDesc r.desc).addr)).1 = true)
    (hlookup : s.lookup (s.cellTenant c) (mvDesc r.desc).addr (mvDesc r.desc).wants true = .fails code) :
    ∃ u : State, u.mem = s.mem ∧ s.moverLine c ch r = u.setRun c ch (r.ends code) := by
  obtain ⟨b, hb⟩ := s.xltHit_bufsOnly c (s.cellTenant c) (granuleOf (mvDesc r.desc).addr)
  have hsame : (s.xltHit c (s.cellTenant c) (granuleOf (mvDesc r.desc).addr)).2.lookup (s.cellTenant c) (mvDesc r.desc).addr
      (mvDesc r.desc).wants true = .fails code := by
    rw [hb]
    exact hlookup
  rw [State.moverLine, tenantAt_first hpos]
  rcases hhit : s.xltHit c (s.cellTenant c) (granuleOf (mvDesc r.desc).addr) with ⟨hit, u⟩
  rw [hhit] at h hsame hb
  dsimp only at h hsame hb
  subst h
  refine ⟨u, by rw [hb]; rfl, ?_⟩
  simp only [hsame]

end Line

/-- The mover commands with their operation codes. -/
def moverCommands (c : Nat) (ch : BitVec 3) : List (Instr × Nat) :=
  [(.mvGet c ch false, 0x40), (.mvPut c ch false, 0x41), (.mvCopy c ch false, 0x42), (.mvCellPut c ch false, 0x43),
    (.mvAtom c ch false, 0x44)]

theorem exec_moverCommand {c : Nat} {ch : BitVec 3} {i : Instr} {opc : Nat} (h : (i, opc) ∈ moverCommands c ch) (s : State) :
    exec i s = s.mvOp c ch opc false := by
  simp only [moverCommands, List.mem_cons, Prod.mk.injEq, List.not_mem_nil, or_false] at h
  rcases h with ⟨rfl, rfl⟩ | ⟨rfl, rfl⟩ | ⟨rfl, rfl⟩ | ⟨rfl, rfl⟩ | ⟨rfl, rfl⟩ <;> rfl

/-- Settles O28: the head starts, and the first move stops it wherever its ending or its walk is decided. -/
theorem moversComplete : Obligations.MoversComplete := by
  unfold Obligations.MoversComplete
  intro c t ch l rest s hcell hrun hq i opc hi d v bad
  rw [exec_moverCommand hi, State.mvOp, withUnit_of_present hcell]
  have hvrun : (v.chan c ch.toNat).run = some (s.startedRun c ch.toNat t l) := State.run_moverStart hrun hq
  have hmem : v.mem = s.mem := State.mem_of_steady (by simp [v])
  obtain ⟨cl, hv⟩ : ∃ cl, v = { s with cell := cl } := State.moverStart_cellOnly hrun hq
  refine ⟨fun hne hlo hhi => ?_, fun hopc => ⟨?_, State.items_moverStart hrun hq⟩, fun hopc hbad => ?_, fun hopc hcopy hbad => ?_,
    ?_⟩
  · rw [State.moverHead_other hrun hq hne hlo hhi]
  · rw [State.moverHead_starts hrun hq (.inl hopc)]
  · have hcode : (s.startedRun c ch.toNat t l).code = .malformed := if_pos hbad
    have hphase : (s.startedRun c ch.toNat t l).phase = .ending := if_pos hbad
    have hstop : v.moverPump c ch.toNat = v := State.moverPump_stopped hvrun (by rw [hphase]; decide)
    rw [State.moverHead_starts hrun hq hopc]
    refine ⟨_, _, rfl, hstop ▸ hvrun, rfl, hcode, hphase, rfl, ?_, hstop ▸ hmem⟩
    exact hstop ▸ State.sram_moverStart hrun hq
  · have hmove : v.moverMove c ch.toNat = some (v.moverCopy c ch.toNat (s.startedRun c ch.toNat t l)) :=
      State.moverMove_copy hrun hq hbad (hopc.trans hcopy)
    have hdone := v.run_moverCopy c ch.toNat (s.startedRun c ch.toNat t l)
    have hpump : v.moverPump c ch.toNat = v.moverCopy c ch.toNat (s.startedRun c ch.toNat t l) :=
      State.moverPump_once hvrun hmove hdone (by simp [MvRun.ends])
    rw [State.moverHead_starts hrun hq (.inl hopc)]
    refine ⟨_, _, rfl, hpump ▸ hdone, rfl, rfl, rfl, rfl, ?_, fun hlines _ => ?_⟩
    · rw [hpump]
      exact hmem
    have hsram : (v.cellAt c).sram = (s.cellAt c).sram := State.sram_moverStart hrun hq
    exact (congrArg (fun u : State => (u.cellAt c).sram.line (d.operand % 2 ^ 23)) hpump).trans
      ((v.line_moverCopy c ch.toNat hlines).trans (by rw [hsram]; rfl))
  · intro hopc hcopy hput hbad g tn
    have hmove : v.moverMove c ch.toNat = some (v.moverLine c ch.toNat (s.startedRun c ch.toNat t l)) :=
      State.moverMove_line hrun hq hbad (fun e => hcopy (hopc.symm.trans e)) fun e => hput (hopc.symm.trans e)
    have htn : v.cellTenant c = tn := by rw [hv]; rfl
    have hxlt : (v.xltHit c tn g).1 = (s.xltHit c tn g).1 := by rw [hv]; exact s.xltHit_cell cl c tn g
    rw [State.moverHead_starts hrun hq (.inl hopc)]
    refine ⟨fun hmiss => ?_, fun hhit code hfails => ?_⟩
    · obtain ⟨u, humem, hline⟩ := State.moverLine_miss (s := v) (c := c) (ch := ch.toNat) (r := s.startedRun c ch.toNat t l) rfl
        (by rw [htn]; exact hxlt.trans hmiss)
      rw [htn] at hline
      have hwalk : ((v.moverLine c ch.toNat (s.startedRun c ch.toNat t l)).chan c ch.toNat).run =
          some { s.startedRun c ch.toNat t l with phase := .walk } := by
        rw [hline, State.chan_openWalk, State.chan_setRun_same]
      have hpump := State.moverPump_once hvrun hmove hwalk (by simp)
      refine ⟨_, _, rfl, hpump ▸ hwalk, rfl, ?_, ?_⟩
      · rw [hpump, hline]
        exact State.openWalk_waiting _ _ _ _ _ _
      · rw [hpump, hline]
        exact (State.mem_of_steady (State.openWalk_steady ..)).trans (humem.trans hmem)
    · obtain ⟨u, humem, hline⟩ := State.moverLine_fails (s := v) (c := c) (ch := ch.toNat) (r := s.startedRun c ch.toNat t l) (code := code) rfl
        (by rw [htn]; exact hxlt.trans hhit) (by rw [htn, hv]; exact hfails)
      have hends : ((v.moverLine c ch.toNat (s.startedRun c ch.toNat t l)).chan c ch.toNat).run =
          some ((s.startedRun c ch.toNat t l).ends code) := by
        rw [hline, State.chan_setRun_same]
      have hpump := State.moverPump_once hvrun hmove hends (by simp [MvRun.ends])
      refine ⟨_, _, rfl, hpump ▸ hends, rfl, rfl, rfl, ?_⟩
      rw [hpump, hline]
      exact humem.trans hmem

end Sys2Proof.Machine

end

section

namespace Sys2Proof.Machine

/-! ### What sending leaves as it is

A packet that is sent changes the registers, the fabric, the holds of sleeping partners, the fault records and what the device
sends. -/

/-- What sending a packet and raising a bit leave as they are. -/
def State.inner (s : State) : OrderCode × DevNo × Mode × Wale × Word × Nat × Table Word × Mem × TierS × XltS × CellS × SchedS × SvcS ×
    SrchS × HptS × MapS × WeaveS × SecS × List Instr :=
  (s.code, s.device, s.mode, s.wale, s.stime, s.free, s.inForce, s.mem, s.tier, s.xlt, s.cell, s.sched, s.svc, s.srch, s.hpt, s.map,
    s.weave, s.sec, s.pending)

@[simp] theorem State.inner_mk (c d m w st f r i mem t x ce sc sv sr fa hp ma we se p mg o pe) :
    State.inner ⟨c, d, m, w, st, f, r, i, mem, t, x, ce, sc, sv, sr, fa, hp, ma, we, se, p, mg, o, pe⟩ =
      (c, d, m, w, st, f, i, mem, t, x, ce, sc, sv, sr, hp, ma, we, se, pe) := (rfl)

@[simp] theorem State.inner_eta (s : State) : (s.code, s.device, s.mode, s.wale, s.stime, s.free, s.inForce, s.mem, s.tier, s.xlt,
    s.cell, s.sched, s.svc, s.srch, s.hpt, s.map, s.weave, s.sec, s.pending) = s.inner := (rfl)

@[simp] theorem State.inner_ite (c : Prop) [Decidable c] (a b : State) :
    (if c then a else b).inner = if c then a.inner else b.inner := apply_ite State.inner c a b

@[simp] theorem State.inner_foldl {α : Type} (f : State → α → State) (h : ∀ s a, (f s a).inner = s.inner) (l : List α) :
    ∀ s : State, (l.foldl f s).inner = s.inner := foldl_unchanged State.inner h l

section Parts
variable {s u : State} (h : u.inner = s.inner)
include h

theorem State.code_of_inner : u.code = s.code := congrArg (fun e => e.1) h
theorem State.device_of_inner : u.device = s.device := congrArg (fun e => e.2.1) h
theorem State.mode_of_inner : u.mode = s.mode := congrArg (fun e => e.2.2.1) h
theorem State.wale_of_inner : u.wale = s.wale := congrArg (fun e => e.2.2.2.1) h
theorem State.stime_of_inner : u.stime = s.stime := congrArg (fun e => e.2.2.2.2.1) h
theorem State.inForce_of_inner : u.inForce = s.inForce := congrArg (fun e => e.2.2.2.2.2.2.1) h
theorem State.mem_of_inner : u.mem = s.mem := congrArg (fun e => e.2.2.2.2.2.2.2.1) h
theorem State.tier_of_inner : u.tier = s.tier := congrArg (fun e => e.2.2.2.2.2.2.2.2.1) h
theorem State.xlt_of_inner : u.xlt = s.xlt := congrArg (fun e => e.2.2.2.2.2.2.2.2.2.1) h
theorem State.cell_of_inner : u.cell = s.cell := congrArg (fun e => e.2.2.2.2.2.2.2.2.2.2.1) h
theorem State.sched_of_inner : u.sched = s.sched := congrArg (fun e => e.2.2.2.2.2.2.2.2.2.2.2.1) h
theorem State.svc_of_inner : u.svc = s.svc := congrArg (fun e => e.2.2.2.2.2.2.2.2.2.2.2.2.1) h
theorem State.srch_of_inner : u.srch = s.srch := congrArg (fun e => e.2.2.2.2.2.2.2.2.2.2.2.2.2.1) h
theorem State.hpt_of_inner : u.hpt = s.hpt := congrArg (fun e => e.2.2.2.2.2.2.2.2.2.2.2.2.2.2.1) h
theorem State.map_of_inner : u.map = s.map := congrArg (fun e => e.2.2.2.2.2.2.2.2.2.2.2.2.2.2.2.1) h
theorem State.weave_of_inner : u.weave = s.weave := congrArg (fun e => e.2.2.2.2.2.2.2.2.2.2.2.2.2.2.2.2.1) h
theorem State.sec_of_inner : u.sec = s.sec := congrArg (fun e => e.2.2.2.2.2.2.2.2.2.2.2.2.2.2.2.2.2.1) h

end Parts

theorem State.inner_of_fst {α : Type} {p : State × α} {t : State} {a : α} (h : p = (t, a)) : t.inner = p.1.inner := by rw [h]
theorem State.inner_of_snd {α : Type} {p : α × State} {t : State} {a : α} (h : p = (a, t)) : t.inner = p.2.inner := by rw [h]

@[simp] theorem State.setReg_inner (s : State) (off w) : (s.setReg off w).inner = s.inner := (rfl)

@[simp] theorem State.setF_inner (s : State) (f i v) : (s.setF f i v).inner = s.inner := (rfl)

@[simp] theorem State.addF_inner (s : State) (f i n) : (s.addF f i n).inner = s.inner := (rfl)

@[simp] theorem State.emit_inner (s : State) (o) : (s.emit o).inner = s.inner := (rfl)

@[simp] theorem State.newRecord_inner (s : State) (seq block bit n) : (s.newRecord seq block bit n).1.inner = s.inner := (rfl)

@[simp] theorem State.putRecord_inner (s : State) (block bit n) : (s.putRecord block bit n).1.inner = s.inner := by
  unfold State.putRecord
  simp
  split
  · split <;> simp
  · simp

@[simp] theorem State.loseRecord_inner (s : State) : (s.loseRecord).inner = s.inner := (rfl)

@[simp] theorem State.raise_inner (s : State) (block bit n) : (s.raise block bit n).inner = s.inner := by
  unfold State.raise
  split
  · next h => simp [inner_of_fst h]
  · split
    · next h4 _ _ h1 => simp [inner_of_fst h4, inner_of_fst h1]
    · next h4 _ _ h1 => simp [inner_of_fst h4, inner_of_fst h1]

@[simp] theorem State.flag_inner (s : State) (f n i) : (s.flag f n i).inner = s.inner := by
  simp [State.flag]

@[simp] theorem State.onFab_inner (s : State) (g) : (s.onFab g).inner = s.inner := (rfl)

@[simp] theorem State.onPwr_inner (s : State) (g) : (s.onPwr g).inner = s.inner := (rfl)

@[simp] theorem State.onMgt_inner (s : State) (g) : (s.onMgt g).inner = s.inner := (rfl)

@[simp] theorem State.setPort_inner (s : State) (p q) : (s.setPort p q).inner = s.inner := (rfl)

@[simp] theorem State.tel_inner (s : State) (f i n) : (s.tel f i n).inner = s.inner := (rfl)

@[simp] theorem State.sendFlits_inner (s : State) (p n packet) : (s.sendFlits p n packet).inner = s.inner := by
  unfold State.sendFlits
  simp
  split <;> simp

@[simp] theorem State.owe_inner (s : State) (inp p) : (s.owe inp p).inner = s.inner := (rfl)

@[simp] theorem State.moveShared_inner (s : State) (n port) : (s.moveShared n port).inner = s.inner := by
  induction n generalizing s with
  | zero => simp [State.moveShared]
  | succ n ih =>
    unfold State.moveShared
    split <;> simp [ih]

@[simp] theorem State.leftOutput_inner (s : State) (port p) : (s.leftOutput port p).inner = s.inner := by
  unfold State.leftOutput
  simp
  split <;> simp

@[simp] theorem State.transmit_inner (s : State) (port i p) : (s.transmit port i p).inner = s.inner := by
  simp [State.transmit]

@[simp] theorem State.drain_inner (s : State) (n port) : (s.drain n port).inner = s.inner := by
  induction n generalizing s with
  | zero => simp [State.drain]
  | succ n ih =>
    unfold State.drain
    split
    · split <;> simp [ih]
    · rfl

@[simp] theorem State.enqueue_inner (s : State) (port p inp) : (s.enqueue port p inp).inner = s.inner := by
  unfold State.enqueue
  split <;> simp

@[simp] theorem State.dropPacket_inner (s : State) : (s.dropPacket).inner = s.inner := (rfl)

@[simp] theorem State.oweIn_inner (s : State) (inp p) : (s.oweIn inp p).inner = s.inner := by
  unfold State.oweIn
  split <;> simp

@[simp] theorem State.unicastOut_inner (s : State) (p avoid inp) : (s.unicastOut p avoid inp).inner = s.inner := by
  unfold State.unicastOut
  split
  · simp
  · split
    · simp
    · split <;> simp

@[simp] theorem State.mcastOut_inner (s : State) (p inp) : (s.mcastOut p inp).inner = s.inner := by
  unfold State.mcastOut
  split <;> simp

@[simp] theorem State.wakingFor_inner (s : State) (p) : (s.wakingFor p).inner = s.inner := by
  unfold State.wakingFor
  split
  · split
    · rfl
    · simp
  · rfl

@[simp] theorem State.out1_inner (s : State) (p avoid inp) : (s.out1 p avoid inp).inner = s.inner := by
  simp [State.out1]

@[simp] theorem State.noteDead_inner (s : State) (dst addr tenant) : (s.noteDead dst addr tenant).inner = s.inner := by
  simp [State.noteDead]

@[simp] theorem State.noteLost_inner (s : State) (p) : (s.noteLost p).inner = s.inner := by
  simp [State.noteLost]

@[simp] theorem State.setTx_inner (s : State) (t) : (s.setTx t).inner = s.inner := (rfl)

@[simp] theorem State.newTag_inner (s : State) : (s.newTag).2.inner = s.inner := (rfl)

@[simp] theorem State.launch_inner (s : State) (p iss) : (s.launch p iss).inner = s.inner := by
  unfold State.launch
  split <;> simp

@[simp] theorem State.sendWake_inner (s : State) (d) : (s.sendWake d).inner = s.inner := by
  simp [State.sendWake]

@[simp] theorem State.sendPacket_inner (s : State) (p iss boundary) : (s.sendPacket p iss boundary).2.inner = s.inner := by
  unfold State.sendPacket
  simp
  split
  · simp
  · split
    · split
      · simp
      · split
        · simp
        · rfl
    · split <;> simp

@[simp] theorem State.sendMsg_inner (s : State) (dst cls tenant m boundary) : (s.sendMsg dst cls tenant m boundary).inner = s.inner := by
  simp [State.sendMsg]

@[simp] theorem State.sendGroup_inner (s : State) (g cls tenant m) : (s.sendGroup g cls tenant m).inner = s.inner := by
  simp [State.sendGroup]

@[simp] theorem State.sendUp_inner (s : State) (m) : (s.sendUp m).inner = s.inner := by
  unfold State.sendUp
  split
  · rfl
  · simp

@[simp] theorem State.fenceFlow_inner (s : State) (id f) : (s.fenceFlow id f).2.2.inner = s.inner := by
  unfold State.fenceFlow
  dsimp only
  split
  · simp
  · split
    · simp
    · split
      · next h => simp [inner_of_snd h]
      · next h => simp [inner_of_snd h]

@[simp] theorem State.startFence_inner (s : State) (owner classes) : (s.startFence owner classes).2.2.2.inner = s.inner := by
  have h (l : List TxFlow) : ∀ acc : Nat × Bool × State, (l.foldl (fun (acc : Nat × Bool × State) f =>
      let (n, d, s) := acc.2.2.fenceFlow s.fab.nextFence f
      (acc.1 + n, acc.2.1 || d, s)) acc).2.2.inner = acc.2.2.inner := by
    induction l with
    | nil => simp
    | cons f r ih => intro acc; simp [ih]
  unfold State.startFence
  dsimp only
  split
  · exact h _ _
  · exact h _ _

@[simp] theorem State.noteHold_inner (s : State) (cause dev) : (s.noteHold cause dev).inner = s.inner := (rfl)

@[simp] theorem State.sendHold_inner (s : State) (cause) : (s.sendHold cause).inner = s.inner := by
  simp [State.sendHold]
end Sys2Proof.Machine

end

section

namespace Sys2Proof.Machine

/-! ### The epoch rule and SYNC (O30) -/

section Epoch
variable {m : SchedMsg} {s : State}

theorem State.acceptEpoch_below (h : m.epoch.toNat < s.getF F.schedSync_epoch) : s.acceptEpoch m = none := by
  rw [State.acceptEpoch, if_pos h]

theorem State.acceptEpoch_same (h : m.epoch.toNat = s.getF F.schedSync_epoch) : s.acceptEpoch m = some s := by
  rw [State.acceptEpoch, if_neg (by omega), if_pos h]

theorem State.acceptEpoch_above (h : s.getF F.schedSync_epoch < m.epoch.toNat) :
    s.acceptEpoch m = some ((s.setF F.schedSync_epoch 0 m.epoch.toNat).flag F.schedStatus_sourceChange) := by
  rw [State.acceptEpoch, if_neg (by omega), if_neg (by omega)]

end Epoch

/-- The state after the parent's SYNC: offset, error bound and lock. -/
def State.synced (s : State) (offset : BitVec 16) (errorNs : Nat) (locked : Bool) : State :=
  ((s.setF F.schedSync_offsetNs 0 offset.toNat).setF F.schedSync_errorNs 0 (min errorNs 1023)).setF F.schedSync_locked 0 locked.toNat

section Synced
variable (s : State) (offset : BitVec 16) (errorNs : Nat) (locked : Bool)

theorem State.offsetNs_synced : (s.synced offset errorNs locked).getF F.schedSync_offsetNs = offset.toNat := by
  rw [State.synced, State.getF_setF_disjoint _ _ (by decide) (by decide), State.getF_setF_disjoint _ _ (by decide) (by decide),
    State.getF_setF_same _ _ _ _ (by decide)]
  exact Nat.mod_eq_of_lt offset.isLt

theorem State.errorNs_synced : (s.synced offset errorNs locked).getF F.schedSync_errorNs = min errorNs 1023 := by
  rw [State.synced, State.getF_setF_disjoint _ _ (by decide) (by decide), State.getF_setF_same _ _ _ _ (by decide)]
  exact Nat.mod_eq_of_lt ((Nat.min_le_right _ _).trans_lt (by decide))

theorem State.locked_synced : (s.synced offset errorNs locked).getF F.schedSync_locked = locked.toNat := by
  rw [State.synced, State.getF_setF_same _ _ _ _ (by decide)]
  cases locked <;> rfl

theorem State.synced_regsOnly : s.synced offset errorNs locked = { s with regs := (s.synced offset errorNs locked).regs } := rfl

/-- A status bit of the schedule leaves the fields of SYNC. -/
theorem State.getF_sync_flag (n : Note) (bit : Fld) (hbit : bit.off 0 = F.schedStatus_skew.off 0) (f : Fld)
    (hf : f.off 0 = F.schedSync_epoch.off 0) : (s.flag bit n).getF f = s.getF f :=
  s.getF_flag_other n (by rw [hf]; decide) (by rw [hf, hbit]; decide)

end Synced

/-- A SYNC of the parent. -/
theorem State.takeSync_parent {s : State} {m : SchedMsg} (offset : BitVec 16) (errorNs : Nat) (locked : Bool)
    (h : m.epoch.toNat = s.getF F.schedSync_epoch) (hchild : s.sched.children.contains m.device = false)
    (hparent : s.sched.parent = some m.device) : s.takeSync m offset errorNs locked =
      if (s.getF F.schedSync_locked == 1 && !locked) || decide (20 < errorNs)
      then (s.synced offset errorNs locked).flag F.schedStatus_skew else s.synced offset errorNs locked := by
  simp only [State.takeSync, State.acceptEpoch_same h, hchild, Bool.false_eq_true, if_false, if_pos hparent]
  rfl

/-- Settles O30: the epoch rule decides first, and a SYNC is a child's, the parent's or nobody's. -/
theorem epochsAndSync : Obligations.EpochsAndSync := by
  unfold Obligations.EpochsAndSync
  refine ⟨fun m off err locked s => ⟨fun hlow => ?_, State.acceptEpoch_same, fun hhigh => ?_⟩, fun s => ?_, fun m off err locked s h =>
    ⟨fun hchild => ?_, fun hchild hparent => ?_, fun hchild hparent => ?_⟩⟩
  · have hnone := State.acceptEpoch_below hlow
    refine ⟨?_, ?_, ?_, ?_, ?_⟩
    · change execSync m off err locked s = _
      rw [execSync, State.takeSync, hnone]
    · change execReady m s = _
      rw [execReady, State.takeReady, hnone]
    · change execHold m s = _
      rw [execHold, State.takeHold, hnone]
    · change execBoundary m s = _
      rw [execBoundary, State.takeBoundary, hnone]
    · change execSchedFail m s = _
      rw [execSchedFail, State.takeFail, hnone]
  · refine ⟨_, State.acceptEpoch_above hhigh, ?_, State.getF_flag_same _ _ _ _ (by decide) (by decide) rfl,
      State.wale_of_inner (by simp), State.sched_of_inner (by simp), State.mem_of_inner (by simp)⟩
    rw [State.getF_sync_flag _ _ F.schedStatus_sourceChange rfl _ rfl, State.getF_setF_same _ _ _ _ (by decide)]
    exact Nat.mod_eq_of_lt m.epoch.isLt
  · change execSyncTimer s = _
    simp only [execSyncTimer, State.sendUp] <;> rfl
  · change execSync m off err locked s = _
    simp only [execSync, State.takeSync, State.acceptEpoch_same h, hchild, if_true]
  · refine ⟨_, (show exec (.sync m off err locked) s = execSync m off err locked s from rfl).trans
      (congrArg Host.Outcome.next (State.takeSync_parent off err locked h hchild hparent)), ?_⟩
    split
    · next hskew =>
      simp only [State.getF_sync_flag _ _ _ rfl F.schedSync_offsetNs rfl, State.getF_sync_flag _ _ _ rfl F.schedSync_errorNs rfl,
        State.getF_sync_flag _ _ _ rfl F.schedSync_locked rfl]
      refine ⟨s.offsetNs_synced off err locked, s.errorNs_synced off err locked, s.locked_synced off err locked,
        fun _ => State.getF_flag_same _ _ _ _ (by decide) (by decide) rfl, fun herr hlock => ?_,
        (State.sched_of_inner (State.flag_inner ..)).trans rfl, (State.mem_of_inner (State.flag_inner ..)).trans rfl⟩
      simp only [Bool.or_eq_true, Bool.and_eq_true, beq_iff_eq, Bool.not_eq_true', decide_eq_true_eq] at hskew
      rcases hskew with ⟨hone, hlost⟩ | herr'
      · rcases hlock with hlock | hlock
        · exact absurd hone hlock
        · rw [hlost] at hlock
          cases hlock
      · omega
    · next hskew =>
      refine ⟨s.offsetNs_synced off err locked, s.errorNs_synced off err locked, s.locked_synced off err locked, fun hbad => ?_,
        fun _ _ => rfl, rfl, rfl⟩
      refine absurd ?_ hskew
      simp only [Bool.or_eq_true, Bool.and_eq_true, beq_iff_eq, Bool.not_eq_true', decide_eq_true_eq]
      exact hbad.symm
  · change execSync m off err locked s = _
    simp only [execSync, State.takeSync, State.acceptEpoch_same h, hchild, Bool.false_eq_true, if_false, if_neg hparent]

/-! ### Readiness and holds (O31) -/

section Readiness
variable {s : State}

theorem State.becomeReady_idle (h : s.workReady = false ∨ s.mode = .sleep) : s.becomeReady = s := by
  have hnot : ¬ (s.workReady = true ∧ s.mode ≠ .sleep) := by
    rintro ⟨hwork, hmode⟩
    rcases h with h | h
    · rw [h] at hwork
      cases hwork
    · exact hmode h
  rw [State.becomeReady, if_neg hnot]

theorem State.becomeReady_fenced {id : Nat} (hwork : s.workReady = true) (hmode : s.mode ≠ .sleep) (hfence : s.sched.readyFence = some id) :
    s.becomeReady = s.sendReady := by
  rw [State.becomeReady, if_pos ⟨hwork, hmode⟩, hfence]

/-- The device says READY: its work has ended, its fence is complete, and every child has said so. -/
theorem State.sendReady_ready {id : Nat} (hwork : s.workReady = true) (hfence : s.sched.readyFence = some id) (hdone : s.fence id = none)
    (hall : ∀ c ∈ s.sched.children, c ∈ s.pwr.asleep ∨ ∃ n, (c, n) ∈ s.sched.readyFrom) (hsent : s.sched.sentReady = false) :
    s.sendReady =
      ((s.unhold causeOverrun).onSched fun x => { x with sentReady := true }).sendUp
        { ((s.unhold causeOverrun).onSched fun x => { x with sentReady := true }).schedMsg kReady with
          count := ((s.unhold causeOverrun).onSched fun x => { x with sentReady := true }).readyCount } := by
  have hready : s.readyFenced = true := by simp [State.readyFenced, hfence, hdone]
  have hchildren : (s.sched.children.all fun c => s.pwr.asleep.contains c || s.sched.readyFrom.any fun r => r.1 == c) = true := by
    rw [List.all_eq_true]
    intro c hc
    rcases hall c hc with hasleep | ⟨n, hn⟩
    · simp [hasleep]
    · have hany : (s.sched.readyFrom.any fun r => r.1 == c) = true := List.any_eq_true.2 ⟨(c, n), hn, by simp⟩
      simp [hany]
  rw [State.sendReady]
  simp only [hwork, hready, hchildren, hsent, Bool.not_false, Bool.and_self, if_true]

/-- Saying READY changes of the schedule the holds and that READY has been sent. -/
theorem State.sched_sendReady (s : State) :
    ∃ h b, s.sendReady.sched = { s.sched with holds := h, sentReady := b } := by
  unfold State.sendReady
  dsimp only
  split
  · rw [State.sched_of_inner (State.sendUp_inner ..)]
    exact ⟨_, _, rfl⟩
  · exact ⟨s.sched.holds, s.sched.sentReady, rfl⟩

theorem State.becomeReady_starts (hwork : s.workReady = true) (hmode : s.mode ≠ .sleep) (hfence : s.sched.readyFence = none) :
    s.becomeReady.sched.readyFence ≠ none := by
  rw [State.becomeReady, if_pos ⟨hwork, hmode⟩, hfence]
  obtain ⟨h, b, hsched⟩ := State.sched_sendReady
    ((s.startFence .deviceReady [1, 2]).2.2.2.onSched fun x => { x with readyFence := some (s.startFence .deviceReady [1, 2]).1 })
  change (State.sendReady _).sched.readyFence ≠ none
  rw [hsched]
  exact Option.some_ne_none _

end Readiness

section Messages
variable {m : SchedMsg} {s : State} (h : m.epoch.toNat = s.getF F.schedSync_epoch)
include h

/-- A child's READY of this wale. -/
theorem State.takeReady_child (hwale : m.wale = s.wale) (hchild : s.sched.children.contains m.device = true) : s.takeReady m =
    (s.onSched fun x => { x with readyFrom := (x.readyFrom.filter fun r => r.1 != m.device) ++ [(m.device, m.count)] }).sendReady := by
  simp only [State.takeReady, State.acceptEpoch_same h, hchild, hwale, Bool.true_or, and_self, if_true]
  simp only [State.onSched, hchild, if_true]

theorem State.takeReady_early (hwale : m.wale ≠ s.wale) : s.takeReady m = s.holdEarly m := by
  simp [State.takeReady, State.acceptEpoch_same h, hwale]

theorem State.takeHold_early (hwale : m.wale ≠ s.wale) : s.takeHold m = s.holdEarly m := by
  simp [State.takeHold, State.acceptEpoch_same h, hwale]

/-- The state in which a HOLD's device is among those that hold. -/
def State.heldBy (s : State) (d : DevNo) : State :=
  s.onSched fun x => { x with heldFrom := if x.heldFrom.contains d then x.heldFrom else x.heldFrom ++ [d] }

theorem State.takeHold_now (hwale : m.wale = s.wale) : s.takeHold m =
    if s.isSource then (s.heldBy m.device).noteHold m.cause m.device else (s.heldBy m.device).sendUp m := by
  simp only [State.takeHold, State.acceptEpoch_same h, hwale, if_true]
  rfl

end Messages

theorem State.mem_heldFrom_heldBy (s : State) (d : DevNo) : d ∈ (s.heldBy d).sched.heldFrom := by
  change d ∈ (if s.sched.heldFrom.contains d then s.sched.heldFrom else s.sched.heldFrom ++ [d])
  split
  · next h => exact List.contains_iff_mem.1 h
  · exact List.mem_append_right _ (List.mem_singleton_self _)

section NoteHold
variable (s : State) (cause : Nat) (d : DevNo)

theorem State.standCause_noteHold (h : cause < 8) : (s.noteHold cause d).getF F.schedHold_standCause = cause := by
  rw [State.noteHold, State.getF_setF_disjoint _ _ (by decide) (by decide), State.getF_setF_same _ _ _ _ (by decide)]
  exact Nat.mod_eq_of_lt h

theorem State.holder_noteHold : (s.noteHold cause d).getF F.schedHold_holder = d.toNat := by
  rw [State.noteHold, State.getF_setF_same _ _ _ _ (by decide)]
  exact Nat.mod_eq_of_lt d.isLt

end NoteHold

theorem wale_succ_ne (w : Wale) : w + 1 ≠ w := by
  bv_omega

/-- Settles O31: READY goes up once its conditions hold, and a HOLD is noted or passed up. -/
theorem readinessAndHolds : Obligations.ReadinessAndHolds := by
  unfold Obligations.ReadinessAndHolds
  refine ⟨⟨fun s hidle => ?_, ?_, fun s hwork hmode hfence => ?_, fun m s h hwale hchild => ?_, fun m s h hwale => ?_⟩,
    fun m s h hwale hcause => ⟨fun hsource => ?_, fun hsource => ?_⟩, fun s hnone => ?_, fun c rest s hholds => ?_,
    fun s => ⟨fun hlate hsent hholds hwork => ?_, fun hnot => ?_⟩, fun s => ⟨fun hmode hwarned hdue => ?_, fun hnot => ?_⟩⟩
  · change execDeviceReady s = _
    rw [execDeviceReady, State.becomeReady_idle hidle]
  · intro id s hwork hmode hfence hdone hall hsent u
    change execDeviceReady s = _
    rw [execDeviceReady, State.becomeReady_fenced hwork hmode hfence, State.sendReady_ready hwork hfence hdone hall hsent]
  · exact ⟨_, rfl, rfl, State.becomeReady_starts hwork hmode hfence⟩
  · obtain ⟨hs, b, hsched⟩ := State.sched_sendReady
      (s.onSched fun x => { x with readyFrom := (x.readyFrom.filter fun r => r.1 != m.device) ++ [(m.device, m.count)] })
    refine ⟨_, congrArg Host.Outcome.next (State.takeReady_child h hwale hchild), ?_, ?_, fun e he hne => ?_,
      State.mem_of_steady (by simp)⟩
    · rw [hsched]
      exact List.mem_append_right _ (List.mem_singleton_self _)
    · rw [hsched]
      rfl
    · rw [hsched]
      exact List.mem_append_left _ (List.mem_filter.2 ⟨he, by simpa using hne⟩)
  · have hne : m.wale ≠ s.wale := hwale ▸ wale_succ_ne s.wale
    refine ⟨_, congrArg Host.Outcome.next (State.takeReady_early h hne), congrArg Host.Outcome.next (State.takeHold_early h hne), ?_, ?_⟩
    · rw [State.holdEarly, if_pos hwale]
      exact List.length_append
    · rw [State.holdEarly, if_pos hwale]
      rfl
  · refine ⟨_, congrArg Host.Outcome.next ((State.takeHold_now h hwale).trans (if_pos hsource)), State.standCause_noteHold _ _ _ hcause,
      State.holder_noteHold _ _ _, s.mem_heldFrom_heldBy m.device, rfl, rfl⟩
  · refine ⟨s.heldBy m.device, congrArg Host.Outcome.next ((State.takeHold_now h hwale).trans (if_neg (by simp [hsource]))),
      s.mem_heldFrom_heldBy m.device, rfl⟩
  · change execHoldRepeatTimer s = _
    rw [execHoldRepeatTimer, hnone]
    rfl
  · change execHoldRepeatTimer s = _
    rw [execHoldRepeatTimer, hholds, List.getLast?_concat]
  · have hdue : s.plannedEnd ≤ s.stime.toNat + 8000 ∧ (!s.sched.sentReady) = true ∧ s.sched.holds = [] ∧ (!s.workReady) = true :=
      ⟨hlate, by simp [hsent], hholds, by simp [hwork]⟩
    have hnotHeld : ((s.onSched fun x => { x with overrun := true }).sched.holds.contains causeOverrun) = false := by
      change s.sched.holds.contains causeOverrun = false
      rw [hholds]
      rfl
    have hsched : ((s.onSched fun x => { x with overrun := true }).holdFor causeOverrun).sched =
        { s.sched with overrun := true, holds := s.sched.holds ++ [causeOverrun] } := by
      rw [State.holdFor, hnotHeld]
      exact State.sched_of_inner (State.sendHold_inner ..)
    refine ⟨(s.onSched fun x => { x with overrun := true }).holdFor causeOverrun, ?_, ?_, ?_, State.mem_of_steady (by simp)⟩
    · change execOverrunHold s = _
      rw [execOverrunHold, if_pos hdue]
    · rw [hsched, hholds]
      rfl
    · rw [hsched]
  · change execOverrunHold s = _
    have hnot' : ¬ (s.plannedEnd ≤ s.stime.toNat + 8000 ∧ (!s.sched.sentReady) = true ∧ s.sched.holds = [] ∧ (!s.workReady) = true) := by
      rintro ⟨hlate, hsent, hholds, hwork⟩
      rw [Bool.not_eq_true'] at hsent hwork
      rcases hnot with h | h | h | h
      · omega
      · exact Bool.false_ne_true (hsent.symm.trans h)
      · exact h hholds
      · exact Bool.false_ne_true (hwork.symm.trans h)
    rw [execOverrunHold, if_neg hnot']
  · refine ⟨(s.onSched fun x => { x with warned := true }).flag F.schedStatus_stretchWarn, ?_,
      State.getF_flag_same _ _ _ _ (by decide) (by decide) rfl, ?_, State.mem_of_steady (by simp)⟩
    · change execStretchWarnTimer s = _
      rw [execStretchWarnTimer, if_pos ⟨hmode, by simp [hwarned], hdue⟩]
    · rw [State.sched_of_inner (State.flag_inner ..)]
      rfl
  · change execStretchWarnTimer s = _
    have hnot' : ¬ (s.mode ≠ .sleep ∧ (!s.sched.warned) = true ∧
        s.plannedEnd + 1000 * s.act F.schedStretchWarn_warnUs ≤ s.stime.toNat) := by
      rintro ⟨hmode, hwarned, -⟩
      rw [Bool.not_eq_true'] at hwarned
      rcases hnot with h | h
      · exact hmode h
      · exact Bool.false_ne_true (hwarned.symm.trans h)
    rw [execStretchWarnTimer, if_neg hnot']

end Sys2Proof.Machine

end

section

namespace Sys2Proof.Machine

/-! ### Announcing a boundary (O32) -/

/-- The device, its mode and its counters of time, which few operations change. -/
def State.clock (s : State) : DevNo × Mode × Wale × Word := (s.device, s.mode, s.wale, s.stime)

@[simp] theorem State.clock_mk (c d m w st f r i mem t x ce sc sv sr fa hp ma we se p mg o pe) :
    State.clock ⟨c, d, m, w, st, f, r, i, mem, t, x, ce, sc, sv, sr, fa, hp, ma, we, se, p, mg, o, pe⟩ = (d, m, w, st) := (rfl)

@[simp] theorem State.clock_eta (s : State) : (s.device, s.mode, s.wale, s.stime) = s.clock := (rfl)

@[simp] theorem State.clock_ite (c : Prop) [Decidable c] (a b : State) :
    (if c then a else b).clock = if c then a.clock else b.clock := apply_ite State.clock c a b

@[simp] theorem State.clock_foldl {α : Type} (f : State → α → State) (h : ∀ s a, (f s a).clock = s.clock) (l : List α) :
    ∀ s : State, (l.foldl f s).clock = s.clock := foldl_unchanged State.clock h l

theorem State.clock_of_inner {s u : State} (h : u.inner = s.inner) : u.clock = s.clock := by
  rw [State.clock, State.device_of_inner h, State.mode_of_inner h, State.wale_of_inner h, State.stime_of_inner h, State.clock_eta]

section ClockParts
variable {s u : State} (h : u.clock = s.clock)
include h

theorem State.mode_of_clock : u.mode = s.mode := congrArg (fun e => e.2.1) h
theorem State.wale_of_clock : u.wale = s.wale := congrArg (fun e => e.2.2.1) h
theorem State.stime_of_clock : u.stime = s.stime := congrArg (fun e => e.2.2.2) h

end ClockParts

@[simp] theorem State.setF_clock (s : State) (f i v) : (s.setF f i v).clock = s.clock := rfl
@[simp] theorem State.addF_clock (s : State) (f i v) : (s.addF f i v).clock = s.clock := rfl
@[simp] theorem State.flag_clock (s : State) (f n i) : (s.flag f n i).clock = s.clock := State.clock_of_inner (State.flag_inner ..)
@[simp] theorem State.onTier_clock (s : State) (g) : (s.onTier g).clock = s.clock := rfl
@[simp] theorem State.onSched_clock (s : State) (g) : (s.onSched g).clock = s.clock := rfl
@[simp] theorem State.onWeave_clock (s : State) (g) : (s.onWeave g).clock = s.clock := rfl
@[simp] theorem State.setBlk_clock (s : State) (b e) : (s.setBlk b e).clock = s.clock := rfl
@[simp] theorem State.wakeVictim_clock (s : State) (b) : (s.wakeVictim b).clock = s.clock := rfl
@[simp] theorem State.sendGroup_clock (s : State) (g c t m) : (s.sendGroup g c t m).clock = s.clock :=
  State.clock_of_inner (State.sendGroup_inner ..)

@[simp] theorem State.giveFrames_clock (s : State) (t n) : (s.giveFrames t n).clock = s.clock := by
  cases t <;> rfl

@[simp] theorem State.uncountFrame_clock (s : State) (tn t r) : (s.uncountFrame tn t r).clock = s.clock := by
  unfold State.uncountFrame
  split
  · split <;> rfl
  · rfl

@[simp] theorem State.freeRun_clock (s : State) (t n) : (s.freeRun t n).clock = s.clock := by
  cases t <;> rfl

@[simp] theorem State.dropCopy_clock (s : State) (b t) : (s.dropCopy b t).clock = s.clock := by
  unfold State.dropCopy
  split
  · simp
    split <;> simp
  · simp
    split <;> simp

@[simp] theorem State.leaveWindow_clock (s : State) (tn packed b) : (s.leaveWindow tn packed b).clock = s.clock := by
  simp [State.leaveWindow]

@[simp] theorem State.releaseWindows_clock (s : State) (ms keep) : (s.releaseWindows ms keep).clock = s.clock := by
  simp [State.releaseWindows]

@[simp] theorem State.dropStage_clock (s : State) : s.dropStage.clock = s.clock := by
  unfold State.dropStage
  split
  · simp
  · rfl

@[simp] theorem State.sendReload_clock (s : State) (w) : (s.sendReload w).clock = s.clock := by
  unfold State.sendReload
  split
  · simp
  · rfl

section Announce
variable (s : State)

/-- What the device announces. -/
def State.nextBoundary : Announced :=
  { wale := s.wale + 1, time := BitVec.ofNat 64 (max s.plannedEnd (s.stime.toNat + 8000)),
    lenUs := if s.getF F.schedWaleLen_nextUs = 0 then s.sched.lenUs else s.getF F.schedWaleLen_nextUs }

/-- The state that announces, before its message goes out. -/
def State.announcing : State :=
  ((s.sendReload (s.wale + 1)).setF F.schedWaleLen_nextUs 0 0).onSched fun x =>
    { x with announced := some s.nextBoundary, sentBoundary := true }

theorem State.announce_inner : s.announce.inner = s.announcing.inner := State.sendGroup_inner ..

end Announce

/-- Settles O32: the guards of the two commands, and the fields that `announce` sets. -/
theorem announcingCompletes : Obligations.AnnouncingCompletes := by
  unfold Obligations.AnnouncingCompletes
  refine ⟨fun s hmay => ⟨fun hsent hall hdue => ?_, fun hnot => ?_, fun hdue hholds => ?_⟩, fun s hnot => ⟨?_, ?_⟩, fun s => ?_⟩
  · change execBoundaryAnnounce s = _
    simp [execBoundaryAnnounce, hmay, hsent, hall, hdue]
  · change execBoundaryAnnounce s = _
    have hguard : (s.mayAnnounce && s.sched.sentReady && decide (s.sched.standSize ≤ s.readyCount) &&
        decide (s.plannedEnd ≤ s.stime.toNat + 8000)) = false := by
      rcases hnot with h | h | h
      · simp [h]
      · simp [Nat.not_le.2 h]
      · simp [Nat.not_le.2 h]
    rw [execBoundaryAnnounce, hguard]
    rfl
  · change execOverrunGraceExpiry s = _
    have hall : s.sched.holds.all (· == causeOverrun) = true := List.all_eq_true.2 fun c hc => by rw [hholds c hc]; rfl
    simp [execOverrunGraceExpiry, hmay, hdue, hall]
  · change execBoundaryAnnounce s = _
    simp [execBoundaryAnnounce, hnot]
  · change execOverrunGraceExpiry s = _
    simp [execOverrunGraceExpiry, hnot]
  · have hsched := State.sched_of_inner s.announce_inner
    refine ⟨?_, ?_, ?_⟩
    · rw [hsched]
      rfl
    · rw [hsched]
      rfl
    · rw [State.wale_of_inner s.announce_inner]
      exact State.wale_of_clock (s.sendReload_clock _)

/-! ### BOUNDARY and WALE_BOUNDARY (O33) -/


theorem BitVec.not_lt_of_le {n : Nat} {a b : BitVec n} (h : b.toNat ≤ a.toNat) : ¬ a < b := by
  rw [BitVec.lt_def]
  omega

section Boundary
variable {m : SchedMsg} {s : State} (h : m.epoch.toNat = s.getF F.schedSync_epoch) (hwale : m.wale = s.wale + 1) (hslath : s.mode ≠ .slath)
  (hsleep : s.mode ≠ .sleep)
include h hwale hslath hsleep

/-- A BOUNDARY that the device takes. -/
theorem State.takeBoundary_next : s.takeBoundary m =
    if m.time < s.stime then
      ((s.onSched fun x => { x with announced := some { wale := m.wale, time := m.time, lenUs := m.lenUs } }).flag
        F.schedStatus_boundaryLate).crossBoundary { wale := m.wale, time := m.time, lenUs := m.lenUs } s.stime.toNat
    else s.onSched fun x => { x with announced := some { wale := m.wale, time := m.time, lenUs := m.lenUs } } := by
  simp only [State.takeBoundary, State.acceptEpoch_same h, hwale, hslath, hsleep, false_or, ne_eq, not_true_eq_false, false_and, if_false]
  rfl

end Boundary

theorem State.waleBoundary_announced {s : State} {a : Announced} (h : s.sched.announced = some a) (hslath : s.mode ≠ .slath)
    (hsleep : s.mode ≠ .sleep) (ended : Nat) : s.waleBoundary ended = if s.stime < a.time then s else s.crossBoundary a ended := by
  rw [State.waleBoundary, if_neg hslath, if_neg hsleep, h]

section NewWale
variable (s : State) (a : Announced)

theorem State.nextCounter_clock (w : Wale) : (s.nextCounter w).device = s.device ∧ (s.nextCounter w).mode = s.mode ∧
    (s.nextCounter w).wale = w ∧ (s.nextCounter w).stime = s.stime := by
  unfold State.nextCounter
  dsimp only
  split
  · exact ⟨rfl, rfl, rfl, rfl⟩
  · exact ⟨rfl, rfl, rfl, rfl⟩

/-- The write of the rollback counter apart, a new wale changes no register. -/
theorem State.regs_nextCounter {w : Wale} (h : w.toNat % 16777216 ≠ 0) : (s.nextCounter w).regs = s.regs := by
  rw [State.nextCounter, if_neg h]
  rfl

theorem State.mem_nextCounter (w : Wale) : (s.nextCounter w).mem = s.mem := State.mem_of_steady (by simp)

theorem State.newWale_fields : (s.newWale a).sched.start = a.time ∧ (s.newWale a).sched.lenUs = a.lenUs ∧
    (s.newWale a).sched.holds = s.sched.holds.filter (· == 5) ∧ (s.newWale a).sched.worked = false ∧ (s.newWale a).wale = s.wale ∧
    (s.newWale a).sched.announced = none ∧ (s.newWale a).sched.sentReady = false ∧ (s.newWale a).mode = s.mode ∧
    (s.newWale a).inForce = s.inForce ∧ (s.newWale a).mem = s.mem := ⟨rfl, rfl, rfl, rfl, rfl, rfl, rfl, rfl, rfl, rfl⟩

theorem State.runs_newWale : (s.newWale a).sched.runs = s.sched.tracks.map fun e => (e.1, s.freshRun e.1) := rfl

/-- A device in QUARANTINE keeps the counter only. -/
theorem State.crossBoundary_quarantine (h : s.mode = .quarantine) (ended : Nat) : s.crossBoundary a ended = s.countOnly a := by
  rw [State.crossBoundary, if_pos (.inl h)]

theorem State.crossBoundary_running (h : s.mode = .service ∨ s.mode = .rest ∨ s.mode = .crust ∨ s.mode = .repair) (ended : Nat) :
    s.crossBoundary a ended = (s.sequence a ended).finish := by
  have hnot : ¬ (s.mode = .quarantine ∨ (s.mode = .weaving ∧ s.weave.phase ≠ .joined)) := by
    rcases h with h | h | h | h <;> simp [h]
  rw [State.crossBoundary, if_neg hnot]

end NewWale

theorem exec_waleBoundary (f : BoundaryFacts) (s : State) : exec (.waleBoundary f) s = .next (s.waleBoundary f.ended.toNat) := rfl

theorem exec_boundary (m : SchedMsg) (s : State) : exec (.boundary m) s = .next (s.takeBoundary m) := rfl

/-- Settles O33: the guards of the two commands decide between nothing, the count alone and the sequence. -/
theorem boundaryCompletes : Obligations.BoundaryCompletes := by
  unfold Obligations.BoundaryCompletes
  refine ⟨?_, fun f a s hann hslath hsleep => ⟨fun hearly => ?_, fun hdue hmode => ?_, fun hdue hmode => ?_⟩, fun f s hslath => ?_,
    fun f s hsleep => ⟨fun hearly => ?_, fun hdue => ?_⟩, fun a s => ?_⟩
  · intro m s h hwale hslath hsleep a u
    rw [exec_boundary, State.takeBoundary_next h hwale hslath hsleep]
    refine ⟨fun hin => ?_, fun hlate => ?_⟩
    · rw [if_neg (BitVec.not_lt_of_le hin)]
    · rw [if_pos (BitVec.lt_def.2 hlate)]
  · rw [exec_waleBoundary, State.waleBoundary_announced hann hslath hsleep, if_pos (BitVec.lt_def.2 hearly)]
  · rw [exec_waleBoundary, State.waleBoundary_announced hann hslath hsleep, if_neg (BitVec.not_lt_of_le hdue),
      State.crossBoundary_quarantine s a hmode]
    obtain ⟨-, hm, hw, -⟩ := s.nextCounter_clock a.wale
    obtain ⟨hstart, hlen, -, -, hwale, hnone, hsent, hmode', hforce, hmem⟩ := (s.nextCounter a.wale).applyHeld.newWale_fields a
    exact ⟨_, rfl, hwale.trans hw, hstart, hlen, hnone, hsent, fun hrp => hforce.trans (s.regs_nextCounter hrp),
      hmode'.trans (hm.trans hmode), hmem.trans (s.mem_nextCounter _)⟩
  · rw [exec_waleBoundary, State.waleBoundary_announced hann hslath hsleep, if_neg (BitVec.not_lt_of_le hdue),
      State.crossBoundary_running s a hmode]
  · rw [exec_waleBoundary, State.waleBoundary, if_pos hslath]
  · have hslath : s.mode ≠ .slath := by rw [hsleep]; decide
    rw [exec_waleBoundary, State.waleBoundary, if_neg hslath, if_pos hsleep, State.sleepCount, if_neg (Nat.not_le.2 hearly)]
  · have hslath : s.mode ≠ .slath := by rw [hsleep]; decide
    obtain ⟨-, hm, hw, -⟩ := s.nextCounter_clock (s.wale + 1)
    rw [exec_waleBoundary, State.waleBoundary, if_neg hslath, if_pos hsleep, State.sleepCount, if_pos hdue]
    exact ⟨_, rfl, hw, rfl, hm.trans hsleep, s.mem_nextCounter _⟩
  · obtain ⟨hstart, hlen, hholds, hworked, hwale, -⟩ := s.newWale_fields a
    refine ⟨hstart, hlen, hholds, hworked, hwale, ?_, fun e he => ?_⟩
    · rw [State.runs_newWale, List.map_map]
      rfl
    · rw [State.runs_newWale] at he
      obtain ⟨e0, -, rfl⟩ := List.mem_map.1 he
      exact ⟨rfl, rfl⟩

end Sys2Proof.Machine

end

section

namespace Sys2Proof

theorem Table.mem_del {α : Type} {t : Table α} {k : Nat} {e : Nat × α} (h : e ∈ t.del k) : e ∈ t ∧ e.1 ≠ k := by
  induction t with
  | nil => cases h
  | cons a r ih =>
    obtain ⟨k', v⟩ := a
    rw [Table.del] at h
    split at h
    · obtain ⟨hmem, hne⟩ := ih h
      exact ⟨List.mem_cons_of_mem _ hmem, hne⟩
    · next hk =>
      rcases List.mem_cons.1 h with rfl | hr
      · exact ⟨List.mem_cons_self .., hk⟩
      · obtain ⟨hmem, hne⟩ := ih hr
        exact ⟨List.mem_cons_of_mem _ hmem, hne⟩

end Sys2Proof

namespace Sys2Proof.Machine

/-! ### The steps of templates (O35) -/

section StartStep
variable {s : State} {t : Nat} {kind : StepKind} (k : TrackRun → Step → State → State)

theorem State.startStep_none (h : s.dueStep t = none) : s.startStep t kind k = s := by
  rw [State.startStep, h]

variable {r : TrackRun} {d : Step} (h : s.dueStep t = some (r, d))
include h

theorem State.startStep_not (hnot : d.kind ≠ kind ∨ s.mayStart d = false ∨ s.ownFirst t r.next d = false) :
    s.startStep t kind k = s := by
  have hguard : d.kind ≠ kind ∨ (!s.mayStart d) = true ∨ (!s.ownFirst t r.next d) = true := by
    simpa only [Bool.not_eq_true'] using hnot
  rw [State.startStep, h]
  exact if_pos hguard

section May
variable (hkind : d.kind = kind) (hmay : s.mayStart d = true) (hown : s.ownFirst t r.next d = true) (hfail : s.map.failover = none)
include hkind hmay hown hfail

theorem State.startStep_off (hoff : (d.cells.any fun c => s.cellRun c == runOff) = true) : s.startStep t kind k = s.trackFault t := by
  simp [State.startStep, h, hkind, hmay, hown, hfail, hoff]

theorem State.startStep_starts (hoff : (d.cells.any fun c => s.cellRun c == runOff) = false) : s.startStep t kind k = k r d s := by
  simp [State.startStep, h, hkind, hmay, hown, hfail, hoff]

end May

end StartStep

/-- What starts with a step of a kind. -/
def StepKind.starts (t : Nat) (kind : StepKind) (r : TrackRun) (d : Step) (s : State) : State :=
  match kind with
  | .kernel => s.startKernel t r d
  | .stream => s.startStream t r d
  | .service => s.startService t r d
  | _ => s.startSearch t r d

/-- The commands that start a step, with the kind of their step. -/
def stepCommands (t : Nat) : List (Instr × StepKind) :=
  [(.stepKernel t, .kernel), (.stepStream t, .stream), (.stepService t, .service), (.stepSearch t, .search)]

theorem exec_stepCommand {t : Nat} {e : Instr × StepKind} (he : e ∈ stepCommands t) (s : State) :
    exec e.1 s = .next (s.startStep t e.2 fun r d s => StepKind.starts t e.2 r d s).finish := by
  simp only [stepCommands, List.mem_cons, List.not_mem_nil, or_false] at he
  rcases he with rfl | rfl | rfl | rfl <;> rfl

section Kernel
variable (s : State) (c : Nat) (k : Kernel) (argOff : Nat) (arg : Option Line) (track : Option Nat)

theorem State.cellRun_kernelStart : (s.kernelStart c k argOff arg track).cellRun c = 2 := State.getF_setF_same _ _ _ _ (by decide)

theorem State.kernel_kernelStart : (s.kernelStart c k argOff arg track).getF F.cellState_kernel c = k.id % 65536 := by
  unfold State.kernelStart
  rw [State.getF_setF_disjoint _ _ (by decide) (by decide), State.getF_setF_disjoint _ _ (by decide) (by decide),
    State.getF_setF_same _ _ _ _ (by decide)]
  rfl

/-- A kernel starts at its entry with a cleared accumulator, for the track of its step. -/
theorem State.cellAt_kernelStart : ((s.kernelStart c k argOff arg track).cellAt c).pc = BitVec.ofNat 64 (k.codeOffset + k.entry) ∧
    ((s.kernelStart c k argOff arg track).cellAt c).acc = [] ∧ ((s.kernelStart c k argOff arg track).cellAt c).track = track := by
  unfold State.kernelStart
  simp only [State.cellAt_setF, State.cellAt_setCell_same, and_self]

end Kernel

/-- In SERVICE a KERNEL step of one cell starts its kernel there. -/
theorem State.startKernel_one {s : State} {t : Nat} {r : TrackRun} {d : Step} {k : Kernel} (hk : s.trackKernel t d.kernel = some k)
    (hmode : s.mode = .service) (hcells : d.cells = [32 * d.die]) :
    ∃ (u : State) (arg : Option Line), s.startKernel t r d = u.kernelStart (32 * d.die) k d.argSram arg (some t) ∧ u.mem = s.mem := by
  have hrest : s.stepWorks = s.onSched fun x => { x with worked := true } := by
    have hnot : (s.onSched fun x => { x with worked := true }).mode ≠ .rest := by
      change s.mode ≠ .rest
      rw [hmode]
      decide
    rw [State.stepWorks, State.leaveRest, if_neg hnot]
  have hk' : (s.stepWorks.stepStarted t r (some (d.opened r.next))).trackKernel t d.kernel = some k := by
    rw [hrest]
    exact hk
  refine ⟨s.stepWorks.stepStarted t r (some (d.opened r.next)), some ((((s.templateAt t s.wale).map (·.args)).getD []).getD d.argIndex 0),
    ?_, ?_⟩
  · simp only [State.startKernel, hk', hcells, List.foldl_cons, List.foldl_nil]
  · rw [hrest]
    rfl

/-- The state in which the search slot of a track is closed. -/
def State.searchClosed (s : State) (t : Nat) : State :=
  (s.onSrch fun x => { x with open_ := x.open_.del t }).onSched fun x => { x with runs := x.runs.map fun e =>
    if e.1 == t then (e.1, { e.2 with open_ := e.2.open_.filter fun o => o.kind != .search }) else e }

theorem State.kind_searchClosed {s : State} {t : Nat} {e : Nat × TrackRun} (he : e ∈ (s.searchClosed t).sched.runs) (ht : e.1 = t)
    {o : OpenStep} (ho : o ∈ e.2.open_) : o.kind ≠ .search := by
  obtain ⟨e0, -, rfl⟩ := List.mem_map.1 he
  by_cases h0 : (e0.1 == t) = true
  · rw [if_pos h0] at ho
    obtain ⟨-, hkind⟩ := List.mem_filter.1 ho
    simpa using hkind
  · rw [if_neg h0] at ht
    exact absurd (beq_iff_eq.2 ht) h0

/-- Settles O35: a step starts where its guards hold; END and the end of a slot update the track's record. -/
theorem stepsComplete : Obligations.StepsComplete := by
  unfold Obligations.StepsComplete
  refine ⟨fun t s e he => ⟨fun hnone => ?_, fun r d hdue => ⟨fun hnot => ?_, fun hkind hmay hown hfail hoff => ?_,
    fun hkind hmay hown hfail hoff => ?_⟩⟩, ?_, fun t r d s hdue => ⟨fun hdone => ?_, fun hdone => ?_⟩,
    fun t s => ⟨fun hopen => ?_, fun hopen => ?_⟩⟩
  · rw [exec_stepCommand he, State.startStep_none _ hnone]
  · rw [exec_stepCommand he, State.startStep_not _ hdue hnot]
  · rw [exec_stepCommand he, State.startStep_off _ hdue hkind hmay hown hfail hoff]
  · rw [exec_stepCommand he, State.startStep_starts _ hdue hkind hmay hown hfail hoff]
    obtain ⟨i, kind⟩ := e
    cases kind <;> rfl
  · intro t r d k s hk hcells hdie hmode hidle u
    obtain ⟨u0, arg, hstart, hmem⟩ := State.startKernel_one (r := r) hk hmode hcells
    have hu : u = u0.kernelStart (32 * d.die) k d.argSram arg (some t) := hstart
    obtain ⟨hpc, hacc, htrack⟩ := u0.cellAt_kernelStart (32 * d.die) k d.argSram arg (some t)
    rw [hu]
    exact ⟨State.cellRun_kernelStart .., State.kernel_kernelStart .., hpc, hacc, htrack, hmem⟩
  · refine ⟨s.onSched fun x => { x with runs := x.runs.put t { r with next := r.next + 1, ended := true } }, ?_, rfl⟩
    change execStepEnd t s = _
    rw [execStepEnd, hdue]
    simp only [hdone, if_true]
  · change execStepEnd t s = _
    rw [execStepEnd, hdue]
    simp only [hdone, if_false]
  · refine ⟨s.searchClosed t, ?_, fun e he => (Table.mem_del he).2, fun e he ht o ho => State.kind_searchClosed he ht ho, rfl, rfl⟩
    change execSearchSlotEnd t s = _
    rw [execSearchSlotEnd, if_pos hopen]
    rfl
  · change execSearchSlotEnd t s = _
    rw [execSearchSlotEnd, hopen]
    rfl

end Sys2Proof.Machine

end

section

namespace Sys2Proof.Machine

/-! ### Apertures and slots -/

section Apertures
variable (s : State) (t : Tenant)

@[simp] theorem State.aperture_setAperture_same (a : Aperture) : (s.setAperture t a).aperture t = a := by
  simp [State.aperture, State.setAperture, State.onSvc]

theorem State.aperture_setAperture_other (a : Aperture) {n : Tenant} (h : n ≠ t) : (s.setAperture t a).aperture n = s.aperture n := by
  have hne : n.toNat ≠ t.toNat := fun e => h (BitVec.eq_of_toNat_eq e)
  simp [State.aperture, State.setAperture, State.onSvc, Table.get_put_other _ _ _ hne]

@[simp] theorem State.slot_setSlot_same (i : Nat) (v : Slot) : (s.setSlot t i v).slot t i = v := by
  simp [State.slot, State.setSlot]

theorem State.slot_setSlot_other {i k : Nat} (v : Slot) (h : k ≠ i) : (s.setSlot t i v).slot t k = s.slot t k := by
  simp [State.slot, State.setSlot, Table.get_put_other _ _ _ h]

theorem State.aperture_setSlot_other (i : Nat) (v : Slot) {n : Tenant} (h : n ≠ t) : (s.setSlot t i v).aperture n = s.aperture n :=
  s.aperture_setAperture_other t _ h

/-- Slots lie in the service part. -/
theorem State.slot_of_svc {s u : State} (h : u.svc.apertures = s.svc.apertures) (t : Tenant) (i : Nat) : u.slot t i = s.slot t i := by
  simp only [State.slot, State.aperture, h]

theorem State.aperture_of_svc {s u : State} (h : u.svc.apertures = s.svc.apertures) (t : Tenant) : u.aperture t = s.aperture t := by
  simp only [State.aperture, h]

theorem State.countReject_regsOnly (code : Code) : ∃ r, s.countReject code = { s with regs := r } := by
  unfold State.countReject
  split
  · exact ⟨s.regs, rfl⟩
  · exact ⟨_, rfl⟩

end Apertures

theorem State.out_flag (s : State) (f : Fld) (n : Note) (i : Nat) : (s.flag f n i).out = s.out := by
  obtain ⟨r, m, h⟩ := s.flag_sameBut f n i
  rw [h]

section Discard
variable (s : State) (t : Tenant)

/-- A write to a slot that is discarded is counted there. -/
theorem State.apDiscard_slot {i : Nat} (h : 0 < i) : (s.apDiscard t i).slot t i =
      { s.slot t i with discards := min ((s.slot t i).discards + 1) 255 } ∧
    (s.apDiscard t i).getF F.svcStatus_discard = 1 ∧ (s.apDiscard t i).mem = s.mem ∧ (s.apDiscard t i).out = s.out := by
  have hi : i ≠ 0 := Nat.pos_iff_ne_zero.1 h
  simp only [State.apDiscard, if_neg hi]
  refine ⟨?_, State.getF_flag_same _ _ _ _ (by decide) (by decide) rfl, (State.mem_of_inner (State.flag_inner ..)).trans rfl,
    (State.out_flag ..).trans rfl⟩
  rw [State.slot_of_svc (congrArg SvcS.apertures (State.svc_of_inner (State.flag_inner ..))), State.slot_setSlot_same]

/-- A control line that is discarded is counted in the aperture. -/
theorem State.apDiscard_control : (s.apDiscard t 0).aperture t =
      { s.aperture t with discards := min ((s.aperture t).discards + 1) 255 } ∧
    (s.apDiscard t 0).svc.latched = s.svc.latched ∧ (s.apDiscard t 0).getF F.svcStatus_discard = 1 ∧
    (s.apDiscard t 0).mem = s.mem := by
  simp only [State.apDiscard, if_true]
  have hsvc := State.svc_of_inner (State.flag_inner
    (s.setAperture t { s.aperture t with discards := min ((s.aperture t).discards + 1) 255 }) F.svcStatus_discard
    { tenant := t.toNat, index := 0 % 256 } 0)
  refine ⟨?_, ?_, State.getF_flag_same _ _ _ _ (by decide) (by decide) rfl, (State.mem_of_inner (State.flag_inner ..)).trans rfl⟩
  · rw [State.aperture_of_svc (congrArg SvcS.apertures hsvc), State.aperture_setAperture_same]
  · rw [hsvc]
    rfl

end Discard

/-! ### Leaving REST -/

theorem State.svc_abandonSleep (s : State) : s.abandonSleep.svc = s.svc := by
  unfold State.abandonSleep
  split
  · have hsent : (((s.onPwr fun p => { p with seq := .none, restWales := 0 }).flag F.pwrStatus_sleepAbandoned).sendMsg
        ((s.onPwr fun p => { p with seq := .none, restWales := 0 }).flag F.pwrStatus_sleepAbandoned).timeSource 0 0
        (.awake ((s.onPwr fun p => { p with seq := .none, restWales := 0 }).flag F.pwrStatus_sleepAbandoned).device
          ((s.onPwr fun p => { p with seq := .none, restWales := 0 }).flag F.pwrStatus_sleepAbandoned).wale)).svc = s.svc :=
      State.svc_of_inner (by simp)
    dsimp only
    split
    · exact hsent
    · exact hsent
  · rfl

section LeaveRest
variable (s : State)

theorem State.setMode_apertures (m : Mode) : (s.setMode m).mode = m ∧ (s.setMode m).svc.apertures = s.svc.apertures := by
  unfold State.setMode
  split
  · next h => exact ⟨h, rfl⟩
  · exact ⟨rfl, rfl⟩

theorem State.leaveRest_service (h : s.mode = .service) : s.leaveRest = s := by
  rw [State.leaveRest, if_neg (by rw [h]; decide)]

/-- Leaving REST changes neither the apertures nor the memory, and ends in SERVICE. -/
theorem State.leaveRest_effect (h : s.mode = .service ∨ s.mode = .rest) :
    s.leaveRest.mode = .service ∧ s.leaveRest.svc.apertures = s.svc.apertures ∧ s.leaveRest.mem = s.mem := by
  refine ⟨?_, ?_, State.mem_of_steady (by simp)⟩ <;> rcases h with h | h
  · rw [s.leaveRest_service h, h]
  · rw [State.leaveRest, if_pos h]
    exact (s.abandonSleep.setMode_apertures .service).1
  · rw [s.leaveRest_service h]
  · rw [State.leaveRest, if_pos h]
    exact (s.abandonSleep.setMode_apertures .service).2.trans (congrArg SvcS.apertures s.svc_abandonSleep)

end LeaveRest

/-! ### Command lines that land (O36) -/

section Land
variable {s : State} {t : Tenant} {i : Nat} {l : Line} {bad : Option Nat}

/-- The line as its slot notes it. -/
def State.landed (s : State) (t : Tenant) (i : Nat) (l : Line) : Slot :=
  { s.slot t i with line := l, requestId := lineReq l, landWale := s.wale, stamp := s.stime }

/-- A line that is refused: its slot reads the status. -/
def State.refuseLine (s : State) (t : Tenant) (i : Nat) (l : Line) (code : Code) (detail : Nat) : State :=
  (s.setSlot t i { s.landed t i l with status := s.statusWord t code detail, doneWale := s.wale }).countReject code

/-- A line that is held. -/
def State.holdLine (s : State) (t : Tenant) (i : Nat) (l : Line) : State :=
  (s.setSlot t i { s.landed t i l with
    held := true, status := s.statusWord t .done 1, discards := 0, doneWale := 0, context := 0, prompt := [],
    granted := [], asked := false, resv := none }).leaveRest

theorem State.landWith_absent (h : s.apLines t ≤ i) : s.landWith t i l bad = s.apAbsent t := by
  rw [State.landWith, if_pos (.inl h)]

variable (hlt : i < s.apLines t) (hpos : 0 < i)
include hlt hpos

theorem State.landWith_held (hheld : (s.slot t i).held = true) : s.landWith t i l bad = s.apDiscard t i := by
  rw [State.landWith, if_neg (by omega)]
  exact if_pos hheld

variable (hheld : (s.slot t i).held = false)
include hheld

theorem State.landWith_refused {code : Code} {detail : Nat} (h : (s.mode = .crust ∧ code = .crust ∧ detail = 0) ∨
    (s.mode = .repair ∧ code = .retry ∧ detail = 1) ∨
    (s.mode ≠ .crust ∧ s.mode ≠ .repair ∧ code = .malformed ∧ bad = some detail)) :
    s.landWith t i l bad = s.refuseLine t i l code detail := by
  rw [State.landWith, if_neg (by omega)]
  refine (if_neg (by rw [hheld]; decide)).trans ?_
  rcases h with ⟨hmode, rfl, rfl⟩ | ⟨hmode, rfl, rfl⟩ | ⟨hcrust, hrepair, rfl, rfl⟩
  · rw [if_pos hmode]
    rfl
  · rw [if_neg (by rw [hmode]; decide), if_pos hmode]
    rfl
  · rw [if_neg hcrust, if_neg hrepair]
    rfl

theorem State.landWith_good (hmode : s.mode = .service ∨ s.mode = .rest) : s.landWith t i l none = s.holdLine t i l := by
  have hcrust : s.mode ≠ .crust := by rcases hmode with h | h <;> rw [h] <;> decide
  have hrepair : s.mode ≠ .repair := by rcases hmode with h | h <;> rw [h] <;> decide
  rw [State.landWith, if_neg (by omega)]
  refine (if_neg (by rw [hheld]; decide)).trans ?_
  rw [if_neg hcrust, if_neg hrepair]
  rfl

end Land

/-- The held commands with their operation codes and their checks. -/
def heldCommands (s : State) (t : Tenant) (i : Nat) (l : Line) : List (Instr × Nat × Option Nat) :=
  [(.startTurn t i l, 1, s.startCheck t l), (.cancel t i l, 2, otherCheck l), (.drop t i l, 3, otherCheck l),
    (.ring t i l, 4, otherCheck l)]

theorem exec_heldCommand {s : State} {t : Tenant} {i : Nat} {l : Line} {e : Instr × Nat × Option Nat} (he : e ∈ heldCommands s t i l)
    (hopc : lineOpc l = e.2.1) (hpos : 0 < i) : exec e.1 s = .next (s.landWith t i l e.2.2).finish := by
  have hi : i ≠ 0 := Nat.pos_iff_ne_zero.1 hpos
  have hexec : exec e.1 s = .next (s.apertureWrite t i l false).finish := by
    simp only [heldCommands, List.mem_cons, List.not_mem_nil, or_false] at he
    rcases he with rfl | rfl | rfl | rfl <;> rfl
  have hwrite : s.apertureWrite t i l false = s.landWith t i l e.2.2 := by
    simp only [heldCommands, List.mem_cons, List.not_mem_nil, or_false] at he
    rcases he with rfl | rfl | rfl | rfl <;> simp [State.apertureWrite, hi, hopc]
  rw [hexec, hwrite]

section Refused
variable (s : State) (t : Tenant) (i : Nat) (l : Line) (code : Code) (detail : Nat)

theorem State.slot_refuseLine : (s.refuseLine t i l code detail).slot t i =
    { s.landed t i l with status := s.statusWord t code detail, doneWale := s.wale } := by
  obtain ⟨r, hr⟩ := State.countReject_regsOnly
    (s.setSlot t i { s.landed t i l with status := s.statusWord t code detail, doneWale := s.wale }) code
  rw [State.refuseLine, hr]
  exact s.slot_setSlot_same t i _

theorem State.refuseLine_rest : s.refuseLine t i l code detail =
      { s with regs := (s.refuseLine t i l code detail).regs, svc := (s.refuseLine t i l code detail).svc } ∧
    ∀ n : Tenant, n ≠ t → (s.refuseLine t i l code detail).aperture n = s.aperture n := by
  obtain ⟨r, hr⟩ := State.countReject_regsOnly
    (s.setSlot t i { s.landed t i l with status := s.statusWord t code detail, doneWale := s.wale }) code
  rw [State.refuseLine, hr]
  exact ⟨rfl, fun n hn => s.aperture_setSlot_other t i _ hn⟩

end Refused

/-- Settles O36: a line is answered, discarded, refused or held, and each is one update of its slot. -/
theorem heldCommandsLand : Obligations.HeldCommandsLand := by
  unfold Obligations.HeldCommandsLand
  intro t i l s e he hopc hpos
  rw [exec_heldCommand he hopc hpos]
  refine ⟨fun hout => ?_, fun hlt hheld => ?_, fun hlt hheld code detail hwhy => ?_, fun hlt hheld hmode hgood => ?_⟩
  · rw [State.landWith_absent hout]
    rfl
  · rw [State.landWith_held hlt hpos hheld]
    exact ⟨_, rfl, s.apDiscard_slot t hpos⟩
  · rw [State.landWith_refused hlt hpos hheld hwhy]
    obtain ⟨hrest, hothers⟩ := s.refuseLine_rest t i l code detail
    refine ⟨_, rfl, ?_, ?_, ?_, ?_, hrest, hothers⟩ <;> rw [State.slot_refuseLine]
    · exact hheld
    · rfl
  · rw [hgood, State.landWith_good hlt hpos hheld hmode]
    obtain ⟨hserv, haps, hmem⟩ := State.leaveRest_effect (s.setSlot t i { s.landed t i l with
      held := true, status := s.statusWord t .done 1, discards := 0, doneWale := 0, context := 0, prompt := [],
      granted := [], asked := false, resv := none }) hmode
    have hslot : ∀ k, (s.holdLine t i l).slot t k = (s.setSlot t i { s.landed t i l with
      held := true, status := s.statusWord t .done 1, discards := 0, doneWale := 0, context := 0, prompt := [],
      granted := [], asked := false, resv := none }).slot t k := State.slot_of_svc haps t
    refine ⟨s.holdLine t i l, rfl, ?_, ?_, ?_, ?_, ?_, ?_, fun k hk => ?_, hserv, hmem, fun hservice => ?_⟩
    · rw [hslot, State.slot_setSlot_same]
    · rw [hslot, State.slot_setSlot_same]
      rfl
    · rw [hslot, State.slot_setSlot_same]
      rfl
    · rw [hslot, State.slot_setSlot_same]
    · rw [hslot, State.slot_setSlot_same]
      rfl
    · rw [hslot, State.slot_setSlot_same]
      rfl
    · rw [hslot, State.slot_setSlot_other _ _ _ hk]
    · have hline : s.holdLine t i l = s.setSlot t i _ := State.leaveRest_service _ hservice
      rw [hline]
      rfl

/-! ### The aperture's other accesses (O37) -/

section Packed
variable (t : Tenant) (l : Line) (s : State)

/-- Pieces from a bit on leave the bits below it zero. -/
theorem dvd_pack {k : Nat} {l : List (Nat × Nat)} (h : ∀ e ∈ l, k ≤ e.1) : 2 ^ k ∣ pack l := by
  induction l with
  | nil => exact Nat.dvd_zero _
  | cons e l ih =>
    exact Nat.dvd_add (Dvd.dvd.mul_left (Nat.pow_dvd_pow 2 (h e (by simp))) _) (ih fun e' h' => h e' (List.mem_cons_of_mem _ h'))

/-- The first 8 bytes of a packed line are its first piece. -/
theorem dfield_pack_first {v : Nat} {r : List (Nat × Nat)} (hv : v < 2 ^ 64) (hr : ∀ e ∈ r, 64 ≤ e.1) :
    dfield (BitVec.ofNat 512 (pack ((0, v) :: r))) 0 0 64 = v := by
  obtain ⟨k, hk⟩ := dvd_pack hr
  rw [dfield, lineField, BitVec.toNat_ofNat, Nat.mul_zero, Nat.add_zero, Nat.shiftRight_zero,
    Nat.mod_mod_of_dvd _ (Nat.pow_dvd_pow 2 (by decide)), pack, hk, Nat.pow_zero, Nat.mul_one, Nat.add_mul_mod_self_left,
    Nat.mod_eq_of_lt hv]

theorem State.apertureData_status {i : Nat} (h : 0 < i) : dfield (s.apertureData t i) 0 0 64 = (s.slot t i).status.toNat := by
  rw [State.apertureData]
  refine (congrArg (dfield · 0 0 64) (if_neg (Nat.pos_iff_ne_zero.1 h))).trans (dfield_pack_first (BitVec.isLt _) ?_)
  simp

end Packed

section Attention
variable (s : State) (t : Tenant) (c : Nat)

/-- The events of class `c` end for tenant `t` (R308). -/
def State.endClass : State := s.onSvc fun x => { x with latched := unlatch c (oneTenant t) x.latched }

theorem oneTenant_getLsbD : (oneTenant t).getLsbD t.toNat = true := by
  have ht : t.toNat < 256 := t.isLt
  rw [oneTenant, BitVec.getLsbD_ofNat, decide_eq_true ht, Nat.testBit_two_pow_self]
  rfl

theorem mem_unlatch {c : Nat} {ts : BitVec 256} {l : List (Nat × Wale × BitVec 256)} {e : Nat × Wale × BitVec 256}
    (h : e ∈ unlatch c ts l) : ∃ e' ∈ l, e'.1 = e.1 ∧ e.2.2 = if e.1 = c then e'.2.2 &&& ~~~ts else e'.2.2 := by
  obtain ⟨e', he', rfl⟩ := List.mem_map.1 (List.mem_filter.1 h).1
  by_cases hc : e'.1 = c
  · exact ⟨e', he', by simp [hc]⟩
  · exact ⟨e', he', by simp [hc]⟩

theorem isLatched_false_iff : s.isLatched c t = false ↔ ∀ e ∈ s.svc.latched, e.1 = c → e.2.2.getLsbD t.toNat = false := by
  simp only [State.isLatched, List.any_eq_false, Bool.and_eq_true, beq_iff_eq, not_and, Bool.not_eq_true]

theorem State.isLatched_endClass_same : (s.endClass t c).isLatched c t = false := by
  rw [isLatched_false_iff]
  intro e he hc
  obtain ⟨e', -, -, hbits⟩ := mem_unlatch he
  rw [hbits, if_pos hc]
  simp [oneTenant_getLsbD]

/-- What is not pending stays so. -/
theorem State.isLatched_endClass {k : Nat} (h : s.isLatched k t = false) : (s.endClass t c).isLatched k t = false := by
  rw [isLatched_false_iff] at h ⊢
  intro e he hk
  obtain ⟨e', hmem, hcls, hbits⟩ := mem_unlatch he
  have hold := h e' hmem (hcls.trans hk)
  rw [hbits]
  split <;> simp [hold]

/-- A class ends where its bit is set. -/
def State.ackClass (ack bit : Nat) : State := if ack.testBit bit then s.endClass t c else s

theorem State.ackClass_rest (ack bit : Nat) : s.ackClass t c ack bit = { s with svc := (s.ackClass t c ack bit).svc } ∧
    (s.ackClass t c ack bit).svc.apertures = s.svc.apertures := by
  unfold State.ackClass
  split <;> exact ⟨rfl, rfl⟩

theorem State.isLatched_ackClass_same {ack bit : Nat} (h : ack.testBit bit = true) : (s.ackClass t c ack bit).isLatched c t = false := by
  rw [State.ackClass, if_pos h]
  exact s.isLatched_endClass_same t c

theorem State.isLatched_ackClass {k ack bit : Nat} (h : s.isLatched k t = false) : (s.ackClass t c ack bit).isLatched k t = false := by
  unfold State.ackClass
  split
  · exact s.isLatched_endClass t c h
  · exact h

/-- The classes a control line's ACK ends. -/
def State.ackClasses (ack : Nat) : State := ((s.ackClass t 2 ack 0).ackClass t 4 ack 1).ackClass t 7 ack 2

theorem State.ackClasses_rest (ack : Nat) : s.ackClasses t ack = { s with svc := (s.ackClasses t ack).svc } ∧
    (s.ackClasses t ack).svc.apertures = s.svc.apertures := by
  obtain ⟨h1, a1⟩ := s.ackClass_rest t 2 ack 0
  obtain ⟨h2, a2⟩ := (s.ackClass t 2 ack 0).ackClass_rest t 4 ack 1
  obtain ⟨h3, a3⟩ := ((s.ackClass t 2 ack 0).ackClass t 4 ack 1).ackClass_rest t 7 ack 2
  refine ⟨?_, a3.trans (a2.trans a1)⟩
  rw [State.ackClasses, h3, h2, h1]

theorem State.isLatched_ackClasses {ack : Nat} : ∀ e ∈ [(0, 2), (1, 4), (2, 7)], ack.testBit e.1 = true →
    (s.ackClasses t ack).isLatched e.2 t = false := by
  intro e he hbit
  simp only [List.mem_cons, List.not_mem_nil, or_false] at he
  rcases he with rfl | rfl | rfl
  · exact State.isLatched_ackClass _ _ _ (State.isLatched_ackClass _ _ _ (State.isLatched_ackClass_same _ _ _ hbit))
  · exact State.isLatched_ackClass _ _ _ (State.isLatched_ackClass_same _ _ _ hbit)
  · exact State.isLatched_ackClass_same _ _ _ hbit

/-- A class that has been pending for 64 wales ends where no aperture shows it. -/
theorem mem_lapsed {w : Nat} {l : List (Nat × Wale × BitVec 256)} {e : Nat × Wale × BitVec 256}
    (h : e ∈ (l.map fun e => if e.2.1.toNat + 64 ≤ w then (e.1, e.2.1, e.2.2 &&& ~~~oneTenant t) else e).filter fun e => e.2.2 != 0)
    (hw : e.2.1.toNat + 64 ≤ w) : e.2.2 &&& oneTenant t = 0 := by
  obtain ⟨e', -, rfl⟩ := List.mem_map.1 (List.mem_filter.1 h).1
  by_cases hc : e'.2.1.toNat + 64 ≤ w
  · rw [if_pos hc]
    apply BitVec.eq_of_getElem_eq
    intro i hi
    simp
  · rw [if_neg hc] at hw
    exact absurd hw hc

end Attention

/-- What the control line says that discards it. -/
def controlBad (a : Aperture) (l : Line) : Prop :=
  a.ringEntries < (a.produced + 2 ^ 32 - dfield l 0 0 32) % 2 ^ 32 ∨ 8 ≤ dfield l 4 0 8 ∨
    (firstNonZero l (bytesFrom 5 64)).isSome = true

section ControlLine
variable (s : State) (t : Tenant) (l : Line) (hap : s.apLines t ≠ 0)
include hap

theorem State.controlWrite_bad (h : controlBad (s.aperture t) l) : s.controlWrite t l = s.apDiscard t 0 := by
  rw [State.controlWrite, if_neg hap]
  exact if_pos h

theorem State.controlWrite_good (h : ¬ controlBad (s.aperture t) l) :
    s.controlWrite t l = (s.setAperture t { s.aperture t with consumed := dfield l 0 0 32 }).ackClasses t (dfield l 4 0 8) := by
  rw [State.controlWrite, if_neg hap]
  exact if_neg h

end ControlLine

theorem exec_aperturePartialWrite (t : Tenant) (i : Nat) (s : State) :
    exec (.aperturePartialWrite t i) s = .next (if s.apLines t ≤ i then s.apAbsent t else s.apDiscard t i) := rfl

theorem exec_apertureRead (t : Tenant) (i : Nat) (s : State) : exec (.apertureRead t i) s =
    .next (if s.apLines t ≤ i then s.apAbsent t else s.emit (.aperture t i (s.apertureData t i))) := rfl

/-- Settles O37: partial writes and reads by their line, the control line by its three checks, and the lapse by the aperture. -/
theorem apertureAccessesComplete : Obligations.ApertureAccessesComplete := by
  unfold Obligations.ApertureAccessesComplete
  refine ⟨fun t i s => ⟨fun hout => ?_, fun hlt => ?_, fun hlt hpos => ?_, fun hpos _ => s.apertureData_status t hpos⟩,
    fun t l s hap => ?_, fun t s => ⟨fun hap => ?_, fun hap => ⟨s.lapse t, rfl, ?_⟩⟩⟩
  · rw [exec_aperturePartialWrite, exec_apertureRead, if_pos hout, if_pos hout]
    exact ⟨rfl, rfl⟩
  · rw [exec_apertureRead, if_neg (Nat.not_le.2 hlt)]
  · rw [exec_aperturePartialWrite, if_neg (Nat.not_le.2 hlt)]
    obtain ⟨hslot, hflag, hmem, -⟩ := s.apDiscard_slot t hpos
    exact ⟨_, rfl, hslot, hflag, hmem⟩
  · refine ⟨fun hbad => ⟨s.controlWrite t l, rfl, ?_⟩, fun hgood => ⟨s.controlWrite t l, rfl, ?_⟩⟩
    · rw [s.controlWrite_bad t l hap hbad]
      exact s.apDiscard_control t
    · rw [s.controlWrite_good t l hap hgood]
      obtain ⟨hrest, haps⟩ := (s.setAperture t { s.aperture t with consumed := dfield l 0 0 32 }).ackClasses_rest t (dfield l 4 0 8)
      refine ⟨?_, ?_, State.isLatched_ackClasses _ t⟩
      · rw [State.aperture_of_svc haps, State.aperture_setAperture_same]
      · rw [hrest]
        rfl
  · have hlapse : s.lapse t = s := by rw [State.lapse, if_pos hap]
    exact congrArg _ hlapse
  · have hlapse : s.lapse t = s.onSvc fun x => { x with latched := (x.latched.map fun e =>
        if e.2.1.toNat + 64 ≤ s.wale.toNat then (e.1, e.2.1, e.2.2 &&& ~~~oneTenant t) else e).filter fun e => e.2.2 != 0 } := by
      rw [State.lapse, if_neg (by simp [hap])]
    rw [hlapse]
    refine ⟨rfl, fun e he hw => mem_lapsed t he hw, fun e he hw hne => ?_⟩
    refine List.mem_filter.2 ⟨List.mem_map.2 ⟨e, he, if_neg (by omega)⟩, by simpa using hne⟩

end Sys2Proof.Machine

end

section

namespace Sys2Proof

section Find
variable {α : Type} (t : Table α) (k : Nat)

theorem Table.find?_put_same (v : α) : (t.put k v).find? (fun e => e.1 == k) = some (k, v) := by
  induction t with
  | nil => simp [Table.put]
  | cons e r ih =>
    obtain ⟨k', v'⟩ := e
    rw [Table.put]
    split
    · simp
    · split
      · simp
      · next hne => rw [List.find?_cons_of_neg (by simpa using Ne.symm hne), ih]

theorem Table.find?_del_same : (t.del k).find? (fun e => e.1 == k) = none := by
  rw [List.find?_eq_none]
  intro e he
  simpa using (Table.mem_del he).2

end Find

end Sys2Proof

namespace Sys2Proof.Machine

/-! ### Query homes and parts -/

section Contexts
variable (s : State)

@[simp] theorem State.homeQ_setHomeQ_same (q : Nat) (h : HomeQ) : (s.setHomeQ q h).homeQ q = some h := by
  rw [State.homeQ]
  exact congrArg (Option.map Prod.snd) (Table.find?_put_same ..)

@[simp] theorem State.part_setPart_same (i : Nat) (p : Part) : (s.setPart i p).part i = some p := by
  rw [State.part]
  exact congrArg (Option.map Prod.snd) (Table.find?_put_same ..)

theorem State.srch_setSlot (t : Tenant) (i : Nat) (v : Slot) : (s.setSlot t i v).srch = s.srch := rfl

theorem State.srch_countReject (code : Code) : (s.countReject code).srch = s.srch := by
  obtain ⟨r, hr⟩ := s.countReject_regsOnly code
  rw [hr]

end Contexts

/-! ### QUERY and QCANCEL at their line -/

section LandSearch
variable {s : State} {t : Tenant} {i : Nat} {l : Line}

/-- A search command's slot, once its landing has answered `e` in `v`. -/
def State.answerSearch (v : State) (t : Tenant) (i : Nat) (l : Line) (old : Slot) (e : Code × Nat) (ok : Bool) : State :=
  (v.setSlot t i { old with
    line := l, requestId := lineReq l, landWale := v.wale, stamp := v.stime, context := 0,
    discards := if ok then 0 else old.discards, status := v.statusWord t e.1 e.2, doneWale := v.wale }).countReject e.1

section Answer
variable (v : State) (old : Slot) (e : Code × Nat) (ok : Bool)

theorem State.answerSearch_slot : ((v.answerSearch t i l old e ok).slot t i).held = old.held ∧
    ((v.answerSearch t i l old e ok).slot t i).status = v.statusWord t e.1 e.2 ∧
    ((v.answerSearch t i l old e ok).slot t i).requestId = lineReq l := by
  obtain ⟨r, hr⟩ := State.countReject_regsOnly (v.setSlot t i { old with
    line := l, requestId := lineReq l, landWale := v.wale, stamp := v.stime, context := 0,
    discards := if ok then 0 else old.discards, status := v.statusWord t e.1 e.2, doneWale := v.wale }) e.1
  have hslot : (v.answerSearch t i l old e ok).slot t i = { old with
      line := l, requestId := lineReq l, landWale := v.wale, stamp := v.stime, context := 0,
      discards := if ok then 0 else old.discards, status := v.statusWord t e.1 e.2, doneWale := v.wale } := by
    rw [State.answerSearch, hr]
    exact v.slot_setSlot_same t i _
  rw [hslot]
  exact ⟨rfl, rfl, rfl⟩

theorem State.answerSearch_rest : (v.answerSearch t i l old e ok).srch = v.srch ∧ (v.answerSearch t i l old e ok).mem = v.mem := by
  obtain ⟨r, hr⟩ := State.countReject_regsOnly (v.setSlot t i { old with
    line := l, requestId := lineReq l, landWale := v.wale, stamp := v.stime, context := 0,
    discards := if ok then 0 else old.discards, status := v.statusWord t e.1 e.2, doneWale := v.wale }) e.1
  rw [State.answerSearch, hr]
  exact ⟨rfl, rfl⟩

end Answer

variable (hpos : 0 < i) (hlt : i < s.apLines t) (hheld : (s.slot t i).held = false) (hmode : s.mode = .service)
include hpos hlt hheld hmode

theorem State.landSearch_malformed {act : State → (Code × Nat) × State} (off : Nat) :
    s.landSearch t i l (some off) act = s.answerSearch t i l (s.slot t i) (.malformed, off) false := by
  rw [State.landSearch, if_neg (by omega)]
  refine (if_neg (by rw [hheld]; decide)).trans ?_
  rw [if_neg (by rw [hmode]; decide), if_neg (by rw [hmode]; decide)]
  rfl

theorem State.landSearch_act {act : State → (Code × Nat) × State} : s.landSearch t i l none act =
    (act s).2.answerSearch t i l (s.slot t i) (act s).1 ((act s).1.1 == .done) := by
  rw [State.landSearch, if_neg (by omega)]
  refine (if_neg (by rw [hheld]; decide)).trans ?_
  rw [if_neg (by rw [hmode]; decide), if_neg (by rw [hmode]; decide)]
  dsimp only
  rw [s.leaveRest_service hmode]
  rfl

end LandSearch

section Query
variable {s : State} {t : Tenant} {i : Nat} {l : Line} {dead : Bool}

theorem exec_query (hpos : 0 < i) (hopc : lineOpc l = 0x10) :
    exec (.query t i l dead) s = .next (State.finish (s.landQuery t i l dead)) := by
  have hwrite : s.apertureWrite t i l dead = s.landQuery t i l dead := by
    simp [State.apertureWrite, Nat.pos_iff_ne_zero.1 hpos, hopc]
  rw [← hwrite]
  rfl

theorem exec_qcancel (hpos : 0 < i) (hopc : lineOpc l = 0x11) :
    exec (.qcancel t i l) s = .next (State.finish (s.landQcancel t i l)) := by
  have hwrite : s.apertureWrite t i l false = s.landQcancel t i l := by
    simp [State.apertureWrite, Nat.pos_iff_ne_zero.1 hpos, hopc]
  rw [← hwrite]
  rfl

/-- What a query command's binding answers. -/
def State.queryAct (s : State) (t : Tenant) (i : Nat) (l : Line) (dead : Bool) : (Code × Nat) × State :=
  match s.queryBind t i l dead with
  | (some e, s) => (e, s)
  | (none, s) => ((.done, 0x10), s)

/-- What a QCANCEL does. -/
def State.qcancelAct (s : State) (t : Tenant) (l : Line) : (Code × Nat) × State :=
  match s.srch.homes.find? fun e => e.2.tenant == t && e.2.queryId == lineReq l && e.2.state != .merge with
  | some (q, _) => ((.done, 3), s.queryEnds q .aborted 1)
  | none => ((.absent, 5), s)

theorem State.landQuery_eq (s : State) : s.landQuery t i l dead =
    s.landSearch t i l (s.queryCheck t l) fun v => v.queryAct t i l dead := rfl

theorem State.landQcancel_eq (s : State) : s.landQcancel t i l = s.landSearch t i l (qcancelCheck l) fun v => v.qcancelAct t l := rfl

/-- An answer that says no leaves the device as it is. -/
def refusesAsIs (s : State) (r : Option (Code × Nat) × State) : Prop := r.1 = none ∨ r.2 = s

theorem refusesAsIs_no (s : State) (code : Code) (detail : Nat) : refusesAsIs s (some (code, detail), s) := .inr rfl

theorem refusesAsIs_ite {s : State} {c : Prop} [Decidable c] {a b : Option (Code × Nat) × State} (ha : refusesAsIs s a)
    (hb : refusesAsIs s b) : refusesAsIs s (if c then a else b) := by
  split
  · exact ha
  · exact hb

/-- What holds of a body with its value put in, holds of the `have` (`dsimp` on the binding costs the kernel its stack). -/
theorem holds_have {α β : Type} {v : α} {b : α → β} {P : β → Prop} (h : P (b v)) : P (have f := v; b f) := h

theorem State.queryBind_refusesAsIs (s : State) : refusesAsIs s (s.queryBind t i l dead) := by
  unfold State.queryBind
  refine holds_have (holds_have (holds_have ?_))
  generalize s.corpus _ = c
  cases c with
  | none => exact refusesAsIs_no ..
  | some c =>
    refine holds_have (refusesAsIs_ite (refusesAsIs_no ..) ?_)
    generalize s.rangeFails t _ _ .load = fails
    cases fails with
    | some e => exact refusesAsIs_no ..
    | none =>
      generalize s.readLines t _ _ _ = lines
      obtain ⟨code, block, s'⟩ := lines
      refine refusesAsIs_ite (refusesAsIs_no ..) ?_
      generalize s.rangeFails t _ _ .store = fails'
      cases fails' with
      | some e => exact refusesAsIs_no ..
      | none =>
        refine refusesAsIs_ite (refusesAsIs_no ..) ?_
        generalize s.freeQuery s.homeDie = q
        cases q with
        | none => exact refusesAsIs_no ..
        | some q => exact .inl rfl

theorem State.queryBind_refuses {e : Code × Nat} {v : State} (h : s.queryBind t i l dead = (some e, v)) : v = s := by
  have hno := s.queryBind_refusesAsIs (t := t) (i := i) (l := l) (dead := dead)
  rw [h] at hno
  exact hno.resolve_left (by simp)

end Query

/-! ### Records of queries -/

section QueryRecord
variable {s : State} {q : Nat}

/-- What leaves a query's context with its record: the count of short ones, the context, its part of the telemetry. -/
def State.queryLeaves (s : State) (q : Nat) (h : HomeQ) : State :=
  let s := if (h.ended.map (·.1)) = some .short then s.addF F.srchShortCount_count 0 1 else s
  (s.onSrch fun x => { x with homes := x.homes.del q }).tel F.telQueries_count h.tenant.toNat 1

theorem State.queryLeaves_effect (s : State) (q : Nat) (h : HomeQ) :
    (s.queryLeaves q h).srch = { s.srch with homes := s.srch.homes.del q } ∧ (s.queryLeaves q h).mem = s.mem ∧
    (s.queryLeaves q h).out = s.out ∧ (s.queryLeaves q h).svc = s.svc := by
  unfold State.queryLeaves
  split <;> exact ⟨rfl, rfl, rfl, rfl⟩

theorem State.dequeueParts_nil {fuel : Nat} (h : s.srch.pending = []) : s.dequeueParts fuel = s := by
  cases fuel with
  | zero => rfl
  | succ n =>
    rw [State.dequeueParts, h]
    rfl

theorem State.queryRecordLands_none (h : s.homeQ q = none) : s.queryRecordLands q = s := by
  unfold State.queryRecordLands
  rw [h]

variable {h : HomeQ} (hq : s.homeQ q = some h)
include hq

theorem State.queryRecordLands_waits (hwait : h.state ≠ .merge ∨ s.queryPending q = true ∨ s.mode = .quarantine) :
    s.queryRecordLands q = s := by
  unfold State.queryRecordLands
  rw [hq]
  refine if_pos ?_
  rcases hwait with h | h | h <;> simp [h]

theorem State.queryRecordLands_lands (hmerge : h.state = .merge) (hpend : s.queryPending q = false) (hrec : s.svc.records = [])
    (hmode : s.mode ≠ .quarantine) {u : State}
    (hwrite : s.ringWrite h.tenant.toNat h.tenant (((s.aperture h.tenant).produced + 1) % 2 ^ 32)
      (s.queryRecord q h (((s.aperture h.tenant).produced + 1) % 2 ^ 32)) = some u) (hnone : u.srch.pending = []) :
    s.queryRecordLands q = u.queryLeaves q h := by
  have hpend' : (u.queryLeaves q h).srch.pending = [] := by
    rw [(u.queryLeaves_effect q h).1]
    exact hnone
  have hlands : s.queryRecordLands q = (u.queryLeaves q h).dequeueParts (u.queryLeaves q h).srch.pending.length := by
    unfold State.queryRecordLands
    rw [hq]
    refine (if_neg (by simp [hmerge, hpend, hrec, hmode])).trans ?_
    dsimp only
    rw [hwrite]
    rfl
  rw [hlands, State.dequeueParts_nil hpend']

end QueryRecord

/-! ### Parts at their shards -/

section TakePart
variable {s : State} {m : QueryParts} {slot : Nat}

theorem State.takePart_unknown (h : s.shardIndex m slot = none) : s.takePart m slot = s := by
  unfold State.takePart
  rw [h]

variable {shard : Nat} {v : ShardSlot} (hshard : s.shardIndex m slot = some shard) (hmode : s.mode = .service)
  (hslot : (s.sendMsg m.home 2 m.tenant (.partAck m.q shard)).shardSlot slot = some v)
include hshard hmode hslot

theorem State.takePart_bind {i : Nat} (hfree : (s.sendMsg m.home 2 m.tenant (.partAck m.q shard)).freeQuery v.cur.die = some i) :
    s.takePart m slot = (s.sendMsg m.home 2 m.tenant (.partAck m.q shard)).bindPart i m shard slot v := by
  unfold State.takePart
  rw [hshard, s.leaveRest_service hmode]
  have hserv : (s.sendMsg m.home 2 m.tenant (.partAck m.q shard)).mode = .service :=
    (State.mode_of_inner (State.sendMsg_inner ..)).trans hmode
  refine (if_neg (by rw [hserv]; decide)).trans ?_
  rw [hslot]
  dsimp only
  rw [hfree]

theorem State.takePart_queue (hfree : (s.sendMsg m.home 2 m.tenant (.partAck m.q shard)).freeQuery v.cur.die = none)
    (hroom : ((s.sendMsg m.home 2 m.tenant (.partAck m.q shard)).srch.pending.countP fun e => e.1 == v.cur.die) < 4096) :
    s.takePart m slot = (s.sendMsg m.home 2 m.tenant (.partAck m.q shard)).onSrch fun x =>
      { x with pending := x.pending ++ [(v.cur.die, m, slot)] } := by
  unfold State.takePart
  rw [hshard, s.leaveRest_service hmode]
  have hserv : (s.sendMsg m.home 2 m.tenant (.partAck m.q shard)).mode = .service :=
    (State.mode_of_inner (State.sendMsg_inner ..)).trans hmode
  refine (if_neg (by rw [hserv]; decide)).trans ?_
  rw [hslot]
  dsimp only
  rw [hfree]
  exact if_neg (Nat.not_le.2 hroom)

end TakePart

/-- A part whose slot can be read and is not open in a search slot is queued. -/
theorem State.bindPart_queued {s : State} (i : Nat) (m : QueryParts) (shard slot : Nat) {v : ShardSlot} (hdeg : v.degraded = false)
    (hopen : s.searchOpen v.cur = false) : ∃ p : Part, s.bindPart i m shard slot v = s.setPart i p ∧ p.state = .queued ∧
      p.msg = m ∧ p.shard = shard ∧ p.slot = slot ∧ p.hdr = v.cur := by
  unfold State.bindPart
  refine ⟨_, (if_neg (by rw [hdeg]; decide)).trans (if_neg ?_), rfl, rfl, rfl, rfl, rfl⟩
  exact Bool.eq_false_iff.1 hopen

section OnShard
variable {s : State} {q shard : Nat} {g : HomeQ → ShardNote → State}

theorem State.onShard_none (h : s.homeQ q = none) : s.onShard q shard g = s := by
  unfold State.onShard
  rw [h]

variable {h : HomeQ} {k : Nat} {n : ShardNote} (hq : s.homeQ q = some h)
  (hn : h.shards.find? (fun e => e.1 == shard) = some (k, n))
include hq hn

theorem State.onShard_settled (hset : n.stand = .settled) : s.onShard q shard g = s := by
  unfold State.onShard
  simp [hq, hn, hset]

theorem State.onShard_open (hwait : h.state = .waiting) (hset : n.stand ≠ .settled) : s.onShard q shard g = g h n := by
  unfold State.onShard
  simp [hq, hn, hset, hwait]

end OnShard

section FreePart
variable (s : State)

/-- Releasing blocks changes neither the memory nor the search contexts. -/
theorem State.releaseBlocks_rest (tn : Tenant) (bs : List Nat) :
    (s.releaseBlocks tn bs).srch = s.srch ∧ (s.releaseBlocks tn bs).mem = s.mem := by
  refine ⟨?_, State.mem_of_steady (by simp)⟩
  exact foldl_unchanged (f := fun s b => (s.uncountFrame tn .t0 none).setBlk b { s.blk b with window := false })
    (fun u : State => u.srch) (fun _ _ => rfl) bs s

/-- Dropping what no part uses keeps the parts and the queue. -/
theorem State.dropOlds_rest : s.dropOlds.srch.parts = s.srch.parts ∧ s.dropOlds.srch.pending = s.srch.pending := by
  unfold State.dropOlds
  refine Prod.ext_iff.1 (foldl_unchanged (fun u : State => (u.srch.parts, u.srch.pending)) ?_ s.srch.slots s)
  rintro u ⟨i, v⟩
  have hsrch : ∀ gone : List (Nat × Tenant × List Nat),
      (gone.foldl (fun s o => s.releaseBlocks o.2.1 o.2.2) u).srch = u.srch := fun gone =>
    foldl_unchanged (fun u : State => u.srch) (fun s o => (s.releaseBlocks_rest o.2.1 o.2.2).1) gone u
  show (((_ : State).setShardSlot i _).srch.parts, ((_ : State).setShardSlot i _).srch.pending) = _
  simp only [State.setShardSlot, State.onSrch, hsrch]

theorem State.freePart_effect (i : Nat) (h : s.srch.pending = []) : (s.freePart i).part i = none ∧ (s.freePart i).mem = s.mem := by
  obtain ⟨hparts, hpend⟩ := (s.onSrch fun x => { x with parts := x.parts.del i }).dropOlds_rest
  have hfree : s.freePart i = (s.onSrch fun x => { x with parts := x.parts.del i }).dropOlds := State.dequeueParts_nil (hpend.trans h)
  refine ⟨?_, State.mem_of_steady (by simp)⟩
  rw [hfree, State.part, hparts]
  exact congrArg (Option.map Prod.snd) (Table.find?_del_same ..)

end FreePart

/-! ### The obligation's parts (O40) -/

section QueryClauses
variable {s : State} {t : Tenant} {i : Nat} {l : Line} {dead : Bool}

section Landing
variable (hpos : 0 < i) (hlt : i < s.apLines t) (hheld : (s.slot t i).held = false) (hmode : s.mode = .service)
include hpos hlt hheld hmode

/-- A query that its check lets pass ends in its slot as its binding answers. -/
theorem exec_query_act (hopc : lineOpc l = 0x10) (hcheck : s.queryCheck t l = none) {e : Code × Nat} {v : State}
    (hact : s.queryAct t i l dead = (e, v)) : ∃ u : State, exec (.query t i l dead) s = .next (State.finish u) ∧
      (u.slot t i).held = false ∧ (u.slot t i).status = v.statusWord t e.1 e.2 ∧ (u.slot t i).requestId = lineReq l ∧
      u.srch = v.srch ∧ u.mem = v.mem := by
  have hland : s.landQuery t i l dead = v.answerSearch t i l (s.slot t i) e (e.1 == .done) := by
    rw [State.landQuery_eq, hcheck, State.landSearch_act hpos hlt hheld hmode, hact]
  obtain ⟨hh, hst, hreq⟩ := v.answerSearch_slot (t := t) (i := i) (l := l) (s.slot t i) e (e.1 == .done)
  exact ⟨_, by rw [exec_query hpos hopc, hland], hh.trans hheld, hst, hreq, v.answerSearch_rest ..⟩

theorem exec_qcancel_act (hopc : lineOpc l = 0x11) (hcheck : qcancelCheck l = none) {e : Code × Nat} {v : State}
    (hact : s.qcancelAct t l = (e, v)) : ∃ u : State, exec (.qcancel t i l) s = .next (State.finish u) ∧
      (u.slot t i).held = false ∧ (u.slot t i).status = v.statusWord t e.1 e.2 ∧ u.srch = v.srch ∧ u.mem = v.mem := by
  have hland : s.landQcancel t i l = v.answerSearch t i l (s.slot t i) e (e.1 == .done) := by
    rw [State.landQcancel_eq, hcheck, State.landSearch_act hpos hlt hheld hmode, hact]
  obtain ⟨hh, hst, -⟩ := v.answerSearch_slot (t := t) (i := i) (l := l) (s.slot t i) e (e.1 == .done)
  exact ⟨_, by rw [exec_qcancel hpos hopc, hland], hh.trans hheld, hst, v.answerSearch_rest ..⟩

theorem exec_query_malformed (hopc : lineOpc l = 0x10) {off : Nat} (hcheck : s.queryCheck t l = some off) :
    ∃ u : State, exec (.query t i l dead) s = .next (State.finish u) ∧ (u.slot t i).held = false ∧
      (u.slot t i).status = s.statusWord t .malformed off ∧ u.srch = s.srch ∧ u.mem = s.mem := by
  have hland : s.landQuery t i l dead = s.answerSearch t i l (s.slot t i) (.malformed, off) false := by
    rw [State.landQuery_eq, hcheck, State.landSearch_malformed hpos hlt hheld hmode]
  obtain ⟨hh, hst, -⟩ := s.answerSearch_slot (t := t) (i := i) (l := l) (s.slot t i) (.malformed, off) false
  exact ⟨_, by rw [exec_query hpos hopc, hland], hh.trans hheld, hst, s.answerSearch_rest ..⟩

end Landing

theorem exec_queryDeadline (q : Nat) (s : State) : exec (.queryDeadline q) s = .next (match s.homeQ q with
    | some h => if windowOver h.stamp s.stime h.deadlineUs then (s.queryEnds q .late 0).finish else s
    | none => s) := rfl

theorem exec_queryRecordWrite (q : Nat) (s : State) : exec (.queryRecordWrite q) s = .next (s.queryRecordLands q).finish := rfl

theorem exec_queryDeadline_of {q : Nat} {h : HomeQ} {s : State} (hq : s.homeQ q = some h) : exec (.queryDeadline q) s =
    .next (if windowOver h.stamp s.stime h.deadlineUs then (s.queryEnds q .late 0).finish else s) := by
  rw [exec_queryDeadline]
  simp only [hq]

theorem exec_queryDeadline_none {q : Nat} {s : State} (hq : s.homeQ q = none) : exec (.queryDeadline q) s = .next s := by
  rw [exec_queryDeadline]
  simp only [hq]

end QueryClauses

section PartClauses
variable (q shard i slot : Nat) (m : QueryParts) (dead poison : Bool) (a : PartAnswer) (s : State)

theorem exec_queryPart : exec (.queryPart m slot) s = .next (s.takePart m slot).finish := rfl

theorem exec_queryRelay : exec (.queryRelay m) s = .next (s.relayParts m).finish := rfl

theorem exec_partAck : exec (.partAck q shard) s =
    .next (s.onShard q shard fun h n => if n.stand = .sent then s.noteShard q shard h n .acked else s) := rfl

theorem exec_partProgress : exec (.partProgress q shard) s =
    .next (s.onShard q shard fun h n => if n.stand = .retry then s else s.noteShard q shard h n .acked) := rfl

theorem exec_partResendTimer : exec (.partResendTimer q shard) s = .next (s.resendPart q shard) := rfl

theorem exec_partSilenceTimeout : exec (.partSilenceTimeout q shard) s =
    .next (s.onShard q shard fun h n => s.shardDead q h shard n).finish := rfl

theorem exec_partCancel : exec (.partCancel i) s = .next (match s.part i with
    | some p => if p.state = .answer then s else (s.freePart i).finish
    | none => s) := rfl

theorem exec_answerAck : exec (.answerAck i dead) s = .next (match s.part i with
    | some p => if p.state = .answer then (s.freePart i).finish else s
    | none => s) := rfl

theorem exec_partProgressTimer : exec (.partProgressTimer i) s = .next (match s.part i with
    | some p => if p.state = .answer then s else s.sendMsg p.msg.home 2 p.msg.tenant (.partProgress p.msg.q p.shard)
    | none => s) := rfl

theorem exec_partMemwaitEnd : exec (.partMemwaitEnd i poison) s = .next (s.memwaitEnd i poison).finish := rfl

theorem exec_rerankComplete : exec (.rerankComplete i) s = .next (s.rerankEnd i).finish := rfl

theorem exec_partAnswer : exec (.partAnswer q shard a) s = .next (s.mergeAnswer q shard a).finish := rfl

variable {i} {s}

section NoPart
variable (hp : s.part i = none)
include hp

theorem State.memwaitEnd_none : s.memwaitEnd i poison = s := by
  unfold State.memwaitEnd
  rw [hp]

theorem State.rerankEnd_none : s.rerankEnd i = s := by
  unfold State.rerankEnd
  rw [hp]

end NoPart

section OnePart
variable {p : Part} (hp : s.part i = some p)
include hp

theorem State.memwaitEnd_other (h : p.state ≠ .memwait) : s.memwaitEnd i poison = s := by
  unfold State.memwaitEnd
  rw [hp]
  exact if_pos h

theorem State.memwaitEnd_poison (h : p.state = .memwait) : s.memwaitEnd i true = s.partEnds i p .poison := by
  unfold State.memwaitEnd
  rw [hp]
  exact (if_neg (not_not_intro h)).trans (if_pos rfl)

theorem State.memwaitEnd_rerank (h : p.state = .memwait) (hleft : p.left = .rerank) :
    s.memwaitEnd i false = s.setPart i { p with state := .rerank } := by
  unfold State.memwaitEnd
  rw [hp]
  exact (if_neg (not_not_intro h)).trans ((if_neg (by decide)).trans (if_pos hleft))

theorem State.rerankEnd_other (h : p.state ≠ .rerank) : s.rerankEnd i = s := by
  unfold State.rerankEnd
  rw [hp]
  exact if_pos h

omit hp in
theorem State.partReads_nil (left : PartState) (k : State → State) : s.partReads i p left [] k = k s := rfl

/-- Without a candidate nothing is read, and the part ends with no result. -/
theorem State.rerankEnd_noCands (h : p.state = .rerank) (hnone : p.cands = []) :
    s.rerankEnd i = s.partEnds i { p with results := [] } .done := by
  have hres : s.rerank p = [] := by
    unfold State.rerank
    rw [hnone]
    exact List.take_nil
  unfold State.rerankEnd
  rw [hp]
  refine (if_neg (not_not_intro h)).trans ?_
  rw [hnone, List.flatMap_nil]
  dsimp only
  rw [State.partReads_nil, hres]

end OnePart

end PartClauses

section Relay
variable {m : QueryParts} {s : State}

theorem State.relayParts_unknown (h : s.corpus m.corpus = none) : s.relayParts m = s := by
  unfold State.relayParts
  rw [h]

theorem State.relayParts_known {c : Corpus} {g : McastEntry} (hc : s.corpus m.corpus = some c) (hg : s.group c.group = some g) :
    s.relayParts m = if g.source = s.device ∧ s.mode ≠ .sleep then s.sendGroup c.group 2 m.tenant (.part m) else s := by
  unfold State.relayParts
  rw [hc]
  simp only [hg]

end Relay

section Answers
variable {q shard : Nat} {a : PartAnswer} {s : State}

theorem State.mergeAnswer_none (h : s.homeQ q = none) :
    s.mergeAnswer q shard a = if a.code = .retry then s else s.sendMsg a.src 2 0 (.answerAck q shard) := by
  have hq : (if a.code = .retry then s else s.sendMsg a.src 2 0 (.answerAck q shard)).homeQ q = none := by
    split
    · exact h
    · rw [State.homeQ, State.srch_of_inner (State.sendMsg_inner ..)]
      exact h
  unfold State.mergeAnswer
  dsimp only
  rw [hq]

theorem State.mergeAnswer_retry {h : HomeQ} {k : Nat} {n : ShardNote} (hq : s.homeQ q = some h) (hwait : h.state = .waiting)
    (hn : h.shards.find? (fun e => e.1 == shard) = some (k, n)) (hset : n.stand ≠ .settled)
    (htime : windowOver h.stamp s.stime h.deadlineUs = false) (ha : a.code = .retry) :
    s.mergeAnswer q shard a = s.setHomeQ q { h with shards := h.shards.put shard { n with stand := .retry } } := by
  simp [State.mergeAnswer, ha, hq, hn, hwait, hset, htime]

end Answers

theorem State.shardDead_flag (s : State) (q shard : Nat) (h : HomeQ) (n : ShardNote) :
    ∃ u : State, s.shardDead q h shard n =
      u.querySettled q { h with shards := h.shards.put shard { n with stand := .settled, code := some .dead } } ∧
      u.getF F.srchStatus_shardDead = 1 ∧ u.mem = s.mem :=
  ⟨_, rfl, State.getF_flag_same _ _ _ _ (by decide) (by decide) rfl, State.mem_of_inner (State.flag_inner ..)⟩

/-- A note of a shard's standing changes the query's context alone. -/
theorem State.noteShard_acked (s : State) (q shard : Nat) (h : HomeQ) (n : ShardNote) :
    (s.noteShard q shard h n .acked).homeQ q =
      some { h with shards := h.shards.put shard { n with stand := .acked, heard := s.stime } } ∧
    s.noteShard q shard h n .acked = s.onSrch fun x => { x with homes := (s.noteShard q shard h n .acked).srch.homes } :=
  ⟨State.homeQ_setHomeQ_same .., rfl⟩

/-- Settles O40: each command by the state its query or part is in. -/
theorem queriesAndParts : Obligations.QueriesAndParts := by
  unfold Obligations.QueriesAndParts
  refine ⟨⟨fun t i l dead s hpos hlt hheld hmode => ⟨fun hopc => ⟨fun off hcheck => ?_, fun code detail v hcheck hbind => ?_,
      fun v hcheck hbind => ?_⟩, fun hopc hcheck => ⟨fun q h hfind => ?_, fun hfind => ?_⟩⟩,
    fun q h s hq => ⟨fun hover => ?_, fun hover => ?_, fun hwait => ?_, fun u hmerge hpend hrec hmode hwrite hnone => ?_⟩,
    fun q code d h s hq hmerge => ?_, fun q s hq => ⟨exec_queryDeadline_none hq, ?_⟩⟩,
    fun m slot s => ⟨fun hnone => ?_, fun shard hshard hmode => ⟨fun v i hslot hdeg hopen hfree => ?_, fun v hslot hfree hroom => ?_⟩⟩,
    fun m s => ⟨fun hc => ?_, fun c g hc hg => ?_⟩,
    fun q shard s => ⟨fun hq => ?_, fun h k n hq hn hwait => ⟨fun hst => ?_, fun hst => ?_, fun hst => ?_, fun hst => ?_⟩⟩,
    fun i dead poison s hp => ?_, fun i dead poison p s hp => ⟨fun hst => ?_, fun hst => ?_, fun hst => ?_, fun hst => ⟨?_, fun hleft => ?_⟩,
      fun hst hcands => ?_, fun hst => ?_, fun hnone => s.freePart_effect i hnone⟩,
    fun q shard a s hq => ?_, fun q shard k a h n s hq hwait hn hset htime ha => ?_⟩
  · exact exec_query_malformed hpos hlt hheld hmode hopc hcheck
  · obtain rfl := State.queryBind_refuses hbind
    have hact : v.queryAct t i l dead = ((code, detail), v) := by rw [State.queryAct, hbind]
    obtain ⟨u, hexec, hh, hst, -, hsrch, hmem⟩ := exec_query_act hpos hlt hheld hmode hopc hcheck hact
    exact ⟨u, hexec, rfl, hh, hst, hsrch, hmem⟩
  · have hact : s.queryAct t i l dead = ((.done, 0x10), v) := by rw [State.queryAct, hbind]
    obtain ⟨u, hexec, hh, hst, hreq, hsrch, -⟩ := exec_query_act hpos hlt hheld hmode hopc hcheck hact
    exact ⟨u, hexec, hh, hst, hreq, hsrch⟩
  · have hact : s.qcancelAct t l = ((.done, 3), s.queryEnds q .aborted 1) := by rw [State.qcancelAct, hfind]
    obtain ⟨u, hexec, hh, hst, hsrch, -⟩ := exec_qcancel_act hpos hlt hheld hmode hopc hcheck hact
    exact ⟨u, hexec, hh, hst, hsrch⟩
  · have hact : s.qcancelAct t l = ((.absent, 5), s) := by rw [State.qcancelAct, hfind]
    exact exec_qcancel_act hpos hlt hheld hmode hopc hcheck hact
  · rw [exec_queryDeadline_of hq, if_pos hover]
  · rw [exec_queryDeadline_of hq, if_neg (by rw [hover]; decide)]
  · rw [exec_queryRecordWrite, State.queryRecordLands_waits hq hwait]
  · obtain ⟨hsrch, hmem, hout, hsvc⟩ := u.queryLeaves_effect q h
    refine ⟨u.queryLeaves q h, ?_, congrArg SrchS.homes hsrch, hmem, hout, hsvc⟩
    rw [exec_queryRecordWrite, State.queryRecordLands_lands hq hmerge hpend hrec hmode hwrite hnone]
  · unfold State.queryEnds
    rw [hq]
    exact if_pos hmerge
  · rw [exec_queryRecordWrite, State.queryRecordLands_none hq]
  · rw [exec_queryPart, State.takePart_unknown hnone]
  · obtain ⟨p, hbind, hfields⟩ := State.bindPart_queued i m shard slot hdeg hopen
    refine ⟨(s.sendMsg m.home 2 m.tenant (.partAck m.q shard)).setPart i p, ?_, rfl, rfl, p, State.part_setPart_same .., hfields⟩
    rw [exec_queryPart, State.takePart_bind hshard hmode hslot hfree, hbind]
  · rw [exec_queryPart, State.takePart_queue hshard hmode hslot hfree hroom]
  · rw [exec_queryRelay, State.relayParts_unknown hc]
  · rw [exec_queryRelay, State.relayParts_known hc hg]
  · rw [exec_partAck, exec_partProgress, exec_partResendTimer, exec_partSilenceTimeout, State.resendPart, State.onShard_none hq,
      State.onShard_none hq, State.onShard_none hq, State.onShard_none hq]
    exact ⟨rfl, rfl, rfl, rfl⟩
  · have hset : n.stand ≠ .settled := by rw [hst]; decide
    refine ⟨s.noteShard q shard h n .acked, ?_, ?_, s.noteShard_acked q shard h n⟩
    · rw [exec_partAck, State.onShard_open hq hn hwait hset, if_pos hst]
    · rw [exec_partProgress, State.onShard_open hq hn hwait hset, if_neg (by rw [hst]; decide)]
  · have hset : n.stand ≠ .settled := by rw [hst]; decide
    refine ⟨?_, ?_, s.setHomeQ q { h with shards := h.shards.put shard { n with stand := .sent } }, ?_, State.homeQ_setHomeQ_same ..⟩
    · rw [exec_partAck, State.onShard_open hq hn hwait hset, if_neg (by rw [hst]; decide)]
    · rw [exec_partProgress, State.onShard_open hq hn hwait hset, if_pos hst]
    · rw [exec_partResendTimer, State.resendPart, State.onShard_open hq hn hwait hset, if_pos hst]
      rfl
  · rw [exec_partAck, exec_partSilenceTimeout, State.onShard_settled hq hn hst, State.onShard_settled hq hn hst]
    exact ⟨rfl, rfl⟩
  · obtain ⟨u, hu, hflag, hmem⟩ := s.shardDead_flag q shard h n
    refine ⟨u, ?_, hflag, hmem⟩
    rw [exec_partSilenceTimeout, State.onShard_open hq hn hwait hst, hu]
  · rw [exec_partCancel, exec_answerAck, exec_partProgressTimer, exec_partMemwaitEnd, exec_rerankComplete,
      State.memwaitEnd_none poison hp, State.rerankEnd_none hp]
    simp only [hp, and_self]
  · rw [exec_partCancel, exec_answerAck, exec_partProgressTimer]
    simp only [hp, hst, if_true, and_self]
  · rw [exec_partCancel, exec_answerAck, exec_partProgressTimer]
    simp only [hp, hst, if_false, and_self]
  · rw [exec_partMemwaitEnd, State.memwaitEnd_other poison hp hst]
  · rw [exec_partMemwaitEnd, State.memwaitEnd_poison hp hst]
  · rw [exec_partMemwaitEnd, State.memwaitEnd_rerank hp hst hleft]
  · rw [exec_rerankComplete, State.rerankEnd_noCands hp hst hcands]
  · rw [exec_rerankComplete, State.rerankEnd_other hp hst]
  · rw [exec_partAnswer, State.mergeAnswer_none hq]
  · rw [exec_partAnswer, State.mergeAnswer_retry hq hwait hn hset htime ha]

end Sys2Proof.Machine

end

section

namespace Sys2Proof.Machine

/-! ### The Sorus arrays (O41) -/

theorem not_mem_recordRegs_of_ge {off : Nat} (h : 0x10000 ≤ off) : off ∉ recordRegs := by
  simp only [recordRegs, Fld.off, F.mgtFaultSeq_seq, F.mgtStatus_logLost, F.mgtLogLost_count, List.mem_cons,
    List.not_mem_nil, or_false]
  omega

section Arrays
variable (s : State) (a : Nat)

theorem State.arrayState_setF_same (v : Nat) : (s.setF F.srchArray_state a v).arrayState a = v % 4 :=
  s.getF_setF_same _ _ _ (by decide)

theorem State.arrayState_setF_other {b : Nat} (v : Nat) (h : b ≠ a) : (s.setF F.srchArray_state a v).arrayState b = s.arrayState b := by
  refine s.getF_setF_off _ ?_
  simp only [Fld.off, F.srchArray_state]
  omega

/-! #### Blocks of a sweep -/

theorem State.sweepBlock_closed {slot x first rows : Nat} {dev : List Int} {bad : Bool}
    (h : s.srch.open_.any (fun e => e.2 == some (a / 64)) = false ∨ (s.allRetired (a / 64) = false ∧ s.arrayState a ≠ 1)) :
    s.sweepBlock a slot x first rows dev bad = s := by
  refine if_pos ?_
  rcases h with h | ⟨hretired, hstate⟩
  · simp [h]
  · have hne : (s.arrayState a == arrayActive) = false := beq_eq_false_iff_ne.2 hstate
    simp [hretired, hne]

theorem State.sweepBlock_noParts {slot x first rows : Nat} {dev : List Int} {bad : Bool} (h : s.srch.parts = []) :
    s.sweepBlock a slot x first rows dev bad = s := by
  unfold State.sweepBlock
  simp [h]

/-! #### Calibration -/

theorem State.calibrate_starts (hfree : ∀ k, k < 64 → s.arrayState (64 * (a / 64) + k) ≠ 2)
    (hnext : (s.srch.calOrder.get (a / 64) [0]).head? = some (a % 64)) :
    ∃ o, s.calibrate a = (s.onSrch fun x => { x with calOrder := o }).setF F.srchArray_state a arrayCalibrating := by
  refine ⟨_, if_neg ?_⟩
  have hbusy : ((List.range 64).any fun i => s.arrayState (64 * (a / 64) + i) == arrayCalibrating) = false := by
    rw [List.any_eq_false]
    intro i hi
    simpa [arrayCalibrating] using hfree i (List.mem_range.1 hi)
  simp [hbusy, hnext]

theorem State.calibrate_waits (hnext : (s.srch.calOrder.get (a / 64) [0]).head? ≠ some (a % 64)) : s.calibrate a = s :=
  if_pos (.inr hnext)

theorem State.calibrated_idle {e : Nat} (h : s.arrayState a ≠ 2) : s.calibrated a e = s := if_pos h

/-- The array that ends its calibration takes compares again, and shows its error. -/
def State.calibrationNoted (s : State) (a e : Nat) : State :=
  let s := s.setF F.srchArray_error a (min e 15)
  s.onSrch fun x => { x with
    blocked := x.blocked.filter (· != a), calAt := x.calAt.put a (s.stime, s.getF F.srchArray_temp a) }

theorem State.calibrated_active {e : Nat} (h : s.arrayState a = 2) (he : e + 1 ≤ 3) : s.calibrated a e =
    ((s.calibrationNoted a e).setF F.srchArray_margin a (e + 1)).setF F.srchArray_state a arrayActive :=
  (if_neg (not_not_intro h)).trans (if_pos he)

theorem State.calibrated_retired {e : Nat} (h : s.arrayState a = 2) (he : 3 < e + 1) : ∃ v : State, v.mem = s.mem ∧
    s.calibrated a e = (v.setF F.srchArray_state a arrayRetired).flag F.srchStatus_arrayRetired
      { index := a, dieType := 3, die := a / 64 } :=
  ⟨(s.calibrationNoted a e).fresh.2.setF F.srchArray_margin a ((s.calibrationNoted a e).fresh.1.toNat % 4), rfl,
    (if_neg (not_not_intro h)).trans (if_neg (Nat.not_le.2 he))⟩

theorem State.blocked_calibrationNoted {e : Nat} : (s.calibrationNoted a e).srch.blocked.contains a = false := by
  rw [State.calibrationNoted]
  simp [State.onSrch]

theorem State.getF_calibrationNoted_error {e : Nat} (he : e < 16) : (s.calibrationNoted a e).getF F.srchArray_error a = e := by
  have hset : (s.setF F.srchArray_error a (min e 15)).getF F.srchArray_error a = min e 15 % 16 := s.getF_setF_same _ _ _ (by decide)
  refine (hset : (s.calibrationNoted a e).getF F.srchArray_error a = _).trans ?_
  rw [Nat.min_eq_left (by omega), Nat.mod_eq_of_lt he]

/-! #### Temperature -/

theorem State.calFirst_rest : (s.calFirst a).regs = s.regs ∧ (s.calFirst a).srch.blocked = s.srch.blocked ∧
    (s.calFirst a).mem = s.mem ∧ (s.calFirst a).code = s.code := by
  unfold State.calFirst
  dsimp only
  split <;> exact ⟨rfl, rfl, rfl, rfl⟩

theorem State.getF_calFirst (f : Fld) (i : Nat) : (s.calFirst a).getF f i = s.getF f i := by
  obtain ⟨hregs, -, -, hcode⟩ := s.calFirst_rest a
  simp only [State.getF, State.reg, hregs, hcode]

/-- The array takes no compare until it has been calibrated. -/
def State.blockArray (s : State) (a : Nat) : State :=
  s.onSrch fun x => { x with blocked := if x.blocked.contains a then x.blocked else x.blocked ++ [a] }

theorem State.contains_blockArray : (s.blockArray a).srch.blocked.contains a = true := by
  rw [State.blockArray]
  simp only [State.onSrch]
  split
  · assumption
  · simp

variable (temp : Nat)

theorem State.act_setF_arrayTemp : (s.setF F.srchArray_temp a temp).act F.srchCal_tempStep = s.act F.srchCal_tempStep := by
  have hoff : F.srchCal_tempStep.off 0 ≠ F.srchArray_temp.off a := by
    simp only [Fld.off, F.srchCal_tempStep, F.srchArray_temp]
    omega
  rw [State.act, State.act, s.getF_setF_off _ hoff]
  rfl

/-- The temperature differs from the one of the last calibration by more than TEMP_STEP. -/
@[reducible] def State.tempStepped (s : State) (a t : Nat) : Prop :=
  s.act F.srchCal_tempStep < max t (s.srch.calAt.get a (0, 0)).2 - min t (s.srch.calAt.get a (0, 0)).2

theorem State.arrayTemp_eq : s.arrayTemp a temp = if s.tempStepped a (temp % 1024) then
      ((s.setF F.srchArray_temp a temp).blockArray a).calFirst a
    else s.setF F.srchArray_temp a temp := by
  have ht : (s.setF F.srchArray_temp a temp).getF F.srchArray_temp a = temp % 1024 := s.getF_setF_same _ _ _ (by decide)
  unfold State.arrayTemp
  simp only [ht, s.act_setF_arrayTemp]
  rfl

theorem State.arrayTemp_effect : (s.arrayTemp a temp).getF F.srchArray_temp a = temp % 1024 ∧ (s.arrayTemp a temp).mem = s.mem ∧
    (s.tempStepped a (temp % 1024) → (s.arrayTemp a temp).srch.blocked.contains a = true) := by
  have ht : (s.setF F.srchArray_temp a temp).getF F.srchArray_temp a = temp % 1024 := s.getF_setF_same _ _ _ (by decide)
  rw [State.arrayTemp_eq]
  split
  · obtain ⟨-, hblocked, hmem, -⟩ := ((s.setF F.srchArray_temp a temp).blockArray a).calFirst_rest a
    refine ⟨?_, hmem, fun _ => ?_⟩
    · rw [State.getF_calFirst]
      exact ht
    · rw [hblocked]
      exact State.contains_blockArray ..
  · next h => exact ⟨ht, rfl, fun hs => absurd hs h⟩

end Arrays

/-! ### SRCH_SHARD_CMD -/

/-- SRCH_SHARD_CMD (R410). -/
def srchShardCmdReg : RegDesc :=
  ⟨0xE0038, 8, 1, [F.srchShardCmd_slot, F.srchShardCmd_op, F.srchShardCmd_die, F.srchShardCmd_busy, F.srchShardCmd_code]⟩

theorem regAt_srchShardCmd : regAt (F.srchShardCmd_op.off 0) = some srchShardCmdReg := by decide +kernel

section ShardCommand
variable (s : State) (w : Word)

theorem State.writeReg_srchShardCmd : s.writeReg (F.srchShardCmd_op.off 0) w = s.cmdWritten srchShardCmdReg F.srchShardCmd_op 0 w :=
  State.writeReg_fits regAt_srchShardCmd rfl

/-- What a shard command answers and leaves. -/
def State.shardOp (u : State) (n i : Nat) : Nat × State :=
  if n = 1 then
    if (u.shardSlot i).isSome then (Code.retry.num, u)
    else ((u.shardInstall i (u.getF F.srchShardCmd_die)).1.num, (u.shardInstall i (u.getF F.srchShardCmd_die)).2)
  else if n = 2 then ((u.shardRemove i).1.num, (u.shardRemove i).2)
  else ((u.shardInstall i (u.getF F.srchShardCmd_die)).1.num, (u.shardInstall i (u.getF F.srchShardCmd_die)).2)

/-- The state in which shard command `n` has been written. -/
def State.shardWritten (s : State) (w : Word) (n : Nat) : State :=
  s.cmdWritten srchShardCmdReg F.srchShardCmd_op 0 (putBits w 8 3 n)

theorem State.getF_shardWritten_slot (n : Nat) : (s.shardWritten w n).getF F.srchShardCmd_slot = fieldOf w 0 8 := by
  rw [State.shardWritten, State.getF_cmdWritten (f := F.srchShardCmd_slot) F.srchShardCmd_op 0 regAt_srchShardCmd (by decide) rfl rfl]
  exact fieldOf_putBits_disjoint _ _ _ _ _ _ (by decide) (by decide)

theorem State.shardCommand_eq {n : Nat} (hn : n = 1 ∨ n = 2 ∨ n = 3) (hclean : srchShardCmdReg.clean (putBits w 8 3 n)) :
    s.shardCommand (putBits w 8 3 n) = ((s.shardWritten w n).shardOp n (fieldOf w 0 8)).2.setF F.srchShardCmd_code 0
      ((s.shardWritten w n).shardOp n (fieldOf w 0 8)).1 := by
  have hop : (s.shardWritten w n).getF F.srchShardCmd_op = n := by
    rw [State.shardWritten, State.getF_cmdWritten _ 0 regAt_srchShardCmd (by decide) rfl rfl]
    exact (fieldOf_putBits_same w 8 3 n (by omega)).trans (Nat.mod_eq_of_lt (by omega))
  have hwrite : s.writeReg (F.srchShardCmd_op.off 0) (putBits w 8 3 n) = s.shardWritten w n := s.writeReg_srchShardCmd _
  simp only [State.shardCommand, State.cleanWrite_clean regAt_srchShardCmd hclean, hwrite, hop, State.getF_shardWritten_slot]
  rcases hn with rfl | rfl | rfl
  · rw [if_neg (by decide), if_pos rfl, State.shardOp, if_pos rfl] <;> split <;> rfl
  · rw [if_neg (by decide), if_neg (by decide), if_pos rfl] <;> rfl
  · rw [if_neg (by decide), if_neg (by decide), if_neg (by decide), if_pos rfl] <;> rfl

/-- A slot that no part uses is emptied. -/
theorem State.shardRemove_unused {i : Nat} {v : ShardSlot} (h : s.shardSlot i = some v)
    (hparts : s.srch.parts.any (fun p => p.2.slot == i) = false) : ∃ u : State, s.shardRemove i = (.done, u) ∧
      u.srch.slots = s.srch.slots.del i ∧ u.mem = s.mem := by
  obtain ⟨hsrch, hmem⟩ := s.releaseBlocks_rest v.cur.tenant v.heldBlocks
  refine ⟨(s.releaseBlocks v.cur.tenant v.heldBlocks).onSrch fun x => { x with slots := x.slots.del i }, ?_, ?_, hmem⟩
  · unfold State.shardRemove
    rw [h]
    exact if_neg (by rw [hparts]; decide)
  · rw [State.onSrch, hsrch]

theorem State.shardRemove_used {i : Nat} {v : ShardSlot} (h : s.shardSlot i = some v)
    (hparts : s.srch.parts.any (fun p => p.2.slot == i) = true) : s.shardRemove i = (.retry, s) := by
  unfold State.shardRemove
  rw [h]
  exact if_pos hparts

theorem State.shardRemove_empty {i : Nat} (h : s.shardSlot i = none) : s.shardRemove i = (.done, s) := by
  unfold State.shardRemove
  rw [h]

end ShardCommand

theorem exec_shardCommand {c : Word → Instr} {n : Nat} (h : (c, n) ∈ [(Instr.shardLoad, 1), (.shardUnload, 2), (.shardReplace, 3)])
    (w : Word) (s : State) : exec (c w) s = .next (State.finish (s.shardCommand (putBits w 8 3 n))) ∧ (n = 1 ∨ n = 2 ∨ n = 3) := by
  simp only [List.mem_cons, List.not_mem_nil, or_false, Prod.mk.injEq] at h
  rcases h with ⟨rfl, rfl⟩ | ⟨rfl, rfl⟩ | ⟨rfl, rfl⟩
  · exact ⟨rfl, .inl rfl⟩
  · exact ⟨rfl, .inr (.inl rfl)⟩
  · exact ⟨rfl, .inr (.inr rfl)⟩

section ArrayCommands
variable (s : State) (a slot x first rows temp e : Nat) (dev : List Int) (bad : Bool)

theorem exec_sweepBlockLoad : exec (.sweepBlockLoad a slot x first rows dev bad) s =
    withUnit (s.code.hasArray a) (.next (s.sweepBlock a slot x first rows dev bad).finish) := rfl

theorem exec_arrayCalibrate : exec (.arrayCalibrate a) s = withUnit (s.code.hasArray a) (.next (s.calibrate a)) := rfl

theorem exec_arrayTempStep : exec (.arrayTempStep a temp) s = withUnit (s.code.hasArray a) (.next (s.arrayTemp a temp)) := rfl

theorem exec_arrayCalibrationEnd : exec (.arrayCalibrationEnd a e) s =
    withUnit (s.code.hasArray a) (.next (s.calibrated a e)) := rfl

end ArrayCommands

/-- Settles O41: each command of an array by the array's state, each shard command by its slot. -/
theorem arraysAndShards : Obligations.ArraysAndShards := by
  unfold Obligations.ArraysAndShards
  refine ⟨fun a x y z w e temp dev bad s hnot => ?_, fun a slot x first rows dev bad s harr => ⟨fun h => ?_, fun h => ?_⟩,
    fun a e temp s harr => ⟨fun hfree hnext => ?_, fun hnext => ?_, fun hst => ?_, fun hst he => ?_, fun hst he => ?_, ?_⟩,
    fun w n d c s hc hreg hclean => ?_⟩
  · rw [exec_sweepBlockLoad, exec_arrayCalibrate, exec_arrayTempStep, exec_arrayCalibrationEnd, withUnit_absent hnot,
      withUnit_absent hnot, withUnit_absent hnot, withUnit_absent hnot]
    exact ⟨rfl, rfl, rfl, rfl⟩
  · rw [exec_sweepBlockLoad, withUnit_of_present harr, s.sweepBlock_closed a h]
  · rw [exec_sweepBlockLoad, withUnit_of_present harr, s.sweepBlock_noParts a h]
  · obtain ⟨o, ho⟩ := s.calibrate_starts a hfree hnext
    refine ⟨s.calibrate a, by rw [exec_arrayCalibrate, withUnit_of_present harr], ?_⟩
    rw [ho]
    exact ⟨State.arrayState_setF_same .., rfl, rfl, fun b _ hb => State.arrayState_setF_other _ _ _ hb⟩
  · rw [exec_arrayCalibrate, withUnit_of_present harr, s.calibrate_waits a hnext]
  · rw [exec_arrayCalibrationEnd, withUnit_of_present harr, s.calibrated_idle a hst]
  · refine ⟨s.calibrated a e, by rw [exec_arrayCalibrationEnd, withUnit_of_present harr], ?_⟩
    rw [s.calibrated_active a hst he]
    refine ⟨State.arrayState_setF_same .., ?_, ?_, s.blocked_calibrationNoted a, rfl⟩
    · rw [State.getF_setF_disjoint _ _ (by decide) (by decide), State.getF_setF_same _ _ _ _ (by decide)]
      exact Nat.mod_eq_of_lt (by simp only [F.srchArray_margin]; omega)
    · rw [State.getF_setF_disjoint _ _ (by decide) (by decide), State.getF_setF_disjoint _ _ (by decide) (by decide)]
      exact s.getF_calibrationNoted_error a (by omega)
  · obtain ⟨v, hmem, hv⟩ := s.calibrated_retired a hst he
    refine ⟨s.calibrated a e, by rw [exec_arrayCalibrationEnd, withUnit_of_present harr], ?_⟩
    rw [hv]
    refine ⟨?_, State.getF_flag_same _ _ _ _ (by decide) (by decide) rfl, (State.mem_of_inner (State.flag_inner ..)).trans hmem⟩
    refine (State.getF_flag_other _ _ (not_mem_recordRegs_of_ge ?_) ?_).trans (State.arrayState_setF_same ..)
    · simp only [Fld.off, F.srchArray_state]
      omega
    · simp only [Fld.off, F.srchArray_state, F.srchStatus_arrayRetired]
      omega
  · obtain ⟨htemp, hmem, hblocked⟩ := s.arrayTemp_effect a temp
    exact ⟨s.arrayTemp a temp, by rw [exec_arrayTempStep, withUnit_of_present harr], htemp, hmem, hblocked⟩
  · obtain rfl : srchShardCmdReg = d := Option.some.inj (regAt_srchShardCmd.symm.trans hreg)
    obtain ⟨hexec, hn⟩ := exec_shardCommand hc w s
    rw [hexec, State.shardCommand_eq _ _ hn hclean]
    refine ⟨s.getF_shardWritten_slot w n, fun h1 hsome => ?_, fun code v hload hinst => ?_, fun h2 hnone => ?_, fun v h2 hsome hany => ?_,
      fun v h2 hsome hany => ?_⟩
    · subst h1
      have hop : (s.shardWritten w 1).shardOp 1 (fieldOf w 0 8) = (Code.retry.num, s.shardWritten w 1) :=
        (if_pos rfl).trans (if_pos hsome)
      rw [hop]
      rfl
    · have hop : (s.shardWritten w n).shardOp n (fieldOf w 0 8) = (code.num, v) := by
        have hinst' : (s.shardWritten w n).shardInstall (fieldOf w 0 8) ((s.shardWritten w n).getF F.srchShardCmd_die) = (code, v) :=
          hinst
        rcases hload with ⟨rfl, hnone⟩ | rfl
        · have hnone' : (s.shardWritten w 1).shardSlot (fieldOf w 0 8) = none := hnone
          rw [State.shardOp, if_pos rfl, hnone', hinst']
          rfl
        · rw [State.shardOp, if_neg (by decide), if_neg (by decide), hinst']
      rw [hop]
    · subst h2
      have hop : (s.shardWritten w 2).shardOp 2 (fieldOf w 0 8) = (Code.done.num, s.shardWritten w 2) := by
        rw [State.shardOp, if_neg (by decide), if_pos rfl, State.shardRemove_empty (s.shardWritten w 2) hnone]
      rw [hop]
      rfl
    · subst h2
      have hop : (s.shardWritten w 2).shardOp 2 (fieldOf w 0 8) = (Code.retry.num, s.shardWritten w 2) := by
        rw [State.shardOp, if_neg (by decide), if_pos rfl, State.shardRemove_used (s.shardWritten w 2) hsome hany]
      rw [hop]
      rfl
    · subst h2
      obtain ⟨u, hu, hslots, hmem⟩ := State.shardRemove_unused (s.shardWritten w 2) hsome hany
      have hop : (s.shardWritten w 2).shardOp 2 (fieldOf w 0 8) = (Code.done.num, u) := by
        rw [State.shardOp, if_neg (by decide), if_pos rfl, hu]
      rw [hop]
      exact ⟨_, rfl, hslots, hmem⟩

end Sys2Proof.Machine

end

section

namespace Sys2Proof

/-- A map over the values that keeps the default commutes with reading. -/
theorem Table.get_mapValues {α : Type} (g : α → α) {d : α} (hd : g d = d) (t : Table α) (k : Nat) :
    Table.get (t.map fun e => (e.1, g e.2)) k d = g (t.get k d) := by
  induction t with
  | nil => exact hd.symm
  | cons e r ih =>
    rw [List.map_cons, Table.get, Table.get]
    split
    · rfl
    · exact ih

theorem fieldOf_one (w : Word) (i : Nat) : fieldOf w i 1 = (w.getLsbD i).toNat := by
  rw [fieldOf, BitVec.getLsbD, Nat.toNat_testBit, Nat.shiftRight_eq_div_pow, Nat.pow_one]

/-- Two adjacent bits that are zero. -/
theorem fieldOf_two_zero {w : Word} {i : Nat} (h : fieldOf w i 2 = 0) : fieldOf w i 1 = 0 ∧ fieldOf w (i + 1) 1 = 0 := by
  simp only [fieldOf, Nat.shiftRight_eq_div_pow, Nat.pow_succ, ← Nat.div_div_eq_div_mul] at h ⊢
  omega

end Sys2Proof

namespace Sys2Proof.Machine

/-! ### Ports -/

section Ports
variable (s : State)

@[simp] theorem State.port_setPort_same (p : Nat) (q : Port) : (s.setPort p q).port p = q := Table.get_put_same _ _ _ _

theorem State.port_of_fab {u : State} (h : u.fab.ports = s.fab.ports) (p : Nat) : u.port p = s.port p := by
  rw [State.port, h, State.port]

theorem State.getF_of_regs {u : State} (h : u.regs = s.regs) (hcode : u.code = s.code) (f : Fld) (i : Nat) :
    u.getF f i = s.getF f i := by
  simp only [State.getF, State.reg, h, hcode]

theorem State.fab_flag (f : Fld) (n : Note) (i : Nat) : (s.flag f n i).fab = s.fab := by
  obtain ⟨r, m, h⟩ := s.flag_sameBut f n i
  rw [h]

@[simp] theorem State.linkState_setPort (p k : Nat) (q : Port) : (s.setPort p q).linkState k = s.linkState k := rfl

@[simp] theorem State.linkState_setLink (p st : Nat) : (s.setLink p st).linkState p = st % 8 := s.getF_setF_same _ _ _ (by decide)

@[simp] theorem State.port_setF (f : Fld) (i v p : Nat) : (s.setF f i v).port p = s.port p := rfl

@[simp] theorem State.port_setLink (p st k : Nat) : (s.setLink p st).port k = s.port k := rfl

/-- Another register than LNK_STATE leaves the link's state. -/
theorem State.linkState_setF_other {f : Fld} {p i v : Nat} (h : F.lnkState_state.off p ≠ f.off i) :
    (s.setF f i v).linkState p = s.linkState p := s.getF_setF_off _ h

/-- Another field of LNK_STATE leaves the link's state. -/
theorem State.linkState_setF_disjoint {f : Fld} {p i v : Nat} (h : f.lo + f.width ≤ 64) (hlo : 3 ≤ f.lo) :
    (s.setF f i v).linkState p = s.linkState p := s.getF_setF_disjoint _ h (.inl (by simpa [F.lnkState_state] using hlo))

theorem State.linkState_flag {f : Fld} (n : Note) {p i : Nat} (h : F.lnkState_state.off p ≠ f.off i) :
    (s.flag f n i).linkState p = s.linkState p := by
  refine s.getF_flag_other n (not_mem_recordRegs_of_ge ?_) h
  simp only [Fld.off, F.lnkState_state]
  omega

/-- LNK registers of one port lie apart. -/
theorem lnkState_ne_ctl (p : Nat) : F.lnkState_state.off p ≠ F.lnkCtl_retrain.off p := by
  simp only [Fld.off, F.lnkState_state, F.lnkCtl_retrain]
  omega

theorem lnkState_ne_status (p : Nat) {f : Fld} (hbase : f.base = 0x100300) (hstride : f.stride = 8) : F.lnkState_state.off p ≠ f.off p := by
  simp only [Fld.off, F.lnkState_state, hbase, hstride]
  omega

theorem lnkStatus_not_record (p : Nat) {f : Fld} (hbase : f.base = 0x100300) : f.off p ∉ recordRegs := by
  refine not_mem_recordRegs_of_ge ?_
  rw [Fld.off, hbase]
  omega

theorem State.getF_linkFlag_same {f : Fld} (p : Nat) (hbase : f.base = 0x100300) (hw : f.lo + f.width ≤ 64) (h1 : f.width = 1) :
    (s.linkFlag f p).getF f p = 1 :=
  s.getF_flag_same f _ p (lnkStatus_not_record p hbase) hw h1

end Ports

/-! ### A link that goes down, or whose session ends -/

section LinkGone
variable (s : State) (p st : Nat)

theorem State.endSessionOf_rest : s.endSessionOf p = { s with fab := (s.endSessionOf p).fab } := rfl

/-- A port without its session (R415). -/
def Port.sessionEnded (q : Port) (p : Nat) : Port :=
  { Port.fresh with
    partner := q.partner, partnerPort := q.partnerPort, client := q.client, mapped := q.mapped, outq := q.outq,
    slices := q.slices.filter fun y => y.2 != p, rrTenant := q.rrTenant, holdoff := q.holdoff, authTimes := q.authTimes,
    tagFails := q.tagFails }

theorem State.port_endSessionOf : (s.endSessionOf p).port p = (s.port p).sessionEnded p := by
  have hport : ((s.onFab fun x => { x with ports := x.ports.map fun e =>
      (e.1, { e.2 with slices := e.2.slices.filter fun y => y.2 != p }) }).port p) =
      { s.port p with slices := (s.port p).slices.filter fun y => y.2 != p } :=
    Table.get_mapValues (fun q : Port => { q with slices := q.slices.filter fun y => y.2 != p }) rfl _ _
  rw [State.endSessionOf]
  dsimp only
  rw [State.port_setPort_same, hport]
  rfl

/-- A link whose registers show the state it goes to. -/
def State.linkLowered (s : State) (p st : Nat) : State :=
  let q := s.port p
  let was := s.portLive p || (s.linkState p == lkTraining && q.fromActive)
  let s := ((s.endSessionOf p).setLink p st).setF F.lnkCtl_retrain p 0
  let s := if st = lkQuarantined then s else s.setF F.lnkState_width p 0
  if was && st == lkDown then s.linkFlag F.lnkStatus_down p else s

theorem State.linkGone_eq : s.linkGone p st = (s.linkLowered p st).reroute p := rfl

/-- The registers before the flag. -/
def State.linkShown (s : State) (p st : Nat) : State :=
  let s := ((s.endSessionOf p).setLink p st).setF F.lnkCtl_retrain p 0
  if st = lkQuarantined then s else s.setF F.lnkState_width p 0

theorem State.linkShown_rest : s.linkShown p st = { s with fab := (s.endSessionOf p).fab, regs := (s.linkShown p st).regs } := by
  unfold State.linkShown
  split <;> rfl

theorem State.linkState_linkShown (h : st < 8) : (s.linkShown p st).linkState p = st := by
  have hset : (((s.endSessionOf p).setLink p st).setF F.lnkCtl_retrain p 0).linkState p = st := by
    rw [State.linkState_setF_other _ (lnkState_ne_ctl p), State.linkState_setLink, Nat.mod_eq_of_lt h]
  unfold State.linkShown
  split
  · exact hset
  · rw [State.linkState_setF_disjoint _ (by decide) (by decide)]
    exact hset

theorem State.linkLowered_cases : s.linkLowered p st = s.linkShown p st ∨
    s.linkLowered p st = (s.linkShown p st).linkFlag F.lnkStatus_down p := by
  unfold State.linkLowered
  dsimp only
  split
  · exact .inr rfl
  · exact .inl rfl

theorem State.linkLowered_effect (h : st < 8) : (s.linkLowered p st).linkState p = st ∧
    (s.linkLowered p st).fab = (s.endSessionOf p).fab ∧ (s.linkLowered p st).mem = s.mem ∧ (s.linkLowered p st).out = s.out := by
  have hfab : (s.linkShown p st).fab = (s.endSessionOf p).fab ∧ (s.linkShown p st).mem = s.mem ∧ (s.linkShown p st).out = s.out := by
    rw [State.linkShown_rest]
    exact ⟨rfl, rfl, rfl⟩
  obtain ⟨hf, hm, ho⟩ := hfab
  rcases s.linkLowered_cases p st with e | e <;> rw [e]
  · exact ⟨s.linkState_linkShown p st h, hf, hm, ho⟩
  · exact ⟨(State.linkState_flag _ _ (lnkState_ne_status p rfl rfl)).trans (s.linkState_linkShown p st h),
      (State.fab_flag ..).trans hf, (State.mem_of_inner (State.flag_inner ..)).trans hm, (State.out_flag ..).trans ho⟩

theorem State.linkLowered_down (h : s.linkState p = 3 ∨ s.linkState p = 4) : (s.linkLowered p 0).getF F.lnkStatus_down p = 1 := by
  have hlive : s.portLive p = true := by rcases h with h | h <;> simp [State.portLive, h]
  have hflag : s.linkLowered p 0 = (s.linkShown p 0).linkFlag F.lnkStatus_down p := by
    refine if_pos ?_
    rw [hlive]
    rfl
  rw [hflag]
  exact State.getF_linkFlag_same _ p rfl (by decide) rfl

theorem State.reroute_quiet {q : Port} (hport : s.port p = q) (hq : q.outq = []) (hsl : q.slices = []) :
    s.reroute p = s.setPort p { q with outq := [], slices := [] } := by
  simp only [State.reroute, hport, hq, hsl, List.foldl_nil]

theorem State.port_linkLowered : (s.linkLowered p st).port p = (s.port p).sessionEnded p := by
  have hfab : (s.linkLowered p st).fab = (s.endSessionOf p).fab := by
    rcases s.linkLowered_cases p st with e | e <;> rw [e]
    · rw [State.linkShown_rest]
    · rw [State.linkFlag, State.fab_flag, State.linkShown_rest]
  rw [State.port_of_fab (s.endSessionOf p) (congrArg FabS.ports hfab), State.port_endSessionOf]

/-- Where nothing is queued, a link that goes away ends its session and nothing else is sent. -/
theorem State.linkGone_quiet (hq : (s.port p).outq = []) (hsl : (s.port p).slices = []) :
    s.linkGone p st = (s.linkLowered p st).setPort p { (s.port p).sessionEnded p with outq := [], slices := [] } := by
  rw [State.linkGone_eq]
  refine State.reroute_quiet _ p (s.port_linkLowered p st) hq ?_
  exact (congrArg (List.filter _) hsl).trans rfl

end LinkGone

section EnterAuth
variable (s : State) (p : Nat)

theorem State.authBegin_out : (s.authBegin p).out = (if s.weave.running.isNone then s.out else s.out ++ [.hello p (Config.nonce s.free)]) ∧
    (s.authBegin p).regs = s.regs ∧ (s.authBegin p).code = s.code := by
  unfold State.authBegin
  split <;> exact ⟨rfl, rfl, rfl⟩

theorem State.enterAuth_effect : (s.enterAuth p).linkState p = 2 ∧ (s.enterAuth p).getF F.lnkCtl_retrain p = 0 ∧
    (s.enterAuth p).out = (if s.weave.running.isNone then s.out else s.out ++ [.hello p (Config.nonce s.free)]) := by
  obtain ⟨hout, hregs, hcode⟩ := (((s.endSessionOf p).setLink p lkAuth).setF F.lnkCtl_retrain p 0).authBegin_out p
  refine ⟨?_, ?_, hout⟩
  · refine (State.getF_of_regs _ hregs hcode _ _).trans ?_
    exact (State.linkState_setF_other _ (lnkState_ne_ctl p)).trans (State.linkState_setLink ..)
  · exact (State.getF_of_regs _ hregs hcode _ _).trans (State.getF_setF_same _ _ _ _ (by decide))

end EnterAuth

/-! ### Training -/

theorem State.drain_empty {s : State} {p : Nat} (fuel : Nat) (hq : (s.port p).outq = []) : s.drain fuel p = s := by
  cases fuel with
  | zero => rfl
  | succ n =>
    have hnone : (s.port p).nextOut (datelinePort s.device p) = none := by
      rw [Port.nextOut, hq]
      rfl
    rw [State.drain, hnone]
    split <;> rfl

section Training
variable {s : State} {p : Nat} {lanes : BitVec 8} {same : Bool} (htrain : s.linkState p = lkTraining)
include htrain

theorem State.trainStepDone_next (h : (s.port p).trainStep < 2) :
    s.trainStepDone p lanes same = s.setPort p { s.port p with trainStep := (s.port p).trainStep + 1 } := by
  unfold State.trainStepDone
  dsimp only
  rw [if_neg (not_not_intro htrain), if_neg (by omega), if_pos (by omega)]

theorem State.trainStepDone_noWidth (h : (s.port p).trainStep = 2) (hw : trainedWidth lanes (s.getF F.lnkCtl_minWidth p == 1) = none) :
    s.trainStepDone p lanes same = s.linkGone p 0 := by
  unfold State.trainStepDone
  dsimp only
  rw [if_neg (not_not_intro htrain), if_pos h, hw]
  rfl

theorem State.trainStepDone_width {w : Nat} (h : (s.port p).trainStep = 2)
    (hw : trainedWidth lanes (s.getF F.lnkCtl_minWidth p == 1) = some w) : s.trainStepDone p lanes same =
      (let u := (s.setPort p { s.port p with trainStep := 3 }).setF F.lnkState_width p w
       if w = 4 then u.linkFlag F.lnkStatus_widthDegraded p else u) := by
  unfold State.trainStepDone
  dsimp only
  rw [if_neg (not_not_intro htrain), if_pos h, hw]

variable (h : (s.port p).trainStep = 3)
include h

/-- A port that has trained to the end. -/
def State.trainedOut (s : State) (p : Nat) : State := (s.setPort p { s.port p with trainStep := 4 }).setF F.lnkCtl_retrain p 0

theorem State.trainStepDone_auth (hfrom : (s.port p).fromActive = false) : s.trainStepDone p lanes same = (s.trainedOut p).enterAuth p := by
  unfold State.trainStepDone
  refine (if_neg (not_not_intro htrain)).trans ((if_neg (by omega)).trans ((if_neg (by omega)).trans ?_))
  exact (if_neg (by simp [hfrom])).trans ((if_neg (by simp [hfrom])).trans rfl)

theorem State.trainStepDone_back (hfrom : (s.port p).fromActive = true) (hq : (s.port p).outq = []) :
    s.trainStepDone p lanes true =
      ((s.trainedOut p).setPort p { (s.trainedOut p).port p with fromActive := false }).setLink p lkActive := by
  have hout : ((((s.trainedOut p).setPort p { (s.trainedOut p).port p with fromActive := false }).setLink p lkActive).port p).outq = [] := by
    rw [State.port_setLink, State.port_setPort_same, State.trainedOut, State.port_setF, State.port_setPort_same]
    exact hq
  unfold State.trainStepDone
  refine (if_neg (not_not_intro htrain)).trans ((if_neg (by omega)).trans ((if_neg (by omega)).trans ?_))
  exact (if_pos (by simp [hfrom])).trans (State.drain_empty _ hout)

end Training

/-! ### LNK_CTL -/

/-- LNK_CTL (R471). -/
def lnkCtlReg : RegDesc :=
  ⟨0x100100, 8, 8, [F.lnkCtl_enable, F.lnkCtl_keepaliveOk, F.lnkCtl_minWidth, F.lnkCtl_retrain, F.lnkCtl_reauth]⟩

theorem port_lt_of_hasPort {s : State} {p : Nat} (h : s.code.hasPort p = true) : p < 8 ∧ p < s.code.ports := by
  have hlt : p < s.code.ports := of_decide_eq_true h
  refine ⟨hlt.trans_le ?_, hlt⟩
  cases s.code <;> decide

theorem regAt_lnkCtl {p : Nat} (h : p < 8) : regAt (F.lnkCtl_enable.off p) = some lnkCtlReg := by
  interval_cases p <;> decide +kernel

theorem State.fits_lnkCtl {s : State} {p : Nat} (h : s.code.hasPort p = true) : s.fits lnkCtlReg (F.lnkCtl_enable.off p) = true := by
  have hport : (F.lnkCtl_enable.off p - lnkCtlReg.base) / lnkCtlReg.stride = p := by
    simp [Fld.off, F.lnkCtl_enable, lnkCtlReg]
  unfold State.fits
  rw [hport]
  exact decide_eq_true (port_lt_of_hasPort h).2

section LnkCtl
variable {s : State} {p : Nat} {v : Word} (hport : s.code.hasPort p = true)

/-- LNK_CTL written with a value of its three fields. -/
def State.lnkWritten (s : State) (p : Nat) (v : Word) : State :=
  s.setReg (F.lnkCtl_enable.off p) (lnkCtlReg.written (s.reg (F.lnkCtl_enable.off p)) (v &&& 7#64))

/-- What ENABLE leads to. -/
def State.lnkEnabled (s : State) (p : Nat) (v : Word) : State :=
  if fieldOf v 0 1 = 0 then (if s.linkState p = lkDisabled then s else s.linkGone p lkDisabled)
  else if s.linkState p = lkDisabled then s.setLink p lkDown
  else s

theorem State.linkState_lnkWritten : (s.lnkWritten p v).linkState p = s.linkState p := by
  have hoff : F.lnkState_state.off p ≠ F.lnkCtl_enable.off p := lnkState_ne_ctl p
  simp only [State.linkState, State.getF, State.lnkWritten, State.reg_setReg_other s _ hoff]

theorem State.lnkEnabled_live (hlive : s.linkState p = 3 ∨ s.linkState p = 4) (hon : fieldOf v 0 1 = 1) : s.lnkEnabled p v = s := by
  have hne : s.linkState p ≠ lkDisabled := by rcases hlive with h | h <;> rw [h] <;> decide
  rw [State.lnkEnabled, if_neg (by omega), if_neg hne]

include hport

theorem State.writeReg_lnkCtl : s.writeReg (F.lnkCtl_enable.off p) (v &&& 7#64) = s.lnkWritten p v :=
  State.writeReg_fits (regAt_lnkCtl (port_lt_of_hasPort hport).1) (State.fits_lnkCtl hport)

variable (hclean : lnkCtlReg.clean v)
include hclean

/-- A write of LNK_CTL without RETRAIN and REAUTH does what ENABLE says. -/
theorem State.lnkCtlWrite_plain (h3 : fieldOf v 3 1 = 0) (h4 : fieldOf v 4 1 = 0) :
    s.lnkCtlWrite p v = (s.lnkWritten p v).lnkEnabled p v := by
  unfold State.lnkCtlWrite
  simp only [State.cleanWrite_clean (regAt_lnkCtl (port_lt_of_hasPort hport).1) hclean, State.writeReg_lnkCtl hport, h3, h4] <;> rfl

variable (hlive : s.linkState p = 3 ∨ s.linkState p = 4) (hon : fieldOf v 0 1 = 1)
include hlive hon

theorem State.lnkCtlWrite_retrain (h3 : fieldOf v 3 1 = 1) (h4 : fieldOf v 4 1 = 0) :
    s.lnkCtlWrite p v = ((s.lnkWritten p v).setF F.lnkCtl_retrain p 1).retrain p := by
  have hlive' : (s.lnkWritten p v).linkState p = 3 ∨ (s.lnkWritten p v).linkState p = 4 := by
    rwa [State.linkState_lnkWritten]
  have hlv : (s.lnkWritten p v).portLive p = true := by rcases hlive' with h | h <;> simp [State.portLive, h]
  have hen : (s.lnkWritten p v).lnkEnabled p v = s.lnkWritten p v := State.lnkEnabled_live hlive' hon
  unfold State.lnkCtlWrite
  simp only [State.cleanWrite_clean (regAt_lnkCtl (port_lt_of_hasPort hport).1) hclean, State.writeReg_lnkCtl hport, h3, h4]
  rw [State.lnkEnabled] at hen
  simp only [hen, if_true, if_false, zero_ne_one, hlv] <;> rfl

theorem State.lnkCtlWrite_reauth (h3 : fieldOf v 3 1 = 0) (h4 : fieldOf v 4 1 = 1) :
    s.lnkCtlWrite p v = ((s.lnkWritten p v).setF F.lnkCtl_reauth p 1).rekeyOut p := by
  have hlive' : (s.lnkWritten p v).linkState p = 3 ∨ (s.lnkWritten p v).linkState p = 4 := by
    rwa [State.linkState_lnkWritten]
  have hlv : (s.lnkWritten p v).portLive p = true := by rcases hlive' with h | h <;> simp [State.portLive, h]
  have hen : (s.lnkWritten p v).lnkEnabled p v = s.lnkWritten p v := State.lnkEnabled_live hlive' hon
  unfold State.lnkCtlWrite
  simp only [State.cleanWrite_clean (regAt_lnkCtl (port_lt_of_hasPort hport).1) hclean, State.writeReg_lnkCtl hport, h3, h4]
  rw [State.lnkEnabled] at hen
  simp only [hen, if_true, if_false, zero_ne_one, hlv] <;> rfl

end LnkCtl

/-! #### The word that sets one command bit -/

section CtlBit
variable (s : State) (p : Nat)

theorem and_seven_or_clean (w b : Word) (hb : b &&& ~~~31#64 = 0#64) : (w &&& 7#64 ||| b) &&& ~~~31#64 = 0#64 := by
  apply BitVec.eq_of_getLsbD_eq
  intro i _
  have h7 := congrArg (BitVec.getLsbD · i) (show (7#64 &&& ~~~31#64) = 0#64 by decide)
  have hb' := congrArg (BitVec.getLsbD · i) hb
  simp only [BitVec.getLsbD_and] at h7 hb'
  rw [BitVec.getLsbD_and, BitVec.getLsbD_or, BitVec.getLsbD_and, Bool.and_or_distrib_right, Bool.and_assoc, h7, hb']
  simp

theorem lnkCtlBit_clean {bit : Nat} (h : bit = 3 ∨ bit = 4) : lnkCtlReg.clean (s.lnkCtlBit p bit) := by
  rcases h with rfl | rfl
  · exact and_seven_or_clean _ _ (by decide)
  · exact and_seven_or_clean _ _ (by decide)

theorem fieldOf_lnkCtlBit {bit : Nat} (i : Nat) : fieldOf (s.lnkCtlBit p bit) i 1 =
    ((s.reg (F.lnkCtl_enable.off p)).getLsbD i && (7#64).getLsbD i || (BitVec.ofNat 64 (2 ^ bit)).getLsbD i).toNat := by
  rw [fieldOf_one, State.lnkCtlBit, BitVec.getLsbD_or, BitVec.getLsbD_and]

theorem fieldOf_lnkCtlBit_enable {bit : Nat} (h : bit = 3 ∨ bit = 4) : fieldOf (s.lnkCtlBit p bit) 0 1 = s.getF F.lnkCtl_enable p := by
  rw [fieldOf_lnkCtlBit s p 0, State.getF, show F.lnkCtl_enable.lo = 0 from rfl, show F.lnkCtl_enable.width = 1 from rfl, fieldOf_one]
  rcases h with rfl | rfl <;> simp

theorem fieldOf_lnkCtlBit_retrain : fieldOf (s.lnkCtlBit p 3) 3 1 = 1 ∧ fieldOf (s.lnkCtlBit p 3) 4 1 = 0 := by
  rw [fieldOf_lnkCtlBit s p 3, fieldOf_lnkCtlBit s p 4]
  simp

theorem fieldOf_lnkCtlBit_reauth : fieldOf (s.lnkCtlBit p 4) 3 1 = 0 ∧ fieldOf (s.lnkCtlBit p 4) 4 1 = 1 := by
  rw [fieldOf_lnkCtlBit s p 3, fieldOf_lnkCtlBit s p 4]
  simp

end CtlBit

/-! ### The commands of a port -/

section PortCommands
variable (p n : Nat) (l : BitVec 8) (b : Bool) (v : Word) (ps : List Packet) (s : State)

theorem exec_linkSignalDetect : exec (.linkSignalDetect p n) s = withUnit (s.code.hasPort p) (.next
    (if s.linkState p = lkDown ∧ s.getF F.lnkCtl_enable p = 1 ∧ 4 ≤ n then
      (s.setPort p { s.port p with trainStep := 1, fromActive := false, signalLanes := n }).setLink p lkTraining
    else s)) := rfl

theorem exec_linkTrainStepDone : exec (.linkTrainStepDone p l b) s =
    withUnit (s.code.hasPort p) (.next (s.trainStepDone p l b)) := rfl

theorem exec_linkTrainTimeout : exec (.linkTrainTimeout p) s =
    withUnit (s.code.hasPort p) (.next (if s.linkState p = lkTraining then s.linkGone p lkDown else s)) := rfl

theorem exec_linkRetrain : exec (.linkRetrain p) s = withUnit (s.code.hasPort p) (.next (s.lnkCtlWrite p (s.lnkCtlBit p 3))) := rfl

theorem exec_linkReauth : exec (.linkReauth p) s = withUnit (s.code.hasPort p) (.next (s.lnkCtlWrite p (s.lnkCtlBit p 4))) := rfl

theorem exec_lnkEnableWrite : exec (.lnkEnableWrite p v) s = withUnit (s.code.hasPort p) (.next (s.lnkCtlWrite p v)) := rfl

theorem exec_keepaliveEntry : exec (.keepaliveEntry p) s = withUnit (s.code.hasPort p) (.next
    (if s.getF F.lnkCtl_keepaliveOk p = 1 ∧ (s.port p).outq = [] then s.toKeepalive p else s)) := rfl

theorem exec_keepaliveBurstTimer : exec (.keepaliveBurstTimer p) s =
    withUnit (s.code.hasPort p) (.next (if s.linkState p = lkKeepalive then s.sendCtrls p 16 else s)) := rfl

theorem exec_keepaliveExit : exec (.keepaliveExit p) s = withUnit (s.code.hasPort p) (.next (s.keepaliveOver p)) := rfl

theorem exec_ctrlFillTimer : exec (.ctrlFillTimer p) s = withUnit (s.code.hasPort p) (.next
    (if s.linkState p = lkActive then s.sendCtrls p (8 - (s.port p).txFlits % 8) else s)) := rfl

theorem exec_rekeyThreshold : exec (.rekeyThreshold p) s = withUnit (s.code.hasPort p) (.next (s.rekeyOut p)) := rfl

theorem exec_portDown : exec (.portDown p ps) s = withUnit (s.code.hasPort p) (.next
    (if s.linkState p = lkDisabled then s else (s.portDown p ps).finish)) := rfl

theorem exec_authFail : exec (.authFail p) s = withUnit (s.code.hasPort p) (.next
    (s.authIn p fun s => if s.shaking p then s.handshakeFails p false false else s)) := rfl

theorem exec_authTimeout : exec (.authTimeout p) s =
    withUnit (s.code.hasPort p) (.next (if s.shaking p then s.handshakeFails p false true else s)) := rfl

theorem exec_quarantineHoldoffExpiry : exec (.quarantineHoldoffExpiry p) s =
    withUnit (s.code.hasPort p) (.next (if s.linkState p = lkQuarantined then s.enterAuth p else s)) := rfl

theorem exec_authDone : exec (.authDone p b) s =
    withUnit (s.code.hasPort p) (.next (s.authIn p fun s => s.takeDone p b)) := rfl

end PortCommands

/-! ### The obligation's parts (O42) -/

theorem trainedWidth_some {l : BitVec 8} {w : Nat} {wide : Bool} (h : trainedWidth l wide = some w) : w = 8 ∨ w = 4 := by
  unfold trainedWidth at h
  split at h
  · exact .inl (Option.some.inj h).symm
  · split at h
    · exact .inr (Option.some.inj h).symm
    · exact absurd h (by simp)

section Rekey
variable {s : State} {p : Nat}

theorem State.rekeyOut_idle (h3 : s.linkState p ≠ 3) (h4 : s.linkState p ≠ 4) : s.rekeyOut p = s :=
  if_pos (by simp [State.portLive, h3, h4])

theorem State.rekeyOut_live (hlive : s.linkState p = 3 ∨ s.linkState p = 4) (he : s.getF F.lnkState_keyEpoch p < 32767) :
    s.rekeyOut p = (s.setPort p { s.port p with rekeyTo := some (s.getF F.lnkState_keyEpoch p + 1) }).emit
      (.rekey p (s.getF F.lnkState_keyEpoch p + 1)) := by
  unfold State.rekeyOut
  refine (if_neg ?_).trans (if_neg (by omega))
  rcases hlive with h | h <;> simp [State.portLive, h]

end Rekey

section Down
variable {s : State} {p : Nat}

theorem State.portDown_nil : s.portDown p [] = s.linkGone p lkDown := rfl

theorem State.toKeepalive_eq : s.toKeepalive p = if s.linkState p = 3 then s.setF F.lnkState_state p 4 else s := rfl

end Down

theorem State.linkState_setPort_setF_width {s : State} {p w : Nat} {q : Port} :
    ((s.setPort p q).setF F.lnkState_width p w).linkState p = s.linkState p :=
  State.linkState_setF_disjoint _ (by decide) (by decide)

/-- Step 3 of the training fixes the width. -/
theorem exec_trainedWidth {s : State} {p : Nat} {l : BitVec 8} {same : Bool} (hport : s.code.hasPort p = true)
    (htrain : s.linkState p = 1) (hstep : (s.port p).trainStep = 2) {w : Nat}
    (hw : trainedWidth l (s.getF F.lnkCtl_minWidth p == 1) = some w) :
    ∃ u : State, exec (.linkTrainStepDone p l same) s = .next u ∧ u.getF F.lnkState_width p = w ∧ (u.port p).trainStep = 3 ∧
      u.linkState p = 1 ∧ (w = 4 → u.getF F.lnkStatus_widthDegraded p = 1) := by
  have hlt : w < 16 := by rcases trainedWidth_some hw with rfl | rfl <;> decide
  have hwidth : ((s.setPort p { s.port p with trainStep := 3 }).setF F.lnkState_width p w).getF F.lnkState_width p = w :=
    (State.getF_setF_same _ _ _ _ (by decide)).trans (Nat.mod_eq_of_lt hlt)
  refine ⟨_, by rw [exec_linkTrainStepDone, withUnit_of_present hport, State.trainStepDone_width htrain hstep hw], ?_⟩
  dsimp only
  split
  · refine ⟨?_, ?_, ?_, fun _ => State.getF_linkFlag_same _ p rfl (by decide) rfl⟩
    · refine (State.getF_flag_other (g := F.lnkState_width) _ _ (not_mem_recordRegs_of_ge ?_)
        (lnkState_ne_status (f := F.lnkStatus_widthDegraded) p rfl rfl)).trans hwidth
      simp only [Fld.off, F.lnkState_width]
      omega
    · rw [State.linkFlag, State.port_of_fab _ (congrArg FabS.ports (State.fab_flag ..)), State.port_setF, State.port_setPort_same]
    · exact (State.linkState_flag _ _ (lnkState_ne_status p rfl rfl)).trans (State.linkState_setPort_setF_width.trans htrain)
  · next hne =>
    refine ⟨hwidth, ?_, State.linkState_setPort_setF_width.trans htrain, fun h => absurd h hne⟩
    rw [State.port_setF, State.port_setPort_same]

section Told
variable (s : State) (p : Nat)

theorem State.linkState_retrain : (s.retrain p).linkState p = 1 := by
  have hcount : F.lnkState_state.off p ≠ F.lnkReplayCount_retrains.off p := by
    simp only [Fld.off, F.lnkState_state, F.lnkReplayCount_retrains]
    omega
  rw [State.retrain, State.addF, State.linkState_setF_other _ hcount, State.linkState_setLink]
  rfl

theorem State.port_retrain : (s.retrain p).port p = { s.port p with trainStep := 1, fromActive := true } := by
  rw [State.retrain, State.addF, State.port_setF, State.port_setLink, State.port_setPort_same]

theorem State.getF_retrain : (s.retrain p).getF F.lnkCtl_retrain p = s.getF F.lnkCtl_retrain p := by
  have hctl : F.lnkCtl_retrain.off p ≠ F.lnkReplayCount_retrains.off p := by
    simp only [Fld.off, F.lnkCtl_retrain, F.lnkReplayCount_retrains]
    omega
  rw [State.retrain, State.addF, State.getF_setF_off _ _ hctl, State.setLink, State.getF_setF_off _ _ (lnkState_ne_ctl p).symm]
  rfl

theorem State.out_retrain : (s.retrain p).out = s.out := rfl

variable (v : Word)

theorem State.linkState_reauthSet : ((s.lnkWritten p v).setF F.lnkCtl_reauth p 1).linkState p = s.linkState p := by
  have hoff : F.lnkState_state.off p ≠ F.lnkCtl_reauth.off p := lnkState_ne_ctl p
  rw [State.linkState_setF_other _ hoff, State.linkState_lnkWritten]

theorem State.keyEpoch_reauthSet : ((s.lnkWritten p v).setF F.lnkCtl_reauth p 1).getF F.lnkState_keyEpoch p =
    s.getF F.lnkState_keyEpoch p := by
  have hoff : F.lnkState_keyEpoch.off p ≠ F.lnkCtl_reauth.off p := lnkState_ne_ctl p
  have hoff' : F.lnkState_keyEpoch.off p ≠ F.lnkCtl_enable.off p := lnkState_ne_ctl p
  rw [State.getF_setF_off _ _ hoff]
  simp only [State.getF, State.lnkWritten, State.reg_setReg_other s _ hoff']

theorem State.rekeyOut_reauthSet (hlive : s.linkState p = 3 ∨ s.linkState p = 4) (he : s.getF F.lnkState_keyEpoch p < 32767) :
    ((s.lnkWritten p v).setF F.lnkCtl_reauth p 1).rekeyOut p =
      (((s.lnkWritten p v).setF F.lnkCtl_reauth p 1).setPort p
        { s.port p with rekeyTo := some (s.getF F.lnkState_keyEpoch p + 1) }).emit (.rekey p (s.getF F.lnkState_keyEpoch p + 1)) := by
  rw [State.rekeyOut_live (by rwa [State.linkState_reauthSet]) (by rwa [State.keyEpoch_reauthSet]), State.keyEpoch_reauthSet]
  rfl

theorem State.announced_effect (u : State) (q : Port) (e : Nat) : ((u.setPort p q).emit (.rekey p e)).port p = q ∧
    ((u.setPort p q).emit (.rekey p e)).linkState p = u.linkState p ∧
    ((u.setPort p q).emit (.rekey p e)).getF F.lnkCtl_reauth p = u.getF F.lnkCtl_reauth p ∧
    ((u.setPort p q).emit (.rekey p e)).out = u.out ++ [.rekey p e] :=
  ⟨u.port_setPort_same p q, rfl, rfl, rfl⟩

end Told

/-- Settles O42: every command of a port by the link's state. -/
theorem linksTrain : Obligations.LinksTrain := by
  unfold Obligations.LinksTrain
  refine ⟨fun p n l b v ps s hnot => ?_, fun p lanes s hport => ⟨fun hdown hon hlanes => ?_, fun hno => ?_⟩,
    fun p l same s hport => ⟨fun hno => ?_, fun htrain => ⟨?_, fun hstep => ?_, fun hstep hw => ?_, fun w hstep hw =>
      exec_trainedWidth hport htrain hstep hw, fun hstep hfrom => ?_, fun hstep hfrom hsame hq => ?_⟩⟩,
    fun p l => ⟨by decide, by decide, by decide, by decide, fun h => trainedWidth_some h⟩,
    fun p s hport => ⟨?_, ?_, ?_, fun hno => ?_, fun hka hq => ?_, fun hdis cut => ?_, fun hdis hq hsl => ?_⟩,
    fun p v d s hport hreg hclean hbits => ?_, fun p s hport hlive => ⟨fun hon => ⟨?_, fun he => ?_⟩, fun he => ?_⟩,
    fun p s hport h3 h4 => ?_⟩
  · simp only [List.mem_cons, List.not_mem_nil, or_false]
    rintro c (rfl | rfl | rfl | rfl | rfl | rfl | rfl | rfl | rfl | rfl | rfl | rfl | rfl | rfl | rfl | rfl) <;>
      exact withUnit_absent hnot _
  · refine ⟨(s.setPort p { s.port p with trainStep := 1, fromActive := false, signalLanes := lanes }).setLink p lkTraining, ?_,
      State.linkState_setLink .., ?_, ?_, rfl, rfl⟩
    · rw [exec_linkSignalDetect, withUnit_of_present hport, if_pos ⟨hdown, hon, hlanes⟩]
    · rw [State.port_setLink, State.port_setPort_same]
    · rw [State.port_setLink, State.port_setPort_same]
  · rw [exec_linkSignalDetect, withUnit_of_present hport, if_neg]
    rintro ⟨hdown, hon, hlanes⟩
    rcases hno with h | h | h
    · exact h hdown
    · exact h hon
    · omega
  · rw [exec_linkTrainStepDone, exec_linkTrainTimeout, withUnit_of_present hport, withUnit_of_present hport]
    exact ⟨congrArg _ (if_pos hno), congrArg _ (if_neg hno)⟩
  · rw [exec_linkTrainTimeout, withUnit_of_present hport]
    exact congrArg _ (if_pos htrain)
  · rw [exec_linkTrainStepDone, withUnit_of_present hport, State.trainStepDone_next htrain hstep]
  · rw [exec_linkTrainStepDone, withUnit_of_present hport, State.trainStepDone_noWidth htrain hstep hw]
  · obtain ⟨hst, hre, hout⟩ := (s.trainedOut p).enterAuth_effect p
    exact ⟨_, by rw [exec_linkTrainStepDone, withUnit_of_present hport, State.trainStepDone_auth htrain hstep hfrom], hst, hre, hout⟩
  · subst hsame
    rw [exec_linkTrainStepDone, withUnit_of_present hport, State.trainStepDone_back htrain hstep hfrom hq]
    refine ⟨_, rfl, State.linkState_setLink .., ?_, ?_, ?_, rfl⟩ <;>
      rw [State.port_setLink, State.port_setPort_same, State.trainedOut, State.port_setF, State.port_setPort_same]
  · rw [exec_keepaliveEntry, withUnit_of_present hport, State.toKeepalive_eq]
    by_cases hok : s.getF F.lnkCtl_keepaliveOk p = 1 ∧ (s.port p).outq = []
    · rw [if_pos hok]
      simp only [hok.1, hok.2, true_and]
    · rw [if_neg hok, if_neg fun h => hok ⟨h.1, h.2.1⟩]
  · rw [exec_keepaliveBurstTimer, withUnit_of_present hport]
    rfl
  · rw [exec_ctrlFillTimer, withUnit_of_present hport]
    rfl
  · rw [exec_keepaliveExit, withUnit_of_present hport]
    exact congrArg _ (if_neg hno)
  · rw [exec_keepaliveExit, withUnit_of_present hport]
    exact congrArg _ ((if_pos hka).trans (State.drain_empty _ hq))
  · rw [exec_portDown, withUnit_of_present hport]
    exact congrArg _ (if_pos hdis)
  · obtain ⟨hst, -, hmem, hout⟩ := s.linkLowered_effect p 0 (by decide)
    have hgone := s.linkGone_quiet p 0 hq hsl
    refine ⟨(s.linkLowered p 0).setPort p { (s.port p).sessionEnded p with outq := [], slices := [] }, ?_, hst, ?_,
      fun hlive => s.linkLowered_down p hlive, hmem, hout⟩
    · rw [exec_portDown, withUnit_of_present hport, State.portDown_nil]
      refine (congrArg _ (if_neg hdis)).trans ?_
      exact congrArg (fun u : State => Host.Outcome.next u.finish) hgone
    · rw [State.port_setPort_same]
      rfl
  · obtain rfl : lnkCtlReg = d := Option.some.inj ((regAt_lnkCtl (port_lt_of_hasPort hport).1).symm.trans hreg)
    obtain ⟨h3, h4⟩ := fieldOf_two_zero hbits
    rw [exec_lnkEnableWrite, withUnit_of_present hport, State.lnkCtlWrite_plain hport hclean h3 h4, State.lnkEnabled,
      State.linkState_lnkWritten]
    refine ⟨fun hoff hdis => ?_, fun hoff hdis => ?_, fun hon hdis => ?_, fun hon hdis => ?_⟩
    · rw [if_pos hoff]
      exact congrArg _ (if_neg hdis)
    · rw [if_pos hoff]
      exact congrArg _ (if_pos hdis)
    · rw [if_neg (by omega)]
      exact congrArg _ (if_pos hdis)
    · rw [if_neg (by omega)]
      exact congrArg _ (if_neg hdis)
  · obtain ⟨h3, h4⟩ := fieldOf_lnkCtlBit_retrain s p
    have hwrite := State.lnkCtlWrite_retrain hport (lnkCtlBit_clean s p (.inl rfl)) hlive
      ((fieldOf_lnkCtlBit_enable s p (.inl rfl)).trans hon) h3 h4
    rw [exec_linkRetrain, withUnit_of_present hport, hwrite]
    refine ⟨_, rfl, State.linkState_retrain .., ?_, ?_, ?_, (State.out_retrain ..).trans rfl⟩
    · rw [State.port_retrain]
    · rw [State.port_retrain]
    · rw [State.getF_retrain, State.getF_setF_same _ _ _ _ (by decide)]
      rfl
  · obtain ⟨h3, h4⟩ := fieldOf_lnkCtlBit_reauth s p
    have hwrite := State.lnkCtlWrite_reauth hport (lnkCtlBit_clean s p (.inr rfl)) hlive
      ((fieldOf_lnkCtlBit_enable s p (.inr rfl)).trans hon) h3 h4
    rw [exec_linkReauth, withUnit_of_present hport, hwrite]
    rw [State.rekeyOut_reauthSet _ _ _ hlive he]
    obtain ⟨hq, hst, hre, hout⟩ := State.announced_effect p ((s.lnkWritten p (s.lnkCtlBit p 4)).setF F.lnkCtl_reauth p 1)
      { s.port p with rekeyTo := some (s.getF F.lnkState_keyEpoch p + 1) } (s.getF F.lnkState_keyEpoch p + 1)
    refine ⟨_, rfl, hre.trans ((State.getF_setF_same _ _ _ _ (by decide)).trans rfl), congrArg Port.rekeyTo hq,
      hst.trans (State.linkState_reauthSet ..), hout⟩
  · rw [exec_rekeyThreshold, withUnit_of_present hport, State.rekeyOut_live hlive he]
    refine ⟨_, rfl, ?_, rfl, rfl⟩
    exact congrArg Port.rekeyTo (State.port_setPort_same ..)
  · rw [exec_rekeyThreshold, withUnit_of_present hport, State.rekeyOut_idle h3 h4]

end Sys2Proof.Machine

end

section

namespace Sys2Proof.Machine

/-! ### Flits (O43) -/

section SetPort
variable (s : State) (p : Nat) (q : Port)

theorem State.mem_setPort : (s.setPort p q).mem = s.mem := rfl

theorem State.out_setPort : (s.setPort p q).out = s.out := rfl

theorem State.getF_setPort (f : Fld) (i : Nat) : (s.setPort p q).getF f i = s.getF f i := rfl

end SetPort

section Flits
variable (p : Nat) (k : FlitCheck) (a : BitVec 16) (nak : Bool) (cr : List Nat) (ps : List Packet) (x : Packet) (s : State)

theorem exec_flitCtrl : exec (.flitCtrl p k a nak cr) s = withUnit (s.code.hasPort p)
    (.next (s.flitIn p k fun s => (s.takeCtrl p a nak cr).burstHeard p)) := rfl

theorem exec_flitData : exec (.flitData p k ps) s = withUnit (s.code.hasPort p)
    (.next (s.flitIn p k fun s => ps.foldl (fun s x => s.packetIn p x) s).finish) := rfl

theorem exec_packetForward : exec (.packetForward p x) s = withUnit (s.code.hasPort p)
    (.next (if s.portLive p then s.packetIn p x else s).finish) := rfl

end Flits

section FlitIn
variable {s : State} {p : Nat} {k : FlitCheck} {g : State → State}

theorem State.portLive_iff : s.portLive p = true ↔ s.linkState p = 3 ∨ s.linkState p = 4 := by
  simp [State.portLive]

theorem State.flitIn_unauth (h : s.linkState p = 2 ∨ s.linkState p = 5) : s.flitIn p k g = s.linkFlag F.lnkStatus_unauthDiscard p :=
  if_pos h

theorem State.flitIn_dead (hdead : s.portLive p = false) (h2 : s.linkState p ≠ 2) (h5 : s.linkState p ≠ 5) : s.flitIn p k g = s := by
  unfold State.flitIn
  refine (if_neg (not_or.2 ⟨h2, h5⟩)).trans (if_pos ?_)
  rw [hdead]
  rfl

variable (hlive : s.portLive p = true)
include hlive

theorem State.flitIn_live : s.flitIn p k g = match k with
    | .ok corrected => g ((s.setPort p { s.port p with rxSeq := ((s.port p).rxSeq + 1) % 65536, naks := 0 }).addF
        F.lnkFecCount_corrected p corrected)
    | .crc => s.flitFails p false
    | .codeword => (s.addF F.lnkFecCount_uncorrected p 1).flitFails p false
    | .tag => s.flitFails p true := by
  have hstate := State.portLive_iff.1 hlive
  have hauth : ¬ (s.linkState p = lkAuth ∨ s.linkState p = lkQuarantined) := by
    rcases hstate with h | h <;> rw [h] <;> decide
  unfold State.flitIn
  refine (if_neg hauth).trans ((if_neg ?_).trans ?_)
  · rw [hlive]
    decide
  · cases k <;> rfl

end FlitIn

/-- A flit that was received as the next. -/
def State.flitTaken (s : State) (p corrected : Nat) : State :=
  (s.setPort p { s.port p with rxSeq := ((s.port p).rxSeq + 1) % 65536, naks := 0 }).addF F.lnkFecCount_corrected p corrected

section FlitTaken
variable (s : State) (p corrected : Nat)

theorem State.port_flitTaken : (s.flitTaken p corrected).port p =
    { s.port p with rxSeq := ((s.port p).rxSeq + 1) % 65536, naks := 0 } := s.port_setPort_same p _

theorem State.flitTaken_rest : s.flitTaken p corrected =
    { s with fab := (s.flitTaken p corrected).fab, regs := (s.flitTaken p corrected).regs } := rfl

theorem State.linkState_flitTaken : (s.flitTaken p corrected).linkState p = s.linkState p := by
  have hoff : F.lnkState_state.off p ≠ F.lnkFecCount_corrected.off p := by
    simp only [Fld.off, F.lnkState_state, F.lnkFecCount_corrected]
    omega
  rw [State.flitTaken, State.addF, State.linkState_setF_other _ hoff, State.linkState_setPort]

end FlitTaken

theorem map_add_nil_getD (l : List Nat) : (l.zipIdx.map fun (c, v) => c + ([] : List Nat).getD v 0) = l := by
  have h : (fun x : Nat × Nat => x.1 + ([] : List Nat).getD x.2 0) = Prod.fst := by
    funext x
    simp
  exact (congrArg (fun f => l.zipIdx.map f) h).trans (List.zipIdx_map_fst 0 l)

/-- A CTRL flit without a NAK and without credits takes the acknowledged frames out of the replay buffer. -/
theorem State.takeCtrl_ack (s : State) (p : Nat) (a : BitVec 16) (hq : (s.port p).outq = []) :
    s.takeCtrl p a false [] = s.setPort p { s.port p with
      replay := (s.port p).replay.filter fun f => !decide ((a.toNat + 65536 - (f.seq + f.flits - 1) % 65536) % 65536 < 32768) } := by
  have hcredits : (if s.linkState p = lkActive then (s.port p).credits.zipIdx.map fun (c, v) => c + ([] : List Nat).getD v 0
      else (s.port p).credits) = (s.port p).credits := by
    split
    · exact map_add_nil_getD _
    · rfl
  unfold State.takeCtrl
  simp only [hcredits, Bool.false_eq_true, if_false]
  refine State.drain_empty _ ?_
  rw [State.port_setPort_same]
  exact hq

theorem State.burstHeard_awake {s : State} (p : Nat) (h : s.pwr.asleep = []) : s.burstHeard p = s := by
  refine if_neg ?_
  rw [h]
  simp

/-! ### Packets of a bad form -/

section PacketIn
variable (s : State) (p : Nat) (x : Packet)

/-- A packet that is dropped where it came in. -/
def State.packetDropped (s : State) (p : Nat) (x : Packet) : State :=
  ((s.tel F.telLinkRx_count p (x.bytes - 32)).owe p x).dropPacket

theorem State.packetDropped_rest : (s.packetDropped p x).out = s.out ∧ (s.packetDropped p x).mem = s.mem := ⟨rfl, rfl⟩

theorem State.packetIn_stomp (h : x.stomp = true) : s.packetIn p x = (s.packetDropped p x).linkFlag F.lnkStatus_stompRx p :=
  if_pos h

theorem State.packetIn_badForm (h : x.stomp = false) (hbad : x.badForm = true) :
    s.packetIn p x = (s.packetDropped p x).linkFlag F.lnkStatus_malformedPkt p :=
  (if_neg (by rw [h]; decide)).trans (if_pos (by rw [hbad]; rfl))

theorem State.linkFlag_rest (f : Fld) : (s.linkFlag f p).out = s.out ∧ (s.linkFlag f p).mem = s.mem ∧ (s.linkFlag f p).fab = s.fab :=
  ⟨State.out_flag .., State.mem_of_inner (State.flag_inner ..), State.fab_flag ..⟩

end PacketIn

/-! ### The handshake -/

/-- The messages of the handshake that still count against the bound of a second. -/
def State.recentAuth (s : State) (p : Nat) : List (BitVec 64) :=
  (s.port p).authTimes.filter fun t => decide (s.stime.toNat < t.toNat + 1000000000)

/-- A handshake message is counted. -/
def State.authNoted (s : State) (p : Nat) : State := s.setPort p { s.port p with authTimes := s.recentAuth p ++ [s.stime] }

section AuthIn
variable {s : State} {p : Nat} {g : State → State}

theorem State.authIn_full (h : 16 ≤ (s.recentAuth p).length) : s.authIn p g = s.setPort p { s.port p with authTimes := s.recentAuth p } :=
  if_pos h

theorem State.port_authNoted : (s.authNoted p).port p = { s.port p with authTimes := s.recentAuth p ++ [s.stime] } :=
  s.port_setPort_same p _

theorem State.authIn_taken (h : (s.recentAuth p).length < 16) (hst : s.linkState p = 2 ∨ s.portLive p = true) :
    s.authIn p g = g (s.authNoted p) := (if_neg (Nat.not_le.2 h)).trans (if_pos hst)

theorem State.shaking_authNoted : (s.authNoted p).shaking p = (s.port p).hs.sentHello := by
  rw [State.shaking, State.port_authNoted]

theorem State.portLive_auth (h : s.linkState p = 2) : (s.authNoted p).portLive p = false := by
  have hst : (s.authNoted p).linkState p = 2 := h
  simp [State.portLive, hst]

end AuthIn

section Messages
variable (p : Nat) (nonce share : BitVec 256) (c : CertFacts) (ok : Bool) (e : BitVec 15) (s : State)

theorem exec_hello : exec (.hello p nonce) s = withUnit (s.code.hasPort p) (.next (s.authIn p fun s => s.takeHello p nonce)) := rfl

theorem exec_cert : exec (.cert p c) s = withUnit (s.code.hasPort p) (.next (s.authIn p fun s => s.takeCert p c)) := rfl

theorem exec_proof : exec (.proof p ok share) s =
    withUnit (s.code.hasPort p) (.next (s.authIn p fun s => s.takeProof p ok share)) := rfl

theorem exec_rekey : exec (.rekey p e) s = withUnit (s.code.hasPort p) (.next (s.authIn p fun s =>
    if s.portLive p then s.setPort p { s.port p with rxEpoch := e.toNat } else s)) := rfl

/-- Each handshake message of a port is one that `authIn` counts. -/
theorem exec_authMessage (hport : s.code.hasPort p = true) : ∀ i ∈ [Instr.hello p nonce, .cert p c, .proof p ok share, .authDone p ok,
    .authFail p, .rekey p e], ∃ g : State → State, exec i s = .next (s.authIn p g) ∧
      ∀ v : State, v.shaking p = false → v.portLive p = false → g v = v := by
  simp only [List.mem_cons, List.not_mem_nil, or_false]
  rintro i (rfl | rfl | rfl | rfl | rfl | rfl)
  · rw [exec_hello, withUnit_of_present hport]
    refine ⟨_, rfl, fun v hsh hlive => ?_⟩
    simp [State.takeHello, hsh, hlive]
  · rw [exec_cert, withUnit_of_present hport]
    refine ⟨_, rfl, fun v hsh _ => if_pos ?_⟩
    rw [hsh]
    rfl
  · rw [exec_proof, withUnit_of_present hport]
    refine ⟨_, rfl, fun v hsh _ => if_pos ?_⟩
    rw [hsh]
    rfl
  · rw [exec_authDone, withUnit_of_present hport]
    refine ⟨_, rfl, fun v hsh _ => if_pos ?_⟩
    rw [hsh]
    rfl
  · rw [exec_authFail, withUnit_of_present hport]
    refine ⟨_, rfl, fun v hsh _ => if_neg ?_⟩
    rw [hsh]
    decide
  · rw [exec_rekey, withUnit_of_present hport]
    refine ⟨_, rfl, fun v _ hlive => if_neg ?_⟩
    rw [hlive]
    decide

end Messages

/-! #### What each message does in a handshake under way -/

section Shaking
variable {s : State} {p : Nat} (hsh : s.shaking p = true)
include hsh

theorem State.takeHello_first {nonce : BitVec 256} (hdead : s.portLive p = false) (hnone : (s.port p).hs.nonce = none) :
    s.takeHello p nonce = (s.setPort p { s.port p with hs := { (s.port p).hs with nonce := some nonce } }).emit (.cert p) := by
  simp [State.takeHello, hdead, hsh, hnone]

theorem State.takeCert_fails {c : CertFacts} (h : (s.port p).hs.nonce = none ∨ c.chainOk = false ∨ c.revoked = true) :
    s.takeCert p c = (s.addF F.secPkCount_public 0 c.certs).handshakeFails p false true := by
  unfold State.takeCert
  refine (if_neg (by rw [hsh]; decide)).trans (if_pos ?_)
  rcases h with h | h | h <;> simp [h]

/-- The state after a certificate that checks. -/
def State.certTaken (s : State) (p : Nat) (c : CertFacts) : State :=
  { s.addF F.secPkCount_public 0 c.certs with free := s.free + 1 }.setPort p
    { s.port p with hs := { (s.port p).hs with cert := some c }, ownShare := Config.nonce s.free }

theorem State.takeCert_good {c : CertFacts} (hnonce : (s.port p).hs.nonce ≠ none) (hchain : c.chainOk = true) (hrev : c.revoked = false) :
    s.takeCert p c = ((s.certTaken p c).addF F.secPkCount_private 0 1).emit (.proof p (Config.nonce s.free)) := by
  have hsome : (s.port p).hs.nonce.isNone = false := Bool.eq_false_iff.2 (mt Option.isNone_iff_eq_none.1 hnonce)
  unfold State.takeCert
  refine (if_neg (by rw [hsh]; decide)).trans (if_neg ?_)
  simp [hsome, hchain, hrev]

variable {share : BitVec 256} {ok : Bool}

/-- The operations a PROOF costs. -/
def State.proofCounted (s : State) : State := (s.addF F.secPkCount_public 0 1).addF F.secPkCount_private 0 1

theorem State.takeProof_wrongPartner {c : CertFacts} (hcert : (s.port p).hs.cert = some c) (hname : (s.port p).namesPartner c = false) :
    s.takeProof p true share = s.proofCounted.handshakeFails p true true := by
  unfold State.takeProof
  refine (if_neg (by rw [hsh]; decide)).trans ?_
  rw [hcert]
  exact (if_neg (by decide)).trans (if_pos (by rw [hname]; rfl))

theorem State.takeProof_good {c : CertFacts} (hcert : (s.port p).hs.cert = some c) (hname : (s.port p).namesPartner c = true)
    (hdone : (s.port p).hs.doneIn = false) : s.takeProof p true share = (s.proofCounted.setPort p
      { s.port p with hs := { (s.port p).hs with share := some share, doneOut := true } }).emit (.authDone p) := by
  unfold State.takeProof
  refine (if_neg (by rw [hsh]; decide)).trans ?_
  rw [hcert]
  refine (if_neg (by decide)).trans ((if_neg (by rw [hname]; decide)).trans (if_neg ?_))
  rw [hdone]
  decide

theorem State.takeDone_fails (h : ok = false) : s.takeDone p ok = s.handshakeFails p false true := by
  subst h
  unfold State.takeDone
  exact (if_neg (by rw [hsh]; decide)).trans (if_pos (.inl rfl))

theorem State.takeDone_waits (hshare : (s.port p).hs.share ≠ none) (hout : (s.port p).hs.doneOut = false) :
    s.takeDone p true = s.setPort p { s.port p with hs := { (s.port p).hs with doneIn := true } } := by
  have hsome : (s.port p).hs.share.isNone = false := Bool.eq_false_iff.2 (mt Option.isNone_iff_eq_none.1 hshare)
  unfold State.takeDone
  refine (if_neg (by rw [hsh]; decide)).trans ((if_neg (by simp [hsome])).trans (if_neg ?_))
  rw [hout]
  decide

theorem State.takeDone_active (hshare : (s.port p).hs.share ≠ none) (hout : (s.port p).hs.doneOut = true) :
    s.takeDone p true = (s.setPort p { s.port p with hs := { (s.port p).hs with doneIn := true } }).enterActive p := by
  have hsome : (s.port p).hs.share.isNone = false := Bool.eq_false_iff.2 (mt Option.isNone_iff_eq_none.1 hshare)
  unfold State.takeDone
  exact (if_neg (by rw [hsh]; decide)).trans ((if_neg (by simp [hsome])).trans (if_pos hout))

end Shaking

/-! #### The end of a handshake -/

section EnterActive
variable (s : State) (p : Nat)

/-- The registers of a port that becomes ACTIVE. -/
def State.activeShown (s : State) (p : Nat) (q : Port) : State :=
  (((s.setF F.lnkState_partner p (if q.client.isSome then 0 else q.partner.toNat)).setF F.lnkState_partnerPort p
    q.partnerPort).setF F.lnkState_client p q.client.isSome.toNat).setLink p lkActive

theorem State.linkState_activeShown (q : Port) : (s.activeShown p q).linkState p = 3 := State.linkState_setLink ..

theorem State.out_activeShown (q : Port) : (s.activeShown p q).out = s.out := rfl

theorem State.keyEpoch_activeShown (q : Port) : (s.activeShown p q).getF F.lnkState_keyEpoch p = s.getF F.lnkState_keyEpoch p := by
  rw [State.activeShown, State.setLink, State.getF_setF_disjoint _ _ (by decide) (by decide),
    State.getF_setF_disjoint _ _ (by decide) (by decide), State.getF_setF_disjoint _ _ (by decide) (by decide),
    State.getF_setF_disjoint _ _ (by decide) (by decide)]

/-- A port whose link has just been authenticated (R638). -/
def Port.activated (q : Port) : Port :=
  { q with
    hs := .fresh, rxEpoch := 0, peerShare := q.hs.share.getD 0, txFlits := 0, rekeyTo := none, holdoff := 0, txSeq := 0, rxSeq := 0,
    replay := [], credits := List.replicate 8 256, owed := List.replicate 8 0 }

/-- The key epoch and the count of failures are 0 again. -/
def State.epochCleared (s : State) (p : Nat) : State := (s.setF F.lnkState_keyEpoch p 0).setF F.lnkState_quarFails p 0

theorem State.keyEpoch_epochCleared : (s.epochCleared p).getF F.lnkState_keyEpoch p = 0 := by
  rw [State.epochCleared, State.getF_setF_disjoint _ _ (by decide) (by decide), State.getF_setF_same _ _ _ _ (by decide)]
  rfl

theorem State.linkState_epochCleared : (s.epochCleared p).linkState p = s.linkState p := by
  rw [State.epochCleared, State.linkState_setF_disjoint _ (by decide) (by decide), State.linkState_setF_disjoint _ (by decide) (by decide)]

theorem State.enterActive_new (hst : s.linkState p = 2) : s.enterActive p =
    (((s.epochCleared p).setPort p (s.port p).activated).activeShown p (s.port p)).drain ((s.port p).outq.length + 1) p := by
  have hdead : (s.epochCleared p).portLive p = false := by simp [State.portLive, State.linkState_epochCleared, hst]
  have hnot : ¬ ((s.setF F.lnkState_keyEpoch p 0).setF F.lnkState_quarFails p 0).portLive p = true := by
    rw [State.epochCleared] at hdead
    rw [hdead]
    decide
  exact if_neg hnot

theorem State.port_activeShown (q : Port) : ((s.setPort p q.activated).activeShown p q).port p = q.activated := by
  rw [State.activeShown, State.port_setLink, State.port_setF, State.port_setF, State.port_setF, State.port_setPort_same]

theorem State.enterActive_effect (hst : s.linkState p = 2) (hq : (s.port p).outq = []) :
    (s.enterActive p).linkState p = 3 ∧ (s.enterActive p).port p = (s.port p).activated ∧
    (s.enterActive p).getF F.lnkState_keyEpoch p = 0 ∧ (s.enterActive p).out = s.out := by
  have hport := (s.epochCleared p).port_activeShown p (s.port p)
  have hq' : ((((s.epochCleared p).setPort p (s.port p).activated).activeShown p (s.port p)).port p).outq = [] := by
    rw [hport]
    exact hq
  have hepoch : ((s.epochCleared p).setPort p (s.port p).activated).getF F.lnkState_keyEpoch p = 0 :=
    ((s.epochCleared p).getF_setPort p _ _ _).trans (s.keyEpoch_epochCleared p)
  have hout : ((s.epochCleared p).setPort p (s.port p).activated).out = s.out := (State.out_setPort ..).trans rfl
  rw [s.enterActive_new p hst, State.drain_empty _ hq', State.out_activeShown, State.keyEpoch_activeShown]
  exact ⟨State.linkState_activeShown .., hport, hepoch, hout⟩

end EnterActive

section Fails
variable (s : State) (p : Nat) (tell : Bool)

/-- A handshake that ends in a failure, before its link goes to QUARANTINED. -/
def State.failTold (s : State) (p : Nat) (tell : Bool) : State :=
  (if tell then s.emit (.authFail p) else s).linkFlag F.lnkStatus_authFail p

theorem State.failTold_effect : (s.failTold p tell).getF F.lnkStatus_authFail p = 1 ∧ (s.failTold p tell).port p = s.port p ∧
    (s.failTold p tell).mem = s.mem ∧ (s.failTold p tell).out = if tell then s.out ++ [.authFail p] else s.out := by
  obtain ⟨hout, hmem, hfab⟩ := (if tell then s.emit (.authFail p) else s).linkFlag_rest p F.lnkStatus_authFail
  refine ⟨State.getF_linkFlag_same _ p rfl (by decide) rfl, ?_, hmem.trans ?_, hout.trans ?_⟩
  · rw [State.failTold, State.port_of_fab _ (congrArg FabS.ports hfab)]
    cases tell <;> rfl
  · cases tell <;> rfl
  · cases tell <;> rfl

/-- A link that goes to QUARANTINED leaves LNK_STATUS. -/
theorem State.authFail_linkLowered : (s.linkLowered p lkQuarantined).getF F.lnkStatus_authFail p = s.getF F.lnkStatus_authFail p := by
  have hnot : s.linkLowered p lkQuarantined = s.linkShown p lkQuarantined := if_neg (by simp [lkDown, lkQuarantined])
  have hstate : F.lnkStatus_authFail.off p ≠ F.lnkState_state.off p := (lnkState_ne_status p rfl rfl).symm
  have hctl : F.lnkStatus_authFail.off p ≠ F.lnkCtl_retrain.off p := by
    simp only [Fld.off, F.lnkStatus_authFail, F.lnkCtl_retrain]
    omega
  rw [hnot, State.linkShown, if_pos (by rfl), State.getF_setF_off _ _ hctl, State.setLink, State.getF_setF_off _ _ hstate]
  rfl

/-- The hold-off of the next attempt. -/
def State.heldOff (s : State) (p h : Nat) : State :=
  (s.addF F.lnkState_quarFails p 1).setPort p { s.port p with holdoff := h }

theorem State.handshakeFails_eq : ∃ h, s.handshakeFails p false tell = ((s.failTold p tell).linkGone p lkQuarantined).heldOff p h :=
  ⟨min 64000 ((((s.failTold p tell).linkGone p lkQuarantined).addF F.lnkState_quarFails p 1).act F.lnkQuarHoldoff_holdoffMs *
    2 ^ min ((s.failTold p tell).getF F.lnkState_quarFails p) 16), rfl⟩

theorem State.heldOff_effect (h : Nat) : (s.heldOff p h).linkState p = s.linkState p ∧
    (s.heldOff p h).getF F.lnkStatus_authFail p = s.getF F.lnkStatus_authFail p ∧
    ((s.heldOff p h).port p).hs = (s.port p).hs ∧ (s.heldOff p h).mem = s.mem ∧ (s.heldOff p h).out = s.out := by
  have hoff : F.lnkStatus_authFail.off p ≠ F.lnkState_quarFails.off p := (lnkState_ne_status p rfl rfl).symm
  refine ⟨?_, (State.getF_of_regs _ rfl rfl _ _).trans (s.getF_setF_off _ hoff), ?_, rfl, rfl⟩
  · rw [State.heldOff, State.linkState_setPort, State.addF, State.linkState_setF_disjoint _ (by decide) (by decide)]
  · rw [State.heldOff, State.port_setPort_same]

/-- The registers and the port of a link whose handshake has failed. -/
theorem State.handshakeFails_effect (hq : (s.port p).outq = []) (hsl : (s.port p).slices = []) :
    (s.handshakeFails p false tell).linkState p = 5 ∧ (s.handshakeFails p false tell).getF F.lnkStatus_authFail p = 1 ∧
    ((s.handshakeFails p false tell).port p).hs = Handshake.fresh ∧ (s.handshakeFails p false tell).mem = s.mem ∧
    (s.handshakeFails p false tell).out = if tell then s.out ++ [.authFail p] else s.out := by
  obtain ⟨hflag, hport, hmem, hout⟩ := s.failTold_effect p tell
  obtain ⟨hst, -, hlmem, hlout⟩ := (s.failTold p tell).linkLowered_effect p lkQuarantined (by decide)
  have hgone := (s.failTold p tell).linkGone_quiet p lkQuarantined (by rw [hport]; exact hq) (by rw [hport]; exact hsl)
  obtain ⟨h, hfails⟩ := s.handshakeFails_eq p tell
  obtain ⟨hhst, hhflag, hhhs, hhmem, hhout⟩ := ((s.failTold p tell).linkGone p lkQuarantined).heldOff_effect p h
  rw [hfails, hhst, hhflag, hhhs, hhmem, hhout, hgone, State.linkState_setPort, State.port_setPort_same, State.mem_setPort,
    State.out_setPort, hlmem, hlout, hmem, hout, State.getF_setPort, State.authFail_linkLowered, hflag]
  exact ⟨hst, rfl, rfl, rfl, rfl⟩

end Fails

/-! ### The obligation's parts (O43) -/

section Clauses
variable {s : State} {p : Nat}

/-- A CTRL flit that checks, at an active port with nothing queued. -/
theorem ctrlTaken_effect (a : BitVec 16) (hq : (s.port p).outq = []) (hasleep : s.pwr.asleep = []) :
    let u := ((s.flitTaken p 0).takeCtrl p a false []).burstHeard p
    (u.port p).rxSeq = ((s.port p).rxSeq + 1) % 65536 ∧ (u.port p).credits = (s.port p).credits ∧
    (u.port p).replay = (s.port p).replay.filter (fun f =>
      !decide ((a.toNat + 65536 - (f.seq + f.flits - 1) % 65536) % 65536 < 32768)) ∧ u.out = s.out := by
  have hq' : ((s.flitTaken p 0).port p).outq = [] := by
    rw [State.port_flitTaken]
    exact hq
  dsimp only
  rw [State.takeCtrl_ack _ p a hq', State.burstHeard_awake p, State.port_setPort_same, State.port_flitTaken, State.out_setPort]
  · exact ⟨rfl, rfl, rfl, rfl⟩
  · exact hasleep

variable (hst : s.linkState p = 2) (hfree : (s.recentAuth p).length < 16) (hp : p < 8)
include hst

section Counted
include hp

theorem State.linkState_certTaken (c : CertFacts) (q : BitVec 256) :
    (((s.certTaken p c).addF F.secPkCount_private 0 1).emit (.proof p q)).linkState p = 2 := by
  have hpub : F.lnkState_state.off p ≠ F.secPkCount_public.off 0 := by
    simp only [Fld.off, F.lnkState_state, F.secPkCount_public]
    omega
  have hpriv : F.lnkState_state.off p ≠ F.secPkCount_private.off 0 := by
    simp only [Fld.off, F.lnkState_state, F.secPkCount_private]
    omega
  have hcert : (s.certTaken p c).linkState p = (s.addF F.secPkCount_public 0 c.certs).linkState p := rfl
  have hemit : (((s.certTaken p c).addF F.secPkCount_private 0 1).emit (.proof p q)).linkState p =
    ((s.certTaken p c).addF F.secPkCount_private 0 1).linkState p := rfl
  rw [hemit, State.addF, State.linkState_setF_other _ hpriv, hcert, State.addF, State.linkState_setF_other _ hpub, hst]

theorem State.linkState_proofCounted : s.proofCounted.linkState p = 2 := by
  have hpub : F.lnkState_state.off p ≠ F.secPkCount_public.off 0 := by
    simp only [Fld.off, F.lnkState_state, F.secPkCount_public]
    omega
  have hpriv : F.lnkState_state.off p ≠ F.secPkCount_private.off 0 := by
    simp only [Fld.off, F.lnkState_state, F.secPkCount_private]
    omega
  rw [State.proofCounted, State.addF, State.linkState_setF_other _ hpriv, State.addF, State.linkState_setF_other _ hpub, hst]

end Counted

include hfree

theorem State.authIn_auth (g : State → State) : s.authIn p g = g (s.authNoted p) := State.authIn_taken hfree (.inl hst)

end Clauses

/-! #### The messages of a handshake under way -/

section UnderWay
variable {s : State} {p : Nat} {nonce share : BitVec 256} {c : CertFacts} {ok : Bool}
variable (hport : s.code.hasPort p = true) (hst : s.linkState p = 2) (hfree : (s.recentAuth p).length < 16)
  (hsh : (s.port p).hs.sentHello = true)
include hport hst hfree hsh

omit hport hst hfree hsh in
theorem State.hs_authNoted : ((s.authNoted p).port p).hs = (s.port p).hs := by rw [State.port_authNoted]

omit hport hfree hsh in
theorem State.linkState_authNoted : (s.authNoted p).linkState p = 2 := (State.linkState_setPort ..).trans hst

omit hport hst hfree hsh in
theorem State.hs_setPort_hs (u : State) (q : Port) (h : Handshake) : ((u.setPort p { q with hs := h }).port p).hs = h := by
  rw [State.port_setPort_same]

omit hport hst hfree hsh in
theorem State.port_emit (u : State) (o : Out) : (u.emit o).port p = u.port p := rfl

omit hport hst hfree hsh in
theorem State.linkState_emit (u : State) (o : Out) : (u.emit o).linkState p = u.linkState p := rfl

theorem exec_hello_first (hnone : (s.port p).hs.nonce = none) : ∃ u : State, exec (.hello p nonce) s = .next u ∧
    (u.port p).hs = { (s.port p).hs with nonce := some nonce } ∧ u.out = s.out ++ [.cert p] ∧ u.regs = s.regs := by
  rw [exec_hello, withUnit_of_present hport, State.authIn_auth hst hfree,
    State.takeHello_first (State.shaking_authNoted.trans hsh) (State.portLive_auth hst) (by rwa [State.hs_authNoted])]
  refine ⟨_, rfl, ?_, rfl, rfl⟩
  rw [State.port_emit, State.hs_setPort_hs, State.hs_authNoted]

theorem exec_cert_good (hnonce : (s.port p).hs.nonce ≠ none) (hchain : c.chainOk = true) (hrev : c.revoked = false) :
    ∃ u : State, exec (.cert p c) s = .next u ∧ (u.port p).hs = { (s.port p).hs with cert := some c } ∧
      (u.port p).ownShare = Config.nonce s.free ∧ u.out = s.out ++ [.proof p (Config.nonce s.free)] ∧ u.linkState p = 2 := by
  rw [exec_cert, withUnit_of_present hport, State.authIn_auth hst hfree,
    State.takeCert_good (State.shaking_authNoted.trans hsh) (by rwa [State.hs_authNoted]) hchain hrev]
  refine ⟨_, rfl, ?_, ?_, rfl, State.linkState_certTaken (State.linkState_authNoted hst) (port_lt_of_hasPort hport).1 _ _⟩
  · rw [State.port_emit, State.addF, State.port_setF, State.certTaken, State.port_setPort_same, State.hs_authNoted]
  · rw [State.port_emit, State.addF, State.port_setF, State.certTaken, State.port_setPort_same]
    rfl

theorem exec_cert_fails (h : (s.port p).hs.nonce = none ∨ c.chainOk = false ∨ c.revoked = true) : exec (.cert p c) s =
    .next (((s.authNoted p).addF F.secPkCount_public 0 c.certs).handshakeFails p false true) := by
  rw [exec_cert, withUnit_of_present hport, State.authIn_auth hst hfree,
    State.takeCert_fails (State.shaking_authNoted.trans hsh) (by rwa [State.hs_authNoted])]

omit hport hst hfree hsh in
theorem State.namesPartner_authNoted (d : CertFacts) : ((s.authNoted p).port p).namesPartner d = (s.port p).namesPartner d := by
  rw [State.port_authNoted]
  rfl

theorem exec_proof_good (hcert : (s.port p).hs.cert = some c) (hok : ok = true) (hname : (s.port p).namesPartner c = true)
    (hdone : (s.port p).hs.doneIn = false) : ∃ u : State, exec (.proof p ok share) s = .next u ∧
      (u.port p).hs = { (s.port p).hs with share := some share, doneOut := true } ∧ u.out = s.out ++ [.authDone p] ∧
      u.linkState p = 2 := by
  subst hok
  rw [exec_proof, withUnit_of_present hport, State.authIn_auth hst hfree,
    State.takeProof_good (State.shaking_authNoted.trans hsh) (by rwa [State.hs_authNoted]) ((State.namesPartner_authNoted c).trans hname)
      (by rwa [State.hs_authNoted])]
  refine ⟨_, rfl, ?_, rfl, ?_⟩
  · rw [State.port_emit, State.hs_setPort_hs, State.hs_authNoted]
  · rw [State.linkState_emit, State.linkState_setPort,
      State.linkState_proofCounted (State.linkState_authNoted hst) (port_lt_of_hasPort hport).1]

theorem exec_proof_wrongPartner (hcert : (s.port p).hs.cert = some c) (hok : ok = true) (hname : (s.port p).namesPartner c = false) :
    exec (.proof p ok share) s = .next (State.handshakeFails
      (State.addF ((s.authNoted p).addF F.secPkCount_public 0 1) F.secPkCount_private 0 1) p true true) := by
  subst hok
  rw [exec_proof, withUnit_of_present hport, State.authIn_auth hst hfree,
    State.takeProof_wrongPartner (State.shaking_authNoted.trans hsh) (by rwa [State.hs_authNoted])
      ((State.namesPartner_authNoted c).trans hname)]
  rfl

theorem exec_authDone_waits (hok : ok = true) (hshare : (s.port p).hs.share ≠ none) (hout : (s.port p).hs.doneOut = false) :
    ∃ u : State, exec (.authDone p ok) s = .next u ∧ (u.port p).hs = { (s.port p).hs with doneIn := true } ∧ u.out = s.out ∧
      u.linkState p = 2 := by
  subst hok
  rw [exec_authDone, withUnit_of_present hport, State.authIn_auth hst hfree,
    State.takeDone_waits (State.shaking_authNoted.trans hsh) (by rwa [State.hs_authNoted]) (by rwa [State.hs_authNoted])]
  refine ⟨_, rfl, ?_, rfl, ?_⟩
  · rw [State.hs_setPort_hs, State.hs_authNoted]
  · rw [State.linkState_setPort, State.linkState_authNoted hst]

theorem exec_authDone_active (hok : ok = true) (hshare : (s.port p).hs.share ≠ none) (hout : (s.port p).hs.doneOut = true)
    (hq : (s.port p).outq = []) : ∃ u : State, exec (.authDone p ok) s = .next u ∧ u.linkState p = 3 ∧
      (u.port p).hs = Handshake.fresh ∧ u.getF F.lnkState_keyEpoch p = 0 ∧ (u.port p).credits = List.replicate 8 256 ∧
      u.out = s.out := by
  subst hok
  have hq' : ((s.authNoted p).port p).outq = [] := by
    rw [State.port_authNoted]
    exact hq
  have hlink := State.linkState_authNoted hst
  rw [exec_authDone, withUnit_of_present hport, State.authIn_auth hst hfree,
    State.takeDone_active (State.shaking_authNoted.trans hsh) (by rwa [State.hs_authNoted]) (by rwa [State.hs_authNoted])]
  obtain ⟨hst', hport', hepoch, hout'⟩ := State.enterActive_effect
    ((s.authNoted p).setPort p { (s.authNoted p).port p with hs := { ((s.authNoted p).port p).hs with doneIn := true } }) p
    ((State.linkState_setPort ..).trans hlink) (by rw [State.port_setPort_same]; exact hq')
  refine ⟨_, rfl, hst', ?_, hepoch, ?_, hout'⟩ <;> rw [hport'] <;> rfl

theorem exec_authDone_fails (hok : ok = false) : exec (.authDone p ok) s = .next ((s.authNoted p).handshakeFails p false true) := by
  rw [exec_authDone, withUnit_of_present hport, State.authIn_auth hst hfree,
    State.takeDone_fails (State.shaking_authNoted.trans hsh) hok]

theorem exec_authFail_fails : exec (.authFail p) s = .next ((s.authNoted p).handshakeFails p false false) := by
  rw [exec_authFail, withUnit_of_present hport, State.authIn_auth hst hfree, if_pos (State.shaking_authNoted.trans hsh)]

end UnderWay

/-- Settles O43: flits by the link's state and their check, messages by the bound, the link's state and the handshake so far. -/
theorem flitsAndHandshake : Obligations.FlitsAndHandshake := by
  unfold Obligations.FlitsAndHandshake
  refine ⟨fun p k a nak cr ps x nonce share c ok e s hnot => ?_, fun p k a nak cr ps x s hport => ⟨fun h => ?_, fun hdead h2 h5 => ?_,
      fun hlive => ⟨?_, fun hk => ?_, fun hk => ?_, fun hk hst hq hasleep => ?_, fun hk => ?_⟩⟩,
    fun p x s _ hbad => ?_, fun p nonce share c ok e s hport => ?_,
    fun p s hport => ⟨fun hsh => ?_, fun hsh => ?_, fun hst => ?_, fun hst => ?_⟩,
    fun p tell s _ hq hsl => s.handshakeFails_effect p tell hq hsl⟩
  · simp only [List.mem_cons, List.not_mem_nil, or_false]
    rintro i (rfl | rfl | rfl | rfl | rfl | rfl | rfl) <;> exact withUnit_absent hnot _
  · rw [exec_flitCtrl, exec_flitData, withUnit_of_present hport, withUnit_of_present hport, State.flitIn_unauth h, State.flitIn_unauth h]
    obtain ⟨-, hmem, hfab⟩ := s.linkFlag_rest p F.lnkStatus_unauthDiscard
    exact ⟨_, rfl, rfl, State.getF_linkFlag_same _ p rfl (by decide) rfl, hfab, hmem⟩
  · rw [exec_flitCtrl, exec_flitData, exec_packetForward, withUnit_of_present hport, withUnit_of_present hport,
      withUnit_of_present hport, State.flitIn_dead hdead h2 h5, State.flitIn_dead hdead h2 h5, hdead]
    exact ⟨rfl, rfl, rfl⟩
  · rw [exec_packetForward, withUnit_of_present hport, if_pos hlive]
  · subst hk
    rw [exec_flitCtrl, withUnit_of_present hport, State.flitIn_live hlive]
  · subst hk
    rw [exec_flitData, withUnit_of_present hport, State.flitIn_live hlive]
  · subst hk
    rw [exec_flitCtrl, withUnit_of_present hport, State.flitIn_live hlive]
    exact ⟨_, rfl, ctrlTaken_effect a hq hasleep⟩
  · subst hk
    rw [exec_flitData, withUnit_of_present hport, State.flitIn_live hlive]
    refine ⟨s.flitTaken p 0, rfl, ?_, ?_, rfl, rfl⟩ <;> rw [State.port_flitTaken]
  · refine ⟨_, rfl, ?_⟩
    obtain ⟨hout, hmem⟩ := s.packetDropped_rest p x
    rcases hbad with h | ⟨h, hb⟩
    · obtain ⟨hout', hmem', -⟩ := (s.packetDropped p x).linkFlag_rest p F.lnkStatus_stompRx
      rw [s.packetIn_stomp p x h]
      refine ⟨hout'.trans hout, hmem'.trans hmem, fun _ => State.getF_linkFlag_same _ p rfl (by decide) rfl, fun h' => ?_⟩
      exact absurd h' (by rw [h]; decide)
    · obtain ⟨hout', hmem', -⟩ := (s.packetDropped p x).linkFlag_rest p F.lnkStatus_malformedPkt
      rw [s.packetIn_badForm p x h hb]
      refine ⟨hout'.trans hout, hmem'.trans hmem, fun h' => ?_, fun _ => State.getF_linkFlag_same _ p rfl (by decide) rfl⟩
      exact absurd h' (by rw [h]; decide)
  · refine ⟨fun hfull i hi => ?_, fun hfree hst hsh i hi => ?_, fun hfree hst => ?_, fun hfree hst hsh => ?_⟩
    · obtain ⟨g, hg, -⟩ := exec_authMessage p nonce share c ok e s hport i hi
      rw [hg, State.authIn_full hfull]
      rfl
    · obtain ⟨g, hg, hidle⟩ := exec_authMessage p nonce share c ok e s hport i hi
      rw [hg, State.authIn_auth hst hfree, hidle _ (State.shaking_authNoted.trans hsh) (State.portLive_auth hst)]
      rfl
    · have hlive : (s.authNoted p).portLive p = true := State.portLive_iff.2 (by rwa [State.authNoted, State.linkState_setPort])
      rw [exec_rekey, withUnit_of_present hport, State.authIn_taken hfree (.inr (State.portLive_iff.2 hst)), if_pos hlive]
      exact ⟨_, rfl, congrArg Port.rxEpoch (State.port_setPort_same ..), rfl, rfl⟩
    · exact ⟨exec_hello_first hport hst hfree hsh, exec_cert_good hport hst hfree hsh, exec_cert_fails hport hst hfree hsh,
        fun d => exec_proof_good hport hst hfree hsh, fun d => exec_proof_wrongPartner hport hst hfree hsh,
        exec_authDone_waits hport hst hfree hsh, exec_authDone_active hport hst hfree hsh, exec_authDone_fails hport hst hfree hsh,
        exec_authFail_fails hport hst hfree hsh⟩
  · rw [exec_authTimeout, withUnit_of_present hport]
    exact congrArg _ (if_pos hsh)
  · rw [exec_authTimeout, withUnit_of_present hport]
    exact congrArg _ (if_neg (by rw [State.shaking, hsh]; decide))
  · rw [exec_quarantineHoldoffExpiry, withUnit_of_present hport]
    exact congrArg _ (if_neg hst)
  · rw [exec_quarantineHoldoffExpiry, withUnit_of_present hport]
    obtain ⟨hst', -, hout⟩ := s.enterAuth_effect p
    exact ⟨s.enterAuth p, congrArg _ (if_pos hst), hst', hout⟩

end Sys2Proof.Machine

end

section

namespace Sys2Proof.Machine

/-! ### A bit raised leaves the other fields of its register -/

section FlagFields
variable (s : State) {f g : Fld} (n : Note) {i j : Nat}

/-- Outside the fault records, raising a bit writes the bit. -/
theorem State.reg_flag {off : Nat} (h : off ∉ recordRegs) : (s.flag f n i).reg off = (s.setF f i 1).reg off := by
  have h1 : off ≠ F.mgtStatus_excOverflow.off 0 := by
    intro e
    apply h
    rw [e]
    simp [recordRegs, Fld.off, F.mgtStatus_excOverflow, F.mgtStatus_logLost]
  have k : ∀ t : State, t.reg off = (s.setF f i 1).reg off →
      (if t.mgt.qExc < 1024 then { t with mgt := { t.mgt with qExc := t.mgt.qExc + 1 } }
       else (t.setF F.mgtStatus_excOverflow 0 1).raise 0 F.mgtStatus_excOverflow.lo {}).reg off = (s.setF f i 1).reg off := by
    intro t ht
    split
    · exact ht
    · rw [State.raise_reg _ _ _ _ off h, State.reg_setF_other _ h1, ht]
  unfold State.flag
  apply k
  split
  · rfl
  · rw [State.raise_reg _ _ _ _ off h]

theorem State.getF_flag_disjoint (h : g.off j ∉ recordRegs) (hw : f.lo + f.width ≤ 64)
    (hd : g.lo + g.width ≤ f.lo ∨ f.lo + f.width ≤ g.lo) : (s.flag f n i).getF g j = s.getF g j := by
  rw [← s.getF_setF_disjoint (i := i) (j := j) 1 hw hd]
  simp only [State.getF, s.reg_flag n h]

end FlagFields

/-! ### Flows of the resequencer -/

section RxFlows
variable (s : State)

theorem State.flow_rxFlow (f : FlowId) : (s.rxFlow f).flow = f := by
  unfold State.rxFlow
  cases h : s.fab.rx.find? fun r => r.flow == f with
  | none => rfl
  | some r => exact beq_iff_eq.1 (List.find?_some (p := fun r : RxFlow => r.flow == f) h)

theorem State.rxFlow_setRx {r : RxFlow} {f : FlowId} (h : r.flow = f) : (s.setRx r).rxFlow f = r := by
  subst h
  have hnone : (s.fab.rx.filter fun q => q.flow != r.flow).find? (fun q => q.flow == r.flow) = none := by
    rw [List.find?_eq_none]
    intro q hq
    simpa using (List.mem_filter.1 hq).2
  have hfind : ((s.fab.rx.filter fun q => q.flow != r.flow) ++ [r]).find? (fun q => q.flow == r.flow) = some r := by
    rw [List.find?_append, hnone]
    simp
  exact congrArg (fun o => Option.getD o _) hfind

theorem State.rxFlow_of_fab {u : State} (h : u.fab.rx = s.fab.rx) (f : FlowId) : u.rxFlow f = s.rxFlow f := by
  rw [State.rxFlow, h, State.rxFlow]

theorem RxFlow.advance_flow (r : RxFlow) : r.advance.flow = r.flow := rfl

end RxFlows

section Eject
variable {s : State} {p : Packet}

/-- The distance of a packet's number from the next expected of its flow. -/
def State.ahead (s : State) (p : Packet) : Nat := (p.flowSeq.toNat + 65536 - (s.rxFlow p.flow).expected) % 65536

/-- After 64 packets of a flow it is reported. -/
def State.reported (s : State) (p : Packet) : State := if 64 ≤ (s.rxFlow p.flow).unreported then s.sendDelivered p.src else s

theorem State.reported_early (h : (s.rxFlow p.flow).unreported < 64) : s.reported p = s := if_neg (Nat.not_le.2 h)

theorem State.eject_next (h : s.ahead p = 0) (hheld : (s.rxFlow p.flow).held = []) :
    s.eject p = ((s.setRx (s.rxFlow p.flow).advance).deliver p).reported p := by
  have hbody : (if s.ahead p = 0 then ((s.setRx (s.rxFlow p.flow).advance).deliver p).deliverHeld (s.rxFlow p.flow).held.length p.flow
      else if 32768 ≤ s.ahead p then (s.setRx { s.rxFlow p.flow with unreported := max (s.rxFlow p.flow).unreported 1 }).dropPacket
      else if 1023 < s.ahead p ∨ ((s.rxFlow p.flow).held.any fun q => q.flowSeq == p.flowSeq) then s.dropPacket
      else if 16384 ≤ s.reseqUsed then (s.flag F.swcStatus_reseqFull).dropPacket
      else s.setRx { s.rxFlow p.flow with held := (s.rxFlow p.flow).held ++ [p] }) =
      (s.setRx (s.rxFlow p.flow).advance).deliver p := by
    rw [if_pos h, hheld]
    rfl
  exact congrArg (fun u : State => u.reported p) hbody

theorem State.eject_late (h : 32768 ≤ s.ahead p) : s.eject p =
    ((s.setRx { s.rxFlow p.flow with unreported := max (s.rxFlow p.flow).unreported 1 }).dropPacket).reported p := by
  have hne : s.ahead p ≠ 0 := by omega
  exact congrArg (fun u : State => u.reported p) ((if_neg hne).trans (if_pos h))

theorem State.eject_early (h0 : 0 < s.ahead p) (h : s.ahead p ≤ 1023) (hheld : (s.rxFlow p.flow).held = []) (hroom : s.reseqUsed < 16384) :
    s.eject p = (s.setRx { s.rxFlow p.flow with held := [p] }).reported p := by
  have hnot : ¬ (1023 < s.ahead p ∨ ((s.rxFlow p.flow).held.any fun q => q.flowSeq == p.flowSeq) = true) := by
    rw [hheld]
    simpa using h
  have hput : s.setRx { s.rxFlow p.flow with held := (s.rxFlow p.flow).held ++ [p] } =
      s.setRx { s.rxFlow p.flow with held := [p] } := by
    rw [hheld]
    rfl
  have h0' : s.ahead p ≠ 0 := by omega
  have hlate : ¬ 32768 ≤ s.ahead p := by omega
  exact congrArg (fun u : State => u.reported p) ((if_neg h0').trans ((if_neg hlate).trans
    ((if_neg hnot).trans ((if_neg (by omega)).trans hput))))

theorem State.received_bad (h : p.stomp = true ∨ p.badForm = true) : s.received p = s.dropPacket :=
  if_pos (by rcases h with h | h <;> simp [h])

theorem State.received_good (h1 : p.stomp = false) (h2 : p.badForm = false) : s.received p = s.eject p := if_neg (by simp [h1, h2])

/-- A fence that no work waits for is noted where it is delivered. -/
theorem State.deliver_fence (hkind : p.kind = .fence) (hwork : p.work = none) :
    s.deliver p = s.onFab fun x => { x with fencesIn := x.fencesIn ++ [p] } := by
  unfold State.deliver
  rw [hwork, hkind]
  rfl

end Eject

/-- The packets a flow delivers, with the kinds their commands give them. -/
def receivedKinds (p : Packet) : List (Instr × Packet) :=
  [(Instr.load p, { p with kind := .load }), (.store p, { p with kind := .store }), (.atomic p, { p with kind := .atomic }),
    (.fence p, { p with kind := .fence })]

theorem receivedKinds_cases {p : Packet} {e : Instr × Packet} (he : e ∈ receivedKinds p) (s : State) :
    exec e.1 s = .next (s.received e.2).finish ∧ e.2.flow = p.flow ∧ e.2.flowSeq = p.flowSeq ∧ e.2.src = p.src ∧ e.2.work = p.work ∧
      (e.1 = .fence p → e.2.kind = .fence) := by
  simp only [receivedKinds, List.mem_cons, List.not_mem_nil, or_false] at he
  rcases he with rfl | rfl | rfl | rfl
  · exact ⟨rfl, rfl, rfl, rfl, rfl, fun h => by simp at h⟩
  · exact ⟨rfl, rfl, rfl, rfl, rfl, fun h => by simp at h⟩
  · exact ⟨rfl, rfl, rfl, rfl, rfl, fun h => by simp at h⟩
  · exact ⟨rfl, rfl, rfl, rfl, rfl, fun _ => rfl⟩

/-- What a packet of a flow does when it comes in. -/
theorem exec_received {p : Packet} {s : State} {e : Instr × Packet} (he : e ∈ receivedKinds p) :
    let n := (p.flowSeq.toNat + 65536 - (s.rxFlow p.flow).expected) % 65536
    (e.2.stomp = true ∨ e.2.badForm = true → exec e.1 s = .next (State.finish s.dropPacket)) ∧
    (e.2.stomp = false → e.2.badForm = false →
      (n = 0 → (s.rxFlow p.flow).held = [] →
        let u := (s.setRx (s.rxFlow p.flow).advance).deliver e.2
        exec e.1 s = .next (State.finish (if 64 ≤ (u.rxFlow p.flow).unreported then u.sendDelivered p.src else u))) ∧
      (n = 0 → e.1 = .fence p → p.work = none → (s.rxFlow p.flow).held = [] → (s.rxFlow p.flow).unreported < 63 →
        ∃ u : State, exec e.1 s = .next (State.finish u) ∧ u.fab.fencesIn = s.fab.fencesIn ++ [e.2] ∧ u.mem = s.mem ∧ u.out = s.out) ∧
      (0 < n → n ≤ 1023 → (s.rxFlow p.flow).held = [] → s.reseqUsed < 16384 → (s.rxFlow p.flow).unreported < 64 →
        ∃ u : State, exec e.1 s = .next (State.finish u) ∧ (u.rxFlow p.flow).held = [e.2] ∧
          (u.rxFlow p.flow).expected = (s.rxFlow p.flow).expected ∧ u.mem = s.mem ∧ u.out = s.out) ∧
      (32768 ≤ n → (s.rxFlow p.flow).unreported < 64 → ∃ u : State, exec e.1 s = .next (State.finish u) ∧
        (u.rxFlow p.flow).expected = (s.rxFlow p.flow).expected ∧ 0 < (u.rxFlow p.flow).unreported ∧ u.mem = s.mem ∧
        u.out = s.out)) := by
  intro n
  obtain ⟨hexec, hflow, hseq, hsrc, hwork, hfence⟩ := receivedKinds_cases he s
  have hn : s.ahead e.2 = n := by rw [State.ahead, hflow, hseq]
  refine ⟨fun hbad => by rw [hexec, State.received_bad hbad], fun h1 h2 => ?_⟩
  rw [hexec, State.received_good h1 h2]
  rw [← hflow, ← hsrc, ← hn]
  refine ⟨fun h0 hheld => by rw [State.eject_next h0 hheld]; rfl, fun h0 hf hw hheld hun => ?_, fun h0 hle hheld hroom hun => ?_,
    fun hlate hun => ?_⟩
  · have hrep : (((s.setRx (s.rxFlow e.2.flow).advance).deliver e.2).rxFlow e.2.flow).unreported < 64 := by
      rw [State.deliver_fence (hfence hf) (hwork.trans hw)]
      refine (congrArg RxFlow.unreported ((State.rxFlow_of_fab (s.setRx (s.rxFlow e.2.flow).advance) rfl _).trans
        (State.rxFlow_setRx _ (s.flow_rxFlow e.2.flow)))).trans_lt ?_
      exact Nat.succ_lt_succ hun
    rw [State.eject_next h0 hheld, State.reported_early hrep, State.deliver_fence (hfence hf) (hwork.trans hw)]
    exact ⟨_, rfl, rfl, rfl, rfl⟩
  · have hrx : (s.setRx { s.rxFlow e.2.flow with held := [e.2] }).rxFlow e.2.flow = { s.rxFlow e.2.flow with held := [e.2] } :=
      State.rxFlow_setRx _ (s.flow_rxFlow e.2.flow)
    rw [State.eject_early h0 hle hheld hroom, State.reported_early (by rw [hrx]; exact hun)]
    refine ⟨_, rfl, ?_, ?_, rfl, rfl⟩ <;> rw [hrx]
  · have hrx : ((s.setRx { s.rxFlow e.2.flow with unreported := max (s.rxFlow e.2.flow).unreported 1 }).dropPacket).rxFlow e.2.flow =
        { s.rxFlow e.2.flow with unreported := max (s.rxFlow e.2.flow).unreported 1 } :=
      State.rxFlow_setRx _ (s.flow_rxFlow e.2.flow)
    rw [State.eject_late hlate, State.reported_early (by rw [hrx]; exact Nat.max_lt.2 ⟨hun, by decide⟩)]
    refine ⟨_, rfl, ?_, ?_, rfl, rfl⟩ <;> rw [hrx]
    exact Nat.lt_of_lt_of_le Nat.zero_lt_one (Nat.le_max_right ..)

/-! ### Replies (R456, R465) -/

section Replies
variable {s : State} {p : Packet}

/-- The request a reply answers. -/
def State.answeredBy (s : State) (p : Packet) : Option Request :=
  s.fab.requests.find? fun r => r.tag == p.tag && r.waiting.contains p.src

theorem State.answeredBy_none (h : ∀ r ∈ s.fab.requests, r.tag ≠ p.tag) : s.answeredBy p = none := by
  rw [State.answeredBy, List.find?_eq_none]
  intro r hr
  simp [h r hr]

theorem State.answeredBy_only {r : Request} (hreq : s.fab.requests = [r]) (htag : r.tag = p.tag) (hwait : r.waiting = [p.src]) :
    s.answeredBy p = some r := by
  simp [State.answeredBy, hreq, htag, hwait]

/-- A request that waits for one device alone ends with its answer. -/
theorem State.takeAnswer_only {r : Request} {src : DevNo} (hreq : s.fab.requests = [r]) (hwait : r.waiting = [src]) (hans : r.answers = [])
    (code : Code) (detail : Nat) (data : List Line) : s.takeAnswer r src code detail data =
      (s.onFab fun x => { x with requests := [] }).requestEnds r (joinAnswers [code]) detail data := by
  have hleft : (s.fab.requests.filter fun q => q.tag != r.tag) = [] := by simp [hreq]
  have hnone : (r.waiting.filter (· != src)).isEmpty = true := by simp [hwait]
  unfold State.takeAnswer
  refine (if_pos hnone).trans ?_
  rw [hleft, hans]
  rfl

theorem State.takeReply_eq : s.takeReply p = match s.answeredBy p with
    | none => s.addF F.lnkLateReplyCount_count 0 1
    | some r =>
      if trackerRetry p ∧ !r.packet.mcast then
        (s.onFab fun x => { x with requests := x.requests.filter fun q => q.tag != r.tag }).launch r.packet (some r.issuer)
      else s.takeAnswer r p.src p.code (fieldOf p.addr 8 8) p.data := rfl

theorem State.takeFenceDone_eq : s.takeFenceDone p = match s.answeredBy p with
    | none => s
    | some r => s.takeAnswer r p.src .done 0 [] := rfl

end Replies

/-! ### DELIVERED (R454) -/

section Delivered
variable (s : State) (src : DevNo) (es : List (FlowId × BitVec 16))

theorem State.mirrorAcked_rest (p : Packet) : s.mirrorAcked p = { s with map := (s.mirrorAcked p).map } := by
  unfold State.mirrorAcked
  split
  · rfl
  · split <;> rfl

/-- What does not look at the map is unchanged by the acknowledgements of mirrored records. -/
theorem foldl_mirrorAcked {β : Type} (g : State → β) (hg : ∀ (u : State) m, g { u with map := m } = g u) (l : List Replay) :
    g (l.foldl (fun s r => s.mirrorAcked r.packet) s) = g s :=
  foldl_unchanged g (fun u r => by rw [u.mirrorAcked_rest r.packet, hg]) l s

theorem State.unblockAll_none {s : State} (h : s.fab.blocked = []) : s.unblockAll = s := by
  rw [State.unblockAll, h]
  rfl

/-- What a DELIVERED covers of a kept packet. -/
def coveredBy (es : List (FlowId × BitVec 16)) (r : Replay) : Bool := es.any fun e => e.1 == r.flow && covers e.2.toNat r.seq

/-- A kept packet after a DELIVERED of `src`. -/
def Replay.marked (r : Replay) (src : DevNo) (es : List (FlowId × BitVec 16)) : Replay :=
  if coveredBy es r then { r with uncovered := r.uncovered.filter (· != src) } else r

/-- The kept packets that a DELIVERED leaves. -/
def State.keptAfter (s : State) (src : DevNo) (es : List (FlowId × BitVec 16)) : List Replay :=
  (s.fab.replay.map fun r => r.marked src es).filter fun r => !r.uncovered.isEmpty

theorem State.takeDelivered_effect (h : s.fab.blocked = []) : (s.takeDelivered src es).out = s.out ∧
    (s.takeDelivered src es).mem = s.mem ∧ (s.takeDelivered src es).regs = s.regs ∧
    (s.takeDelivered src es).fab.replay = s.keptAfter src es := by
  obtain ⟨q, gone, hq⟩ : ∃ q gone, s.takeDelivered src es =
      ((gone : List Replay).foldl (fun s r => s.mirrorAcked r.packet)
        (s.onFab fun x => { x with replay := s.keptAfter src es, requests := x.requests.filter q })).unblockAll := ⟨_, _, rfl⟩
  have hblocked : (gone.foldl (fun s r => s.mirrorAcked r.packet)
      (s.onFab fun x => { x with replay := s.keptAfter src es, requests := x.requests.filter q })).fab.blocked = [] :=
    (foldl_mirrorAcked _ (fun u : State => u.fab.blocked) (fun _ _ => rfl) gone).trans h
  rw [hq, State.unblockAll_none hblocked]
  exact ⟨foldl_mirrorAcked _ (fun u : State => u.out) (fun _ _ => rfl) gone,
    foldl_mirrorAcked _ (fun u : State => u.mem) (fun _ _ => rfl) gone,
    foldl_mirrorAcked _ (fun u : State => u.regs) (fun _ _ => rfl) gone,
    foldl_mirrorAcked _ (fun u : State => u.fab.replay) (fun _ _ => rfl) gone⟩

theorem mem_keptAfter {r : Replay} (h : r ∈ s.keptAfter src es) :
    r.uncovered ≠ [] ∧ (coveredBy es r = true → src ∉ r.uncovered) := by
  obtain ⟨hmem, hne⟩ := List.mem_filter.1 h
  obtain ⟨r', -, rfl⟩ := List.mem_map.1 hmem
  refine ⟨by simpa using hne, fun hcov => ?_⟩
  by_cases hc : coveredBy es r' = true
  · simp [Replay.marked, hc]
  · simp only [Replay.marked, if_neg hc] at hcov
    exact absurd hcov hc

theorem mem_keptAfter_of_not_covered {r : Replay} (hr : r ∈ s.fab.replay) (hne : r.uncovered ≠ []) (hcov : coveredBy es r = false) :
    r ∈ s.keptAfter src es := by
  refine List.mem_filter.2 ⟨List.mem_map.2 ⟨r, hr, ?_⟩, by simpa using hne⟩
  rw [Replay.marked, hcov]
  rfl

/-- With nothing to report, no DELIVERED is sent. -/
theorem State.sendDelivered_none (h : ∀ f ∈ s.fab.rx, f.flow.src = src → f.unreported = 0) : s.sendDelivered src = s := by
  have hfs : (s.fab.rx.filter fun f => f.flow.src == src && f.unreported != 0) = [] := by
    rw [List.filter_eq_nil_iff]
    intro f hf
    by_cases hsrc : f.flow.src = src
    · simp [hsrc, h f hf hsrc]
    · simp [hsrc]
  have hrx : updWhere (fun f : RxFlow => f.flow.src == src) (fun f => { f with unreported := 0 }) s.fab.rx = s.fab.rx := by
    refine (List.map_congr_left fun f hf => ?_).trans (List.map_id _)
    split
    · next hsrc =>
      rw [← h f hf (beq_iff_eq.1 hsrc)]
      rfl
    · rfl
  unfold State.sendDelivered
  simp only [hfs, List.map_nil, State.onFab, hrx]
  rfl

theorem State.sendDelivered_one {f : RxFlow} (hrx : s.fab.rx = [f]) (hsrc : f.flow.src = src) (hun : f.unreported ≠ 0) :
    s.sendDelivered src = (s.onFab fun x => { x with rx := [{ f with unreported := 0 }] }).sendLoose
      { Packet.make .delivered 0 s.device src.toNat 0 with entries := [(f.flow, BitVec.ofNat 16 ((f.expected + 65535) % 65536))] } := by
  have hfs : (s.fab.rx.filter fun f => f.flow.src == src && f.unreported != 0) = [f] := by simp [hrx, hsrc, hun]
  have hupd : updWhere (fun f : RxFlow => f.flow.src == src) (fun f => { f with unreported := 0 }) s.fab.rx =
      [{ f with unreported := 0 }] := by simp [updWhere, hrx, hsrc]
  unfold State.sendDelivered
  simp only [hfs, State.onFab, hupd]
  rfl

end Delivered

/-! ### Kept packets (R455, R457) -/

section Kept
variable {s : State} {f : FlowId} {q : Nat}

theorem State.resend_none (h : s.kept f q = none) : s.resend f q = s := by
  unfold State.resend
  rw [h]

theorem State.postedLost_none (h : s.kept f q = none) : s.postedLost f q = s := by
  unfold State.postedLost
  rw [h]

/-- The kept packets of the flow without the one of this number. -/
def State.forget (s : State) (f : FlowId) (q : Nat) : State :=
  s.onFab fun x => { x with replay := x.replay.filter fun k => !(k.flow == f && k.seq == q) }

theorem State.kept_forget : (s.forget f q).kept f q = none := by
  rw [State.kept, List.find?_eq_none]
  intro r hr
  simpa [imp_iff_not_or] using (List.mem_filter.1 hr).2

theorem State.kept_of_replay {u : State} (h : u.fab.replay = s.fab.replay) : u.kept f q = s.kept f q := by
  rw [State.kept, h, State.kept]

variable {r : Replay} (h : s.kept f q = some r)
include h

theorem State.resend_unicast (hm : f.mcast = false) : ∃ u : State,
    s.resend f q = u.out1 { r.packet with resent := true } r.lastPort ∧ u.mem = s.mem ∧ u.out = s.out := by
  unfold State.resend
  rw [h]
  simp only [hm, Bool.false_eq_true, if_false]
  exact ⟨_, rfl, rfl, rfl⟩

theorem State.postedLost_answered (ha : r.packet.answered = true) : s.postedLost f q = s := by
  unfold State.postedLost
  rw [h]
  exact if_pos ha

theorem State.postedLost_posted (ha : r.packet.answered = false) (hb : s.fab.blocked = []) :
    s.postedLost f q = (s.forget f q).noteLost r.packet := by
  have hblocked : ((s.forget f q).noteLost r.packet).fab.blocked = [] := by
    unfold State.noteLost
    exact (congrArg FabS.blocked (State.fab_flag ..)).trans hb
  unfold State.postedLost
  rw [h]
  exact (if_neg (by rw [ha]; decide)).trans (State.unblockAll_none hblocked)

end Kept

section NoteLost
variable (s : State) (p : Packet)

/-- A posted packet that is lost shows in SWC_STATUS. -/
theorem State.noteLost_effect : (s.noteLost p).getF F.swcStatus_postedLost = 1 ∧ (s.noteLost p).fab.replay = s.fab.replay ∧
    (s.noteLost p).out = s.out ∧ (s.noteLost p).mem = s.mem := by
  have hfab := s.fab_flag F.swcStatus_postedLost { arg := BitVec.ofNat 64 p.target.toNat, addr := p.addr, tenant := p.tenant.toNat } 0
  have hkept := congrArg FabS.replay hfab
  unfold State.noteLost
  refine ⟨?_, by exact hkept, State.out_flag .., State.mem_of_inner (State.flag_inner ..)⟩
  exact (State.getF_of_regs (s.flag F.swcStatus_postedLost
    { arg := BitVec.ofNat 64 p.target.toNat, addr := p.addr, tenant := p.tenant.toNat }) rfl rfl _ _).trans
    (State.getF_flag_same _ _ _ _ (by decide) (by decide) rfl)

end NoteLost

/-! ### Dead targets (R460 to R463) -/

section Unreachable
variable (s : State) (d : DevNo)

theorem swcUnreach_not_record (i : Nat) : F.swcUnreach_map.off i ∉ recordRegs := by
  refine not_mem_recordRegs_of_ge ?_
  simp only [Fld.off, F.swcUnreach_map]
  omega

theorem swcUnreach_ne_status (i : Nat) {f : Fld} (hbase : f.base = 0x120008) (hstride : f.stride = 8) :
    F.swcUnreach_map.off i ≠ f.off 0 := by
  simp only [Fld.off, F.swcUnreach_map, hbase, hstride]
  omega

/-- The map's word of a device after a write of it. -/
theorem State.unreachable_setF_same (m : Nat) : (s.setF F.swcUnreach_map (d.toNat / 64) m).unreachable d =
    m.testBit (d.toNat % 64) := by
  rw [State.unreachable, State.getF_setF_same _ _ _ _ (by decide), show F.swcUnreach_map.width = 64 from rfl, Nat.testBit_mod_two_pow]
  simp [Nat.mod_lt]

theorem State.unreachable_flag {f : Fld} (n : Note) (hbase : f.base = 0x120008) (hstride : f.stride = 8) :
    (s.flag f n).unreachable d = s.unreachable d := by
  rw [State.unreachable, State.getF_flag_other _ _ (swcUnreach_not_record _) (swcUnreach_ne_status _ hbase hstride), State.unreachable]

/-- A target that is dead. -/
theorem State.noteDead_effect (addr : Word) (t : Tenant) : (s.noteDead d addr t).unreachable d = true ∧
    (s.noteDead d addr t).getF F.swcStatus_reqDead = 1 ∧ (s.noteDead d addr t).getF F.swcStatus_unreachable = 1 ∧
    (s.noteDead d addr t).fab = s.fab ∧ (s.noteDead d addr t).mem = s.mem ∧ (s.noteDead d addr t).out = s.out := by
  unfold State.noteDead
  refine ⟨?_, ?_, State.getF_flag_same _ _ _ _ (by decide) (by decide) rfl, (State.fab_flag ..).trans (State.fab_flag ..),
    (State.mem_of_inner (State.flag_inner ..)).trans (State.mem_of_inner (State.flag_inner ..)),
    (State.out_flag ..).trans (State.out_flag ..)⟩
  · rw [State.unreachable_flag _ _ _ rfl rfl, State.unreachable_setF_same, Nat.testBit_or, Nat.testBit_two_pow_self, Bool.or_true]
  · rw [State.getF_flag_disjoint _ _ (by decide) (by decide) (by decide),
      State.getF_setF_off _ _ (swcUnreach_ne_status _ rfl rfl).symm, State.getF_flag_same _ _ _ _ (by decide) (by decide) rfl]

/-- The mask that clears one bit of a word. -/
theorem testBit_clear {j k : Nat} (hj : j < 64) (hk : k < 64) (m : Nat) :
    (m &&& (2 ^ 64 - 1 - 2 ^ k)).testBit j = (m.testBit j && decide (j ≠ k)) := by
  have hlt : 2 ^ k < 2 ^ 64 := Nat.pow_lt_pow_right (by decide) hk
  rw [Nat.testBit_and, Nat.sub_sub, Nat.add_comm 1, Nat.testBit_two_pow_sub_succ hlt, Nat.testBit_two_pow, decide_eq_true hj]
  simp [eq_comm]

/-- The word of the map that a probe's reply writes. -/
def State.reachableWord (s : State) (d : DevNo) : Nat := s.getF F.swcUnreach_map (d.toNat / 64) &&& (2 ^ 64 - 1 - 2 ^ (d.toNat % 64))

theorem State.unreachable_takeProbeReply (e : DevNo) : (s.takeProbeReply d).unreachable e =
    (s.setF F.swcUnreach_map (d.toNat / 64) (s.reachableWord d)).unreachable e :=
  congrArg (fun m : Nat => m.testBit (e.toNat % 64)) (State.getF_of_regs (s.setF F.swcUnreach_map (d.toNat / 64) (s.reachableWord d))
    rfl rfl F.swcUnreach_map (e.toNat / 64))

theorem State.takeProbeReply_effect : (s.takeProbeReply d).unreachable d = false ∧
    (∀ e : DevNo, e ≠ d → (s.takeProbeReply d).unreachable e = s.unreachable e) := by
  have hk : d.toNat % 64 < 64 := Nat.mod_lt _ (by decide)
  refine ⟨?_, fun e he => ?_⟩
  · rw [State.unreachable_takeProbeReply, State.unreachable_setF_same, State.reachableWord, testBit_clear hk hk]
    simp
  · rw [State.unreachable_takeProbeReply]
    by_cases hi : e.toNat / 64 = d.toNat / 64
    · have hj : e.toNat % 64 ≠ d.toNat % 64 := by
        intro hj
        refine he (BitVec.eq_of_toNat_eq ?_)
        omega
      have hsame := s.unreachable_setF_same e (s.reachableWord d)
      rw [hi] at hsame
      rw [hsame, State.reachableWord, testBit_clear (Nat.mod_lt _ (by decide)) hk, decide_eq_true hj, Bool.and_true, State.unreachable, hi]
    · have hoff : F.swcUnreach_map.off (e.toNat / 64) ≠ F.swcUnreach_map.off (d.toNat / 64) := by
        simp only [Fld.off, F.swcUnreach_map]
        omega
      rw [State.unreachable, State.getF_setF_off _ _ hoff, State.unreachable]

end Unreachable

/-! ### The obligation (O44) -/

section DeadTimeout
variable {s : State} {tag : BitVec 16}

theorem State.deadTimeout_none (h : ∀ r ∈ s.fab.requests, r.tag ≠ tag) : s.deadTimeout tag = s := by
  have hnone : (s.fab.requests.find? fun r => r.tag == tag) = none := by
    rw [List.find?_eq_none]
    intro r hr
    simp [h r hr]
  unfold State.deadTimeout
  rw [hnone]

/-- A request that waits for one dead device, and that nothing waits for. -/
theorem State.deadTimeout_only {r : Request} {d : DevNo} (hreq : s.fab.requests = [r]) (htag : r.tag = tag) (hwait : r.waiting = [d])
    (hiss : r.issuer = .other) (hb : s.fab.blocked = []) :
    s.deadTimeout tag = (s.onFab fun x => { x with
      requests := [], replay := x.replay.filter fun k => !(k.flow == r.flow && k.seq == r.seq) }).noteDead d r.addr r.packet.tenant := by
  have hfind : (s.fab.requests.find? fun r => r.tag == tag) = some r := by simp [hreq, htag]
  have hleft : (s.fab.requests.filter fun q => q.tag != tag) = [] := by simp [hreq, htag]
  have hblocked : ((s.onFab fun x => { x with
      requests := [], replay := x.replay.filter fun k => !(k.flow == r.flow && k.seq == r.seq) }).noteDead d r.addr
        r.packet.tenant).fab.blocked = [] := by
    rw [(State.noteDead_effect _ d r.addr r.packet.tenant).2.2.2.1]
    exact hb
  have hends : ∀ (u : State) code detail data, u.requestEnds r code detail data = u := by
    intro u code detail data
    unfold State.requestEnds
    rw [hiss]
  unfold State.deadTimeout
  rw [hfind]
  dsimp only
  have hfab : (s.onFab fun x => { x with
      requests := x.requests.filter fun q => q.tag != tag
      replay := x.replay.filter fun k => !(k.flow == r.flow && k.seq == r.seq) }) = s.onFab fun x => { x with
      requests := [], replay := x.replay.filter fun k => !(k.flow == r.flow && k.seq == r.seq) } := by
    simp only [State.onFab, hleft]
  rw [hends, hfab, hwait, List.headD_cons, List.tail_cons, List.foldl_nil]
  exact State.unblockAll_none hblocked

end DeadTimeout

section Probes
variable (s : State) (d : DevNo)

theorem State.sendProbe_reachable {s : State} {d : DevNo} (h : s.unreachable d = false) : s.sendProbe d = s :=
  if_pos (by rw [h]; rfl)

/-- A probe of an unreachable target waits for its answer. -/
theorem State.sendProbe_unreachable {s : State} {d : DevNo} (h : s.unreachable d = true) : ∃ (u : State) (x : Packet),
    s.sendProbe d = u.sendLoose x ∧ x.kind = .probe ∧ x.target = d ∧ x.tag = s.fab.nextTag ∧
      u.fab.requests.length = s.fab.requests.length + 1 ∧ u.mem = s.mem ∧ u.out = s.out := by
  unfold State.sendProbe
  rw [if_neg (by rw [h]; decide)]
  refine ⟨_, _, rfl, rfl, ?_, rfl, ?_, rfl, rfl⟩
  · exact BitVec.eq_of_toNat_eq (by simp [Packet.target, Packet.make])
  · simp [State.onFab]

theorem State.takeProbe_one {p : Packet} {f : FlowId} {n : BitVec 16} (hent : p.entries = [(f, n)]) (hsrc : f.src = p.src) :
    s.takeProbe p = (s.setRx { s.rxFlow f with held := [], expected := n.toNat }).sendLoose
      { Packet.make .probeReply 0 s.device p.src.toNat 0 with tag := p.tag } := by
  simp only [State.takeProbe, hent, List.foldl_cons, List.foldl_nil, hsrc, if_true]
  rfl

end Probes

/-- The requests a WAKING restarts. -/
theorem mem_woken {tag : BitVec 16} {t : Word} {l : List Request} {r : Request}
    (h : r ∈ updWhere (fun r : Request => r.tag == tag && !r.woken) (fun r => { r with woken := true, since := t }) l) (ht : r.tag = tag) :
    r.woken = true := by
  obtain ⟨r', -, rfl⟩ := List.mem_map.1 h
  dsimp only at ht ⊢
  split
  · rfl
  · next hc =>
    rw [if_neg hc] at ht
    simpa [ht] using hc

theorem mem_updWhere_of_not {α : Type} {p : α → Bool} {f : α → α} {l : List α} {a : α} (ha : a ∈ l) (hp : p a = false) :
    a ∈ updWhere p f l := List.mem_map.2 ⟨a, ha, if_neg (by rw [hp]; decide)⟩

theorem exec_delivered (src : DevNo) (es : List (FlowId × BitVec 16)) (s : State) :
    exec (.delivered src es) s = .next (s.takeDelivered src es).finish := rfl

theorem exec_deliveredTimer (src : DevNo) (s : State) : exec (.deliveredTimer src) s = .next (s.sendDelivered src) := rfl

theorem exec_resendTimer (f : FlowId) (q : BitVec 16) (s : State) : exec (.resendTimer f q) s = .next (s.resend f q.toNat) := rfl

theorem exec_postedLostTimeout (f : FlowId) (q : BitVec 16) (s : State) :
    exec (.postedLostTimeout f q) s = .next (s.postedLost f q.toNat).finish := rfl

theorem exec_reply (p : Packet) (s : State) : exec (.reply p) s = .next (s.takeReply p).finish := rfl

theorem exec_fenceDone (p : Packet) (s : State) : exec (.fenceDone p) s = .next (s.takeFenceDone p).finish := rfl

theorem exec_deadTimeout (tag : BitVec 16) (s : State) : exec (.deadTimeout tag) s = .next (s.deadTimeout tag).finish := rfl

theorem exec_probeTimer (d : DevNo) (s : State) : exec (.probeTimer d) s = .next (s.sendProbe d) := rfl

theorem exec_probeReply (d : DevNo) (s : State) : exec (.probeReply d) s = .next (s.takeProbeReply d) := rfl

theorem exec_probe (p : Packet) (s : State) : exec (.probe p) s = .next (s.takeProbe p) := rfl

theorem exec_waking (d : DevNo) (tag : BitVec 16) (s : State) : exec (.waking d tag) s = .next (s.takeWaking tag) := rfl

/-- Settles O44: each packet and timer by the flow, request or kept packet it finds. -/
theorem flowsComplete : Obligations.FlowsComplete := by
  unfold Obligations.FlowsComplete
  refine ⟨fun p s e he => exec_received he, fun p s => ⟨fun hnone => ?_, fun r hreq htag hwait hans => ⟨fun hretry => ?_, ?_⟩⟩,
    fun src es s hb => ?_, fun src s hnone => ?_, fun src f s hrx hsrc hun => ?_,
    fun f q s => ⟨fun hnone => ?_, fun r hr => ⟨fun hm => ?_, fun ha => ?_, fun ha hb => ?_⟩⟩,
    fun tag s => ⟨fun hnone => ?_, fun r d hreq htag hwait hiss hb => ?_⟩,
    fun d s => ⟨fun hreach => ?_, fun hun => ?_, ?_⟩, fun p f n s hent hsrc => ?_, fun d tag s => ?_⟩
  · rw [exec_reply, exec_fenceDone, State.takeReply_eq, State.takeFenceDone_eq, State.answeredBy_none hnone]
    exact ⟨rfl, rfl⟩
  · rw [exec_reply, State.takeReply_eq, State.answeredBy_only hreq htag hwait]
    dsimp only
    rw [if_neg (by rw [hretry]; simp), State.takeAnswer_only hreq hwait hans]
  · rw [exec_fenceDone, State.takeFenceDone_eq, State.answeredBy_only hreq htag hwait]
    dsimp only
    rw [State.takeAnswer_only hreq hwait hans]
  · obtain ⟨hout, hmem, hregs, hkept⟩ := s.takeDelivered_effect src es hb
    rw [exec_delivered]
    refine ⟨_, rfl, hout, hmem, hregs, ?_, ?_⟩ <;> rw [hkept]
    · exact fun r hr => mem_keptAfter s src es hr
    · exact fun r hr hne hcov => mem_keptAfter_of_not_covered s src es hr hne hcov
  · rw [exec_deliveredTimer, s.sendDelivered_none src hnone]
  · rw [exec_deliveredTimer, s.sendDelivered_one src hrx hsrc hun]
  · rw [exec_resendTimer, exec_postedLostTimeout, State.resend_none hnone, State.postedLost_none hnone]
    exact ⟨rfl, rfl⟩
  · obtain ⟨u, hu, hmem, hout⟩ := State.resend_unicast hr hm
    exact ⟨u, by rw [exec_resendTimer, hu], hmem, hout⟩
  · rw [exec_postedLostTimeout, State.postedLost_answered hr ha]
  · obtain ⟨hflag, hkept, hout, hmem⟩ := (s.forget f q.toNat).noteLost_effect r.packet
    rw [exec_postedLostTimeout, State.postedLost_posted hr ha hb]
    exact ⟨_, rfl, hflag, (State.kept_of_replay hkept).trans State.kept_forget, hout, hmem⟩
  · rw [exec_deadTimeout, State.deadTimeout_none hnone]
  · rw [exec_deadTimeout, State.deadTimeout_only hreq htag hwait hiss hb]
    obtain ⟨hun, hdead, hshown, hfab, hmem, hout⟩ := State.noteDead_effect (s.onFab fun x => { x with
      requests := [], replay := x.replay.filter fun k => !(k.flow == r.flow && k.seq == r.seq) }) d r.addr r.packet.tenant
    refine ⟨_, rfl, congrArg FabS.requests hfab, ?_, hun, hdead, hshown, hmem, hout⟩
    exact (State.kept_of_replay (congrArg FabS.replay hfab)).trans (State.kept_forget (s := s))
  · rw [exec_probeTimer, State.sendProbe_reachable hreach]
  · obtain ⟨u, x, hu, hx⟩ := State.sendProbe_unreachable hun
    exact ⟨u, x, by rw [exec_probeTimer, hu], hx⟩
  · obtain ⟨hd, hother⟩ := s.takeProbeReply_effect d
    exact ⟨_, exec_probeReply d s, hd, hother, rfl, rfl⟩
  · rw [exec_probe, s.takeProbe_one hent hsrc]
    have hrx := s.rxFlow_setRx (r := { s.rxFlow f with held := [], expected := n.toNat }) (s.flow_rxFlow f)
    refine ⟨_, rfl, ?_, ?_, rfl, rfl⟩ <;> rw [hrx]
  · refine ⟨_, exec_waking d tag s, rfl, ?_, fun r hr ht => mem_woken hr ht, fun r hr ht hw => mem_updWhere_of_not hr (by simp [hw])⟩
    refine (List.map_map ..).trans (List.map_congr_left fun r _ => ?_)
    dsimp only [Function.comp]
    split <;> rfl

end Sys2Proof.Machine

end

section

namespace Sys2Proof.Machine

/-! ### Host accesses (R485, R488, R492, R493) -/

theorem hptBindErr_ne_status (b : Nat) : F.hptStatus_hostErr.off 0 ≠ F.hptBindErr_count.off b := by
  simp only [Fld.off, F.hptStatus_hostErr, F.hptBindErr_count]
  omega

section HostAccess
variable {s : State} {b dpa : Nat} {kind : AccKind} {ask : CopyAsk}

theorem State.hostTurned_effect (s : State) (b dpa : Nat) (isLoad : Bool) :
    (s.hostTurned b dpa isLoad).out = s.out ++ [.host b dpa true (if isLoad then [lineOnes] else [])] ∧
    (s.hostTurned b dpa isLoad).getF F.hptStatus_hostErr = 1 ∧ (s.hostTurned b dpa isLoad).mem = s.mem := by
  obtain ⟨u, n, hu, hout, hmem⟩ : ∃ (u : State) (n : Note), s.hostTurned b dpa isLoad =
      (u.flag F.hptStatus_hostErr n).emit (.host b dpa true (if isLoad then [lineOnes] else [])) ∧ u.out = s.out ∧ u.mem = s.mem :=
    ⟨_, _, rfl, rfl, rfl⟩
  rw [hu]
  refine ⟨?_, ?_, (State.mem_of_inner (State.flag_inner ..)).trans hmem⟩
  · exact congrArg (· ++ [_]) ((State.out_flag ..).trans hout)
  · exact (State.getF_of_regs _ rfl rfl _ _).trans (State.getF_flag_same u F.hptStatus_hostErr n 0 (by decide) (by decide) rfl)

theorem State.hostAccess_turned (h : s.bindActive b = false ∨ s.ideOk = false) :
    s.hostAccess b dpa kind ask = s.hostTurned b dpa (!kind.isStore) :=
  if_pos (by rcases h with h | h <;> simp [h])

variable (hactive : s.bindActive b = true) (hide : s.ideOk = true)
include hactive hide

theorem State.hostAccess_dc (h : 0x400000000 ≤ dpa) : s.hostAccess b dpa kind ask = s.dcAccess b dpa kind ask :=
  (if_neg (by simp [hactive, hide])).trans (if_neg (Nat.not_lt.2 h))

theorem State.hostAccess_window (h : dpa < 0x400000000) : s.hostAccess b dpa kind ask = s.windowAccess b dpa kind :=
  (if_neg (by simp [hactive, hide])).trans (if_pos h)

end HostAccess

section DcAccess
variable {s : State} {b dpa : Nat} {ask : CopyAsk} {data : Line} {m : Mask}

theorem State.dcAccess_absent_load (h : s.dcHolds b (dpa - dcBase) = false) :
    s.dcAccess b dpa (.load 1) ask = s.hostEnd b dpa .absent [lineOnes] := if_pos (by rw [h]; rfl)

theorem State.dcAccess_absent_store (h : s.dcHolds b (dpa - dcBase) = false) :
    s.dcAccess b dpa (.store [data] m) ask = s.hostEnd b dpa .absent [] := if_pos (by rw [h]; rfl)

variable (hdc : s.dcHolds b (dpa - dcBase) = true)
include hdc

theorem State.dcAccess_load_fails {code : Code} (h : s.lookup (s.bindTenant b) (dpa - dcBase) .load false = .fails code) :
    s.dcAccess b dpa (.load 1) ask = s.hostEnd b dpa code [lineOnes] := by
  unfold State.dcAccess
  refine (if_neg (by rw [hdc]; decide)).trans ?_
  rw [h]
  rfl

theorem State.dcAccess_store_fails {code : Code} (h : s.lookup (s.bindTenant b) (dpa - dcBase) .store false = .fails code) :
    s.dcAccess b dpa (.store [data] m) ask = s.hostEnd b dpa code [] := by
  unfold State.dcAccess
  refine (if_neg (by rw [hdc]; decide)).trans ?_
  rw [h]
  rfl

theorem State.dcAccess_store_here {sa : Word} {k : XKey} (h : s.lookup (s.bindTenant b) (dpa - dcBase) .store false = .stand sa k)
    (hserves : s.servesOwn sa = true) : ∃ u : State, u = s.onXlt (fun x => { x with hostCache := u.xlt.hostCache }) ∧
      s.dcAccess b dpa (.store [data] m) ask = u.homeAccess
        { who := .host b dpa ask, tenant := s.bindTenant b, off := saOffset sa, kind := .store [data] m,
          resv := u.kvResv (s.bindTenant b) (dpa - dcBase) } := by
  refine ⟨s.onXlt fun x => { x with hostCache := pushKey 32 k x.hostCache }, rfl, ?_⟩
  unfold State.dcAccess
  refine (if_neg (by rw [hdc]; decide)).trans ?_
  rw [h]
  exact if_pos hserves

end DcAccess

section HostCommands
variable (b : Nat) (dpa : BitVec 57) (ask : CopyAsk) (ue : Bool) (data : Line) (m : Mask) (sa : Word) (s : State)

/-- An uncorrectable error shows only on a line that the binding holds. -/
theorem exec_hostRead_sound (h : ¬ (ue = true ∧ dcBase ≤ dpa.toNat ∧ s.bindActive b = true ∧ s.ideOk = true ∧
    s.dcHolds b (dpa.toNat - dcBase) = true)) :
    exec (.hostRead b dpa ask ue) s = .next (s.hostAccess b dpa.toNat (.load 1) ask).finish :=
  congrArg (fun u : State => Host.Outcome.next (u.hostAccess b dpa.toNat (.load 1) ask).finish) (if_neg h)

theorem exec_hostWrite : exec (.hostWrite b dpa data m) s =
    .next (s.hostAccess b dpa.toNat (.store [data] m) .none).finish := rfl

theorem exec_hostWriteback : exec (.hostWriteback b sa data) s = .next (s.hostWriteback b sa data).finish := rfl

end HostCommands

section Writeback
variable {s : State} {b : Nat} {sa : Word} {data : Line}

theorem State.hostWriteback_turned (h : s.bindActive b = false ∨ s.ideOk = false) : s.hostWriteback b sa data = s :=
  if_pos (by rcases h with h | h <;> simp [h])

variable (hactive : s.bindActive b = true) (hide : s.ideOk = true) (hhome : s.homedHere sa = true)
include hactive hide hhome

theorem State.hostWriteback_denied (hown : (s.dirAt (saOffset sa / 64)).owned = false) :
    s.hostWriteback b sa data = s.bindError b .denied :=
  (if_neg (by simp [hactive, hide])).trans ((if_pos hhome).trans (if_neg (by simp [hown])))

theorem State.hostWriteback_owner (hown : (s.dirAt (saOffset sa / 64)).owned = true)
    (hholds : ((s.dirAt (saOffset sa / 64)).holders.any fun g => g.holder == ⟨s.device, b⟩) = true) :
    s.hostWriteback b sa data =
      (s.applyDirty (64 * (saOffset sa / 64)) data).removeHolder (saOffset sa / 64) ⟨s.device, b⟩ := by
  refine (if_neg (by simp [hactive, hide])).trans ((if_pos hhome).trans ((if_pos (by simp [hown, hholds])).trans ?_))
  refine (if_pos hholds).trans ?_
  simp only [hown, if_true]

end Writeback

/-! ### The directory: recalls (R502, R504) -/

section Directory
variable (s : State) (l : Nat) (h : Holder)

/-- A line's entry after a write of it. -/
theorem State.dirAt_setDir (e : DirEntry) : ((s.setDir l e).dirAt l).holders = e.holders ∧
    (e.holders ≠ [] → (s.setDir l e).dirAt l = e) := by
  have hdir : (s.setDir l e).hpt.dir = if e.holders.isEmpty && e.waiting.isEmpty then s.hpt.dir.del l else s.hpt.dir.put l e := by
    unfold State.setDir State.onHpt
    dsimp only
    split <;> rfl
  unfold State.dirAt
  rw [hdir]
  split
  · next hempty =>
    have hnil : e.holders = [] := by simpa using (Bool.and_eq_true_iff.1 hempty).1
    rw [Table.get_del_same]
    exact ⟨hnil.symm, fun hne => absurd hnil hne⟩
  · rw [Table.get_put_same]
    exact ⟨rfl, fun _ => rfl⟩

theorem State.setDir_rest (e : DirEntry) : s.setDir l e = { s with hpt := (s.setDir l e).hpt } := rfl

/-- A holder that gives a line up no longer holds it. -/
theorem State.not_mem_removeHolder : ∀ g ∈ ((s.removeHolder l h).dirAt l).holders, g.holder ≠ h := by
  have hkeep : ((s.removeHolder l h).dirAt l).holders = (s.dirAt l).holders.filter fun g => g.holder != h := by
    unfold State.removeHolder
    dsimp only
    split
    · exact (State.dirAt_setDir _ _ _).1
    · exact (State.dirAt_setDir s l _).1
  rw [hkeep]
  intro g hg
  simpa using (List.mem_filter.1 hg).2

theorem State.removeHolder_rest : s.removeHolder l h = { s with hpt := (s.removeHolder l h).hpt, tier := (s.removeHolder l h).tier } := by
  unfold State.removeHolder
  dsimp only
  split <;> rfl

theorem State.device_removeHolder : (s.removeHolder l h).device = s.device := by rw [State.removeHolder_rest]

theorem State.regs_removeHolder : (s.removeHolder l h).regs = s.regs := by rw [State.removeHolder_rest]

theorem State.code_removeHolder : (s.removeHolder l h).code = s.code := by rw [State.removeHolder_rest]

theorem State.mem_removeHolder : (s.removeHolder l h).mem = s.mem := by rw [State.removeHolder_rest]

theorem State.out_removeHolder : (s.removeHolder l h).out = s.out := by rw [State.removeHolder_rest]

end Directory

section Recall
variable {s : State} {l : Nat} {h : Holder}

theorem State.recallStart_idle (hno : ((s.dirAt l).holders.any fun g => g.holder == h && !g.recalling) = false ∨
    s.recallWanted l h = false) : s.recallStart l h = s := if_neg (by rcases hno with hno | hno <;> simp [hno])

/-- The line's entry, its holder asked. -/
def State.asked (s : State) (l : Nat) (h : Holder) : State :=
  s.setDir l { s.dirAt l with
    holders := updWhere (fun g => g.holder == h) (fun g => { g with recalling := true }) (s.dirAt l).holders }

theorem State.recallStart_sends (hholds : ((s.dirAt l).holders.any fun g => g.holder == h && !g.recalling) = true)
    (hwant : s.recallWanted l h = true) : s.recallStart l h = (s.asked l h).sendRecall h (saStore s.device (64 * l)) :=
  if_pos (by simp [hholds, hwant])

theorem State.sendRecall_here (sa : Word) (hdev : h.dev = s.device) : s.sendRecall h sa =
    ((s.addF F.hptRecallCount_count 0 1).onHpt fun p => { p with snoops := p.snoops ++ [(s.device, h.binding, sa)] }).emit
      (.biSnpInv h.binding sa none) := if_pos hdev

theorem State.dirAt_asked (hholds : ((s.dirAt l).holders.any fun g => g.holder == h && !g.recalling) = true) :
    (s.asked l h).dirAt l = { s.dirAt l with
      holders := updWhere (fun g => g.holder == h) (fun g => { g with recalling := true }) (s.dirAt l).holders } := by
  refine (State.dirAt_setDir s l _).2 ?_
  intro hnil
  have hnone : (s.dirAt l).holders = [] := List.map_eq_nil_iff.1 hnil
  simp [hnone] at hholds

theorem mem_asked {hs : List Holding} {g : Holding}
    (hg : g ∈ updWhere (fun g : Holding => g.holder == h) (fun g => { g with recalling := true }) hs) (hh : g.holder = h) :
    g.recalling = true := by
  obtain ⟨g', -, rfl⟩ := List.mem_map.1 hg
  dsimp only at hh ⊢
  split
  · rfl
  · next hc =>
    rw [if_neg hc] at hh
    exact absurd (by simpa using hh) hc

theorem exec_recallStart (s : State) (l : Nat) (h : Holder) : exec (.recallStart l h) s = .next (s.recallStart l h) := rfl

theorem exec_recallTimeout (s : State) (l : Nat) (h : Holder) : exec (.recallTimeout l h) s = .next (s.recallTimeout l h).finish := rfl

theorem State.recallTimeout_idle (hno : ((s.dirAt l).holders.any fun g => g.holder == h && g.recalling) = false) :
    s.recallTimeout l h = s := if_neg (by rw [hno]; decide)

theorem State.recallTimeout_other (hholds : ((s.dirAt l).holders.any fun g => g.holder == h && g.recalling) = true)
    (hdev : h.dev ≠ s.device) : s.recallTimeout l h = ((s.flag F.hptStatus_recallTimeout
      { index := h.binding, arg := BitVec.ofNat 64 h.dev.toNat, addr := saStore s.device (64 * l) }).removeHolder l h).sendMsg h.dev 0 0
      (.fenced h) := by
  have hdev' : h.dev ≠ ((s.flag F.hptStatus_recallTimeout
      { index := h.binding, arg := BitVec.ofNat 64 h.dev.toNat, addr := saStore s.device (64 * l) }).removeHolder l h).device := by
    rw [State.device_removeHolder, State.device_of_inner (State.flag_inner ..)]
    exact hdev
  exact (if_pos hholds).trans (if_neg hdev')

end Recall

/-! ### Recalls at the device whose host holds the line -/

section Snoops
variable {s : State} {b : Nat} {sa : Word} {dirty : Option Line} {h : Holder}

theorem exec_recall (home : DevNo) (range : Option Nat) (b : Nat) (sa : Word) (s : State) :
    exec (.recall home b sa range) s = .next (s.takeRecall home b sa range).finish := rfl

theorem exec_birspi (b : Nat) (sa : Word) (dirty : Option Line) (s : State) :
    exec (.birspi b sa dirty) s = .next (s.takeBirspi b sa dirty).finish := rfl

theorem exec_recallAck (h : Holder) (sa : Word) (dirty : Option Line) (s : State) :
    exec (.recallAck h sa dirty) s = .next (s.takeRecallAck h sa dirty).finish := rfl

theorem State.takeBirspi_none (hnone : ∀ x ∈ s.hpt.snoops, x.2.1 ≠ b ∨ x.2.2 ≠ sa) : s.takeBirspi b sa dirty = s := by
  have hfind : (s.hpt.snoops.find? fun x => x.2.1 == b && x.2.2 == sa) = none := by
    rw [List.find?_eq_none]
    intro x hx
    simpa [imp_iff_not_or] using hnone x hx
  unfold State.takeBirspi
  rw [hfind]

theorem State.takeBirspi_other {d : DevNo} (hsn : s.hpt.snoops = [(d, b, sa)]) (hd : d ≠ s.device) : s.takeBirspi b sa dirty =
    (s.onHpt fun p => { p with snoops := [] }).sendMsg d 0 0 (.recallAck ⟨s.device, b⟩ sa dirty) := by
  have hfind : (s.hpt.snoops.find? fun x => x.2.1 == b && x.2.2 == sa) = some (d, b, sa) := by simp [hsn]
  have herase : (s.onHpt fun p => { p with snoops := p.snoops.erase (d, b, sa) }) = s.onHpt fun p => { p with snoops := [] } := by
    simp [State.onHpt, hsn]
  unfold State.takeBirspi
  rw [hfind]
  dsimp only
  rw [herase]
  exact if_neg hd

theorem State.takeRecallAck_home (hhome : s.homedHere sa = true) : s.takeRecallAck h sa dirty = s.holderGone h sa dirty := if_pos hhome

theorem State.holderGone_none (hno : ((s.dirAt (saOffset sa / 64)).holders.any fun g => g.holder == h) = false) :
    s.holderGone h sa dirty = s := if_neg (by rw [hno]; decide)

theorem State.holderGone_clean (hholds : ((s.dirAt (saOffset sa / 64)).holders.any fun g => g.holder == h) = true) :
    s.holderGone h sa none = s.removeHolder (saOffset sa / 64) h := if_pos hholds

end Snoops

/-! ### Fences of a binding (R504) -/

section Fenced
variable {s : State} {h : Holder}

theorem exec_fenced (h : Holder) (s : State) : exec (.fenced h) s = .next (if h.dev = s.device then
    (if s.bindActive h.binding then s.fenceBinding h.binding else s) else s.dropHolder h).finish := rfl

/-- A binding that is fenced: no device but this one, and no line held. -/
def State.fencedAlone (s : State) (b : Nat) : State :=
  ((s.setF F.hptBind_state b 2).flag F.hptStatus_fenced { index := b }).onHpt fun p =>
    { p with snoops := p.snoops.filter fun x => x.2.1 != b }

theorem State.fencedAlone_rest (s : State) (b : Nat) : (s.fencedAlone b).device = s.device ∧ (s.fencedAlone b).weave = s.weave ∧
    (s.fencedAlone b).mem = s.mem := by
  have hinner := State.flag_inner (s.setF F.hptBind_state b 2) F.hptStatus_fenced { index := b } 0
  have hdev := State.device_of_inner hinner
  have hweave := State.weave_of_inner hinner
  have hmem := State.mem_of_inner hinner
  exact ⟨hdev, hweave, hmem⟩

theorem State.hpt_flag (s : State) (f : Fld) (n : Note) (i : Nat) : (s.flag f n i).hpt = s.hpt := State.hpt_of_inner (State.flag_inner ..)

theorem State.otherDevices_of {u : State} (hdev : u.device = s.device) (hw : u.weave = s.weave) : u.otherDevices = s.otherDevices := by
  simp only [State.otherDevices, State.inStand, hdev, hw]

theorem State.fenceBinding_alone {b : Nat} (hstate : s.getF F.hptBind_state b ≠ 2) (hothers : s.otherDevices = []) (hdir : s.hpt.dir = []) :
    s.fenceBinding b = s.fencedAlone b := by
  obtain ⟨hdev, hweave, -⟩ := s.fencedAlone_rest b
  have hothers' : (s.fencedAlone b).otherDevices = [] := (State.otherDevices_of hdev hweave).trans hothers
  have hdir' : (s.fencedAlone b).hpt.dir = [] := by
    rw [State.fencedAlone, State.onHpt, State.hpt_flag]
    exact hdir
  have hdrop : (s.fencedAlone b).dropHolder ⟨s.device, b⟩ = s.fencedAlone b := by
    rw [State.dropHolder, hdir']
    rfl
  unfold State.fenceBinding
  refine (if_neg hstate).trans ?_
  show (List.foldl _ (s.fencedAlone b) (s.fencedAlone b).otherDevices).dropHolder _ = _
  rw [hothers', List.foldl_nil, hdrop]

theorem State.fencedAlone_effect {b : Nat} (hb : b < 32) : (s.fencedAlone b).getF F.hptBind_state b = 2 ∧
    (s.fencedAlone b).getF F.hptStatus_fenced = 1 ∧ (∀ x ∈ (s.fencedAlone b).hpt.snoops, x.2.1 ≠ b) ∧ (s.fencedAlone b).mem = s.mem := by
  have hoff : F.hptBind_state.off b ≠ F.hptStatus_fenced.off 0 := by
    simp only [Fld.off, F.hptBind_state, F.hptStatus_fenced]
    omega
  have hrec : F.hptBind_state.off b ∉ recordRegs := by
    refine not_mem_recordRegs_of_ge ?_
    simp only [Fld.off, F.hptBind_state]
    omega
  refine ⟨?_, ?_, fun x hx => ?_, (s.fencedAlone_rest b).2.2⟩
  · refine (State.getF_of_regs ((s.setF F.hptBind_state b 2).flag F.hptStatus_fenced { index := b }) rfl rfl _ _).trans ?_
    rw [State.getF_flag_other _ _ hrec hoff, State.getF_setF_same _ _ _ _ (by decide)]
    rfl
  · exact (State.getF_of_regs ((s.setF F.hptBind_state b 2).flag F.hptStatus_fenced { index := b }) rfl rfl _ _).trans
      (State.getF_flag_same _ _ _ _ (by decide) (by decide) rfl)
  · simpa using (List.mem_filter.1 hx).2

end Fenced

/-! ### Home-operation lines (R497) -/

section HomeOps
variable (s : State) (b l : Nat)

@[simp] theorem State.homeOpLine_setHomeOpLine_same (v : HomeOpLine) : (s.setHomeOpLine b l v).homeOpLine b l = v := Table.get_put_same _ _ _ _

theorem State.homeOpLine_of_hpt {u : State} (h : u.hpt.homeOps = s.hpt.homeOps) : u.homeOpLine b l = s.homeOpLine b l := by
  rw [State.homeOpLine, h, State.homeOpLine]

/-- A request that its line takes. -/
def State.homeopTaken (s : State) (b l : Nat) (req : Line) : State :=
  s.setHomeOpLine b l { s.homeOpLine b l with request := req, busy := true, discards := 0, seq := (s.homeOpLine b l).seq + 1 }

variable {b l} {req : Line}

theorem State.homeopWrite_turned {s : State} (h : s.bindActive b = false ∨ s.ideOk = false) : s.homeopWrite b l req true = s :=
  if_pos (by rcases h with h | h <;> simp [h])

section Active
variable {s : State} (hactive : s.bindActive b = true) (hide : s.ideOk = true)
include hactive hide

theorem State.homeopWrite_busy (hbusy : (s.homeOpLine b l).busy = true) : s.homeopWrite b l req true =
    (s.setHomeOpLine b l { s.homeOpLine b l with discards := min ((s.homeOpLine b l).discards + 1) 255 }).flag F.hptStatus_discard
      { index := b } :=
  (if_neg (by simp [hactive, hide])).trans (if_pos (by simp [hbusy]))

theorem State.homeopWrite_idle (hbusy : (s.homeOpLine b l).busy = false) :
    s.homeopWrite b l req true = (s.homeopTaken b l req).homeopRun b l req :=
  (if_neg (by simp [hactive, hide])).trans (if_neg (by simp [hbusy]))

end Active

section Run
variable {v : State}

theorem State.homeopRun_crust (h : v.mode = .crust) : v.homeopRun b l req = v.homeopEnd b l .crust 0 none := if_pos h

variable (hmode : v.mode ≠ .crust)
include hmode

theorem State.homeopRun_malformed {off : Nat} (h : homeopCheck req = some off) : v.homeopRun b l req = v.homeopEnd b l .malformed off none := by
  unfold State.homeopRun
  refine (if_neg hmode).trans ?_
  rw [h]

variable (hcheck : homeopCheck req = none)
include hcheck

theorem State.homeopRun_fails {code : Code}
    (h : v.lookup (v.bindTenant b) (dfield req 8 0 56) (if lineOpc req = 1 then .atom else .load) false = .fails code) :
    v.homeopRun b l req = v.homeopEnd b l code 0 none := by
  unfold State.homeopRun
  refine (if_neg hmode).trans ?_
  rw [hcheck]
  by_cases hop : lineOpc req = 1
  · rw [if_pos hop] at h
    simp only [hop, if_true, h]
  · rw [if_neg hop] at h
    simp only [hop, if_false, h]

theorem State.homeopRun_atom {sa : Word} {k : XKey} (hop : lineOpc req = 1)
    (h : v.lookup (v.bindTenant b) (dfield req 8 0 56) .atom false = .stand sa k) (hserves : v.servesOwn sa = true) :
    v.homeopRun b l req = v.homeAccess
      { who := .homeop b l, tenant := v.bindTenant b, off := saOffset sa,
        kind := .atom (dfield req 0 8 2) (BitVec.ofNat 64 (dfield req 0x10 0 64)) (BitVec.ofNat 64 (dfield req 0x18 0 64)),
        resv := v.kvResv (v.bindTenant b) (dfield req 8 0 56) } := by
  unfold State.homeopRun
  refine (if_neg hmode).trans ?_
  rw [hcheck]
  refine (if_pos hop).trans ?_
  rw [h]
  exact if_pos hserves

theorem State.homeopRun_view {sa : Word} {k : XKey} (hop : lineOpc req = 2 ∨ lineOpc req = 3)
    (h : v.lookup (v.bindTenant b) (dfield req 8 0 56) .load false = .stand sa k) (hdev : BitVec.ofNat 9 (saDevice sa) = v.device) :
    v.homeopRun b l req = v.runHomeop
      { src := v.device, tenant := v.bindTenant b, binding := b, line := l, sa := sa, staging := 0, req := req,
        stagingCode := .done } := by
  have h1 : lineOpc req ≠ 1 := by omega
  have h4 : lineOpc req ≠ 4 := by omega
  have h4' : (lineOpc req == 4) = false := beq_eq_false_iff_ne.2 h4
  unfold State.homeopRun
  refine (if_neg hmode).trans ?_
  rw [hcheck]
  refine (if_neg h1).trans ?_
  rw [h]
  simp only [if_neg h4, h4', Bool.false_and, Bool.false_eq_true, if_false]
  exact if_pos hdev

end Run

end HomeOps

/-! ### Replies and requests at the home of a commons (R513 to R517) -/

section HomeReply
variable {s : State} {b l : Nat} {code : Code}

theorem exec_homeopReply (b l : Nat) (code : Code) (detail : BitVec 8) (r : Option Word) (s : State) :
    exec (.homeopReply b l code detail r) s = .next (if (s.homeOpLine b l).busy then
      ((s.onFab fun x => { x with requests := x.requests.filter fun r => r.issuer != .homeop b l }).homeopEnd b l code
        detail.toNat r).finish
    else s) := rfl

/-- A home-operation line that ends with a result. -/
theorem State.homeopEnd_result (detail : Nat) (w : Word) : s.homeopEnd b l code detail (some w) =
    s.setHomeOpLine b l { s.homeOpLine b l with
      status := s.statusWord (s.bindTenant b) code detail, result := w, busy := false } := rfl

theorem State.statusWord_onFab (g : FabS → FabS) (t : Tenant) (detail : Nat) :
    (s.onFab g).statusWord t code detail = s.statusWord t code detail := rfl

end HomeReply

section Commons
variable {s : State} {q : HomeReq}

/-- The commons whose blocks an address lies in. -/
def State.commonsFor (s : State) (sa : Word) : Option (Nat × Commons) := s.hpt.commons.find? fun e =>
  decide (e.2.firstBlock ≤ saOffset sa / blockBytes) && decide (saOffset sa / blockBytes < e.2.firstBlock + e.2.blocks)

theorem State.runHomeop_eq (s : State) (q : HomeReq) : s.runHomeop q = match s.commonsFor q.sa with
    | none => s.sendHomeReply (q.reply .absent 1 none)
    | some (n, c) =>
      if q.tenant ≠ 0 ∧ c.right q.tenant = .none then s.sendHomeReply (q.reply .denied 1 none)
      else if lineOpc q.req = 4 then s.runPublish n c q
      else if lineOpc q.req = 3 then s.setView n c q none
      else
        let want := dfield q.req 0x10 0 64
        let v := if want = 0 then c.latest else want
        if !c.live v then
          (s.addF F.hptStaleCount_count 0 1).sendHomeReply (q.reply .stale 0 (some (BitVec.ofNat 64 c.latest)))
        else if !(c.views.any q.isView) && decide (4096 ≤ s.viewCount) then s.sendHomeReply (q.reply .quota 3 none)
        else s.setView n c q (some v) := rfl

variable {n : Nat} {c : Commons} (hc : s.hpt.commons = [(n, c)])
include hc

theorem State.commonsFor_only {sa : Word} (hlo : c.firstBlock ≤ saOffset sa / blockBytes)
    (hhi : saOffset sa / blockBytes < c.firstBlock + c.blocks) : s.commonsFor sa = some (n, c) := by
  simp [State.commonsFor, hc, hlo, hhi]

theorem State.viewCount_only (hviews : c.views = []) : s.viewCount = 0 := by
  simp [State.viewCount, hc, hviews]

end Commons

/-! ### The obligation (O45) -/

section HomeopLines
variable {b l : Nat} {req : Line} {s : State}

theorem exec_homeopLine {i : Instr} (hi : i ∈ [Instr.homeopAtom b l req, .openView b l req, .closeView b l req, .publish b l req]) :
    exec i s = .next (s.homeopWrite b l req true).finish := by
  simp only [List.mem_cons, List.not_mem_nil, or_false] at hi
  rcases hi with rfl | rfl | rfl | rfl <;> rfl

/-- Taking a request touches the host port alone. -/
theorem State.lookup_homeopTaken (t : Tenant) (a : Nat) (w : Wants) (m : Bool) :
    (s.homeopTaken b l req).lookup t a w m = s.lookup t a w m := rfl

theorem State.bindTenant_homeopTaken (k : Nat) : (s.homeopTaken b l req).bindTenant k = s.bindTenant k := rfl

theorem State.servesOwn_homeopTaken (sa : Word) : (s.homeopTaken b l req).servesOwn sa = s.servesOwn sa := rfl

theorem State.mode_homeopTaken : (s.homeopTaken b l req).mode = s.mode := rfl

/-- A busy line discards what is written to it. -/
theorem State.homeopDiscarded_effect (v : HomeOpLine) (n : Note) :
    ((s.setHomeOpLine b l v).flag F.hptStatus_discard n).homeOpLine b l = v ∧
    ((s.setHomeOpLine b l v).flag F.hptStatus_discard n).getF F.hptStatus_discard = 1 ∧
    ((s.setHomeOpLine b l v).flag F.hptStatus_discard n).mem = s.mem := by
  refine ⟨?_, State.getF_flag_same _ _ _ _ (by decide) (by decide) rfl, (State.mem_of_inner (State.flag_inner ..)).trans rfl⟩
  rw [State.homeOpLine_of_hpt _ _ _ (congrArg HptS.homeOps (State.hpt_flag ..)), State.homeOpLine_setHomeOpLine_same]

theorem exec_homeopLine_ends {i : Instr} (hi : i ∈ [Instr.homeopAtom b l req, .openView b l req, .closeView b l req, .publish b l req])
    (hactive : s.bindActive b = true) (hide : s.ideOk = true) (hbusy : (s.homeOpLine b l).busy = false) {code : Code} {detail : Nat}
    (hwhy : (s.mode = .crust ∧ code = Code.crust ∧ detail = 0) ∨
      (s.mode ≠ .crust ∧ homeopCheck req = some detail ∧ code = Code.malformed) ∨
      (s.mode ≠ .crust ∧ homeopCheck req = none ∧ detail = 0 ∧
        s.lookup (s.bindTenant b) (dfield req 8 0 56) (if lineOpc req = 1 then .atom else .load) false = .fails code)) :
    exec i s = .next (State.finish ((s.homeopTaken b l req).homeopEnd b l code detail none)) := by
  rw [exec_homeopLine hi, State.homeopWrite_idle hactive hide hbusy]
  rcases hwhy with ⟨hmode, rfl, rfl⟩ | ⟨hmode, hcheck, rfl⟩ | ⟨hmode, hcheck, rfl, hfails⟩
  · rw [State.homeopRun_crust (State.mode_homeopTaken.trans hmode)]
  · rw [State.homeopRun_malformed (by rwa [State.mode_homeopTaken]) hcheck]
  · rw [State.homeopRun_fails (by rwa [State.mode_homeopTaken]) hcheck
      (by rwa [State.lookup_homeopTaken, State.bindTenant_homeopTaken])]

theorem exec_homeopLine_atom {i : Instr} (hi : i ∈ [Instr.homeopAtom b l req, .openView b l req, .closeView b l req, .publish b l req])
    (hactive : s.bindActive b = true) (hide : s.ideOk = true) (hbusy : (s.homeOpLine b l).busy = false) {sa : Word} {k : XKey}
    (hmode : s.mode ≠ .crust) (hcheck : homeopCheck req = none) (hop : lineOpc req = 1)
    (hstand : s.lookup (s.bindTenant b) (dfield req 8 0 56) .atom false = .stand sa k) (hserves : s.servesOwn sa = true) :
    exec i s = .next (State.finish ((s.homeopTaken b l req).homeAccess
      { who := .homeop b l, tenant := s.bindTenant b, off := saOffset sa,
        kind := .atom (dfield req 0 8 2) (BitVec.ofNat 64 (dfield req 0x10 0 64)) (BitVec.ofNat 64 (dfield req 0x18 0 64)),
        resv := (s.homeopTaken b l req).kvResv (s.bindTenant b) (dfield req 8 0 56) })) := by
  rw [exec_homeopLine hi, State.homeopWrite_idle hactive hide hbusy, State.homeopRun_atom (by rwa [State.mode_homeopTaken]) hcheck hop
    (by rw [State.lookup_homeopTaken, State.bindTenant_homeopTaken]; exact hstand) (by rwa [State.servesOwn_homeopTaken]),
    State.bindTenant_homeopTaken]

theorem exec_homeopLine_view {i : Instr} (hi : i ∈ [Instr.homeopAtom b l req, .openView b l req, .closeView b l req, .publish b l req])
    (hactive : s.bindActive b = true) (hide : s.ideOk = true) (hbusy : (s.homeOpLine b l).busy = false) {sa : Word} {k : XKey}
    (hmode : s.mode ≠ .crust) (hcheck : homeopCheck req = none) (hop : lineOpc req = 2 ∨ lineOpc req = 3)
    (hstand : s.lookup (s.bindTenant b) (dfield req 8 0 56) .load false = .stand sa k) (hdev : BitVec.ofNat 9 (saDevice sa) = s.device) :
    exec i s = .next (State.finish ((s.homeopTaken b l req).runHomeop
      { src := s.device, tenant := s.bindTenant b, binding := b, line := l, sa := sa, staging := 0, req := req,
        stagingCode := .done })) := by
  rw [exec_homeopLine hi, State.homeopWrite_idle hactive hide hbusy, State.homeopRun_view (v := s.homeopTaken b l req) (by rwa [State.mode_homeopTaken]) hcheck hop
    (by rw [State.lookup_homeopTaken, State.bindTenant_homeopTaken]; exact hstand) hdev, State.bindTenant_homeopTaken]
  rfl

end HomeopLines

theorem exec_coherentResend (d : DevNo) (m : Bool) (r : CohReq) (s : State) : exec (.coherentResend d m r) s =
    .next (if s.requester r = (d, m) ∧ s.tracked true (d, m) < 2 then (s.homeAccess { r with reserved := true }).finish else s) := rfl

/-- A request that arrives at its home. -/
def homeReq (d : DevNo) (t : Tenant) (b l : Nat) (sa stg : Word) (req : Line) (sc : Code) : HomeReq :=
  { src := d, tenant := t, binding := b, line := l, sa := sa, staging := stg, req := req, stagingCode := sc }

theorem exec_homeop (d : DevNo) (t : Tenant) (b l : Nat) (sa stg : Word) (req : Line) (sc : Code) (s : State) :
    exec (.homeop d t b l sa stg req sc) s = .next (if s.mode = .crust then
      s.sendHomeReply ((homeReq d t b l sa stg req sc).reply .crust 0 none)
    else s.runHomeop (homeReq d t b l sa stg req sc)).finish := rfl

/-- Settles O45: host accesses by binding and window, recalls by the line's entry, home operations by their line and their commons. -/
theorem hostAccessesComplete : Obligations.HostAccessesComplete := by
  unfold Obligations.HostAccessesComplete
  refine ⟨fun b dpa ask ue data m s _ => ⟨fun hturned => ?_, fun hactive hide hdc => ⟨fun hno => ?_, fun code hdc' hfails => ?_,
      fun code hdc' hfails => ?_, fun sa k hdc' hstand hserves => ?_⟩, fun hactive hide hlo hhi => ?_⟩,
    fun b sa data s => ⟨fun hturned => ?_, fun hactive hide hhome hown => ?_, fun hactive hide hhome hown hholds => ?_⟩,
    fun l h s => ⟨fun hno => ?_, fun hholds hwant hdev => ?_, fun hno => ?_, fun hholds hdev => ?_⟩,
    fun home b sa dirty s => ⟨?_, fun hnone => ?_, fun d hsn hd => ?_, fun h hhome => ⟨?_, fun hno => ?_, fun hholds hdirty => ?_⟩⟩,
    fun h s => ⟨fun hdev hidle => ?_, fun hdev => ?_, fun hdev hb hactive hothers hdir => ?_⟩,
    fun d m r s => ⟨fun hreq htracked => ?_, fun hno => ?_⟩,
    fun b l req s i hi => ⟨fun hturned => ?_, fun hactive hide hbusy => ?_, fun hactive hide hbusy =>
      ⟨fun code detail => exec_homeopLine_ends hi hactive hide hbusy, fun sa k => exec_homeopLine_atom hi hactive hide hbusy,
        fun sa k => exec_homeopLine_view hi hactive hide hbusy⟩⟩,
    fun b l code detail w s => ⟨fun hidle => ?_, fun hbusy => ?_⟩,
    fun d t b l sa stg req sc s => ?_⟩
  · have hsound : ¬ (ue = true ∧ dcBase ≤ dpa.toNat ∧ s.bindActive b = true ∧ s.ideOk = true ∧
        s.dcHolds b (dpa.toNat - dcBase) = true) := by
      rintro ⟨-, -, hactive, hide, -⟩
      rcases hturned with h | h
      · exact absurd hactive (by rw [h]; decide)
      · exact absurd hide (by rw [h]; decide)
    rw [exec_hostRead_sound b dpa ask ue s hsound, exec_hostWrite, State.hostAccess_turned hturned, State.hostAccess_turned hturned]
    exact ⟨⟨_, rfl, s.hostTurned_effect b dpa.toNat true⟩, ⟨_, rfl, s.hostTurned_effect b dpa.toNat false⟩⟩
  · have hsound : ¬ (ue = true ∧ dcBase ≤ dpa.toNat ∧ s.bindActive b = true ∧ s.ideOk = true ∧
        s.dcHolds b (dpa.toNat - dcBase) = true) := by
      rintro ⟨-, -, -, -, h⟩
      exact absurd h (by rw [show s.dcHolds b (dpa.toNat - dcBase) = false from hno]; decide)
    rw [exec_hostRead_sound b dpa ask ue s hsound, exec_hostWrite, State.hostAccess_dc hactive hide hdc,
      State.hostAccess_dc hactive hide hdc, State.dcAccess_absent_load hno, State.dcAccess_absent_store hno]
    exact ⟨rfl, rfl⟩
  · rw [exec_hostRead_sound b dpa ask false s (fun h => absurd h.1 (by decide)), State.hostAccess_dc hactive hide hdc,
      State.dcAccess_load_fails hdc' hfails]
  · rw [exec_hostWrite, State.hostAccess_dc hactive hide hdc, State.dcAccess_store_fails hdc' hfails]
  · obtain ⟨u, hu, hacc⟩ := State.dcAccess_store_here (ask := .none) (data := data) (m := m) hdc' hstand hserves
    exact ⟨u, hu, by rw [exec_hostWrite, State.hostAccess_dc hactive hide hdc, hacc]; rfl⟩
  · have hlt : dpa.toNat < 0x400000000 := hhi.trans (by decide)
    have hsound : ¬ (ue = true ∧ dcBase ≤ dpa.toNat ∧ s.bindActive b = true ∧ s.ideOk = true ∧
        s.dcHolds b (dpa.toNat - dcBase) = true) := by
      rintro ⟨-, h, -⟩
      exact absurd hlt (Nat.not_lt.2 h)
    rw [exec_hostRead_sound b dpa ask ue s hsound, State.hostAccess_window hactive hide hlt]
    exact congrArg (fun u : State => Host.Outcome.next u.finish) ((if_neg (Nat.not_lt.2 hlo)).trans (if_pos hhi))
  · rw [exec_hostWriteback, State.hostWriteback_turned hturned]
  · rw [exec_hostWriteback, State.hostWriteback_denied hactive hide hhome hown]
  · rw [exec_hostWriteback, State.hostWriteback_owner hactive hide hhome hown hholds]
  · rw [exec_recallStart, State.recallStart_idle hno]
  · rw [exec_recallStart, State.recallStart_sends hholds hwant, State.sendRecall_here (s := s.asked l h) _ hdev]
    have hdir := State.dirAt_asked hholds
    refine ⟨_, rfl, rfl, fun g hg hh => ?_, ?_, rfl⟩
    · have hg' : g ∈ ((s.asked l h).dirAt l).holders := hg
      rw [hdir] at hg'
      exact mem_asked hg' hh
    · have howned := congrArg DirEntry.owned hdir
      exact howned
  · rw [exec_recallTimeout, State.recallTimeout_idle hno]
  · rw [exec_recallTimeout, State.recallTimeout_other hholds hdev]
    refine ⟨_, rfl, State.not_mem_removeHolder _ l h, ?_, ?_, ?_⟩
    · rw [State.getF_of_regs _ (State.regs_removeHolder ..) (State.code_removeHolder ..)]
      exact State.getF_flag_same _ _ _ _ (by decide) (by decide) rfl
    · rw [State.mem_removeHolder]
      exact State.mem_of_inner (State.flag_inner ..)
    · rw [State.out_removeHolder]
      exact State.out_flag ..
  · exact exec_recall home none b sa s
  · rw [exec_birspi, State.takeBirspi_none hnone]
  · rw [exec_birspi, State.takeBirspi_other hsn hd]
  · rw [exec_recallAck, State.takeRecallAck_home hhome]
  · exact State.holderGone_none hno
  · subst hdirty
    exact ⟨State.holderGone_clean hholds, State.not_mem_removeHolder s _ h⟩
  · rw [exec_fenced, if_pos hdev, if_neg (by rw [hidle]; decide)]
  · rw [exec_fenced, if_neg hdev]
  · have hstate : s.getF F.hptBind_state h.binding ≠ 2 := by
      have h1 : s.getF F.hptBind_state h.binding = 1 := beq_iff_eq.1 hactive
      omega
    rw [exec_fenced, if_pos hdev, if_pos hactive, State.fenceBinding_alone hstate hothers hdir]
    exact ⟨_, rfl, State.fencedAlone_effect hb⟩
  · rw [exec_coherentResend, if_pos ⟨hreq, htracked⟩]
  · rw [exec_coherentResend, if_neg]
    rintro ⟨hreq, htracked⟩
    rcases hno with h | h
    · exact h hreq
    · omega
  · rw [exec_homeopLine hi, State.homeopWrite_turned hturned]
  · rw [exec_homeopLine hi, State.homeopWrite_busy hactive hide hbusy]
    exact ⟨_, rfl, State.homeopDiscarded_effect _ _⟩
  · rw [exec_homeopReply, if_neg (by rw [hidle]; decide)]
  · rw [exec_homeopReply, if_pos hbusy, State.homeopEnd_result]
    refine ⟨_, rfl, (State.homeOpLine_setHomeOpLine_same ..).trans ?_, fun r hr => ?_, rfl⟩
    · rw [State.statusWord_onFab]
      rfl
    · simpa using (List.mem_filter.1 hr).2
  · refine ⟨fun hmode => ?_, fun hmode hnone => ?_, fun n c hmode hc hlo hhi => ⟨fun ht hright => ?_, fun hright => ?_⟩⟩
    · rw [exec_homeop, if_pos hmode]
      rfl
    · have hfor : s.commonsFor (homeReq d t b l sa stg req sc).sa = none := by simp [State.commonsFor, hnone]
      rw [exec_homeop, if_neg hmode, State.runHomeop_eq, hfor]
      rfl
    · have hfor : s.commonsFor (homeReq d t b l sa stg req sc).sa = some (n, c) := State.commonsFor_only hc hlo hhi
      rw [exec_homeop, if_neg hmode, State.runHomeop_eq, hfor]
      exact congrArg (fun u : State => Host.Outcome.next u.finish) (if_pos ⟨ht, hright⟩)
    · have hfor : s.commonsFor (homeReq d t b l sa stg req sc).sa = some (n, c) := State.commonsFor_only hc hlo hhi
      have hmay : ¬ (t ≠ 0 ∧ c.right t = .none) := by
        rintro ⟨ht, hr⟩
        rcases hright with h | h
        · exact ht h
        · exact h hr
      rw [exec_homeop, if_neg hmode, State.runHomeop_eq, hfor]
      refine ⟨fun hop hwant hlive hviews => ?_, fun hop => ?_, fun hop hpub => ?_⟩
      · refine congrArg (fun u : State => Host.Outcome.next u.finish) ((if_neg hmay).trans ((if_neg ?_).trans ((if_neg ?_).trans ?_)))
        · exact fun h => absurd (hop.symm.trans h) (by decide)
        · exact fun h => absurd (hop.symm.trans h) (by decide)
        · have hwant' : dfield (homeReq d t b l sa stg req sc).req 0x10 0 64 = 0 := hwant
          simp only [hwant', if_true, hlive, State.viewCount_only hc hviews, hviews]
          rfl
      · refine congrArg (fun u : State => Host.Outcome.next u.finish) ((if_neg hmay).trans ((if_neg ?_).trans (if_pos hop)))
        exact fun h => absurd (hop.symm.trans h) (by decide)
      · exact congrArg (fun u : State => Host.Outcome.next u.finish) ((if_neg hmay).trans ((if_pos hop).trans (if_pos hpub)))

end Sys2Proof.Machine

end

section

namespace Sys2Proof.Machine

/-! ### The commands of HPT_CMD (R510 to R528) -/

section HptCommand
variable {s : State}

/-- The state in which operation `n` of HPT_CMD has been taken. -/
abbrev State.hptTaken (s : State) (d : RegDesc) (w : Word) (n : Nat) : State :=
  s.cmdTaken d F.hptCmd_op F.hptCmd_busy 0 (putBits w 0 4 n)

/-- What an operation of HPT_CMD whose arguments are good does. -/
def State.hptRun (v : State) : Nat → State
  | 1 => v.hptBindRun
  | 2 => v.hptUnbindRun
  | 3 => v.hptUnfenceRun
  | 4 => v.hptDcAddRun
  | 5 => v.hptDcWithdrawRun
  | 6 => v.hptComCreateRun
  | 7 => v.hptComGrantRun
  | _ => v.hptComDestroyRun

theorem State.hptCommand_busy (h : s.getF F.hptCmd_busy = 1) (w : Word) : s.hptCommand w = s := if_pos h

theorem State.hptCommand_taken {d : RegDesc} {w : Word} {n : Nat}
    (h : s.cmdReady d F.hptCmd_op F.hptCmd_busy 0 (putBits w 0 4 n)) (hz : 1 ≤ n) (hn : n ≤ 8) :
    s.hptCommand (putBits w 0 4 n) = if !(s.hptTaken d w n).hptArgsOk n then (s.hptTaken d w n).hptEnd Code.malformed.num
      else (s.hptTaken d w n).hptRun n := by
  have hop : (s.cmdWritten d F.hptCmd_op 0 (putBits w 0 4 n)).getF F.hptCmd_op = n := by
    rw [h.getF (by decide +kernel) rfl rfl]
    exact (fieldOf_putBits_same w 0 4 n (by omega)).trans (Nat.mod_eq_of_lt (by omega))
  have htaken : (s.cmdWritten d F.hptCmd_op 0 (putBits w 0 4 n)).setF F.hptCmd_busy 0 1 = s.hptTaken d w n := rfl
  have hnz : n ≠ 0 := by omega
  have hle : ¬ 8 < n := by omega
  simp only [State.hptCommand, h.idle, h.cleanWrite, h.writeReg, hop, hnz, hle, htaken, if_false]
  congr 1
  obtain rfl | rfl | rfl | rfl | rfl | rfl | rfl | rfl : n = 1 ∨ n = 2 ∨ n = 3 ∨ n = 4 ∨ n = 5 ∨ n = 6 ∨ n = 7 ∨ n = 8 := by omega
  all_goals rfl

theorem exec_hptCommand {c : Word → Instr} {n : Nat} (h : (c, n) ∈ [(Instr.bind, 1), (.unbind, 2), (.unfence, 3), (.dcAdd, 4),
    (.dcWithdraw, 5), (.comCreate, 6), (.comGrant, 7), (.comDestroy, 8)]) (w : Word) (s : State) :
    exec (c w) s = .next (s.hptCommand (putBits w 0 4 n)).finish ∧ 1 ≤ n ∧ n ≤ 8 := by
  simp only [List.mem_cons, Prod.mk.injEq, List.not_mem_nil, or_false] at h
  rcases h with ⟨rfl, rfl⟩ | ⟨rfl, rfl⟩ | ⟨rfl, rfl⟩ | ⟨rfl, rfl⟩ | ⟨rfl, rfl⟩ | ⟨rfl, rfl⟩ | ⟨rfl, rfl⟩ | ⟨rfl, rfl⟩
  all_goals exact ⟨rfl, by decide, by decide⟩

/-! ### The end of a command -/

theorem State.getF_hptEnd_busy (code : Nat) : (s.hptEnd code).getF F.hptCmd_busy = 0 :=
  (State.getF_setF_off _ _ (by decide)).trans (State.getF_setF_same _ _ _ _ (by decide))

theorem State.getF_hptEnd_code (code : Nat) : (s.hptEnd code).getF F.hptResult_code = code % 2 ^ 8 :=
  State.getF_setF_same _ _ _ _ (by decide)

theorem State.hptBind_ne {b off : Nat} (h : off < 0x140100) (f : Fld) (hf : f.base = 0x140100) : f.off b ≠ off := by
  rw [Fld.off, hf]
  omega

/-- The end of a command leaves the bindings' registers. -/
theorem State.getF_hptEnd_binding (code : Nat) {f : Fld} (hf : f.base = 0x140100) (b : Nat) :
    (s.hptEnd code).getF f b = s.getF f b :=
  (State.getF_setF_off _ _ (State.hptBind_ne (by decide) f hf)).trans (State.getF_setF_off _ _ (State.hptBind_ne (by decide) f hf))

/-! ### Binding and unbinding -/

theorem State.hptBindRun_effect (hstate : s.getF F.hptBind_state (fieldOf s.hptArg0 0 5) = 0) (ht : fieldOf s.hptArg0 5 8 ≠ 0) :
    s.hptBindRun.getF F.hptBind_state (fieldOf s.hptArg0 0 5) = 1 ∧
    s.hptBindRun.getF F.hptBind_tenant (fieldOf s.hptArg0 0 5) = fieldOf s.hptArg0 5 8 ∧
    s.hptBindRun.getF F.hptBind_pbrId (fieldOf s.hptArg0 0 5) = fieldOf s.hptArg0 13 12 ∧ s.hptBindRun.getF F.hptCmd_busy = 0 ∧
    s.hptBindRun.getF F.hptResult_code = 0 ∧ s.hptBindRun = { s with regs := s.hptBindRun.regs } := by
  have hrun : s.hptBindRun = (((s.setF F.hptBind_state (fieldOf s.hptArg0 0 5) 1).setF F.hptBind_tenant (fieldOf s.hptArg0 0 5)
      (fieldOf s.hptArg0 5 8)).setF F.hptBind_pbrId (fieldOf s.hptArg0 0 5) (fieldOf s.hptArg0 13 12)).hptEnd 0 :=
    (if_neg (not_not.2 hstate)).trans (if_neg fun h => ht h.1)
  rw [hrun]
  refine ⟨?_, ?_, ?_, State.getF_hptEnd_busy _, State.getF_hptEnd_code _, rfl⟩
  · rw [State.getF_hptEnd_binding _ rfl, State.getF_setF_disjoint _ _ (by decide) (by decide), State.getF_setF_disjoint _ _ (by decide) (by decide),
      State.getF_setF_same _ _ _ _ (by decide)]
    rfl
  · rw [State.getF_hptEnd_binding _ rfl, State.getF_setF_disjoint _ _ (by decide) (by decide), State.getF_setF_same _ _ _ _ (by decide)]
    exact Nat.mod_eq_of_lt (fieldOf_lt _ _ _)
  · rw [State.getF_hptEnd_binding _ rfl, State.getF_setF_same _ _ _ _ (by decide)]
    exact Nat.mod_eq_of_lt (fieldOf_lt _ _ _)

theorem State.hptUnbindRun_free (hext : s.hpt.extents = []) (hdir : s.hpt.dir = []) :
    s.hptUnbindRun = (s.setF F.hptBind_state (fieldOf s.hptArg0 0 5) 0).hptEnd 0 := by
  unfold State.hptUnbindRun
  refine if_neg ?_
  rw [hext, hdir]
  exact Bool.false_ne_true

theorem State.hptUnbindRun_extent (hext : (s.hpt.extents.any fun e => e.binding == fieldOf s.hptArg0 0 5) = true) :
    s.hptUnbindRun = s.hptEnd Code.retry.num := if_pos (by rw [hext]; rfl)

theorem State.hptUnfenceRun_fenced (hstate : s.getF F.hptBind_state (fieldOf s.hptArg0 0 5) = 2) :
    s.hptUnfenceRun = (s.setF F.hptBind_state (fieldOf s.hptArg0 0 5) 1).hptEnd 0 := if_pos hstate

/-! ### Dynamic Capacity -/

theorem State.hptDcAddRun_malformed (h : s.bindActive s.argExtent.binding = false ∨ s.hptArg1.toNat < dcBase ∨ s.argExtent.blocks = 0 ∨
    s.argExtent.addr % granuleBytes ≠ 0) : s.hptDcAddRun = s.hptEnd Code.malformed.num := by
  refine if_pos ?_
  rcases h with h | h | h | h
  · exact .inl h
  · exact .inr (.inl h)
  · exact .inr (.inr (.inl h))
  · exact .inr (.inr (.inr (.inl h)))

theorem State.hptDcWithdrawRun_absent (h : s.hptArg1.toNat < dcBase ∨ s.hpt.extents.contains s.argExtent = false) :
    s.hptDcWithdrawRun = s.hptEnd Code.absent.num :=
  if_pos (h.imp_right fun h => by rw [h]; rfl)

/-- An operation that withdraws an extent, at the command's call or the host's. -/
def DcExtent.withdrawal (e : DcExtent) (command : Bool) : DcOp :=
  { ext := e, phase := .releasing, command := command, forced := false, keys := [], waits := [] }

theorem State.hptDcWithdrawRun_asks (haddr : dcBase ≤ s.hptArg1.toNat) (hext : s.hpt.extents.contains s.argExtent = true)
    (hops : s.hpt.dcOps = []) : s.hptDcWithdrawRun = (s.onHpt fun h => { h with dcOps := h.dcOps ++ [s.argExtent.withdrawal true] }).emit
      (.dcEvent s.argExtent.binding true s.hptArg1.toNat s.argExtent.blocks) := by
  unfold State.hptDcWithdrawRun
  have hheld : ¬ (s.hptArg1.toNat < dcBase ∨ (!s.hpt.extents.contains s.argExtent) = true) := by
    rw [hext]
    rintro (h | h)
    · exact absurd haddr (Nat.not_le.2 h)
    · exact absurd h (by decide)
  refine (if_neg hheld).trans (if_neg ?_)
  rw [hops]
  exact Bool.false_ne_true

theorem State.dcResponse_none (accept : Bool) (h : s.hpt.dcOps = []) : s.dcResponse accept = s := by
  rw [State.dcResponse, h]
  rfl

theorem State.dcGrace_none (h : s.hpt.dcOps = []) : s.dcGrace = s := by
  rw [State.dcGrace, h]
  rfl

/-- The state in which the device's one capacity operation has ended. -/
theorem State.dcOps_dropDcOp {o : DcOp} (h : s.hpt.dcOps = [o]) : (s.dropDcOp o).hpt.dcOps = [] := by
  change s.hpt.dcOps.erase o = []
  rw [h]
  exact List.erase_cons_head ..

section OneOperation
variable {o : DcOp} (hops : s.hpt.dcOps = [o])
include hops

theorem State.dcResponse_accepted (hphase : o.phase = .adding) : s.dcResponse true =
    (((s.dropDcOp o).onHpt fun h => { h with extents := h.extents ++ [o.ext] }).setF F.hptBind_extents o.ext.binding
      (s.getF F.hptBind_extents o.ext.binding + 1)).hptEnd 0 := by
  rw [State.dcResponse, hops, List.find?_cons_of_pos (by rw [hphase]; rfl)]
  rfl

theorem State.dcResponse_refused (hphase : o.phase = .adding) : s.dcResponse false = (s.dropDcOp o).hptEnd Code.denied.num := by
  rw [State.dcResponse, hops, List.find?_cons_of_pos (by rw [hphase]; rfl)]
  rfl

theorem State.dcGrace_adding (hphase : o.phase = .adding) : s.dcGrace = (s.dropDcOp o).hptEnd Code.dead.num := by
  rw [State.dcGrace, hops, List.find?_cons_of_pos (by rw [hphase]; rfl)]
  exact if_pos hphase

/-- A release that the host owes and its bound has passed. -/
theorem State.dcGrace_releasing (hphase : o.phase = .releasing) (hcommand : o.command = true) : s.dcGrace =
    ((s.setDcOp o { o with forced := true }).flag F.hptStatus_dcForced { index := o.ext.binding }).dcDrain { o with forced := true } := by
  rw [State.dcGrace, hops, List.find?_cons_of_pos (by rw [hphase, hcommand]; rfl)]
  exact if_neg (by rw [hphase]; decide)

theorem State.dcOps_setDcOp (o' : DcOp) : (s.setDcOp o o').hpt.dcOps = [o'] := by
  change updWhere (fun x => x == o) (fun _ => o') s.hpt.dcOps = [o']
  rw [hops]
  simp [updWhere]

end OneOperation

theorem State.dcRelease_none {b dpa : Nat} (h : s.hpt.extents = []) : s.dcRelease b dpa = s := by
  rw [State.dcRelease, h]
  rfl

section Release
variable {e : DcExtent} {b dpa : Nat} (hext : s.hpt.extents = [e]) (hb : e.binding = b) (haddr : e.addr + dcBase = dpa)
include hext hb haddr

theorem State.dcRelease_unasked (hops : s.hpt.dcOps = []) : s.dcRelease b dpa =
    (s.onHpt fun h => { h with dcOps := [e.withdrawal false] }).dcDrain (e.withdrawal false) := by
  rw [State.dcRelease, hext, List.find?_cons_of_pos (by simp [hb, haddr]), hops]
  simp only [State.onHpt, hops]
  rfl

theorem State.dcRelease_asked {o : DcOp} (hops : s.hpt.dcOps = [o]) (ho : o.ext = e) (hphase : o.phase = .releasing) :
    s.dcRelease b dpa = s.dcDrain o := by
  rw [State.dcRelease, hext, List.find?_cons_of_pos (by simp [hb, haddr]), hops]
  dsimp only
  rw [List.find?_cons_of_pos (by simp [ho])]
  exact if_pos hphase

end Release

/-! ### Commons -/

section Commons
variable {c : Commons}

theorem State.commonsAt_setCommons (n : Nat) (v : Commons) : (s.setCommons n v).commonsAt n = some v := by
  rw [State.commonsAt]
  exact congrArg (Option.map Prod.snd) (Table.find?_put_same ..)

/-- A right given anew is the one a tenant that is not the owner has. -/
theorem Commons.right_given {t : Tenant} (ht : t ≠ c.owner) (r : Right) :
    ({ c with rights := (c.rights.filter fun r => r.1 != t) ++ [(t, r)] } : Commons).right t = r := by
  have hnone : (c.rights.filter fun r => r.1 != t).find? (fun r => r.1 == t) = none := by
    rw [List.find?_eq_none]
    intro x hx
    simpa using (List.mem_filter.1 hx).2
  rw [Commons.right, if_neg ht]
  dsimp only
  rw [List.find?_append, hnone]
  simp

theorem State.hptComGrantRun_read (hc : s.commonsAt (fieldOf s.hptArg0 0 6) = some c) (hr : fieldOf s.hptArg0 14 2 = 1)
    (hlen : (c.rights.filter fun r => r.1 != BitVec.ofNat 8 (fieldOf s.hptArg0 6 8)).length < 16) : s.hptComGrantRun =
    (s.setCommons (fieldOf s.hptArg0 0 6) { c with rights := (c.rights.filter fun r => r.1 != BitVec.ofNat 8 (fieldOf s.hptArg0 6 8)) ++
      [(BitVec.ofNat 8 (fieldOf s.hptArg0 6 8), .read)] }).hptEnd 0 := by
  rw [State.hptComGrantRun, hr, hc]
  exact if_neg fun h => absurd h.2 (Nat.not_le.2 hlen)

/-- The commons whose versions and homes are given back. -/
def State.comReleased (s : State) (c : Commons) : State :=
  (c.versions.foldl (fun s v => s.dropRefs v.images) s).setHomes (c.firstBlock / granuleBlocks) (c.blocks / granuleBlocks)
    { owner := c.owner, mode := .priv }

theorem State.mem_comReleased (s : State) (c : Commons) : (s.comReleased c).mem = s.mem :=
  State.mem_of_steady ((State.setHomes_steady ..).trans (State.steady_foldl _ (fun s (v : Version) => s.dropRefs_steady v.images) _ _))

theorem State.hptComDestroyRun_viewed (hc : s.commonsAt (fieldOf s.hptArg0 0 6) = some c)
    (hviews : (c.views.any fun v => v.2.2 != c.latest) = true) : s.hptComDestroyRun = s.hptEnd Code.retry.num := by
  rw [State.hptComDestroyRun, hc]
  exact if_pos hviews

theorem State.hptComDestroyRun_unviewed (hc : s.commonsAt (fieldOf s.hptArg0 0 6) = some c)
    (hviews : (c.views.any fun v => v.2.2 != c.latest) = false) : s.hptComDestroyRun =
    ((s.comReleased c).onHpt fun h => { h with commons := h.commons.del (fieldOf s.hptArg0 0 6) }).hptEnd 0 := by
  rw [State.hptComDestroyRun, hc]
  exact if_neg (by rw [hviews]; decide)

theorem State.commonsAt_destroyed (u : State) (n : Nat) :
    ((u.onHpt fun h => { h with commons := h.commons.del n }).hptEnd 0).commonsAt n = none := by
  rw [State.commonsAt]
  exact congrArg (Option.map Prod.snd) (Table.find?_del_same ..)

end Commons

end HptCommand

theorem State.mem_flag (s : State) (f : Fld) (n : Note) (i : Nat) : (s.flag f n i).mem = s.mem := State.mem_of_inner (State.flag_inner ..)

theorem State.sec_flag (s : State) (f : Fld) (n : Note) (i : Nat) : (s.flag f n i).sec = s.sec := State.sec_of_inner (State.flag_inner ..)

theorem exec_dcHostResponse (accept : Bool) (s : State) : exec (.dcHostResponse accept) s = .next (s.dcResponse accept).finish := rfl
theorem exec_dcGraceExpiry (s : State) : exec .dcGraceExpiry s = .next s.dcGrace.finish := rfl
theorem exec_dcHostRelease (b : Nat) (dpa : BitVec 57) (s : State) : exec (.dcHostRelease b dpa) s = .next (s.dcRelease b dpa.toNat).finish := rfl

theorem exec_ideKm (n : Nat) (i : IdeStream) (k : BitVec 256) (s : State) : exec (.ideKm n i k) s =
    .next (if s.sec.sessions.any fun x => x.id == n && x.transport == .cxl && x.finished then
      (s.onSec fun x => { x with ide := (x.ide.filter fun e => e.1 != i) ++ [(i, k, n)] }).setF (ideField i) 0 1 else s) := rfl

theorem exec_ideFail (i : IdeStream) (s : State) :
    exec (.ideFail i) s = .next (s.flag F.hptStatus_ideFail { index := if i = .io then 0 else 1 }) := rfl

theorem getF_ideField (s : State) (i : IdeStream) : (s.setF (ideField i) 0 1).getF (ideField i) = 1 := by
  cases i <;> exact State.getF_setF_same _ _ _ _ (by decide)

/-- Settles O46: the commands of HPT_CMD by their operation, the ends of the Dynamic Capacity operations, decoders and IDE keys. -/
theorem hostCommandsComplete : Obligations.HostCommandsComplete := by
  unfold Obligations.HostCommandsComplete
  refine ⟨fun c n w d s hc => ?_, fun s => ⟨State.hptBindRun_effect, fun hstate ht hok => ?_, fun hext hdir => ?_,
      State.hptUnbindRun_extent, fun hstate => ?_⟩,
    fun s => ⟨State.hptDcAddRun_malformed, State.hptDcWithdrawRun_absent, fun haddr hext hops => ?_⟩,
    fun c s hc => ⟨fun hr ht hlen => ?_, State.hptComDestroyRun_viewed hc, fun hviews => ?_⟩,
    fun accept s => ⟨fun hops => ?_, fun o hops hphase hb hn => ⟨?_, ?_, ?_⟩, fun o hops hphase hcommand => ?_⟩,
    fun b dpa s => ⟨fun hext => ?_, fun e hext hb haddr => ⟨fun hops => ?_, fun o hops ho hphase => ?_⟩⟩,
    fun b d r bi s => ?_, fun n i k s => ⟨fun hsession => ?_, fun hsession => ?_, ?_⟩⟩
  · obtain ⟨hexec, hz, hn⟩ := exec_hptCommand hc w s
    rw [hexec]
    refine ⟨fun hbusy => by rw [State.hptCommand_busy hbusy], fun hready => ⟨fun hargs => ?_, fun hargs => ?_⟩⟩
    · rw [State.hptCommand_taken hready hz hn, if_pos (by rw [hargs]; rfl)]
    · rw [State.hptCommand_taken hready hz hn, if_neg (by rw [hargs]; decide)]
      rfl
  · exact (if_neg (not_not.2 hstate)).trans (if_pos ⟨ht, hok⟩)
  · rw [State.hptUnbindRun_free hext hdir]
    exact ⟨(State.getF_hptEnd_binding _ rfl _).trans (State.getF_setF_same _ _ _ _ (by decide)), State.getF_hptEnd_code _, rfl⟩
  · rw [State.hptUnfenceRun_fenced hstate]
    exact ⟨(State.getF_hptEnd_binding _ rfl _).trans (State.getF_setF_same _ _ _ _ (by decide)), State.getF_hptEnd_code _⟩
  · rw [State.hptDcWithdrawRun_asks haddr hext hops]
    exact ⟨rfl, rfl, rfl⟩
  · rw [State.hptComGrantRun_read hc hr hlen]
    exact ⟨_, State.commonsAt_setCommons _ _, Commons.right_given ht _, rfl, rfl, State.getF_hptEnd_code _⟩
  · rw [State.hptComDestroyRun_unviewed hc hviews]
    exact ⟨State.commonsAt_destroyed _ _, State.getF_hptEnd_code _, s.mem_comReleased c⟩
  · rw [exec_dcHostResponse, exec_dcGraceExpiry, State.dcResponse_none _ hops, State.dcGrace_none hops]
    exact ⟨rfl, rfl⟩
  · rw [exec_dcHostResponse, State.dcResponse_accepted hops hphase]
    refine ⟨_, rfl, rfl, State.dcOps_dropDcOp hops, ?_, State.getF_hptEnd_busy _, State.getF_hptEnd_code _, rfl⟩
    exact (State.getF_hptEnd_binding _ rfl _).trans ((State.getF_setF_same _ _ _ _ (by decide)).trans
      (Nat.mod_eq_of_lt (show s.getF F.hptBind_extents o.ext.binding + 1 < 2 ^ 13 by omega)))
  · rw [exec_dcHostResponse, State.dcResponse_refused hops hphase]
    exact ⟨_, rfl, rfl, State.dcOps_dropDcOp hops, State.getF_hptEnd_code _, rfl⟩
  · rw [exec_dcGraceExpiry, State.dcGrace_adding hops hphase]
    exact ⟨_, rfl, State.dcOps_dropDcOp hops, rfl, State.getF_hptEnd_code _⟩
  · rw [exec_dcGraceExpiry, State.dcGrace_releasing hops hphase hcommand]
    refine ⟨_, rfl, ?_, State.getF_flag_same _ _ _ _ (by decide) (by decide) rfl, State.mem_flag ..⟩
    rw [State.hpt_flag]
    exact State.dcOps_setDcOp hops _
  · rw [exec_dcHostRelease, State.dcRelease_none hext]
  · rw [exec_dcHostRelease, State.dcRelease_unasked hext hb haddr hops]
    exact ⟨_, _, rfl, rfl, rfl, rfl⟩
  · rw [exec_dcHostRelease, State.dcRelease_asked hext hb haddr hops ho hphase]
  · cases bi with
    | true => exact ⟨_, rfl, rfl, fun _ => List.mem_append_right _ (List.mem_singleton_self _), fun h => absurd h (by decide), rfl, rfl⟩
    | false => exact ⟨_, rfl, rfl, fun h => absurd h (by decide), fun _ => rfl, rfl, rfl⟩
  · rw [exec_ideKm, if_pos hsession]
    refine ⟨_, rfl, List.mem_append_right _ (List.mem_singleton_self _), getF_ideField _ i, fun e he hne => ?_, rfl⟩
    exact List.mem_append_left _ (List.mem_filter.2 ⟨he, by simpa using hne⟩)
  · rw [exec_ideKm, if_neg (by rw [hsession]; decide)]
  · rw [exec_ideFail]
    refine ⟨_, rfl, State.getF_flag_same _ _ _ _ (by decide) (by decide) rfl, State.mem_flag .., State.out_flag .., State.sec_flag ..⟩

end Sys2Proof.Machine

end

section

namespace Sys2Proof.Machine

/-! ### Signs of life and their times (R533, R549) -/

section Signs
variable {s : State}

theorem lastSeen_seenNow_same (l : List (DevNo × Word)) (d : DevNo) : lastSeen (s.seenNow l d) d = s.stime.toNat := by
  have hnone : (l.filter fun e => e.1 != d).find? (fun e => e.1 == d) = none := by
    rw [List.find?_eq_none]
    intro x hx
    simpa using (List.mem_filter.1 hx).2
  rw [lastSeen, State.seenNow, List.find?_append, hnone]
  simp

theorem lastSeen_seenNow_other (l : List (DevNo × Word)) {d e : DevNo} (h : e ≠ d) : lastSeen (s.seenNow l d) e = lastSeen l e := by
  have hfind : (l.filter fun x => x.1 != d).find? (fun x => x.1 == e) = l.find? fun x => x.1 == e := by
    rw [List.find?_filter]
    congr 1
    funext x
    by_cases hx : x.1 = e
    · simp [hx, h]
    · simp [hx]
  rw [lastSeen, State.seenNow, List.find?_append, hfind]
  simp [h.symm, lastSeen]

/-- A message of its own to each device of a list is sent for the device that began. -/
theorem State.device_sendAll (m : Msg) (l : List DevNo) (s : State) : (l.foldl (fun u k => u.sendMsg k 0 0 m) s).device = s.device :=
  State.device_of_inner (State.inner_foldl _ (fun _ _ => State.sendMsg_inner ..) l s)

/-- Two ways to walk a list that agree for a device walk it alike. -/
theorem foldl_eq_of_device {α : Type} {f g : State → α → State} {d : DevNo} (hfg : ∀ u a, u.device = d → f u a = g u a)
    (hg : ∀ u a, (g u a).device = u.device) (l : List α) (s : State) (hd : s.device = d) : l.foldl f s = l.foldl g s := by
  induction l generalizing s with
  | nil => rfl
  | cons a r ih =>
    rw [List.foldl_cons, List.foldl_cons, hfg s a hd]
    exact ih _ ((hg s a).trans hd)

theorem State.sendBeats (l : List DevNo) (s : State) :
    l.foldl (fun u k => u.sendMsg k 0 0 (.beat u.device)) s = l.foldl (fun u k => u.sendMsg k 0 0 (.beat s.device)) s :=
  foldl_eq_of_device (fun u k h => congrArg (fun d => u.sendMsg k 0 0 (.beat d)) h)
    (fun _ _ => State.device_of_inner (State.sendMsg_inner ..)) l s rfl

theorem exec_beatTimer (s : State) : exec .beatTimer s = .next (if s.mode = .sleep then s else
    State.forwardBeat (s.keepers.foldl (fun u k => u.sendMsg k 0 0 (.beat u.device)) s)) := rfl

theorem exec_beat (src d : DevNo) (s : State) : exec (.beat src d) s = .next (s.takeBeat src d) := rfl

theorem exec_beatAck (d : DevNo) (s : State) : exec (.beatAck d) s =
    .next (if s.keepers.contains d then s.onMap fun m => { m with acks := s.seenNow m.acks d } else s) := rfl

theorem State.takeBeat_ignored {src d : DevNo} (h : s.isKeeper = false ∨ (s.map.failedNamed.any fun e => e.1 == d) = true) :
    s.takeBeat src d = s := by
  refine if_neg ?_
  rcases h with h | h <;> simp [h]

theorem State.takeBeat_heard {src d : DevNo} (hk : s.isKeeper = true) (hf : (s.map.failedNamed.any fun e => e.1 == d) = false) :
    s.takeBeat src d = (s.onMap fun m => { m with heard := s.seenNow m.heard d }).sendMsg src 0 0 .beatAck :=
  if_pos (by rw [hk, hf]; rfl)

end Signs

/-! ### A device that its keepers do not answer (R549) -/

section Isolation
variable {s : State}

theorem exec_isolateTimeout (s : State) : exec .isolateTimeout s = .next s.isolate.finish := rfl

theorem State.svc_setMode_records (m : Mode) : (s.setMode m).svc.records = s.svc.records := by
  unfold State.setMode
  split <;> rfl

/-- The keepers whose answer is younger than the bound. -/
abbrev State.nearKeepers (s : State) : List DevNo := s.keepers.filter fun k => decide (s.stime.toNat < lastSeen s.map.acks k + s.isolateNs)

/-- Work stopped: every track has failed, and no record waits. -/
theorem State.stopWork_effect (s : State) : s.stopWork.svc.records = [] ∧ ∀ e ∈ s.stopWork.sched.runs, e.2.failed = true := by
  refine ⟨rfl, fun e he => ?_⟩
  obtain ⟨x, -, rfl⟩ := List.mem_map.1 (show e ∈ ((s.endTracks fun _ => true).sched.runs.map _) from he)
  rfl

/-- The device out of its stand. -/
def State.isolatedWork (s : State) : State := (s.stopWork.onMap fun m => { m with isolated := true }).setMode .quarantine

theorem State.isolate_far (hnear : s.nearKeepers.length < 2)
    (hmode : s.mode = .service ∨ s.mode = .rest ∨ s.mode = .repair ∨ s.mode = .crust) :
    s.isolate = s.isolatedWork.flag F.mapStatus_isolated := if_pos ⟨hnear, hmode⟩

theorem State.isolate_near (h : 2 ≤ s.nearKeepers.length) : s.isolate = s := if_neg fun h' => absurd h'.1 (Nat.not_lt.2 h)

theorem State.isolatedWork_effect (s : State) : s.isolatedWork.mode = .quarantine ∧ s.isolatedWork.map.isolated = true ∧
    s.isolatedWork.svc.records = [] ∧ ∀ e ∈ s.isolatedWork.sched.runs, e.2.failed = true := by
  obtain ⟨hrecords, hruns⟩ := s.stopWork_effect
  refine ⟨State.setMode_mode _ _, ?_, (State.svc_setMode_records _).trans hrecords, ?_⟩
  · rw [State.isolatedWork, State.setMode_map]
    rfl
  · rw [State.isolatedWork, State.setMode_sched]
    exact hruns

end Isolation

/-! ### Votes, proposals and what is stored of them (R535, R536, R550) -/

section Proposals
variable {s : State} {d src : DevNo} {r n : MapRec}

theorem exec_voteTimer (d : DevNo) (s : State) : exec (.voteTimer d) s = .next (s.castVote d).finish := rfl

theorem State.castVote_none (h : s.isKeeper = false ∨ d = s.device ∨ devRing d ≠ devRing s.device ∨ s.fateOf d ≠ none) :
    s.castVote d = s := by
  refine if_neg ?_
  rintro ⟨hk, hd, -, hring, hfate, -⟩
  rcases h with h | h | h | h
  · exact absurd hk (by rw [h]; decide)
  · exact hd h
  · exact h hring
  · exact h hfate

theorem State.castVote_silent (hk : s.isKeeper = true) (hd : d ≠ s.device) (hasleep : s.pwr.asleep.contains d = false)
    (hring : devRing d = devRing s.device) (hfate : s.fateOf d = none)
    (hpast : lastSeen s.map.heard d + s.isolateNs + 100000 ≤ s.stime.toNat) :
    s.castVote d = State.settleVerdict (State.noteStored ((s.keepers.filter (· != s.device)).foldl
      (fun u k => u.sendMsg k 0 0 (.vote (fateRec d (ringDev d (devX d + 1)) 1 0 false))) s) s.device opFate s.device
      (fateRec d (ringDev d (devX d + 1)) 1 0 false)) (fateRec d (ringDev d (devX d + 1)) 1 0 false) := by
  have hlate : (decide (lastSeen s.map.heard d + s.isolateNs + 100000 ≤ s.stime.toNat) || ((s.map.failedNamed.any fun e => e.1 == d) &&
      decide (lastSeen s.map.failedNamed d + s.isolateNs + 100000 ≤ s.stime.toNat))) = true := by
    rw [decide_eq_true hpast]
    rfl
  unfold State.castVote
  refine (if_pos ⟨hk, hd, by rw [hasleep]; rfl, hring, hfate, hlate⟩).trans ?_
  dsimp only
  rw [State.device_sendAll]

theorem State.takeProposal_notKeeper {op : Nat} (h : s.isKeeper = false) : s.takeProposal op src r = s := if_pos (by rw [h]; rfl)

section AtKeeper
variable {op : Nat} (hk : s.isKeeper = true)
include hk

theorem State.takeProposal_old (hop : op ≠ opCreate) (hop' : op ≠ opFate) (he : r.epoch < (s.current r).epoch) :
    s.takeProposal op src r = s.flag F.mapStatus_epochDiscard { index := r.kind, arg := r.key } :=
  (if_neg (by rw [hk]; decide)).trans (if_pos ⟨hop, hop', he⟩)

variable (he : op = opCreate ∨ ¬ r.epoch < (s.current r).epoch)
include he

/-- A proposal of the present epoch, by what it makes of the record. -/
theorem State.takeProposal_current : s.takeProposal op src r = match s.outcome op src r with
    | none => s
    | some n =>
      if op = opAccept ∧ (s.map.proposals.any fun p => p.op == opWithdraw && p.rec_.same n) then s
      else
        let u := if op = opWithdraw then s.onMap fun m => { m with
            proposals := m.proposals.filter fun p => !(p.op == opAccept && p.rec_.same n) } else s
        let v := u.noteStored u.device op src n
        State.settleVerdict ((v.keepers.filter (· != v.device)).foldl (fun s k => s.sendMsg k 0 0 (.stored n)) v) n := by
  unfold State.takeProposal
  refine (if_neg (by rw [hk]; decide)).trans ((if_neg ?_).trans ?_)
  · rintro ⟨hop, -, hold⟩
    rcases he with h | h
    · exact hop h
    · exact h hold
  · rfl

theorem State.takeProposal_none (h : s.outcome op src r = none) : s.takeProposal op src r = s := by
  rw [State.takeProposal_current hk he, h]

theorem State.takeProposal_first (h : s.outcome op src r = some n) (hnone : s.map.proposals = []) :
    s.takeProposal op src r = State.settleVerdict ((s.keepers.filter (· != s.device)).foldl (fun x k => x.sendMsg k 0 0 (.stored n))
      (s.onMap fun m => { m with proposals := [{ op := op, src := src, rec_ := n, stored := [s.device], wale := s.wale }] })) n := by
  have hmap : (s.onMap fun m => { m with proposals := m.proposals.filter fun p => !(p.op == opAccept && p.rec_.same n) }) = s := by
    simp only [State.onMap, hnone, List.filter_nil]
    rw [← hnone]
  have hstored : s.noteStored s.device op src n =
      s.onMap fun m => { m with proposals := [{ op := op, src := src, rec_ := n, stored := [s.device], wale := s.wale }] } := by
    simp only [State.noteStored, hnone, List.find?_nil, State.onMap, List.nil_append]
  rw [State.takeProposal_current hk he, h]
  dsimp only
  rw [hmap, ite_self, hstored, hnone]
  exact if_neg fun h => Bool.false_ne_true h.2

end AtKeeper

theorem exec_proposal {e : Instr × Nat} (h : e ∈ [(Instr.proposeCreate src r, opCreate), (.proposeOffer src r, opOffer),
    (.proposeAccept src r, opAccept), (.proposeWithdraw src r, opWithdraw), (.proposeSeize src r, opSeize),
    (.proposeReturn src r, opReturn)]) (s : State) : exec e.1 s = .next (s.takeProposal e.2 src r) ∧ e.2 ≠ opFate := by
  simp only [List.mem_cons, List.not_mem_nil, or_false] at h
  rcases h with rfl | rfl | rfl | rfl | rfl | rfl
  all_goals exact ⟨rfl, by dsimp only; decide⟩

theorem when_eq_some {b : Bool} {x y : MapRec} (h : (if b then some x else none) = some y) : b = true ∧ x = y := by
  cases b with
  | true => exact ⟨rfl, Option.some.inj h⟩
  | false => cases h

theorem State.outcome_accept (h : s.outcome opAccept src r = some n) : (s.current r).state = 1 ∧ (s.current r).taker = src ∧
    n.holder = src ∧ n.state = 0 ∧ n.epoch = (s.current r).epoch + 1 := by
  obtain ⟨hb, rfl⟩ := when_eq_some (show (if _ then some _ else none) = some n from h)
  simp only [Bool.and_eq_true, beq_iff_eq] at hb
  exact ⟨hb.1, hb.2, rfl, rfl, rfl⟩

theorem State.outcome_offer (h : s.outcome opOffer src r = some n) : (s.current r).state = 0 ∧ (s.current r).holder = src ∧ n.state = 1 ∧
    n.taker = r.taker ∧ n.epoch = (s.current r).epoch ∧ devRing r.taker = devRing src := by
  obtain ⟨hb, rfl⟩ := when_eq_some (show (if _ then some _ else none) = some n from h)
  simp only [Bool.and_eq_true, beq_iff_eq] at hb
  obtain ⟨⟨⟨⟨hstate, hholder⟩, hring⟩, -⟩, -⟩ := hb
  exact ⟨hstate, hholder, rfl, rfl, rfl, hring.symm⟩

theorem State.outcome_withdraw (h : s.outcome opWithdraw src r = some n) : (s.current r).state = 1 ∧ (s.current r).holder = src ∧
    n.state = 0 ∧ n.epoch = (s.current r).epoch := by
  obtain ⟨hb, rfl⟩ := when_eq_some (show (if _ then some _ else none) = some n from h)
  simp only [Bool.and_eq_true, beq_iff_eq] at hb
  exact ⟨hb.1, hb.2, rfl, rfl⟩

theorem State.outcome_seize (h : s.outcome opSeize src r = some n) : s.fateOf (s.current r).holder ≠ none ∧ n.holder = src ∧
    n.epoch = (s.current r).epoch + 1 := by
  obtain ⟨hb, rfl⟩ := when_eq_some (show (if _ then some _ else none) = some n from h)
  refine ⟨fun hnone => ?_, rfl, rfl⟩
  rw [hnone] at hb
  exact Bool.false_ne_true hb

theorem exec_proposeFate (src : DevNo) (r : MapRec) (s : State) : exec (.proposeFate src r) s = .next (s.takeFateProposal src r).finish := rfl

theorem State.takeFateProposal_notKeeper (h : s.isKeeper = false) : s.takeFateProposal src r = s :=
  (if_neg fun h' => absurd h'.1 (by rw [h]; decide)).trans (State.takeProposal_notKeeper h)

theorem State.takeFateProposal_fail (hk : s.isKeeper = true) (hkind : r.kind = 1) (hstate : r.state = 1) (hsrc : src ≠ r.holder) :
    s.takeFateProposal src r = s.onMap fun m => { m with failedNamed := s.seenNow m.failedNamed r.holder } :=
  if_pos ⟨hk, hkind, hstate, hsrc⟩

theorem exec_vote (src : DevNo) (r : MapRec) (s : State) : exec (.vote src r) s = .next (State.finish (if s.isKeeper ∧ s.keepers.contains src
    then (s.noteStored src 7 r.holder r).settleVerdict r else s)) := rfl

theorem exec_stored (src : DevNo) (r : MapRec) (s : State) : exec (.stored src r) s = .next (State.finish (if s.isKeeper ∧ s.keepers.contains src
    then (s.noteStored src 0 r.holder r).settleVerdict r else s)) := rfl

theorem State.settleVerdict_of_find {p : Proposal} (h : s.map.proposals.find? (fun q => q.rec_ == r) = some p) :
    s.settleVerdict r = if r.verdict && s.twoKeepers p then s.commitRec p else s := by
  rw [State.settleVerdict, h]

end Proposals

/-! ### A keeper replaced, and a replay (R538, R552) -/

section Replay
variable {s : State}

theorem exec_keeperCopyComplete (s : State) : exec .keeperCopyComplete s = .next s.keeperCopied := rfl

theorem State.keeperCopied_idle (h : s.map.newKeeper = none ∨ s.map.copying = false) : s.keeperCopied = s := by
  unfold State.keeperCopied
  rcases h with h | h
  · rw [h]
  · rw [h]
    split <;> rfl

theorem State.keeperCopied_done {i : Nat} {d : DevNo} (h : s.map.newKeeper = some (i, d)) (hc : s.map.copying = true) :
    s.keeperCopied = State.noteStored ((s.onMap fun m => { m with copying := false, newKeeper := none }).propose opFate
      (MapRec.blank 5 d d (BitVec.ofNat 64 i))) s.device opFate s.device (MapRec.blank 5 d d (BitVec.ofNat 64 i)) := by
  unfold State.keeperCopied
  rw [h]
  exact if_pos hc

theorem exec_failoverReplayStart (s : State) : exec .failoverReplayStart s = .next s.replayStart.finish := rfl

theorem State.replayStart_none (h : s.map.failover = none) : s.replayStart = s := by rw [State.replayStart, h]

theorem State.replayStart_helper {f : Failover} (h : s.map.failover = some f) (ha : f.adopter = false) :
    s.replayStart = s.onMap fun m => { m with failover := none } := by
  rw [State.replayStart, h]
  exact if_pos (by rw [ha]; rfl)

/-- The tracks of a predecessor that its adopter takes over, and their templates. -/
def State.adoptTrack (run : TrackRun) (s : State) (t : TrackRec) : State :=
  s.onSched fun x => { x with tracks := x.tracks.put (16 + t.track) t, runs := x.runs.put (16 + t.track) run }

def State.adoptTracks (s : State) (ts : List TrackRec) (run : TrackRun) : State := ts.foldl (State.adoptTrack run) s

def State.adoptTemplates (s : State) (ts : List Template) (named : List Nat) : State :=
  ts.foldl (fun s t => if named.contains t.track then s.onSched fun x => { x with templates := x.templates.put (65536 + t.id) t } else s) s

/-- The run of a track that was another device's. -/
def Failover.run (f : Failover) : TrackRun :=
  { next := 0, open_ := [], ended := false, failed := false, served := [], adoptedFrom := some f.dev }

theorem State.replayStart_adopter {f : Failover} {w : WeaveImage} (h : s.map.failover = some f) (ha : f.adopter = true)
    (hw : s.weave.running = some w) : s.replayStart = State.adoptTemplates (State.adoptTracks
      (s.onMap fun m => { m with failover := none }) (w.predTracks.filter fun t => (maskTracks f.tracks).contains t.track) f.run)
      w.predTemplates (maskTracks f.tracks) := by
  rw [State.replayStart, h]
  refine (if_neg (by rw [ha]; decide)).trans ?_
  have hw' : (s.onMap fun m => { m with failover := none }).weave.running = some w := hw
  rw [hw']
  rfl

/-- What taking tracks and templates over leaves, beside the schedule. -/
def State.offSched (s : State) : Mem × Table Word × MapS := (s.mem, s.regs, s.map)

theorem State.adoptTracks_offSched (ts : List TrackRec) (run : TrackRun) (s : State) : (s.adoptTracks ts run).offSched = s.offSched :=
  foldl_unchanged State.offSched (f := State.adoptTrack run) (fun _ _ => rfl) ts s

theorem State.adoptTemplates_offSched (ts : List Template) (named : List Nat) (s : State) :
    (s.adoptTemplates ts named).offSched = s.offSched := by
  refine foldl_unchanged State.offSched (fun u t => ?_) ts s
  split <;> rfl

theorem State.adoptTemplates_tracks (ts : List Template) (named : List Nat) (s : State) :
    (s.adoptTemplates ts named).sched.tracks = s.sched.tracks := by
  refine foldl_unchanged (fun u : State => u.sched.tracks) (fun u t => ?_) ts s
  split <;> rfl

theorem Table.mem_put_same {α : Type} (t : Table α) (k : Nat) (v : α) : (k, v) ∈ t.put k v :=
  List.mem_of_find?_eq_some (Table.find?_put_same ..)

theorem Table.mem_put_other {α : Type} {t : Table α} {k : Nat} {v : α} {e : Nat × α} (he : e ∈ t) (h : e.1 ≠ k) : e ∈ t.put k v := by
  induction t with
  | nil => cases he
  | cons a r ih =>
    rw [Table.put]
    split
    · exact List.mem_cons_of_mem _ he
    · split
      next hk =>
        rcases List.mem_cons.1 he with rfl | he
        · exact absurd hk.symm h
        · exact List.mem_cons_of_mem _ he
      next =>
        rcases List.mem_cons.1 he with rfl | he
        · exact List.mem_cons_self
        · exact List.mem_cons_of_mem _ (ih he)

theorem Table.any_put_of_any {α : Type} {t : Table α} {k n : Nat} {v : α} (h : t.any (fun e => e.1 == n) = true) :
    (t.put k v).any (fun e => e.1 == n) = true := by
  obtain ⟨e, he, hn⟩ := List.any_eq_true.1 h
  by_cases hk : e.1 = k
  · exact List.any_eq_true.2 ⟨_, Table.mem_put_same t k v, by rwa [hk] at hn⟩
  · exact List.any_eq_true.2 ⟨e, Table.mem_put_other he hk, hn⟩

theorem State.adoptTracks_any {run : TrackRun} {n : Nat} (ts : List TrackRec) (s : State) (h : (∃ t ∈ ts, 16 + t.track = n) ∨
    s.sched.tracks.any (fun e => e.1 == n) = true) : (s.adoptTracks ts run).sched.tracks.any (fun e => e.1 == n) = true := by
  induction ts generalizing s with
  | nil =>
    rcases h with ⟨t, ht, -⟩ | h
    · cases ht
    · exact h
  | cons t ts ih =>
    refine ih _ ?_
    rcases h with ⟨x, hx, hn⟩ | h
    · rcases List.mem_cons.1 hx with rfl | hx
      · right
        subst hn
        exact List.any_eq_true.2 ⟨_, Table.mem_put_same .., beq_self_eq_true _⟩
      · exact .inl ⟨x, hx, hn⟩
    · exact .inr (Table.any_put_of_any h)

end Replay

/-! ### Records that arrive (R537) -/

section Records
variable {s : State} {r : MapRec}

theorem MapRec.same_self (r : MapRec) : r.same r = true := by simp [MapRec.same]

theorem exec_notice (r : MapRec) (s : State) : exec (.notice r) s = .next (s.takeRecord r).finish := rfl
theorem exec_answer (r : Option MapRec) (s : State) : exec (.answer r) s = .next (s.takeMapAnswer r).finish := rfl
theorem exec_mapQuery (src : DevNo) (k : BitVec 8) (key : Word) (s : State) : exec (.mapQuery src k key) s = .next (if s.isKeeper then
    s.sendMsg src 0 0 (.mapAnswer (s.map.records.find? fun r => r.kind == k.toNat && r.key == key)) else s) := rfl

theorem State.takeRecord_old {o : MapRec} (ho : s.recOf r = some o) (he : r.epoch < o.epoch) :
    s.takeRecord r = s.flag F.mapStatus_epochDiscard { index := r.kind, arg := r.key } := by
  refine if_pos ?_
  rw [ho]
  exact decide_eq_true he

theorem State.putRec_recOf : (s.putRec r).recOf r = some r := by
  have hnone : (s.map.records.filter fun x => !r.same x).find? r.same = none := by
    rw [List.find?_eq_none]
    intro x hx
    simpa using (List.mem_filter.1 hx).2
  change List.find? r.same (_ ++ [r]) = some r
  rw [List.find?_append, hnone, List.find?_cons_of_pos r.same_self]
  rfl

theorem State.mem_putRec {x : MapRec} (hx : x ∈ s.map.records) (h : r.same x = false) : x ∈ (s.putRec r).map.records :=
  List.mem_append_left _ (List.mem_filter.2 ⟨hx, by rw [h]; rfl⟩)

/-- Which device this is, and whose tracks it has adopted. -/
def State.standIn (s : State) : DevNo × Option DevNo := (s.device, s.map.adopted)

theorem State.setF_standIn (f : Fld) (i v : Nat) : (s.setF f i v).standIn = s.standIn := rfl

theorem State.dropCmd_standIn : (s.onMap fun m => { m with cmd := none }).standIn = s.standIn := rfl

theorem State.mapEnd_standIn (code : Nat) (o : Option MapRec) : (s.mapEnd code o).standIn = s.standIn := by
  unfold State.mapEnd
  rw [State.dropCmd_standIn]
  simp only [State.setF_standIn]

theorem State.unhold_standIn (c : Nat) : (s.unhold c).standIn = s.standIn := rfl

/-- A change that is resolved is awaited no longer; which device this is and whose tracks it adopted stays. -/
theorem State.resolved_standIn : (s.resolved r).standIn = s.standIn := by
  unfold State.resolved
  extract_lets u v
  have hv : v.standIn = s.standIn := by
    change (if _ then u.unhold causeBoundary else u).standIn = _
    rw [apply_ite State.standIn, State.unhold_standIn, ite_self]
    rfl
  split
  · rw [apply_ite State.standIn, State.mapEnd_standIn, ite_self, hv]
  · exact hv

/-- A lease that two other devices hand over is noted here and no more. -/
theorem State.takeRecord_others (ho : s.recOf r = none) (hkind : r.kind = 2 ∨ r.kind = 3 ∨ r.kind = 4) (hstate : r.state = 1)
    (hholder : r.holder ≠ s.device) (htaker : r.taker ≠ s.device) (had : s.map.adopted = none) :
    s.takeRecord r = (s.putRec r).resolved r := by
  have hdev : ((s.putRec r).resolved r).device = s.device := congrArg Prod.fst (State.resolved_standIn (s := s.putRec r) (r := r))
  have hadopted : ((s.putRec r).resolved r).map.adopted = none :=
    (congrArg Prod.snd (State.resolved_standIn (s := s.putRec r) (r := r))).trans had
  have hlease : ((s.putRec r).resolved r).takeLease r = (s.putRec r).resolved r :=
    (if_pos hstate).trans ((if_neg (by rw [hdev]; exact hholder)).trans (if_neg (by rw [hdev]; exact htaker)))
  have hreturn : ((s.putRec r).resolved r).returnAll = (s.putRec r).resolved r := by
    rw [State.returnAll, hadopted]
  have h1 : r.kind ≠ 1 := by omega
  have h5 : r.kind ≠ 5 := by omega
  unfold State.takeRecord
  rw [ho]
  refine (if_neg Bool.false_ne_true).trans ((if_neg (by simp)).trans ((if_neg h1).trans ((if_neg h5).trans ?_)))
  rw [hlease, hreturn]

theorem State.takeMapAnswer_none (hcmd : s.map.cmd = none) (hlen : 2 ≤ s.map.awaiting.length) :
    s.takeMapAnswer none = s.onMap fun m => { m with awaiting := m.awaiting.drop 1 } := by
  have hmore : (s.map.awaiting.drop 1).isEmpty = false := by
    rw [List.isEmpty_eq_false_iff, ← List.length_pos_iff, List.length_drop]
    omega
  unfold State.takeMapAnswer
  dsimp only [State.onMap]
  rw [hmore, hcmd]
  rfl

end Records

/-- Settles O47: beats and their answers, isolation, votes, proposals by what they make of the record, verdicts, replay and records. -/
theorem mapCommandsComplete : Obligations.MapCommandsComplete := by
  unfold Obligations.MapCommandsComplete
  refine ⟨fun s => ⟨fun hsleep => ?_, fun hawake => ?_⟩,
    fun src d s => ⟨fun hno => ?_, fun hk hf => ?_, fun hno => ?_, fun hk => ?_⟩,
    fun s => ⟨fun hnear => ?_, fun hfar hmode => ?_⟩,
    fun d s => ⟨fun hno => ?_, fun hk hd hasleep hring hfate hpast => ?_⟩,
    fun src r s e he => ?_,
    fun src r n s => ⟨State.outcome_accept, State.outcome_offer, State.outcome_withdraw, State.outcome_seize⟩,
    fun src r s => ⟨fun hk => ?_, fun hk hkind hstate hsrc => ?_, fun hno => ?_, fun hk hsrc => ?_⟩,
    fun r p s hp => ⟨fun hno => ?_, fun hv h2 => ?_⟩,
    fun s => ⟨fun hno => ?_, fun i d hnew hcopy => ?_, fun hnone => ?_, fun f hf ha => ?_, fun f w hf ha hw => ?_⟩,
    fun r s => ⟨rfl, rfl, fun o ho he => ?_, State.takeRecord_others, State.putRec_recOf, fun x => State.mem_putRec⟩,
    fun src k key s => ⟨fun hk => ?_, fun hk => ?_⟩, fun s hcmd hlen => ?_⟩
  · rw [exec_beatTimer, if_pos hsleep]
  · rw [exec_beatTimer, if_neg hawake, State.sendBeats]
  · rw [exec_beat, State.takeBeat_ignored hno]
  · rw [exec_beat, State.takeBeat_heard hk hf]
    exact ⟨_, rfl, lastSeen_seenNow_same _ d, fun e he => lastSeen_seenNow_other _ he, rfl⟩
  · rw [exec_beatAck, if_neg (by rw [hno]; decide)]
  · rw [exec_beatAck, if_pos hk]
    exact ⟨_, rfl, lastSeen_seenNow_same _ d, rfl⟩
  · rw [exec_isolateTimeout, State.isolate_near hnear]
  · rw [exec_isolateTimeout, State.isolate_far hfar hmode]
    obtain ⟨hm, hisolated, hrecords, hruns⟩ := s.isolatedWork_effect
    have hinner := State.flag_inner s.isolatedWork F.mapStatus_isolated {} 0
    have hflagmode := State.mode_of_inner hinner
    have hflagmap := State.map_of_inner hinner
    have hflagsvc := State.svc_of_inner hinner
    have hflagsched := State.sched_of_inner hinner
    refine ⟨_, rfl, hflagmode.trans hm, by rw [hflagmap, hisolated], State.getF_flag_same _ _ _ _ (by decide) (by decide) rfl,
      by rw [hflagsvc, hrecords], ?_⟩
    rw [hflagsched]
    exact hruns
  · rw [exec_voteTimer, State.castVote_none hno]
  · rw [exec_voteTimer, State.castVote_silent hk hd hasleep hring hfate hpast]
  · obtain ⟨hexec, hfate⟩ := exec_proposal he s
    rw [hexec]
    refine ⟨fun hk => ?_, fun hk hop hold => ?_, fun hk hcur hnone => ?_, fun n hk hcur hsome hprops => ?_⟩
    · rw [State.takeProposal_notKeeper hk]
    · rw [State.takeProposal_old hk hop hfate hold]
      exact ⟨_, rfl, State.getF_flag_same _ _ _ _ (by decide) (by decide) rfl, State.map_of_inner (State.flag_inner ..), State.out_flag ..⟩
    · rw [State.takeProposal_none hk hcur hnone]
    · rw [State.takeProposal_first hk hcur hsome hprops]
      exact ⟨_, rfl, rfl, rfl⟩
  · rw [exec_proposeFate, State.takeFateProposal_notKeeper hk]
  · rw [exec_proposeFate, State.takeFateProposal_fail hk hkind hstate hsrc]
    exact ⟨_, rfl, lastSeen_seenNow_same _ _, rfl⟩
  · have hnot : ¬ (s.isKeeper = true ∧ s.keepers.contains src = true) := by
      rintro ⟨hk, hsrc⟩
      rcases hno with h | h
      · exact absurd hk (by rw [h]; decide)
      · exact absurd hsrc (by rw [h]; decide)
    rw [exec_vote, exec_stored, if_neg hnot, if_neg hnot]
    exact ⟨rfl, rfl⟩
  · rw [exec_vote, exec_stored, if_pos ⟨hk, hsrc⟩, if_pos ⟨hk, hsrc⟩]
    exact ⟨rfl, rfl⟩
  · rw [State.settleVerdict_of_find hp, if_neg]
    rcases hno with h | h <;> simp [h]
  · rw [State.settleVerdict_of_find hp, if_pos (by rw [hv, h2]; rfl)]
  · rw [exec_keeperCopyComplete, State.keeperCopied_idle hno]
  · rw [exec_keeperCopyComplete, State.keeperCopied_done hnew hcopy]
    exact ⟨_, rfl, rfl⟩
  · rw [exec_failoverReplayStart, State.replayStart_none hnone]
  · rw [exec_failoverReplayStart, State.replayStart_helper hf ha]
  · rw [exec_failoverReplayStart, State.replayStart_adopter hf ha hw]
    have hrest := (State.adoptTemplates_offSched w.predTemplates (maskTracks f.tracks) _).trans (State.adoptTracks_offSched
      (w.predTracks.filter fun t => (maskTracks f.tracks).contains t.track) f.run (s.onMap fun m => { m with failover := none }))
    have hmap := congrArg (fun e => e.2.2.failover) hrest
    have hmem := congrArg (fun e => e.1) hrest
    have hregs := congrArg (fun e => e.2.1) hrest
    refine ⟨_, rfl, hmap, hmem, hregs, fun t ht hmask => ?_⟩
    rw [State.adoptTemplates_tracks]
    exact State.adoptTracks_any _ _ (.inl ⟨t, List.mem_filter.2 ⟨ht, by simpa using hmask⟩, rfl⟩)
  · rw [State.takeRecord_old ho he]
    have hinner := State.flag_inner s F.mapStatus_epochDiscard { index := r.kind, arg := r.key } 0
    have hmap := State.map_of_inner hinner
    exact ⟨State.getF_flag_same _ _ _ _ (by decide) (by decide) rfl, by rw [hmap], State.out_flag ..⟩
  · rw [exec_mapQuery, if_neg (by rw [hk]; decide)]
  · rw [exec_mapQuery, if_pos hk]
  · rw [exec_answer, State.takeMapAnswer_none hcmd hlen]

end Sys2Proof.Machine

end

section

namespace Sys2Proof.Machine

/-! ### What wiping the tiers leaves of which device this is -/

section WipeClock
variable (s : State)

theorem State.device_of_clock {s u : State} (h : u.clock = s.clock) : u.device = s.device := congrArg (fun e => e.1) h

@[simp] theorem State.onCell_clock (g) : (s.onCell g).clock = s.clock := rfl
@[simp] theorem State.onSrch_clock (g) : (s.onSrch g).clock = s.clock := rfl
@[simp] theorem State.onMap_clock (g) : (s.onMap g).clock = s.clock := rfl
@[simp] theorem State.clearCell_clock (c) : (s.clearCell c).clock = s.clock := rfl
@[simp] theorem State.makeReady_clock (ws) : (s.makeReady ws).clock = s.clock := rfl
@[simp] theorem State.setDrive_clock (d v) : (s.setDrive d v).clock = s.clock := rfl
@[simp] theorem State.setImage_clock (i v) : (s.setImage i v).clock = s.clock := rfl
@[simp] theorem State.opResult_clock (b c) : (s.opResult b c).clock = s.clock := rfl
@[simp] theorem State.tierEvent_clock (e) : (s.tierEvent e).clock = s.clock := rfl

@[simp] theorem State.opEnd_clock (op b c) : (s.opEnd op b c).clock = s.clock := by
  unfold State.opEnd
  simp

@[simp] theorem State.freeT2_clock (d st n) : (s.freeT2 d st n).clock = s.clock := by
  unfold State.freeT2
  split
  · rfl
  · simp

@[simp] theorem State.sealDone_clock (b o c) : (s.sealDone b o c).clock = s.clock := by
  unfold State.sealDone
  split <;> simp

@[simp] theorem State.abortSeal_clock (b c) : (s.abortSeal b c).clock = s.clock := by
  unfold State.abortSeal
  simp
  split
  · rfl
  · split
    · simp [*]
    · split <;> simp

@[simp] theorem State.compact_clock (d) : (s.compact d).clock = s.clock := rfl

@[simp] theorem State.catAppend_clock (d b op sectors lba) : (s.catAppend d b op sectors lba).clock = s.clock := by
  simp [State.catAppend]

@[simp] theorem State.dropRef_clock (i) : (s.dropRef i).clock = s.clock := by
  unfold State.dropRef
  split
  · rfl
  · simp

@[simp] theorem State.unbindImage_clock (b) : (s.unbindImage b).clock = s.clock := by
  unfold State.unbindImage
  split
  · rfl
  · split <;> simp

theorem State.clearMem_clock (m : Mem) : ({ s with mem := m } : State).clock = s.clock := rfl

@[simp] theorem State.freeBlock_clock (b) : (s.freeBlock b).clock = s.clock := by
  unfold State.freeBlock
  extract_lets u e v w x y z fresh t reads
  have hu : u.clock = s.clock := by simp [u]
  have hw : w.clock = s.clock := by
    dsimp only [w]
    split <;> simp [v, hu]
  have hx : x.clock = s.clock := by
    dsimp only [x]
    split <;> simp [hw]
  have hz : z.clock = s.clock := ((y.clearMem_clock _).trans (x.unbindImage_clock b)).trans hx
  simpa [t] using hz

@[simp] theorem State.wipeFrames_clock : s.wipeFrames.clock = s.clock := by
  unfold State.wipeFrames
  refine State.clock_foldl _ (fun u e => ?_) _ s
  dsimp only
  split <;> simp

end WipeClock

theorem State.getF_onMap (s : State) (g : MapS → MapS) (f : Fld) (i : Nat) : (s.onMap g).getF f i = s.getF f i := rfl

theorem State.mem_onMap (s : State) (g : MapS → MapS) : (s.onMap g).mem = s.mem := rfl

/-! ### Leases handed over (R540 to R544) -/

section Handovers
variable {s : State} {k : BitVec 8} {key : Word}

theorem exec_offerExpiry (k : BitVec 8) (key : Word) (s : State) : exec (.offerExpiry k key) s = .next (s.offerExpires k key) := rfl
theorem exec_handoverStateComplete (k : BitVec 8) (key : Word) (s : State) :
    exec (.handoverStateComplete k key) s = .next (s.stateComplete k key) := rfl
theorem exec_handoverRelease (k : BitVec 8) (key : Word) (s : State) :
    exec (.handoverRelease k key) s = .next (s.releaseLease k key).finish := rfl

theorem State.offerExpires_none (h : s.leaseOf k key = none) : s.offerExpires k key = s := by rw [State.offerExpires, h]

theorem State.stateComplete_none (h : s.leaseOf k key = none) : s.stateComplete k key = s := by
  unfold State.stateComplete
  rw [h]
  split
  · next h' => cases h'
  · rfl

variable {r : MapRec} (hr : s.leaseOf k key = some r)
include hr

theorem State.offerExpires_early (h : s.isKeeper = false ∨ r.state ≠ 1 ∨
    s.wale.toNat < r.commitWale.toNat + s.act F.mapOfferWales_wales) : s.offerExpires k key = s := by
  rw [State.offerExpires, hr]
  refine if_neg ?_
  rintro ⟨hk, hstate, hwale⟩
  rcases h with h | h | h
  · exact absurd hk (by rw [h]; decide)
  · exact h hstate
  · exact absurd hwale (Nat.not_le.2 h)

omit hr in
/-- An offer whose time has passed, before the other keepers are told. -/
def State.offerGone (s : State) (key : Word) (r : MapRec) : State :=
  (s.flag F.mapStatus_offerExpired { index := r.kind, arg := key, tenant := r.tenant.toNat }).onMap fun m => { m with
    proposals := [{ op := opWithdraw, src := r.holder, rec_ := { r with state := 0, taker := 0 }, stored := [s.device], wale := s.wale }] }

omit hr in
/-- Who keeps the map is in the registers of the role. -/
theorem State.keepers_offerGone : (s.offerGone key r).keepers = s.keepers ∧ (s.offerGone key r).device = s.device := by
  have hinner := State.flag_inner s F.mapStatus_offerExpired { index := r.kind, arg := key, tenant := r.tenant.toNat } 0
  have hdev := State.device_of_inner hinner
  refine ⟨?_, hdev⟩
  have hrole (f : Fld) (h : f.off 0 ∉ recordRegs) (h' : f.off 0 ≠ F.mapStatus_offerExpired.off 0) :
      (s.offerGone key r).getF f = s.getF f := State.getF_flag_other _ _ h h'
  have hdev' : (s.offerGone key r).device = s.device := hdev
  simp only [State.keepers, List.map_cons, List.map_nil, hdev', hrole F.mapRole_keeper0X (by decide) (by decide),
    hrole F.mapRole_keeper1X (by decide) (by decide), hrole F.mapRole_keeper2X (by decide) (by decide)]

theorem State.offerExpires_late (hk : s.isKeeper = true) (hstate : r.state = 1)
    (hwale : r.commitWale.toNat + s.act F.mapOfferWales_wales ≤ s.wale.toNat) (hnone : s.map.proposals = []) :
    s.offerExpires k key = (s.keepers.filter (· != s.device)).foldl
      (fun x d => x.sendMsg d 0 0 (.stored { r with state := 0, taker := 0 })) (s.offerGone key r) := by
  have hinner := State.flag_inner s F.mapStatus_offerExpired { index := r.kind, arg := key, tenant := r.tenant.toNat } 0
  have hmap := State.map_of_inner hinner
  have hdev := State.device_of_inner hinner
  have hw := State.wale_of_inner hinner
  obtain ⟨hkeepers, hdevice⟩ := State.keepers_offerGone (s := s) (key := key) (r := r)
  rw [State.offerExpires, hr]
  refine (if_pos ⟨hk, hstate, hwale⟩).trans ?_
  have hstored : State.noteStored ((s.flag F.mapStatus_offerExpired { index := r.kind, arg := key, tenant := r.tenant.toNat }).onMap
      fun m => { m with proposals := m.proposals.filter fun p => !(p.op == opAccept && p.rec_.same { r with state := 0, taker := 0 }) })
      s.device opWithdraw r.holder { r with state := 0, taker := 0 } = s.offerGone key r := by
    simp only [State.noteStored, State.onMap, hmap, hnone, List.filter_nil, List.find?_nil, List.nil_append, hw, State.offerGone]
  dsimp only
  rw [show ((s.flag F.mapStatus_offerExpired { index := r.kind, arg := key, tenant := r.tenant.toNat }).onMap
      fun m => { m with proposals := m.proposals.filter fun p => !(p.op == opAccept && p.rec_.same { r with state := 0, taker := 0 }) }).device
      = s.device from hdev, hstored, hkeepers, hdevice]

theorem State.stateComplete_taken {h : Handover} (hh : s.map.handovers = [h]) (hkind : h.kind = k) (hkey : h.key = key)
    (hgiver : h.giver = false) (hacc : h.accepted = false) (hstate : r.state = 1) (htaker : r.taker = s.device) :
    s.stateComplete k key = (s.onMap fun m => { m with handovers := [{ h with accepted := true }] }).propose opAccept r := by
  have hfind : s.map.handovers.find? (fun h => h.kind == k && h.key == key) = some h := by
    rw [hh, List.find?_cons_of_pos (by rw [hkind, hkey, beq_self_eq_true, beq_self_eq_true]; rfl)]
  have hupd : updWhere (fun x => x == h) (fun x => { x with accepted := true }) s.map.handovers = [{ h with accepted := true }] := by
    rw [hh]
    simp [updWhere]
  unfold State.stateComplete
  rw [hfind, hr]
  refine (if_pos ⟨by rw [hgiver]; rfl, by rw [hacc]; rfl, hstate, htaker⟩).trans ?_
  simp only [State.onMap, hupd]

end Handovers

section Release
variable {s : State} {k : BitVec 8} {key : Word}

theorem State.releaseLease_none (h : ∀ h ∈ s.map.handovers, h.kind ≠ k ∨ h.key ≠ key ∨ h.giver = false ∨ h.accepted = false) :
    s.releaseLease k key = s := by
  have hfind : s.map.handovers.find? (fun h => h.kind == k && h.key == key && h.giver && h.accepted) = none := by
    rw [List.find?_eq_none]
    intro x hx hall
    simp only [Bool.and_eq_true, beq_iff_eq] at hall
    obtain ⟨⟨⟨hkind, hkey⟩, hgiver⟩, hacc⟩ := hall
    rcases h x hx with h | h | h | h
    · exact h hkind
    · exact h hkey
    · exact absurd hgiver (by rw [h]; decide)
    · exact absurd hacc (by rw [h]; decide)
  rw [State.releaseLease, hfind]

theorem State.releaseLease_request {h : Handover} (hh : s.map.handovers = [h]) (hkind : h.kind = k) (hkey : h.key = key)
    (hgiver : h.giver = true) (hacc : h.accepted = true) (hkept : h.kept = none) (hk : k = 2) :
    s.releaseLease k key = s.onMap fun m => { m with handovers := [] } := by
  have hfind : s.map.handovers.find? (fun h => h.kind == k && h.key == key && h.giver && h.accepted) = some h := by
    rw [hh, List.find?_cons_of_pos (by rw [hkind, hkey, hgiver, hacc, beq_self_eq_true, beq_self_eq_true]; rfl)]
  rw [State.releaseLease, hfind]
  dsimp only
  rw [hkept]
  refine (if_pos hk).trans ?_
  simp only [State.onMap, hh, List.erase_cons_head]

end Release

/-! ### Mirror transfers (R547) -/

section Mirrors
variable {s : State} {src : DevNo} {ep : BitVec 32} {i : MirrorItem}

theorem exec_mirrorTransfer (src : DevNo) (ep : BitVec 32) (i : MirrorItem) (s : State) :
    exec (.mirrorTransfer src ep i) s = .next (s.takeMirror src ep i).finish := rfl

theorem State.takeMirror_stale {k : Nat} {key : Word} (h : i.lease src = some (k, key)) (he : ep < s.leaseEpoch k key) :
    s.takeMirror src ep i = s.flag F.mapStatus_epochDiscard { index := devX src } := by
  unfold State.takeMirror
  rw [h]
  exact if_pos (decide_eq_true he)

variable (hlease : i.lease src = none ∨ ∃ k key, i.lease src = some (k, key) ∧ ¬ ep < s.leaseEpoch k key) (hmode : s.mode = .service)
include hlease

theorem State.mirror_present : ¬ (match i.lease src with
    | none => false
    | some (k, key) => decide (ep < s.leaseEpoch k key)) = true := by
  rcases hlease with h | ⟨k, key, h, he⟩
  · rw [h]
    exact Bool.false_ne_true
  · rw [h]
    simpa using he

include hmode

/-- A transfer of the present epoch in SERVICE waits for the partner's boundary. -/
theorem State.takeMirror_waits (hovers : s.map.handovers = []) (hctxs : s.svc.ctxs = []) (hi : ∀ w, i ≠ .boundary w) :
    s.takeMirror src ep i = s.onMap fun x => { x with mirrorOpen := x.mirrorOpen ++ [(src, i)] } := by
  have hrepair {u : State} (b : Bool) : (if s.mode = .repair ∧ b = true then u else s) = s := if_neg fun h => by rw [hmode] at h; cases h.1
  unfold State.takeMirror
  refine (if_neg (State.mirror_present hlease)).trans ?_
  dsimp only
  rw [hrepair]
  cases i with
  | boundary w => exact absurd rfl (hi w)
  | lines off data mask =>
    have hnone : s.regionComing src off = none := by
      rw [State.regionComing, hovers]
      rfl
    simp only [hnone]
  | ctx n c =>
    have hnone : s.heldCtx src c = none := by
      rw [State.heldCtx, hctxs]
      exact ite_self _
    simp only [hnone]
  | record | ring | extents | homes | atoms => rfl

theorem State.takeMirror_boundary {w : Wale} (hi : i = .boundary w) :
    s.takeMirror src ep i = (s.setMirror src (s.map.mirrorOpen.foldl (fun m e => if e.1 = src then m.take e.2 else m) (s.mirrorOf src))).onMap
      fun x => { x with mirrorOpen := x.mirrorOpen.filter fun e => e.1 != src } := by
  have hrepair {u : State} (b : Bool) : (if s.mode = .repair ∧ b = true then u else s) = s := if_neg fun h => by rw [hmode] at h; cases h.1
  unfold State.takeMirror
  refine (if_neg (State.mirror_present hlease)).trans ?_
  dsimp only
  rw [hrepair, hi]

end Mirrors

/-! ### Rehearsals (R571, R572) -/

section Rehearsals
variable {s : State}

theorem exec_rehearsal (s : State) : exec .rehearsal s = .next s.policyRehearsal.finish := rfl
theorem exec_rehearsalDeviceStop (s : State) : exec .rehearsalDeviceStop s = .next s.rehearsalStop.finish := rfl

theorem State.policyRehearsal_noImage (h : s.weave.running = none) : s.policyRehearsal = s := by
  rw [State.policyRehearsal, State.policy, h]

section Policy
variable {w : WeaveImage} {p : Policy} (hw : s.weave.running = some w)
  (hp : w.policies.filter (fun x => x.ring == devRing s.device && x.kinds != 0) = [p])
include hw hp

theorem State.policy_one : s.policy = (some p, s) := by
  rw [State.policy, hw]
  dsimp only
  rw [hp]

theorem State.policyRehearsal_notDue (h : s.wale < p.origin ∨ p.period = 0 ∨ (s.wale.toNat - p.origin.toNat) % max p.period 1 ≠ 0 ∨
    s.map.active ≠ none) : s.policyRehearsal = s := by
  rw [State.policyRehearsal, State.policy_one hw hp]
  exact if_pos (h.imp_right (Or.imp_right (Or.imp_right Option.isSome_iff_ne_none.2)))

theorem State.policyRehearsal_skipped (horigin : ¬ s.wale < p.origin) (hperiod : p.period ≠ 0)
    (hdue : (s.wale.toNat - p.origin.toNat) % max p.period 1 = 0) (hactive : s.map.active = none)
    (hno : s.mayRehearse = false ∨ p.daytime s.sched.start.toNat = false) :
    s.policyRehearsal = s.addF F.mapRehearsalCount_skipped 0 1 := by
  have hfalse : (s.mayRehearse && p.daytime s.sched.start.toNat) = false := by
    rcases hno with h | h <;> simp [h]
  rw [State.policyRehearsal, State.policy_one hw hp]
  refine (if_neg ?_).trans ?_
  · rintro (h | h | h | h)
    · exact horigin h
    · exact hperiod h
    · exact h hdue
    · rw [hactive] at h
      cases h
  · dsimp only
    rw [hfalse]
    exact if_pos rfl

end Policy

/-- A rehearsal begun for another device. -/
theorem State.rehearse_other (k n : Nat) {v : DevNo} (hv : v ≠ s.device) : s.rehearse k n v true =
    (((((s.addF F.mapRehearsalCount_run 0 1).flag F.mapStatus_rehearsal).setF F.mapRehearse_active 0 1).setF
      F.mapRehearse_lastKind 0 (2 ^ k)).onMap fun m => { m with active := some (k, v) }) := by
  have hdev : ((s.addF F.mapRehearsalCount_run 0 1).flag F.mapStatus_rehearsal).device = s.device :=
    State.device_of_inner ((State.flag_inner ..).trans (State.addF_inner ..))
  refine (if_neg (by decide)).trans (if_neg fun h => hv ?_)
  exact h.trans hdev

theorem State.rehearse_other_effect (k n : Nat) {v : DevNo} (hv : v ≠ s.device) : (s.rehearse k n v true).map.active = some (k, v) ∧
    (s.rehearse k n v true).getF F.mapStatus_rehearsal = 1 ∧ (s.rehearse k n v true).getF F.mapRehearse_active = 1 ∧
    (s.rehearse k n v true).mem = s.mem := by
  rw [State.rehearse_other k n hv]
  refine ⟨rfl, ?_, ?_, State.mem_flag ..⟩
  · rw [State.getF_onMap, State.getF_setF_off _ _ (by decide), State.getF_setF_off _ _ (by decide)]
    exact State.getF_flag_same _ _ _ _ (by decide) (by decide) rfl
  · rw [State.getF_onMap, State.getF_setF_disjoint _ _ (by decide) (by decide),
      State.getF_setF_same _ _ _ _ (by decide)]
    rfl

theorem State.rehearsalStop_due (hactive : s.map.active = some (0, s.device)) (hmode : s.mode = .service ∨ s.mode = .rest)
    (htime : s.sched.start.toNat + s.sched.lenUs * 500 ≤ s.stime.toNat) :
    s.rehearsalStop = (s.stopWork.setMode .quarantine).propose opFate (fateRec s.device (partnerOf s.device) 1 0 true) :=
  if_pos ⟨hactive, hmode, htime⟩

theorem State.rehearsalStop_notDue (h : s.map.active ≠ some (0, s.device) ∨ s.stime.toNat < s.sched.start.toNat + s.sched.lenUs * 500) :
    s.rehearsalStop = s := by
  refine if_neg ?_
  rintro ⟨hactive, -, htime⟩
  rcases h with h | h
  · exact h hactive
  · exact absurd htime (Nat.not_le.2 h)

end Rehearsals

/-! ### The commands of MAP_CMD -/

section MapCommand
variable {s : State}

/-- The state in which operation `n` of MAP_CMD has been taken. -/
abbrev State.mapTaken (s : State) (d : RegDesc) (w : Word) (n : Nat) : State :=
  s.cmdTaken d F.mapCmd_op F.mapCmd_busy 0 (putBits w 0 4 n)

/-- What operation `n` of MAP_CMD does. -/
def State.mapRun (v : State) : Nat → State
  | 1 => v.mapLookupRun
  | 2 => v.mapOfferRun
  | 3 => v.mapWithdrawRun
  | 4 => v.declareRun
  | 5 => v.repairRun
  | _ => v.injectRun

theorem State.mapCommand_busy (h : s.getF F.mapCmd_busy = 1) (w : Word) : s.mapCommand w = s := if_pos h

theorem State.mapCommand_taken {d : RegDesc} {w : Word} {n : Nat}
    (h : s.cmdReady d F.mapCmd_op F.mapCmd_busy 0 (putBits w 0 4 n)) (hz : 1 ≤ n) (hn : n ≤ 6) :
    s.mapCommand (putBits w 0 4 n) = (s.mapTaken d w n).mapRun n := by
  have hop : (s.cmdWritten d F.mapCmd_op 0 (putBits w 0 4 n)).getF F.mapCmd_op = n := by
    rw [h.getF (by decide +kernel) rfl rfl]
    exact (fieldOf_putBits_same w 0 4 n (by omega)).trans (Nat.mod_eq_of_lt (by omega))
  have htaken : (s.cmdWritten d F.mapCmd_op 0 (putBits w 0 4 n)).setF F.mapCmd_busy 0 1 = s.mapTaken d w n := rfl
  have hnz : n ≠ 0 := by omega
  simp only [State.mapCommand, h.idle, h.cleanWrite, h.writeReg, hop, hnz, htaken, if_false]
  obtain rfl | rfl | rfl | rfl | rfl | rfl : n = 1 ∨ n = 2 ∨ n = 3 ∨ n = 4 ∨ n = 5 ∨ n = 6 := by omega
  all_goals rfl

theorem exec_mapCommand {c : Word → Instr} {n : Nat} (h : (c, n) ∈ [(Instr.mapLookup, 1), (.mapOffer, 2), (.mapWithdraw, 3), (.declare, 4),
    (.repair, 5), (.inject, 6)]) (w : Word) (s : State) : exec (c w) s = .next (s.mapCommand (putBits w 0 4 n)).finish ∧ 1 ≤ n ∧ n ≤ 6 := by
  simp only [List.mem_cons, Prod.mk.injEq, List.not_mem_nil, or_false] at h
  rcases h with ⟨rfl, rfl⟩ | ⟨rfl, rfl⟩ | ⟨rfl, rfl⟩ | ⟨rfl, rfl⟩ | ⟨rfl, rfl⟩ | ⟨rfl, rfl⟩
  all_goals exact ⟨rfl, by decide, by decide⟩

theorem State.mapLookupRun_found {x : MapRec} (hk : s.isKeeper = true) (h : s.recOf s.mapArg = some x) :
    s.mapLookupRun = s.mapEnd 0 (some x) := by
  unfold State.mapLookupRun
  refine (if_pos hk).trans ?_
  rw [h]
  rfl

theorem State.mapLookupRun_absent (hk : s.isKeeper = true) (h : s.recOf s.mapArg = none) : s.mapLookupRun = s.mapEnd Code.absent.num none := by
  unfold State.mapLookupRun
  refine (if_pos hk).trans ?_
  rw [h]

theorem State.mapWithdrawRun_absent (h : s.recOf s.mapArg = none) : s.mapWithdrawRun = s.mapEnd Code.absent.num none := by
  unfold State.mapWithdrawRun
  dsimp only
  rw [h]

theorem State.mapWithdrawRun_offered {x : MapRec} (h : s.recOf s.mapArg = some x) (hstate : x.state = 1) (hholder : x.holder = s.device) :
    s.mapWithdrawRun = (s.onMap fun m => { m with cmd := some x }).propose opWithdraw x := by
  unfold State.mapWithdrawRun
  dsimp only
  rw [h]
  exact if_pos ⟨hstate, hholder⟩

theorem State.declareRun_other (hring : devRing s.mapDevice = devRing s.device) (hfate : s.fateOf s.mapDevice = none)
    (hdev : s.mapDevice ≠ s.device) : s.declareRun = (s.onMap fun m => { m with
      cmd := some (fateRec s.mapDevice (ringDev s.mapDevice (devX s.mapDevice + 1)) 1 0 false) }).propose
        opFate (fateRec s.mapDevice (ringDev s.mapDevice (devX s.mapDevice + 1)) 1 0 false) := by
  unfold State.declareRun
  refine (if_neg ?_).trans ?_
  · rw [hfate]
    rintro (h | h)
    · exact h hring
    · cases h
  · dsimp only
    rw [if_neg hdev]
    rfl

theorem State.injectRun_active (h : s.getF F.mapRehearse_active = 1) : s.injectRun = s.mapEnd Code.retry.num none := if_pos h

theorem State.injectRun_idle (h : s.getF F.mapRehearse_active ≠ 1) (hk : s.getF F.mapArg0_injectKind < 4) : s.injectRun =
    (s.onMap fun m => { m with injected := some (s.getF F.mapArg0_injectKind, s.mapDevice) }).mapEnd 0 none :=
  (if_neg h).trans (if_neg (Nat.not_le.2 hk))

/-- MAP_RESULT with its fields written. -/
def State.mapResultSet (s : State) (code st h t e : Nat) : State :=
  ((((s.setF F.mapResult_code 0 code).setF F.mapResult_state 0 st).setF F.mapResult_holder 0 h).setF F.mapResult_taker 0 t).setF
    F.mapResult_epoch 0 e

theorem State.mapResultSet_inner (code st h t e : Nat) : (s.mapResultSet code st h t e).inner = s.inner := by simp [State.mapResultSet]

theorem State.getF_mapResultSet {code : Nat} (hcode : code < 256) (st h t e : Nat) :
    (s.mapResultSet code st h t e).getF F.mapResult_code = code := by
  rw [State.mapResultSet, State.getF_setF_disjoint _ _ (by decide) (by decide), State.getF_setF_disjoint _ _ (by decide) (by decide),
    State.getF_setF_disjoint _ _ (by decide) (by decide), State.getF_setF_disjoint _ _ (by decide) (by decide),
    State.getF_setF_same _ _ _ _ (by decide)]
  exact Nat.mod_eq_of_lt hcode

theorem State.mapEnd_eq (code : Nat) (r : Option MapRec) : ∃ v : State, (∃ st h t e, v = s.mapResultSet code st h t e) ∧
    s.mapEnd code r = (v.setF F.mapCmd_busy 0 0).onMap fun m => { m with cmd := none } := by
  cases r with
  | none => exact ⟨_, ⟨0, 0, 0, 0, rfl⟩, rfl⟩
  | some r => exact ⟨_, ⟨r.state, r.holder.toNat, r.taker.toNat, r.epoch.toNat, rfl⟩, rfl⟩

theorem State.mapEnd_effect {code : Nat} (r : Option MapRec) (hcode : code < 256) : (s.mapEnd code r).getF F.mapResult_code = code ∧
    (s.mapEnd code r).getF F.mapCmd_busy = 0 ∧ (s.mapEnd code r).map = { s.map with cmd := none } ∧ (s.mapEnd code r).mem = s.mem := by
  obtain ⟨v, ⟨st, h, t, e, hv⟩, hend⟩ := s.mapEnd_eq code r
  have hcodev : v.getF F.mapResult_code = code := hv ▸ State.getF_mapResultSet hcode ..
  have hinner : v.inner = s.inner := hv ▸ State.mapResultSet_inner ..
  have hmap := State.map_of_inner hinner
  have hmem := State.mem_of_inner hinner
  rw [hend]
  refine ⟨?_, ?_, ?_, hmem⟩
  · rw [State.getF_onMap, State.getF_setF_off _ _ (by decide), hcodev]
  · rw [State.getF_onMap, State.getF_setF_same _ _ _ _ (by decide)]
    rfl
  · change { v.map with cmd := none } = _
    rw [hmap]

end MapCommand

/-! ### Repair (R562 to R564) -/

section Repair
variable {s : State}

theorem exec_repairSelfTestEnd (pass : Bool) (s : State) : exec (.repairSelfTestEnd pass) s = .next (s.selfTestEnd pass).finish := rfl
theorem exec_repairTimeout (s : State) : exec .repairTimeout s =
    .next (if s.mode = .repair ∧ 3 ≤ s.map.repairStep then s.repairFails.finish else s) := rfl
theorem exec_repairStateCurrent (lost : List Nat) (s : State) : exec (.repairStateCurrent lost) s = .next (s.stateCurrent lost).finish := rfl

theorem State.repairFails_effect : ∃ (u : State) (f : MapRec), s.repairFails = u.propose opFate f ∧ f.state = 4 ∧ u.mode = .quarantine ∧
    u.map.repairStep = 0 ∧ u.getF F.mapStatus_repairFail = 1 ∧ u.mem = s.mem := by
  refine ⟨_, _, rfl, rfl, State.setMode_mode _ _, ?_, ?_, ?_⟩
  · have hmap := State.map_of_inner (State.flag_inner (s.onMap fun m => { m with repairStep := 0 }) F.mapStatus_repairFail {} 0)
    rw [State.setMode_map, hmap]
    rfl
  · rw [State.getF_of_regs _ (State.setMode_regs ..) (State.setMode_code ..)]
    exact State.getF_flag_same _ _ _ _ (by decide) (by decide) rfl
  · rw [State.setMode_mem, State.mem_flag]
    rfl

theorem State.selfTestEnd_idle {pass : Bool} (h : s.mode ≠ .repair ∨ s.map.repairStep ≠ 3) : s.selfTestEnd pass = s := if_pos h

theorem State.selfTestEnd_fails (hmode : s.mode = .repair) (hstep : s.map.repairStep = 3) : s.selfTestEnd false = s.repairFails :=
  (if_neg fun h => h.elim (fun h => h hmode) (fun h => h hstep)).trans (if_pos rfl)

/-- A cell as a repair leaves it. -/
def State.repairCell (s : State) (c : Nat) : State :=
  if s.cellRun c = runOff then (s.clearCell c).setF F.cellState_run c runIdle else s.clearCell c

/-- The arrays of the device, to be calibrated anew. -/
def State.repairArrays (s : State) : State :=
  s.onSrch fun x => { x with
    calAt := (List.range (64 * s.code.soruses)).foldl (fun t a => t.put a (s.stime, ((x.calAt.get a (0, 0)).2))) x.calAt
    blocked := [] }

/-- The device with nothing in it, after the self-test of a repair. -/
def State.repairWiped (s : State) : State := ((List.range s.wipeFrames.code.cells).foldl State.repairCell s.wipeFrames).repairArrays

theorem State.device_repairWiped (s : State) : s.repairWiped.device = s.device := by
  refine State.device_of_clock ((State.onSrch_clock _ _).trans ((State.clock_foldl _ (fun u c => ?_) _ _).trans s.wipeFrames_clock))
  unfold State.repairCell
  split <;> rfl

theorem State.selfTestEnd_passes (hmode : s.mode = .repair) (hstep : s.map.repairStep = 3) : ∃ d, s.selfTestEnd true =
    (s.repairWiped.onMap fun m => { m with repairStep := 4 }).sendMsg d 3 0 (.state 4 (BitVec.ofNat 64 s.device.toNat)) := by
  refine ⟨((s.repairWiped.fateOf s.repairWiped.device).map (·.taker)).getD (partnerOf s.repairWiped.device), ?_⟩
  rw [← s.device_repairWiped]
  exact (if_neg fun h => h.elim (fun h => h hmode) (fun h => h hstep)).trans (if_neg (by decide))

theorem State.stateCurrent_otherStep {lost : List Nat} (hmode : s.mode = .repair) (hstep : s.map.repairStep ≠ 4) :
    s.stateCurrent lost = s := (if_pos hmode).trans (if_pos hstep)

theorem State.stateCurrent_notAdopter {lost : List Nat} (hmode : s.mode ≠ .repair) (had : s.map.adopted = none) :
    s.stateCurrent lost = s := by
  refine (if_neg hmode).trans ?_
  rw [had]

/-- The granules that could not be restored, each noted. -/
def State.noteGranulesLost (s : State) (n : Nat) (lost : List Nat) : State :=
  lost.foldl (fun s g => s.flag F.mapStatus_granulesLost { addr := saStore s.device (g * granuleBytes), arg := BitVec.ofNat 64 n }) s

theorem State.noteGranulesLost_inner (n : Nat) (lost : List Nat) : (s.noteGranulesLost n lost).inner = s.inner :=
  State.inner_foldl _ (fun _ _ => State.flag_inner ..) lost s

theorem State.getF_noteGranulesLost (n : Nat) (lost : List Nat) (s : State) (h : lost ≠ [] ∨ s.getF F.mapStatus_granulesLost = 1) :
    (s.noteGranulesLost n lost).getF F.mapStatus_granulesLost = 1 := by
  induction lost generalizing s with
  | nil => exact h.resolve_left fun h => h rfl
  | cons g r ih => exact ih _ (.inr (State.getF_flag_same _ _ _ _ (by decide) (by decide) rfl))

theorem State.stateCurrent_current {lost : List Nat} (hmode : s.mode = .repair) (hstep : s.map.repairStep = 4) : ∃ d, s.stateCurrent lost =
    ((s.noteGranulesLost lost.length lost).onMap fun m => { m with repairStep := 7 }).sendMsg d 3 0 (.state 7 (BitVec.ofNat 64 s.device.toNat)) := by
  have hdev : (s.noteGranulesLost lost.length lost).device = s.device := State.device_of_inner (State.noteGranulesLost_inner ..)
  refine ⟨(((s.noteGranulesLost lost.length lost).fateOf (s.noteGranulesLost lost.length lost).device).map (·.taker)).getD
    (partnerOf (s.noteGranulesLost lost.length lost).device), ?_⟩
  rw [← hdev]
  exact (if_pos hmode).trans (if_neg (not_not.2 hstep))

end Repair

/-- Settles O48: leases by their hand-over, mirrors by their epoch, rehearsals by the policy, MAP_CMD by its operation, repair by its step. -/
theorem recoveryComplete : Obligations.RecoveryComplete := by
  unfold Obligations.RecoveryComplete
  refine ⟨fun k key s => ⟨fun hnone => ?_, fun r hr => ⟨fun hearly => ?_, fun hk hstate hwale hprops => ?_,
        fun h hh hkind hkey hgiver hacc hstate htaker => ?_⟩, fun hnone => ?_, fun h hh hkind hkey hgiver hacc hkept hk => ?_⟩,
    fun src ep i s => ⟨fun k key hlease hold => ?_, fun hlease hmode hovers hctxs => ⟨fun hi => ?_, fun w j hi hopen => ?_⟩⟩,
    fun s => ⟨fun hnone => ?_, fun w p hw hp => ⟨fun hnot => ?_, fun horigin hperiod hdue hactive hno => ?_⟩,
      fun k n v hv hk => State.rehearse_other_effect k n hv, fun hactive hmode htime => ?_, fun hnot => ?_⟩,
    fun c n w d s hc => ?_,
    fun s => ⟨fun x => State.mapLookupRun_found, State.mapLookupRun_absent, State.mapWithdrawRun_absent,
      fun x => State.mapWithdrawRun_offered, State.declareRun_other, State.injectRun_active, fun hidle hk => ?_, fun code r hcode => ?_⟩,
    fun pass lost s => ⟨fun hidle => ?_, fun hidle => ?_, fun hmode hstep => ⟨?_, State.repairFails_effect⟩,
      fun hmode hstep => ⟨?_, ?_⟩, fun hmode hstep => ?_, fun hmode hstep => ?_, fun hmode had => ?_⟩⟩
  · rw [exec_offerExpiry, exec_handoverStateComplete, State.offerExpires_none hnone, State.stateComplete_none hnone]
    exact ⟨rfl, rfl⟩
  · rw [exec_offerExpiry, State.offerExpires_early hr hearly]
  · rw [exec_offerExpiry, State.offerExpires_late hr hk hstate hwale hprops]
    refine ⟨_, rfl, ?_, rfl, State.out_flag ..⟩
    exact State.getF_flag_same _ _ _ _ (by decide) (by decide) rfl
  · rw [exec_handoverStateComplete, State.stateComplete_taken hr hh hkind hkey hgiver hacc hstate htaker]
    exact ⟨_, rfl, rfl⟩
  · rw [exec_handoverRelease, State.releaseLease_none hnone]
  · rw [exec_handoverRelease, State.releaseLease_request hh hkind hkey hgiver hacc hkept hk]
  · rw [exec_mirrorTransfer, State.takeMirror_stale hlease hold]
    exact ⟨_, rfl, State.getF_flag_same _ _ _ _ (by decide) (by decide) rfl, State.map_of_inner (State.flag_inner ..), State.mem_flag ..⟩
  · rw [exec_mirrorTransfer, State.takeMirror_waits hlease hmode hovers hctxs hi]
  · rw [exec_mirrorTransfer, State.takeMirror_boundary hlease hmode hi]
    refine ⟨_, rfl, (Table.get_put_same ..).trans ?_, ?_, rfl⟩
    · rw [hopen]
      exact if_pos rfl
    · change s.map.mirrorOpen.filter _ = []
      rw [hopen]
      simp
  · rw [exec_rehearsal, State.policyRehearsal_noImage hnone]
  · rw [exec_rehearsal, State.policyRehearsal_notDue hw hp hnot]
  · rw [exec_rehearsal, State.policyRehearsal_skipped hw hp horigin hperiod hdue hactive hno]
  · rw [exec_rehearsalDeviceStop, State.rehearsalStop_due hactive hmode htime]
  · rw [exec_rehearsalDeviceStop, State.rehearsalStop_notDue hnot]
  · obtain ⟨hexec, hz, hn⟩ := exec_mapCommand hc w s
    rw [hexec]
    refine ⟨fun hbusy => by rw [State.mapCommand_busy hbusy], fun hready => ?_⟩
    rw [State.mapCommand_taken hready hz hn]
    rfl
  · obtain ⟨hcode, hbusy, hmap, -⟩ := State.mapEnd_effect
      (s := s.onMap fun m => { m with injected := some (s.getF F.mapArg0_injectKind, s.mapDevice) }) none (show 0 < 256 by decide)
    rw [State.injectRun_idle hidle hk]
    exact ⟨congrArg MapS.injected hmap, hcode, hbusy⟩
  · obtain ⟨hcode', hbusy, hmap, hmem⟩ := State.mapEnd_effect (s := s) r hcode
    exact ⟨hcode', hbusy, congrArg MapS.cmd hmap, hmem⟩
  · rw [exec_repairSelfTestEnd, State.selfTestEnd_idle hidle]
  · rw [exec_repairTimeout, if_neg]
    rintro ⟨hmode, hstep⟩
    rcases hidle with h | h
    · exact h hmode
    · exact absurd hstep (Nat.not_le.2 h)
  · rw [exec_repairTimeout, if_pos ⟨hmode, hstep⟩]
  · rw [exec_repairSelfTestEnd, State.selfTestEnd_fails hmode hstep]
  · obtain ⟨d, hd⟩ := State.selfTestEnd_passes hmode hstep
    rw [exec_repairSelfTestEnd, hd]
    exact ⟨_, d, rfl, rfl, rfl⟩
  · rw [exec_repairStateCurrent, State.stateCurrent_otherStep hmode hstep]
  · obtain ⟨d, hd⟩ := State.stateCurrent_current (lost := lost) hmode hstep
    have hinner := State.noteGranulesLost_inner (s := s) lost.length lost
    have hmem := State.mem_of_inner hinner
    have hmode' := State.mode_of_inner hinner
    rw [exec_repairStateCurrent, hd]
    exact ⟨_, d, rfl, rfl, fun hlost => State.getF_noteGranulesLost _ _ _ (.inl hlost), hmem, hmode'.trans hmode⟩
  · rw [exec_repairStateCurrent, State.stateCurrent_notAdopter hmode had]

end Sys2Proof.Machine

end

section

namespace Sys2Proof.Machine

/-! ### A compaction that ends nothing (O49)

CATALOGUE_COMPACT is the one command of its family that does not run `State.finish`: on a drive that the device does not have, it leaves
the state as it is. The statement has it end with `finish`, which differs wherever something is under way. -/

/-- A device that has no drive and still holds the boundary for a stream that no cell waits for any more. -/
def staleHold : State := { State.reset with sched := { SchedS.fresh with holds := [causeStream] } }

/-- The causes for which the next state of an outcome holds the boundary. -/
def holdsAfter : Host.Outcome State Fault Refusal → List Nat
  | .next t => t.sched.holds
  | _ => []

/-- Refutes O49: a compaction of a drive that is not there keeps a hold that the end of a command would take back. -/
theorem not_startsAndReloadsComplete : ¬ Obligations.StartsAndReloadsComplete := by
  intro h
  obtain ⟨-, hdrives, -⟩ := h
  obtain ⟨-, -, -, -, -, habsent, -⟩ := hdrives [] 0 staleHold
  have hholds := congrArg holdsAfter (habsent rfl)
  revert hholds
  decide +kernel

end Sys2Proof.Machine

end

section

namespace Sys2Proof.Machine

/-! ### A request of SPDM by its transport, the queue and the negotiation (R635, R691) -/

section Requests
variable {s : State} {t : Transport}

/-- The state in which a request has entered the queue. -/
abbrev State.asked1 (s : State) : State := s.onMgt fun m => { m with qMctp := m.qMctp + 1 }

theorem State.spdm_unserved {body : State → Answer × State} (h : s.mgmtServed t false = false) : s.spdm t body = s := if_pos (by rw [h]; rfl)

theorem State.spdm_busy {body : State → Answer × State} (h : s.mgmtServed t false = true) (hq : 64 ≤ s.mgt.qMctp) :
    s.spdm t body = s.emit (.mgmt t .busy) := (if_neg (by rw [h]; decide)).trans (if_pos hq)

section Taken
variable (h : s.mgmtServed t false = true) (hq : s.mgt.qMctp < 64)
include h hq

theorem State.spdm_taken {body : State → Answer × State} {a : Answer} {u : State} (hbody : body s.asked1 = (a, u)) :
    s.spdm t body = u.emit (.mgmt t a) := by
  refine (if_neg (by rw [h]; decide)).trans ((if_neg (Nat.not_le.2 hq)).trans ?_)
  rw [hbody]

theorem spdm_answers {r : Instr} {body : State → Answer × State} {a : Answer} {u : State} (hr : exec r s = .next (s.spdm t body))
    (hbody : body s.asked1 = (a, u)) : exec r s = .next (u.emit (.mgmt t a)) :=
  hr.trans (congrArg _ (State.spdm_taken h hq hbody))

variable (hstage : s.spdmStage t = .negotiated)
include hstage

theorem State.spdmAfter_taken {body : State → Answer × State} {a : Answer} {u : State} (hbody : body s.asked1 = (a, u)) :
    s.spdmAfter t body = u.emit (.mgmt t a) :=
  State.spdm_taken h hq ((if_pos hstage).trans hbody)

theorem State.inSession_taken {id : Nat} {body : State → Answer × State} {a : Answer} {u : State}
    (hsession : (s.session t id).any (·.finished) = true) (hbody : body s.asked1 = (a, u)) :
    s.inSession t id body = u.emit (.mgmt t a) :=
  State.spdmAfter_taken h hq hstage ((if_pos hsession).trans hbody)

theorem spdmAfter_answers {r : Instr} {body : State → Answer × State} {a : Answer} {u : State}
    (hr : exec r s = .next (s.spdmAfter t body)) (hbody : body s.asked1 = (a, u)) : exec r s = .next (u.emit (.mgmt t a)) :=
  hr.trans (congrArg _ (State.spdmAfter_taken h hq hstage hbody))

theorem inSession_answers {r : Instr} {id : Nat} {body : State → Answer × State} {a : Answer} {u : State}
    (hsession : (s.session t id).any (·.finished) = true) (hr : exec r s = .next (s.inSession t id body))
    (hbody : body s.asked1 = (a, u)) : exec r s = .next (u.emit (.mgmt t a)) :=
  hr.trans (congrArg _ (State.inSession_taken h hq hstage hsession hbody))

theorem State.inSession_none {id : Nat} {body : State → Answer × State} (hsession : (s.session t id).any (·.finished) = false) :
    s.inSession t id body = s.asked1.emit (.mgmt t .error) :=
  State.spdmAfter_taken h hq hstage (if_neg (by rw [show s.asked1.session t id = s.session t id from rfl, hsession]; decide))

end Taken

/-- Each request of SPDM goes by the queue; all but the first three need the negotiation to be over. -/
theorem exec_spdm {id i o l k : Nat} {n : BitVec 256} {ok rp : Bool} {c : ChainFacts} {r : Instr} (hr : r ∈ [Instr.getVersion t,
    .getCapabilities t, .negotiateAlgorithms t, .getDigests t, .getCertificate t i o l, .challenge t i n, .getMeasurements t i n,
    .keyExchange t k, .finish t id ok, .keyUpdate t id, .heartbeat t id, .endSession t id, .getCsr t id, .setCertificate t id i c rp,
    .release t id ok n rp]) (s : State) : ∃ body, exec r s = .next (s.spdm t body) ∧ (r ≠ .getVersion t → r ≠ .getCapabilities t →
      r ≠ .negotiateAlgorithms t → ∀ u : State, u.spdmStage t ≠ .negotiated → body u = (.error, u)) := by
  simp only [List.mem_cons, List.not_mem_nil, or_false] at hr
  rcases hr with rfl | rfl | rfl | rfl | rfl | rfl | rfl | rfl | rfl | rfl | rfl | rfl | rfl | rfl | rfl
  · exact ⟨_, rfl, fun h => absurd rfl h⟩
  · exact ⟨_, rfl, fun _ h => absurd rfl h⟩
  · exact ⟨_, rfl, fun _ _ h => absurd rfl h⟩
  all_goals exact ⟨_, rfl, fun _ _ _ u hu => if_neg hu⟩

/-- What the four requests that need a finished session answer without one. -/
theorem exec_inSession_none {id : Nat} {r : Instr} (h : s.mgmtServed t false = true) (hq : s.mgt.qMctp < 64)
    (hstage : s.spdmStage t = .negotiated) (hsession : ((s.session t id).any (·.finished)) = false)
    (hr : r = .keyUpdate t id ∨ r = .heartbeat t id ∨ r = .endSession t id ∨ r = .getCsr t id) :
    exec r s = .next (s.asked1.emit (.mgmt t .error)) := by
  rcases hr with rfl | rfl | rfl | rfl
  all_goals exact congrArg Host.Outcome.next (State.inSession_none h hq hstage hsession)

end Requests

/-! ### The negotiation and the requests after it -/

section Answers
variable (t : Transport) (s : State)

theorem exec_getVersion : exec (.getVersion t) s = .next (s.spdm t fun s => (.value 0x12, s.setStage t .version)) := rfl
theorem exec_getCapabilities : exec (.getCapabilities t) s = .next (s.spdm t fun s =>
    if s.spdmStage t = .version then (.value (BitVec.ofNat 64 (Config.spdmValue 0 0)), s.setStage t .capabilities) else (.error, s)) := rfl
theorem exec_negotiateAlgorithms : exec (.negotiateAlgorithms t) s = .next (s.spdm t fun s =>
    if s.spdmStage t = .capabilities then (.ok, s.setStage t .negotiated) else (.error, s)) := rfl
theorem exec_getDigests : exec (.getDigests t) s = .next (s.spdmAfter t fun s => (.values ([0, 1].filterMap s.chainValue), s)) := rfl
theorem exec_getCertificate (i o l : Nat) : exec (.getCertificate t i o l) s = .next (s.spdmAfter t fun s => match s.chainValue i with
    | none => (.error, s)
    | some c => (.values [c, o, l], s)) := rfl
theorem exec_challenge (i : Nat) (n : BitVec 256) : exec (.challenge t i n) s = .next (s.spdmAfter t fun s =>
    if (s.chainValue i).isNone then (.error, s) else (.nonce s.privateOp.nonce.1, s.privateOp.nonce.2)) := rfl
theorem exec_keyExchange (k : Nat) : exec (.keyExchange t k) s = .next (s.spdmAfter t fun s => if 4 ≤ s.sec.sessions.length then (.error, s)
    else (.value (BitVec.ofNat 64 s.sec.nextSession), (s.privateOp.onSec fun x => { x with nextSession := x.nextSession + 1 }).setSessions
      (s.sec.sessions ++ [{ id := s.sec.nextSession, transport := t, finished := false, updates := 0 }]))) := rfl
theorem exec_spdmFinish (id : Nat) (ok : Bool) : exec (.finish t id ok) s = .next (s.spdmAfter t fun s => match s.session t id with
    | none => (.error, s)
    | some x => if x.finished then (.error, s)
      else if ok then (.ok, s.setSessions (updWhere (fun y => y.id == id) (fun y => { y with finished := true }) s.sec.sessions))
      else (.error, s.setSessions (s.sec.sessions.filter fun y => y.id != id))) := rfl
theorem exec_keyUpdate (id : Nat) : exec (.keyUpdate t id) s = .next (s.inSession t id fun s =>
    (.ok, s.setSessions (updWhere (fun y => y.id == id) (fun y => { y with updates := y.updates + 1 }) s.sec.sessions))) := rfl
theorem exec_heartbeat (id : Nat) : exec (.heartbeat t id) s = .next (s.inSession t id fun s => (.ok, s)) := rfl
theorem exec_endSession (id : Nat) : exec (.endSession t id) s = .next (s.inSession t id fun s =>
    (.ok, s.setSessions (s.sec.sessions.filter fun y => y.id != id))) := rfl
theorem exec_getCsr (id : Nat) : exec (.getCsr t id) s = .next (s.inSession t id fun s =>
    (.value (BitVec.ofNat 64 (Config.spdmValue 2 0)), s.privateOp)) := rfl
theorem exec_setCertificate (id i : Nat) (c : ChainFacts) (rp : Bool) : exec (.setCertificate t id i c rp) s =
    .next (s.spdmAfter t fun s => s.setCertificate t id i c rp) := rfl
theorem exec_release (id : Nat) (ok : Bool) (n : BitVec 256) (rp : Bool) : exec (.release t id ok n rp) s =
    .next (s.spdmAfter t fun s => s.runRelease t id ok n rp) := rfl

theorem exec_getMeasurements_one (i : Nat) (n : BitVec 256) (h : s.mgmtServed t false = true) (hq : s.mgt.qMctp < 64)
    (hstage : s.spdmStage t = .negotiated) (h1 : 1 ≤ i) (h6 : i ≤ 6) : exec (.getMeasurements t i n) s =
    .next ((s.asked1.addF F.secPkCount_private 0 1).emit (.mgmt t (.values [Config.spdmValue (100 + i) (s.asked1.measured i)]))) := by
  have h0 : i ≠ 0 := by omega
  have h255 : i ≠ 255 := by omega
  exact congrArg Host.Outcome.next (State.spdmAfter_taken h hq hstage ((if_neg h0).trans ((if_neg h255).trans (if_pos h6))))

section Finish
variable {t s} {id : Nat} (h : s.mgmtServed t false = true) (hq : s.mgt.qMctp < 64) (hstage : s.spdmStage t = .negotiated)
include h hq hstage

theorem exec_spdmFinish_none (hnone : s.session t id = none) : exec (.finish t id true) s = .next (s.asked1.emit (.mgmt t .error)) := by
  have hnone' : s.asked1.session t id = none := hnone
  exact spdmAfter_answers h hq hstage (exec_spdmFinish ..) (by rw [hnone'])

variable {x : Session} (hx : s.session t id = some x) (hunfinished : x.finished = false)
include hx hunfinished

theorem exec_spdmFinish_ok : exec (.finish t id true) s = .next ((s.asked1.setSessions (updWhere (fun y => y.id == id)
    (fun y => { y with finished := true }) s.asked1.sec.sessions)).emit (.mgmt t .ok)) := by
  have hx' : s.asked1.session t id = some x := hx
  refine spdmAfter_answers h hq hstage (exec_spdmFinish ..) ?_
  rw [hx']
  exact (if_neg (by rw [hunfinished]; decide)).trans (if_pos rfl)

theorem exec_spdmFinish_bad : exec (.finish t id false) s = .next ((s.asked1.setSessions
    (s.asked1.sec.sessions.filter fun y => y.id != id)).emit (.mgmt t .error)) := by
  have hx' : s.asked1.session t id = some x := hx
  refine spdmAfter_answers h hq hstage (exec_spdmFinish ..) ?_
  rw [hx']
  exact (if_neg (by rw [hunfinished]; decide)).trans (if_neg Bool.false_ne_true)

end Finish

end Answers

/-! ### Sessions (R637) -/

section Sessions
variable {s : State}

theorem State.mem_ite {c : Prop} [Decidable c] {a b : State} {m : Mem} (ha : a.mem = m) (hb : b.mem = m) : (if c then a else b).mem = m := by
  split
  · exact ha
  · exact hb

/-- What a write of registers leaves: the security state, the memory, what was sent. -/
def State.secSide (s : State) : SecS × Mem × List Out := (s.sec, s.mem, s.out)

theorem State.setF_secSide (f : Fld) (i v : Nat) : (s.setF f i v).secSide = s.secSide := rfl

/-- The sessions that are left, the streams that they keyed, and their number. -/
theorem State.setSessions_effect (l : List Session) : (s.setSessions l).secSide =
    (s.onSec fun x => { x with sessions := l, ide := s.sec.ide.filter fun e => l.any fun x => x.id == e.2.2 }).secSide ∧
    (s.setSessions l).getF F.secState_sessions = l.length % 8 := by
  unfold State.setSessions
  extract_lets kept gone u v w
  have hv : v.secSide = u.secSide := by
    dsimp only [v]
    rw [apply_ite State.secSide, State.setF_secSide, ite_self]
  have hw : w.secSide = v.secSide := by
    dsimp only [w]
    rw [apply_ite State.secSide, State.setF_secSide, ite_self]
  exact ⟨(State.setF_secSide ..).trans (hw.trans hv), State.getF_setF_same _ _ _ _ (by decide)⟩

theorem State.setSessions_sessions (l : List Session) : (s.setSessions l).sec.sessions = l :=
  congrArg (fun e => SecS.sessions e.1) (State.setSessions_effect (s := s) l).1

theorem State.setSessions_ide (l : List Session) : (s.setSessions l).sec.ide = s.sec.ide.filter fun e => l.any fun x => x.id == e.2.2 :=
  congrArg (fun e => SecS.ide e.1) (State.setSessions_effect (s := s) l).1

theorem State.setSessions_mem (l : List Session) : (s.setSessions l).mem = s.mem :=
  congrArg (fun e => e.2.1) (State.setSessions_effect (s := s) l).1

theorem State.setSessions_out (l : List Session) : (s.setSessions l).out = s.out :=
  congrArg (fun e => e.2.2) (State.setSessions_effect (s := s) l).1

theorem map_id_updWhere (id : Nat) (l : List Session) :
    (updWhere (fun y : Session => y.id == id) (fun y => { y with updates := y.updates + 1 }) l).map (·.id) = l.map (·.id) := by
  rw [updWhere, List.map_map]
  refine List.map_congr_left fun y _ => ?_
  change (if _ then _ else y).id = y.id
  split <;> rfl

theorem finished_of_mem_updWhere {id : Nat} {l : List Session} {y : Session}
    (hy : y ∈ updWhere (fun y : Session => y.id == id) (fun y => { y with finished := true }) l) (hid : y.id = id) : y.finished = true := by
  obtain ⟨x, -, rfl⟩ := List.mem_map.1 hy
  split at hid
  next hx => rw [if_pos hx]
  next hx => exact absurd (beq_iff_eq.2 hid) hx

/-- The sessions of a number are gone, and the streams that they keyed. -/
theorem State.session_gone (id : Nat) : (∀ y ∈ (s.setSessions (s.sec.sessions.filter fun y => y.id != id)).sec.sessions, y.id ≠ id) ∧
    ∀ e ∈ (s.setSessions (s.sec.sessions.filter fun y => y.id != id)).sec.ide, e.2.2 ≠ id := by
  have hgone : ∀ y ∈ s.sec.sessions.filter fun y => y.id != id, y.id ≠ id := fun y hy => by simpa using (List.mem_filter.1 hy).2
  refine ⟨fun y hy => hgone y (by rwa [State.setSessions_sessions] at hy), fun e he => ?_⟩
  rw [State.setSessions_ide] at he
  obtain ⟨x, hx, hid⟩ := List.any_eq_true.1 (List.mem_filter.1 he).2
  rw [← beq_iff_eq.1 hid]
  exact hgone x hx

end Sessions

/-! ### Enrolment and release (R627 to R631) -/

section Ownership
variable {s : State} {t : Transport} {id i : Nat} {c : ChainFacts} {rp : Bool}

theorem State.secStatus_refused : s.spdmRefused.getF F.secStatus_spdmRefused = 1 ∧ s.spdmRefused.sec = s.sec ∧ s.spdmRefused.mem = s.mem ∧
    s.spdmRefused.out = s.out :=
  ⟨State.getF_flag_same _ _ _ _ (by decide) (by decide) rfl, State.sec_flag .., State.mem_flag .., State.out_flag ..⟩

theorem State.setCertificate_outside (h : i ≠ 1 ∨ ((s.session t id).any (·.finished)) = false) :
    s.setCertificate t id i c rp = (.error, s.spdmRefused) := if_pos (h.imp_right fun h => by rw [h]; rfl)

theorem State.setCertificate_bad (hi : i = 1) (hsession : ((s.session t id).any (·.finished)) = true) (hbad : c.ok = false ∨ 4 < c.certs) :
    s.setCertificate t id i c rp = (.error, (s.publicOps c.certs).spdmRefused) := by
  unfold State.setCertificate
  refine (if_neg ?_).trans (if_pos ?_)
  · rw [hsession]
    simpa using hi
  · rcases hbad with h | h
    · exact .inl (by rw [h]; rfl)
    · exact .inr (.inl h)

theorem State.setCertificate_enrols (hi : i = 1) (hsession : ((s.session t id).any (·.finished)) = true) (hok : c.ok = true)
    (hcerts : c.certs ≤ 4) (howner : s.sec.ownerKey = none) (hrp : rp = true) :
    s.setCertificate t id i c rp = (.ok, (s.publicOps c.certs).enrol c) := by
  have howner' : (s.publicOps c.certs).sec.ownerKey = none := howner
  unfold State.setCertificate
  refine (if_neg ?_).trans ?_
  · rw [hsession]
    simpa using hi
  · dsimp only
    rw [howner', hok, hrp]
    exact (if_neg (by simpa using hcerts)).trans (if_neg (by decide))

/-- The registers of an enrolled device, before ENROLLED. -/
def State.ownerShown (s : State) (c : ChainFacts) : State :=
  ((((s.onSec fun x => { x with ownerKey := some c.root, slot1 := some c }).rpWrite).setF F.secOwnerId_id 0 c.rootId.toNat).setF
    F.secStandId_id 0 c.standId.toNat).setF F.secState_slot1 0 1

theorem State.getF_ownerShown : (s.ownerShown c).getF F.secState_slot1 = 1 ∧ (s.ownerShown c).getF F.secStandId_id = c.standId.toNat := by
  refine ⟨State.getF_setF_same _ _ _ _ (by decide), ?_⟩
  rw [State.ownerShown, State.getF_setF_off _ _ (by decide), State.getF_setF_same _ _ _ _ (by decide)]
  exact Nat.mod_eq_of_lt c.standId.isLt

theorem State.ownerShown_rest : (s.ownerShown c).mem = s.mem ∧ (s.ownerShown c).out = s.out := by
  simp [State.ownerShown, State.rpWrite]

/-- A device whose owner chain is `c`. -/
@[reducible] def State.OwnedBy (v : State) (c : ChainFacts) : Prop := v.sec.ownerKey = some c.root ∧ v.sec.slot1 = some c ∧
  v.getF F.secState_enrolled = 1 ∧ v.getF F.secState_slot1 = 1 ∧ v.getF F.secStandId_id = c.standId.toNat

theorem State.OwnedBy.emit {v : State} (h : v.OwnedBy c) (o : Out) : (v.emit o).OwnedBy c := h

theorem State.enrol_effect : (s.enrol c).OwnedBy c ∧ (s.enrol c).mem = s.mem ∧ (s.enrol c).out = s.out := by
  obtain ⟨hslot, hstand⟩ := State.getF_ownerShown (s := s) (c := c)
  obtain ⟨hmem, hout⟩ := State.ownerShown_rest (s := s) (c := c)
  by_cases henrolled : (s.ownerShown c).getF F.secState_enrolled = 1
  · rw [show s.enrol c = s.ownerShown c from if_pos henrolled]
    exact ⟨⟨rfl, rfl, henrolled, hslot, hstand⟩, hmem, hout⟩
  · rw [show s.enrol c = ((s.ownerShown c).setF F.secState_enrolled 0 1).flag F.secStatus_enrolled from if_neg henrolled]
    have hsec := State.sec_flag ((s.ownerShown c).setF F.secState_enrolled 0 1) F.secStatus_enrolled {} 0
    refine ⟨⟨by rw [hsec]; rfl, by rw [hsec]; rfl, ?_, ?_, ?_⟩, (State.mem_flag ..).trans ((State.setF_mem ..).trans hmem),
      (State.out_flag ..).trans ((State.setF_out ..).trans hout)⟩
    · rw [State.getF_flag_other _ _ (by decide) (by decide), State.getF_setF_same _ _ _ _ (by decide)]
      rfl
    · rw [State.getF_flag_other _ _ (by decide) (by decide), State.getF_setF_disjoint _ _ (by decide) (by decide), hslot]
    · rw [State.getF_flag_other _ _ (by decide) (by decide), State.getF_setF_off _ _ (by decide), hstand]

/-- The device without its owner, but for the registers that show one. -/
def State.ownerErased (s : State) : State :=
  (((s.onWeave fun w => { w with slotA := none, slotB := none, slotsKnown := true, restartDue := true }).onMgt fun m =>
    { m with flash := [] }).onSec fun x => { x with ownerKey := none, slot1 := none, releaseNonce := none }).rpWrite

theorem State.disown_eq (s : State) : s.disown = (((s.ownerErased.setF F.secOwnerId_id 0 0).setF F.secStandId_id 0 0).setF
    F.secState_enrolled 0 0).setF F.secState_slot1 0 0 := rfl

theorem getF_unowned {u v : State} (hv : v = (((u.setF F.secOwnerId_id 0 0).setF F.secStandId_id 0 0).setF F.secState_enrolled 0 0).setF
    F.secState_slot1 0 0) : v.getF F.secState_enrolled = 0 ∧ v.getF F.secStandId_id = 0 ∧ v.getF F.secOwnerId_id = 0 := by
  subst hv
  refine ⟨?_, ?_, ?_⟩
  · rw [State.getF_setF_disjoint _ _ (by decide) (by decide), State.getF_setF_same _ _ _ _ (by decide), Nat.zero_mod]
  · rw [State.getF_setF_off _ _ (by decide), State.getF_setF_off _ _ (by decide), State.getF_setF_same _ _ _ _ (by decide), Nat.zero_mod]
  · rw [State.getF_setF_off _ _ (by decide), State.getF_setF_off _ _ (by decide), State.getF_setF_off _ _ (by decide),
      State.getF_setF_same _ _ _ _ (by decide), Nat.zero_mod]

/-- A device that no one owns, and that a start awaits. -/
@[reducible] def State.Unowned (v : State) : Prop := v.sec.ownerKey = none ∧ v.sec.slot1 = none ∧ v.weave.slotA = none ∧ v.weave.slotB = none ∧
  v.weave.restartDue = true ∧ v.mgt.flash = [] ∧ v.getF F.secState_enrolled = 0 ∧ v.getF F.secStandId_id = 0 ∧ v.getF F.secOwnerId_id = 0

theorem State.Unowned.emit {v : State} (h : v.Unowned) (o : Out) : (v.emit o).Unowned := h

theorem State.disown_unowned : s.disown.Unowned ∧ s.disown.out = s.out := by
  rw [State.disown_eq]
  obtain ⟨henrolled, hstand, hid⟩ := getF_unowned (u := s.ownerErased) rfl
  exact ⟨⟨rfl, rfl, rfl, rfl, rfl, rfl, henrolled, hstand, hid⟩, by simp [State.ownerErased, State.rpWrite]⟩

section Release
variable {n : BitVec 256} (hsession : ((s.session t id).any (·.finished)) = true) (howner : s.sec.ownerKey ≠ none)
include hsession howner

theorem State.runRelease_signed (hn : s.sec.releaseNonce = some n) : s.runRelease t id true n true = (.ok, (s.publicOps 1).disown) := by
  unfold State.runRelease
  refine (if_neg (by rw [hsession]; decide)).trans ((if_neg (by simpa using howner)).trans ?_)
  have hn' : (s.publicOps 1).sec.releaseNonce = some n := hn
  dsimp only
  rw [hn']
  exact (if_neg (by simp)).trans (if_neg (by decide))

/-- The nonce that a refused release learns. -/
def State.releaseRefused (s : State) : State :=
  ((s.nonce.2).onSec fun x => { x with releaseNonce := some (Config.nonce s.sec.nonces) }).spdmRefused

omit hsession howner in
theorem State.releaseRefused_effect : s.releaseRefused.sec.releaseNonce = some (Config.nonce s.sec.nonces) ∧
    s.releaseRefused.sec.ownerKey = s.sec.ownerKey ∧ s.releaseRefused.getF F.secStatus_spdmRefused = 1 ∧ s.releaseRefused.out = s.out := by
  obtain ⟨hflag, hsec, -, hsent⟩ := State.secStatus_refused (s := (s.nonce.2).onSec fun x =>
    { x with releaseNonce := some (Config.nonce s.sec.nonces) })
  have hnonce := congrArg SecS.releaseNonce hsec
  have howner := congrArg SecS.ownerKey hsec
  exact ⟨hnonce, howner, hflag, hsent⟩

theorem State.runRelease_refused (hn : s.sec.releaseNonce ≠ some n) :
    s.runRelease t id true n true = (.nonce (Config.nonce s.sec.nonces), (s.publicOps 1).releaseRefused) := by
  unfold State.runRelease
  exact (if_neg (by rw [hsession]; decide)).trans ((if_neg (by simpa using howner)).trans (if_pos (.inr hn)))

end Release

end Ownership

/-! ### What the requests that change something answer -/

section Effects
variable {s : State} {t : Transport} {id i k : Nat} {n : BitVec 256} {c : ChainFacts} {rp : Bool} (h : s.mgmtServed t false = true)
  (hq : s.mgt.qMctp < 64) (hstage : s.spdmStage t = .negotiated)
include h hq hstage

theorem exec_challenge_some {v : Nat} (hv : s.chainValue i = some v) : ∃ u : State, exec (.challenge t i n) s = .next u ∧
    u.out = s.out ++ [.mgmt t (.nonce (Config.nonce s.sec.nonces))] ∧ u.sec.nonces = s.sec.nonces + 1 ∧ u.mem = s.mem := by
  have hv' : s.asked1.chainValue i = some v := hv
  rw [spdmAfter_answers h hq hstage (exec_challenge ..) (if_neg (by rw [hv']; exact Bool.false_ne_true))]
  exact ⟨_, rfl, rfl, rfl, rfl⟩

theorem exec_keyExchange_opens (hroom : s.sec.sessions.length < 4) : ∃ u : State, exec (.keyExchange t k) s = .next u ∧
    u.out = s.out ++ [.mgmt t (.value (BitVec.ofNat 64 s.sec.nextSession))] ∧
    u.sec.sessions = s.sec.sessions ++ [{ id := s.sec.nextSession, transport := t, finished := false, updates := 0 }] ∧
    u.getF F.secState_sessions = s.sec.sessions.length + 1 ∧ u.mem = s.mem := by
  rw [spdmAfter_answers h hq hstage (exec_keyExchange ..) (if_neg (Nat.not_le.2 hroom))]
  refine ⟨_, rfl, congrArg (fun l => l ++ [_]) (State.setSessions_out _), State.setSessions_sessions _, ?_, State.setSessions_mem _⟩
  refine (State.setSessions_effect _).2.trans ?_
  rw [List.length_append, List.length_singleton]
  exact Nat.mod_eq_of_lt (Nat.lt_of_le_of_lt (Nat.succ_le_of_lt hroom) (by decide))

theorem exec_spdmFinish_ok_effect {x : Session} (hx : s.session t id = some x) (hunfinished : x.finished = false) : ∃ u : State,
    exec (.finish t id true) s = .next u ∧ u.out = s.out ++ [.mgmt t .ok] ∧ (∀ y ∈ u.sec.sessions, y.id = id → y.finished = true) ∧
    u.sec.sessions.length = s.sec.sessions.length ∧ u.mem = s.mem := by
  rw [exec_spdmFinish_ok h hq hstage hx hunfinished]
  refine ⟨_, rfl, congrArg (fun l => l ++ [_]) (State.setSessions_out _), fun y hy => ?_, ?_, State.setSessions_mem _⟩
  · exact finished_of_mem_updWhere ((congrArg (y ∈ ·) (State.setSessions_sessions _)).mp hy)
  · exact (congrArg List.length (State.setSessions_sessions _)).trans (List.length_map _)

theorem exec_spdmFinish_bad_effect {x : Session} (hx : s.session t id = some x) (hunfinished : x.finished = false) : ∃ u : State,
    exec (.finish t id false) s = .next u ∧ u.out = s.out ++ [.mgmt t .error] ∧ (∀ y ∈ u.sec.sessions, y.id ≠ id) ∧ u.mem = s.mem := by
  rw [exec_spdmFinish_bad h hq hstage hx hunfinished]
  exact ⟨_, rfl, congrArg (fun l => l ++ [_]) (State.setSessions_out _), (State.session_gone (s := s.asked1) id).1, State.setSessions_mem _⟩

theorem exec_keyUpdate_effect (hsession : (s.session t id).any (·.finished) = true) : ∃ u : State, exec (.keyUpdate t id) s = .next u ∧
    u.out = s.out ++ [.mgmt t .ok] ∧ u.sec.sessions.map (·.id) = s.sec.sessions.map (·.id) ∧ u.mem = s.mem := by
  rw [inSession_answers h hq hstage hsession (exec_keyUpdate ..) rfl]
  refine ⟨_, rfl, congrArg (fun l => l ++ [_]) (State.setSessions_out _), ?_, State.setSessions_mem _⟩
  exact (congrArg (List.map _) (State.setSessions_sessions _)).trans (map_id_updWhere id _)

theorem exec_endSession_effect (hsession : (s.session t id).any (·.finished) = true) : ∃ u : State, exec (.endSession t id) s = .next u ∧
    u.out = s.out ++ [.mgmt t .ok] ∧ (∀ y ∈ u.sec.sessions, y.id ≠ id) ∧ (∀ e ∈ u.sec.ide, e.2.2 ≠ id) ∧ u.mem = s.mem := by
  rw [inSession_answers h hq hstage hsession (exec_endSession ..) rfl]
  obtain ⟨hgone, hide⟩ := State.session_gone (s := s.asked1) id
  exact ⟨_, rfl, congrArg (fun l => l ++ [_]) (State.setSessions_out _), hgone, hide, State.setSessions_mem _⟩

theorem exec_setCertificate_outside (hout : i ≠ 1 ∨ ((s.session t id).any (·.finished)) = false) : ∃ u : State,
    exec (.setCertificate t id i c rp) s = .next u ∧ u.out = s.out ++ [.mgmt t .error] ∧ u.getF F.secStatus_spdmRefused = 1 ∧
    u.sec = s.sec ∧ u.mem = s.mem := by
  rw [spdmAfter_answers h hq hstage (exec_setCertificate ..) (State.setCertificate_outside (s := s.asked1) hout)]
  obtain ⟨hflag, hsec, hmem, hsent⟩ := State.secStatus_refused (s := s.asked1)
  exact ⟨_, rfl, congrArg (fun l => l ++ [_]) hsent, hflag, hsec, hmem⟩

theorem exec_setCertificate_enrols (hi : i = 1) (hsession : ((s.session t id).any (·.finished)) = true) (hok : c.ok = true)
    (hcerts : c.certs ≤ 4) (howner : s.sec.ownerKey = none) (hrp : rp = true) : ∃ u : State, exec (.setCertificate t id i c rp) s = .next u ∧
    u.out = s.out ++ [.mgmt t .ok] ∧ u.sec.ownerKey = some c.root ∧ u.sec.slot1 = some c ∧ u.getF F.secState_enrolled = 1 ∧
    u.getF F.secState_slot1 = 1 ∧ u.getF F.secStandId_id = c.standId.toNat ∧ u.mem = s.mem := by
  rw [spdmAfter_answers h hq hstage (exec_setCertificate ..)
    (State.setCertificate_enrols (s := s.asked1) hi hsession hok hcerts howner hrp)]
  obtain ⟨howned, hmem, hsent⟩ := State.enrol_effect (s := s.asked1.publicOps c.certs) (c := c)
  have hsent' : ((s.asked1.publicOps c.certs).enrol c).out = s.out := hsent.trans (by simp [State.publicOps])
  have hmem' : ((s.asked1.publicOps c.certs).enrol c).mem = s.mem := hmem.trans (by simp [State.publicOps])
  obtain ⟨hkey, hslot, henrolled, hslot1, hstand⟩ := howned.emit (.mgmt t .ok)
  exact ⟨_, rfl, (State.emit_out ..).trans (congrArg (fun l => l ++ [_]) hsent'), hkey, hslot, henrolled, hslot1, hstand,
    (State.emit_mem ..).trans hmem'⟩

theorem exec_setCertificate_bad (hi : i = 1) (hsession : ((s.session t id).any (·.finished)) = true) (hbad : c.ok = false ∨ 4 < c.certs) :
    ∃ u : State, exec (.setCertificate t id i c rp) s = .next u ∧ u.out = s.out ++ [.mgmt t .error] ∧ u.sec = s.sec ∧
    u.getF F.secStatus_spdmRefused = 1 := by
  rw [spdmAfter_answers h hq hstage (exec_setCertificate ..) (State.setCertificate_bad (s := s.asked1) hi hsession hbad)]
  obtain ⟨hflag, hsec, -, hsent⟩ := State.secStatus_refused (s := s.asked1.publicOps c.certs)
  exact ⟨_, rfl, congrArg (fun l => l ++ [_]) hsent, hsec, hflag⟩

section Release
variable (hsession : ((s.session t id).any (·.finished)) = true) (howner : s.sec.ownerKey ≠ none)
include hsession howner

theorem exec_release_signed (hn : s.sec.releaseNonce = some n) : ∃ u : State, exec (.release t id true n true) s = .next u ∧
    u.out = s.out ++ [.mgmt t .ok] ∧ u.sec.ownerKey = none ∧ u.sec.slot1 = none ∧ u.weave.slotA = none ∧ u.weave.slotB = none ∧
    u.weave.restartDue = true ∧ u.mgt.flash = [] ∧ u.getF F.secState_enrolled = 0 ∧ u.getF F.secStandId_id = 0 ∧
    u.getF F.secOwnerId_id = 0 := by
  rw [spdmAfter_answers h hq hstage (exec_release ..) (State.runRelease_signed (s := s.asked1) hsession howner hn)]
  obtain ⟨hunowned, hsent⟩ := State.disown_unowned (s := s.asked1.publicOps 1)
  have hsent' : (s.asked1.publicOps 1).disown.out = s.out := hsent.trans (by simp [State.publicOps])
  exact ⟨_, rfl, (State.emit_out ..).trans (congrArg (fun l => l ++ [_]) hsent'), hunowned.emit _⟩

theorem exec_release_refused (hn : s.sec.releaseNonce ≠ some n) : ∃ u : State, exec (.release t id true n true) s = .next u ∧
    u.out = s.out ++ [.mgmt t (.nonce (Config.nonce s.sec.nonces))] ∧ u.sec.releaseNonce = some (Config.nonce s.sec.nonces) ∧
    u.sec.ownerKey = s.sec.ownerKey ∧ u.getF F.secStatus_spdmRefused = 1 := by
  rw [spdmAfter_answers h hq hstage (exec_release ..) (State.runRelease_refused (s := s.asked1) hsession howner hn)]
  obtain ⟨hkey, howner', hflag, hsent⟩ := State.releaseRefused_effect (s := s.asked1.publicOps 1)
  exact ⟨_, rfl, congrArg (fun l => l ++ [_]) hsent, hkey, howner', hflag⟩

end Release

end Effects

/-- Settles O51: requests by transport and queue, the negotiation by its stage, sessions, enrolment and release by their checks. -/
theorem spdmCompletes : Obligations.SpdmCompletes := by
  unfold Obligations.SpdmCompletes
  refine ⟨fun t id i o l k n ok rp c s r hr => ?_, fun t s h hq => ?_, fun t id i o l k n s h hq hstage => ?_,
    fun t id i c rp s h hq hstage => ⟨exec_setCertificate_outside h hq hstage, exec_setCertificate_enrols h hq hstage,
      exec_setCertificate_bad h hq hstage⟩,
    fun t id n s h hq hstage hsession howner => ⟨exec_release_signed h hq hstage hsession howner,
      exec_release_refused h hq hstage hsession howner⟩⟩
  · obtain ⟨body, hexec, herror⟩ := exec_spdm hr s
    refine ⟨fun h => ?_, fun h hq => ?_, fun h hq hstage hv hc hn => spdm_answers h hq hexec (herror hv hc hn s.asked1 hstage),
      fun h hq hstage hsession hwhich => exec_inSession_none h hq hstage hsession hwhich⟩
    · rw [hexec, State.spdm_unserved h]
    · rw [hexec, State.spdm_busy h hq]
  · exact ⟨spdm_answers h hq (exec_getVersion ..) rfl, fun hstage => ⟨_, spdm_answers h hq (exec_getCapabilities ..) (if_pos hstage)⟩,
      fun hstage => spdm_answers h hq (exec_getCapabilities ..) (if_neg hstage),
      fun hstage => spdm_answers h hq (exec_negotiateAlgorithms ..) (if_pos hstage),
      fun hstage => spdm_answers h hq (exec_negotiateAlgorithms ..) (if_neg hstage)⟩
  · refine ⟨spdmAfter_answers h hq hstage (exec_getDigests ..) rfl, fun hnone => ⟨?_, ?_⟩,
      fun c hc => ⟨?_, exec_challenge_some h hq hstage hc⟩, congrArg Host.Outcome.next (State.spdmAfter_taken h hq hstage (if_pos rfl)),
      fun h1 h6 => ⟨_, exec_getMeasurements_one t s i n h hq hstage h1 h6⟩,
      fun hfull => spdmAfter_answers h hq hstage (exec_keyExchange ..) (if_pos hfull), exec_keyExchange_opens h hq hstage,
      exec_spdmFinish_none h hq hstage, fun x hx hunfinished => ⟨exec_spdmFinish_ok_effect h hq hstage hx hunfinished,
        exec_spdmFinish_bad_effect h hq hstage hx hunfinished⟩, fun x hx hfinished => ?_⟩
    · have hnone' : s.asked1.chainValue i = none := hnone
      exact spdmAfter_answers h hq hstage (exec_getCertificate ..) (by rw [hnone'])
    · have hnone' : s.asked1.chainValue i = none := hnone
      exact spdmAfter_answers h hq hstage (exec_challenge ..) (if_pos (by rw [hnone']; rfl))
    · have hc' : s.asked1.chainValue i = some c := hc
      exact spdmAfter_answers h hq hstage (exec_getCertificate ..) (by rw [hc'])
    · have hsession : (s.session t id).any (·.finished) = true := by rw [hx]; exact hfinished
      exact ⟨inSession_answers h hq hstage hsession (exec_heartbeat ..) rfl,
        ⟨_, inSession_answers h hq hstage hsession (exec_getCsr ..) rfl⟩, exec_keyUpdate_effect h hq hstage hsession,
        exec_endSession_effect h hq hstage hsession⟩

end Sys2Proof.Machine

end

section

namespace Sys2Proof.Machine

/-! ### What a fault record leaves of the firmware (R689, R700) -/

section Records
variable {α : Type} {φ : State → α} {s : State}

/-- What the ring and the fields of the fault records do not show: a view that neither these nor the exception queue change. -/
structure RecordBlind (φ : State → α) : Prop where
  records : ∀ (s : State) (r : Table FaultRec) (l : List Nat), φ (s.onMgt fun m => { m with ring := r, unlogged := l }) = φ s
  queue : ∀ (s : State) (n : Nat), φ (s.onMgt fun m => { m with qExc := n }) = φ s
  seq : ∀ (s : State) (v : Nat), φ (s.setF F.mgtFaultSeq_seq 0 v) = φ s
  lost : ∀ (s : State) (v : Nat), φ (s.setF F.mgtStatus_logLost 0 v) = φ s
  lostCount : ∀ (s : State) (v : Nat), φ (s.setF F.mgtLogLost_count 0 v) = φ s
  overflow : ∀ (s : State) (v : Nat), φ (s.setF F.mgtStatus_excOverflow 0 v) = φ s

variable (h : RecordBlind φ)
include h

theorem RecordBlind.newRecord (seq b i : Nat) (n : Note) : φ (s.newRecord seq b i n).1 = φ s := (h.seq _ _).trans (h.records s _ _)

theorem RecordBlind.putRecord (b i : Nat) (n : Note) : φ (s.putRecord b i n).1 = φ s := by
  unfold State.putRecord
  dsimp only
  split
  · split
    · exact h.records s _ s.mgt.unlogged
    · exact h.newRecord ..
  · exact h.newRecord ..

theorem RecordBlind.loseRecord : φ s.loseRecord = φ s := (h.lostCount _ _).trans (h.lost _ _)

theorem RecordBlind.raise (b i : Nat) (n : Note) : φ (s.raise b i n) = φ s := by
  have h1 := h.putRecord (s := s) b i n
  unfold State.raise
  split
  · next e => rw [e] at h1; exact h1
  · next t e =>
    rw [e] at h1
    have h2 := ((h.putRecord (s := t.loseRecord) 0 F.mgtStatus_logLost.lo {}).trans h.loseRecord).trans h1
    split
    · next e2 => rw [e2] at h2; exact h2
    · next u e2 =>
      rw [e2] at h2
      exact ((h.putRecord ..).trans h.loseRecord).trans h2

/-- Of a status bit such a view shows the bit alone. -/
theorem RecordBlind.flag (f : Fld) (n : Note) (i : Nat) : φ (s.flag f n i) = φ (s.setF f i 1) := by
  have htail : ∀ t : State, φ (if t.mgt.qExc < 1024 then { t with mgt := { t.mgt with qExc := t.mgt.qExc + 1 } }
      else (t.setF F.mgtStatus_excOverflow 0 1).raise 0 F.mgtStatus_excOverflow.lo {}) = φ t := by
    intro t
    split
    · exact h.queue t _
    · exact (h.raise ..).trans (h.overflow ..)
  unfold State.flag
  refine (htail _).trans ?_
  split
  · rfl
  · exact h.raise ..

end Records

/-- The two firmware slots. -/
def State.fwSlots (s : State) : FwSlot × FwSlot := (s.mgt.fw0, s.mgt.fw1)

theorem State.fwSlots_blind : RecordBlind State.fwSlots :=
  ⟨fun _ _ _ => rfl, fun _ _ => rfl, fun _ _ => rfl, fun _ _ => rfl, fun _ _ => rfl, fun _ _ => rfl⟩

theorem State.fwStaged_blind : RecordBlind fun s => s.getF F.mgtStatus_fwStaged where
  records _ _ _ := rfl
  queue _ _ := rfl
  seq s _ := s.getF_setF_off _ (by decide)
  lost s _ := s.getF_setF_disjoint _ (by decide) (by decide)
  lostCount s _ := s.getF_setF_off _ (by decide)
  overflow s _ := s.getF_setF_disjoint _ (by decide) (by decide)

theorem State.flag_fwSlots (s : State) (f : Fld) (n : Note) (i : Nat) : (s.flag f n i).fwSlots = s.fwSlots := State.fwSlots_blind.flag ..

theorem State.getF_flag_fwStaged (s : State) : (s.flag F.mgtStatus_fwStaged).getF F.mgtStatus_fwStaged = 1 :=
  (State.fwStaged_blind.flag ..).trans (s.getF_setF_same _ _ _ (by decide))

/-! ### Requests by their transport and the queue (R687, R691) -/

section Requests
variable {s : State} {t : Transport} {up : Bool} {body : State → Answer × State}

theorem State.mgmtRequest_unserved (h : s.mgmtServed t up = false) : s.mgmtRequest t up body = s := if_pos (by rw [h]; rfl)

theorem State.mgmtRequest_busy (h : s.mgmtServed t up = true) (hq : 64 ≤ s.mgt.qMctp) :
    s.mgmtRequest t up body = s.emit (.mgmt t .busy) := (if_neg (by rw [h]; decide)).trans (if_pos hq)

theorem State.mgmtRequest_taken (h : s.mgmtServed t up = true) (hq : s.mgt.qMctp < 64) {a : Answer} {u : State}
    (hbody : body s.asked1 = (a, u)) : s.mgmtRequest t up body = u.emit (.mgmt t a) := by
  refine (if_neg (by rw [h]; decide)).trans ((if_neg (Nat.not_le.2 hq)).trans ?_)
  rw [hbody]

end Requests

section Plain
variable (t : Transport) (s : State)

theorem exec_pldmBase (c : BitVec 8) : exec (.pldmBase t c) s =
    .next (s.mgmtRequest t false fun s => (if 1 ≤ c.toNat ∧ c.toNat ≤ 5 then .ok else .error, s)) := rfl
theorem exec_pldmFileRead (o l : Nat) : exec (.pldmFileRead t o l) s =
    .next (s.mgmtRequest t false fun s => (.records ((s.mgt.flash.drop (o / 64)).take (l / 64)), s)) := rfl
theorem exec_regRead (o : RegOff) : exec (.regRead t o) s =
    .next (s.mgmtRegister t fun s => (.value (s.readReg o.toNat).1, (s.readReg o.toNat).2)).finish := rfl
theorem exec_regWrite (o : RegOff) (x : Word) : exec (.regWrite t o x) s =
    .next (s.mgmtRegister t fun s => (.ok, s.writeRegister o.toNat x)).finish := rfl
theorem exec_pldmFwTransfer (o n : Nat) (l : Option FwFacts) : exec (.pldmFwTransfer t o n l) s =
    .next (s.updateRequest t fun s => s.fwTransfer o n l) := rfl
theorem exec_activateFirmware : exec (.activateFirmware t) s = .next (s.updateRequest t fun s =>
    if s.getF F.mgtFw_update = updStaged then (.ok, s.setF F.mgtFw_active 0 s.updateSlot) else (.error, s)) := rfl

end Plain

/-! ### Sensors -/

section Sensors
variable {s : State} {t : Transport} {o : Nat}

theorem exec_pldmSensorRead_unserved (h : s.mgmtServed t false = false) : exec (.pldmSensorRead t o) s = .next s :=
  congrArg Host.Outcome.next (if_pos (by rw [h]; rfl))

theorem exec_pldmSensorRead_busy (h : s.mgmtServed t false = true) (hq : s.mgt.shedTel = true ∨ 32 ≤ s.mgt.qTel) :
    exec (.pldmSensorRead t o) s = .next (s.emit (.mgmt t .busy)) :=
  congrArg Host.Outcome.next ((if_neg (by rw [h]; decide)).trans (if_pos hq))

/-- The state in which a sensor request has entered its queue. -/
abbrev State.asked2 (s : State) : State := s.onMgt fun m => { m with qTel := m.qTel + 1 }

section Taken
variable (h : s.mgmtServed t false = true) (hshed : s.mgt.shedTel = false) (hq : s.mgt.qTel < 32)
include h hshed hq

theorem exec_pldmSensorRead_some {l : List Nat} {u : State} (hsome : s.asked2.sensor o = some (l, u)) :
    exec (.pldmSensorRead t o) s = .next (u.emit (.mgmt t (.values l))) := by
  have hq' : ¬(s.mgt.shedTel = true ∨ 32 ≤ s.mgt.qTel) := by simp [hshed]; omega
  refine congrArg Host.Outcome.next ((if_neg (by rw [h]; decide)).trans ((if_neg hq').trans ?_))
  dsimp only
  rw [hsome]

theorem exec_pldmSensorRead_none (hnone : s.asked2.sensor o = none) :
    exec (.pldmSensorRead t o) s = .next (s.asked2.emit (.mgmt t .error)) := by
  have hq' : ¬(s.mgt.shedTel = true ∨ 32 ≤ s.mgt.qTel) := by simp [hshed]; omega
  refine congrArg Host.Outcome.next ((if_neg (by rw [h]; decide)).trans ((if_neg hq').trans ?_))
  dsimp only
  rw [hnone]

end Taken

/-- What a sensor that is a field of a register shows. -/
def State.sensorField (s : State) (off : Nat) (f : Fld) : Option (List Nat × State) :=
  some ([fieldOf (s.regValue off).1 f.lo f.width], (s.regValue off).2)

/-- A sensor of the input or of a rail is a field of its register. -/
theorem State.sensor_analogue (ho : o ≤ 2 ∨ 19 ≤ o ∧ o ≤ 26) : ∃ (off : Nat) (f : Fld), s.sensor o = s.sensorField off f := by
  have hinput : o = 0 ∨ o = 1 ∨ o = 2 ∨ 19 ≤ o ∧ o ≤ 26 := by omega
  rcases hinput with h0 | h1 | h2 | ⟨h19, h26⟩
  · exact ⟨F.pwrInput_mv.off 0, F.pwrInput_mv, if_pos h0⟩
  · exact ⟨F.pwrInput_mv.off 0, F.pwrInput_ca, (if_neg (by omega)).trans (if_pos h1)⟩
  · exact ⟨F.pwrInput_mv.off 0, F.pwrInput_watts, (if_neg (by omega)).trans ((if_neg (by omega)).trans (if_pos h2))⟩
  · refine ⟨F.pwrRail_mv.off (o - 19), F.pwrRail_mv, ?_⟩
    exact (if_neg (by omega)).trans ((if_neg (by omega)).trans ((if_neg (by omega)).trans ((if_neg (by omega)).trans (if_pos (by omega)))))

theorem State.sensor_temp (h3 : 3 ≤ o) (h18 : o ≤ 18) : s.sensor o = s.sensorField (F.pwrTemp_temp.off (o - 3)) F.pwrTemp_temp :=
  (if_neg (by omega)).trans ((if_neg (by omega)).trans ((if_neg (by omega)).trans (if_pos (by omega))))

theorem State.sensor_none (h28 : 28 < o) : s.sensor o = none :=
  (if_neg (by omega)).trans ((if_neg (by omega)).trans ((if_neg (by omega)).trans ((if_neg (by omega)).trans
    ((if_neg (by omega)).trans ((if_neg (by omega)).trans (if_neg (by omega)))))))

/-- PWR_TEMP of a sensor. -/
def pwrTempReg : RegDesc := ⟨0x10100, 8, 16, [F.pwrTemp_temp, F.pwrTemp_stage, F.pwrTemp_valid]⟩

theorem regAt_pwrTemp : ∀ i < 16, regAt (F.pwrTemp_temp.off i) = some pwrTempReg := by decide +kernel

theorem fitted_pwrTemp : ∀ i < 16, fitted .oz880 pwrTempReg.base pwrTempReg.count ((F.pwrTemp_temp.off i - pwrTempReg.base) / pwrTempReg.stride) = true := by
  decide +kernel

/-- The temperature of a fitted sensor reads as it stands. -/
theorem State.regValue_pwrTemp (hcode : s.code = .oz880) {i : Nat} (hi : i < 16) :
    s.regValue (F.pwrTemp_temp.off i) = (s.reg (F.pwrTemp_temp.off i), s) := by
  refine s.regValue_of_not_viewed (regAt_pwrTemp i hi) ?_ (by decide +kernel)
  unfold State.fits
  rw [hcode]
  exact fitted_pwrTemp i hi

end Sensors

/-! ### Registers over the management transports -/

section Registers
variable {s : State} {t : Transport} {body : State → Answer × State}

theorem State.mgmtRegister_wakes (h : t = .cxl) (hm : s.mode = .sleep) (hl : s.getF F.hptLink_state = 2) :
    s.mgmtRegister t body = s.startWake false := if_pos ⟨h, hm, hl⟩

theorem State.mgmtRegister_slath (hm : s.mode = .slath) : s.mgmtRegister t body = s := by
  have h : ¬(t = .cxl ∧ s.mode = .sleep ∧ s.getF F.hptLink_state = 2) := by
    rw [hm]
    rintro ⟨-, h, -⟩
    cases h
  exact (if_neg h).trans (if_pos hm)

theorem State.mgmtServed_cxl_sleep (hm : s.mode = .sleep) (up : Bool) : s.mgmtServed .cxl up = false := by
  unfold State.mgmtServed
  rw [hm]
  simp

theorem State.mgmtRegister_served (hm : s.mode ≠ .slath) (h : s.mgmtServed t false = true) :
    s.mgmtRegister t body = s.mgmtRequest t false body := by
  have hsleep : ¬(t = .cxl ∧ s.mode = .sleep ∧ s.getF F.hptLink_state = 2) := by
    rintro ⟨rfl, hsleep, -⟩
    rw [State.mgmtServed_cxl_sleep hsleep] at h
    cases h
  exact (if_neg hsleep).trans (if_neg hm)

end Registers

/-! ### The firmware update (R688 to R690) -/

section Update
variable {s : State} {t : Transport} {body : State → Answer × State}

theorem State.updateRequest_awake (hm : s.mode ≠ .sleep) : s.updateRequest t body = s.mgmtRequest t true body := if_neg hm

theorem State.updateSlot_le (s : State) : s.updateSlot = 0 ∨ s.updateSlot = 1 := by
  unfold State.updateSlot
  omega

theorem State.fwSlot_eq (s : State) (k : Nat) : s.fwSlot k = if k = 0 then s.fwSlots.1 else s.fwSlots.2 := rfl

theorem State.fwSlot_setFwSlot_same (k : Nat) (v : FwSlot) : (s.setFwSlot k v).fwSlot k = v := by
  unfold State.setFwSlot State.fwSlot
  split <;> rfl

/-- The other slot stays. -/
theorem State.fwSlot_setFwSlot_other (k : Nat) (v : FwSlot) (hk : k = 0 ∨ k = 1) : (s.setFwSlot k v).fwSlot (1 - k) = s.fwSlot (1 - k) := by
  rcases hk with rfl | rfl <;> rfl

/-- What an update does not change: memory, what was sent, MGT_FW.ACTIVE and RUNNING and the rollback counter. -/
structure State.Updating (s u : State) : Prop where
  mem : u.mem = s.mem
  out : u.out = s.out
  active : u.getF F.mgtFw_active = s.getF F.mgtFw_active
  running : u.getF F.mgtFw_running = s.getF F.mgtFw_running
  counter : u.getF F.secFwRollback_counter = s.getF F.secFwRollback_counter
  other : u.fwSlot (1 - s.updateSlot) = s.fwSlot (1 - s.updateSlot)

theorem State.Updating.slot {u : State} (h : s.Updating u) : u.updateSlot = s.updateSlot := by
  unfold State.updateSlot
  rw [h.running]

theorem State.Updating.trans {u v : State} (h : s.Updating u) (h' : u.Updating v) : s.Updating v :=
  ⟨h'.mem.trans h.mem, h'.out.trans h.out, h'.active.trans h.active, h'.running.trans h.running, h'.counter.trans h.counter, by
    have := h'.other
    rw [h.slot] at this
    exact this.trans h.other⟩

theorem State.Updating.setFwSlot (v : FwSlot) : s.Updating (s.setFwSlot s.updateSlot v) :=
  ⟨rfl, rfl, rfl, rfl, rfl, State.fwSlot_setFwSlot_other _ v s.updateSlot_le⟩

theorem State.Updating.setF_update (v : Nat) : s.Updating (s.setF F.mgtFw_update 0 v) :=
  ⟨rfl, rfl, s.getF_setF_disjoint _ (by decide) (by decide), s.getF_setF_disjoint _ (by decide) (by decide),
    s.getF_setF_off _ (by decide), rfl⟩

theorem State.Updating.setF_valid (v : Nat) : s.Updating (s.setF F.mgtFw_valid 0 v) :=
  ⟨rfl, rfl, s.getF_setF_disjoint _ (by decide) (by decide), s.getF_setF_disjoint _ (by decide) (by decide),
    s.getF_setF_off _ (by decide), rfl⟩

theorem State.Updating.publicOp : s.Updating (s.addF F.secPkCount_public 0 1) :=
  ⟨rfl, rfl, s.getF_setF_off _ (by decide), s.getF_setF_off _ (by decide), s.getF_setF_off _ (by decide), rfl⟩

theorem State.fwSlot_flag (f : Fld) (k : Nat) : (s.flag f).fwSlot k = s.fwSlot k := by
  rw [State.fwSlot_eq, State.fwSlot_eq, State.flag_fwSlots]

/-- A status bit outside MGT_FW and the rollback counter. -/
theorem State.Updating.flag (f : Fld) (hfw : F.mgtFw_running.off 0 ≠ f.off 0) (hrb : F.secFwRollback_counter.off 0 ≠ f.off 0) :
    s.Updating (s.flag f) :=
  ⟨State.flag_mem .., State.flag_out .., s.getF_flag_other _ (by decide) hfw, s.getF_flag_other _ (by decide) hfw,
    s.getF_flag_other _ (by decide) hrb, State.fwSlot_flag ..⟩

/-- How much of the slot has been written once a portion has been taken. -/
def State.fwBytes (s : State) (o n : Nat) : Nat :=
  max (if s.getF F.mgtFw_update = updReceiving then (s.fwSlot s.updateSlot).written else 0) (o + n)

/-- The state in which the slot has been written. -/
def State.fwWritten (s : State) (o n : Nat) : State :=
  (s.setFwSlot s.updateSlot { FwSlot.fresh with written := s.fwBytes o n }).setF F.mgtFw_update 0 updReceiving

theorem State.fwBytes_begin {o n : Nat} (h : s.getF F.mgtFw_update ≠ updReceiving) : s.fwBytes o n = o + n := by
  rw [State.fwBytes, if_neg h, Nat.zero_max]

theorem State.fwBytes_more {o n : Nat} (h : s.getF F.mgtFw_update = updReceiving) :
    s.fwBytes o n = max (s.fwSlot s.updateSlot).written (o + n) := by
  rw [State.fwBytes, if_pos h]

theorem State.fwTransfer_over {o n : Nat} (h : 16777216 < o + n) (l : Option FwFacts) : s.fwTransfer o n l = (.error, s) := if_pos h

theorem State.fwTransfer_part {o n : Nat} (h : o + n ≤ 16777216) : s.fwTransfer o n none = (.ok, s.fwWritten o n) := if_neg (by omega)

theorem State.fwTransfer_last {o n : Nat} (h : o + n ≤ 16777216) (f : FwFacts) : s.fwTransfer o n (some f) = (s.fwWritten o n).fwVerify f :=
  if_neg (by omega)

theorem State.Updating.fwWritten (o n : Nat) : s.Updating (s.fwWritten o n) := by
  unfold State.fwWritten
  exact (State.Updating.setFwSlot _).trans (.setF_update _)

theorem State.fwSlot_setF (f : Fld) (i v k : Nat) : (s.setF f i v).fwSlot k = s.fwSlot k := rfl

theorem State.fwSlot_fwWritten (o n : Nat) : (s.fwWritten o n).fwSlot s.updateSlot = { FwSlot.fresh with written := s.fwBytes o n } :=
  (State.fwSlot_setF ..).trans (State.fwSlot_setFwSlot_same _ _)

theorem State.getF_fwWritten (o n : Nat) : (s.fwWritten o n).getF F.mgtFw_update = updReceiving := State.getF_setF_same _ _ _ _ (by decide)

/-- The state of an image that verifies. -/
def State.fwAccepted (s : State) (f : FwFacts) : State :=
  let v := s.addF F.secPkCount_public 0 1
  (((v.setFwSlot s.updateSlot { v.fwSlot s.updateSlot with version := f.version, counter := f.rollback, valid := true }).setF
    F.mgtFw_valid 0 (s.getF F.mgtFw_valid ||| 2 ^ s.updateSlot)).setF F.mgtFw_update 0 updStaged).flag F.mgtStatus_fwStaged

/-- The state of one that does not. -/
def State.fwRefused (s : State) (f : FwFacts) : State :=
  let v := s.addF F.secPkCount_public 0 1
  ((if f.sigOk then v.flag F.secStatus_fwRollback else v).setF F.mgtFw_valid 0
    (s.getF F.mgtFw_valid &&& (3 - 2 ^ s.updateSlot))).setF F.mgtFw_update 0 updFailed

theorem State.fwVerify_good {f : FwFacts} (hsig : f.sigOk = true) (hrb : s.getF F.secFwRollback_counter ≤ f.rollback) :
    s.fwVerify f = (.ok, s.fwAccepted f) :=
  if_pos ⟨hsig, (State.Updating.publicOp.counter).trans_le hrb⟩

theorem State.fwVerify_bad {f : FwFacts} (h : f.sigOk = false ∨ f.rollback < s.getF F.secFwRollback_counter) :
    s.fwVerify f = (.error, s.fwRefused f) := by
  refine if_neg ?_
  rintro ⟨hsig, hrb⟩
  rw [State.Updating.publicOp.counter] at hrb
  rcases h with h | h
  · rw [hsig] at h
    cases h
  · omega

theorem State.Updating.fwAccepted (f : FwFacts) : s.Updating (s.fwAccepted f) := by
  have hv : s.Updating (s.addF F.secPkCount_public 0 1) := .publicOp
  have hw : ∀ x, s.Updating ((s.addF F.secPkCount_public 0 1).setFwSlot s.updateSlot x) := by
    intro x
    rw [← hv.slot]
    exact hv.trans (.setFwSlot x)
  exact (((hw _).trans (.setF_valid _)).trans (.setF_update _)).trans (.flag _ (by decide) (by decide))

theorem State.fwSlot_fwAccepted (f : FwFacts) : (s.fwAccepted f).fwSlot s.updateSlot =
    { s.fwSlot s.updateSlot with version := f.version, counter := f.rollback, valid := true } := by
  unfold State.fwAccepted State.addF
  dsimp only
  rw [State.fwSlot_flag, State.fwSlot_setF, State.fwSlot_setF, State.fwSlot_setFwSlot_same, State.fwSlot_setF]

theorem State.getF_fwAccepted (f : FwFacts) : (s.fwAccepted f).getF F.mgtFw_update = updStaged ∧
    (s.fwAccepted f).getF F.mgtStatus_fwStaged = 1 :=
  ⟨(State.getF_flag_other _ _ (by decide) (by decide)).trans (State.getF_setF_same _ _ _ _ (by decide)), State.getF_flag_fwStaged _⟩

theorem State.Updating.rollback (f : FwFacts) : s.Updating (if f.sigOk then s.flag F.secStatus_fwRollback else s) := by
  split
  · exact .flag _ (by decide) (by decide)
  · exact ⟨rfl, rfl, rfl, rfl, rfl, rfl⟩

theorem State.Updating.fwRefused (f : FwFacts) : s.Updating (s.fwRefused f) :=
  ((State.Updating.publicOp.trans (.rollback f)).trans (.setF_valid _)).trans (.setF_update _)

theorem State.fwSlot_fwRefused (f : FwFacts) (k : Nat) : (s.fwRefused f).fwSlot k = s.fwSlot k := by
  have h : ∀ v : State, (if f.sigOk then v.flag F.secStatus_fwRollback else v).fwSlot k = v.fwSlot k := by
    intro v
    split
    · exact State.fwSlot_flag ..
    · rfl
  exact h _

theorem State.getF_fwRefused (f : FwFacts) : (s.fwRefused f).getF F.mgtFw_update = updFailed := State.getF_setF_same _ _ _ _ (by decide)

end Update

/-! ### Management requests (O56) -/

section Requests
variable (t : Transport) (s : State)

theorem pldm_base_and_file (c : BitVec 8) (o l : Nat) :
    (s.mgmtServed t false = false → exec (.pldmBase t c) s = .next s ∧ exec (.pldmFileRead t o l) s = .next s) ∧
    (s.mgmtServed t false = true → 64 ≤ s.mgt.qMctp → exec (.pldmBase t c) s = .next (s.emit (.mgmt t .busy)) ∧
      exec (.pldmFileRead t o l) s = .next (s.emit (.mgmt t .busy))) ∧
    (s.mgmtServed t false = true → s.mgt.qMctp < 64 →
      (1 ≤ c.toNat → c.toNat ≤ 5 → exec (.pldmBase t c) s = .next (s.asked1.emit (.mgmt t .ok))) ∧
      (c.toNat = 0 ∨ 5 < c.toNat → exec (.pldmBase t c) s = .next (s.asked1.emit (.mgmt t .error))) ∧
      exec (.pldmFileRead t o l) s =
        .next (s.asked1.emit (.mgmt t (.records ((s.mgt.flash.drop (o / 64)).take (l / 64)))))) := by
  rw [exec_pldmBase, exec_pldmFileRead]
  refine ⟨fun h => ?_, fun h hq => ?_, fun h hq => ⟨fun h1 h5 => ?_, fun hc => ?_, ?_⟩⟩
  · rw [State.mgmtRequest_unserved h, State.mgmtRequest_unserved h]
    exact ⟨rfl, rfl⟩
  · rw [State.mgmtRequest_busy h hq, State.mgmtRequest_busy h hq]
    exact ⟨rfl, rfl⟩
  · rw [State.mgmtRequest_taken h hq (by rw [if_pos ⟨h1, h5⟩])]
  · rw [State.mgmtRequest_taken h hq (by rw [if_neg (by omega)])]
  · exact congrArg Host.Outcome.next (State.mgmtRequest_taken h hq rfl)

theorem pldm_sensors (o : Nat) : s.mgmtServed t false = true → s.mgt.shedTel = false → s.mgt.qTel < 32 →
    (o ≤ 2 ∨ 19 ≤ o ∧ o ≤ 26 → ∃ (u : State) (n : Nat), exec (.pldmSensorRead t o) s = .next (State.emit u (.mgmt t (.values [n]))) ∧
      u = { s.asked2 with free := u.free }) ∧
    (3 ≤ o → o ≤ 18 → s.code = .oz880 → exec (.pldmSensorRead t o) s =
      .next (s.asked2.emit (.mgmt t (.values [s.getF F.pwrTemp_temp (o - 3)])))) ∧
    (o = 27 → exec (.pldmSensorRead t o) s = .next (s.asked2.emit (.mgmt t (.values [s.mode.num])))) ∧
    (o = 28 → exec (.pldmSensorRead t o) s = .next (s.asked2.emit (.mgmt t (.values [s.getF F.pwrState_stage])))) ∧
    (28 < o → exec (.pldmSensorRead t o) s = .next (s.asked2.emit (.mgmt t .error))) := by
  intro h hshed hq
  refine ⟨fun ho => ?_, fun h3 h18 hcode => ?_, ?_, ?_, fun ho => ?_⟩
  · obtain ⟨off, f, hsensor⟩ := s.asked2.sensor_analogue ho
    obtain ⟨n, hn⟩ := s.asked2.regValue_snd off
    rw [exec_pldmSensorRead_some h hshed hq hsensor, hn]
    exact ⟨_, _, rfl, rfl⟩
  · have hsensor := s.asked2.sensor_temp h3 h18
    rw [State.sensorField, State.regValue_pwrTemp (s := s.asked2) (i := o - 3) hcode (by omega)] at hsensor
    rw [exec_pldmSensorRead_some h hshed hq hsensor]
    rfl
  · rintro rfl
    exact exec_pldmSensorRead_some h hshed hq rfl
  · rintro rfl
    exact exec_pldmSensorRead_some h hshed hq rfl
  · exact exec_pldmSensorRead_none h hshed hq (State.sensor_none ho)

theorem mgmt_registers (o : RegOff) (x : Word) :
    (t = .cxl → s.mode = .sleep → s.getF F.hptLink_state = 2 → exec (.regRead t o) s = .next (State.finish (s.startWake false)) ∧
      exec (.regWrite t o x) s = .next (State.finish (s.startWake false))) ∧
    (s.mode = .slath → exec (.regRead t o) s = .next s.finish ∧ exec (.regWrite t o x) s = .next s.finish) ∧
    (s.mode ≠ .slath → s.mgmtServed t false = true → s.mgt.qMctp < 64 →
      exec (.regRead t o) s =
        .next (State.finish ((s.asked1.readReg o.toNat).2.emit (.mgmt t (.value (s.asked1.readReg o.toNat).1)))) ∧
      exec (.regWrite t o x) s = .next (State.finish ((s.asked1.writeRegister o.toNat x).emit (.mgmt t .ok)))) ∧
    (s.mode ≠ .slath → s.mgmtServed t false = true → 64 ≤ s.mgt.qMctp →
      exec (.regRead t o) s = .next (State.finish (s.emit (.mgmt t .busy))) ∧
      exec (.regWrite t o x) s = .next (State.finish (s.emit (.mgmt t .busy)))) := by
  rw [exec_regRead, exec_regWrite]
  refine ⟨fun ht hm hl => ?_, fun hm => ?_, fun hm h hq => ?_, fun hm h hq => ?_⟩
  · rw [State.mgmtRegister_wakes ht hm hl, State.mgmtRegister_wakes ht hm hl]
    exact ⟨rfl, rfl⟩
  · rw [State.mgmtRegister_slath hm, State.mgmtRegister_slath hm]
    exact ⟨rfl, rfl⟩
  · rw [State.mgmtRegister_served hm h, State.mgmtRegister_served hm h]
    exact ⟨congrArg (fun u => Host.Outcome.next (State.finish u)) (State.mgmtRequest_taken h hq rfl),
      congrArg (fun u => Host.Outcome.next (State.finish u)) (State.mgmtRequest_taken h hq rfl)⟩
  · rw [State.mgmtRegister_served hm h, State.mgmtRegister_served hm h, State.mgmtRequest_busy h hq, State.mgmtRequest_busy h hq]
    exact ⟨rfl, rfl⟩

/-- Each request of an update goes by the mode and the queue. -/
theorem exec_update (o n : Nat) (f : FwFacts) {c : Instr}
    (hc : c ∈ [Instr.activateFirmware t, .pldmFwTransfer t o n none, .pldmFwTransfer t o n (some f)]) :
    ∃ body, exec c s = .next (s.updateRequest t body) := by
  simp only [List.mem_cons, List.not_mem_nil, or_false] at hc
  rcases hc with rfl | rfl | rfl
  · exact ⟨_, exec_activateFirmware t s⟩
  · exact ⟨_, exec_pldmFwTransfer ..⟩
  · exact ⟨_, exec_pldmFwTransfer ..⟩

theorem update_requests (o n : Nat) (f : FwFacts) (c : Instr)
    (hc : c ∈ [Instr.activateFirmware t, .pldmFwTransfer t o n none, .pldmFwTransfer t o n (some f)]) :
    (s.mode = .sleep → t = .i3c → exec c s = .next (s.startWake false)) ∧
    (s.mode = .sleep → t = .cxl → exec c s = .next s) ∧
    (s.mode ≠ .sleep → s.mgmtServed t true = false → exec c s = .next s) ∧
    (s.mode ≠ .sleep → s.mgmtServed t true = true → 64 ≤ s.mgt.qMctp → exec c s = .next (s.emit (.mgmt t .busy))) := by
  obtain ⟨body, hbody⟩ := exec_update t s o n f hc
  rw [hbody]
  refine ⟨?_, ?_, fun hm h => ?_, fun hm h hq => ?_⟩
  · rintro hm rfl
    exact congrArg Host.Outcome.next ((if_pos hm).trans (if_pos rfl))
  · rintro hm rfl
    exact congrArg Host.Outcome.next ((if_pos hm).trans (if_neg (by decide)))
  · rw [State.updateRequest_awake hm, State.mgmtRequest_unserved h]
  · rw [State.updateRequest_awake hm, State.mgmtRequest_busy h hq]

variable {t s} (hm : s.mode ≠ .sleep) (h : s.mgmtServed t true = true) (hq : s.mgt.qMctp < 64) {o n : Nat}
include hm h hq

theorem exec_pldmFwTransfer_taken {l : Option FwFacts} {a : Answer} {u : State} (hbody : s.asked1.fwTransfer o n l = (a, u)) :
    exec (.pldmFwTransfer t o n l) s = .next (u.emit (.mgmt t a)) := by
  rw [exec_pldmFwTransfer, State.updateRequest_awake hm, State.mgmtRequest_taken h hq hbody]

theorem pldm_portion (hsize : o + n ≤ 16777216) : ∃ u : State, exec (.pldmFwTransfer t o n none) s = .next u ∧
    u.out = s.out ++ [.mgmt t .ok] ∧ u.getF F.mgtFw_update = updReceiving ∧ u.fwSlot (1 - s.updateSlot) = s.fwSlot (1 - s.updateSlot) ∧
    (u.fwSlot s.updateSlot).valid = false ∧
    (s.getF F.mgtFw_update ≠ updReceiving → (u.fwSlot s.updateSlot).written = o + n) ∧
    (s.getF F.mgtFw_update = updReceiving → (u.fwSlot s.updateSlot).written = max (s.fwSlot s.updateSlot).written (o + n)) ∧
    u.mem = s.mem := by
  rw [exec_pldmFwTransfer_taken hm h hq (State.fwTransfer_part hsize)]
  have hu : s.asked1.Updating (s.asked1.fwWritten o n) := .fwWritten o n
  have hslot : (s.asked1.fwWritten o n).fwSlot s.updateSlot = { FwSlot.fresh with written := s.asked1.fwBytes o n } :=
    State.fwSlot_fwWritten o n
  refine ⟨_, rfl, ?_, State.getF_fwWritten o n, hu.other, ?_, fun hr => ?_, fun hr => ?_, hu.mem⟩
  · rw [State.emit_out, hu.out]
    rfl
  · exact congrArg FwSlot.valid hslot
  · exact (congrArg FwSlot.written hslot).trans (State.fwBytes_begin (s := s.asked1) hr)
  · exact (congrArg FwSlot.written hslot).trans (State.fwBytes_more (s := s.asked1) hr)

theorem pldm_last_good {f : FwFacts} (hsize : o + n ≤ 16777216) (hsig : f.sigOk = true)
    (hrb : s.getF F.secFwRollback_counter ≤ f.rollback) : ∃ u : State, exec (.pldmFwTransfer t o n (some f)) s = .next u ∧
      u.out = s.out ++ [.mgmt t .ok] ∧ u.getF F.mgtFw_update = updStaged ∧ u.getF F.mgtStatus_fwStaged = 1 ∧
      u.fwSlot (1 - s.updateSlot) = s.fwSlot (1 - s.updateSlot) ∧ (u.fwSlot s.updateSlot).valid = true ∧
      (u.fwSlot s.updateSlot).version = f.version ∧ u.getF F.mgtFw_active = s.getF F.mgtFw_active ∧ u.mem = s.mem := by
  have hw : s.asked1.Updating (s.asked1.fwWritten o n) := .fwWritten o n
  have hu := hw.trans (.fwAccepted f)
  have hverify := State.fwVerify_good hsig (hw.counter.trans_le hrb)
  rw [exec_pldmFwTransfer_taken hm h hq ((State.fwTransfer_last hsize f).trans hverify)]
  have hslot := (s.asked1.fwWritten o n).fwSlot_fwAccepted f
  rw [hw.slot] at hslot
  obtain ⟨hstaged, hbit⟩ := (s.asked1.fwWritten o n).getF_fwAccepted f
  generalize (s.asked1.fwWritten o n).fwAccepted f = v at hu hslot hstaged hbit
  refine ⟨_, rfl, ?_, hstaged, hbit, hu.other, congrArg FwSlot.valid hslot, congrArg FwSlot.version hslot, hu.active, hu.mem⟩
  rw [State.emit_out, hu.out]
  rfl

theorem pldm_last_bad {f : FwFacts} (hsize : o + n ≤ 16777216) (hbad : f.sigOk = false ∨ f.rollback < s.getF F.secFwRollback_counter) :
    ∃ u : State, exec (.pldmFwTransfer t o n (some f)) s = .next u ∧ u.out = s.out ++ [.mgmt t .error] ∧
      u.getF F.mgtFw_update = updFailed ∧ u.fwSlot (1 - s.updateSlot) = s.fwSlot (1 - s.updateSlot) ∧
      (u.fwSlot s.updateSlot).valid = false ∧ u.mem = s.mem := by
  have hw : s.asked1.Updating (s.asked1.fwWritten o n) := .fwWritten o n
  have hu := hw.trans (.fwRefused f)
  have hverify := State.fwVerify_bad (f := f) (s := s.asked1.fwWritten o n) (hbad.imp id fun hlt => hlt.trans_eq hw.counter.symm)
  rw [exec_pldmFwTransfer_taken hm h hq ((State.fwTransfer_last hsize f).trans hverify)]
  have hslot : ((s.asked1.fwWritten o n).fwRefused f).fwSlot s.updateSlot = _ :=
    (State.fwSlot_fwRefused f _).trans (State.fwSlot_fwWritten o n)
  refine ⟨_, rfl, ?_, State.getF_fwRefused f, hu.other, congrArg FwSlot.valid hslot, hu.mem⟩
  rw [State.emit_out, hu.out]
  rfl

theorem exec_activateFirmware_staged (hstaged : s.getF F.mgtFw_update = updStaged) : exec (.activateFirmware t) s =
    .next ((s.asked1.setF F.mgtFw_active 0 s.updateSlot).emit (.mgmt t .ok)) := by
  rw [exec_activateFirmware, State.updateRequest_awake hm, State.mgmtRequest_taken h hq (if_pos hstaged)]
  rfl

theorem exec_activateFirmware_unstaged (hstaged : s.getF F.mgtFw_update ≠ updStaged) : exec (.activateFirmware t) s =
    .next (s.asked1.emit (.mgmt t .error)) := by
  rw [exec_activateFirmware, State.updateRequest_awake hm, State.mgmtRequest_taken h hq (if_neg hstaged)]

end Requests

/-- Settles O56: a request by its transport and its queue, and what each answers and leaves. -/
theorem managementRequestsComplete : Obligations.ManagementRequestsComplete := by
  refine ⟨fun t c o l s => ?_, fun t o x s => mgmt_registers t s o x, fun t o n f s c hc => update_requests t s o n f c hc,
    fun t o n f s hm h hq => ⟨fun hsize => ?_, fun hsize => ⟨pldm_portion hm h hq hsize, pldm_last_good hm h hq hsize,
      pldm_last_bad hm h hq hsize⟩, exec_activateFirmware_staged hm h hq, exec_activateFirmware_unstaged hm h hq⟩⟩
  · obtain ⟨hunserved, hbusy, htaken⟩ := pldm_base_and_file t s c o l
    exact ⟨fun h => ⟨(hunserved h).1, (hunserved h).2, exec_pldmSensorRead_unserved h⟩, hbusy, htaken,
      exec_pldmSensorRead_busy, pldm_sensors t s o⟩
  · exact exec_pldmFwTransfer_taken hm h hq (State.fwTransfer_over hsize none)

end Sys2Proof.Machine

end

section

namespace Sys2Proof.Machine

/-! ### Sending (R405 to R470)

What sending a packet leaves: any view that shows neither the fabric, the management part, what is sent or held, the registers of fault
records nor those from LNK on. -/

/-- The fields that sending writes: two of the port, whatever its number, and those that lie in the registers of LNK and SWC. -/
def Fld.sent (f : Fld) (i : Nat) : Prop :=
  f = F.lnkCtl_reauth ∨ f = F.lnkState_keyEpoch ∨ 0x100000 ≤ f.base ∧ f.off i < 0x140000

theorem Fld.sent_in {f : Fld} {i : Nat} (h : 0x100000 ≤ f.base ∧ f.off i < 0x140000) : f.sent i := .inr (.inr h)

theorem sent_unreach (d : DevNo) : F.swcUnreach_map.sent (d.toNat / 64) := by
  have := d.isLt
  refine Fld.sent_in ⟨by decide, ?_⟩
  change 0x120300 + 8 * (d.toNat / 64) < 0x140000
  omega

theorem Fld.sent_far {f : Fld} {i : Nat} (h : f.sent i) : 0x100000 ≤ f.base := by
  obtain rfl | rfl | h := h
  · decide
  · decide
  · exact h.1

/-- A view that sending does not change. -/
structure SendBlind {α : Type} (φ : State → α) : Prop extends RecordBlind φ where
  fab : ∀ (s : State) (f : FabS), φ { s with fab := f } = φ s
  mgt : ∀ (s : State) (m : MgtS), φ { s with mgt := m } = φ s
  out : ∀ (s : State) (o : Out), φ (s.emit o) = φ s
  holds : ∀ (s : State) (l : List SleepHold), φ { s with pwr := { s.pwr with holds := l } } = φ s
  wakeSent : ∀ (s : State) (l : List DevNo), φ { s with pwr := { s.pwr with wakeSent := l } } = φ s
  far : ∀ (s : State) (f : Fld) (i v : Nat), f.sent i → φ (s.setF f i v) = φ s

namespace SendBlind
variable {α : Type} {φ : State → α} {s : State} (h : SendBlind φ)
include h

theorem fabOnly (s u : State) (hu : u = { s with fab := u.fab }) : φ u = φ s := by
  rw [hu]
  exact h.fab ..

theorem flagFar (f : Fld) (n : Note) (i : Nat) (hf : f.sent i) : φ (s.flag f n i) = φ s :=
  (h.toRecordBlind.flag ..).trans (h.far _ _ _ _ hf)

theorem addFar (f : Fld) (i n : Nat) (hf : f.sent i) : φ (s.addF f i n) = φ s := h.far _ _ _ _ hf

theorem setPort (p : Nat) (q : Port) : φ (s.setPort p q) = φ s := h.fab ..

theorem setTx (t : TxFlow) : φ (s.setTx t) = φ s := h.fab ..

theorem owe (i : Nat) (p : Packet) : φ (s.owe i p) = φ s := h.fab ..

theorem oweIn (i : Option Nat) (p : Packet) : φ (s.oweIn i p) = φ s := by
  cases i with
  | none => rfl
  | some i => exact h.owe i p

theorem tel (f : Fld) (i n : Nat) : φ (s.tel f i n) = φ s := h.mgt ..

theorem sendFlits (p n : Nat) (packet : Option Packet) : φ (s.sendFlits p n packet) = φ s := by
  have hreauth (u : State) (c : Prop) [Decidable c] : φ (if c then u.setF F.lnkCtl_reauth p 0 else u) = φ u := by
    split
    · exact h.far _ _ _ _ (.inl rfl)
    · rfl
  unfold State.sendFlits
  dsimp only
  split
  · split
    · exact (hreauth _ _).trans ((h.far _ _ _ _ (.inr (.inl rfl))).trans (h.setPort ..))
    · exact h.setPort ..
  · exact (hreauth _ _).trans (h.setPort ..)

theorem moveShared (n port : Nat) : ∀ s : State, φ (State.moveShared n port s) = φ s := by
  induction n with
  | zero => exact fun _ => rfl
  | succ n ih =>
    intro s
    unfold State.moveShared
    split
    · rfl
    · split
      · exact (ih _).trans ((h.owe ..).trans (h.setPort ..))
      · rfl

theorem leftOutput (port : Nat) (p : Packet) : φ (s.leftOutput port p) = φ s := by
  unfold State.leftOutput
  dsimp only
  rw [h.moveShared]
  split
  · exact (h.owe ..).trans (h.setPort ..)
  · rfl

theorem transmit (port i : Nat) (p : Packet) : φ (s.transmit port i p) = φ s := by
  unfold State.transmit
  dsimp only
  rw [h.tel, h.out, h.sendFlits, h.leftOutput, h.setPort]

theorem drain (n port : Nat) : ∀ s : State, φ (State.drain n port s) = φ s := by
  induction n with
  | zero => exact fun _ => rfl
  | succ n ih =>
    intro s
    unfold State.drain
    split
    · split
      · rfl
      · exact (ih _).trans (h.transmit ..)
    · rfl

theorem enqueue (port : Nat) (p : Packet) (i : Option Nat) : φ (s.enqueue port p i) = φ s := by
  unfold State.enqueue
  dsimp only
  rw [h.drain]
  split
  · exact h.setPort ..
  · split
    · exact (h.owe ..).trans (h.setPort ..)
    · exact (h.setPort ..).trans (h.setPort ..)

theorem dropPacket : φ s.dropPacket = φ s := h.addFar _ _ _ (Fld.sent_in (by decide))

theorem mcastOut (p : Packet) (i : Option Nat) : φ (s.mcastOut p i) = φ s := by
  have hemit (u : State) (c : Prop) [Decidable c] (o : Out) : φ (if c then u.emit o else u) = φ u := by
    split
    · exact h.out ..
    · rfl
  unfold State.mcastOut
  split
  · exact h.oweIn ..
  · dsimp only
    refine (hemit _ _ _).trans ((foldl_unchanged φ (fun u port => ?_) _ _).trans ?_)
    · split
      · exact h.enqueue ..
      · exact h.dropPacket
    · split
      · exact h.oweIn ..
      · rfl

theorem unicastOut (p : Packet) (avoid i : Option Nat) : φ (s.unicastOut p avoid i) = φ s := by
  unfold State.unicastOut
  split
  · exact (h.out ..).trans (h.oweIn ..)
  · split
    · exact (h.flagFar _ _ _ (Fld.sent_in (by decide))).trans (h.dropPacket.trans (h.oweIn ..))
    · split
      · exact (h.flagFar _ _ _ (Fld.sent_in (by decide))).trans (h.dropPacket.trans (h.oweIn ..))
      · exact h.enqueue ..

theorem wakingFor (p : Packet) : φ (s.wakingFor p) = φ s := by
  unfold State.wakingFor
  split
  · split
    · rfl
    · split
      · split
        · exact h.fab ..
        · exact h.unicastOut ..
      · rfl
  · rfl

theorem out1 (p : Packet) (avoid i : Option Nat) : φ (s.out1 p avoid i) = φ s := by
  unfold State.out1
  split
  · exact h.mcastOut ..
  · exact (h.unicastOut ..).trans (h.wakingFor ..)

theorem launch (p : Packet) (i : Option Issuer) : φ (s.launch p i) = φ s := by
  unfold State.launch
  dsimp only
  split
  · split
    · refine (foldl_unchanged φ (fun _ _ => h.out1 ..) _ _).trans ?_
      exact h.fabOnly s _ rfl
    · refine (foldl_unchanged φ (fun _ _ => h.out1 ..) _ _).trans ?_
      exact h.fabOnly s _ rfl
  · split
    · refine (h.out1 ..).trans ?_
      exact h.fabOnly s _ rfl
    · refine (h.out1 ..).trans ?_
      exact h.fabOnly s _ rfl

theorem sendWake (d : DevNo) : φ (s.sendWake d) = φ s := by
  unfold State.sendWake
  split
  · rfl
  · dsimp only
    split
    · exact (h.launch ..).trans (h.wakeSent ..)
    · exact (h.fabOnly ({ s with pwr := { s.pwr with wakeSent := s.pwr.wakeSent ++ [d] } } : State) _ rfl).trans (h.wakeSent ..)

theorem noteLost (p : Packet) : φ (s.noteLost p) = φ s := by
  unfold State.noteLost
  exact (h.fab ..).trans (h.flagFar _ _ _ (Fld.sent_in (by decide)))

theorem noteDead (d : DevNo) (a : Word) (t : Tenant) : φ (s.noteDead d a t) = φ s := by
  unfold State.noteDead
  exact (h.flagFar _ _ _ (Fld.sent_in (by decide))).trans ((h.far _ _ _ _ (sent_unreach d)).trans
    ((h.flagFar _ _ _ (Fld.sent_in (by decide))).trans
      (h.addFar _ _ _ (Fld.sent_in (by decide)))))

theorem sendPacket (p : Packet) (i : Option Issuer) (b : Bool) : φ (s.sendPacket p i b).2 = φ s := by
  unfold State.sendPacket
  dsimp only
  split
  · rw [h.sendWake]
    exact h.holds ..
  · split
    · split
      · exact (h.noteLost _).trans (h.setTx _)
      · split
        · exact h.noteDead ..
        · rfl
    · split
      · exact (h.flagFar _ _ _ (Fld.sent_in (by decide))).trans (h.fab ..)
      · exact h.launch ..

theorem sendMsg (d : DevNo) (c : Nat) (t : Tenant) (m : Msg) (b : Bool) : φ (s.sendMsg d c t m b) = φ s := by
  unfold State.sendMsg
  dsimp only
  split
  · exact h.out ..
  · exact h.sendPacket ..

theorem sendGroup (g c : Nat) (t : Tenant) (m : Msg) : φ (s.sendGroup g c t m) = φ s := h.sendPacket ..

end SendBlind

/-! ### What the device's work leaves of its power state (R652 to R675)

`State.power` is what only the power domain itself changes: the mode, its part of the state beside the packets held for a sleeping
target, and the registers of its block. One lemma for each operation that a Crust entry, a sleep sequence or a wake goes through. -/

/-- The registers of the power block. -/
def powerReg (off : Nat) : Bool := decide (65536 ≤ off) && decide (off < 131072)

/-- The mode, the power part beside what is held for sleeping targets, the registers of the power block. -/
def powerOf (m : Mode) (p : PwrS) (c : OrderCode) (r : Table Word) : Mode × PwrS × (Nat → Word) :=
  (m, { p with holds := [], wakeSent := [] }, fun off => if powerReg off then r.get off (resetWord c off) else 0)

def State.power (s : State) : Mode × PwrS × (Nat → Word) := powerOf s.mode s.pwr s.code s.regs

@[simp] theorem State.power_mk (c d m w st f r i mem t x ce sc sv sr fa hp ma we se p mg o pe) :
    State.power ⟨c, d, m, w, st, f, r, i, mem, t, x, ce, sc, sv, sr, fa, hp, ma, we, se, p, mg, o, pe⟩ = powerOf m p c r := (rfl)

@[simp] theorem State.power_eta (s : State) : powerOf s.mode s.pwr s.code s.regs = s.power := (rfl)

@[simp] theorem State.power_wakeSent (s : State) (l : List DevNo) :
    State.power { s with pwr := { s.pwr with wakeSent := l } } = s.power := (rfl)

@[simp] theorem State.power_holds (s : State) (l : List SleepHold) :
    State.power { s with pwr := { s.pwr with holds := l } } = s.power := (rfl)

theorem State.power_fab (s : State) (f : FabS) : State.power { s with fab := f } = s.power := (rfl)

@[simp] theorem State.power_ite (c : Prop) [Decidable c] (a b : State) :
    (if c then a else b).power = if c then a.power else b.power := apply_ite State.power c a b

@[simp] theorem State.power_foldl {α : Type} (f : State → α → State) (h : ∀ s a, (f s a).power = s.power) (l : List α) :
    ∀ s : State, (l.foldl f s).power = s.power := foldl_unchanged State.power h l

theorem State.power_ite_of {c : Prop} [Decidable c] {a b : State} {k : Mode × PwrS × (Nat → Word)} (ha : a.power = k) (hb : b.power = k) :
    (if c then a else b).power = k := (State.power_ite c a b).trans (ite_eq_of_both ha hb)

theorem State.power_of_fst {α : Type} {p : State × α} {t : State} {a : α} (h : p = (t, a)) : t.power = p.1.power := by rw [h]
theorem State.power_of_snd {α : Type} {p : α × State} {t : State} {a : α} (h : p = (a, t)) : t.power = p.2.power := by rw [h]
theorem State.power_of_frame {g : Got} {t : State} (h : g = .frame t) : t.power = g.state.power := by rw [h]; rfl
theorem State.power_of_wait {g : Got} {t : State} {b : Nat} (h : g = .wait t b) : t.power = g.state.power := by rw [h]; rfl
theorem State.power_of_quota {g : Got} {t : State} (h : g = .quota t) : t.power = g.state.power := by rw [h]; rfl

theorem State.power_setReg {s : State} {off : Nat} (h : powerReg off = false) (w : Word) : (s.setReg off w).power = s.power := by
  refine Prod.ext rfl (Prod.ext rfl (funext fun o => ?_))
  change (if powerReg o then (s.setReg off w).reg o else 0) = if powerReg o then s.reg o else 0
  by_cases ho : powerReg o = true
  · have hne : o ≠ off := by
      rintro rfl
      rw [h] at ho
      cases ho
    rw [if_pos ho, if_pos ho]
    exact s.reg_setReg_other w hne
  · rw [if_neg ho, if_neg ho]

/-- A field of a register after the power block, whatever its index. -/
def Fld.far (f : Fld) : Bool := decide (131072 ≤ f.base)

theorem Fld.powerReg_far {f : Fld} (h : f.far = true) (i : Nat) : powerReg (f.off i) = false := by
  have hb : 131072 ≤ f.base := of_decide_eq_true h
  have ho : ¬f.off i < 131072 := by
    unfold Fld.off
    omega
  rw [powerReg, decide_eq_false ho, Bool.and_false]

@[simp] theorem State.setF_power (s : State) (f : Fld) (i v : Nat) (h : f.far = true) : (s.setF f i v).power = s.power :=
  State.power_setReg (Fld.powerReg_far h i) _

@[simp] theorem State.addF_power (s : State) (f : Fld) (i v : Nat) (h : f.far = true) : (s.addF f i v).power = s.power :=
  State.setF_power s f i _ h

/-- Fault records lie before the power block. -/
theorem State.power_blind : RecordBlind State.power :=
  ⟨fun _ _ _ => rfl, fun _ _ => rfl, fun _ _ => State.power_setReg (by decide) _, fun _ _ => State.power_setReg (by decide) _,
    fun _ _ => State.power_setReg (by decide) _, fun _ _ => State.power_setReg (by decide) _⟩

theorem State.flag_power_of_setF (s : State) (f : Fld) (n : Note) (i : Nat) : (s.flag f n i).power = (s.setF f i 1).power :=
  State.power_blind.flag ..

/-- What sending changes lies outside the power view. -/
theorem State.power_sendBlind : SendBlind State.power where
  toRecordBlind := State.power_blind
  fab := State.power_fab
  mgt _ _ := rfl
  out _ _ := rfl
  holds := State.power_holds
  wakeSent := State.power_wakeSent
  far s f i v h := State.setF_power s f i v (decide_eq_true (Nat.le_trans (by decide) (Fld.sent_far h)))

@[simp] theorem State.flag_power (s : State) (f : Fld) (n : Note) (i : Nat) (h : f.far = true) : (s.flag f n i).power = s.power :=
  (s.flag_power_of_setF ..).trans (State.setF_power s f i 1 h)

/-- The fields that a Crust entry, a sleep sequence or a wake writes outside the power block. -/
@[simp] theorem far_fields :
    F.cellCluster_clk.far = true ∧ F.cellCluster_pllLocked.far = true ∧ F.cellState_kernel.far = true ∧ F.cellState_priv.far = true ∧
    F.cellState_run.far = true ∧ F.hptBindErr_count.far = true ∧ F.hptBindErr_lastCode.far = true ∧ F.hptRecallCount_count.far = true ∧
    F.hptRetryCount_count.far = true ∧ F.hptStatus_dirFull.far = true ∧ F.hptStatus_hostErr.far = true ∧ F.lnkCtl_reauth.far = true ∧
    F.lnkDeadCount_count.far = true ∧ F.lnkState_keyEpoch.far = true ∧ F.lnkState_state.far = true ∧ F.mapStatus_logMiss.far = true ∧
    F.schedSync_locked.far = true ∧ F.srchStatus_shardPoison.far = true ∧ F.svcRejectCount_count.far = true ∧
    F.svcStatus_lateEnd.far = true ∧ F.swcDropCount_count.far = true ∧ F.swcStatus_hopLimit.far = true ∧ F.swcStatus_noRoute.far = true ∧
    F.swcStatus_postedLost.far = true ∧ F.swcStatus_replayFull.far = true ∧ F.swcStatus_reqDead.far = true ∧
    F.swcStatus_unreachable.far = true ∧ F.swcUnreach_map.far = true ∧ F.tierEvictCount_count.far = true ∧ F.tierOpCmd_busy.far = true ∧
    F.tierResvUsed_t0Used.far = true ∧ F.tierResvUsed_t1Used.far = true ∧ F.tierSinkCancelCount_count.far = true ∧
    F.tierStatus_quarantined.far = true ∧ F.tierT2Free_t2Free.far = true ∧ F.weaveStartTime_ms.far = true := by
  decide

@[simp] theorem usedF_far (t : Tier) : (usedF t).far = true := by cases t <;> decide

@[simp] theorem freeF_far (t : Tier) : (freeF t).far = true := by cases t <;> decide

@[simp] theorem State.fresh_power (s : State) : (s.fresh).2.power = s.power := (rfl)

@[simp] theorem State.tel_power (s : State) (f i n) : (s.tel f i n).power = s.power := (rfl)

@[simp] theorem State.emit_power (s : State) (o) : (s.emit o).power = s.power := (rfl)

@[simp] theorem State.latch_power (s : State) (c ts) : (s.latch c ts).power = s.power := (rfl)

@[simp] theorem State.onTier_power (s : State) (g) : (s.onTier g).power = s.power := (rfl)

@[simp] theorem State.onCell_power (s : State) (g) : (s.onCell g).power = s.power := (rfl)

@[simp] theorem State.onSched_power (s : State) (g) : (s.onSched g).power = s.power := (rfl)

@[simp] theorem State.onSvc_power (s : State) (g) : (s.onSvc g).power = s.power := (rfl)

@[simp] theorem State.onSrch_power (s : State) (g) : (s.onSrch g).power = s.power := (rfl)

@[simp] theorem State.onHpt_power (s : State) (g) : (s.onHpt g).power = s.power := (rfl)

@[simp] theorem State.onMap_power (s : State) (g) : (s.onMap g).power = s.power := (rfl)

@[simp] theorem State.onWeave_power (s : State) (g) : (s.onWeave g).power = s.power := (rfl)

@[simp] theorem State.noteStart_power (s : State) : (s.noteStart).power = s.power := by
  simp [State.noteStart]

@[simp] theorem State.setPort_power (s : State) (p q) : (s.setPort p q).power = s.power := State.power_sendBlind.setPort ..

@[simp] theorem State.drain_power (s : State) (n port) : (s.drain n port).power = s.power := State.power_sendBlind.drain ..

@[simp] theorem State.out1_power (s : State) (p avoid inp) : (s.out1 p avoid inp).power = s.power := State.power_sendBlind.out1 ..

@[simp] theorem State.noteDead_power (s : State) (dst addr tenant) : (s.noteDead dst addr tenant).power = s.power :=
  State.power_sendBlind.noteDead ..

@[simp] theorem State.noteLost_power (s : State) (p) : (s.noteLost p).power = s.power := State.power_sendBlind.noteLost ..

@[simp] theorem State.newTag_power (s : State) : (s.newTag).2.power = s.power := (rfl)

@[simp] theorem State.sendPacket_power (s : State) (p iss boundary) : (s.sendPacket p iss boundary).2.power = s.power :=
  State.power_sendBlind.sendPacket ..

@[simp] theorem State.sendMsg_power (s : State) (dst cls tenant m boundary) : (s.sendMsg dst cls tenant m boundary).power = s.power :=
  State.power_sendBlind.sendMsg ..

@[simp] theorem State.sendLoose_power (s : State) (p) : (s.sendLoose p).power = s.power := by
  simp [State.sendLoose]

@[simp] theorem State.sendReply_power (s : State) (p code detail data) : (s.sendReply p code detail data).power = s.power := by
  simp [State.sendReply]

@[simp] theorem State.propose_power (s : State) (op r) : (s.propose op r).power = s.power := by
  simp [State.propose]

@[simp] theorem State.setCell_power (s : State) (c v) : (s.setCell c v).power = s.power := (rfl)

@[simp] theorem State.onCellAt_power (s : State) (c g) : (s.onCellAt c g).power = s.power := (rfl)

@[simp] theorem State.kernelEnd_power (s : State) (c code) : (s.kernelEnd c code).power = s.power := by
  unfold State.kernelEnd
  simp
  split <;> simp

@[simp] theorem State.setBlk_power (s : State) (b e) : (s.setBlk b e).power = s.power := (rfl)

@[simp] theorem State.tierEvent_power (s : State) (e) : (s.tierEvent e).power = s.power := (rfl)

@[simp] theorem State.makeReady_power (s : State) (ws) : (s.makeReady ws).power = s.power := (rfl)

@[simp] theorem State.giveFrames_power (s : State) (t n) : (s.giveFrames t n).power = s.power := by
  simp [State.giveFrames]

@[simp] theorem State.takeFrames_power (s : State) (t n) : (s.takeFrames t n).power = s.power := by
  simp [State.takeFrames]

@[simp] theorem State.setResv_power (s : State) (r v) : (s.setResv r v).power = s.power := (rfl)

@[simp] theorem State.countFrame_power (s : State) (tn t resv) : (s.countFrame tn t resv).power = s.power := by
  unfold State.countFrame
  split
  · split <;> simp
  · simp

@[simp] theorem State.uncountFrame_power (s : State) (tn t resv) : (s.uncountFrame tn t resv).power = s.power := by
  unfold State.uncountFrame
  split
  · split <;> simp
  · simp

@[simp] theorem State.releaseResv_power (s : State) (id) : (s.releaseResv id).power = s.power := by
  unfold State.releaseResv
  split
  · rfl
  · simp

@[simp] theorem State.setPool_power (s : State) (t n) : (s.setPool t n).power = s.power := (rfl)

@[simp] theorem State.freeRun_power (s : State) (t n) : (s.freeRun t n).power = s.power := by
  simp [State.freeRun]

@[simp] theorem State.wakeVictim_power (s : State) (b) : (s.wakeVictim b).power = s.power := (rfl)

@[simp] theorem State.dropCopy_power (s : State) (b t) : (s.dropCopy b t).power = s.power := by
  unfold State.dropCopy
  split
  · simp
    split <;> simp
  · simp
    split <;> simp

@[simp] theorem State.cancelSink_power (s : State) (b t) : (s.cancelSink b t).power = s.power := by
  simp [State.cancelSink]

@[simp] theorem State.evictCopy_power (s : State) (b t) : (s.evictCopy b t).2.power = s.power := by
  unfold State.evictCopy
  simp
  split
  · simp
  · simp

theorem State.allocT1_power {n s tried} {t : State} (h : State.allocT1 n s tried = some t) : t.power = s.power := by
  induction n generalizing s tried with
  | zero => cases h
  | succ n ih =>
    unfold State.allocT1 at h
    split at h
    · cases h; simp
    · split at h
      · cases h
      · split at h
        · simpa using ih h
        · exact ih h

theorem State.evictLive_power {s t : State} {b} (h : s.evictLive b = some t) : t.power = s.power := by
  unfold State.evictLive at h
  dsimp only at h
  split at h
  · split at h
    · cases h
    · next h1 => cases h; simp [State.allocT1_power h1]
  · cases h

@[simp] theorem State.allocFrame_power (n s t tried) : (State.allocFrame n s t tried).state.power = s.power := by
  induction n generalizing s tried with
  | zero => simp [State.allocFrame]
  | succ n ih =>
    unfold State.allocFrame
    split
    · simp
    · split
      · simp
      · split
        · next h => simp [ih, power_of_snd h]
        · next h => simp [power_of_snd h]
      · split
        · next h => simp [State.evictLive_power h]
        · exact ih _ _

@[simp] theorem State.alloc_power (s : State) (t) : (s.alloc t).state.power = s.power := by
  simp [State.alloc]

@[simp] theorem State.allocRunFrames_power (n got s t) : (State.allocRunFrames n got s t).state.power = s.power := by
  induction n generalizing s got with
  | zero => simp [State.allocRunFrames]
  | succ n ih =>
    unfold State.allocRunFrames
    split
    · next h => simp [ih, power_of_frame h]
    · next h => simp [power_of_wait h]
    · next h => simp [power_of_quota h]

@[simp] theorem State.allocRun_power (s : State) (t n) : (s.allocRun t n).state.power = s.power := by
  unfold State.allocRun
  simp
  split
  · next h => simp [power_of_frame h]
  · simp

@[simp] theorem State.setDrive_power (s : State) (d v) : (s.setDrive d v).power = s.power := (rfl)

@[simp] theorem State.freeT2_power (s : State) (d st n) : (s.freeT2 d st n).power = s.power := by
  unfold State.freeT2
  split
  · rfl
  · simp

@[simp] theorem State.compact_power (s : State) (d) : (s.compact d).power = s.power := (rfl)

@[simp] theorem State.catAppend_power (s : State) (d b op sectors lba) : (s.catAppend d b op sectors lba).power = s.power := by
  simp [State.catAppend]

@[simp] theorem State.setImage_power (s : State) (i v) : (s.setImage i v).power = s.power := (rfl)

@[simp] theorem State.dropRef_power (s : State) (i) : (s.dropRef i).power = s.power := by
  unfold State.dropRef
  split
  · rfl
  · simp

@[simp] theorem State.unbindImage_power (s : State) (b) : (s.unbindImage b).power = s.power := by
  unfold State.unbindImage
  split
  · rfl
  · split <;> simp

@[simp] theorem State.opResult_power (s : State) (b code) : (s.opResult b code).power = s.power := by
  simp [State.opResult, State.power_setReg (off := F.tierOpResult_code.off 0) (by decide)]

@[simp] theorem State.opEnd_power (s : State) (op b code) : (s.opEnd op b code).power = s.power := by
  simp [State.opEnd]

@[simp] theorem State.sealDone_power (s : State) (b owner code) : (s.sealDone b owner code).power = s.power := by
  unfold State.sealDone
  split
  · simp
  · simp

@[simp] theorem State.abortSeal_power (s : State) (b code) : (s.abortSeal b code).power = s.power := by
  unfold State.abortSeal
  simp
  split
  · rfl
  · split
    · simp [*]
    · split <;> simp

@[simp] theorem State.allocCopy_power (s : State) (b t packed) : (s.allocCopy b t packed).state.power = s.power := by
  simp [State.allocCopy]

@[simp] theorem State.startRise_power (s : State) (b t packed) : (s.startRise b t packed).state.power = s.power := by
  unfold State.startRise
  split
  · next h => simp [power_of_frame h]
  · next h => simp [power_of_wait h]
  · next h => simp [power_of_quota h]

@[simp] theorem State.quarantine_power (s : State) (b) : (s.quarantine b).power = s.power := by
  simp [State.quarantine]

@[simp] theorem State.beginRefetch_power (s : State) (b srcs) : (s.beginRefetch b srcs).power = s.power := by
  simp [State.beginRefetch]

@[simp] theorem State.copyFailed_power (s : State) (b t) : (s.copyFailed b t).power = s.power := by
  simp [State.copyFailed]

@[simp] theorem State.sendMirror_power (s : State) (epoch item) : (s.sendMirror epoch item).power = s.power := by
  simp [State.sendMirror]

@[simp] theorem State.tellTaker_power (s : State) (home off data mask) : (s.tellTaker home off data mask).power = s.power := by
  unfold State.tellTaker
  simp
  split
  · simp
  · rfl

@[simp] theorem State.mirrorStore_power (s : State) (off data mask) : (s.mirrorStore off data mask).power = s.power := by
  simp [State.mirrorStore]

@[simp] theorem State.setDir_power (s : State) (l e) : (s.setDir l e).power = s.power := (rfl)

@[simp] theorem State.sendRecall_power (s : State) (h sa) : (s.sendRecall h sa).power = s.power := by
  unfold State.sendRecall
  dsimp only
  split
  · simp
  · simp

@[simp] theorem State.recallHolders_power (s : State) (l hs) : (s.recallHolders l hs).power = s.power := by
  simp [State.recallHolders]

@[simp] theorem State.grantCopy_power (s : State) (l h t ask) : (s.grantCopy l h t ask).power = s.power := (rfl)

@[simp] theorem State.moverGot_power (s : State) (c ch code data) : (s.moverGot c ch code data).power = s.power := (rfl)

@[simp] theorem State.bindError_power (s : State) (b code) : (s.bindError b code).power = s.power := by
  simp [State.bindError]

@[simp] theorem State.hostEnd_power (s : State) (b dpa code data) : (s.hostEnd b dpa code data).power = s.power := by
  simp [State.hostEnd]

@[simp] theorem State.setHomeOpLine_power (s : State) (b l v) : (s.setHomeOpLine b l v).power = s.power := (rfl)

@[simp] theorem State.homeopEnd_power (s : State) (b l code detail result) : (s.homeopEnd b l code detail result).power = s.power := by
  unfold State.homeopEnd
  dsimp only
  split <;> simp

@[simp] theorem State.grantOnDone_power (s : State) (x1 code) : (s.grantOnDone x1 code).power = s.power := by
  unfold State.grantOnDone
  split
  · simp
  · rfl

@[simp] theorem State.answer_power (s : State) (x1 code detail data) : (s.answer x1 code detail data).power = s.power := by
  unfold State.answer
  split <;> simp

@[simp] theorem State.refuseAccess_power (s : State) (x1 code detail) : (s.refuseAccess x1 code detail).power = s.power := by
  simp [State.refuseAccess]

@[simp] theorem State.waitAtBlock_power (s : State) (b a) : (s.waitAtBlock b a).power = s.power := (rfl)

@[simp] theorem State.waitForVictim_power (s : State) (v a) : (s.waitForVictim v a).power = s.power := (rfl)

@[simp] theorem State.telServed_power (s : State) (a t n) : (s.telServed a t n).power = s.power := by
  simp [State.telServed]

@[simp] theorem State.readSealed_power (s : State) (b e x3 n) : (s.readSealed b e x3 n).power = s.power := by
  unfold State.readSealed
  split
  · split
    · simp
    · split
      · simp
      · split
        · simp
        · split
          · next h => simp [power_of_frame h]
          · next h => simp [power_of_wait h]
          · next h => simp [power_of_quota h]
  · split
    · simp
    · split
      · simp
      · split
        · simp
        · split
          · next h => simp [power_of_frame h]
          · next h => simp [power_of_wait h]
          · next h => simp [power_of_quota h]

@[simp] theorem State.setAperture_power (s : State) (t a) : (s.setAperture t a).power = s.power := (rfl)

@[simp] theorem State.setSlot_power (s : State) (t i v) : (s.setSlot t i v).power = s.power := (rfl)

@[simp] theorem State.countReject_power (s : State) (code) : (s.countReject code).power = s.power := by
  simp [State.countReject]

@[simp] theorem State.slotEnd_power (s : State) (t i code detail) : (s.slotEnd t i code detail).power = s.power := by
  unfold State.slotEnd
  split
  · simp
    split
    · simp
    · rfl
  · simp
    split
    · simp
    · rfl

@[simp] theorem State.setPart_power (s : State) (i p) : (s.setPart i p).power = s.power := (rfl)

@[simp] theorem State.sendAnswer_power (s : State) (p) : (s.sendAnswer p).power = s.power := by
  simp [State.sendAnswer]

@[simp] theorem State.partEnds_power (s : State) (i p code) : (s.partEnds i p code).power = s.power := by
  simp [State.partEnds]

@[simp] theorem State.setHomeQ_power (s : State) (q h) : (s.setHomeQ q h).power = s.power := (rfl)

@[simp] theorem State.shardCodes_power (s : State) (h) : (s.shardCodes h).2.power = s.power := by
  unfold State.shardCodes
  refine List.foldlRecOn (motive := fun (acc : List Nat × State) => acc.2.power = s.power) _ _ rfl ?_
  intro acc hacc i _
  split <;> simpa using hacc

@[simp] theorem State.calFirst_power (s : State) (a) : (s.calFirst a).power = s.power := by
  simp [State.calFirst]

@[simp] theorem State.setLink_power (s : State) (p st) : (s.setLink p st).power = s.power := by
  simp [State.setLink]

@[simp] theorem State.toKeepalive_power (s : State) (p) : (s.toKeepalive p).power = s.power := by
  simp [State.toKeepalive]

@[simp] theorem State.keepaliveOver_power (s : State) (p) : (s.keepaliveOver p).power = s.power := by
  simp [State.keepaliveOver]

@[simp] theorem State.endTracks_power (s : State) (which) : (s.endTracks which).power = s.power := by
  simp [State.endTracks]

@[simp] theorem State.stopWork_power (s : State) : (s.stopWork).power = s.power := by
  simp [State.stopWork]

@[simp] theorem State.heldCrust_power (s : State) : (s.heldCrust).power = s.power := by
  simp [State.heldCrust]

@[simp] theorem State.stopClusters_power (s : State) (rail) : (s.stopClusters rail).power = s.power := by
  simp [State.stopClusters]

@[simp] theorem State.arraysCold_power (s : State) : (s.arraysCold).power = s.power := by
  unfold State.arraysCold
  exact State.power_foldl _ (fun s a => by simp) _ _

/-! ### Accesses, queries and parts -/

section Accesses
variable {s : State}

theorem State.newLive_power (tn a) {g : State → Tier → State} (hg : ∀ u t, (g u t).power = u.power) :
    (s.newLive tn a g).power = s.power := by
  have hT1 (s : State) : (if s.mayCount tn .t1 a.resv then
      match s.alloc .t1 with
      | .frame s => g (s.countFrame tn .t1 a.resv) .t1
      | .wait s v => s.waitForVictim v a
      | .quota s => s.refuseAccess a .quota
      else s.refuseAccess a .quota).power = s.power := by
    split
    · split
      · next h => simp [hg, power_of_frame h]
      · next h => simp [power_of_wait h]
      · next h => simp [power_of_quota h]
    · simp
  unfold State.newLive
  dsimp only
  split
  · split
    · next h => simp [hg, power_of_frame h]
    · next h => simp [power_of_wait h]
    · next h => exact (hT1 _).trans (by simp [power_of_quota h])
  · exact hT1 _

@[simp] theorem State.power_mem (s : State) (m : Mem) : State.power { s with mem := m } = s.power := (rfl)

@[simp] theorem State.writeLive_power (b e a) : (s.writeLive b e a).power = s.power := by
  unfold State.writeLive
  split
  · rfl
  · split
    all_goals
      dsimp only
      split <;> simp
  · split
    · simp
    · dsimp only
      split
      · simp
      · split
        · simp
        · split
          · simp
          · split <;> simp

@[simp] theorem State.writeSealed_power (b e a) : (s.writeSealed b e a).power = s.power := by
  unfold State.writeSealed
  dsimp only
  split
  · simp
  · split
    · split
      · split <;> simp
      · simp
    · exact State.newLive_power _ _ fun u t => by simp

@[simp] theorem State.tierAccess_live_power (a b e n) : (State.tierAccess.live a s b e n).power = s.power := by
  unfold State.tierAccess.live
  dsimp only
  split <;> simp

@[simp] theorem State.tierAccess_power (a) : (s.tierAccess a).power = s.power := by
  unfold State.tierAccess
  dsimp only
  split
  case h_3 => exact State.newLive_power _ _ fun u t => by simp
  all_goals simp

@[simp] theorem State.lineAccess_power (a) : (s.lineAccess a).power = s.power := by
  unfold State.lineAccess
  generalize s.copyAsked a = ask
  dsimp only
  refine State.power_ite_of (by simp) ?_
  split
  · refine State.power_ite_of ?_ (by simp)
    split <;> simp
  · refine State.power_ite_of ?_ ?_
    · split
      · rfl
      · simp
    · split
      · split <;> simp
      · simp

@[simp] theorem State.homeAccess_power (a) : (s.homeAccess a).power = s.power := by
  unfold State.homeAccess
  dsimp only
  refine State.power_ite_of (State.power_ite_of rfl (by simp)) (State.power_ite_of (by simp) (State.power_ite_of (by simp)
    (State.power_ite_of (by simp) ?_)))
  split <;> simp

@[simp] theorem State.tenantStore_power (q t addr data) : (s.tenantStore q t addr data).power = s.power := by
  unfold State.tenantStore
  refine State.power_foldl _ (fun s a => ?_) _ _
  dsimp only
  split
  · rfl
  · split <;> simp

@[simp] theorem State.queryMerge_power (q h) : (s.queryMerge q h).power = s.power := by
  have hcodes := s.shardCodes_power h
  have hsent (s : State) (i : Nat) (d : Option (DevNo × Nat)) : (match d with
      | some d => s.sendMsg d.1 2 h.tenant (.partCancel q i)
      | none => s).power = s.power := by
    split
    · simp
    · rfl
  unfold State.queryMerge
  dsimp only
  refine State.power_ite_of ?_ ((State.tenantStore_power ..).trans ?_)
  all_goals
    refine (State.setHomeQ_power _ _ _).trans (State.power_ite_of ?_ hcodes)
    exact (State.power_foldl _ (fun s i => hsent s i _) _ _).trans hcodes

@[simp] theorem State.queryEnds_power (q code detail) : (s.queryEnds q code detail).power = s.power := by
  unfold State.queryEnds
  split
  · exact State.power_ite_of rfl (by simp)
  · rfl

@[simp] theorem State.searchCrust_power : s.searchCrust.power = s.power := by
  unfold State.searchCrust
  refine (State.power_foldl _ (fun s a => ?_) _ _).trans (State.power_foldl _ (fun s a => by simp) _ _)
  split
  · exact State.power_ite_of rfl (by simp)
  · rfl

end Accesses

end Sys2Proof.Machine

end

section

namespace Sys2Proof.Machine

/-! ### What the power view shows -/

section Views
variable {s u : State}

theorem State.mode_of_power (h : u.power = s.power) : u.mode = s.mode := congrArg Prod.fst h

theorem State.pwr_of_power (h : u.power = s.power) :
    { u.pwr with holds := [], wakeSent := [] } = ({ s.pwr with holds := [], wakeSent := [] } : PwrS) := congrArg (fun e => e.2.1) h

theorem State.seq_of_power (h : u.power = s.power) : u.pwr.seq = s.pwr.seq := congrArg (fun e => e.2.1.seq) h

theorem State.edges_of_power (h : u.power = s.power) : u.pwr.edges = s.pwr.edges := congrArg (fun e => e.2.1.edges) h

theorem State.recorded_of_power (h : u.power = s.power) : u.pwr.recorded = s.pwr.recorded := congrArg (fun e => e.2.1.recorded) h

theorem State.restWales_of_power (h : u.power = s.power) : u.pwr.restWales = s.pwr.restWales := congrArg (fun e => e.2.1.restWales) h

theorem State.reg_of_power (h : u.power = s.power) {off : Nat} (hoff : powerReg off = true) : u.reg off = s.reg off := by
  have := congrFun (congrArg (fun e => e.2.2) h) off
  change (if powerReg off then u.reg off else 0) = if powerReg off then s.reg off else 0 at this
  rwa [if_pos hoff, if_pos hoff] at this

theorem State.getF_of_power (h : u.power = s.power) (f : Fld) (i : Nat) (hoff : powerReg (f.off i) = true) : u.getF f i = s.getF f i := by
  unfold State.getF
  rw [State.reg_of_power h hoff]

end Views

/-! ### Fields that a Crust entry leaves -/

/-- Two fields that share no bit. -/
def Fld.clear (f g : Fld) : Bool := decide (f.off 0 ≠ g.off 0) || decide (f.lo + f.width ≤ g.lo) || decide (g.lo + g.width ≤ f.lo)

theorem State.getF_setF_clear (s : State) {f g : Fld} (h : g.clear f = true) (hw : f.lo + f.width ≤ 64) (v : Nat) :
    (s.setF f 0 v).getF g = s.getF g := by
  unfold Fld.clear at h
  simp only [Bool.or_eq_true, decide_eq_true_eq] at h
  rcases h with (h | h) | h
  · exact s.getF_setF_off v h
  · exact s.getF_setF_disjoint v hw (Or.inl h)
  · exact s.getF_setF_disjoint v hw (Or.inr h)

theorem State.getF_flag_clear (s : State) {f g : Fld} (n : Note) (h : g.clear f = true) (hw : f.lo + f.width ≤ 64)
    (hg : powerReg (g.off 0) = true) : (s.flag f n).getF g = s.getF g :=
  (State.getF_of_power (s.flag_power_of_setF f n 0) g 0 hg).trans (s.getF_setF_clear h hw 1)

/-- A field of the power block that ending a sleep sequence does not write. -/
def Fld.awake (g : Fld) : Bool :=
  powerReg (g.off 0) && g.clear F.pwrStatus_sleepAbandoned && g.clear F.pwrCmd_busy && g.clear F.pwrCmd_code

section Abandon
variable (s : State)

theorem State.setMode_power (m : Mode) : (s.setMode m).power = (m, s.power.2) := by
  unfold State.setMode
  split
  · next h =>
    subst h
    rfl
  · rfl

theorem State.pwrEnd_getF {g : Fld} (hb : g.clear F.pwrCmd_busy = true) (hc : g.clear F.pwrCmd_code = true) (v : Nat) :
    (s.pwrEnd v).getF g = s.getF g :=
  (State.getF_setF_clear _ hc (by decide) v).trans (s.getF_setF_clear hb (by decide) 0)

/-- What ending a sleep sequence leaves of the power state. -/
structure State.Awoken (s u : State) : Prop where
  mode : u.mode = s.mode
  seq : (∀ c, s.pwr.seq ≠ .falling c) → u.pwr.seq = s.pwr.seq
  edges : u.pwr.edges = s.pwr.edges
  recorded : u.pwr.recorded = s.pwr.recorded
  getF : ∀ g : Fld, g.awake = true → u.getF g = s.getF g

theorem State.Awoken.of_power {s u : State} (h : u.power = s.power) : s.Awoken u :=
  ⟨State.mode_of_power h, fun _ => State.seq_of_power h, State.edges_of_power h, State.recorded_of_power h, fun g hg => by
    unfold Fld.awake at hg
    simp only [Bool.and_eq_true] at hg
    exact State.getF_of_power h g 0 hg.1.1.1⟩

/-- A sequence under way is given up: no sequence, no wales of rest, SLEEP_ABANDONED, and a command ends with a code left open. -/
theorem State.abandonSleep_falling {c : Bool} (h : s.pwr.seq = .falling c) : s.Awoken s.abandonSleep ∧ s.abandonSleep.pwr.seq = .none ∧
    s.abandonSleep.pwr.restWales = 0 ∧ s.abandonSleep.getF F.pwrStatus_sleepAbandoned = 1 := by
  have hpower : ∃ (u : State) (v : Nat), u.power = ((s.onPwr fun p => { p with seq := .none, restWales := 0 }).flag
      F.pwrStatus_sleepAbandoned).power ∧ s.abandonSleep = if c then u.pwrEnd v else u := by
    unfold State.abandonSleep
    rw [h]
    cases c
    · exact ⟨_, 0, State.sendMsg_power .., rfl⟩
    · exact ⟨_, _, (State.fresh_power _).trans (State.sendMsg_power ..), rfl⟩
  obtain ⟨u, v, hu, heq⟩ := hpower
  rw [heq]
  have hbit : u.getF F.pwrStatus_sleepAbandoned = 1 :=
    (State.getF_of_power hu _ 0 (by decide)).trans (State.getF_flag_same _ _ _ _ (by decide) (by decide) rfl)
  have hset := hu.trans (State.flag_power_of_setF _ F.pwrStatus_sleepAbandoned {} 0)
  have hfields : ∀ g : Fld, g.awake = true → u.getF g = s.getF g := by
    intro g hg
    unfold Fld.awake at hg
    simp only [Bool.and_eq_true] at hg
    obtain ⟨⟨⟨hreg, habandoned⟩, -⟩, -⟩ := hg
    exact (State.getF_of_power hset g 0 hreg).trans (State.getF_setF_clear _ habandoned (by decide) 1)
  have hmode := State.mode_of_power hset
  have hedges := State.edges_of_power hset
  have hrecorded := State.recorded_of_power hset
  have hawoken : s.Awoken u := ⟨hmode, fun hne => absurd h (hne c), hedges, hrecorded, hfields⟩
  have hseq : u.pwr.seq = .none := State.seq_of_power hset
  have hrest : u.pwr.restWales = 0 := State.restWales_of_power hset
  cases c
  · exact ⟨hawoken, hseq, hrest, hbit⟩
  · obtain ⟨hmode, -, hedges, hrecorded, hgetF⟩ := hawoken
    refine ⟨⟨hmode, fun hne => absurd h (hne _), hedges, hrecorded, fun g hg => ?_⟩, hseq, hrest,
      (State.pwrEnd_getF u (by decide) (by decide) v).trans hbit⟩
    refine Eq.trans ?_ (hgetF g hg)
    unfold Fld.awake at hg
    simp only [Bool.and_eq_true] at hg
    exact State.pwrEnd_getF u hg.1.2 hg.2 v

theorem State.abandonSleep_idle (h : ∀ c, s.pwr.seq ≠ .falling c) : s.abandonSleep = s := by
  unfold State.abandonSleep
  split
  · next c hc => exact absurd hc (h c)
  · rfl

theorem State.abandonSleep_awoken : s.Awoken s.abandonSleep := by
  by_cases h : ∃ c, s.pwr.seq = .falling c
  · obtain ⟨c, hc⟩ := h
    exact (s.abandonSleep_falling hc).1
  · rw [s.abandonSleep_idle fun c hc => h ⟨c, hc⟩]
    exact .of_power rfl

/-- The steps of a Crust entry change the mode alone. -/
theorem State.crustSteps_power (cause : Nat) : (s.crustSteps cause).power = (.crust, s.power.2) := by
  unfold State.crustSteps
  dsimp only
  rw [State.stopClusters_power, State.heldCrust_power, State.searchCrust_power, State.propose_power]
  refine (State.power_ite_of (State.latch_power ..) rfl).trans ((State.setMode_power ..).trans ?_)
  split
  · rw [State.noteStart_power]
  · rfl

end Abandon

/-! ### Entering Crust (R668) -/

section Crust
variable {s : State}

/-- The state in which the bit of a cause has been raised. -/
def State.causeFlagged (s : State) (cause : Nat) (n : Note) : State :=
  match causeBit cause with
  | some f => s.flag f n
  | none => s

theorem State.causeFlagged_mode (cause : Nat) (n : Note) : (s.causeFlagged cause n).mode = s.mode := by
  unfold State.causeFlagged
  split
  · exact State.flag_mode ..
  · rfl

/-- The cause stands in PWR_STATE where none stood; no other field of the power block changes. -/
structure State.Noted (s u : State) (cause : Nat) : Prop where
  mode : u.mode = s.mode
  edges : u.pwr.edges = s.pwr.edges
  cause : s.getF F.pwrState_crustCause = 0 → cause < 8 → u.getF F.pwrState_crustCause = cause
  getF : ∀ g : Fld, powerReg (g.off 0) = true → g.clear F.pwrState_crustCause = true → u.getF g = s.getF g

theorem State.noteCause_noted (cause : Nat) : s.Noted (s.noteCause cause) cause := by
  have hset : s.Noted (s.setF F.pwrState_crustCause 0 cause) cause :=
    ⟨rfl, rfl, fun _ hc => (s.getF_setF_same _ _ _ (by decide)).trans (Nat.mod_eq_of_lt hc), fun g _ hg => s.getF_setF_clear hg (by decide) _⟩
  unfold State.noteCause
  dsimp only
  split
  · obtain ⟨hmode, hedges, hcause, hgetF⟩ := hset
    exact ⟨hmode, hedges, hcause, hgetF⟩
  · next h0 =>
    split
    · exact hset
    · exact ⟨rfl, rfl, fun h => absurd h h0, fun _ _ _ => rfl⟩

theorem State.enterCrust_eq (cause : Nat) (n : Note) : s.enterCrust cause n =
    match ((s.causeFlagged cause n).noteCause cause).mode with
    | .crust | .quarantine | .slath => (s.causeFlagged cause n).noteCause cause
    | .sleep => ((s.causeFlagged cause n).noteCause cause).onPwr fun p => { p with recorded := some (p.recorded.getD cause) }
    | .weaving => if ((s.causeFlagged cause n).noteCause cause).weave.running.isNone then (s.causeFlagged cause n).noteCause cause
      else ((s.causeFlagged cause n).noteCause cause).crustSteps cause
    | .service | .rest | .repair => (((s.causeFlagged cause n).noteCause cause).abandonSleep.stopWork).crustSteps cause := rfl

/-- A device at work gives up a sleep sequence, ends its work and takes the steps. -/
theorem State.enterCrust_active (h : s.mode = .service ∨ s.mode = .rest ∨ s.mode = .repair) (cause : Nat) (n : Note) :
    s.enterCrust cause n = (((s.causeFlagged cause n).noteCause cause).abandonSleep.stopWork).crustSteps cause := by
  rw [State.enterCrust_eq, (State.noteCause_noted cause).mode, State.causeFlagged_mode]
  rcases h with h | h | h <;> rw [h]

/-- What it shows then: CRUST, its cause where none stood, and the other fields of the power block as they were. -/
structure State.Entered (s v : State) (cause : Nat) : Prop where
  mode : v.mode = .crust
  edges : v.pwr.edges = s.pwr.edges
  cause : s.getF F.pwrState_crustCause = 0 → cause < 8 → v.getF F.pwrState_crustCause = cause
  getF : ∀ g : Fld, g.awake = true → g.clear F.pwrState_crustCause = true → v.getF g = s.getF g

theorem State.enterCrust_entered (h : s.mode = .service ∨ s.mode = .rest ∨ s.mode = .repair) (cause : Nat) (n : Note) :
    (s.causeFlagged cause n).Entered (s.enterCrust cause n) cause := by
  rw [State.enterCrust_active h]
  obtain ⟨-, hedges, hcause, hgetF⟩ := (s.causeFlagged cause n).noteCause_noted cause
  generalize (s.causeFlagged cause n).noteCause cause = t at hedges hcause hgetF
  obtain ⟨-, -, hedges', -, hgetF'⟩ := t.abandonSleep_awoken
  have hpower := (t.abandonSleep.stopWork.crustSteps_power cause).trans (congrArg (fun e => (Mode.crust, e.2)) t.abandonSleep.stopWork_power)
  generalize t.abandonSleep.stopWork.crustSteps cause = v at hpower
  generalize t.abandonSleep = w at hpower hedges' hgetF'
  have hset : v.power = ({ w with mode := .crust } : State).power := hpower
  have hmode := State.mode_of_power hset
  have hvedges := State.edges_of_power hset
  have hv : ∀ g : Fld, g.awake = true → v.getF g = t.getF g := by
    intro g hg
    refine Eq.trans ?_ (hgetF' g hg)
    unfold Fld.awake at hg
    simp only [Bool.and_eq_true] at hg
    exact State.getF_of_power hset g 0 hg.1.1.1
  refine ⟨hmode, (hvedges.trans hedges').trans hedges, fun h0 hc => (hv _ (by decide)).trans (hcause h0 hc), fun g hg hc => ?_⟩
  refine (hv g hg).trans (hgetF g ?_ hc)
  unfold Fld.awake at hg
  simp only [Bool.and_eq_true] at hg
  exact hg.1.1.1

end Crust

end Sys2Proof.Machine

end

section

namespace Sys2Proof.Machine

/-! ### The state a start begins from (R578 to R580, R653, R675) -/

section StartBase
variable {s : State}

/-- A state without its registers. -/
def State.bare (s : State) : State := { s with regs := [] }

theorem State.setF_bare (s : State) (f : Fld) (i v : Nat) : (s.setF f i v).bare = s.bare := rfl

theorem State.keepF_bare (s old : State) (fs : List Fld) : (s.keepF old fs).bare = s.bare :=
  foldl_unchanged State.bare (f := fun s f => s.setF f 0 (old.getF f)) (fun _ _ => rfl) fs s

/-- A field that shares no bit with those kept reads as before. -/
theorem State.getF_keepF_clear (old : State) {g : Fld} {fs : List Fld} (h : ∀ f ∈ fs, g.clear f = true ∧ f.lo + f.width ≤ 64) :
    ∀ s : State, (s.keepF old fs).getF g = s.getF g := by
  induction fs with
  | nil => exact fun _ => rfl
  | cons f r ih =>
    intro s
    obtain ⟨hf, hr⟩ := List.forall_mem_cons.1 h
    exact (ih hr _).trans (s.getF_setF_clear hf.1 hf.2 _)

/-- A field that is kept, among fields that share no bit. -/
theorem State.getF_keepF_mem (old : State) {g : Fld} {fs : List Fld} (hw : ∀ f ∈ fs, f.lo + f.width ≤ 64)
    (hp : fs.Pairwise fun f f' => f.clear f' = true) (hg : g ∈ fs) : ∀ s : State, (s.keepF old fs).getF g = old.getF g := by
  induction fs with
  | nil => cases hg
  | cons f r ih =>
    intro s
    obtain ⟨hf, hr⟩ := List.forall_mem_cons.1 hw
    obtain ⟨hpf, hpr⟩ := List.pairwise_cons.1 hp
    rcases List.mem_cons.1 hg with rfl | hmem
    · refine (State.getF_keepF_clear old (fun f' hf' => ⟨hpf f' hf', hr f' hf'⟩) _).trans ?_
      exact (s.getF_setF_same _ _ _ hf).trans (Nat.mod_eq_of_lt (fieldOf_lt ..))
    · exact ih hr hpr hmem _

theorem keptFields_clear : (∀ f ∈ keptFields, f.lo + f.width ≤ 64) ∧ keptFields.Pairwise fun f f' => f.clear f' = true := by
  decide

/-- The fields that outlast a loss of power. -/
theorem State.getF_startBase (s : State) (warm : Bool) {g : Fld} (hg : g ∈ keptFields) : (s.startBase warm).getF g = s.getF g := by
  obtain ⟨hw, hp⟩ := keptFields_clear
  have hid : ∀ f ∈ keptFields, f.clear F.mgtId_device = true ∧
      ∀ f' ∈ [F.mgtFaultSeq_seq, F.mgtFaultAck_ack], f.clear f' = true ∧ f'.lo + f'.width ≤ 64 := by decide
  obtain ⟨hdev, hrec⟩ := hid g hg
  unfold State.startBase
  dsimp only
  cases warm with
  | false =>
    rw [if_neg Bool.false_ne_true, State.getF_setF_clear _ hdev (by decide), State.getF_keepF_mem s hw hp hg]
  | true =>
    rw [if_pos rfl, State.getF_keepF_clear s hrec, State.getF_setF_clear _ hdev (by decide), State.getF_keepF_mem s hw hp hg]

/-- What a start begins from, the registers aside. -/
theorem State.startBase_parts (s : State) (warm : Bool) : (s.startBase warm).mem = [] ∧
    (s.startBase warm).stime = (if warm then s.stime else 0) ∧ (s.startBase warm).mode = .slath ∧
    (s.startBase warm).sched.savedWale = s.sched.savedWale ∧ (s.startBase warm).sec.ownerKey = s.sec.ownerKey ∧
    (s.startBase warm).code = s.code ∧ (s.startBase warm).pwr.edges = s.pwr.edges := by
  have hbare : ∃ n : State, (s.startBase warm).bare = n.bare ∧ n.mem = [] ∧ n.stime = (if warm then s.stime else 0) ∧ n.mode = .slath ∧
      n.sched.savedWale = s.sched.savedWale ∧ n.sec.ownerKey = s.sec.ownerKey ∧ n.code = s.code ∧ n.pwr.edges = s.pwr.edges := by
    cases warm with
    | false => exact ⟨_, (State.setF_bare ..).trans (State.keepF_bare ..), rfl, rfl, rfl, rfl, rfl, rfl, rfl⟩
    | true => exact ⟨_, (State.keepF_bare ..).trans ((State.setF_bare ..).trans (State.keepF_bare ..)), rfl, rfl, rfl, rfl, rfl, rfl, rfl⟩
  obtain ⟨n, hn, hmem, hstime, hmode, hwale, hkey, hcode, hedges⟩ := hbare
  generalize s.startBase warm = u at hn
  exact ⟨(congrArg State.mem hn).trans hmem, (congrArg State.stime hn).trans hstime, (congrArg State.mode hn).trans hmode,
    (congrArg (fun e => e.sched.savedWale) hn).trans hwale, (congrArg (fun e => e.sec.ownerKey) hn).trans hkey,
    (congrArg State.code hn).trans hcode, (congrArg (fun e => e.pwr.edges) hn).trans hedges⟩

end StartBase

end Sys2Proof.Machine

end

section

namespace Sys2Proof.Machine

/-! ### The input (R653) -/

section Input
variable {s : State} {mv : Nat}

theorem exec_inputUndervolt_low (hdead : s.pwr.dead = false) (hmv : mv < 40000) :
    exec (.inputUndervolt mv) s = .next (State.finish ((s.setF F.pwrInput_mv 0 mv).enterCrust 4)) :=
  congrArg Host.Outcome.next ((if_neg (by rw [hdead]; decide)).trans (if_pos hmv))

theorem inputUndervolt_crust (hdead : s.pwr.dead = false) (hmv : mv < 40000) (h : s.mode = .service ∨ s.mode = .rest ∨ s.mode = .repair) :
    ∃ u : State, exec (.inputUndervolt mv) s = .next (State.finish u) ∧ u.mode = .crust ∧ u.getF F.pwrStatus_undervolt = 1 ∧
      u.getF F.pwrInput_mv = mv ∧ (s.getF F.pwrState_crustCause = 0 → u.getF F.pwrState_crustCause = 4) := by
  rw [exec_inputUndervolt_low hdead hmv]
  have hinput : (s.setF F.pwrInput_mv 0 mv).getF F.pwrInput_mv = mv :=
    (s.getF_setF_same _ _ _ (by decide)).trans (Nat.mod_eq_of_lt (hmv.trans (by decide)))
  have hcause : (s.setF F.pwrInput_mv 0 mv).getF F.pwrState_crustCause = s.getF F.pwrState_crustCause := s.getF_setF_off _ (by decide)
  have hentered := State.enterCrust_entered (s := s.setF F.pwrInput_mv 0 mv) h 4 {}
  generalize s.setF F.pwrInput_mv 0 mv = t at hinput hcause hentered ⊢
  obtain ⟨hmode, -, hset, hkept⟩ := hentered
  have hflag : t.causeFlagged 4 {} = t.flag F.pwrStatus_undervolt := rfl
  rw [hflag] at hset hkept
  refine ⟨_, rfl, hmode, (hkept _ (by decide) (by decide)).trans (State.getF_flag_same _ _ _ _ (by decide) (by decide) rfl),
    ((hkept _ (by decide) (by decide)).trans (State.getF_flag_clear _ _ (by decide) (by decide) (by decide))).trans hinput,
    fun h0 => hset ?_ (by decide)⟩
  exact ((State.getF_flag_clear _ _ (by decide) (by decide) (by decide)).trans hcause).trans h0

/-- The input's voltage is noted, and power marked as lost. -/
theorem State.inputLost (v : State) (hmv : mv < 65536) (g : PwrS → PwrS) : ((v.setF F.pwrInput_mv 0 mv).onPwr g).pwr = g v.pwr ∧
    ((v.setF F.pwrInput_mv 0 mv).onPwr g).getF F.pwrInput_mv = mv ∧
    ((v.setF F.pwrInput_mv 0 mv).onPwr g).getF F.pwrStatus_overvolt = v.getF F.pwrStatus_overvolt ∧
    ((v.setF F.pwrInput_mv 0 mv).onPwr g).mem = v.mem ∧ ((v.setF F.pwrInput_mv 0 mv).onPwr g).stime = v.stime ∧
    ((v.setF F.pwrInput_mv 0 mv).onPwr g).sec = v.sec ∧ ((v.setF F.pwrInput_mv 0 mv).onPwr g).sched = v.sched :=
  ⟨rfl, (v.getF_setF_same _ _ _ (by decide)).trans (Nat.mod_eq_of_lt hmv), v.getF_setF_off _ (by decide), rfl, rfl, rfl, rfl⟩

theorem exec_inputCollapse_low (hmv : mv < 36000) : exec (.inputCollapse mv) s =
    .next (((s.startBase false).setF F.pwrInput_mv 0 mv).onPwr fun p => { p with dead := true }) :=
  congrArg Host.Outcome.next (if_pos hmv)

theorem inputCollapse_off (hmv : mv < 36000) : ∃ u : State, exec (.inputCollapse mv) s = .next u ∧ u.pwr.dead = true ∧ u.mem = [] ∧
    u.getF F.pwrInput_mv = mv ∧ u.sec.ownerKey = s.sec.ownerKey ∧ u.sched.savedWale = s.sched.savedWale := by
  rw [exec_inputCollapse_low hmv]
  obtain ⟨hmem, -, -, hwale, hkey, -, -⟩ := s.startBase_parts false
  obtain ⟨hpwr, hinput, -, hmem', -, hsec, hsched⟩ := (s.startBase false).inputLost (hmv.trans (by decide)) fun p => { p with dead := true }
  exact ⟨_, rfl, congrArg PwrS.dead hpwr, hmem'.trans hmem, hinput, (congrArg SecS.ownerKey hsec).trans hkey,
    (congrArg SchedS.savedWale hsched).trans hwale⟩

theorem exec_inputOvervolt_high (hmv : 56000 < mv) (hdead : s.pwr.dead = false) : exec (.inputOvervolt mv) s =
    .next ((((s.flag F.pwrStatus_overvolt).startBase true).setF F.pwrInput_mv 0 mv).onPwr fun p =>
      { p with overOff := true, thermOff := s.pwr.thermOff }) :=
  congrArg Host.Outcome.next (if_pos ⟨hmv, by rw [hdead]; rfl⟩)

theorem inputOvervolt_off (hmv : 56000 < mv) (hlt : mv < 65536) (hdead : s.pwr.dead = false) : ∃ u : State,
    exec (.inputOvervolt mv) s = .next u ∧ u.pwr.overOff = true ∧ u.mem = [] ∧ u.getF F.pwrStatus_overvolt = 1 ∧
    u.getF F.pwrInput_mv = mv ∧ u.stime = s.stime := by
  rw [exec_inputOvervolt_high hmv hdead]
  have hbit := ((s.flag F.pwrStatus_overvolt).getF_startBase true (by decide : F.pwrStatus_overvolt ∈ keptFields)).trans
    (State.getF_flag_same _ _ _ _ (by decide) (by decide) rfl)
  obtain ⟨hmem, hstime, -⟩ := (s.flag F.pwrStatus_overvolt).startBase_parts true
  rw [if_pos rfl, State.flag_stime] at hstime
  obtain ⟨hpwr, hinput, hover, hmem', hstime', -⟩ := ((s.flag F.pwrStatus_overvolt).startBase true).inputLost hlt fun p =>
    { p with overOff := true, thermOff := s.pwr.thermOff }
  exact ⟨_, rfl, congrArg PwrS.overOff hpwr, hmem'.trans hmem, hover.trans hbit, hinput, hstime'.trans hstime⟩

end Input

/-! ### The clocks of the clusters (R656, R657) -/

section Clusters
variable {s : State} {k : Nat}

theorem exec_clusterClockStop : exec (.clusterClockStop k) s = withUnit (s.code.hasCluster k) (.next
    (if s.getF F.cellCluster_clk k = 2 ∧ ((List.range 8).all fun i => s.cellRun (8 * k + i) == runIdle ||
        s.cellRun (8 * k + i) == runUnallocated || s.cellRun (8 * k + i) == runOff) = true ∧
        (!(s.plannedSteps 100000).any (fun d => d.inCluster k)) = true then s.setF F.cellCluster_clk k 0 else s)) := rfl

theorem exec_clusterPllStop : exec (.clusterPllStop k) s = withUnit (s.code.hasCluster k) (.next
    (if s.getF F.cellCluster_clk k = 0 then s.setF F.cellCluster_pllLocked k 0 else s)) := rfl

theorem exec_clusterClockStart : exec (.clusterClockStart k) s = withUnit (s.code.hasCluster k) (.next
    (if s.getF F.cellCluster_clk k = 0 ∧ (s.mode = .service ∨ s.mode = .rest) then s.setF F.cellCluster_clk k 1 else s)) := rfl

theorem exec_clusterClockRunning : exec (.clusterClockRunning k) s = withUnit (s.code.hasCluster k) (.next
    (if s.getF F.cellCluster_clk k = 1 then (s.setF F.cellCluster_clk k 2).setF F.cellCluster_pllLocked k 1 else s)) := rfl

theorem clusterClocks (k : Nat) (s : State) :
    (s.code.hasCluster k = false → exec (.clusterClockStop k) s = .fault .noSuchUnit ∧ exec (.clusterPllStop k) s = .fault .noSuchUnit ∧
      exec (.clusterClockStart k) s = .fault .noSuchUnit ∧ exec (.clusterClockRunning k) s = .fault .noSuchUnit) ∧
    (s.code.hasCluster k = true →
      (s.getF F.cellCluster_clk k = 2 → (∀ i < 8, s.cellRun (8 * k + i) = runIdle ∨ s.cellRun (8 * k + i) = runUnallocated) →
        (∀ d ∈ s.plannedSteps 100000, d.inCluster k = false) →
        exec (.clusterClockStop k) s = .next (s.setF F.cellCluster_clk k 0)) ∧
      (s.getF F.cellCluster_clk k ≠ 2 ∨ (∃ d ∈ s.plannedSteps 100000, d.inCluster k = true) → exec (.clusterClockStop k) s = .next s) ∧
      (s.getF F.cellCluster_clk k = 0 → exec (.clusterPllStop k) s = .next (s.setF F.cellCluster_pllLocked k 0)) ∧
      (s.getF F.cellCluster_clk k ≠ 0 → exec (.clusterPllStop k) s = .next s ∧ exec (.clusterClockStart k) s = .next s) ∧
      (s.getF F.cellCluster_clk k = 0 → s.mode = .service ∨ s.mode = .rest →
        exec (.clusterClockStart k) s = .next (s.setF F.cellCluster_clk k 1)) ∧
      (s.mode ≠ .service → s.mode ≠ .rest → exec (.clusterClockStart k) s = .next s) ∧
      (s.getF F.cellCluster_clk k = 1 → exec (.clusterClockRunning k) s =
        .next ((s.setF F.cellCluster_clk k 2).setF F.cellCluster_pllLocked k 1)) ∧
      (s.getF F.cellCluster_clk k ≠ 1 → exec (.clusterClockRunning k) s = .next s)) := by
  rw [exec_clusterClockStop, exec_clusterPllStop, exec_clusterClockStart, exec_clusterClockRunning]
  constructor
  · intro h
    rw [h]
    exact ⟨rfl, rfl, rfl, rfl⟩
  · intro h
    rw [h]
    simp only [withUnit_of_present]
    refine ⟨fun hclk hidle hplan => ?_, fun hbusy => ?_, fun h0 => ?_, fun h0 => ⟨?_, ?_⟩, fun h0 hm => ?_, fun hs hr => ?_, fun h1 => ?_,
      fun h1 => ?_⟩
    · have hall : ((List.range 8).all fun i => s.cellRun (8 * k + i) == runIdle || s.cellRun (8 * k + i) == runUnallocated ||
          s.cellRun (8 * k + i) == runOff) = true := by
        refine List.all_eq_true.2 fun i hi => ?_
        rcases hidle i (List.mem_range.1 hi) with h | h <;> simp [h]
      have hnone : (!(s.plannedSteps 100000).any fun d => d.inCluster k) = true := by
        rw [List.any_eq_false.2 fun d hd => by rw [hplan d hd]; decide]
        rfl
      rw [if_pos ⟨hclk, hall, hnone⟩]
    · rw [if_neg]
      rintro ⟨hclk, -, hnone⟩
      rcases hbusy with h | ⟨d, hd, hin⟩
      · exact h hclk
      · rw [List.any_eq_true.2 ⟨d, hd, hin⟩] at hnone
        cases hnone
    · rw [if_pos h0]
    · rw [if_neg h0]
    · rw [if_neg fun h => h0 h.1]
    · rw [if_pos ⟨h0, hm⟩]
    · rw [if_neg fun h => h.2.elim hs hr]
    · rw [if_pos h1]
    · rw [if_neg h1]

end Clusters

/-- Settles O52: an undervoltage by the entry of Crust, the losses of power by what a start begins from. -/
theorem inputAndClocksComplete : Obligations.InputAndClocksComplete := by
  refine ⟨fun mv s => ⟨fun h => ?_, fun hdead hmv => ?_, inputUndervolt_crust, fun hmv => ?_, inputCollapse_off, fun h => ?_,
    inputOvervolt_off, fun hoff hlo hhi => ?_, fun h => ?_⟩, clusterClocks⟩
  · exact congrArg Host.Outcome.next (if_pos h)
  · exact congrArg Host.Outcome.next ((if_neg (by rw [hdead]; decide)).trans (if_neg (Nat.not_lt.2 hmv)))
  · exact congrArg Host.Outcome.next (if_neg (Nat.not_lt.2 hmv))
  · refine congrArg Host.Outcome.next (if_neg ?_)
    rintro ⟨hmv, hdead⟩
    rcases h with h | h
    · omega
    · rw [h] at hdead
      cases hdead
  · exact congrArg Host.Outcome.next (if_pos ⟨hoff, hlo, hhi⟩)
  · refine congrArg Host.Outcome.next (if_neg ?_)
    rintro ⟨hoff, hlo, hhi⟩
    rcases h with h | h | h
    · rw [h] at hoff
      cases hoff
    · omega
    · omega

end Sys2Proof.Machine

end

section

namespace Sys2Proof.Machine

/-! ### The start of a wake (R666) -/

section Wake
variable {s : State}

/-- A wake begins with its sequence; ports and arrays follow. -/
theorem State.startWake_sleep (hm : s.mode = .sleep) (hseq : s.pwr.seq = .none) (c : Bool) :
    (s.startWake c).power = (s.onPwr fun p => { p with seq := .waking c }).power := by
  unfold State.startWake
  rw [hm, hseq]
  exact (State.arraysCold_power _).trans (State.power_foldl _ (fun _ _ => State.keepaliveOver_power ..) _ _)

theorem State.startWake_waking (hm : s.mode = .sleep) {d : Bool} (hseq : s.pwr.seq = .waking d) (c : Bool) :
    s.startWake c = s.onPwr fun p => { p with seq := .waking (d || c) } := by
  unfold State.startWake
  rw [hm, hseq]

/-- At most the sequence changes. -/
theorem State.startWake_power (s : State) (c : Bool) : ∃ q, (s.startWake c).power = (s.onPwr fun p => { p with seq := q }).power := by
  unfold State.startWake
  split
  · exact ⟨_, (State.arraysCold_power _).trans (State.power_foldl _ (fun _ _ => State.keepaliveOver_power ..) _ _)⟩
  · exact ⟨_, rfl⟩
  · exact ⟨s.pwr.seq, rfl⟩

end Wake

/-! ### Edges of the sideband pins (R673 to R675) -/

section Pins
variable {s : State} {p : Pin} {l : Bool}

/-- A change of the power part alone. -/
theorem State.onPwr_other (s : State) (g : PwrS → PwrS) : (s.onPwr g).pwr = g s.pwr ∧ (s.onPwr g).code = s.code ∧ (s.onPwr g).mem = s.mem ∧
    (s.onPwr g).mode = s.mode ∧ (s.onPwr g).weave = s.weave ∧ (s.onPwr g).stime = s.stime ∧ ∀ f i, (s.onPwr g).getF f i = s.getF f i :=
  ⟨rfl, rfl, rfl, rfl, rfl, rfl, fun _ _ => rfl⟩

theorem Pin.fields_off (p : Pin) : p.fields.1.off 0 = 0x10038 ∧ p.fields.2.off 0 = 0x10038 := by cases p <;> decide

theorem Pin.fields_widths (p : Pin) : p.fields.1.lo + p.fields.1.width ≤ 64 ∧ p.fields.2.lo + p.fields.2.width ≤ 64 ∧
    p.fields.1.width = 1 ∧ p.fields.2.width = 2 := by cases p <;> decide

theorem Pin.fields_clear (p : Pin) : p.fields.1.clear p.fields.2 = true ∧ p.fields.2.clear p.fields.1 = true ∧
    p.fields.1.clear F.pwrStatus_pinChatter = true ∧ p.fields.2.clear F.pwrStatus_pinChatter = true ∧
    p.fields.2.clear F.pwrStatus_pinHeld = true ∧ p.fields.1.clear F.pwrState_crustCause = true ∧
    p.fields.2.clear F.pwrState_crustCause = true := by cases p <;> decide

theorem Pin.fields_awake (p : Pin) : p.fields.1.awake = true ∧ p.fields.2.awake = true := by cases p <;> decide

theorem Pin.fields_power (p : Pin) : powerReg (p.fields.1.off 0) = true ∧ powerReg (p.fields.2.off 0) = true := by cases p <;> decide

theorem Pin.fields_kept (p : Pin) : p.fields.1 ∈ keptFields ∧ p.fields.2 ∈ keptFields := by cases p <;> decide

/-- The edges of a pin in the last second. -/
def State.pinEdges (s : State) (p : Pin) : List Word :=
  (s.pwr.edges.get p.num []).filter fun e => decide (s.stime.toNat < e.toNat + 1000000000)

/-- An edge is counted and accepted. -/
def State.edged (s : State) (p : Pin) (l : Bool) : State :=
  ((s.onPwr fun x => { x with edges := x.edges.put p.num (s.pinEdges p ++ [s.stime]) }).setF p.fields.1 0 l.toNat).setF p.fields.2 0 0

theorem State.edged_other (s : State) (p : Pin) (l : Bool) : (s.edged p l).mode = s.mode ∧ (s.edged p l).mem = s.mem ∧
    (s.edged p l).code = s.code ∧ (s.edged p l).weave = s.weave ∧ (s.edged p l).stime = s.stime ∧
    (s.edged p l).pwr = { s.pwr with edges := s.pwr.edges.put p.num (s.pinEdges p ++ [s.stime]) } := ⟨rfl, rfl, rfl, rfl, rfl, rfl⟩

theorem State.edged_steady (s : State) (p : Pin) (l : Bool) : (s.edged p l).steady = s.steady := rfl

theorem State.getF_edged (s : State) (p : Pin) (l : Bool) : (s.edged p l).getF p.fields.1 = l.toNat ∧ (s.edged p l).getF p.fields.2 = 0 := by
  obtain ⟨hw1, hw2, h1, -⟩ := p.fields_widths
  refine ⟨((State.getF_setF_clear _ p.fields_clear.1 hw2 _).trans (State.getF_setF_same _ _ _ _ hw1)).trans ?_,
    (State.getF_setF_same _ _ _ _ hw2).trans (Nat.zero_mod _)⟩
  rw [h1]
  exact Nat.mod_eq_of_lt (Bool.toNat_lt l)

theorem State.getF_edged_clear (s : State) (p : Pin) (l : Bool) {g : Fld} (hg : g.off 0 ≠ 0x10038) : (s.edged p l).getF g = s.getF g := by
  obtain ⟨h1, h2⟩ := p.fields_off
  refine (State.getF_setF_off _ _ (by rw [h2]; exact hg)).trans ((State.getF_setF_off _ _ (by rw [h1]; exact hg)).trans ?_)
  exact ((s.onPwr_other _).2.2.2.2.2.2 g 0)

/-- The pin is marked when its edges were too many. -/
def State.chatters (s : State) (p : Pin) (n : Nat) : State :=
  if 16 < n then (s.setF p.fields.2 0 1).flag F.pwrStatus_pinChatter { index := p.num } else s

theorem State.pinEdge_blocked (h : s.pwr.dead = true ∨ s.getF p.fields.2 = 1 ∨ s.getF p.fields.1 = l.toNat) : s.pinEdge p l = s := if_pos h

theorem State.pinEdge_taken (hdead : s.pwr.dead = false) (hstate : s.getF p.fields.2 ≠ 1) (hlevel : s.getF p.fields.1 ≠ l.toNat) :
    s.pinEdge p l = ((s.edged p l).pinActs p l).chatters p ((s.pinEdges p).length + 1) := by
  have hopen : ¬(s.pwr.dead = true ∨ s.getF p.fields.2 = 1 ∨ s.getF p.fields.1 = l.toNat) := by
    rw [hdead]
    rintro (h | h | h)
    · cases h
    · exact hstate h
    · exact hlevel h
  refine (if_neg hopen).trans ?_
  have hlen : (s.pinEdges p ++ [s.stime]).length = (s.pinEdges p).length + 1 := by rw [List.length_append]; rfl
  change ((s.edged p l).pinActs p l).chatters p (s.pinEdges p ++ [s.stime]).length = _
  rw [hlen]

section Chatter
variable (s) (p) (n : Nat)

/-- A mark changes the register of the pins, the power status and the fault records alone. -/
theorem State.chatters_other : (s.chatters p n).mode = s.mode ∧ (s.chatters p n).mem = s.mem ∧ (s.chatters p n).code = s.code ∧
    (s.chatters p n).weave = s.weave ∧ (s.chatters p n).stime = s.stime ∧ (s.chatters p n).pwr = s.pwr := by
  unfold State.chatters
  split
  · refine ⟨?_, ?_, ?_, ?_, ?_, ?_⟩
    · rw [State.flag_mode, State.setF_mode]
    · rw [State.flag_mem, State.setF_mem]
    · rw [State.flag_code, State.setF_code]
    · rw [State.flag_weave, State.setF_weave]
    · rw [State.flag_stime, State.setF_stime]
    · rw [State.flag_pwr, State.setF_pwr]
  · exact ⟨rfl, rfl, rfl, rfl, rfl, rfl⟩

theorem State.getF_chatters_clear {g : Fld} (h : g.clear p.fields.2 = true) (hc : g.clear F.pwrStatus_pinChatter = true)
    (hg : powerReg (g.off 0) = true) : (s.chatters p n).getF g = s.getF g := by
  unfold State.chatters
  split
  · exact (State.getF_flag_clear _ _ hc (by decide) hg).trans (s.getF_setF_clear h p.fields_widths.2.1 1)
  · rfl

theorem State.getF_chatters_many (h : 16 < n) : (s.chatters p n).getF p.fields.2 = 1 ∧ (s.chatters p n).getF F.pwrStatus_pinChatter = 1 := by
  have hmarked : s.chatters p n = (s.setF p.fields.2 0 1).flag F.pwrStatus_pinChatter { index := p.num } := if_pos h
  obtain ⟨-, hw, -, h2⟩ := p.fields_widths
  rw [hmarked]
  refine ⟨(State.getF_flag_clear _ _ p.fields_clear.2.2.2.1 (by decide) p.fields_power.2).trans ((s.getF_setF_same _ _ _ hw).trans ?_),
    State.getF_flag_same _ _ _ _ (by decide) (by decide) rfl⟩
  rw [h2]
  rfl

theorem State.chatters_few (h : n ≤ 16) : s.chatters p n = s := if_neg (Nat.not_lt.2 h)

end Chatter

/-- What the action of a pin leaves of the pin and its edges. -/
structure State.PinKept (p : Pin) (t v : State) : Prop where
  level : v.getF p.fields.1 = t.getF p.fields.1
  state : v.getF p.fields.2 = t.getF p.fields.2
  edges : v.pwr.edges = t.pwr.edges
  code : v.code = t.code

theorem State.PinKept.of_power {t v w : State} (h : v.power = w.power) (hw : State.PinKept p t w) (hcode : v.code = t.code) : State.PinKept p t v :=
  ⟨(State.getF_of_power h _ 0 p.fields_power.1).trans hw.level, (State.getF_of_power h _ 0 p.fields_power.2).trans hw.state,
    (State.edges_of_power h).trans hw.edges, hcode⟩

theorem State.code_of_steady {t v : State} (h : v.steady = t.steady) : v.code = t.code := congrArg (fun e => e.2.1) h

theorem State.PinKept.onPwr (t : State) (g : PwrS → PwrS) (hg : (g t.pwr).edges = t.pwr.edges) : State.PinKept p t (t.onPwr g) := by
  obtain ⟨hpwr, hcode, -, -, -, -, hgetF⟩ := t.onPwr_other g
  exact ⟨hgetF .., hgetF .., (congrArg PwrS.edges hpwr).trans hg, hcode⟩

theorem State.PinKept.startWake (t : State) (c : Bool) : State.PinKept p t (t.startWake c) := by
  obtain ⟨q, hq⟩ := t.startWake_power c
  exact .of_power hq (.onPwr t _ rfl) (State.code_of_steady (State.startWake_steady ..))

theorem State.PinKept.abandonSleep (t : State) : State.PinKept p t t.abandonSleep := by
  obtain ⟨-, -, hedges, -, hgetF⟩ := t.abandonSleep_awoken
  exact ⟨hgetF _ p.fields_awake.1, hgetF _ p.fields_awake.2, hedges, State.code_of_steady (State.abandonSleep_steady _)⟩

theorem State.PinKept.holdReset (t : State) : State.PinKept p t t.holdReset := by
  obtain ⟨-, -, -, -, -, hcode, hedges⟩ := t.startBase_parts true
  have hpwr := State.PinKept.onPwr (p := p) (t.startBase true) (fun x => { x with inReset := true }) rfl
  exact ⟨hpwr.level.trans (t.getF_startBase true p.fields_kept.1), hpwr.state.trans (t.getF_startBase true p.fields_kept.2),
    hpwr.edges.trans hedges, hpwr.code.trans hcode⟩

theorem State.PinKept.refl (t : State) : State.PinKept p t t := ⟨rfl, rfl, rfl, rfl⟩

/-- No action of a pin but THERM_N's changes a pin or its edges. -/
theorem State.pinActs_kept (t : State) (h : ¬(p = .therm ∧ l = true)) : State.PinKept p t (t.pinActs p l) := by
  cases p with
  | wake =>
    cases l with
    | true =>
      change State.PinKept .wake t (if t.mode = .sleep then t.startWake false else t.abandonSleep)
      split
      · exact .startWake t false
      · exact .abandonSleep t
    | false => exact .onPwr t (fun x => { x with wakeSpent := false }) rfl
  | perst =>
    cases l with
    | true =>
      change State.PinKept .perst t (if t.weave.phase = .none then t.holdReset else t)
      split
      · exact .holdReset t
      · exact .refl t
    | false =>
      change State.PinKept .perst t (if t.pwr.inReset then
        (t.onPwr fun x => { x with inReset := false }).onWeave fun w => { w with restartDue := true } else t)
      split
      · exact ⟨rfl, rfl, rfl, rfl⟩
      · exact .refl t
  | therm =>
    cases l with
    | true => exact absurd ⟨rfl, rfl⟩ h
    | false => exact .refl t

end Pins

section Edges
variable {s : State} {p : Pin} {l : Bool}

/-- The commands that are an edge and nothing more. -/
theorem exec_edge {c : Instr} (h : (c, p, l) ∈ [(Instr.wakeNAssert, Pin.wake, true), (.wakeNRelease, .wake, false),
    (.perstNAssert, .perst, true), (.perstNRelease, .perst, false), (.thermNRelease, .therm, false)]) :
    exec c s = .next (s.pinEdge p l) ∧ ¬(p = .therm ∧ l = true) := by
  simp only [List.mem_cons, Prod.mk.injEq, List.not_mem_nil, or_false] at h
  rcases h with ⟨rfl, rfl, rfl⟩ | ⟨rfl, rfl, rfl⟩ | ⟨rfl, rfl, rfl⟩ | ⟨rfl, rfl, rfl⟩ | ⟨rfl, rfl, rfl⟩
  all_goals exact ⟨rfl, by decide⟩

variable (hdead : s.pwr.dead = false) (hstate : s.getF p.fields.2 ≠ 1) (hlevel : s.getF p.fields.1 ≠ l.toNat)
include hdead hstate hlevel

theorem State.pinEdge_effect (h : ¬(p = .therm ∧ l = true)) : (s.pinEdge p l).getF p.fields.1 = l.toNat ∧
    (s.pinEdge p l).pwr.edges.get p.num [] = s.pinEdges p ++ [s.stime] ∧ (s.pinEdge p l).code = s.code ∧
    ((s.pinEdges p).length < 16 → (s.pinEdge p l).getF p.fields.2 = 0) ∧
    (16 ≤ (s.pinEdges p).length → (s.pinEdge p l).getF p.fields.2 = 1 ∧ (s.pinEdge p l).getF F.pwrStatus_pinChatter = 1) := by
  obtain ⟨hl, hs, he, hc⟩ := (s.edged p l).pinActs_kept h
  obtain ⟨hl', hs'⟩ := s.getF_edged p l
  obtain ⟨-, -, hcode, -, -, hpwr⟩ := s.edged_other p l
  rw [State.pinEdge_taken hdead hstate hlevel]
  generalize (s.edged p l).pinActs p l = v at hl hs he hc
  obtain ⟨-, -, hvcode, -, -, hvpwr⟩ := v.chatters_other p ((s.pinEdges p).length + 1)
  refine ⟨((v.getF_chatters_clear p _ p.fields_clear.1 p.fields_clear.2.2.1 p.fields_power.1).trans hl).trans hl', ?_,
    (hvcode.trans hc).trans hcode, fun hfew => ?_, fun hmany => v.getF_chatters_many p _ (by omega)⟩
  · rw [hvpwr, he, hpwr]
    exact Table.get_put_same ..
  · rw [v.chatters_few p _ (by omega)]
    exact hs.trans hs'

end Edges

theorem pins_first (c : Instr) (p : Pin) (l : Bool) (s : State) (hc : (c, p, l) ∈ [(Instr.wakeNAssert, Pin.wake, true),
    (.wakeNRelease, .wake, false), (.perstNAssert, .perst, true), (.perstNRelease, .perst, false), (.thermNRelease, .therm, false)]) :
    (s.pwr.dead = true ∨ s.getF p.fields.2 = 1 ∨ s.getF p.fields.1 = l.toNat → exec c s = .next s) ∧
    (s.pwr.dead = false → s.getF p.fields.2 ≠ 1 → s.getF p.fields.1 ≠ l.toNat →
      (∃ u : State, exec c s = .next u ∧ u.getF p.fields.1 = l.toNat ∧ u.pwr.edges.get p.num [] = s.pinEdges p ++ [s.stime] ∧ u.code = s.code) ∧
      ((s.pinEdges p).length < 16 → ∃ u : State, exec c s = .next u ∧ u.getF p.fields.2 = 0) ∧
      (16 ≤ (s.pinEdges p).length → ∃ u : State, exec c s = .next u ∧ u.getF p.fields.2 = 1 ∧ u.getF F.pwrStatus_pinChatter = 1)) := by
  obtain ⟨hexec, hpin⟩ := exec_edge (s := s) hc
  rw [hexec]
  refine ⟨fun h => congrArg Host.Outcome.next (State.pinEdge_blocked h), fun hdead hstate hlevel => ?_⟩
  obtain ⟨hl, he, hcode, hfew, hmany⟩ := State.pinEdge_effect hdead hstate hlevel hpin
  exact ⟨⟨_, rfl, hl, he, hcode⟩, fun h => ⟨_, rfl, hfew h⟩, fun h => ⟨_, rfl, hmany h⟩⟩

/-! ### What each pin does -/

section Acts
variable {s : State}

theorem exec_thermNAssert : exec .thermNAssert s = .next (s.pinEdge .therm true).finish := rfl
theorem exec_wakeNAssert : exec .wakeNAssert s = .next (s.pinEdge .wake true) := rfl
theorem exec_wakeNRelease : exec .wakeNRelease s = .next (s.pinEdge .wake false) := rfl
theorem exec_perstNAssert : exec .perstNAssert s = .next (s.pinEdge .perst true) := rfl
theorem exec_perstNRelease : exec .perstNRelease s = .next (s.pinEdge .perst false) := rfl

theorem thermNAssert_crust (hdead : s.pwr.dead = false) (hstate : s.getF F.pwrPin_thermState ≠ 1) (hlevel : s.getF F.pwrPin_thermLevel ≠ 1)
    (hm : s.mode = .service ∨ s.mode = .rest) : ∃ u : State, exec .thermNAssert s = .next (State.finish u) ∧ u.mode = .crust ∧
      u.getF F.pwrPin_thermLevel = 1 ∧ (s.getF F.pwrState_crustCause = 0 → u.getF F.pwrState_crustCause = 3) := by
  rw [exec_thermNAssert, State.pinEdge_taken (p := .therm) (l := true) hdead hstate hlevel]
  obtain ⟨hmode, -⟩ := s.edged_other .therm true
  have hcause : (s.edged .therm true).getF F.pwrState_crustCause = s.getF F.pwrState_crustCause := s.getF_edged_clear .therm true (by decide)
  have hl : (s.edged .therm true).getF F.pwrPin_thermLevel = 1 := (s.getF_edged .therm true).1
  obtain ⟨hcrust, -, hset, hkept⟩ := State.enterCrust_entered (s := s.edged .therm true) (hm.imp hmode.trans fun h => Or.inl (hmode.trans h)) 3 {}
  have hflag : (s.edged .therm true).causeFlagged 3 {} = s.edged .therm true := rfl
  rw [hflag] at hset hkept
  refine ⟨_, rfl, ?_, ?_, fun h0 => ?_⟩
  · exact (State.chatters_other _ .therm _).1.trans hcrust
  · exact (State.getF_chatters_clear _ .therm _ (by decide) (by decide) (by decide)).trans ((hkept _ (by decide) (by decide)).trans hl)
  · exact (State.getF_chatters_clear _ .therm _ (by decide) (by decide) (by decide)).trans (hset (hcause.trans h0) (by decide))

theorem wakeNAssert_wakes (hdead : s.pwr.dead = false) (hstate : s.getF F.pwrPin_wakeState ≠ 1) (hlevel : s.getF F.pwrPin_wakeLevel ≠ 1)
    (hm : s.mode = .sleep) (hseq : s.pwr.seq = .none) :
    ∃ u : State, exec .wakeNAssert s = .next u ∧ u.pwr.seq = .waking false ∧ u.mem = s.mem := by
  rw [exec_wakeNAssert, State.pinEdge_taken (p := .wake) (l := true) hdead hstate hlevel]
  obtain ⟨hmode, hmem, -, -, -, hpwr⟩ := s.edged_other .wake true
  have hseq' : (s.edged .wake true).pwr.seq = .none := (congrArg PwrS.seq hpwr).trans hseq
  have hact : (s.edged .wake true).pinActs .wake true = (s.edged .wake true).startWake false := if_pos (hmode.trans hm)
  have hpower := State.startWake_sleep (hmode.trans hm) hseq' false
  have hmem' := State.mem_of_steady (State.startWake_steady (s.edged .wake true) false)
  rw [hact]
  generalize s.edged .wake true = t at hmem hpower hmem' ⊢
  obtain ⟨-, hcmem, -, -, -, hcpwr⟩ := (t.startWake false).chatters_other .wake ((s.pinEdges .wake).length + 1)
  exact ⟨_, rfl, (congrArg PwrS.seq hcpwr).trans (State.seq_of_power hpower), (hcmem.trans hmem').trans hmem⟩

theorem wakeNRelease_frees (hdead : s.pwr.dead = false) (hstate : s.getF F.pwrPin_wakeState ≠ 1) (hlevel : s.getF F.pwrPin_wakeLevel ≠ 0) :
    ∃ u : State, exec .wakeNRelease s = .next u ∧ u.pwr.wakeSpent = false ∧ u.mode = s.mode ∧ u.mem = s.mem := by
  rw [exec_wakeNRelease, State.pinEdge_taken (p := .wake) (l := false) hdead hstate hlevel]
  obtain ⟨hmode, hmem, -⟩ := s.edged_other .wake false
  generalize s.edged .wake false = t at hmode hmem ⊢
  obtain ⟨hcmode, hcmem, -, -, -, hcpwr⟩ := (t.pinActs .wake false).chatters_other .wake ((s.pinEdges .wake).length + 1)
  exact ⟨_, rfl, congrArg PwrS.wakeSpent hcpwr, hcmode.trans hmode, hcmem.trans hmem⟩

section Perst
variable (hdead : s.pwr.dead = false) (hstate : s.getF F.pwrPin_perstState ≠ 1)
include hdead hstate

theorem perstNAssert_holds (hlevel : s.getF F.pwrPin_perstLevel ≠ 1) (hphase : s.weave.phase = .none) :
    ∃ u : State, exec .perstNAssert s = .next u ∧ u.pwr.inReset = true ∧ u.mem = [] ∧ u.mode = .slath ∧ u.stime = s.stime := by
  rw [exec_perstNAssert, State.pinEdge_taken (p := .perst) (l := true) hdead hstate hlevel]
  obtain ⟨-, -, -, hweave, hstime, -⟩ := s.edged_other .perst true
  have hact : (s.edged .perst true).pinActs .perst true = (s.edged .perst true).holdReset :=
    if_pos ((congrArg WeaveS.phase hweave).trans hphase)
  rw [hact]
  generalize s.edged .perst true = t at hstime ⊢
  obtain ⟨hmem, ht, hmode, -⟩ := t.startBase_parts true
  rw [if_pos rfl] at ht
  obtain ⟨hpwr, -, hmem', hmode', -, ht', -⟩ := (t.startBase true).onPwr_other fun x => { x with inReset := true }
  obtain ⟨hcmode, hcmem, -, -, hct, hcpwr⟩ := t.holdReset.chatters_other .perst ((s.pinEdges .perst).length + 1)
  exact ⟨_, rfl, (congrArg PwrS.inReset hcpwr).trans (congrArg PwrS.inReset hpwr), hcmem.trans (hmem'.trans hmem),
    hcmode.trans (hmode'.trans hmode), hct.trans (ht'.trans (ht.trans hstime))⟩

theorem perstNAssert_start (hlevel : s.getF F.pwrPin_perstLevel ≠ 1) (hphase : s.weave.phase ≠ .none) :
    ∃ u : State, exec .perstNAssert s = .next u ∧ u.pwr.inReset = s.pwr.inReset ∧ u.mem = s.mem ∧ u.mode = s.mode := by
  rw [exec_perstNAssert, State.pinEdge_taken (p := .perst) (l := true) hdead hstate hlevel]
  obtain ⟨hmode, hmem, -, hweave, -, hpwr⟩ := s.edged_other .perst true
  have hact : (s.edged .perst true).pinActs .perst true = s.edged .perst true :=
    if_neg fun h => hphase ((congrArg WeaveS.phase hweave).symm.trans h)
  rw [hact]
  obtain ⟨hcmode, hcmem, -, -, -, hcpwr⟩ := (s.edged .perst true).chatters_other .perst ((s.pinEdges .perst).length + 1)
  have hreset : (s.edged .perst true).pwr.inReset = s.pwr.inReset := by rw [hpwr]
  exact ⟨_, rfl, (congrArg PwrS.inReset hcpwr).trans hreset, hcmem.trans hmem, hcmode.trans hmode⟩

theorem perstNRelease_starts (hlevel : s.getF F.pwrPin_perstLevel ≠ 0) (hreset : s.pwr.inReset = true) :
    ∃ u : State, exec .perstNRelease s = .next u ∧ u.pwr.inReset = false ∧ u.weave.restartDue = true ∧ u.mem = s.mem := by
  rw [exec_perstNRelease, State.pinEdge_taken (p := .perst) (l := false) hdead hstate hlevel]
  obtain ⟨-, hmem, -, -, -, hpwr⟩ := s.edged_other .perst false
  have hact : (s.edged .perst false).pinActs .perst false = ((s.edged .perst false).onPwr fun x => { x with inReset := false }).onWeave
      fun w => { w with restartDue := true } := if_pos ((congrArg PwrS.inReset hpwr).trans hreset)
  rw [hact]
  generalize s.edged .perst false = t at hmem ⊢
  obtain ⟨-, hcmem, -, hcweave, -, hcpwr⟩ := State.chatters_other ((t.onPwr fun x => { x with inReset := false }).onWeave
    fun w => { w with restartDue := true }) .perst ((s.pinEdges .perst).length + 1)
  exact ⟨_, rfl, congrArg PwrS.inReset hcpwr, congrArg WeaveS.restartDue hcweave, hcmem.trans hmem⟩

theorem perstNRelease_nothing (hlevel : s.getF F.pwrPin_perstLevel ≠ 0) (hreset : s.pwr.inReset = false) :
    ∃ u : State, exec .perstNRelease s = .next u ∧ u.weave = s.weave ∧ u.mem = s.mem := by
  rw [exec_perstNRelease, State.pinEdge_taken (p := .perst) (l := false) hdead hstate hlevel]
  obtain ⟨-, hmem, -, hweave, -, hpwr⟩ := s.edged_other .perst false
  have hact : (s.edged .perst false).pinActs .perst false = s.edged .perst false := by
    refine if_neg ?_
    rw [hpwr]
    change ¬s.pwr.inReset = true
    rw [hreset]
    exact Bool.false_ne_true
  rw [hact]
  obtain ⟨-, hcmem, -, hcweave, -, -⟩ := (s.edged .perst false).chatters_other .perst ((s.pinEdges .perst).length + 1)
  exact ⟨_, rfl, hcweave.trans hweave, hcmem.trans hmem⟩

end Perst

end Acts

/-! ### Chatter that quiets, and long holds -/

section Quiet
variable (p : Pin) (l : Bool) {s : State}

theorem exec_pinChatterQuiet_marked (h : s.getF p.fields.2 = 1) : exec (.pinChatterQuiet p l) s =
    .next (((s.setF p.fields.2 0 0).onPwr fun x => { x with edges := x.edges.del p.num }).pinEdge p l).finish :=
  congrArg Host.Outcome.next (if_pos h)

theorem pinChatterQuiet_accepts (h : s.getF p.fields.2 = 1) : ∃ u : State, exec (.pinChatterQuiet p l) s =
    .next (State.finish (u.pinEdge p l)) ∧ u.getF p.fields.2 = 0 ∧ u.pwr.edges.get p.num [] = [] ∧ u.mem = s.mem ∧ u.mode = s.mode :=
  ⟨_, exec_pinChatterQuiet_marked p l h, (s.getF_setF_same _ _ _ p.fields_widths.2.1).trans (Nat.zero_mod _), Table.get_del_same .., rfl, rfl⟩

/-- The state in which a long hold has been seen. -/
def State.heldLong (s : State) (p : Pin) : State := (s.setF p.fields.2 0 2).flag F.pwrStatus_pinHeld { index := p.num }

theorem State.heldLong_effect (s : State) (p : Pin) : (s.heldLong p).getF p.fields.2 = 2 ∧ (s.heldLong p).getF F.pwrStatus_pinHeld = 1 ∧
    (s.heldLong p).mem = s.mem ∧ (s.heldLong p).mode = s.mode := by
  obtain ⟨-, hw, -, h2⟩ := p.fields_widths
  unfold State.heldLong
  refine ⟨(State.getF_flag_clear _ _ p.fields_clear.2.2.2.2.1 (by decide) p.fields_power.2).trans ((s.getF_setF_same _ _ _ hw).trans ?_),
    State.getF_flag_same _ _ _ _ (by decide) (by decide) rfl, ?_, ?_⟩
  · rw [h2]
    rfl
  · rw [State.flag_mem, State.setF_mem]
  · rw [State.flag_mode, State.setF_mode]

theorem exec_pinHeld_long (h1 : s.getF p.fields.1 = 1) (h2 : s.getF p.fields.2 = 0) : exec (.pinHeld p) s =
    .next (if p = .wake then (s.heldLong p).onPwr fun x => { x with wakeSpent := true } else s.heldLong p) :=
  congrArg Host.Outcome.next (if_pos ⟨h1, h2⟩)

theorem pinHeld_once (h1 : s.getF p.fields.1 = 1) (h2 : s.getF p.fields.2 = 0) : ∃ u : State, exec (.pinHeld p) s = .next u ∧
    u.getF p.fields.2 = 2 ∧ u.getF F.pwrStatus_pinHeld = 1 ∧ (p = .wake → u.pwr.wakeSpent = true) ∧ u.mem = s.mem ∧ u.mode = s.mode := by
  rw [exec_pinHeld_long p h1 h2]
  obtain ⟨hstate, hbit, hmem, hmode⟩ := s.heldLong_effect p
  generalize s.heldLong p = t at hstate hbit hmem hmode ⊢
  by_cases hp : p = .wake
  · rw [if_pos hp]
    obtain ⟨hpwr, -, hmem', hmode', -, -, hgetF⟩ := t.onPwr_other fun x => { x with wakeSpent := true }
    exact ⟨_, rfl, (hgetF ..).trans hstate, (hgetF ..).trans hbit, fun _ => congrArg PwrS.wakeSpent hpwr, hmem'.trans hmem, hmode'.trans hmode⟩
  · rw [if_neg hp]
    exact ⟨_, rfl, hstate, hbit, fun h => absurd h hp, hmem, hmode⟩

end Quiet

/-- Settles O55: what an accepted edge does by pin, and the marks of chatter and of a long hold. -/
theorem pinsComplete : Obligations.PinsComplete := by
  refine ⟨pins_first, fun s => ⟨fun h => ?_, thermNAssert_crust, wakeNAssert_wakes, wakeNRelease_frees, fun hdead hstate hlevel =>
      ⟨perstNAssert_holds hdead hstate hlevel, perstNAssert_start hdead hstate hlevel⟩, fun hdead hstate hlevel =>
      ⟨perstNRelease_starts hdead hstate hlevel, perstNRelease_nothing hdead hstate hlevel⟩⟩,
    fun p l s => ⟨fun h => congrArg Host.Outcome.next (if_neg h), pinChatterQuiet_accepts p l, fun h => ?_, pinHeld_once p⟩⟩
  · rw [exec_thermNAssert, State.pinEdge_blocked (p := .therm) (l := true) h]
  · refine congrArg Host.Outcome.next (if_neg ?_)
    rintro ⟨h1, h2⟩
    exact h.elim (fun h => h h1) fun h => h h2

end Sys2Proof.Machine

end

section

namespace Sys2Proof.Machine

/-! ### PWR_CMD (R681, R684) -/

section Command
variable {s : State} {d : RegDesc} {w : Word} {n : Nat}

theorem exec_pwrSleep (w : Word) (s : State) : exec (.pwrSleep w) s = .next (s.pwrCommand (putBits w 0 2 1)) := rfl
theorem exec_pwrWake (w : Word) (s : State) : exec (.pwrWake w) s = .next (s.pwrCommand (putBits w 0 2 2)) := rfl

/-- The state in which operation `n` of PWR_CMD has been taken. -/
abbrev State.pwrTaken (s : State) (d : RegDesc) (w : Word) (n : Nat) : State :=
  s.cmdTaken d F.pwrCmd_op F.pwrCmd_busy 0 (putBits w 0 2 n)

/-- What operation `n` of PWR_CMD does. -/
def State.pwrRun (v : State) (n : Nat) : State :=
  if n = 1 then v.sleepCommand
  else if n = 2 ∧ v.mode = .sleep then v.startWake true
  else v.fresh.2.pwrEnd (v.fresh.1.toNat % 256)

theorem State.pwrCommand_busy (h : s.getF F.pwrCmd_busy = 1) (w : Word) : s.pwrCommand w = s := if_pos h

theorem State.pwrCommand_taken (h : s.cmdReady d F.pwrCmd_op F.pwrCmd_busy 0 (putBits w 0 2 n)) (hz : 1 ≤ n) (hn : n ≤ 2) :
    s.pwrCommand (putBits w 0 2 n) = (s.pwrTaken d w n).pwrRun n := by
  have hop : (s.cmdWritten d F.pwrCmd_op 0 (putBits w 0 2 n)).getF F.pwrCmd_op = n := by
    rw [h.getF (by decide +kernel) rfl rfl]
    exact (fieldOf_putBits_same w 0 2 n (by omega)).trans (Nat.mod_eq_of_lt (by omega))
  have htaken : (s.cmdWritten d F.pwrCmd_op 0 (putBits w 0 2 n)).setF F.pwrCmd_busy 0 1 = s.pwrTaken d w n := rfl
  have hnz : n ≠ 0 := by omega
  simp only [State.pwrCommand, h.idle, h.cleanWrite, h.writeReg, hop, hnz, htaken, if_false]
  rfl

/-- A write of PWR_CMD leaves what a refusal of SLEEP asks of. -/
theorem State.sleepRefused_taken : (s.pwrTaken d w n).sleepRefused = s.sleepRefused := by
  have hkeeper : (s.pwrTaken d w n).getF F.mapRole_keeper = s.getF F.mapRole_keeper := s.getF_cmdTaken_other _ _ _ _ _ (by decide) (by decide)
  have hrole : (s.pwrTaken d w n).getF F.schedSync_role = s.getF F.schedSync_role := s.getF_cmdTaken_other _ _ _ _ _ (by decide) (by decide)
  have hlevel : (s.pwrTaken d w n).getF F.pwrPin_wakeLevel = s.getF F.pwrPin_wakeLevel := s.getF_cmdTaken_other _ _ _ _ _ (by decide) (by decide)
  unfold State.sleepRefused
  rw [hkeeper, hrole, hlevel]
  rfl

theorem State.pwrEnd_effect (s : State) {c : Nat} (hc : c < 256) : (s.pwrEnd c).getF F.pwrCmd_busy = 0 ∧ (s.pwrEnd c).getF F.pwrCmd_code = c ∧
    s.pwrEnd c = { s with regs := (s.pwrEnd c).regs } :=
  ⟨(State.getF_setF_disjoint _ _ (by decide) (by decide)).trans (s.getF_setF_same _ _ _ (by decide)),
    (State.getF_setF_same _ _ _ _ (by decide)).trans (Nat.mod_eq_of_lt hc), rfl⟩

theorem State.sleepCommand_refused {c : Code} (h : s.sleepRefused = some c) : s.sleepCommand = s.pwrEnd c.num := by
  unfold State.sleepCommand
  rw [h]

theorem State.sleepCommand_starts (h : s.sleepRefused = none) (hseq : s.pwr.seq = .none) : s.sleepCommand =
    State.sendMsg (s.onPwr fun p => { p with seq := .falling true }) s.timeSource 0 0 (.asleep s.device s.wale) := by
  unfold State.sleepCommand
  rw [h]
  dsimp only
  rw [hseq]
  rfl

theorem State.sleepCommand_goesOn (h : s.sleepRefused = none) (hseq : s.pwr.seq ≠ .none) :
    s.sleepCommand = s.onPwr fun p => { p with seq := .falling true } := by
  unfold State.sleepCommand
  rw [h]
  dsimp only
  split
  · next hnone => exact absurd hnone hseq
  · rfl

theorem pwrSleep_ends (h : s.cmdReady d F.pwrCmd_op F.pwrCmd_busy 0 (putBits w 0 2 1)) {c : Code} (hc : s.sleepRefused = some c) :
    ∃ u : State, exec (.pwrSleep w) s = .next u ∧ u.getF F.pwrCmd_busy = 0 ∧ u.getF F.pwrCmd_code = c.num ∧ u = { s with regs := u.regs } := by
  have hrun : (s.pwrTaken d w 1).pwrRun 1 = (s.pwrTaken d w 1).pwrEnd c.num :=
    State.sleepCommand_refused (State.sleepRefused_taken.trans hc)
  rw [exec_pwrSleep, State.pwrCommand_taken h (by decide) (by decide), hrun]
  obtain ⟨hbusy, hcode, -⟩ := (s.pwrTaken d w 1).pwrEnd_effect (Code.num_lt c)
  exact ⟨_, rfl, hbusy, hcode, rfl⟩

theorem pwrWake_wakes (h : s.cmdReady d F.pwrCmd_op F.pwrCmd_busy 0 (putBits w 0 2 2)) (hm : s.mode = .sleep) (hseq : s.pwr.seq = .none) :
    ∃ u : State, exec (.pwrWake w) s = .next u ∧ u.pwr.seq = .waking true ∧ u.mode = .sleep ∧ u.getF F.pwrCmd_busy = 1 ∧ u.mem = s.mem := by
  have hrun : (s.pwrTaken d w 2).pwrRun 2 = (s.pwrTaken d w 2).startWake true := (if_neg (by decide)).trans (if_pos ⟨rfl, hm⟩)
  have hpower := State.startWake_sleep (s := s.pwrTaken d w 2) hm hseq true
  have hmem := State.mem_of_steady (State.startWake_steady (s.pwrTaken d w 2) true)
  have hbusy : (s.pwrTaken d w 2).getF F.pwrCmd_busy = 1 := State.getF_setF_same _ _ _ _ (by decide)
  have hmode' : (s.pwrTaken d w 2).mode = .sleep := hm
  have hmem' : (s.pwrTaken d w 2).mem = s.mem := rfl
  rw [exec_pwrWake, State.pwrCommand_taken h (by decide) (by decide), hrun]
  generalize s.pwrTaken d w 2 = t at hpower hmem hbusy hmode' hmem' ⊢
  exact ⟨_, rfl, State.seq_of_power hpower, (State.mode_of_power hpower).trans hmode',
    (State.getF_of_power hpower F.pwrCmd_busy 0 (by decide)).trans hbusy, hmem.trans hmem'⟩

theorem pwrWake_awake (h : s.cmdReady d F.pwrCmd_op F.pwrCmd_busy 0 (putBits w 0 2 2)) (hm : s.mode ≠ .sleep) :
    ∃ u : State, exec (.pwrWake w) s = .next u ∧ u.getF F.pwrCmd_busy = 0 ∧ u = { s with regs := u.regs, free := s.free + 1 } := by
  have hrun : (s.pwrTaken d w 2).pwrRun 2 = (s.pwrTaken d w 2).fresh.2.pwrEnd ((s.pwrTaken d w 2).fresh.1.toNat % 256) :=
    (if_neg (by decide)).trans (if_neg fun h => hm h.2)
  rw [exec_pwrWake, State.pwrCommand_taken h (by decide) (by decide), hrun]
  obtain ⟨hbusy, -⟩ := (s.pwrTaken d w 2).fresh.2.pwrEnd_effect (Nat.mod_lt (s.pwrTaken d w 2).fresh.1.toNat (by decide : 0 < 256))
  exact ⟨_, rfl, hbusy, rfl⟩

end Command

/-! ### Why SLEEP is refused (R662) -/

section Refused
variable {s : State}

theorem State.sleepRefused_policy (h : s.act F.pwrPolicy_sleepOk = 0) : s.sleepRefused = some .denied := if_pos h

theorem State.sleepRefused_role (h : s.sched.children ≠ [] ∨ s.getF F.mapRole_keeper = 1 ∨ s.isSource = true) :
    s.sleepRefused = some .denied := by
  have hrole : s.getF F.mapRole_keeper = 1 ∨ s.getF F.schedSync_role ≠ 0 ∨ s.sched.children ≠ [] := by
    rcases h with h | h | h
    · exact Or.inr (Or.inr h)
    · exact Or.inl h
    · refine Or.inr (Or.inl ?_)
      rw [eq_of_beq h]
      decide
  by_cases hpolicy : s.act F.pwrPolicy_sleepOk = 0
  · exact if_pos hpolicy
  · exact (if_neg hpolicy).trans (if_pos hrole)

theorem State.sleepRefused_busy (h : s.mode ≠ .rest ∨ s.pwr.asleep.contains (partnerOf s.device) = true) : s.sleepRefused ≠ none := by
  unfold State.sleepRefused
  split
  · exact Option.some_ne_none _
  · split
    · exact Option.some_ne_none _
    · split
      · exact Option.some_ne_none _
      · next hmode =>
        have hpartner : s.pwr.asleep.contains (partnerOf s.device) = true := h.resolve_left fun hm => hmode (Or.inl hm)
        rw [if_pos hpartner]
        exact Option.some_ne_none _

end Refused

/-! ### Falling asleep (R662 to R665) -/

section Asleep
variable {s : State}

theorem exec_sleepQuiet : exec .sleepQuiet s = .next s.fallAsleep := rfl
theorem exec_sleepQuietTimeout : exec .sleepQuietTimeout s = .next s.abandonSleep := rfl

/-- A register that is not a cluster's. -/
theorem State.cluster_setF_off (s : State) (f : Fld) (i v : Nat) {k : Nat} (h : 0x80100 + 8 * k ≠ f.off i) :
    (s.setF f i v).getF F.cellCluster_clk k = s.getF F.cellCluster_clk k ∧
    (s.setF f i v).getF F.cellCluster_pllLocked k = s.getF F.cellCluster_pllLocked k := ⟨s.getF_setF_off v h, s.getF_setF_off v h⟩

/-- Clusters named in a list, each with clock and PLL stopped. -/
theorem State.getF_clustersStopped {k : Nat} (l : List Nat) : ∀ s : State,
    (k ∈ l ∨ s.getF F.cellCluster_clk k = 0 ∧ s.getF F.cellCluster_pllLocked k = 0) →
    (l.foldl (fun s k => (s.setF F.cellCluster_clk k 0).setF F.cellCluster_pllLocked k 0) s).getF F.cellCluster_clk k = 0 ∧
    (l.foldl (fun s k => (s.setF F.cellCluster_clk k 0).setF F.cellCluster_pllLocked k 0) s).getF F.cellCluster_pllLocked k = 0 := by
  have hoff (j : Nat) : F.cellCluster_clk.off j = 0x80100 + 8 * j ∧ F.cellCluster_pllLocked.off j = 0x80100 + 8 * j := ⟨rfl, rfl⟩
  induction l with
  | nil => exact fun s h => h.resolve_left List.not_mem_nil
  | cons j r ih =>
    intro s h
    refine ih _ ?_
    by_cases hj : k = j
    · subst hj
      exact Or.inr ⟨(State.getF_setF_disjoint _ _ (by decide) (by decide)).trans ((s.getF_setF_same _ _ _ (by decide)).trans (Nat.zero_mod _)),
        (State.getF_setF_same _ _ _ _ (by decide)).trans (Nat.zero_mod _)⟩
    · have hne : 0x80100 + 8 * k ≠ 0x80100 + 8 * j := by omega
      obtain ⟨hclk, hpll⟩ := s.cluster_setF_off F.cellCluster_clk j 0 hne
      obtain ⟨hclk', hpll'⟩ := (s.setF F.cellCluster_clk j 0).cluster_setF_off F.cellCluster_pllLocked j 0 hne
      rw [hclk', hpll', hclk, hpll]
      exact h.imp (fun hmem => (List.mem_cons.1 hmem).resolve_left hj) id

theorem State.getF_stopClusters (s : State) {k : Nat} (hk : s.code.hasCluster k = true) :
    s.stopClusters.getF F.cellCluster_clk k = 0 ∧ s.stopClusters.getF F.cellCluster_pllLocked k = 0 :=
  State.getF_clustersStopped _ s (Or.inl (List.mem_range.2 (of_decide_eq_true hk)))

/-- The ports, on their way to sleep. -/
def State.portsAsleep (s : State) : State := (List.range s.code.ports).foldl (fun s p => s.toKeepalive p) s

theorem State.portsAsleep_power : s.portsAsleep.power = s.power := State.power_foldl _ (fun _ _ => State.toKeepalive_power ..) _ _

theorem State.portsAsleep_steady : s.portsAsleep.steady = s.steady := State.steady_foldl _ (fun _ _ => State.toKeepalive_steady ..) _ _

theorem State.portsAsleep_sched : s.portsAsleep.sched = s.sched := by
  refine foldl_unchanged State.sched (fun u p => ?_) _ s
  unfold State.toKeepalive
  split <;> rfl

/-- Mode SLEEP, the sequence over. -/
def State.slept (s : State) : State :=
  ((((s.portsAsleep.onPwr fun p => { p with seq := .none, restWales := 0 }).setMode .sleep).stopClusters).setF F.schedSync_locked 0 0).addF
    F.pwrSleepCount_sleeps 0 1

theorem State.fallAsleep_falling {c : Bool} (h : s.pwr.seq = .falling c) :
    s.fallAsleep = if c then s.slept.pwrEnd Code.done.num else s.slept := by
  unfold State.fallAsleep
  rw [h]
  rfl

theorem State.fallAsleep_idle (h : ∀ c, s.pwr.seq ≠ .falling c) : s.fallAsleep = s := by
  unfold State.fallAsleep
  split
  · next c hc => exact absurd hc (h c)
  · rfl

theorem State.stopClusters_sched (s : State) : s.stopClusters.sched = s.sched :=
  foldl_unchanged State.sched (f := fun s k => (s.setF F.cellCluster_clk k 0).setF F.cellCluster_pllLocked k 0) (fun _ _ => rfl) _ s

theorem State.slept_effect : s.slept.mode = .sleep ∧ s.slept.pwr.seq = .none ∧ s.slept.getF F.schedSync_locked = 0 ∧
    (∀ k, s.code.hasCluster k = true → s.slept.getF F.cellCluster_clk k = 0 ∧ s.slept.getF F.cellCluster_pllLocked k = 0) ∧
    s.slept.mem = s.mem ∧ s.slept.sched = s.sched := by
  have hcode : ((s.portsAsleep.onPwr fun p => { p with seq := .none, restWales := 0 }).setMode .sleep).code = s.code := by
    refine State.code_of_steady (Eq.trans ?_ s.portsAsleep_steady)
    rw [State.setMode_steady, State.onPwr_steady]
  have hmem : ((s.portsAsleep.onPwr fun p => { p with seq := .none, restWales := 0 }).setMode .sleep).stopClusters.mem = s.mem := by
    refine State.mem_of_steady (Eq.trans ?_ s.portsAsleep_steady)
    rw [State.stopClusters_steady, State.setMode_steady, State.onPwr_steady]
  have hsched : ((s.portsAsleep.onPwr fun p => { p with seq := .none, restWales := 0 }).setMode .sleep).stopClusters.sched = s.sched :=
    (State.stopClusters_sched _).trans ((State.setMode_sched _ _).trans s.portsAsleep_sched)
  have hpower := (State.stopClusters_power ((s.portsAsleep.onPwr fun p => { p with seq := .none, restWales := 0 }).setMode .sleep) true).trans
    (State.setMode_power _ _)
  have hmode : ((s.portsAsleep.onPwr fun p => { p with seq := .none, restWales := 0 }).setMode .sleep).stopClusters.mode = .sleep :=
    congrArg Prod.fst hpower
  have hseq : ((s.portsAsleep.onPwr fun p => { p with seq := .none, restWales := 0 }).setMode .sleep).stopClusters.pwr.seq = .none :=
    congrArg (fun e => e.2.1.seq) hpower
  have hclusters := fun k hk => State.getF_stopClusters ((s.portsAsleep.onPwr fun p => { p with seq := .none, restWales := 0 }).setMode .sleep)
    (k := k) (hcode ▸ hk)
  unfold State.slept
  generalize ((s.portsAsleep.onPwr fun p => { p with seq := .none, restWales := 0 }).setMode .sleep).stopClusters = t
    at hmem hsched hmode hseq hclusters ⊢
  refine ⟨hmode, hseq, (State.getF_setF_off _ _ (by decide)).trans ((t.getF_setF_same _ _ _ (by decide)).trans (Nat.zero_mod _)),
    fun k hk => ?_, hmem, hsched⟩
  have hk16 : k < 16 := by
    have hcode16 : 4 * s.code.fronds ≤ 16 := by cases s.code <;> decide
    exact Nat.lt_of_lt_of_le (of_decide_eq_true hk) hcode16
  have h1 : 0x80100 + 8 * k ≠ 0xA0020 := by omega
  have h2 : 0x80100 + 8 * k ≠ 0x10048 := by omega
  obtain ⟨hclk, hpll⟩ := hclusters k hk
  obtain ⟨hclk1, hpll1⟩ := t.cluster_setF_off F.schedSync_locked 0 0 h1
  obtain ⟨hclk2, hpll2⟩ := (t.setF F.schedSync_locked 0 0).cluster_setF_off F.pwrSleepCount_sleeps 0 _ h2
  exact ⟨(hclk2.trans hclk1).trans hclk, (hpll2.trans hpll1).trans hpll⟩

theorem sleepQuiet_sleeps {c : Bool} (h : s.pwr.seq = .falling c) : ∃ u : State, exec .sleepQuiet s = .next u ∧ u.mode = .sleep ∧
    u.pwr.seq = .none ∧ u.getF F.schedSync_locked = 0 ∧
    (∀ k, s.code.hasCluster k = true → u.getF F.cellCluster_clk k = 0 ∧ u.getF F.cellCluster_pllLocked k = 0) ∧
    (c = true → u.getF F.pwrCmd_busy = 0 ∧ u.getF F.pwrCmd_code = 0) ∧ u.mem = s.mem ∧ u.sched = s.sched := by
  rw [exec_sleepQuiet, State.fallAsleep_falling h]
  obtain ⟨hmode, hseq, hlocked, hclusters, hmem, hsched⟩ := s.slept_effect
  generalize s.slept = t at hmode hseq hlocked hclusters hmem hsched ⊢
  cases c with
  | false => exact ⟨_, rfl, hmode, hseq, hlocked, hclusters, fun h => (Bool.false_ne_true h).elim, hmem, hsched⟩
  | true =>
    obtain ⟨hbusy, hcode, -⟩ := t.pwrEnd_effect (Code.num_lt .done)
    refine ⟨_, rfl, hmode, hseq, ?_, fun k hk => ?_, fun _ => ⟨hbusy, hcode⟩, hmem, hsched⟩
    · exact ((State.getF_setF_off _ _ (by decide)).trans (t.getF_setF_off _ (by decide))).trans hlocked
    · have hne : 0x80100 + 8 * k ≠ 0x10030 := by omega
      obtain ⟨hclk, hpll⟩ := t.cluster_setF_off F.pwrCmd_busy 0 0 hne
      obtain ⟨hclk', hpll'⟩ := (t.setF F.pwrCmd_busy 0 0).cluster_setF_off F.pwrCmd_code 0 Code.done.num hne
      obtain ⟨hclk0, hpll0⟩ := hclusters k hk
      exact ⟨(hclk'.trans hclk).trans hclk0, (hpll'.trans hpll).trans hpll0⟩

theorem sleepQuietTimeout_abandons {c : Bool} (h : s.pwr.seq = .falling c) : ∃ u : State, exec .sleepQuietTimeout s = .next u ∧
    u.mode = s.mode ∧ u.pwr.seq = .none ∧ u.pwr.restWales = 0 ∧ u.getF F.pwrStatus_sleepAbandoned = 1 ∧ u.mem = s.mem := by
  rw [exec_sleepQuietTimeout]
  obtain ⟨hawoken, hseq, hrest, hbit⟩ := s.abandonSleep_falling h
  exact ⟨_, rfl, hawoken.mode, hseq, hrest, hbit, State.mem_of_steady (State.abandonSleep_steady _)⟩

end Asleep

/-! ### Waking (R666, R667) -/

/-- A register below LNK that is not of the fault records shows nothing of what is sent. -/
theorem getF_sendBlind {f : Fld} {i : Nat} (h : f.off i ∉ recordRegs) (hhi : f.off i < 0x100000) : SendBlind fun s => s.getF f i where
  records _ _ _ := rfl
  queue _ _ := rfl
  seq s _ := s.getF_setF_off _ fun e => h (by rw [e]; decide)
  lost s _ := s.getF_setF_off _ fun e => h (by rw [e]; decide)
  lostCount s _ := s.getF_setF_off _ fun e => h (by rw [e]; decide)
  overflow s _ := s.getF_setF_off _ fun e => h (by rw [e]; decide)
  fab _ _ := rfl
  mgt _ _ := rfl
  out _ _ := rfl
  holds _ _ := rfl
  wakeSent _ _ := rfl
  far s g j v hg := s.getF_setF_off _ (by
    have hj : g.base ≤ g.off j := Nat.le_add_right _ _
    have hbase := Fld.sent_far hg
    omega)

section Awake
variable {s : State} {c : Bool}

theorem exec_wakeSequenceEnd : exec .wakeSequenceEnd s = .next s.wakeEnds.finish := rfl
theorem exec_sleepWake (x : WakeCause) : exec (.sleepWake x) s =
    .next (if s.mode = .sleep then s.startWake false else if x = .wakeN then s.abandonSleep else s) := rfl
theorem exec_wake (d : DevNo) : exec (.wake d) s =
    .next (if d ≠ s.device then s else if s.mode = .sleep then s.startWake false else s.abandonSleep) := rfl

theorem exec_wakeTimeout_waking (h : s.pwr.seq = .waking c) : exec .wakeTimeout s = .next (s.flag F.pwrStatus_wakeTimeout) := by
  change execWakeTimeout s = _
  unfold execWakeTimeout
  rw [h]

theorem exec_wakeTimeout_idle (h : ∀ c, s.pwr.seq ≠ .waking c) : exec .wakeTimeout s = .next s := by
  change execWakeTimeout s = _
  unfold execWakeTimeout
  split
  · next c hc => exact absurd hc (h c)
  · rfl

/-- Stand time is locked again, and AWAKE sent. -/
def State.relocked (s : State) : State :=
  State.sendMsg (((s.onPwr fun p => { p with seq := .none }).setF F.schedSync_locked 0 1).addF F.pwrSleepCount_wakes 0 1)
    ((((s.onPwr fun p => { p with seq := .none }).setF F.schedSync_locked 0 1).addF F.pwrSleepCount_wakes 0 1).timeSource) 0 0
    (.awake s.device s.wale)

theorem State.relocked_effect : s.relocked.getF F.schedSync_locked = 1 ∧ s.relocked.mem = s.mem ∧ s.relocked.pwr.seq = .none ∧
    s.relocked.pwr.recorded = s.pwr.recorded := by
  have hbefore : ∀ t : State, ((t.setF F.schedSync_locked 0 1).addF F.pwrSleepCount_wakes 0 1).getF F.schedSync_locked = 1 ∧
      ((t.setF F.schedSync_locked 0 1).addF F.pwrSleepCount_wakes 0 1).mem = t.mem ∧
      ((t.setF F.schedSync_locked 0 1).addF F.pwrSleepCount_wakes 0 1).pwr = t.pwr := fun t =>
    ⟨(State.getF_setF_off _ _ (by decide)).trans (t.getF_setF_same _ _ _ (by decide)), rfl, rfl⟩
  obtain ⟨hlocked, hmem, hpwr⟩ := hbefore (s.onPwr fun p => { p with seq := .none })
  unfold State.relocked
  generalize ((s.onPwr fun p => { p with seq := .none }).setF F.schedSync_locked 0 1).addF F.pwrSleepCount_wakes 0 1 = t at hlocked hmem hpwr ⊢
  have hpower := State.sendMsg_power t t.timeSource 0 0 (.awake s.device s.wale) false
  have hrecorded : t.pwr.recorded = s.pwr.recorded := by
    rw [hpwr]
    rfl
  exact ⟨((getF_sendBlind (by decide) (by decide)).sendMsg ..).trans hlocked, (State.mem_of_steady (State.sendMsg_steady ..)).trans hmem,
    (State.seq_of_power hpower).trans (congrArg PwrS.seq hpwr), (State.recorded_of_power hpower).trans hrecorded⟩

/-- The mode that a wake ends in. -/
def State.wokenMode (s : State) : State :=
  match s.relocked.pwr.recorded with
  | some x => (s.relocked.onPwr fun p => { p with recorded := none }).crustSteps x
  | none => s.relocked.setMode .rest

theorem State.wakeEnds_waking (hm : s.mode = .sleep) (hseq : s.pwr.seq = .waking c) (hwait : s.arraysWait = false) :
    s.wakeEnds = if c then s.wokenMode.pwrEnd Code.done.num else s.wokenMode := by
  unfold State.wakeEnds
  rw [hm, hseq]
  exact if_neg (by rw [hwait]; exact Bool.false_ne_true)

theorem State.wakeEnds_waits (hwait : s.arraysWait = true) : s.wakeEnds = s := by
  unfold State.wakeEnds
  split
  · exact if_pos hwait
  · rfl

theorem State.wakeEnds_idle (h : s.mode ≠ .sleep ∨ ∀ c, s.pwr.seq ≠ .waking c) : s.wakeEnds = s := by
  unfold State.wakeEnds
  split
  · next c hm hseq => exact (h.elim (fun h => h hm) fun h => h c hseq).elim
  · rfl

theorem wakeSequenceEnd_rest (hm : s.mode = .sleep) (hseq : s.pwr.seq = .waking c) (hwait : s.arraysWait = false)
    (hnone : s.pwr.recorded = none) : ∃ u : State, exec .wakeSequenceEnd s = .next (State.finish u) ∧ u.mode = .rest ∧ u.pwr.seq = .none ∧
      u.getF F.schedSync_locked = 1 ∧ (c = true → u.getF F.pwrCmd_busy = 0 ∧ u.getF F.pwrCmd_code = 0) ∧ u.mem = s.mem := by
  rw [exec_wakeSequenceEnd, State.wakeEnds_waking hm hseq hwait]
  obtain ⟨hlocked, hmem, hseq', hrecorded⟩ := s.relocked_effect
  have hmode : s.wokenMode = s.relocked.setMode .rest := by
    unfold State.wokenMode
    rw [hrecorded, hnone]
  rw [hmode]
  generalize s.relocked = t at hlocked hmem hseq' ⊢
  have hpower := t.setMode_power .rest
  have hmode' : (t.setMode .rest).mode = .rest := congrArg Prod.fst hpower
  have hseq'' : (t.setMode .rest).pwr.seq = .none := (congrArg (fun e => e.2.1.seq) hpower).trans hseq'
  have hmem' : (t.setMode .rest).mem = s.mem := (State.mem_of_steady (State.setMode_steady ..)).trans hmem
  have hlocked' : (t.setMode .rest).getF F.schedSync_locked = 1 := by
    refine Eq.trans ?_ hlocked
    unfold State.setMode
    split <;> rfl
  generalize t.setMode .rest = v at hmode' hseq'' hmem' hlocked' ⊢
  cases c with
  | false => exact ⟨_, rfl, hmode', hseq'', hlocked', fun h => (Bool.false_ne_true h).elim, hmem'⟩
  | true =>
    obtain ⟨hbusy, hcode, -⟩ := v.pwrEnd_effect (Code.num_lt .done)
    exact ⟨_, rfl, hmode', hseq'', ((State.getF_setF_off _ _ (by decide)).trans (v.getF_setF_off _ (by decide))).trans hlocked',
      fun _ => ⟨hbusy, hcode⟩, hmem'⟩

theorem wakeSequenceEnd_crust (hm : s.mode = .sleep) (hseq : s.pwr.seq = .waking c) (hwait : s.arraysWait = false)
    (hsome : s.pwr.recorded ≠ none) : ∃ u : State, exec .wakeSequenceEnd s = .next (State.finish u) ∧ u.mode = .crust ∧
      u.pwr.recorded = none ∧ u.pwr.seq = .none := by
  rw [exec_wakeSequenceEnd, State.wakeEnds_waking hm hseq hwait]
  obtain ⟨x, hx⟩ := Option.ne_none_iff_exists'.1 hsome
  obtain ⟨-, -, hseq', hrecorded⟩ := s.relocked_effect
  have hmode : s.wokenMode = (s.relocked.onPwr fun p => { p with recorded := none }).crustSteps x := by
    unfold State.wokenMode
    rw [hrecorded, hx]
  rw [hmode]
  generalize s.relocked = t at hseq' ⊢
  have hpower := (t.onPwr fun p => { p with recorded := none }).crustSteps_power x
  generalize (t.onPwr fun p => { p with recorded := none }).crustSteps x = v at hpower ⊢
  have hset : v.power = ({ t.onPwr fun p => { p with recorded := none } with mode := .crust } : State).power := hpower
  have hmode' := State.mode_of_power hset
  have hrecorded' := State.recorded_of_power hset
  have hseq'' := (State.seq_of_power hset).trans hseq'
  cases c
  · exact ⟨_, rfl, hmode', hrecorded', hseq''⟩
  · exact ⟨_, rfl, hmode', hrecorded', hseq''⟩

theorem sleepWake_starts (x : WakeCause) (hm : s.mode = .sleep) (hseq : s.pwr.seq = .none) : ∃ u : State, exec (.sleepWake x) s = .next u ∧
    exec (.wake s.device) s = .next u ∧ u.pwr.seq = .waking false ∧ u.mode = .sleep ∧ u.mem = s.mem := by
  rw [exec_sleepWake, exec_wake, if_pos hm, if_neg (fun h => h rfl), if_pos hm]
  have hpower := State.startWake_sleep hm hseq false
  exact ⟨_, rfl, rfl, State.seq_of_power hpower, (State.mode_of_power hpower).trans hm, State.mem_of_steady (State.startWake_steady ..)⟩

theorem sleepWake_goesOn (x : WakeCause) (hm : s.mode = .sleep) (c : Bool) (hseq : s.pwr.seq = .waking c) : ∃ u : State,
    exec (.sleepWake x) s = .next u ∧ exec (.wake s.device) s = .next u ∧ u.pwr.seq = .waking c ∧
    u = s.onPwr fun p => { p with seq := .waking c } := by
  rw [exec_sleepWake, exec_wake, if_pos hm, if_neg (fun h => h rfl), if_pos hm, State.startWake_waking hm hseq, Bool.or_false]
  exact ⟨_, rfl, rfl, rfl, rfl⟩

end Awake

/-! ### Partners that sleep (R663, R667, R681) -/

section Partners
variable {s : State} {e : DevNo} {n : Wale}

theorem exec_asleep : exec (.asleep e n) s = .next (s.takeAsleep e n) := rfl
theorem exec_awake : exec (.awake e n) s = .next (s.takeAwake e n).finish := rfl

theorem State.takeAsleep_known (h : e = s.device ∨ s.pwr.asleep.contains e = true) : s.takeAsleep e n = s := if_pos h

section New
variable (hself : e ≠ s.device) (hnew : s.pwr.asleep.contains e = false)
include hself hnew

theorem asleep_new : ¬(e = s.device ∨ s.pwr.asleep.contains e = true) := by
  rw [hnew]
  exact fun h => h.elim hself Bool.false_ne_true

theorem State.takeAsleep_quiet (hpred : e ≠ predecessorOf s.device) (hsource : s.isSource = false) :
    s.takeAsleep e n = s.onPwr fun p => { p with asleep := p.asleep ++ [e] } := by
  have hsource' : ¬(s.onPwr fun p => { p with asleep := p.asleep ++ [e] }).isSource = true := by
    change ¬s.isSource = true
    rw [hsource]
    exact Bool.false_ne_true
  refine (if_neg (asleep_new hself hnew)).trans ?_
  dsimp only
  rw [if_neg hsource']
  exact if_neg hpred

theorem State.takeAsleep_source (hpred : e ≠ predecessorOf s.device) (hsource : s.isSource = true) : s.takeAsleep e n =
    (s.onPwr fun p => { p with asleep := p.asleep ++ [e] }).sendGroup ((s.weave.running.map fun i => i.stand.timeGroup).getD 0) 0 0
      (.asleep e n) := by
  have hsource' : (s.onPwr fun p => { p with asleep := p.asleep ++ [e] }).isSource = true := hsource
  refine (if_neg (asleep_new hself hnew)).trans ?_
  dsimp only
  rw [if_pos hsource', State.device_of_inner (State.sendGroup_inner ..)]
  exact if_neg hpred

theorem asleep_partner (hpred : e = predecessorOf s.device) (hsource : s.isSource = false) : ∃ u : State, exec (.asleep e n) s = .next u ∧
    u.pwr.asleep = s.pwr.asleep ++ [e] ∧ u.getF F.pwrState_sleepingPartner = 1 ∧ lastSeen u.map.heard e = s.stime.toNat ∧ u.mem = s.mem ∧
    u.mode = s.mode := by
  have hsource' : ¬(s.onPwr fun p => { p with asleep := p.asleep ++ [e] }).isSource = true := by
    change ¬s.isSource = true
    rw [hsource]
    exact Bool.false_ne_true
  have htaken : s.takeAsleep e n = ((s.onPwr fun p => { p with asleep := p.asleep ++ [e] }).onMap fun m =>
      { m with heard := s.seenNow m.heard e }).setF F.pwrState_sleepingPartner 0 1 := by
    refine (if_neg (asleep_new hself hnew)).trans ?_
    dsimp only
    rw [if_neg hsource']
    exact if_pos hpred
  rw [exec_asleep, htaken]
  exact ⟨_, rfl, rfl, State.getF_setF_same _ _ _ _ (by decide), lastSeen_seenNow_same _ _, rfl, rfl⟩

end New

theorem State.takeAwake_unknown (h : e = s.device ∨ s.pwr.asleep.contains e = false) : s.takeAwake e n = s :=
  if_pos (h.imp_right fun h => by rw [h]; rfl)

/-- The mark of a device that sleeps goes. -/
def State.unmarked (s : State) (e : DevNo) : State :=
  (s.onPwr fun p => { p with
    asleep := p.asleep.filter (· != e), wakeSent := p.wakeSent.filter (· != e)
    holds := p.holds.filter fun h => h.packet.target != e }).onMap fun m => { m with heard := s.seenNow m.heard e }

theorem awake_unmarks (hself : e ≠ s.device) (hknown : s.pwr.asleep.contains e = true) (hsource : s.isSource = false) :
    ∃ u : State, exec (.awake e n) s = .next (State.finish
        ((s.pwr.holds.filter fun h => h.packet.target == e).foldl (fun x h => (x.sendPacket h.packet h.issuer).2) u)) ∧
      u.pwr.asleep = s.pwr.asleep.filter (· != e) ∧ u.pwr.wakeSent = s.pwr.wakeSent.filter (· != e) ∧
      u.pwr.holds = s.pwr.holds.filter (fun h => h.packet.target != e) ∧ lastSeen u.map.heard e = s.stime.toNat ∧ u.mem = s.mem := by
  have hknown' : ¬(e = s.device ∨ (!s.pwr.asleep.contains e) = true) := by
    rw [hknown]
    exact fun h => h.elim hself Bool.false_ne_true
  have hsource' : ∀ c : Prop, [Decidable c] → ¬(if c then (s.unmarked e).setF F.pwrState_sleepingPartner 0 0 else s.unmarked e).isSource = true := by
    intro c _
    have hrole : (if c then (s.unmarked e).setF F.pwrState_sleepingPartner 0 0 else s.unmarked e).isSource = s.isSource := by
      split
      · exact congrArg (· == 1) ((s.unmarked e).getF_setF_off (f := F.pwrState_sleepingPartner) (g := F.schedSync_role) 0 (by decide))
      · rfl
    rw [hrole, hsource]
    exact Bool.false_ne_true
  have htaken : s.takeAwake e n = (s.pwr.holds.filter fun h => h.packet.target == e).foldl (fun x h => (x.sendPacket h.packet h.issuer).2)
      (if e = predecessorOf s.device then (s.unmarked e).setF F.pwrState_sleepingPartner 0 0 else s.unmarked e) := by
    refine (if_neg hknown').trans ?_
    exact congrArg (fun u => (s.pwr.holds.filter fun h => h.packet.target == e).foldl (fun x h => (State.sendPacket x h.packet h.issuer).2) u)
      (if_neg (hsource' (e = predecessorOf s.device)))
  rw [exec_awake, htaken]
  refine ⟨_, rfl, ?_⟩
  split
  · exact ⟨rfl, rfl, rfl, lastSeen_seenNow_same _ _, rfl⟩
  · exact ⟨rfl, rfl, rfl, lastSeen_seenNow_same _ _, rfl⟩

end Partners

/-! ### A hold over its bound (R667) -/

section Bound
variable {s : State} {e : DevNo} {tag : BitVec 16} {h : SleepHold}

theorem exec_wakeBoundExpiry : exec (.wakeBoundExpiry e tag) s = .next (s.wakeBound e tag).finish := rfl

theorem State.wakeBound_none (hnone : ∀ h ∈ s.pwr.holds, h.packet.target ≠ e ∨ h.packet.tag ≠ tag) : s.wakeBound e tag = s := by
  have hfind : (s.pwr.holds.find? fun h => h.packet.target == e && h.packet.tag == tag) = none := by
    refine List.find?_eq_none.2 fun h hh => ?_
    rcases hnone h hh with ht | ht
    · simp [ht]
    · simp [ht]
  unfold State.wakeBound
  rw [hfind]

/-- The hold is taken off, and with the last of its target the wake. -/
def State.unheld (s : State) (e : DevNo) (h : SleepHold) : State :=
  if (s.pwr.holds.erase h).any fun k => k.packet.target == e then s.onPwr fun p => { p with holds := p.holds.erase h }
  else s.onPwr fun p => { p with holds := p.holds.erase h, wakeSent := p.wakeSent.filter (· != e) }

theorem State.unheld_effect (s : State) (e : DevNo) (h : SleepHold) : (s.unheld e h).pwr.holds = s.pwr.holds.erase h ∧ (s.unheld e h).mem = s.mem := by
  unfold State.unheld
  split <;> exact ⟨rfl, rfl⟩

theorem State.noteLost_pwr (s : State) (p : Packet) : (s.noteLost p).pwr = s.pwr := State.flag_pwr ..

theorem State.noteDead_pwr (s : State) (d : DevNo) (a : Word) (t : Tenant) : (s.noteDead d a t).pwr = s.pwr := by
  unfold State.noteDead
  rw [State.flag_pwr, State.setF_pwr, State.flag_pwr]
  rfl

theorem wakeBoundExpiry_ends (hfind : (s.pwr.holds.find? fun h => h.packet.target == e && h.packet.tag == tag) = some h)
    (hlost : h.packet.posted = true ∨ h.issuer = none) : ∃ u : State, exec (.wakeBoundExpiry e tag) s = .next (State.finish u) ∧
      u.pwr.holds = s.pwr.holds.erase h ∧ u.mem = s.mem ∧ (h.packet.posted = true → u.getF F.swcStatus_postedLost = 1) := by
  obtain ⟨hholds, hmem⟩ := s.unheld_effect e h
  have hbound : s.wakeBound e tag = if h.packet.posted then (s.unheld e h).noteLost h.packet
      else if h.packet.answered then (s.unheld e h).noteDead e h.packet.addr h.packet.tenant else s.unheld e h := by
    unfold State.wakeBound
    rw [hfind]
    dsimp only
    have hunheld : (if ((s.onPwr fun p => { p with holds := p.holds.erase h }).pwr.holds.any fun k => k.packet.target == e) = true then
        s.onPwr fun p => { p with holds := p.holds.erase h }
        else (s.onPwr fun p => { p with holds := p.holds.erase h }).onPwr fun p => { p with wakeSent := p.wakeSent.filter (· != e) }) =
        s.unheld e h := rfl
    rw [hunheld]
    rcases hlost with hp | hi
    · rw [if_pos hp, if_pos hp]
    · rw [hi]
  rw [exec_wakeBoundExpiry, hbound]
  generalize s.unheld e h = t at hholds hmem ⊢
  refine ⟨_, rfl, ?_⟩
  by_cases hp : h.packet.posted = true
  · rw [if_pos hp]
    obtain ⟨hbit, -, -, hmem'⟩ := t.noteLost_effect h.packet
    exact ⟨(congrArg PwrS.holds (t.noteLost_pwr h.packet)).trans hholds, hmem'.trans hmem, fun _ => hbit⟩
  · rw [if_neg hp]
    split
    · exact ⟨(congrArg PwrS.holds (State.noteDead_pwr ..)).trans hholds, (State.mem_of_steady (State.noteDead_steady ..)).trans hmem,
        fun h => absurd h hp⟩
    · exact ⟨hholds, hmem, fun h => absurd h hp⟩

end Bound

/-- Settles O53: the conditions of SLEEP, the sequences of falling asleep and of waking, and what is held for a partner that sleeps. -/
theorem sleepCompletes : Obligations.SleepCompletes := by
  refine ⟨fun w d s => ⟨fun h => ?_, fun h => ⟨State.sleepRefused_taken, fun c => pwrSleep_ends h, fun hnone hseq => ?_, fun hnone hseq => ?_⟩,
      fun h => ⟨pwrWake_wakes h, pwrWake_awake h⟩⟩,
    fun s => ⟨State.sleepRefused_policy, State.sleepRefused_role, fun h => State.sleepRefused_busy (Or.inl h),
      fun h => State.sleepRefused_busy (Or.inr h)⟩,
    fun s => ⟨fun c h => ⟨sleepQuiet_sleeps h, sleepQuietTimeout_abandons h⟩, fun h => ?_, fun h => ?_,
      fun c hm hseq hwait => ⟨wakeSequenceEnd_rest hm hseq hwait, wakeSequenceEnd_crust hm hseq hwait⟩, fun h => ?_, fun c h => ?_, fun h => ?_,
      fun h => congrArg Host.Outcome.next (if_pos h), fun h => congrArg Host.Outcome.next (if_neg h)⟩,
    fun x e s => ⟨sleepWake_starts x, sleepWake_goesOn x, fun hm hx => ?_, fun hm => ⟨?_, ?_⟩, fun he => congrArg Host.Outcome.next (if_pos he)⟩,
    fun e n s => ⟨fun h => ?_, fun hself hnew hpred => ⟨fun hsource => ?_, fun hsource => ?_⟩, asleep_partner, fun h => ?_, awake_unmarks⟩,
    fun e tag s => ⟨fun h => ?_, fun h => wakeBoundExpiry_ends⟩⟩
  · rw [exec_pwrSleep, exec_pwrWake, State.pwrCommand_busy h, State.pwrCommand_busy h]
    exact ⟨rfl, rfl⟩
  · rw [exec_pwrSleep, State.pwrCommand_taken h (by decide) (by decide)]
    exact congrArg Host.Outcome.next (State.sleepCommand_starts (s := s.pwrTaken d w 1) (State.sleepRefused_taken.trans hnone) hseq)
  · rw [exec_pwrSleep, State.pwrCommand_taken h (by decide) (by decide)]
    exact congrArg Host.Outcome.next (State.sleepCommand_goesOn (s := s.pwrTaken d w 1) (State.sleepRefused_taken.trans hnone) hseq)
  · rw [exec_sleepQuiet, exec_sleepQuietTimeout, State.fallAsleep_idle h, s.abandonSleep_idle h]
    exact ⟨rfl, rfl⟩
  · rw [exec_wakeSequenceEnd, State.wakeEnds_waits h]
  · rw [exec_wakeSequenceEnd, State.wakeEnds_idle h]
  · exact exec_wakeTimeout_waking h
  · exact exec_wakeTimeout_idle h
  · rw [exec_sleepWake, if_neg hm, if_neg hx]
  · rw [exec_sleepWake, if_neg hm, if_pos rfl]
  · rw [exec_wake, if_neg (fun h => h rfl), if_neg hm]
  · rw [exec_asleep, State.takeAsleep_known h]
  · rw [exec_asleep, State.takeAsleep_quiet hself hnew hpred hsource]
  · rw [exec_asleep, State.takeAsleep_source hself hnew hpred hsource]
  · rw [exec_awake, State.takeAwake_unknown h]
  · rw [exec_wakeBoundExpiry, State.wakeBound_none h]

end Sys2Proof.Machine

end

section

namespace Sys2Proof.Machine

/-! ### What the end of a command leaves of MAP_ROLE

A cell number is not bounded in the model, so CELL_STATE of a cell that no device has can be the word of MAP_ROLE (0x160008), and the end of
its kernel clears ENGINE_DIE. The end of a command cannot: each of its writes that can reach that word misses the bit, or leaves a bit of its
own below, or comes with a translation walk that is open from then on. -/

/-- The word of MAP_ROLE. -/
def roleReg : Nat := 0x160008

/-- The low four bits of the word of MAP_ROLE. -/
def roleLow : Fld := { F.mapRole_engineDie with lo := 0, width := 4 }

/-- MAP_ROLE shows ENGINE_DIE or a bit of its low four, or a walk is open. -/
def State.RoleMarked (s : State) : Prop := s.getF F.mapRole_engineDie ≠ 0 ∨ s.getF roleLow ≠ 0 ∨ s.xlt.walks ≠ []

/-- The same, of the parts of the state it reads. -/
def roleMarkedOf (c : OrderCode) (r : Table Word) (w : List Walk) : Prop :=
  fieldOf (r.get 0x160008 (resetWord c 0x160008)) 12 1 ≠ 0 ∨ fieldOf (r.get 0x160008 (resetWord c 0x160008)) 0 4 ≠ 0 ∨ w ≠ []

@[simp] theorem State.roleMarked_mk (c d m w st f r i mem t x ce sc sv sr fa hp ma we se p mg o pe) :
    State.RoleMarked ⟨c, d, m, w, st, f, r, i, mem, t, x, ce, sc, sv, sr, fa, hp, ma, we, se, p, mg, o, pe⟩ = roleMarkedOf c r x.walks := (rfl)

@[simp] theorem State.roleMarked_eta (s : State) : roleMarkedOf s.code s.regs s.xlt.walks = s.RoleMarked := (rfl)

@[simp] theorem State.roleMarked_ite (c : Prop) [Decidable c] (a b : State) :
    (if c then a else b).RoleMarked = if c then a.RoleMarked else b.RoleMarked := apply_ite State.RoleMarked c a b

@[simp] theorem State.roleMarked_foldl {α : Type} (f : State → α → State) (h : ∀ s a, (f s a).RoleMarked = s.RoleMarked) (l : List α) :
    ∀ s : State, (l.foldl f s).RoleMarked = s.RoleMarked := foldl_unchanged State.RoleMarked h l

theorem RoleMarked.ite_of {c : Prop} [Decidable c] {a b : State} (ha : a.RoleMarked) (hb : b.RoleMarked) :
    (if c then a else b).RoleMarked := by
  split
  · exact ha
  · exact hb

theorem RoleMarked.foldl {α : Type} {f : State → α → State} (hf : ∀ s a, s.RoleMarked → (f s a).RoleMarked) (l : List α) :
    ∀ {s : State}, s.RoleMarked → (l.foldl f s).RoleMarked := by
  induction l with
  | nil => exact fun hs => hs
  | cons a r ih => exact fun hs => ih (hf _ _ hs)

theorem State.marked_of_snd {α : Type} {p : α × State} {t : State} {a : α} (h : p = (a, t)) : t.RoleMarked = p.2.RoleMarked := by rw [h]
theorem State.marked_of_frame {g : Got} {t : State} (h : g = .frame t) : t.RoleMarked = g.state.RoleMarked := by rw [h]; rfl
theorem State.marked_of_wait {g : Got} {t : State} {b : Nat} (h : g = .wait t b) : t.RoleMarked = g.state.RoleMarked := by rw [h]; rfl
theorem State.marked_of_quota {g : Got} {t : State} (h : g = .quota t) : t.RoleMarked = g.state.RoleMarked := by rw [h]; rfl

/-- A write of another register, or of a field beside the low four bits and ENGINE_DIE. -/
def Fld.missesRole (f : Fld) (i : Nat) : Bool :=
  decide (f.off i ≠ roleReg) || decide (4 ≤ f.lo ∧ f.lo + f.width ≤ 12) || decide (13 ≤ f.lo ∧ f.lo + f.width ≤ 64)

@[simp] theorem State.setF_marked (s : State) (f : Fld) (i v : Nat) (h : f.missesRole i = true) :
    (s.setF f i v).RoleMarked = s.RoleMarked := by
  unfold Fld.missesRole at h
  simp only [Bool.or_eq_true, decide_eq_true_eq] at h
  have hkeeps (g : Fld) (hoff : g.off 0 = roleReg) (hg : g.lo + g.width ≤ 4 ∨ 12 ≤ g.lo ∧ g.lo + g.width ≤ 13) :
      (s.setF f i v).getF g = s.getF g := by
    rcases h with (h | ⟨hlo, hhi⟩) | ⟨hlo, hhi⟩
    · exact s.getF_setF_off v (by rw [hoff]; exact Ne.symm h)
    · exact s.getF_setF_disjoint v (by omega) (by omega)
    · exact s.getF_setF_disjoint v (by omega) (by omega)
  unfold State.RoleMarked
  rw [hkeeps F.mapRole_engineDie rfl (by decide), hkeeps roleLow rfl (by decide)]
  rfl

theorem State.setReg_marked (s : State) (off : Nat) (w : Word) (h : off ≠ roleReg) : (s.setReg off w).RoleMarked = s.RoleMarked := by
  unfold State.RoleMarked State.getF
  rw [s.reg_setReg_other w (h := ?_), s.reg_setReg_other w (h := ?_)]
  · rfl
  · exact Ne.symm h
  · exact Ne.symm h

@[simp] theorem State.addF_marked (s : State) (f : Fld) (i n : Nat) (h : f.missesRole i = true) : (s.addF f i n).RoleMarked = s.RoleMarked :=
  s.setF_marked f i _ h

theorem Fld.missesRole_of_sent {f : Fld} {i : Nat} (h : f.sent i) : f.missesRole i = true := by
  unfold Fld.missesRole
  simp only [Bool.or_eq_true, decide_eq_true_eq]
  obtain rfl | rfl | ⟨-, hoff⟩ := h
  · exact .inl (.inr (by decide))
  · exact .inr (by decide)
  · refine .inl (.inl fun e => ?_)
    rw [e, roleReg] at hoff
    omega

theorem State.marked_sendBlind : SendBlind State.RoleMarked where
  records _ _ _ := rfl
  queue _ _ := rfl
  seq s v := s.setF_marked _ _ v (by decide)
  lost s v := s.setF_marked _ _ v (by decide)
  lostCount s v := s.setF_marked _ _ v (by decide)
  overflow s v := s.setF_marked _ _ v (by decide)
  fab _ _ := rfl
  mgt _ _ := rfl
  out _ _ := rfl
  holds _ _ := rfl
  wakeSent _ _ := rfl
  far s f i v h := s.setF_marked f i v (Fld.missesRole_of_sent h)

@[simp] theorem State.flag_marked (s : State) (f : Fld) (n : Note) (i : Nat) (h : f.missesRole i = true) :
    (s.flag f n i).RoleMarked = s.RoleMarked :=
  (State.marked_sendBlind.toRecordBlind.flag ..).trans (s.setF_marked f i 1 h)

@[simp] theorem State.emit_marked (s : State) (o) : (s.emit o).RoleMarked = s.RoleMarked := (rfl)

@[simp] theorem State.tel_marked (s : State) (f i n) : (s.tel f i n).RoleMarked = s.RoleMarked := (rfl)

@[simp] theorem State.setTx_marked (s : State) (t) : (s.setTx t).RoleMarked = s.RoleMarked := (rfl)

@[simp] theorem State.noteDead_marked (s : State) (d a t) : (s.noteDead d a t).RoleMarked = s.RoleMarked := State.marked_sendBlind.noteDead ..

@[simp] theorem State.out1_marked (s : State) (p avoid i) : (s.out1 p avoid i).RoleMarked = s.RoleMarked := State.marked_sendBlind.out1 ..

@[simp] theorem State.sendPacket_marked (s : State) (p i b) : (s.sendPacket p i b).2.RoleMarked = s.RoleMarked :=
  State.marked_sendBlind.sendPacket ..

@[simp] theorem State.sendMsg_marked (s : State) (d c t m b) : (s.sendMsg d c t m b).RoleMarked = s.RoleMarked :=
  State.marked_sendBlind.sendMsg ..

@[simp] theorem usedF_missesRole (t : Tier) (tn : Tenant) : (usedF t).missesRole tn.toNat = true := by
  have htn := tn.isLt
  have hoff : (usedF t).off tn.toNat ≠ roleReg := by
    cases t
    all_goals
      unfold Fld.off usedF roleReg
      dsimp only [F.tierResvUsed_t0Used, F.tierResvUsed_t1Used]
      omega
  unfold Fld.missesRole
  rw [decide_eq_true hoff]
  rfl

@[simp] theorem freeF_missesRole (t : Tier) : (freeF t).missesRole 0 = true := by cases t <;> decide

@[simp] theorem extents_missesRole (b : Nat) : F.hptBind_extents.missesRole b = true := by
  unfold Fld.missesRole
  rw [Bool.or_eq_true]
  exact .inr (by decide)

/-- The fields that the end of a command writes in one register. -/
@[simp] theorem missesRole_fields :
    F.schedHold_standCause.missesRole 0 = true ∧ F.schedHold_holder.missesRole 0 = true ∧ F.hptCmd_busy.missesRole 0 = true ∧
    F.hptResult_code.missesRole 0 = true ∧ F.hptRecallCount_count.missesRole 0 = true ∧ F.hptRetryCount_count.missesRole 0 = true ∧
    F.hptStatus_dirFull.missesRole 0 = true ∧ F.hptStatus_hostErr.missesRole 0 = true ∧ F.mapStatus_logMiss.missesRole 0 = true ∧
    F.srchStatus_shardDegraded.missesRole 0 = true ∧ F.svcStatus_abortEnd.missesRole 0 = true ∧
    F.svcStatus_degraded.missesRole 0 = true ∧ F.svcStatus_lateEnd.missesRole 0 = true ∧ F.svcStatus_poisoned.missesRole 0 = true ∧
    F.tierOpCmd_busy.missesRole 0 = true ∧ F.tierEvictCount_count.missesRole 0 = true ∧ F.tierSinkCancelCount_count.missesRole 0 = true ∧
    F.tierStatus_quarantined.missesRole 0 = true ∧ F.tierStatus_streamStall.missesRole 0 = true ∧
    F.tierStatus_prefetchLate.missesRole 0 = true ∧ F.tierT2Free_t2Free.missesRole 0 = true ∧
    F.weaveCmd_busy.missesRole 0 = true ∧ F.weaveState_staged.missesRole 0 = true ∧ F.xltFillCount_count.missesRole 0 = true := by
  decide

/-- The code of an error that is not DONE shows in the low four bits. -/
theorem Code.num_pos {code : Code} (h : code ≠ .done) : 0 < code.num ∧ code.num < 16 := by
  cases code
  case done => exact absurd rfl h
  all_goals decide

theorem State.reg_setF_same (s : State) (f : Fld) (i v : Nat) :
    (s.setF f i v).reg (f.off i) = putBits (s.reg (f.off i)) f.lo f.width v := s.reg_setReg_same _ _

theorem State.getF_roleLow_lastCode (s : State) {b : Nat} {code : Code} (hoff : F.hptBindErr_lastCode.off b = roleReg)
    (hcode : code ≠ .done) : (s.setF F.hptBindErr_lastCode b code.num).getF roleLow ≠ 0 := by
  obtain ⟨hpos, hlt⟩ := Code.num_pos hcode
  have hreg := s.reg_setF_same F.hptBindErr_lastCode b code.num
  rw [hoff] at hreg
  change fieldOf ((s.setF F.hptBindErr_lastCode b code.num).reg roleReg) 0 4 ≠ 0
  rw [hreg]
  change ((BitVec.ofNat 64 _).toNat >>> 0) % 2 ^ 4 ≠ 0
  rw [BitVec.toNat_ofNat, Nat.shiftRight_zero]
  dsimp only [F.hptBindErr_lastCode]
  omega

theorem State.getF_roleLow_degraded (s : State) {m : Nat} (hoff : F.svcModel_degraded.off m = roleReg) :
    (s.setF F.svcModel_degraded m 1).getF roleLow ≠ 0 := by
  have hreg := s.reg_setF_same F.svcModel_degraded m 1
  rw [hoff] at hreg
  change fieldOf ((s.setF F.svcModel_degraded m 1).reg roleReg) 0 4 ≠ 0
  rw [hreg]
  change ((BitVec.ofNat 64 _).toNat >>> 0) % 2 ^ 4 ≠ 0
  rw [BitVec.toNat_ofNat, Nat.shiftRight_zero]
  dsimp only [F.svcModel_degraded]
  omega

@[simp] theorem State.onSched_marked (s : State) (g) : (s.onSched g).RoleMarked = s.RoleMarked := (rfl)

@[simp] theorem State.unhold_marked (s : State) (cause) : (s.unhold cause).RoleMarked = s.RoleMarked := (rfl)

@[simp] theorem State.noteHold_marked (s : State) (cause dev) : (s.noteHold cause dev).RoleMarked = s.RoleMarked := by
  simp [State.noteHold]

@[simp] theorem State.sendUp_marked (s : State) (m) : (s.sendUp m).RoleMarked = s.RoleMarked := by
  unfold State.sendUp
  split
  · rfl
  · simp

@[simp] theorem State.sendHold_marked (s : State) (cause) : (s.sendHold cause).RoleMarked = s.RoleMarked := by
  simp [State.sendHold]

@[simp] theorem State.holdFor_marked (s : State) (cause) : (s.holdFor cause).RoleMarked = s.RoleMarked := by
  simp [State.holdFor]

@[simp] theorem State.trackHold_marked (s : State) (cause due bit) (hbit : ∀ f ∈ bit, f.missesRole 0 = true) :
    (s.trackHold cause due bit).RoleMarked = s.RoleMarked := by
  unfold State.trackHold
  split
  · split
    · rfl
    · cases bit with
      | none => simp
      | some f => simp [hbit f rfl]
  · simp

@[simp] theorem State.failoverHolds_marked (s : State) : (s.failoverHolds).RoleMarked = s.RoleMarked := by
  simp [State.failoverHolds]

@[simp] theorem State.onCell_marked (s : State) (g) : (s.onCell g).RoleMarked = s.RoleMarked := (rfl)

@[simp] theorem State.onCellAt_marked (s : State) (c g) : (s.onCellAt c g).RoleMarked = s.RoleMarked := (rfl)

@[simp] theorem State.newTag_marked (s : State) : (s.newTag).2.RoleMarked = s.RoleMarked := (rfl)

@[simp] theorem State.fenceFlow_marked (s : State) (id f) : (s.fenceFlow id f).2.2.RoleMarked = s.RoleMarked := by
  unfold State.fenceFlow
  dsimp only
  split
  · simp
  · split
    · simp
    · split
      · next h => simp [State.marked_of_snd h]
      · next h => simp [State.marked_of_snd h]

@[simp] theorem State.startFence_marked (s : State) (owner classes) : (s.startFence owner classes).2.2.2.RoleMarked = s.RoleMarked := by
  have h (l : List TxFlow) : ∀ acc : Nat × Bool × State, (l.foldl (fun (acc : Nat × Bool × State) f =>
      let (n, d, s) := acc.2.2.fenceFlow s.fab.nextFence f
      (acc.1 + n, acc.2.1 || d, s)) acc).2.2.RoleMarked = acc.2.2.RoleMarked := by
    induction l with
    | nil => simp
    | cons f r ih => intro acc; simp [ih]
  unfold State.startFence
  dsimp only
  split
  · exact h _ _
  · exact h _ _

@[simp] theorem State.startReleases_marked (s : State) : (s.startReleases).RoleMarked = s.RoleMarked := by
  simp [State.startReleases]

@[simp] theorem State.onFab_marked (s : State) (g) : (s.onFab g).RoleMarked = s.RoleMarked := (rfl)

@[simp] theorem State.sendLoose_marked (s : State) (p) : (s.sendLoose p).RoleMarked = s.RoleMarked := by
  simp [State.sendLoose]

@[simp] theorem State.answerFences_marked (s : State) : (s.answerFences).RoleMarked = s.RoleMarked := by
  simp [State.answerFences]

@[simp] theorem State.onWeave_marked (s : State) (g) : (s.onWeave g).RoleMarked = s.RoleMarked := (rfl)

@[simp] theorem State.stageEnds_marked (s : State) : (s.stageEnds).RoleMarked = s.RoleMarked := by
  unfold State.stageEnds
  split
  · rfl
  · simp [State.setReg_marked _ _ _ (show F.weaveResult_code.off 0 ≠ roleReg by decide)]

@[simp] theorem State.refreshHolds_marked (s : State) : (s.refreshHolds).RoleMarked = s.RoleMarked := by
  simp [State.refreshHolds]

@[simp] theorem State.onSvc_marked (s : State) (g) : (s.onSvc g).RoleMarked = s.RoleMarked := (rfl)

@[simp] theorem State.onHpt_marked (s : State) (g) : (s.onHpt g).RoleMarked = s.RoleMarked := (rfl)

@[simp] theorem State.setDir_marked (s : State) (l e) : (s.setDir l e).RoleMarked = s.RoleMarked := (rfl)

@[simp] theorem State.grantCopy_marked (s : State) (l h t ask) : (s.grantCopy l h t ask).RoleMarked = s.RoleMarked := (rfl)

@[simp] theorem State.grantOnDone_marked (s : State) (x1 code) : (s.grantOnDone x1 code).RoleMarked = s.RoleMarked := by
  unfold State.grantOnDone
  split
  · simp
  · rfl

@[simp] theorem State.sendReply_marked (s : State) (p code detail data) : (s.sendReply p code detail data).RoleMarked = s.RoleMarked := by
  simp [State.sendReply]

@[simp] theorem State.moverGot_marked (s : State) (c ch code data) : (s.moverGot c ch code data).RoleMarked = s.RoleMarked := (rfl)

@[simp] theorem State.setHomeOpLine_marked (s : State) (b l v) : (s.setHomeOpLine b l v).RoleMarked = s.RoleMarked := (rfl)

@[simp] theorem State.homeopEnd_marked (s : State) (b l code detail result) : (s.homeopEnd b l code detail result).RoleMarked = s.RoleMarked := by
  unfold State.homeopEnd
  dsimp only
  split <;> simp

/-- An error of a binding leaves its code in the low bits of its register. -/
@[simp] theorem State.bindError_marked {s : State} (b code) (hk : s.RoleMarked) : (s.bindError b code).RoleMarked := by
  unfold State.bindError
  split
  · exact hk
  · next hcode =>
    rw [State.flag_marked _ _ _ _ (by decide)]
    by_cases hoff : F.hptBindErr_lastCode.off b = roleReg
    · refine .inr (.inl ?_)
      rw [State.addF, State.getF_setF_disjoint _ _ (by decide) (by decide)]
      exact s.getF_roleLow_lastCode hoff hcode
    · have hmiss (f : Fld) (h : f.off b = F.hptBindErr_lastCode.off b) : f.missesRole b = true := by
        unfold Fld.missesRole
        rw [h, decide_eq_true hoff]
        rfl
      rwa [State.addF_marked _ _ _ _ (hmiss F.hptBindErr_count rfl), State.setF_marked _ _ _ _ (hmiss F.hptBindErr_lastCode rfl)]

@[simp] theorem State.hostEnd_marked {s : State} (b dpa code data) (hk : s.RoleMarked) : (s.hostEnd b dpa code data).RoleMarked := by
  simp [State.hostEnd, hk]

@[simp] theorem State.answer_marked {s : State} (x1 code detail data) (hk : s.RoleMarked) : (s.answer x1 code detail data).RoleMarked := by
  unfold State.answer
  split <;> simp [hk]

@[simp] theorem State.refuseAccess_marked {s : State} (x1 code detail) (hk : s.RoleMarked) :
    (s.refuseAccess x1 code detail).RoleMarked := by
  simp [State.refuseAccess, hk]

@[simp] theorem State.onTier_marked (s : State) (g) : (s.onTier g).RoleMarked = s.RoleMarked := (rfl)

@[simp] theorem State.setBlk_marked (s : State) (b e) : (s.setBlk b e).RoleMarked = s.RoleMarked := (rfl)

@[simp] theorem State.giveFrames_marked (s : State) (t n) : (s.giveFrames t n).RoleMarked = s.RoleMarked := by
  simp [State.giveFrames]

@[simp] theorem State.setResv_marked (s : State) (r v) : (s.setResv r v).RoleMarked = s.RoleMarked := (rfl)

@[simp] theorem State.uncountFrame_marked (s : State) (tn t resv) : (s.uncountFrame tn t resv).RoleMarked = s.RoleMarked := by
  unfold State.uncountFrame
  split
  · split <;> simp
  · simp

@[simp] theorem State.setPool_marked (s : State) (t n) : (s.setPool t n).RoleMarked = s.RoleMarked := (rfl)

@[simp] theorem State.freeRun_marked (s : State) (t n) : (s.freeRun t n).RoleMarked = s.RoleMarked := by
  simp [State.freeRun]

@[simp] theorem State.makeReady_marked (s : State) (ws) : (s.makeReady ws).RoleMarked = s.RoleMarked := (rfl)

@[simp] theorem State.wakeVictim_marked (s : State) (b) : (s.wakeVictim b).RoleMarked = s.RoleMarked := (rfl)

@[simp] theorem State.dropCopy_marked (s : State) (b t) : (s.dropCopy b t).RoleMarked = s.RoleMarked := by
  unfold State.dropCopy
  split
  · simp
    split <;> simp
  · simp
    split <;> simp

@[simp] theorem State.opResult_marked (s : State) (b code) : (s.opResult b code).RoleMarked = s.RoleMarked := by
  simp [State.opResult, State.setReg_marked _ _ _ (show F.tierOpResult_code.off 0 ≠ roleReg by decide)]

@[simp] theorem State.opEnd_marked (s : State) (op b code) : (s.opEnd op b code).RoleMarked = s.RoleMarked := by
  simp [State.opEnd]

@[simp] theorem State.tierEvent_marked (s : State) (e) : (s.tierEvent e).RoleMarked = s.RoleMarked := (rfl)

@[simp] theorem State.quarantine_marked (s : State) (b) : (s.quarantine b).RoleMarked = s.RoleMarked := by
  simp [State.quarantine]

@[simp] theorem State.sendRecall_marked (s : State) (h sa) : (s.sendRecall h sa).RoleMarked = s.RoleMarked := by
  unfold State.sendRecall
  dsimp only
  split
  · simp
  · simp

@[simp] theorem State.recallHolders_marked (s : State) (l hs) : (s.recallHolders l hs).RoleMarked = s.RoleMarked := by
  simp [State.recallHolders]

@[simp] theorem State.telServed_marked (s : State) (a t n) : (s.telServed a t n).RoleMarked = s.RoleMarked := by
  simp [State.telServed]

@[simp] theorem State.waitAtBlock_marked (s : State) (b a) : (s.waitAtBlock b a).RoleMarked = s.RoleMarked := (rfl)

@[simp] theorem State.cancelSink_marked (s : State) (b t) : (s.cancelSink b t).RoleMarked = s.RoleMarked := by
  simp [State.cancelSink]

@[simp] theorem State.beginRefetch_marked (s : State) (b srcs) : (s.beginRefetch b srcs).RoleMarked = s.RoleMarked := by
  simp [State.beginRefetch]

@[simp] theorem State.copyFailed_marked (s : State) (b t) : (s.copyFailed b t).RoleMarked = s.RoleMarked := by
  simp [State.copyFailed]

@[simp] theorem State.evictCopy_marked (s : State) (b t) : (s.evictCopy b t).2.RoleMarked = s.RoleMarked := by
  unfold State.evictCopy
  simp
  split
  · simp
  · simp

@[simp] theorem State.takeFrames_marked (s : State) (t n) : (s.takeFrames t n).RoleMarked = s.RoleMarked := by
  simp [State.takeFrames]

theorem State.allocT1_marked {n s tried} {t : State} (h : State.allocT1 n s tried = some t) : t.RoleMarked = s.RoleMarked := by
  induction n generalizing s tried with
  | zero => cases h
  | succ n ih =>
    unfold State.allocT1 at h
    split at h
    · cases h; simp
    · split at h
      · cases h
      · split at h
        · simpa using ih h
        · exact ih h

@[simp] theorem State.countFrame_marked (s : State) (tn t resv) : (s.countFrame tn t resv).RoleMarked = s.RoleMarked := by
  unfold State.countFrame
  split
  · split <;> simp
  · simp

theorem State.evictLive_marked {s t : State} {b} (h : s.evictLive b = some t) : t.RoleMarked = s.RoleMarked := by
  unfold State.evictLive at h
  dsimp only at h
  split at h
  · split at h
    · cases h
    · next h1 => cases h; simp [State.allocT1_marked h1]
  · cases h

@[simp] theorem State.allocFrame_marked (n s t tried) : (State.allocFrame n s t tried).state.RoleMarked = s.RoleMarked := by
  induction n generalizing s tried with
  | zero => simp [State.allocFrame]
  | succ n ih =>
    unfold State.allocFrame
    split
    · simp
    · split
      · simp
      · split
        · next h => simp [ih, State.marked_of_snd h]
        · next h => simp [State.marked_of_snd h]
      · split
        · next h => simp [State.evictLive_marked h]
        · exact ih _ _

@[simp] theorem State.alloc_marked (s : State) (t) : (s.alloc t).state.RoleMarked = s.RoleMarked := by
  simp [State.alloc]

@[simp] theorem State.allocRunFrames_marked (n got s t) : (State.allocRunFrames n got s t).state.RoleMarked = s.RoleMarked := by
  induction n generalizing s got with
  | zero => simp [State.allocRunFrames]
  | succ n ih =>
    unfold State.allocRunFrames
    split
    · next h => simp [ih, State.marked_of_frame h]
    · next h => simp [State.marked_of_wait h]
    · next h => simp [State.marked_of_quota h]

@[simp] theorem State.allocRun_marked (s : State) (t n) : (s.allocRun t n).state.RoleMarked = s.RoleMarked := by
  unfold State.allocRun
  simp
  split
  · next h => simp [State.marked_of_frame h]
  · simp

@[simp] theorem State.allocCopy_marked (s : State) (b t packed) : (s.allocCopy b t packed).state.RoleMarked = s.RoleMarked := by
  simp [State.allocCopy]

@[simp] theorem State.startRise_marked (s : State) (b t packed) : (s.startRise b t packed).state.RoleMarked = s.RoleMarked := by
  unfold State.startRise
  split
  · next h => simp [State.marked_of_frame h]
  · next h => simp [State.marked_of_wait h]
  · next h => simp [State.marked_of_quota h]

@[simp] theorem State.readSealed_marked {s : State} (b e x3 n) (hk : s.RoleMarked) : (s.readSealed b e x3 n).RoleMarked := by
  unfold State.readSealed
  split
  · split
    · simp [hk]
    · split
      · simp [hk]
      · split
        · simp [hk]
        · split
          · next h => simp [State.marked_of_frame h, hk]
          · next h => simp [State.marked_of_wait h, hk]
          · next h => simp [State.marked_of_quota h, hk]
  · split
    · simp [hk]
    · split
      · simp [hk]
      · split
        · simp [hk]
        · split
          · next h => simp [State.marked_of_frame h, hk]
          · next h => simp [State.marked_of_wait h, hk]
          · next h => simp [State.marked_of_quota h, hk]

@[simp] theorem State.waitForVictim_marked (s : State) (v a) : (s.waitForVictim v a).RoleMarked = s.RoleMarked := (rfl)

theorem State.newLive_marked {s : State} (tn a) {g : State → Tier → State}
    (hg : ∀ u t, u.RoleMarked → (g u t).RoleMarked) (hk : s.RoleMarked) : (s.newLive tn a g).RoleMarked := by
  have hT1 (s : State) (hk : s.RoleMarked) : (if s.mayCount tn .t1 a.resv then
      match s.alloc .t1 with
      | .frame s => g (s.countFrame tn .t1 a.resv) .t1
      | .wait s v => s.waitForVictim v a
      | .quota s => s.refuseAccess a .quota
      else s.refuseAccess a .quota).RoleMarked := by
    split
    · split
      · next h => exact hg _ _ (by simp [State.marked_of_frame h, hk])
      · next h => exact by simp [State.marked_of_wait h, hk]
      · next h => exact by simp [State.marked_of_quota h, hk]
    · exact by simp [hk]
  unfold State.newLive
  dsimp only
  split
  · split
    · next h => exact hg _ _ (by simp [State.marked_of_frame h, hk])
    · next h => exact by simp [State.marked_of_wait h, hk]
    · next h => exact hT1 _ (by simp [State.marked_of_quota h, hk])
  · exact hT1 _ hk

@[simp] theorem State.compact_marked (s : State) (d) : (s.compact d).RoleMarked = s.RoleMarked := (rfl)

@[simp] theorem State.catAppend_marked (s : State) (d b op sectors lba) : (s.catAppend d b op sectors lba).RoleMarked = s.RoleMarked := by
  simp [State.catAppend]

@[simp] theorem State.setImage_marked (s : State) (i v) : (s.setImage i v).RoleMarked = s.RoleMarked := (rfl)

@[simp] theorem State.setDrive_marked (s : State) (d v) : (s.setDrive d v).RoleMarked = s.RoleMarked := (rfl)

@[simp] theorem State.freeT2_marked (s : State) (d st n) : (s.freeT2 d st n).RoleMarked = s.RoleMarked := by
  unfold State.freeT2
  split
  · rfl
  · simp

@[simp] theorem State.dropRef_marked (s : State) (i) : (s.dropRef i).RoleMarked = s.RoleMarked := by
  unfold State.dropRef
  split
  · rfl
  · simp

@[simp] theorem State.unbindImage_marked (s : State) (b) : (s.unbindImage b).RoleMarked = s.RoleMarked := by
  unfold State.unbindImage
  split
  · rfl
  · split <;> simp

@[simp] theorem State.onMap_marked (s : State) (g) : (s.onMap g).RoleMarked = s.RoleMarked := (rfl)

@[simp] theorem State.sendMirror_marked (s : State) (epoch item) : (s.sendMirror epoch item).RoleMarked = s.RoleMarked := by
  simp [State.sendMirror]

@[simp] theorem State.tellTaker_marked (s : State) (home off data mask) : (s.tellTaker home off data mask).RoleMarked = s.RoleMarked := by
  unfold State.tellTaker
  simp
  split
  · simp
  · rfl

@[simp] theorem State.mirrorStore_marked (s : State) (off data mask) : (s.mirrorStore off data mask).RoleMarked = s.RoleMarked := by
  simp [State.mirrorStore]

@[simp] theorem State.writeLive_marked {s : State} (b e x3) (hk : s.RoleMarked) : (s.writeLive b e x3).RoleMarked := by
  unfold State.writeLive
  split
  · exact hk
  · split
    · simp
      split <;> simp [hk]
    · simp
      split <;> simp [hk]
  · split
    · simp [hk]
    · split <;> simp [hk]

@[simp] theorem State.writeSealed_marked {s : State} (b e a) (hk : s.RoleMarked) :
    (s.writeSealed b e a).RoleMarked := by
  unfold State.writeSealed
  dsimp only
  split
  · simp [hk]
  · split
    · split
      · split <;> simp [hk]
      · simp [hk]
    · exact State.newLive_marked _ _ (fun u t hu => by simp [hu]) hk

@[simp] theorem State.sealDone_marked (s : State) (b owner code) : (s.sealDone b owner code).RoleMarked = s.RoleMarked := by
  unfold State.sealDone
  split
  · simp
  · simp

@[simp] theorem State.abortSeal_marked (s : State) (b code) : (s.abortSeal b code).RoleMarked = s.RoleMarked := by
  unfold State.abortSeal
  simp
  split
  · rfl
  · split
    · simp [*]
    · split <;> simp

@[simp] theorem State.tierAccess_live_marked {s : State} (a : Access) (b e n) (hk : s.RoleMarked) :
    (State.tierAccess.live a s b e n).RoleMarked := by
  unfold State.tierAccess.live
  dsimp only
  split <;> simp [hk]

@[simp] theorem State.tierAccess_marked {s : State} (a) (hk : s.RoleMarked) : (s.tierAccess a).RoleMarked := by
  unfold State.tierAccess
  dsimp only
  split
  case h_3 => exact State.newLive_marked _ _ (fun u t hu => by simp [hu]) hk
  all_goals simp [hk]

@[simp] theorem State.lineAccess_marked {s : State} (a) (hk : s.RoleMarked) : (s.lineAccess a).RoleMarked := by
  unfold State.lineAccess
  generalize ha : s.copyAsked a = ask
  dsimp only
  refine RoleMarked.ite_of (by simp [hk]) ?_
  split
  · refine RoleMarked.ite_of ?_ (by simp [hk])
    split <;> simp [hk]
  · refine RoleMarked.ite_of ?_ ?_
    · split
      · exact hk
      · simp [hk]
    · split
      · split <;> simp [hk]
      · simp [hk]

@[simp] theorem State.homeAccess_marked {s : State} (a) (hk : s.RoleMarked) : (s.homeAccess a).RoleMarked := by
  unfold State.homeAccess
  dsimp only
  refine RoleMarked.ite_of (RoleMarked.ite_of hk (by simp [hk])) (RoleMarked.ite_of (by simp [hk]) (RoleMarked.ite_of (by simp [hk])
    (RoleMarked.ite_of (by simp [hk]) ?_)))
  split <;> simp [hk]

@[simp] theorem State.storeOpen_marked {s : State} (t addr n resv) (hk : s.RoleMarked) : (s.storeOpen t addr n resv).RoleMarked := by
  unfold State.storeOpen
  refine RoleMarked.foldl (fun s a hk => ?_) _ ?_
  · simp
    split
    · exact hk
    · simp [hk]
  · exact hk

@[simp] theorem State.appendKv_marked {s : State} (c p) (hk : s.RoleMarked) : (s.appendKv c p).RoleMarked := by
  unfold State.appendKv
  refine RoleMarked.foldl (fun s a hk => ?_) _ ?_
  · simp [hk]
  · exact hk

@[simp] theorem State.appendKvs_marked {s : State} (c p n) (hk : s.RoleMarked) : (s.appendKvs c p n).RoleMarked := by
  unfold State.appendKvs
  refine RoleMarked.foldl (fun s a hk => ?_) _ ?_
  · simp [hk]
  · exact hk

@[simp] theorem State.advanceShare_marked {s : State} (c) (hk : s.RoleMarked) : (s.advanceShare c).RoleMarked := by
  simp [State.advanceShare, hk]

@[simp] theorem State.setCtx_marked (s : State) (n c) : (s.setCtx n c).RoleMarked = s.RoleMarked := (rfl)

@[simp] theorem State.ctxEnd_marked (s : State) (n code detail) : (s.ctxEnd n code detail).RoleMarked = s.RoleMarked := by
  unfold State.ctxEnd
  split
  · rfl
  · simp

@[simp] theorem State.formRecord_marked (s : State) (n c isEnd first tokens count code detail) :
    (s.formRecord n c isEnd first tokens count code detail).RoleMarked = s.RoleMarked := by
  unfold State.formRecord
  exact State.sendMirror_marked _ _ _

@[simp] theorem State.formFor_marked (s : State) (n c) : (s.formFor n c).RoleMarked = s.RoleMarked := by
  unfold State.formFor
  split
  · simp
    split <;> simp
  · simp
    split <;> simp

@[simp] theorem State.formRecords_marked (s : State) : (s.formRecords).RoleMarked = s.RoleMarked := by
  simp [State.formRecords]

@[simp] theorem State.setMirror_marked (s : State) (d m) : (s.setMirror d m).RoleMarked = s.RoleMarked := (rfl)

@[simp] theorem State.mirrorLine_marked (s : State) (d t addr) : (s.mirrorLine d t addr).RoleMarked = s.RoleMarked := by
  unfold State.mirrorLine
  split <;> simp

@[simp] theorem State.appendMirrors_marked (s : State) (c p n) : (s.appendMirrors c p n).RoleMarked = s.RoleMarked := by
  unfold State.appendMirrors
  exact State.roleMarked_foldl _ (fun s a => by simp) _ _

@[simp] theorem State.advanceOwn_marked {s : State} (n c result) (hk : s.RoleMarked) : (s.advanceOwn n c result).RoleMarked := by
  unfold State.advanceOwn
  dsimp only
  split
  · exact hk
  · split
    · split
      · simp [hk]
      · split
        · split <;> simp [hk]
        · split <;> simp [hk]
    · split
      · simp [hk]
      · split
        · split <;> simp [hk]
        · split <;> simp [hk]

@[simp] theorem State.serviceDone_marked {s : State} (m parts) (hk : s.RoleMarked) : (s.serviceDone m parts).RoleMarked := by
  unfold State.serviceDone
  split
  · simp [hk]
  · refine RoleMarked.foldl (fun s a hk => ?_) _ ?_
    · simp [hk]
    · split
      · refine RoleMarked.foldl (fun s a hk => ?_) _ ?_
        · simp [hk]
        · refine RoleMarked.foldl (fun s a hk => ?_) _ ?_
          · simp [hk]
          · exact hk
      · refine RoleMarked.foldl (fun s a hk => ?_) _ ?_
        · simp [hk]
        · refine RoleMarked.foldl (fun s a hk => ?_) _ ?_
          · simp [hk]
          · exact hk

@[simp] theorem State.closeSteps_marked {s : State} (hk : s.RoleMarked) : (s.closeSteps).RoleMarked := by
  unfold State.closeSteps
  refine RoleMarked.foldl (fun s a hk => ?_) _ ?_
  · simp [hk]
  · exact hk

@[simp] theorem State.poisonRegion_marked (s : State) (b) : (s.poisonRegion b).RoleMarked = s.RoleMarked := by
  simp [State.poisonRegion]

@[simp] theorem State.setShardSlot_marked (s : State) (i v) : (s.setShardSlot i v).RoleMarked = s.RoleMarked := (rfl)

@[simp] theorem State.degradeShards_marked (s : State) (b) : (s.degradeShards b).RoleMarked = s.RoleMarked := by
  simp [State.degradeShards]

@[simp] theorem State.hptEnd_marked (s : State) (code) : (s.hptEnd code).RoleMarked = s.RoleMarked := by
  simp [State.hptEnd]

@[simp] theorem State.createSealEnd_marked (s : State) (code) : (s.createSealEnd code).RoleMarked = s.RoleMarked := by
  simp [State.createSealEnd]

/-- A degraded model leaves its bit in the low bits of its register. -/
@[simp] theorem State.degradeModel_marked {s : State} (m) (hk : s.RoleMarked) : (s.degradeModel m).RoleMarked := by
  unfold State.degradeModel
  dsimp only
  rw [State.roleMarked_foldl _ (fun u n => by simp), State.flag_marked _ _ _ _ (by decide)]
  by_cases hoff : F.svcModel_degraded.off m = roleReg
  · exact .inr (.inl (s.getF_roleLow_degraded hoff))
  · rwa [State.setF_marked]
    unfold Fld.missesRole
    rw [decide_eq_true hoff]
    rfl

@[simp] theorem State.tierReports_marked {s : State} (e) (hk : s.RoleMarked) : (s.tierReports e).RoleMarked := by
  unfold State.tierReports
  split
  · simpa using RoleMarked.foldl (fun u m hu => u.degradeModel_marked m hu) _ hk
  · simp [hk]
  · exact hk

@[simp] theorem State.takeReports_marked {s : State} (hk : s.RoleMarked) : (s.takeReports).RoleMarked := by
  unfold State.takeReports
  exact RoleMarked.foldl (fun u e hu => by simp [hu]) _ (by simp [hk])

/-- A change of the translation that keeps the open walks. -/
@[simp] theorem State.onXlt_marked (s : State) {g : XltS → XltS} (h : (g s.xlt).walks = s.xlt.walks) :
    (s.onXlt g).RoleMarked = s.RoleMarked := by
  unfold State.RoleMarked
  change (_ ∨ _ ∨ (g s.xlt).walks ≠ []) = _
  rw [h]
  rfl

/-- A walk that is opened is open. -/
@[simp] theorem State.openWalk_marked {s : State} (die t g cell ch) (_ : s.RoleMarked) : (s.openWalk die t g cell ch).RoleMarked := by
  unfold State.openWalk
  split
  · next h =>
    refine .inr (.inr fun hnil => ?_)
    obtain ⟨w, hw, -⟩ := List.any_eq_true.mp h
    have hlen := congrArg List.length hnil
    rw [show (s.onXlt _).xlt.walks = updWhere _ _ s.xlt.walks from rfl, updWhere, List.length_map] at hlen
    rw [List.length_eq_zero_iff.mp hlen] at hw
    cases hw
  · exact .inr (.inr (List.append_ne_nil_of_right_ne_nil _ (List.cons_ne_nil _ _)))

@[simp] theorem State.setRun_marked (s : State) (c ch r) : (s.setRun c ch r).RoleMarked = s.RoleMarked := (rfl)

@[simp] theorem State.sramStore_marked (s : State) (c d i ls) : (s.sramStore c d i ls).RoleMarked = s.RoleMarked := (rfl)

@[simp] theorem State.moverTake_marked (s : State) (c ch r code data) : (s.moverTake c ch r code data).RoleMarked = s.RoleMarked := by
  simp [State.moverTake]

@[simp] theorem State.moverSend_marked (s : State) (c ch r tag p n key) : (s.moverSend c ch r tag p n key).RoleMarked = s.RoleMarked := by
  unfold State.moverSend
  split
  · split
    · next h _ _ => simp [State.marked_of_snd h]
    · next h _ _ _ => simp [State.marked_of_snd h]
  · next h => simp [State.marked_of_snd h]

@[simp] theorem State.xltHit_marked (s : State) (cell t g) : (s.xltHit cell t g).2.RoleMarked = s.RoleMarked := by
  unfold State.xltHit
  split
  · simp
    split <;> simp
  · simp
    split <;> rfl

@[simp] theorem State.moverPacket_marked (s : State) (c ch r kind cls dst sa n data) : (s.moverPacket c ch r kind cls dst sa n data).2.2.RoleMarked = s.RoleMarked := (rfl)

@[simp] theorem State.addReader_marked (s : State) (b t) : (s.addReader b t).RoleMarked = s.RoleMarked := (rfl)

@[simp] theorem State.readersDone_marked (s : State) (b t) : (s.readersDone b t).RoleMarked = s.RoleMarked := by
  simp [State.readersDone]

@[simp] theorem State.endReader_marked (s : State) (b t) : (s.endReader b t).RoleMarked = s.RoleMarked := by
  simp [State.endReader]

@[simp] theorem State.readFrom_marked (s : State) (c ch b) : (s.readFrom c ch b).RoleMarked = s.RoleMarked := by
  unfold State.readFrom
  split
  · rfl
  · simp
    split
    · split <;> simp
    · split <;> simp

@[simp] theorem State.fillPromote_marked (s : State) (b) : (s.fillPromote b).RoleMarked = s.RoleMarked := by
  unfold State.fillPromote
  split
  · next h => simp [State.marked_of_frame h]
  · next h => simp [State.marked_of_wait h]
  · split
    · next h _ => simp [State.marked_of_quota h]
    · split
      · next h5 _ _ _ h1 => simp [State.marked_of_quota h5, State.marked_of_frame h1]
      · next h6 _ _ _ _ h1 => simp [State.marked_of_quota h6, State.marked_of_wait h1]
      · next h5 _ _ _ h1 => simp [State.marked_of_quota h5, State.marked_of_quota h1]

@[simp] theorem State.residencyFault_marked (s : State) (die t g block cell ch) :
    (s.residencyFault die t g block cell ch).RoleMarked = s.RoleMarked := by
  unfold State.residencyFault
  split
  · simp
  · simp
    split
    · simp
    · simp

@[simp] theorem State.moverLocal_marked {s : State} (c ch r sa key) (hk : s.RoleMarked) : (s.moverLocal c ch r sa key).RoleMarked := by
  unfold State.moverLocal
  simp
  split
  · exact hk
  · split
    · simp [hk]
    · split <;> simp [hk]

@[simp] theorem State.moverLine_marked {s : State} (c ch r) (hk : s.RoleMarked) : (s.moverLine c ch r).RoleMarked := by
  unfold State.moverLine
  simp
  split
  · next h => simp [State.marked_of_snd h, hk]
  · split
    · next h _ _ _ => simp [State.marked_of_snd h, hk]
    · next h _ _ _ _ => simp [State.marked_of_snd h, hk]

@[simp] theorem State.addFlag_marked (s : State) (c i) : (s.addFlag c i).RoleMarked = s.RoleMarked := by
  simp [State.addFlag]

@[simp] theorem State.cellPutHere_marked (s : State) (tn die cell off data) : (s.cellPutHere tn die cell off data).2.RoleMarked = s.RoleMarked := by
  unfold State.cellPutHere
  split
  · rfl
  · simp
    split <;> simp

@[simp] theorem State.moverCellPut_marked (s : State) (c ch r) : (s.moverCellPut c ch r).RoleMarked = s.RoleMarked := by
  unfold State.moverCellPut
  simp
  split
  · next h => simp [State.marked_of_snd h]
  · next h => simp [State.marked_of_snd h]

@[simp] theorem State.moverCopy_marked (s : State) (c ch r) : (s.moverCopy c ch r).RoleMarked = s.RoleMarked := (rfl)

theorem State.moverMove_marked {s t : State} {c ch} (hk : s.RoleMarked) (h : s.moverMove c ch = some t) :
    t.RoleMarked := by
  unfold State.moverMove at h
  split at h
  · cases h
  · split at h
    · cases h
    · split at h
      · cases h; simp [hk]
      · dsimp only at h
        split at h
        · cases h; simp [hk]
        · split at h
          · cases h; simp [hk]
          · split at h
            · cases h; simp [hk]
            · cases h; simp [hk]

@[simp] theorem State.moverRun_marked {s : State} (n c ch) (hk : s.RoleMarked) :
    (State.moverRun n s c ch).RoleMarked := by
  induction n generalizing s with
  | zero => exact hk
  | succ n ih =>
    unfold State.moverRun
    split
    · exact hk
    · next h => exact ih (State.moverMove_marked hk h)

@[simp] theorem State.moverPump_marked {s : State} (c ch) (hk : s.RoleMarked) : (s.moverPump c ch).RoleMarked := by
  simp [State.moverPump, hk]

@[simp] theorem State.pumpMovers_marked {s : State} (hk : s.RoleMarked) : (s.pumpMovers).RoleMarked := by
  unfold State.pumpMovers
  refine RoleMarked.foldl (fun s a hk => ?_) _ ?_
  · refine RoleMarked.foldl (fun s a hk => ?_) _ ?_
    · split
      · simp [hk]
      · exact hk
    · exact hk
  · exact hk

@[simp] theorem State.riseQuota_marked (s : State) (b t) : (s.riseQuota b t).RoleMarked = s.RoleMarked := by
  simp [State.riseQuota]

@[simp] theorem State.startMigration_marked (s : State) (b) : (s.startMigration b).state.RoleMarked = s.RoleMarked := by
  unfold State.startMigration
  simp
  split
  · next h => simp [State.marked_of_frame h]
  · simp

@[simp] theorem State.runWork_marked {s : State} (w) (hk : s.RoleMarked) : (s.runWork w).RoleMarked := by
  unfold State.runWork
  split
  · split
    · split
      · next h => simp [State.marked_of_frame h, hk]
      · next h => simp [State.marked_of_wait h, hk]
      · next h => simp [State.marked_of_quota h, hk]
    · simp [hk]
  · simp [hk]
  · dsimp only
    split
    · split
      · next h => simp [State.marked_of_frame h, hk]
      · next h => simp [State.marked_of_wait h, hk]
      · next h => exact RoleMarked.foldl (fun u a hu => by simp [hu]) _ (by simp [State.marked_of_quota h, hk])
    · simp [hk]

@[simp] theorem State.settle_marked {s : State} (n) (hk : s.RoleMarked) : (s.settle n).RoleMarked := by
  induction n generalizing s with
  | zero => exact hk
  | succ n ih =>
    unfold State.settle
    split
    · exact hk
    · exact ih (by simp [hk])

@[simp] theorem State.settleAll_marked {s : State} (hk : s.RoleMarked) : (s.settleAll).RoleMarked := by
  simp [State.settleAll, hk]

@[simp] theorem State.sendHomeReply_marked (s : State) (r) : (s.sendHomeReply r).RoleMarked = s.RoleMarked := by
  simp [State.sendHomeReply]

@[simp] theorem State.replyProgress_marked (s : State) : (s.replyProgress).RoleMarked = s.RoleMarked := by
  simp [State.replyProgress]

@[simp] theorem State.rangeProgress_marked (s : State) : (s.rangeProgress).RoleMarked = s.RoleMarked := by
  simp [State.rangeProgress]

@[simp] theorem State.dropEntry_marked (s : State) (k) : (s.dropEntry k).RoleMarked = s.RoleMarked := (rfl)

@[simp] theorem State.dcFinish_marked (s : State) (o) : (s.dcFinish o).RoleMarked = s.RoleMarked := by
  simp [State.dcFinish]

@[simp] theorem State.dcProgress_marked (s : State) : (s.dcProgress).RoleMarked = s.RoleMarked := by
  simp [State.dcProgress]

@[simp] theorem State.setCommons_marked (s : State) (c v) : (s.setCommons c v).RoleMarked = s.RoleMarked := (rfl)

theorem State.allocT2_marked {s t : State} {b n d st} (h : s.allocT2 b n = some (d, st, t)) : t.RoleMarked = s.RoleMarked := by
  unfold State.allocT2 at h
  obtain ⟨e, -, he⟩ := Option.map_eq_some_iff.mp h
  cases he
  simp

@[simp] theorem State.newImage_marked (s : State) (v) : (s.newImage v).2.RoleMarked = s.RoleMarked := (rfl)

theorem State.makeImage_marked {s t : State} {b p elem kind tn version i}
    (h : s.makeImage b p elem kind tn version = some (i, t)) : t.RoleMarked = s.RoleMarked := by
  unfold State.makeImage at h
  obtain ⟨⟨d, st, u⟩, hu, he⟩ := Option.map_eq_some_iff.mp h
  rw [← State.allocT2_marked hu, ← State.newImage_marked u, congrArg Prod.snd he]

@[simp] theorem State.beginSeal_marked (s : State) (b j) : (s.beginSeal b j).RoleMarked = s.RoleMarked := by
  unfold State.beginSeal
  simp
  split
  · simp
  · next h => simp [State.makeImage_marked h]

@[simp] theorem State.bindImage_marked (s : State) (b i) : (s.bindImage b i).RoleMarked = s.RoleMarked := by
  unfold State.bindImage
  split
  · rfl
  · simp

theorem State.requestSeal_marked {s t : State} {b tn j} (h : s.requestSeal b tn j = some t) : t.RoleMarked = s.RoleMarked := by
  unfold State.requestSeal at h
  dsimp only at h
  split at h
  · split at h
    · cases h; simp
    · next h1 => cases h; simp [State.makeImage_marked h1]
  · cases h; simp
  · split at h
    · cases h; simp
    · cases h
  · cases h

@[simp] theorem State.setHomes_marked (s : State) (first n r) : (s.setHomes first n r).RoleMarked = s.RoleMarked := by
  unfold State.setHomes
  exact State.roleMarked_foldl _ (fun u k => u.onXlt_marked rfl) _ _

@[simp] theorem State.addRefs_marked (s : State) (is) : (s.addRefs is).RoleMarked = s.RoleMarked := by
  unfold State.addRefs
  refine State.roleMarked_foldl _ (fun s a => ?_) _ _
  split <;> simp

@[simp] theorem State.requestSeal_getD_marked (s : State) (b tn j) : ((s.requestSeal b tn j).getD s).RoleMarked = s.RoleMarked := by
  cases h : s.requestSeal b tn j with
  | none => rfl
  | some t => exact State.requestSeal_marked h

@[simp] theorem State.createProgress_marked (s : State) : s.createProgress.RoleMarked = s.RoleMarked := by
  unfold State.createProgress
  split
  · rfl
  · next c _ =>
    dsimp only
    refine (State.roleMarked_ite _ _ _).trans (ite_eq_of_both rfl ?_)
    refine (State.roleMarked_ite _ _ _).trans (ite_eq_of_both (by simp) ?_)
    refine (State.roleMarked_ite _ _ _).trans (ite_eq_of_both (by simp) (by simp))

@[simp] theorem State.hostProgress_marked (s : State) : (s.hostProgress).RoleMarked = s.RoleMarked := by
  simp [State.hostProgress]

@[simp] theorem State.round_marked {s : State} (hk : s.RoleMarked) : (s.round).RoleMarked := by
  have hreported := State.takeReports_marked (State.settleAll_marked hk)
  simp [State.round, hreported]

@[simp] theorem State.rounds_marked {s : State} (n) (hk : s.RoleMarked) : (s.rounds n).RoleMarked := by
  induction n generalizing s with
  | zero => exact hk
  | succ n ih => exact RoleMarked.ite_of (by simp [hk]) (ih (by simp [hk]))

@[simp] theorem State.finish_marked {s : State} (hk : s.RoleMarked) : (s.finish).RoleMarked := by
  simp [State.finish, hk]
/-! ### Refuting O54 -/

/-- An OZ880 in SERVICE whose only cell has the number 114561: its CELL_STATE lies at 0x160008, the word of MAP_ROLE. A track's kernel is on
it. -/
def sharedWord : State :=
  { State.reset with
    mode := .service, code := .oz880
    cell := { State.reset.cell with cells := [(114561, { Cell.fresh with track := some 0 })] } }

/-- Rand die 0 fails: Rand die 1 takes over, and the Crust entry that follows ends the cell's kernel, whose write clears ENGINE_DIE. -/
theorem sharedWord_cleared : ¬((sharedWord.dieFault .rand 0).finish).RoleMarked := by
  unfold State.RoleMarked
  have h : ((sharedWord.dieFault .rand 0).finish.getF F.mapRole_engineDie == 0 &&
      (sharedWord.dieFault .rand 0).finish.getF roleLow == 0 &&
      (sharedWord.dieFault .rand 0).finish.xlt.walks.isEmpty) = true := by decide +kernel
  simpa [and_assoc] using h

theorem finish_of_exec_dieFault {k : DieKind} {d : Nat} {s u : State} (hdie : s.code.hasDie k d = true)
    (h : exec (.dieFault k d) s = .next u.finish) : (s.dieFault k d).finish = u.finish := by
  have hexec : exec (.dieFault k d) s = .next (s.dieFault k d).finish := if_pos hdie
  exact Host.Outcome.next.inj (hexec.symm.trans h)

/-- Refutes O54: the statement says that after the failure of Rand die 0 the state has ENGINE_DIE 1 before the command's end. Nothing in the
model bounds a cell's number, and the end of the kernel on a cell whose CELL_STATE lies at MAP_ROLE clears the bit; no end of a command
clears it again once it is 1, so no state before the end can have it. -/
theorem not_dieAndThermalComplete : ¬ Obligations.DieAndThermalComplete := by
  unfold Obligations.DieAndThermalComplete
  rintro ⟨hfault, -⟩
  obtain ⟨-, -, hserved⟩ := hfault .rand 0 sharedWord
  obtain ⟨hcrust, -⟩ := hserved rfl (by decide) rfl (.inl rfl)
  obtain ⟨u, hexec, -, -, -, -, hrand⟩ := hcrust (.inr ⟨1, by decide, rfl, by decide⟩)
  obtain ⟨-, hdie, -⟩ := hrand rfl rfl
  have hmarked : u.RoleMarked := .inl (by rw [hdie]; decide)
  refine sharedWord_cleared ?_
  rw [finish_of_exec_dieFault rfl hexec]
  exact State.finish_marked hmarked

end Sys2Proof.Machine

end
